-- ==== Sys2Proof/Machine/Registers.lean ====
section
/-! DEFINITION. The register map: every register array of the spec's field tables, its instances and its
fields (bits, access class, reset form, permitted range). The offsets inside a block's window are not in the
manual (R820, R822: the block's directory gives them), so a register is named here, not numbered. -/

namespace Sys2Proof.Machine

/-- Access codes of a field (00_scope, R4 and the access code table). -/
inductive Acc where
  | ro | l | s | h | w1c | w1s | rc
deriving DecidableEq, Repr

/-- The three forms of the Reset column (00_scope R15). -/
inductive ResetForm where
  | num | image | kept
deriving DecidableEq, Repr

/-- The blocks of the window table (18_address_map R818). -/
inductive Block where
  | izl | cell | eth | warp | cask | stch | mash | aprt | kiln | gnss | tsvc | mntl | flt | hcp | ctrl | hop | crc | boot | pwr
deriving DecidableEq, Repr

/-- Block code of the window table (R818). -/
def Block.code : Block → Nat
  | .izl => 1
  | .cell => 2
  | .eth => 3
  | .warp => 4
  | .cask => 5
  | .stch => 6
  | .mash => 7
  | .aprt => 8
  | .kiln => 9
  | .gnss => 10
  | .tsvc => 11
  | .mntl => 12
  | .flt => 13
  | .hcp => 14
  | .ctrl => 15
  | .hop => 16
  | .crc => 17
  | .boot => 18
  | .pwr => 19

/-- Fault group of a block (R818, R820); none for a block without one. -/
def Block.group : Block → Option Nat
  | .izl => some 0
  | .cell => some 1
  | .eth => some 2
  | .warp => some 3
  | .cask => some 4
  | .stch => some 5
  | .mash => some 6
  | .aprt => some 7
  | .kiln => some 8
  | .gnss => some 9
  | .tsvc => some 10
  | .mntl => some 11
  | .flt => none
  | .hcp => none
  | .ctrl => some 12
  | .hop => some 13
  | .crc => none
  | .boot => none
  | .pwr => some 14

/-- All blocks, in the order of the window table (R818). -/
def Block.all : List Block :=
  [.izl, .cell, .eth, .warp, .cask, .stch, .mash, .aprt, .kiln, .gnss, .tsvc, .mntl, .flt, .hcp, .ctrl, .hop, .crc, .boot, .pwr]

/-- One field of a register array. `key` numbers the field in the model's field store, `init` is its
value in a new part at first power-up, `lo` and `hi` are the values a write may give it. -/
structure Field where
  key : Nat
  lsb : Nat
  width : Nat
  acc : Acc
  form : ResetForm
  init : Nat
  lo : Nat
  hi : Nat
deriving DecidableEq, Repr

/-- Every register array, BLOCK_REGISTER as the manual names it without its instance index (R821). -/
inductive Reg where
  /-- 18_address_map.md R820 -/
  | COM_BLK_ID
  /-- 18_address_map.md R820 -/
  | COM_BLK_DIR_INFO
  /-- 18_address_map.md R820 -/
  | COM_BLK_FAULT
  /-- 18_address_map.md R820 -/
  | COM_BLK_SCRATCH
  /-- 02_izsar_lanes.md R66 -/
  | IZL_LINK_CTL
  /-- 02_izsar_lanes.md R78 -/
  | IZL_LINK_STAT
  /-- 02_izsar_lanes.md R78 -/
  | IZL_LANE_STAT
  /-- 02_izsar_lanes.md R110 -/
  | IZL_DEGRADE_SHED_LO
  /-- 02_izsar_lanes.md R110 -/
  | IZL_DEGRADE_SHED_HI
  /-- 02_izsar_lanes.md R103 -/
  | IZL_PRBS_CTL
  /-- 02_izsar_lanes.md R118 -/
  | IZL_CNT_MARKER_MISS
  /-- 02_izsar_lanes.md R118 -/
  | IZL_CNT_STUFF_VIOL
  /-- 02_izsar_lanes.md R118 -/
  | IZL_CNT_CLK_GLITCH
  /-- 02_izsar_lanes.md R118 -/
  | IZL_CNT_LINK_DOWN
  /-- 02_izsar_lanes.md R118 -/
  | IZL_CNT_WAKE_FAIL
  /-- 02_izsar_lanes.md R118 -/
  | IZL_PRBS_ERR
  /-- 03_cells_slots.md R127 -/
  | CELL_SRC_BIND
  /-- 03_cells_slots.md R127 -/
  | CELL_DST_BIND
  /-- 03_cells_slots.md R154 -/
  | CELL_LINK_DELAY
  /-- 03_cells_slots.md R154 -/
  | CELL_LINK_INFO
  /-- 03_cells_slots.md R141 -/
  | CELL_SRC_STAT
  /-- 03_cells_slots.md R169 -/
  | CELL_CNT_CRC_ERR
  /-- 03_cells_slots.md R169 -/
  | CELL_CNT_SEQ_ERR
  /-- 03_cells_slots.md R169 -/
  | CELL_CNT_SEQ_LOST
  /-- 03_cells_slots.md R169 -/
  | CELL_CNT_MISDIR
  /-- 03_cells_slots.md R169 -/
  | CELL_CNT_HDR_ERR
  /-- 03_cells_slots.md R169 -/
  | CELL_CNT_OVERRUN
  /-- 03_cells_slots.md R169 -/
  | CELL_CNT_FMT_CHANGE
  /-- 04_ethernet_ports.md R183 -/
  | ETH_PORT_CTL
  /-- 04_ethernet_ports.md R213 -/
  | ETH_PORT_STAT
  /-- 04_ethernet_ports.md R190 -/
  | ETH_PORT_TX_RESV
  /-- 04_ethernet_ports.md R184 -/
  | ETH_FLOW_CTL
  /-- 04_ethernet_ports.md R200 -/
  | ETH_FLOW_MEDIA
  /-- 04_ethernet_ports.md R186 -/
  | ETH_FLOW_DIP
  /-- 04_ethernet_ports.md R186 -/
  | ETH_FLOW_SIP
  /-- 04_ethernet_ports.md R186 -/
  | ETH_FLOW_UDP
  /-- 04_ethernet_ports.md R186 -/
  | ETH_FLOW_SSRC
  /-- 04_ethernet_ports.md R188 -/
  | ETH_FLOW_HDR
  /-- 04_ethernet_ports.md R188 -/
  | ETH_FLOW_PT
  /-- 04_ethernet_ports.md R188 -/
  | ETH_FLOW_DMAC_HI
  /-- 04_ethernet_ports.md R188 -/
  | ETH_FLOW_DMAC_LO
  /-- 04_ethernet_ports.md R196 -/
  | ETH_FLOW_STAT
  /-- 04_ethernet_ports.md R215 -/
  | ETH_FLOW_CNT
  /-- 04_ethernet_ports.md R216 -/
  | ETH_CNT_RX_OCTETS
  /-- 04_ethernet_ports.md R216 -/
  | ETH_CNT_TX_OCTETS
  /-- 04_ethernet_ports.md R216 -/
  | ETH_CNT_RX_FRAMES
  /-- 04_ethernet_ports.md R216 -/
  | ETH_CNT_TX_FRAMES
  /-- 04_ethernet_ports.md R216 -/
  | ETH_CNT_RX_CRC
  /-- 04_ethernet_ports.md R216 -/
  | ETH_CNT_RX_SHORT
  /-- 04_ethernet_ports.md R216 -/
  | ETH_CNT_RX_LONG
  /-- 04_ethernet_ports.md R216 -/
  | ETH_CNT_RX_BAD
  /-- 04_ethernet_ports.md R216 -/
  | ETH_CNT_RX_FULL
  /-- 04_ethernet_ports.md R216 -/
  | ETH_CNT_RX_NOMATCH
  /-- 04_ethernet_ports.md R216 -/
  | ETH_CNT_RX_PAUSE
  /-- 04_ethernet_ports.md R216 -/
  | ETH_CNT_PAUSE_WD
  /-- 04_ethernet_ports.md R216 -/
  | ETH_CNT_TX_DISC
  /-- 04_ethernet_ports.md R216 -/
  | ETH_CNT_FEC_CORR
  /-- 04_ethernet_ports.md R216 -/
  | ETH_CNT_FEC_UNCORR
  /-- 04_ethernet_ports.md R216 -/
  | ETH_CNT_LINK_GLITCH
  /-- 04_ethernet_ports.md R216 -/
  | ETH_CNT_LINK_DOWN
  /-- 04_ethernet_ports.md R206 -/
  | ETH_MERGE_CTL
  /-- 04_ethernet_ports.md R209 -/
  | ETH_QUEUE_PCP
  /-- 05_warp_seam.md R220 -/
  | WARP_DST_CFG
  /-- 05_warp_seam.md R222 -/
  | WARP_DST_TIMING
  /-- 05_warp_seam.md R261 -/
  | WARP_DST_ROUTE
  /-- 05_warp_seam.md R233 -/
  | WARP_DST_STAT
  /-- 05_warp_seam.md R252 -/
  | WARP_DST_CNT
  /-- 05_warp_seam.md R227 -/
  | WARP_SRC_TIME
  /-- 05_warp_seam.md R227 -/
  | WARP_INT_TIME
  /-- 05_warp_seam.md R28 -/
  | WARP_CS_STAT
  /-- 05_warp_seam.md R27 -/
  | WARP_CS_STORE
  /-- 05_warp_seam.md R264 -/
  | WARP_CS_ARM
  /-- 05_warp_seam.md R264 -/
  | WARP_CS_PREP
  /-- 06_cask_frame_store.md R267 -/
  | CASK_REGION
  /-- 06_cask_frame_store.md R273 -/
  | CASK_RING
  /-- 06_cask_frame_store.md R273 -/
  | CASK_INT_RING
  /-- 06_cask_frame_store.md R287 -/
  | CASK_FS_CTL
  /-- 06_cask_frame_store.md R283 -/
  | CASK_FS_STAT
  /-- 06_cask_frame_store.md R280 -/
  | CASK_FS_CNT
  /-- 06_cask_frame_store.md R297 -/
  | CASK_SURF_STAT
  /-- 06_cask_frame_store.md R296 -/
  | CASK_POOL_STAT
  /-- 06_cask_frame_store.md R307 -/
  | CASK_SPARE_STAT
  /-- 06_cask_frame_store.md R303 -/
  | CASK_ECC_CTL
  /-- 06_cask_frame_store.md R270 -/
  | CASK_BW_CLASS
  /-- 06_cask_frame_store.md R309 -/
  | CASK_CNT_CE
  /-- 06_cask_frame_store.md R309 -/
  | CASK_CNT_UE
  /-- 06_cask_frame_store.md R309 -/
  | CASK_CNT_RETIRED
  /-- 06_cask_frame_store.md R309 -/
  | CASK_CNT_PLY_SKIP
  /-- 06_cask_frame_store.md R309 -/
  | CASK_CNT_ANC_TRUNC
  /-- 07_stitch_heads.md R310 -/
  | STCH_HEAD_CFG
  /-- 07_stitch_heads.md R311 -/
  | STCH_HEAD_TIMING
  /-- 07_stitch_heads.md R348 -/
  | STCH_HEAD_BG
  /-- 07_stitch_heads.md R356 -/
  | STCH_HEAD_FILL
  /-- 07_stitch_heads.md R322 -/
  | STCH_HEAD_STAT
  /-- 07_stitch_heads.md R357 -/
  | STCH_HEAD_CNT
  /-- 07_stitch_heads.md R327 -/
  | STCH_LAYER_CTL
  /-- 07_stitch_heads.md R330 -/
  | STCH_LAYER_POS
  /-- 07_stitch_heads.md R330 -/
  | STCH_LAYER_SIZE
  /-- 07_stitch_heads.md R330 -/
  | STCH_LAYER_CROP_POS
  /-- 07_stitch_heads.md R330 -/
  | STCH_LAYER_CROP_SIZE
  /-- 07_stitch_heads.md R331 -/
  | STCH_LAYER_SRC
  /-- 07_stitch_heads.md R335 -/
  | STCH_LAYER_STRIDE
  /-- 07_stitch_heads.md R368 -/
  | STCH_SIG_CTL
  /-- 07_stitch_heads.md R370 -/
  | STCH_SIG_STAT
  /-- 07_stitch_heads.md R368 -/
  | STCH_SIG_POS
  /-- 07_stitch_heads.md R368 -/
  | STCH_SIG_SIZE
  /-- 07_stitch_heads.md R370 -/
  | STCH_SIG_EXP
  /-- 07_stitch_heads.md R370 -/
  | STCH_SIG_VAL
  /-- 07_stitch_heads.md R364 -/
  | STCH_APRON_STAT
  /-- 08_mash_audio.md R373 -/
  | MASH_CFG
  /-- 08_mash_audio.md R379 -/
  | MASH_SRC_AUDIO
  /-- 08_mash_audio.md R417 -/
  | MASH_DST_AUDIO
  /-- 08_mash_audio.md R391 -/
  | MASH_ROUTE
  /-- 08_mash_audio.md R395 -/
  | MASH_OUT_DELAY
  /-- 08_mash_audio.md R392 -/
  | MASH_ROUTE_CTL
  /-- 08_mash_audio.md R398 -/
  | MASH_BUSIN
  /-- 08_mash_audio.md R397 -/
  | MASH_BUSIN_MAP
  /-- 08_mash_audio.md R403 -/
  | MASH_BUS_FADER
  /-- 08_mash_audio.md R406 -/
  | MASH_BUS_DYN_A
  /-- 08_mash_audio.md R406 -/
  | MASH_BUS_DYN_B
  /-- 08_mash_audio.md R409 -/
  | MASH_BUS_STAT
  /-- 08_mash_audio.md R413 -/
  | MASH_ENG_CTL
  /-- 08_mash_audio.md R411 -/
  | MASH_ENG_STAT
  /-- 08_mash_audio.md R430 -/
  | MASH_CNT_RATE_ERR
  /-- 08_mash_audio.md R430 -/
  | MASH_CNT_ANC_DROP
  /-- 08_mash_audio.md R430 -/
  | MASH_CNT_OUT_SAT
  /-- 08_mash_audio.md R430 -/
  | MASH_CNT_ZC_TIMEOUT
  /-- 08_mash_audio.md R430 -/
  | MASH_CNT_BUS_UNLOCK
  /-- 08_mash_audio.md R430 -/
  | MASH_CNT_XFADE_SHORT
  /-- 08_mash_audio.md R430 -/
  | MASH_CNT_SLIP
  /-- 09_audio_ports.md R453 -/
  | APRT_PORT_CTL
  /-- 09_audio_ports.md R434 -/
  | APRT_TDM_FMT
  /-- 09_audio_ports.md R439 -/
  | APRT_BIND
  /-- 09_audio_ports.md R441 -/
  | APRT_MASK_LO
  /-- 09_audio_ports.md R442 -/
  | APRT_MASK_HI
  /-- 09_audio_ports.md R441 -/
  | APRT_MASK_STG_LO
  /-- 09_audio_ports.md R442 -/
  | APRT_MASK_STG_HI
  /-- 09_audio_ports.md R453 -/
  | APRT_PORT_STAT
  /-- 09_audio_ports.md R463 -/
  | APRT_CNT_SLIP
  /-- 09_audio_ports.md R463 -/
  | APRT_CNT_GLITCH
  /-- 09_audio_ports.md R463 -/
  | APRT_CNT_CLK_STOP
  /-- 09_audio_ports.md R463 -/
  | APRT_CNT_UNLOCK
  /-- 09_audio_ports.md R463 -/
  | APRT_CNT_PARITY
  /-- 10_kiln_timebase.md R488 -/
  | KILN_STAT
  /-- 10_kiln_timebase.md R510 -/
  | KILN_TEB
  /-- 10_kiln_timebase.md R491 -/
  | KILN_OFFSET_REM
  /-- 10_kiln_timebase.md R514 -/
  | KILN_HO_ELAPSED
  /-- 10_kiln_timebase.md R514 -/
  | KILN_HO_REMAIN
  /-- 10_kiln_timebase.md R513 -/
  | KILN_HO_LIMIT
  /-- 10_kiln_timebase.md R486 -/
  | KILN_SEL_CTL
  /-- 10_kiln_timebase.md R486 -/
  | KILN_REF_ORDER_0
  /-- 10_kiln_timebase.md R486 -/
  | KILN_REF_ORDER_1
  /-- 10_kiln_timebase.md R491 -/
  | KILN_SLEW
  /-- 10_kiln_timebase.md R499 -/
  | KILN_LOOP
  /-- 10_kiln_timebase.md R481 -/
  | KILN_CFG
  /-- 10_kiln_timebase.md R534 -/
  | KILN_CFG_2
  /-- 10_kiln_timebase.md R534 -/
  | KILN_CFG_3
  /-- 10_kiln_timebase.md R484 -/
  | KILN_REF_CFG
  /-- 10_kiln_timebase.md R476 -/
  | KILN_REF_ACC
  /-- 10_kiln_timebase.md R484 -/
  | KILN_REF_STAT
  /-- 10_kiln_timebase.md R477 -/
  | KILN_REF_OFFSET
  /-- 10_kiln_timebase.md R485 -/
  | KILN_REF_CNT
  /-- 10_kiln_timebase.md R480 -/
  | KILN_PPS_CFG
  /-- 10_kiln_timebase.md R479 -/
  | KILN_VREF_CFG
  /-- 10_kiln_timebase.md R535 -/
  | KILN_VREF_OFS
  /-- 10_kiln_timebase.md R497 -/
  | KILN_OSC_CFG
  /-- 10_kiln_timebase.md R498 -/
  | KILN_OSC_DAC
  /-- 10_kiln_timebase.md R500 -/
  | KILN_OSC_TEMP
  /-- 10_kiln_timebase.md R501 -/
  | KILN_MODEL_Y0
  /-- 10_kiln_timebase.md R501 -/
  | KILN_MODEL_AGING
  /-- 10_kiln_timebase.md R501 -/
  | KILN_MODEL_TC
  /-- 10_kiln_timebase.md R501 -/
  | KILN_MODEL_UY
  /-- 10_kiln_timebase.md R501 -/
  | KILN_MODEL_UD
  /-- 10_kiln_timebase.md R501 -/
  | KILN_MODEL_UC
  /-- 10_kiln_timebase.md R515 -/
  | KILN_TOUT_CTL
  /-- 10_kiln_timebase.md R536 -/
  | KILN_TOUT_START
  /-- 10_kiln_timebase.md R536 -/
  | KILN_TOUT_PERIOD
  /-- 10_kiln_timebase.md R536 -/
  | KILN_TOUT_WIDTH
  /-- 10_kiln_timebase.md R521 -/
  | KILN_CLK_CTL
  /-- 10_kiln_timebase.md R520 -/
  | KILN_CLK_NUM
  /-- 10_kiln_timebase.md R472 -/
  | KILN_EVT_CFG
  /-- 10_kiln_timebase.md R473 -/
  | KILN_EVT_CAP_0
  /-- 10_kiln_timebase.md R473 -/
  | KILN_EVT_CAP_1
  /-- 10_kiln_timebase.md R473 -/
  | KILN_EVT_CAP_2
  /-- 10_kiln_timebase.md R474 -/
  | KILN_EVT_STAT
  /-- 10_kiln_timebase.md R525 -/
  | KILN_UTC
  /-- 10_kiln_timebase.md R528 -/
  | KILN_SET_CTL
  /-- 10_kiln_timebase.md R537 -/
  | KILN_CNT_EVT_LOST
  /-- 10_kiln_timebase.md R537 -/
  | KILN_CNT_OSC_GLITCH
  /-- 10_kiln_timebase.md R468 -/
  | KILN_NOW_SEC_LO
  /-- 10_kiln_timebase.md R468 -/
  | KILN_NOW_SEC_HI
  /-- 10_kiln_timebase.md R468 -/
  | KILN_NOW_NS
  /-- 10_kiln_timebase.md R468 -/
  | KILN_NOW_FRAC
  /-- 10_kiln_timebase.md R467 -/
  | KILN_COUNT
  /-- 10_kiln_timebase.md R538 -/
  | KILN_SET_SEC_LO
  /-- 10_kiln_timebase.md R538 -/
  | KILN_SET_SEC_HI
  /-- 10_kiln_timebase.md R538 -/
  | KILN_SET_NS
  /-- 11_gnss_baseband.md R558 -/
  | GNSS_CTL
  /-- 11_gnss_baseband.md R540 -/
  | GNSS_IF_CFG_A
  /-- 11_gnss_baseband.md R540 -/
  | GNSS_IF_CFG_B
  /-- 11_gnss_baseband.md R560 -/
  | GNSS_STAT
  /-- 11_gnss_baseband.md R560 -/
  | GNSS_TEB
  /-- 11_gnss_baseband.md R547 -/
  | GNSS_TRACK_CFG_A
  /-- 11_gnss_baseband.md R547 -/
  | GNSS_TRACK_CFG_B
  /-- 11_gnss_baseband.md R549 -/
  | GNSS_CH_STAT
  /-- 11_gnss_baseband.md R546 -/
  | GNSS_SV_EXCL
  /-- 11_gnss_baseband.md R546 -/
  | GNSS_SV_EXCL_HI
  /-- 11_gnss_baseband.md R557 -/
  | GNSS_MEAS_PTR
  /-- 11_gnss_baseband.md R575 -/
  | GNSS_POS_X
  /-- 11_gnss_baseband.md R575 -/
  | GNSS_POS_Y
  /-- 11_gnss_baseband.md R575 -/
  | GNSS_POS_Z
  /-- 11_gnss_baseband.md R575 -/
  | GNSS_POS_UNC
  /-- 11_gnss_baseband.md R559 -/
  | GNSS_SURVEY
  /-- 11_gnss_baseband.md R560 -/
  | GNSS_CFG
  /-- 11_gnss_baseband.md R564 -/
  | GNSS_INTEG_CFG_0
  /-- 11_gnss_baseband.md R564 -/
  | GNSS_INTEG_CFG_1
  /-- 11_gnss_baseband.md R576 -/
  | GNSS_INTEG_CFG_2
  /-- 11_gnss_baseband.md R566 -/
  | GNSS_INTEG_STAT
  /-- 11_gnss_baseband.md R577 -/
  | GNSS_CNT_CLK_GLITCH_A
  /-- 11_gnss_baseband.md R577 -/
  | GNSS_CNT_CLK_GLITCH_B
  /-- 11_gnss_baseband.md R577 -/
  | GNSS_CNT_EXCL
  /-- 11_gnss_baseband.md R577 -/
  | GNSS_CNT_UNTRUST
  /-- 11_gnss_baseband.md R577 -/
  | GNSS_CNT_LOCK_LOSS
  /-- 12_time_service.md R590 -/
  | TSVC_CFG
  /-- 12_time_service.md R593 -/
  | TSVC_ORG_ID
  /-- 12_time_service.md R580 -/
  | TSVC_STAT
  /-- 12_time_service.md R578 -/
  | TSVC_CLOCK_ID
  /-- 12_time_service.md R579 -/
  | TSVC_PORT_CFG
  /-- 12_time_service.md R600 -/
  | TSVC_NEG_CFG
  /-- 12_time_service.md R600 -/
  | TSVC_NEG_LIM
  /-- 12_time_service.md R601 -/
  | TSVC_PORT_STAT
  /-- 12_time_service.md R601 -/
  | TSVC_RESV_TOTAL
  /-- 12_time_service.md R586 -/
  | TSVC_PORT_CAL
  /-- 12_time_service.md R597 -/
  | TSVC_SESS_SEL
  /-- 12_time_service.md R597 -/
  | TSVC_SESS_CMD
  /-- 12_time_service.md R597 -/
  | TSVC_SESS_DATA
  /-- 12_time_service.md R613 -/
  | TSVC_KEY_STAGE
  /-- 12_time_service.md R613 -/
  | TSVC_KEY_ID
  /-- 12_time_service.md R613 -/
  | TSVC_KEY_LOAD
  /-- 12_time_service.md R613 -/
  | TSVC_GKEY_STAT
  /-- 12_time_service.md R625 -/
  | TSVC_NTS_MKEY_STAT
  /-- 12_time_service.md R618 -/
  | TSVC_NTP_CFG
  /-- 12_time_service.md R608 -/
  | TSVC_GKEY_ID
  /-- 12_time_service.md R625 -/
  | TSVC_NTS_MKEY_ID
  /-- 12_time_service.md R626 -/
  | TSVC_INJECT_CTL
  /-- 12_time_service.md R626 -/
  | TSVC_INJECT_ID
  /-- 12_time_service.md R628 -/
  | TSVC_TXTS_0
  /-- 12_time_service.md R628 -/
  | TSVC_TXTS_1
  /-- 12_time_service.md R628 -/
  | TSVC_TXTS_2
  /-- 12_time_service.md R628 -/
  | TSVC_TXTS_3
  /-- 12_time_service.md R626 -/
  | TSVC_INJECT_ADDR
  /-- 12_time_service.md R629 -/
  | TSVC_TXTS_STAT
  /-- 12_time_service.md R630 -/
  | TSVC_CNT_NOT_RUN
  /-- 12_time_service.md R630 -/
  | TSVC_CNT_FILTER
  /-- 12_time_service.md R630 -/
  | TSVC_CNT_NOSESS
  /-- 12_time_service.md R630 -/
  | TSVC_CNT_AUTH_FAIL
  /-- 12_time_service.md R630 -/
  | TSVC_CNT_REPLAY
  /-- 12_time_service.md R630 -/
  | TSVC_CNT_OVERLOAD
  /-- 12_time_service.md R630 -/
  | TSVC_CNT_NTS_NAK
  /-- 12_time_service.md R630 -/
  | TSVC_CNT_TXTS_LOST
  /-- 13_mantle_twin.md R641 -/
  | MNTL_CTL
  /-- 13_mantle_twin.md R638 -/
  | MNTL_LEASE
  /-- 13_mantle_twin.md R636 -/
  | MNTL_STAT
  /-- 13_mantle_twin.md R657 -/
  | MNTL_SIG_STAT
  /-- 13_mantle_twin.md R660 -/
  | MNTL_HEALTH_OWN
  /-- 13_mantle_twin.md R660 -/
  | MNTL_HEALTH_TWIN
  /-- 13_mantle_twin.md R673 -/
  | MNTL_CNT_CLAIM
  /-- 13_mantle_twin.md R673 -/
  | MNTL_CNT_LAPSE
  /-- 13_mantle_twin.md R673 -/
  | MNTL_CNT_CONFLICT
  /-- 13_mantle_twin.md R673 -/
  | MNTL_CNT_HANDOVER
  /-- 13_mantle_twin.md R673 -/
  | MNTL_CNT_SIG_MISMATCH
  /-- 13_mantle_twin.md R673 -/
  | MNTL_CNT_LANE_TEST
  /-- 14_faults_hem.md R677 -/
  | FLT_SRC_CFG
  /-- 14_faults_hem.md R676 -/
  | FLT_SRC_STAT
  /-- 14_faults_hem.md R674 -/
  | FLT_STANDING
  /-- 14_faults_hem.md R690 -/
  | FLT_STAT
  /-- 14_faults_hem.md R690 -/
  | FLT_PIN_CTL
  /-- 14_faults_hem.md R682 -/
  | FLT_FENCE_CMD
  /-- 14_faults_hem.md R682 -/
  | FLT_FENCE_STAT
  /-- 14_faults_hem.md R687 -/
  | FLT_HEM_CFG
  /-- 14_faults_hem.md R702 -/
  | FLT_LOG_PTR
  /-- 14_faults_hem.md R702 -/
  | FLT_LOG_ACK
  /-- 14_faults_hem.md R701 -/
  | FLT_LOG_SEL
  /-- 14_faults_hem.md R701 -/
  | FLT_LOG_DATA
  /-- 14_faults_hem.md R705 -/
  | FLT_CNT_LOG_OVF
  /-- 15_hcp_control.md R706 -/
  | HCP_CFG
  /-- 15_hcp_control.md R713 -/
  | HCP_SLOT_STAT
  /-- 15_hcp_control.md R719 -/
  | HCP_SLOT_OPENS
  /-- 15_hcp_control.md R720 -/
  | HCP_SESS_STAT
  /-- 15_hcp_control.md R719 -/
  | HCP_SESS_ID
  /-- 15_hcp_control.md R750 -/
  | HCP_CNT_AUTH_FAIL
  /-- 15_hcp_control.md R750 -/
  | HCP_CNT_SEQ_ERR
  /-- 15_hcp_control.md R750 -/
  | HCP_CNT_FORMAT
  /-- 15_hcp_control.md R750 -/
  | HCP_CNT_OVERLOAD
  /-- 15_hcp_control.md R750 -/
  | HCP_CNT_EVT_LOST
  /-- 01_architecture.md R42 -/
  | CTRL_ISLAND_CLK
  /-- 01_architecture.md R45 -/
  | CTRL_DEV_STATE
  /-- 16_internal_engines.md R756 -/
  | CTRL_DEFAULT_ERR
  /-- 18_address_map.md R828 -/
  | CTRL_DEV_ID
  /-- 16_internal_engines.md R759 -/
  | HOP_CH_CTL
  /-- 16_internal_engines.md R765 -/
  | HOP_CH_CFG
  /-- 16_internal_engines.md R765 -/
  | HOP_CH_STAT
  /-- 16_internal_engines.md R773 -/
  | HOP_CH_DESC
  /-- 16_internal_engines.md R773 -/
  | HOP_CH_RESID
  /-- 16_internal_engines.md R768 -/
  | CRC_CFG
  /-- 16_internal_engines.md R769 -/
  | CRC_CTL
  /-- 16_internal_engines.md R774 -/
  | CRC_POLY
  /-- 16_internal_engines.md R774 -/
  | CRC_INIT
  /-- 16_internal_engines.md R774 -/
  | CRC_XOROUT
  /-- 16_internal_engines.md R774 -/
  | CRC_PREFIX
  /-- 16_internal_engines.md R774 -/
  | CRC_VALUE
  /-- 16_internal_engines.md R774 -/
  | CRC_RESULT
  /-- 16_internal_engines.md R774 -/
  | CRC_FEED
  /-- 17_startup_update.md R794 -/
  | BOOT_STAT
  /-- 17_startup_update.md R799 -/
  | BOOT_STG_STAT
  /-- 17_startup_update.md R806 -/
  | BOOT_TRIAL
  /-- 17_startup_update.md R814 -/
  | BOOT_RELAY_CTL
  /-- 17_startup_update.md R815 -/
  | BOOT_RELAY_MASK
  /-- 17_startup_update.md R800 -/
  | BOOT_ACT_VER
  /-- 17_startup_update.md R817 -/
  | BOOT_ACT_SVN
  /-- 17_startup_update.md R817 -/
  | BOOT_MIN_SVN
  /-- 17_startup_update.md R817 -/
  | BOOT_START_COUNT
  /-- 17_startup_update.md R817 -/
  | BOOT_DEV_PUB
  /-- 17_startup_update.md R817 -/
  | BOOT_OWNER_STAT
  /-- 01_architecture.md R46 -/
  | PWR_CELLAR_CTL
  /-- 19_electrical_package.md R835 -/
  | PWR_RAIL_STAT
  /-- 19_electrical_package.md R864 -/
  | PWR_TEMP
  /-- 19_electrical_package.md R864 -/
  | PWR_TEMP_PEAK
  /-- 19_electrical_package.md R859 -/
  | PWR_TSENS_CFG
  /-- 19_electrical_package.md R859 -/
  | PWR_UART_CTL
  /-- 19_electrical_package.md R859 -/
  | PWR_UART_TX
  /-- 19_electrical_package.md R859 -/
  | PWR_UART_RX
deriving DecidableEq, Repr

namespace Fld

def COM_BLK_ID_CODE : Field := ⟨0, 24, 8, .ro, .num, 0, 0, 255⟩
def COM_BLK_ID_VER_MAJOR : Field := ⟨1, 16, 8, .ro, .num, 1, 0, 255⟩
def COM_BLK_ID_VER_MINOR : Field := ⟨2, 8, 8, .ro, .num, 0, 0, 255⟩
def COM_BLK_DIR_INFO_ENTRIES : Field := ⟨3, 16, 16, .ro, .num, 0, 0, 65535⟩
def COM_BLK_FAULT_STANDING : Field := ⟨4, 0, 32, .ro, .num, 0, 0, 4294967295⟩
def COM_BLK_SCRATCH_DATA : Field := ⟨5, 0, 32, .l, .num, 0, 0, 4294967295⟩
def IZL_LINK_CTL_STUFF_N : Field := ⟨6, 16, 6, .h, .image, 0, 24, 63⟩
def IZL_LINK_CTL_DEGRADE_EN : Field := ⟨7, 9, 1, .h, .image, 0, 0, 1⟩
def IZL_LINK_CTL_RETRAIN : Field := ⟨8, 8, 1, .w1s, .num, 0, 0, 1⟩
def IZL_LINK_CTL_AUTO_RETRAIN : Field := ⟨9, 7, 1, .l, .image, 0, 0, 1⟩
def IZL_LINK_CTL_IDLE_AUTO : Field := ⟨10, 6, 1, .l, .image, 0, 0, 1⟩
def IZL_LINK_CTL_IDLE_REQ : Field := ⟨11, 4, 2, .l, .num, 0, 0, 2⟩
def IZL_LINK_CTL_MODE : Field := ⟨12, 1, 3, .h, .num, 0, 0, 4⟩
def IZL_LINK_CTL_ENABLE : Field := ⟨13, 0, 1, .l, .image, 0, 0, 1⟩
def IZL_LINK_STAT_LANES_OK : Field := ⟨14, 24, 8, .ro, .num, 0, 0, 255⟩
def IZL_LINK_STAT_FAR_MAP : Field := ⟨15, 16, 8, .ro, .num, 0, 0, 255⟩
def IZL_LINK_STAT_TX_7LANE : Field := ⟨16, 15, 1, .ro, .num, 0, 0, 1⟩
def IZL_LINK_STAT_TX_OMIT : Field := ⟨17, 12, 3, .ro, .num, 0, 0, 7⟩
def IZL_LINK_STAT_MISWIRE : Field := ⟨18, 11, 1, .ro, .num, 0, 0, 1⟩
def IZL_LINK_STAT_RX_OMIT : Field := ⟨19, 8, 3, .ro, .num, 0, 0, 7⟩
def IZL_LINK_STAT_TX_IDLE : Field := ⟨20, 6, 2, .ro, .num, 0, 0, 3⟩
def IZL_LINK_STAT_RX_IDLE : Field := ⟨21, 4, 2, .ro, .num, 0, 0, 3⟩
def IZL_LINK_STAT_POS35_OFF : Field := ⟨22, 3, 1, .ro, .num, 0, 0, 1⟩
def IZL_LINK_STAT_STATE : Field := ⟨23, 0, 3, .ro, .num, 0, 0, 7⟩
def IZL_LANE_STAT_PHASE : Field := ⟨24, 22, 10, .ro, .num, 0, 0, 1023⟩
def IZL_LANE_STAT_DESKEW : Field := ⟨25, 16, 4, .ro, .num, 0, 0, 15⟩
def IZL_LANE_STAT_FAILED : Field := ⟨26, 9, 1, .ro, .num, 0, 0, 1⟩
def IZL_LANE_STAT_LOCK : Field := ⟨27, 8, 1, .ro, .num, 0, 0, 1⟩
def IZL_LANE_STAT_SEEN : Field := ⟨28, 7, 1, .ro, .num, 0, 0, 1⟩
def IZL_LANE_STAT_SLIP : Field := ⟨29, 0, 6, .ro, .num, 0, 0, 63⟩
def IZL_DEGRADE_SHED_LO_SHED_LO : Field := ⟨30, 0, 32, .h, .image, 0, 0, 4294967295⟩
def IZL_DEGRADE_SHED_HI_SHED_HI : Field := ⟨31, 0, 4, .h, .image, 0, 0, 15⟩
def IZL_PRBS_CTL_CHK_LOCK : Field := ⟨32, 8, 8, .ro, .num, 0, 0, 255⟩
def IZL_PRBS_CTL_INVERT : Field := ⟨33, 2, 1, .h, .num, 0, 0, 1⟩
def IZL_PRBS_CTL_POLY : Field := ⟨34, 0, 2, .h, .num, 0, 0, 3⟩
def IZL_CNT_MARKER_MISS_CNT : Field := ⟨35, 0, 32, .rc, .num, 0, 0, 4294967295⟩
def IZL_CNT_STUFF_VIOL_CNT : Field := ⟨36, 0, 32, .rc, .num, 0, 0, 4294967295⟩
def IZL_CNT_CLK_GLITCH_CNT : Field := ⟨37, 0, 32, .rc, .num, 0, 0, 4294967295⟩
def IZL_CNT_LINK_DOWN_CNT : Field := ⟨38, 0, 32, .rc, .num, 0, 0, 4294967295⟩
def IZL_CNT_WAKE_FAIL_CNT : Field := ⟨39, 0, 32, .rc, .num, 0, 0, 4294967295⟩
def IZL_PRBS_ERR_CNT : Field := ⟨40, 0, 32, .rc, .num, 0, 0, 4294967295⟩
def CELL_SRC_BIND_EN : Field := ⟨41, 31, 1, .ro, .image, 0, 0, 1⟩
def CELL_SRC_BIND_KIND : Field := ⟨42, 30, 1, .ro, .image, 0, 0, 1⟩
def CELL_SRC_BIND_RAW : Field := ⟨43, 0, 14, .ro, .image, 0, 0, 16383⟩
def CELL_DST_BIND_EN : Field := ⟨44, 31, 1, .ro, .image, 0, 0, 1⟩
def CELL_DST_BIND_KIND : Field := ⟨45, 30, 1, .ro, .image, 0, 0, 1⟩
def CELL_DST_BIND_RAW : Field := ⟨46, 0, 14, .ro, .image, 0, 0, 16383⟩
def CELL_LINK_DELAY_DELAY : Field := ⟨47, 0, 32, .ro, .num, 0, 0, 4294967295⟩
def CELL_LINK_INFO_FAR_EPOCH : Field := ⟨48, 8, 8, .ro, .num, 0, 0, 255⟩
def CELL_LINK_INFO_VALID : Field := ⟨49, 0, 1, .ro, .num, 0, 0, 1⟩
def CELL_SRC_STAT_NOSIG : Field := ⟨50, 9, 1, .ro, .num, 0, 0, 1⟩
def CELL_SRC_STAT_LOST : Field := ⟨51, 8, 1, .ro, .num, 1, 0, 1⟩
def CELL_SRC_STAT_FMT : Field := ⟨52, 0, 6, .ro, .num, 0, 0, 63⟩
def CELL_CNT_CRC_ERR_CNT : Field := ⟨53, 0, 32, .rc, .num, 0, 0, 4294967295⟩
def CELL_CNT_SEQ_ERR_CNT : Field := ⟨54, 0, 32, .rc, .num, 0, 0, 4294967295⟩
def CELL_CNT_SEQ_LOST_CNT : Field := ⟨55, 0, 32, .rc, .num, 0, 0, 4294967295⟩
def CELL_CNT_MISDIR_CNT : Field := ⟨56, 0, 32, .rc, .num, 0, 0, 4294967295⟩
def CELL_CNT_HDR_ERR_CNT : Field := ⟨57, 0, 32, .rc, .num, 0, 0, 4294967295⟩
def CELL_CNT_OVERRUN_CNT : Field := ⟨58, 0, 32, .rc, .num, 0, 0, 4294967295⟩
def CELL_CNT_FMT_CHANGE_CNT : Field := ⟨59, 0, 32, .rc, .num, 0, 0, 4294967295⟩
def ETH_PORT_CTL_PAUSE_WD : Field := ⟨60, 22, 10, .l, .image, 0, 1, 1000⟩
def ETH_PORT_CTL_MAX_FRAME : Field := ⟨61, 8, 14, .h, .image, 0, 1518, 9600⟩
def ETH_PORT_CTL_PFC_EN : Field := ⟨62, 2, 1, .h, .image, 0, 0, 1⟩
def ETH_PORT_CTL_PAUSE_EN : Field := ⟨63, 1, 1, .h, .image, 0, 0, 1⟩
def ETH_PORT_CTL_EN : Field := ⟨64, 0, 1, .l, .image, 0, 0, 1⟩
def ETH_PORT_STAT_HELD : Field := ⟨65, 8, 4, .ro, .num, 0, 0, 15⟩
def ETH_PORT_STAT_IGNORE : Field := ⟨66, 4, 4, .ro, .num, 0, 0, 15⟩
def ETH_PORT_STAT_REMOTE_FAULT : Field := ⟨67, 3, 1, .ro, .num, 0, 0, 1⟩
def ETH_PORT_STAT_LOCAL_FAULT : Field := ⟨68, 2, 1, .ro, .num, 0, 0, 1⟩
def ETH_PORT_STAT_ALIGNED : Field := ⟨69, 1, 1, .ro, .num, 0, 0, 1⟩
def ETH_PORT_STAT_LINK_UP : Field := ⟨70, 0, 1, .ro, .num, 0, 0, 1⟩
def ETH_PORT_TX_RESV_RESV : Field := ⟨71, 0, 17, .ro, .num, 0, 0, 131071⟩
def ETH_FLOW_CTL_EN : Field := ⟨72, 31, 1, .l, .image, 0, 0, 1⟩
def ETH_FLOW_CTL_DIR : Field := ⟨73, 30, 1, .h, .image, 0, 0, 1⟩
def ETH_FLOW_CTL_TYPE : Field := ⟨74, 27, 3, .h, .image, 0, 0, 4⟩
def ETH_FLOW_CTL_SHAPE : Field := ⟨75, 26, 1, .h, .image, 0, 0, 1⟩
def ETH_FLOW_CTL_PAIR_EN : Field := ⟨76, 25, 1, .h, .image, 0, 0, 1⟩
def ETH_FLOW_CTL_TAGGED : Field := ⟨77, 24, 1, .h, .image, 0, 0, 1⟩
def ETH_FLOW_CTL_PARTNER : Field := ⟨78, 12, 12, .h, .image, 0, 0, 4095⟩
def ETH_FLOW_CTL_PORT : Field := ⟨79, 8, 4, .h, .image, 0, 0, 15⟩
def ETH_FLOW_MEDIA_RAW : Field := ⟨80, 0, 24, .h, .image, 0, 0, 16777215⟩
def ETH_FLOW_DIP_DIP : Field := ⟨81, 0, 32, .h, .image, 0, 0, 4294967295⟩
def ETH_FLOW_SIP_SIP : Field := ⟨82, 0, 32, .h, .image, 0, 0, 4294967295⟩
def ETH_FLOW_UDP_DPORT : Field := ⟨83, 16, 16, .h, .image, 0, 0, 65535⟩
def ETH_FLOW_UDP_SPORT : Field := ⟨84, 0, 16, .h, .image, 0, 0, 65535⟩
def ETH_FLOW_SSRC_SSRC : Field := ⟨85, 0, 32, .h, .image, 0, 0, 4294967295⟩
def ETH_FLOW_HDR_TTL : Field := ⟨86, 24, 8, .h, .image, 0, 0, 255⟩
def ETH_FLOW_HDR_DSCP : Field := ⟨87, 18, 6, .h, .image, 0, 0, 63⟩
def ETH_FLOW_HDR_PCP : Field := ⟨88, 15, 3, .h, .image, 0, 0, 7⟩
def ETH_FLOW_HDR_VID : Field := ⟨89, 3, 12, .h, .image, 0, 0, 4095⟩
def ETH_FLOW_PT_PT : Field := ⟨90, 0, 7, .h, .image, 0, 0, 127⟩
def ETH_FLOW_DMAC_HI_DMAC : Field := ⟨91, 0, 16, .h, .image, 0, 0, 65535⟩
def ETH_FLOW_DMAC_LO_DMAC : Field := ⟨92, 0, 32, .h, .image, 0, 0, 4294967295⟩
def ETH_FLOW_STAT_JITTER : Field := ⟨93, 20, 12, .ro, .num, 0, 0, 4095⟩
def ETH_FLOW_STAT_N_OK : Field := ⟨94, 4, 1, .ro, .num, 0, 0, 1⟩
def ETH_FLOW_STAT_PATH_B : Field := ⟨95, 3, 1, .ro, .num, 0, 0, 1⟩
def ETH_FLOW_STAT_PATH_A : Field := ⟨96, 2, 1, .ro, .num, 0, 0, 1⟩
def ETH_FLOW_STAT_LOST : Field := ⟨97, 1, 1, .ro, .num, 1, 0, 1⟩
def ETH_FLOW_CNT_TS_JUMP : Field := ⟨98, 28, 4, .rc, .num, 0, 0, 15⟩
def ETH_FLOW_CNT_OVERRUN : Field := ⟨99, 24, 4, .rc, .num, 0, 0, 15⟩
def ETH_FLOW_CNT_MALFORMED : Field := ⟨100, 20, 4, .rc, .num, 0, 0, 15⟩
def ETH_FLOW_CNT_LATE : Field := ⟨101, 16, 4, .rc, .num, 0, 0, 15⟩
def ETH_FLOW_CNT_B_LOSS : Field := ⟨102, 12, 4, .rc, .num, 0, 0, 15⟩
def ETH_FLOW_CNT_A_LOSS : Field := ⟨103, 8, 4, .rc, .num, 0, 0, 15⟩
def ETH_FLOW_CNT_SEQ_GAP : Field := ⟨104, 4, 4, .rc, .num, 0, 0, 15⟩
def ETH_FLOW_CNT_PKT : Field := ⟨105, 0, 4, .rc, .num, 0, 0, 15⟩
def ETH_CNT_RX_OCTETS_CNT : Field := ⟨106, 0, 64, .ro, .num, 0, 0, 18446744073709551615⟩
def ETH_CNT_TX_OCTETS_CNT : Field := ⟨107, 0, 64, .ro, .num, 0, 0, 18446744073709551615⟩
def ETH_CNT_RX_FRAMES_CNT : Field := ⟨108, 0, 64, .ro, .num, 0, 0, 18446744073709551615⟩
def ETH_CNT_TX_FRAMES_CNT : Field := ⟨109, 0, 64, .ro, .num, 0, 0, 18446744073709551615⟩
def ETH_CNT_RX_CRC_CNT : Field := ⟨110, 0, 64, .ro, .num, 0, 0, 18446744073709551615⟩
def ETH_CNT_RX_SHORT_CNT : Field := ⟨111, 0, 64, .ro, .num, 0, 0, 18446744073709551615⟩
def ETH_CNT_RX_LONG_CNT : Field := ⟨112, 0, 64, .ro, .num, 0, 0, 18446744073709551615⟩
def ETH_CNT_RX_BAD_CNT : Field := ⟨113, 0, 64, .ro, .num, 0, 0, 18446744073709551615⟩
def ETH_CNT_RX_FULL_CNT : Field := ⟨114, 0, 64, .ro, .num, 0, 0, 18446744073709551615⟩
def ETH_CNT_RX_NOMATCH_CNT : Field := ⟨115, 0, 64, .ro, .num, 0, 0, 18446744073709551615⟩
def ETH_CNT_RX_PAUSE_CNT : Field := ⟨116, 0, 64, .ro, .num, 0, 0, 18446744073709551615⟩
def ETH_CNT_PAUSE_WD_CNT : Field := ⟨117, 0, 64, .ro, .num, 0, 0, 18446744073709551615⟩
def ETH_CNT_TX_DISC_CNT : Field := ⟨118, 0, 64, .ro, .num, 0, 0, 18446744073709551615⟩
def ETH_CNT_FEC_CORR_CNT : Field := ⟨119, 0, 64, .ro, .num, 0, 0, 18446744073709551615⟩
def ETH_CNT_FEC_UNCORR_CNT : Field := ⟨120, 0, 64, .ro, .num, 0, 0, 18446744073709551615⟩
def ETH_CNT_LINK_GLITCH_CNT : Field := ⟨121, 0, 64, .ro, .num, 0, 0, 18446744073709551615⟩
def ETH_CNT_LINK_DOWN_CNT : Field := ⟨122, 0, 64, .ro, .num, 0, 0, 18446744073709551615⟩
def ETH_MERGE_CTL_WINDOW : Field := ⟨123, 0, 4, .h, .image, 0, 1, 10⟩
def ETH_QUEUE_PCP_Q3 : Field := ⟨124, 9, 3, .h, .image, 0, 0, 7⟩
def ETH_QUEUE_PCP_Q2 : Field := ⟨125, 6, 3, .h, .image, 0, 0, 7⟩
def ETH_QUEUE_PCP_Q0 : Field := ⟨126, 0, 3, .h, .image, 0, 0, 7⟩
def WARP_DST_CFG_EN : Field := ⟨127, 31, 1, .l, .image, 0, 0, 1⟩
def WARP_DST_CFG_FIELD_SW : Field := ⟨128, 12, 1, .h, .image, 0, 0, 1⟩
def WARP_DST_CFG_LATENCY : Field := ⟨129, 10, 2, .ro, .image, 0, 0, 3⟩
def WARP_DST_CFG_MODE : Field := ⟨130, 8, 2, .ro, .image, 0, 0, 3⟩
def WARP_DST_CFG_FMT : Field := ⟨131, 0, 6, .ro, .image, 0, 0, 63⟩
def WARP_DST_TIMING_OFFSET : Field := ⟨132, 0, 26, .h, .image, 0, 0, 67108863⟩
def WARP_DST_ROUTE_PENDING : Field := ⟨133, 31, 1, .ro, .num, 0, 0, 1⟩
def WARP_DST_ROUTE_DIRECT : Field := ⟨134, 30, 1, .ro, .num, 0, 0, 1⟩
def WARP_DST_ROUTE_STAGED : Field := ⟨135, 16, 11, .ro, .image, 0, 0, 2047⟩
def WARP_DST_ROUTE_SET : Field := ⟨136, 11, 5, .ro, .num, 0, 0, 31⟩
def WARP_DST_ROUTE_SRC : Field := ⟨137, 0, 11, .s, .image, 2047, 0, 2047⟩
def WARP_DST_STAT_TIMED : Field := ⟨138, 31, 1, .ro, .num, 0, 0, 1⟩
def WARP_DST_STAT_SRC_LOST : Field := ⟨139, 30, 1, .ro, .num, 1, 0, 1⟩
def WARP_DST_STAT_BLACKED : Field := ⟨140, 29, 1, .ro, .num, 0, 0, 1⟩
def WARP_DST_STAT_REFUSED : Field := ⟨141, 28, 1, .ro, .num, 0, 0, 1⟩
def WARP_DST_STAT_LATE : Field := ⟨142, 27, 1, .ro, .num, 0, 0, 1⟩
def WARP_DST_STAT_FENCED : Field := ⟨143, 26, 1, .ro, .num, 0, 0, 1⟩
def WARP_DST_STAT_LATENCY : Field := ⟨144, 0, 17, .ro, .num, 0, 0, 131071⟩
def WARP_DST_CNT_SWITCH : Field := ⟨145, 24, 8, .rc, .num, 0, 0, 255⟩
def WARP_DST_CNT_LATE : Field := ⟨146, 16, 8, .rc, .num, 0, 0, 255⟩
def WARP_DST_CNT_REFUSED : Field := ⟨147, 8, 8, .rc, .num, 0, 0, 255⟩
def WARP_DST_CNT_UNTIMED : Field := ⟨148, 0, 8, .rc, .num, 0, 0, 255⟩
def WARP_SRC_TIME_VALID : Field := ⟨149, 31, 1, .ro, .num, 0, 0, 1⟩
def WARP_SRC_TIME_STABLE : Field := ⟨150, 30, 1, .ro, .num, 0, 0, 1⟩
def WARP_SRC_TIME_WHOLE_FRAME : Field := ⟨151, 29, 1, .ro, .num, 0, 0, 1⟩
def WARP_SRC_TIME_PHASE : Field := ⟨152, 0, 26, .ro, .num, 0, 0, 67108863⟩
def WARP_INT_TIME_VALID : Field := ⟨153, 31, 1, .ro, .num, 0, 0, 1⟩
def WARP_INT_TIME_STABLE : Field := ⟨154, 30, 1, .ro, .num, 0, 0, 1⟩
def WARP_INT_TIME_WHOLE_FRAME : Field := ⟨155, 29, 1, .ro, .num, 0, 0, 1⟩
def WARP_INT_TIME_PHASE : Field := ⟨156, 0, 26, .ro, .num, 0, 0, 67108863⟩
def WARP_CS_STAT_STATE : Field := ⟨157, 28, 4, .ro, .num, 0, 0, 15⟩
def WARP_CS_STAT_KIND : Field := ⟨158, 27, 1, .ro, .num, 0, 0, 1⟩
def WARP_CS_STAT_AUTO_COMMIT : Field := ⟨159, 26, 1, .ro, .num, 0, 0, 1⟩
def WARP_CS_STAT_NOW : Field := ⟨160, 25, 1, .ro, .num, 0, 0, 1⟩
def WARP_CS_STAT_ENTRIES : Field := ⟨161, 12, 12, .ro, .num, 0, 0, 4095⟩
def WARP_CS_STAT_PENDING : Field := ⟨162, 0, 12, .ro, .num, 0, 0, 4095⟩
def WARP_CS_STORE_ITEMS_FREE : Field := ⟨163, 0, 17, .ro, .num, 65536, 0, 131071⟩
def WARP_CS_ARM_T : Field := ⟨164, 0, 64, .ro, .num, 0, 0, 18446744073709551615⟩
def WARP_CS_PREP_T : Field := ⟨165, 0, 64, .ro, .num, 0, 0, 18446744073709551615⟩
def CASK_REGION_BASE : Field := ⟨166, 16, 16, .ro, .image, 0, 0, 65535⟩
def CASK_REGION_SIZE : Field := ⟨167, 0, 16, .ro, .image, 0, 0, 65535⟩
def CASK_RING_EN : Field := ⟨168, 31, 1, .ro, .image, 0, 0, 1⟩
def CASK_RING_DEPTH : Field := ⟨169, 29, 2, .ro, .image, 0, 0, 3⟩
def CASK_RING_EFF_DEPTH : Field := ⟨170, 27, 2, .ro, .num, 0, 0, 3⟩
def CASK_RING_OVERSIZE : Field := ⟨171, 26, 1, .ro, .num, 0, 0, 1⟩
def CASK_RING_SLOT_SIZE : Field := ⟨172, 8, 8, .ro, .image, 0, 0, 255⟩
def CASK_INT_RING_EN : Field := ⟨173, 31, 1, .ro, .image, 0, 0, 1⟩
def CASK_INT_RING_DEPTH : Field := ⟨174, 29, 2, .ro, .image, 0, 0, 3⟩
def CASK_INT_RING_EFF_DEPTH : Field := ⟨175, 27, 2, .ro, .num, 0, 0, 3⟩
def CASK_INT_RING_OVERSIZE : Field := ⟨176, 26, 1, .ro, .num, 0, 0, 1⟩
def CASK_INT_RING_SLOT_SIZE : Field := ⟨177, 8, 8, .ro, .image, 0, 0, 255⟩
def CASK_FS_CTL_FREEZE_MS : Field := ⟨178, 0, 14, .s, .image, 0, 0, 10000⟩
def CASK_FS_STAT_FROZEN : Field := ⟨179, 31, 1, .ro, .num, 0, 0, 1⟩
def CASK_FS_STAT_BLACK : Field := ⟨180, 30, 1, .ro, .num, 0, 0, 1⟩
def CASK_FS_STAT_CAUSE : Field := ⟨181, 27, 3, .ro, .num, 0, 0, 7⟩
def CASK_FS_STAT_FREEZE_LEFT : Field := ⟨182, 0, 14, .ro, .num, 0, 0, 16383⟩
def CASK_FS_CNT_REPEAT : Field := ⟨183, 16, 16, .rc, .num, 0, 0, 65535⟩
def CASK_FS_CNT_DROP : Field := ⟨184, 0, 16, .rc, .num, 0, 0, 65535⟩
def CASK_SURF_STAT_STATE : Field := ⟨185, 30, 2, .ro, .num, 0, 0, 3⟩
def CASK_SURF_STAT_APRON : Field := ⟨186, 29, 1, .ro, .num, 0, 0, 1⟩
def CASK_SURF_STAT_REFS : Field := ⟨187, 14, 8, .ro, .num, 0, 0, 255⟩
def CASK_SURF_STAT_BLOCKS : Field := ⟨188, 0, 14, .ro, .num, 0, 0, 16383⟩
def CASK_POOL_STAT_FREE_BLOCKS : Field := ⟨189, 16, 16, .ro, .image, 0, 0, 65535⟩
def CASK_POOL_STAT_TOTAL_BLOCKS : Field := ⟨190, 0, 16, .ro, .image, 0, 0, 65535⟩
def CASK_SPARE_STAT_LOW : Field := ⟨191, 16, 1, .ro, .kept, 0, 0, 1⟩
def CASK_SPARE_STAT_SPARES_LEFT : Field := ⟨192, 0, 16, .ro, .kept, 16384, 0, 65535⟩
def CASK_ECC_CTL_CE_LIMIT : Field := ⟨193, 0, 8, .l, .image, 0, 0, 255⟩
def CASK_BW_CLASS_RATE : Field := ⟨194, 0, 16, .ro, .num, 0, 0, 65535⟩
def CASK_CNT_CE_CNT : Field := ⟨195, 0, 32, .rc, .num, 0, 0, 4294967295⟩
def CASK_CNT_UE_CNT : Field := ⟨196, 0, 32, .rc, .num, 0, 0, 4294967295⟩
def CASK_CNT_RETIRED_CNT : Field := ⟨197, 0, 32, .rc, .num, 0, 0, 4294967295⟩
def CASK_CNT_PLY_SKIP_CNT : Field := ⟨198, 0, 32, .rc, .num, 0, 0, 4294967295⟩
def CASK_CNT_ANC_TRUNC_CNT : Field := ⟨199, 0, 32, .rc, .num, 0, 0, 4294967295⟩
def STCH_HEAD_CFG_EN : Field := ⟨200, 31, 1, .l, .image, 0, 0, 1⟩
def STCH_HEAD_CFG_SAFETY : Field := ⟨201, 29, 2, .ro, .image, 0, 0, 3⟩
def STCH_HEAD_CFG_MATRIX : Field := ⟨202, 6, 1, .h, .image, 0, 0, 1⟩
def STCH_HEAD_CFG_FMT : Field := ⟨203, 0, 6, .s, .image, 0, 1, 21⟩
def STCH_HEAD_TIMING_OFFSET : Field := ⟨204, 0, 26, .s, .image, 0, 0, 67108863⟩
def STCH_HEAD_BG_Y : Field := ⟨205, 20, 10, .s, .image, 0, 0, 1023⟩
def STCH_HEAD_BG_CB : Field := ⟨206, 10, 10, .s, .image, 0, 0, 1023⟩
def STCH_HEAD_BG_CR : Field := ⟨207, 0, 10, .s, .image, 0, 0, 1023⟩
def STCH_HEAD_FILL_Y : Field := ⟨208, 20, 10, .s, .image, 0, 0, 1023⟩
def STCH_HEAD_FILL_CB : Field := ⟨209, 10, 10, .s, .image, 0, 0, 1023⟩
def STCH_HEAD_FILL_CR : Field := ⟨210, 0, 10, .s, .image, 0, 0, 1023⟩
def STCH_HEAD_STAT_RUNNING : Field := ⟨211, 31, 1, .ro, .num, 0, 0, 1⟩
def STCH_HEAD_STAT_TRANSITION : Field := ⟨212, 30, 1, .ro, .num, 0, 0, 1⟩
def STCH_HEAD_STAT_ABORTED : Field := ⟨213, 29, 1, .ro, .num, 0, 0, 1⟩
def STCH_HEAD_STAT_APRON_FORCED : Field := ⟨214, 28, 1, .ro, .num, 0, 0, 1⟩
def STCH_HEAD_STAT_APRON_SHOWN : Field := ⟨215, 27, 1, .ro, .num, 0, 0, 1⟩
def STCH_HEAD_STAT_SIG_FAIL : Field := ⟨216, 26, 1, .ro, .num, 0, 0, 1⟩
def STCH_HEAD_STAT_FENCED : Field := ⟨217, 25, 1, .ro, .num, 0, 0, 1⟩
def STCH_HEAD_STAT_FETCH : Field := ⟨218, 0, 16, .ro, .num, 0, 0, 65535⟩
def STCH_HEAD_CNT_UNDERRUN : Field := ⟨219, 24, 8, .rc, .num, 0, 0, 255⟩
def STCH_HEAD_CNT_APRON_UNDERRUN : Field := ⟨220, 16, 8, .rc, .num, 0, 0, 255⟩
def STCH_HEAD_CNT_SIG_MISMATCH : Field := ⟨221, 8, 8, .rc, .num, 0, 0, 255⟩
def STCH_HEAD_CNT_MODE_CHANGE : Field := ⟨222, 0, 8, .rc, .num, 0, 0, 255⟩
def STCH_LAYER_CTL_VISIBLE : Field := ⟨223, 31, 1, .s, .image, 0, 0, 1⟩
def STCH_LAYER_CTL_LOST_BLACK : Field := ⟨224, 30, 1, .s, .image, 0, 0, 1⟩
def STCH_LAYER_CTL_SRC_KIND : Field := ⟨225, 28, 2, .s, .image, 0, 0, 2⟩
def STCH_LAYER_CTL_FORMAT : Field := ⟨226, 25, 3, .s, .image, 0, 0, 4⟩
def STCH_LAYER_CTL_ROTATE : Field := ⟨227, 23, 2, .s, .image, 0, 0, 3⟩
def STCH_LAYER_CTL_MIRROR : Field := ⟨228, 22, 1, .s, .image, 0, 0, 1⟩
def STCH_LAYER_CTL_FILTER : Field := ⟨229, 20, 2, .s, .image, 0, 0, 2⟩
def STCH_LAYER_CTL_GLOBAL_ALPHA : Field := ⟨230, 0, 10, .s, .image, 0, 0, 1023⟩
def STCH_LAYER_POS_X : Field := ⟨231, 16, 16, .s, .image, 0, 0, 65535⟩
def STCH_LAYER_POS_Y : Field := ⟨232, 0, 16, .s, .image, 0, 0, 65535⟩
def STCH_LAYER_SIZE_W : Field := ⟨233, 16, 16, .s, .image, 0, 1, 4096⟩
def STCH_LAYER_SIZE_H : Field := ⟨234, 0, 16, .s, .image, 0, 1, 4096⟩
def STCH_LAYER_CROP_POS_CX : Field := ⟨235, 16, 16, .s, .image, 0, 0, 65535⟩
def STCH_LAYER_CROP_POS_CY : Field := ⟨236, 0, 16, .s, .image, 0, 0, 65535⟩
def STCH_LAYER_CROP_SIZE_CW : Field := ⟨237, 16, 16, .s, .image, 0, 1, 8192⟩
def STCH_LAYER_CROP_SIZE_CH : Field := ⟨238, 0, 16, .s, .image, 0, 1, 8192⟩
def STCH_LAYER_SRC_CTAB : Field := ⟨239, 16, 12, .s, .image, 0, 0, 4095⟩
def STCH_LAYER_SRC_INDEX : Field := ⟨240, 0, 12, .s, .image, 0, 0, 4095⟩
def STCH_LAYER_STRIDE_STRIDE : Field := ⟨241, 0, 10, .s, .image, 0, 1, 512⟩
def STCH_SIG_CTL_LEARN : Field := ⟨242, 20, 1, .w1s, .num, 0, 0, 1⟩
def STCH_SIG_CTL_MISMATCH_N : Field := ⟨243, 16, 4, .l, .image, 0, 1, 15⟩
def STCH_SIG_CTL_EN : Field := ⟨244, 0, 16, .s, .image, 0, 0, 65535⟩
def STCH_SIG_STAT_MISMATCH : Field := ⟨245, 0, 16, .ro, .num, 0, 0, 65535⟩
def STCH_SIG_POS_X : Field := ⟨246, 16, 16, .s, .image, 0, 0, 65535⟩
def STCH_SIG_POS_Y : Field := ⟨247, 0, 16, .s, .image, 0, 0, 65535⟩
def STCH_SIG_SIZE_W : Field := ⟨248, 16, 16, .s, .image, 0, 2, 65535⟩
def STCH_SIG_SIZE_H : Field := ⟨249, 0, 16, .s, .image, 0, 1, 65535⟩
def STCH_SIG_EXP_EXP : Field := ⟨250, 0, 32, .s, .image, 0, 0, 4294967295⟩
def STCH_SIG_VAL_VAL : Field := ⟨251, 0, 32, .ro, .num, 0, 0, 4294967295⟩
def STCH_APRON_STAT_ASSERTED : Field := ⟨252, 0, 4, .ro, .num, 0, 0, 15⟩
def MASH_CFG_RATE : Field := ⟨253, 16, 1, .ro, .image, 0, 0, 1⟩
def MASH_CFG_DELAY_CAP : Field := ⟨254, 0, 14, .ro, .image, 0, 0, 16383⟩
def MASH_SRC_AUDIO_UNLOCKED : Field := ⟨255, 31, 1, .ro, .num, 0, 0, 1⟩
def MASH_SRC_AUDIO_RATE_ERR : Field := ⟨256, 30, 1, .ro, .num, 0, 0, 1⟩
def MASH_SRC_AUDIO_COUNT : Field := ⟨257, 16, 5, .ro, .image, 0, 0, 31⟩
def MASH_SRC_AUDIO_BASE : Field := ⟨258, 0, 15, .ro, .image, 0, 0, 32767⟩
def MASH_DST_AUDIO_FOLLOW : Field := ⟨259, 31, 1, .h, .image, 0, 0, 1⟩
def MASH_DST_AUDIO_XFADE_MS : Field := ⟨260, 21, 5, .l, .image, 0, 0, 20⟩
def MASH_DST_AUDIO_COUNT : Field := ⟨261, 16, 5, .ro, .image, 0, 0, 31⟩
def MASH_DST_AUDIO_BASE : Field := ⟨262, 0, 15, .ro, .image, 0, 0, 32767⟩
def MASH_ROUTE_EN : Field := ⟨263, 31, 1, .s, .image, 0, 0, 1⟩
def MASH_ROUTE_FOLLOW : Field := ⟨264, 30, 1, .ro, .image, 0, 0, 1⟩
def MASH_ROUTE_INPUT : Field := ⟨265, 15, 15, .s, .image, 0, 0, 32767⟩
def MASH_ROUTE_SILENT : Field := ⟨266, 14, 1, .ro, .num, 0, 0, 1⟩
def MASH_ROUTE_GAIN : Field := ⟨267, 0, 11, .s, .image, 0, 0, 2047⟩
def MASH_OUT_DELAY_DELAY : Field := ⟨268, 0, 14, .s, .image, 0, 0, 16383⟩
def MASH_ROUTE_CTL_XFADE_MS : Field := ⟨269, 16, 5, .l, .image, 0, 0, 20⟩
def MASH_ROUTE_CTL_ZC_TIMEOUT : Field := ⟨270, 0, 6, .l, .image, 0, 1, 50⟩
def MASH_BUSIN_EN : Field := ⟨271, 31, 1, .s, .image, 0, 0, 1⟩
def MASH_BUSIN_MUTED : Field := ⟨272, 30, 1, .ro, .num, 0, 0, 1⟩
def MASH_BUSIN_INPUT : Field := ⟨273, 15, 15, .s, .image, 0, 0, 32767⟩
def MASH_BUSIN_GAIN : Field := ⟨274, 0, 11, .s, .image, 0, 0, 2047⟩
def MASH_BUSIN_MAP_ASSIGNED : Field := ⟨275, 8, 1, .ro, .image, 0, 0, 1⟩
def MASH_BUSIN_MAP_BUS : Field := ⟨276, 0, 8, .ro, .image, 0, 0, 255⟩
def MASH_BUS_FADER_RAMP_MS : Field := ⟨277, 16, 11, .s, .image, 0, 0, 2000⟩
def MASH_BUS_FADER_TARGET : Field := ⟨278, 0, 11, .s, .image, 0, 0, 2047⟩
def MASH_BUS_DYN_A_EN : Field := ⟨279, 31, 1, .s, .image, 0, 0, 1⟩
def MASH_BUS_DYN_A_RATIO : Field := ⟨280, 10, 8, .s, .image, 0, 0, 255⟩
def MASH_BUS_DYN_A_THRESH : Field := ⟨281, 0, 10, .s, .image, 0, 0, 600⟩
def MASH_BUS_DYN_B_ATTACK : Field := ⟨282, 16, 12, .s, .image, 0, 1, 4000⟩
def MASH_BUS_DYN_B_RELEASE : Field := ⟨283, 0, 13, .s, .image, 0, 5, 5000⟩
def MASH_BUS_STAT_RAMPING : Field := ⟨284, 31, 1, .ro, .num, 0, 0, 1⟩
def MASH_BUS_STAT_FENCED : Field := ⟨285, 30, 1, .ro, .num, 0, 0, 1⟩
def MASH_BUS_STAT_LEVEL : Field := ⟨286, 16, 11, .ro, .num, 0, 0, 2047⟩
def MASH_BUS_STAT_GR : Field := ⟨287, 8, 8, .ro, .num, 0, 0, 255⟩
def MASH_BUS_STAT_CLIP : Field := ⟨288, 0, 8, .rc, .num, 0, 0, 255⟩
def MASH_ENG_CTL_SWAP : Field := ⟨289, 1, 1, .w1s, .num, 0, 0, 1⟩
def MASH_ENG_CTL_HOLD : Field := ⟨290, 0, 1, .l, .num, 0, 0, 1⟩
def MASH_ENG_STAT_SHADOW_DIRTY : Field := ⟨291, 31, 1, .ro, .num, 0, 0, 1⟩
def MASH_ENG_STAT_ENTRY_HELD : Field := ⟨292, 30, 1, .ro, .num, 0, 0, 1⟩
def MASH_ENG_STAT_SWAPS : Field := ⟨293, 0, 30, .ro, .num, 0, 0, 1073741823⟩
def MASH_CNT_RATE_ERR_CNT : Field := ⟨294, 0, 32, .rc, .num, 0, 0, 4294967295⟩
def MASH_CNT_ANC_DROP_CNT : Field := ⟨295, 0, 32, .rc, .num, 0, 0, 4294967295⟩
def MASH_CNT_OUT_SAT_CNT : Field := ⟨296, 0, 32, .rc, .num, 0, 0, 4294967295⟩
def MASH_CNT_ZC_TIMEOUT_CNT : Field := ⟨297, 0, 32, .rc, .num, 0, 0, 4294967295⟩
def MASH_CNT_BUS_UNLOCK_CNT : Field := ⟨298, 0, 32, .rc, .num, 0, 0, 4294967295⟩
def MASH_CNT_XFADE_SHORT_CNT : Field := ⟨299, 0, 32, .rc, .num, 0, 0, 4294967295⟩
def MASH_CNT_SLIP_CNT : Field := ⟨300, 0, 32, .rc, .num, 0, 0, 4294967295⟩
def APRT_PORT_CTL_EN : Field := ⟨301, 31, 1, .l, .image, 0, 0, 1⟩
def APRT_PORT_CTL_CLK_MODE : Field := ⟨302, 29, 2, .h, .image, 0, 0, 2⟩
def APRT_PORT_CTL_FOLLOW_KIND : Field := ⟨303, 28, 1, .h, .image, 0, 0, 1⟩
def APRT_PORT_CTL_FOLLOW_BW : Field := ⟨304, 26, 2, .h, .image, 0, 0, 2⟩
def APRT_PORT_CTL_CH64 : Field := ⟨305, 25, 1, .h, .image, 0, 0, 1⟩
def APRT_PORT_CTL_FOLLOW_IDX : Field := ⟨306, 8, 11, .h, .image, 0, 0, 1167⟩
def APRT_PORT_CTL_PREROLL_N : Field := ⟨307, 0, 8, .h, .image, 0, 8, 255⟩
def APRT_TDM_FMT_SLOTS : Field := ⟨308, 5, 3, .h, .image, 0, 0, 4⟩
def APRT_TDM_FMT_FS_WIDTH : Field := ⟨309, 4, 1, .h, .image, 0, 0, 1⟩
def APRT_TDM_FMT_FS_POL : Field := ⟨310, 3, 1, .h, .image, 0, 0, 1⟩
def APRT_TDM_FMT_DELAY : Field := ⟨311, 2, 1, .h, .image, 0, 0, 1⟩
def APRT_TDM_FMT_EDGE : Field := ⟨312, 1, 1, .h, .image, 0, 0, 1⟩
def APRT_TDM_FMT_TRISTATE : Field := ⟨313, 0, 1, .h, .image, 0, 0, 1⟩
def APRT_BIND_RX_BASE : Field := ⟨314, 16, 15, .ro, .image, 0, 0, 32767⟩
def APRT_BIND_TX_BASE : Field := ⟨315, 0, 15, .ro, .image, 0, 0, 32767⟩
def APRT_MASK_LO_MASK : Field := ⟨316, 0, 32, .s, .image, 0, 0, 4294967295⟩
def APRT_MASK_HI_MASK : Field := ⟨317, 0, 32, .s, .image, 0, 0, 4294967295⟩
def APRT_MASK_STG_LO_MASK : Field := ⟨318, 0, 32, .ro, .image, 0, 0, 4294967295⟩
def APRT_MASK_STG_HI_MASK : Field := ⟨319, 0, 32, .ro, .image, 0, 0, 4294967295⟩
def APRT_PORT_STAT_STATE : Field := ⟨320, 29, 3, .ro, .num, 0, 0, 7⟩
def APRT_PORT_STAT_CLK_PRESENT : Field := ⟨321, 28, 1, .ro, .num, 0, 0, 1⟩
def APRT_PORT_STAT_MASK_PENDING : Field := ⟨322, 27, 1, .ro, .num, 0, 0, 1⟩
def APRT_PORT_STAT_FILL : Field := ⟨323, 20, 6, .ro, .num, 0, 0, 63⟩
def APRT_PORT_STAT_PPM : Field := ⟨324, 0, 20, .ro, .num, 0, 0, 1048575⟩
def APRT_CNT_SLIP_CNT : Field := ⟨325, 0, 32, .rc, .num, 0, 0, 4294967295⟩
def APRT_CNT_GLITCH_CNT : Field := ⟨326, 0, 32, .rc, .num, 0, 0, 4294967295⟩
def APRT_CNT_CLK_STOP_CNT : Field := ⟨327, 0, 32, .rc, .num, 0, 0, 4294967295⟩
def APRT_CNT_UNLOCK_CNT : Field := ⟨328, 0, 32, .rc, .num, 0, 0, 4294967295⟩
def APRT_CNT_PARITY_CNT : Field := ⟨329, 0, 32, .rc, .num, 0, 0, 4294967295⟩
def KILN_STAT_STATE : Field := ⟨330, 29, 3, .ro, .kept, 0, 0, 7⟩
def KILN_STAT_TIME_VALID : Field := ⟨331, 28, 1, .ro, .kept, 0, 0, 1⟩
def KILN_STAT_TRACEABLE : Field := ⟨332, 27, 1, .ro, .kept, 0, 0, 1⟩
def KILN_STAT_OSC_XO : Field := ⟨333, 26, 1, .ro, .kept, 0, 0, 1⟩
def KILN_STAT_SLEWING : Field := ⟨334, 25, 1, .ro, .kept, 0, 0, 1⟩
def KILN_STAT_HO_EXPIRED : Field := ⟨335, 24, 1, .ro, .kept, 0, 0, 1⟩
def KILN_STAT_STEP_PENDING : Field := ⟨336, 23, 1, .ro, .num, 0, 0, 1⟩
def KILN_STAT_MODEL_VALID : Field := ⟨337, 22, 1, .ro, .kept, 0, 0, 1⟩
def KILN_STAT_SELECTED : Field := ⟨338, 16, 6, .ro, .kept, 63, 0, 63⟩
def KILN_TEB_TEB : Field := ⟨339, 0, 32, .ro, .kept, 4294967295, 0, 4294967295⟩
def KILN_OFFSET_REM_A : Field := ⟨340, 0, 32, .ro, .kept, 0, 0, 4294967295⟩
def KILN_HO_ELAPSED_SECONDS : Field := ⟨341, 0, 32, .ro, .kept, 0, 0, 4294967295⟩
def KILN_HO_REMAIN_SECONDS : Field := ⟨342, 0, 32, .ro, .kept, 4294967295, 0, 4294967295⟩
def KILN_HO_LIMIT_LIMIT : Field := ⟨343, 0, 32, .l, .image, 0, 10, 1000000000⟩
def KILN_SEL_CTL_REVERT : Field := ⟨344, 31, 1, .l, .image, 0, 0, 1⟩
def KILN_SEL_CTL_MANUAL_EN : Field := ⟨345, 30, 1, .l, .image, 0, 0, 1⟩
def KILN_SEL_CTL_MANUAL : Field := ⟨346, 24, 6, .l, .image, 0, 0, 43⟩
def KILN_REF_ORDER_0_ENTRY_0 : Field := ⟨347, 0, 6, .l, .image, 0, 0, 63⟩
def KILN_REF_ORDER_0_ENTRY_1 : Field := ⟨348, 8, 6, .l, .image, 0, 0, 63⟩
def KILN_REF_ORDER_0_ENTRY_2 : Field := ⟨349, 16, 6, .l, .image, 0, 0, 63⟩
def KILN_REF_ORDER_0_ENTRY_3 : Field := ⟨350, 24, 6, .l, .image, 0, 0, 63⟩
def KILN_REF_ORDER_1_ENTRY_0 : Field := ⟨351, 0, 6, .l, .image, 0, 0, 63⟩
def KILN_REF_ORDER_1_ENTRY_1 : Field := ⟨352, 8, 6, .l, .image, 0, 0, 63⟩
def KILN_REF_ORDER_1_ENTRY_2 : Field := ⟨353, 16, 6, .l, .image, 0, 0, 63⟩
def KILN_REF_ORDER_1_ENTRY_3 : Field := ⟨354, 24, 6, .l, .image, 0, 0, 63⟩
def KILN_SLEW_THRESH : Field := ⟨355, 12, 20, .l, .image, 0, 0, 1048575⟩
def KILN_SLEW_STEP_EN : Field := ⟨356, 8, 1, .l, .image, 0, 0, 1⟩
def KILN_SLEW_RATE : Field := ⟨357, 0, 7, .l, .image, 0, 1, 100⟩
def KILN_LOOP_ERR : Field := ⟨358, 2, 30, .ro, .num, 0, 0, 1073741823⟩
def KILN_LOOP_BW : Field := ⟨359, 0, 2, .l, .image, 0, 0, 3⟩
def KILN_CFG_START_WAIT : Field := ⟨360, 24, 8, .ro, .image, 0, 0, 255⟩
def KILN_CFG_CAL_NS : Field := ⟨361, 16, 8, .ro, .image, 0, 0, 255⟩
def KILN_CFG_FREQ_LIM : Field := ⟨362, 0, 16, .ro, .image, 0, 0, 65535⟩
def KILN_CFG_2_XO_UNC : Field := ⟨363, 0, 32, .ro, .image, 0, 0, 4294967295⟩
def KILN_CFG_3_MODEL_DAYS : Field := ⟨364, 0, 5, .ro, .image, 0, 0, 31⟩
def KILN_REF_CFG_EN : Field := ⟨365, 31, 1, .l, .image, 0, 0, 1⟩
def KILN_REF_CFG_QUAL_S : Field := ⟨366, 16, 8, .l, .image, 0, 1, 255⟩
def KILN_REF_CFG_CAL : Field := ⟨367, 0, 16, .l, .image, 0, 0, 65535⟩
def KILN_REF_ACC_ACC : Field := ⟨368, 0, 32, .l, .image, 0, 0, 4294967295⟩
def KILN_REF_STAT_STATE : Field := ⟨369, 29, 3, .ro, .num, 0, 0, 7⟩
def KILN_REF_STAT_QUAL_LEFT : Field := ⟨370, 0, 8, .ro, .num, 0, 0, 255⟩
def KILN_REF_OFFSET_DELTA : Field := ⟨371, 0, 32, .ro, .num, 0, 0, 4294967295⟩
def KILN_REF_CNT_DISQUAL : Field := ⟨372, 16, 16, .rc, .num, 0, 0, 65535⟩
def KILN_REF_CNT_REJECT : Field := ⟨373, 0, 16, .rc, .num, 0, 0, 65535⟩
def KILN_PPS_CFG_WIN : Field := ⟨374, 12, 20, .l, .image, 0, 10, 1000000⟩
def KILN_PPS_CFG_FREQ : Field := ⟨375, 8, 4, .l, .image, 0, 0, 2⟩
def KILN_PPS_CFG_EDGE : Field := ⟨376, 0, 1, .l, .image, 0, 0, 1⟩
def KILN_VREF_CFG_WIN : Field := ⟨377, 12, 20, .l, .image, 0, 10, 1000000⟩
def KILN_VREF_CFG_FAMILY : Field := ⟨378, 8, 4, .l, .image, 0, 0, 4⟩
def KILN_VREF_CFG_DIV : Field := ⟨379, 1, 7, .l, .image, 0, 1, 2⟩
def KILN_VREF_CFG_EDGE : Field := ⟨380, 0, 1, .l, .image, 0, 0, 1⟩
def KILN_VREF_OFS_OFS : Field := ⟨381, 0, 32, .l, .image, 0, 0, 4294967295⟩
def KILN_OSC_CFG_CLASS : Field := ⟨382, 30, 2, .ro, .image, 0, 0, 3⟩
def KILN_OSC_CFG_DAC_BITS : Field := ⟨383, 24, 5, .ro, .image, 0, 0, 31⟩
def KILN_OSC_CFG_DAC_GAIN : Field := ⟨384, 0, 24, .ro, .image, 0, 0, 16777215⟩
def KILN_OSC_DAC_VALUE : Field := ⟨385, 0, 24, .ro, .kept, 0, 0, 16777215⟩
def KILN_OSC_TEMP_TEMP : Field := ⟨386, 0, 16, .ro, .num, 0, 0, 65535⟩
def KILN_MODEL_Y0_VALUE : Field := ⟨387, 0, 32, .ro, .kept, 0, 0, 4294967295⟩
def KILN_MODEL_AGING_VALUE : Field := ⟨388, 0, 32, .ro, .kept, 0, 0, 4294967295⟩
def KILN_MODEL_TC_VALUE : Field := ⟨389, 0, 32, .ro, .kept, 0, 0, 4294967295⟩
def KILN_MODEL_UY_VALUE : Field := ⟨390, 0, 32, .ro, .kept, 0, 0, 4294967295⟩
def KILN_MODEL_UD_VALUE : Field := ⟨391, 0, 32, .ro, .kept, 0, 0, 4294967295⟩
def KILN_MODEL_UC_VALUE : Field := ⟨392, 0, 32, .ro, .kept, 0, 0, 4294967295⟩
def KILN_TOUT_CTL_MODE : Field := ⟨393, 29, 3, .s, .image, 0, 0, 4⟩
def KILN_TOUT_CTL_POL : Field := ⟨394, 28, 1, .s, .image, 0, 0, 1⟩
def KILN_TOUT_CTL_LATE : Field := ⟨395, 27, 1, .ro, .num, 0, 0, 1⟩
def KILN_TOUT_CTL_FAMILY : Field := ⟨396, 24, 3, .s, .image, 0, 0, 4⟩
def KILN_TOUT_CTL_DIV : Field := ⟨397, 16, 8, .s, .image, 0, 0, 255⟩
def KILN_TOUT_CTL_CAL : Field := ⟨398, 8, 8, .s, .image, 0, 0, 255⟩
def KILN_TOUT_START_START : Field := ⟨399, 0, 64, .s, .image, 0, 0, 18446744073709551615⟩
def KILN_TOUT_PERIOD_PERIOD : Field := ⟨400, 0, 32, .s, .image, 0, 0, 4294967295⟩
def KILN_TOUT_WIDTH_WIDTH : Field := ⟨401, 0, 32, .s, .image, 0, 0, 4294967295⟩
def KILN_CLK_CTL_EN : Field := ⟨402, 31, 1, .s, .image, 0, 0, 1⟩
def KILN_CLK_CTL_ALIGN : Field := ⟨403, 28, 3, .s, .image, 0, 0, 5⟩
def KILN_CLK_CTL_DEN : Field := ⟨404, 0, 16, .s, .image, 0, 1, 65535⟩
def KILN_CLK_NUM_NUM : Field := ⟨405, 0, 32, .s, .image, 0, 1, 4294967295⟩
def KILN_EVT_CFG_EDGE : Field := ⟨406, 16, 2, .l, .image, 0, 0, 3⟩
def KILN_EVT_CFG_CAL : Field := ⟨407, 0, 16, .l, .image, 0, 0, 65535⟩
def KILN_EVT_CAP_0_EMPTY : Field := ⟨408, 31, 1, .ro, .num, 0, 0, 1⟩
def KILN_EVT_CAP_0_EDGE : Field := ⟨409, 30, 1, .ro, .num, 0, 0, 1⟩
def KILN_EVT_CAP_0_FRAC : Field := ⟨410, 0, 16, .ro, .num, 0, 0, 65535⟩
def KILN_EVT_CAP_1_NS : Field := ⟨411, 0, 32, .ro, .num, 0, 0, 4294967295⟩
def KILN_EVT_CAP_2_SEC : Field := ⟨412, 0, 32, .ro, .num, 0, 0, 4294967295⟩
def KILN_EVT_STAT_OVF : Field := ⟨413, 0, 8, .w1c, .num, 0, 0, 255⟩
def KILN_UTC_SRC : Field := ⟨414, 30, 2, .ro, .image, 0, 0, 3⟩
def KILN_UTC_LEAP61 : Field := ⟨415, 9, 1, .l, .image, 0, 0, 1⟩
def KILN_UTC_LEAP59 : Field := ⟨416, 8, 1, .l, .image, 0, 0, 1⟩
def KILN_UTC_UTC_OFFSET : Field := ⟨417, 0, 8, .l, .image, 0, 0, 255⟩
def KILN_SET_CTL_GO : Field := ⟨418, 0, 1, .w1s, .num, 0, 0, 1⟩
def KILN_CNT_EVT_LOST_CNT : Field := ⟨419, 0, 32, .rc, .num, 0, 0, 4294967295⟩
def KILN_CNT_OSC_GLITCH_CNT : Field := ⟨420, 0, 32, .rc, .num, 0, 0, 4294967295⟩
def KILN_NOW_SEC_LO_SEC : Field := ⟨421, 0, 32, .ro, .kept, 0, 0, 4294967295⟩
def KILN_NOW_SEC_HI_SEC : Field := ⟨422, 0, 16, .ro, .kept, 0, 0, 65535⟩
def KILN_NOW_NS_NS : Field := ⟨423, 0, 30, .ro, .kept, 0, 0, 1073741823⟩
def KILN_NOW_FRAC_FRAC : Field := ⟨424, 0, 16, .ro, .kept, 0, 0, 65535⟩
def KILN_COUNT_COUNT : Field := ⟨425, 0, 64, .ro, .kept, 0, 0, 18446744073709551615⟩
def KILN_SET_SEC_LO_SEC : Field := ⟨426, 0, 32, .l, .num, 0, 0, 4294967295⟩
def KILN_SET_SEC_HI_SEC : Field := ⟨427, 0, 16, .l, .num, 0, 0, 65535⟩
def KILN_SET_NS_NS : Field := ⟨428, 0, 30, .l, .num, 0, 0, 1073741823⟩
def GNSS_CTL_EN : Field := ⟨429, 31, 1, .l, .image, 0, 0, 1⟩
def GNSS_CTL_SELFTEST : Field := ⟨430, 30, 1, .w1s, .num, 0, 0, 1⟩
def GNSS_CTL_POS_MODE : Field := ⟨431, 28, 2, .l, .kept, 0, 0, 2⟩
def GNSS_CTL_TIMESCALE : Field := ⟨432, 26, 2, .h, .image, 0, 0, 2⟩
def GNSS_CTL_MEAS_MS : Field := ⟨433, 24, 2, .h, .image, 0, 0, 2⟩
def GNSS_CTL_SIG_EN : Field := ⟨434, 0, 6, .h, .image, 0, 0, 63⟩
def GNSS_IF_CFG_A_RATE : Field := ⟨435, 31, 1, .h, .image, 0, 0, 1⟩
def GNSS_IF_CFG_A_SWAP_IQ : Field := ⟨436, 30, 1, .h, .image, 0, 0, 1⟩
def GNSS_IF_CFG_A_CLK_OK : Field := ⟨437, 29, 1, .ro, .num, 0, 0, 1⟩
def GNSS_IF_CFG_A_IF_FREQ : Field := ⟨438, 0, 26, .h, .image, 0, 0, 67108863⟩
def GNSS_IF_CFG_B_RATE : Field := ⟨439, 31, 1, .h, .image, 0, 0, 1⟩
def GNSS_IF_CFG_B_SWAP_IQ : Field := ⟨440, 30, 1, .h, .image, 0, 0, 1⟩
def GNSS_IF_CFG_B_CLK_OK : Field := ⟨441, 29, 1, .ro, .num, 0, 0, 1⟩
def GNSS_IF_CFG_B_IF_FREQ : Field := ⟨442, 0, 26, .h, .image, 0, 0, 67108863⟩
def GNSS_STAT_STATE : Field := ⟨443, 29, 3, .ro, .num, 0, 0, 7⟩
def GNSS_STAT_START : Field := ⟨444, 27, 2, .ro, .num, 0, 0, 3⟩
def GNSS_STAT_TRUSTED : Field := ⟨445, 26, 1, .ro, .num, 0, 0, 1⟩
def GNSS_STAT_SOL_VALID : Field := ⟨446, 25, 1, .ro, .num, 0, 0, 1⟩
def GNSS_STAT_DUAL : Field := ⟨447, 24, 1, .ro, .num, 0, 0, 1⟩
def GNSS_STAT_SURVEYED : Field := ⟨448, 23, 1, .ro, .kept, 0, 0, 1⟩
def GNSS_STAT_LOCKED : Field := ⟨449, 16, 7, .ro, .num, 0, 0, 127⟩
def GNSS_STAT_USED : Field := ⟨450, 8, 8, .ro, .num, 0, 0, 255⟩
def GNSS_STAT_TRUST_LEFT : Field := ⟨451, 0, 8, .ro, .num, 0, 0, 255⟩
def GNSS_TEB_TEB_G : Field := ⟨452, 0, 32, .ro, .num, 4294967295, 0, 4294967295⟩
def GNSS_TRACK_CFG_A_DLL_BW : Field := ⟨453, 24, 8, .s, .image, 0, 1, 255⟩
def GNSS_TRACK_CFG_A_PLL_BW : Field := ⟨454, 19, 5, .s, .image, 0, 2, 30⟩
def GNSS_TRACK_CFG_A_FLL_BW : Field := ⟨455, 15, 4, .s, .image, 0, 1, 10⟩
def GNSS_TRACK_CFG_A_T_COH : Field := ⟨456, 12, 3, .s, .image, 0, 0, 4⟩
def GNSS_TRACK_CFG_A_SPACING : Field := ⟨457, 10, 2, .s, .image, 0, 0, 3⟩
def GNSS_TRACK_CFG_A_LOSS_CN0 : Field := ⟨458, 0, 6, .s, .image, 0, 15, 40⟩
def GNSS_TRACK_CFG_B_DLL_BW : Field := ⟨459, 24, 8, .s, .image, 0, 1, 255⟩
def GNSS_TRACK_CFG_B_PLL_BW : Field := ⟨460, 19, 5, .s, .image, 0, 2, 30⟩
def GNSS_TRACK_CFG_B_FLL_BW : Field := ⟨461, 15, 4, .s, .image, 0, 1, 10⟩
def GNSS_TRACK_CFG_B_T_COH : Field := ⟨462, 12, 3, .s, .image, 0, 0, 4⟩
def GNSS_TRACK_CFG_B_SPACING : Field := ⟨463, 10, 2, .s, .image, 0, 0, 3⟩
def GNSS_TRACK_CFG_B_LOSS_CN0 : Field := ⟨464, 0, 6, .s, .image, 0, 15, 40⟩
def GNSS_CH_STAT_FAULTY : Field := ⟨465, 31, 1, .ro, .kept, 0, 0, 1⟩
def GNSS_CH_STAT_STATE : Field := ⟨466, 28, 3, .ro, .num, 0, 0, 7⟩
def GNSS_CH_STAT_EXCLUDED : Field := ⟨467, 27, 1, .ro, .num, 0, 0, 1⟩
def GNSS_CH_STAT_SIG : Field := ⟨468, 24, 3, .ro, .num, 0, 0, 7⟩
def GNSS_CH_STAT_PRN : Field := ⟨469, 16, 8, .ro, .num, 0, 0, 255⟩
def GNSS_CH_STAT_CN0 : Field := ⟨470, 0, 16, .ro, .num, 0, 0, 65535⟩
def GNSS_SV_EXCL_PRN_LO : Field := ⟨471, 0, 32, .l, .image, 0, 0, 4294967295⟩
def GNSS_SV_EXCL_HI_PRN_HI : Field := ⟨472, 0, 31, .l, .image, 0, 0, 2147483647⟩
def GNSS_MEAS_PTR_NEWEST : Field := ⟨473, 0, 4, .ro, .num, 0, 0, 15⟩
def GNSS_POS_X_POS : Field := ⟨474, 0, 64, .l, .kept, 0, 0, 18446744073709551615⟩
def GNSS_POS_Y_POS : Field := ⟨475, 0, 64, .l, .kept, 0, 0, 18446744073709551615⟩
def GNSS_POS_Z_POS : Field := ⟨476, 0, 64, .l, .kept, 0, 0, 18446744073709551615⟩
def GNSS_POS_UNC_UNC : Field := ⟨477, 0, 32, .l, .kept, 0, 0, 4294967295⟩
def GNSS_SURVEY_SURVEY_S : Field := ⟨478, 15, 17, .l, .image, 0, 60, 86400⟩
def GNSS_SURVEY_ELEV_MASK : Field := ⟨479, 6, 9, .l, .image, 0, 0, 90⟩
def GNSS_CFG_SURVEY_UNC : Field := ⟨480, 18, 14, .l, .image, 0, 100, 10000⟩
def GNSS_CFG_CELLAR_NAV_H : Field := ⟨481, 13, 5, .l, .image, 0, 1, 24⟩
def GNSS_CFG_IONO_UNC : Field := ⟨482, 6, 7, .l, .image, 0, 0, 127⟩
def GNSS_CFG_CAL_UNC : Field := ⟨483, 0, 6, .l, .image, 0, 0, 63⟩
def GNSS_INTEG_CFG_0_RES_LIM : Field := ⟨484, 24, 8, .l, .image, 0, 1, 255⟩
def GNSS_INTEG_CFG_0_MAX_EXCL : Field := ⟨485, 22, 2, .l, .image, 0, 0, 3⟩
def GNSS_INTEG_CFG_0_MIN_SV : Field := ⟨486, 18, 4, .l, .image, 0, 4, 12⟩
def GNSS_INTEG_CFG_0_CN0_MAX : Field := ⟨487, 12, 6, .l, .image, 0, 40, 63⟩
def GNSS_INTEG_CFG_0_CN0_SD_MIN : Field := ⟨488, 6, 6, .l, .image, 0, 0, 63⟩
def GNSS_INTEG_CFG_0_NOISE_LIM : Field := ⟨489, 0, 6, .l, .image, 0, 1, 20⟩
def GNSS_INTEG_CFG_1_DOP_LIM : Field := ⟨490, 24, 8, .l, .image, 0, 1, 255⟩
def GNSS_INTEG_CFG_1_ISB_LIM : Field := ⟨491, 16, 8, .l, .image, 0, 1, 255⟩
def GNSS_INTEG_CFG_1_CLK_LIM : Field := ⟨492, 10, 6, .l, .image, 0, 1, 63⟩
def GNSS_INTEG_CFG_1_FREQ_MARGIN : Field := ⟨493, 4, 6, .l, .image, 0, 1, 63⟩
def GNSS_INTEG_CFG_2_TRUST_S : Field := ⟨494, 0, 12, .l, .image, 0, 10, 3600⟩
def GNSS_INTEG_STAT_SKIPPED : Field := ⟨495, 16, 6, .ro, .num, 0, 0, 63⟩
def GNSS_INTEG_STAT_FAILING : Field := ⟨496, 8, 6, .ro, .num, 0, 0, 63⟩
def GNSS_INTEG_STAT_CAUSE : Field := ⟨497, 0, 6, .w1c, .num, 0, 0, 63⟩
def GNSS_CNT_CLK_GLITCH_A_CNT : Field := ⟨498, 0, 32, .rc, .num, 0, 0, 4294967295⟩
def GNSS_CNT_CLK_GLITCH_B_CNT : Field := ⟨499, 0, 32, .rc, .num, 0, 0, 4294967295⟩
def GNSS_CNT_EXCL_CNT : Field := ⟨500, 0, 32, .rc, .num, 0, 0, 4294967295⟩
def GNSS_CNT_UNTRUST_CNT : Field := ⟨501, 0, 32, .rc, .num, 0, 0, 4294967295⟩
def GNSS_CNT_LOCK_LOSS_CNT : Field := ⟨502, 0, 32, .rc, .num, 0, 0, 4294967295⟩
def TSVC_CFG_PRIORITY1 : Field := ⟨503, 24, 8, .l, .image, 0, 0, 255⟩
def TSVC_CFG_PRIORITY2 : Field := ⟨504, 16, 8, .l, .image, 0, 0, 255⟩
def TSVC_CFG_DEGRADED_CLASS : Field := ⟨505, 8, 8, .l, .image, 0, 0, 255⟩
def TSVC_CFG_PORT_UNC : Field := ⟨506, 4, 4, .ro, .image, 0, 0, 15⟩
def TSVC_ORG_ID_ORG_ID : Field := ⟨507, 0, 24, .ro, .image, 0, 0, 16777215⟩
def TSVC_STAT_BC : Field := ⟨508, 0, 1, .ro, .num, 0, 0, 1⟩
def TSVC_CLOCK_ID_ID : Field := ⟨509, 0, 64, .ro, .image, 0, 0, 18446744073709551615⟩
def TSVC_PORT_CFG_ROLE : Field := ⟨510, 30, 2, .l, .image, 0, 0, 2⟩
def TSVC_PORT_CFG_MCAST : Field := ⟨511, 29, 1, .h, .image, 0, 0, 1⟩
def TSVC_PORT_CFG_UNICAST : Field := ⟨512, 28, 1, .h, .image, 0, 0, 1⟩
def TSVC_PORT_CFG_AUTH : Field := ⟨513, 27, 1, .h, .image, 0, 0, 1⟩
def TSVC_PORT_CFG_GKEY : Field := ⟨514, 24, 3, .h, .image, 0, 0, 7⟩
def TSVC_PORT_CFG_DOMAIN : Field := ⟨515, 16, 8, .h, .image, 0, 0, 127⟩
def TSVC_PORT_CFG_ACC_CLASS : Field := ⟨516, 8, 8, .l, .image, 0, 0, 255⟩
def TSVC_PORT_CFG_NTP_EN : Field := ⟨517, 7, 1, .l, .image, 0, 0, 1⟩
def TSVC_NEG_CFG_SYNC_MIN : Field := ⟨518, 28, 4, .l, .image, 0, 0, 15⟩
def TSVC_NEG_CFG_SYNC_MAX : Field := ⟨519, 24, 4, .l, .image, 0, 0, 15⟩
def TSVC_NEG_CFG_ANN_MIN : Field := ⟨520, 20, 4, .l, .image, 0, 0, 15⟩
def TSVC_NEG_CFG_ANN_MAX : Field := ⟨521, 16, 4, .l, .image, 0, 0, 15⟩
def TSVC_NEG_CFG_DR_MIN : Field := ⟨522, 12, 4, .l, .image, 0, 0, 15⟩
def TSVC_NEG_CFG_DR_MAX : Field := ⟨523, 8, 4, .l, .image, 0, 0, 15⟩
def TSVC_NEG_LIM_MAX_DUR : Field := ⟨524, 22, 10, .l, .image, 0, 10, 1000⟩
def TSVC_NEG_LIM_PPS_LIM : Field := ⟨525, 0, 12, .ro, .image, 0, 0, 4095⟩
def TSVC_PORT_STAT_STATE : Field := ⟨526, 29, 3, .ro, .num, 0, 0, 7⟩
def TSVC_PORT_STAT_RESV : Field := ⟨527, 0, 24, .ro, .num, 0, 0, 16777215⟩
def TSVC_RESV_TOTAL_RESV : Field := ⟨528, 0, 25, .ro, .num, 0, 0, 33554431⟩
def TSVC_PORT_CAL_TX_CAL : Field := ⟨529, 16, 16, .l, .image, 0, 0, 65535⟩
def TSVC_PORT_CAL_RX_CAL : Field := ⟨530, 0, 16, .l, .image, 0, 0, 65535⟩
def TSVC_SESS_SEL_INDEX : Field := ⟨531, 0, 20, .l, .num, 0, 0, 1048575⟩
def TSVC_SESS_CMD_BUSY : Field := ⟨532, 31, 1, .ro, .num, 0, 0, 1⟩
def TSVC_SESS_CMD_WR_KEY_B : Field := ⟨533, 4, 1, .l, .num, 0, 0, 1⟩
def TSVC_SESS_CMD_WR_KEY_A : Field := ⟨534, 3, 1, .l, .num, 0, 0, 1⟩
def TSVC_SESS_CMD_INVALIDATE : Field := ⟨535, 2, 1, .w1s, .num, 0, 0, 1⟩
def TSVC_SESS_CMD_WRITE : Field := ⟨536, 1, 1, .w1s, .num, 0, 0, 1⟩
def TSVC_SESS_CMD_READ : Field := ⟨537, 0, 1, .w1s, .num, 0, 0, 1⟩
def TSVC_SESS_DATA_DATA : Field := ⟨538, 0, 32, .l, .num, 0, 0, 4294967295⟩
def TSVC_KEY_STAGE_DATA : Field := ⟨539, 0, 32, .l, .num, 0, 0, 4294967295⟩
def TSVC_KEY_ID_ID : Field := ⟨540, 0, 32, .l, .num, 0, 0, 4294967295⟩
def TSVC_KEY_LOAD_GO : Field := ⟨541, 31, 1, .w1s, .num, 0, 0, 1⟩
def TSVC_KEY_LOAD_TARGET : Field := ⟨542, 8, 1, .l, .num, 0, 0, 1⟩
def TSVC_KEY_LOAD_SLOT : Field := ⟨543, 0, 3, .l, .num, 0, 0, 7⟩
def TSVC_GKEY_STAT_LOADED : Field := ⟨544, 31, 1, .ro, .num, 0, 0, 1⟩
def TSVC_GKEY_STAT_KCV : Field := ⟨545, 0, 24, .ro, .num, 0, 0, 16777215⟩
def TSVC_NTS_MKEY_STAT_EN : Field := ⟨546, 31, 1, .l, .num, 0, 0, 1⟩
def TSVC_NTS_MKEY_STAT_ISSUE : Field := ⟨547, 30, 1, .l, .num, 0, 0, 1⟩
def TSVC_NTS_MKEY_STAT_KCV : Field := ⟨548, 0, 24, .ro, .num, 0, 0, 16777215⟩
def TSVC_NTP_CFG_PLAIN_EN : Field := ⟨549, 31, 1, .l, .image, 0, 0, 1⟩
def TSVC_NTP_CFG_NTS_EN : Field := ⟨550, 30, 1, .l, .image, 0, 0, 1⟩
def TSVC_GKEY_ID_ID : Field := ⟨551, 0, 32, .ro, .num, 0, 0, 4294967295⟩
def TSVC_NTS_MKEY_ID_ID : Field := ⟨552, 0, 32, .ro, .num, 0, 0, 4294967295⟩
def TSVC_INJECT_CTL_GO : Field := ⟨553, 31, 1, .w1s, .num, 0, 0, 1⟩
def TSVC_INJECT_CTL_TS_REQ : Field := ⟨554, 30, 1, .l, .num, 0, 0, 1⟩
def TSVC_INJECT_CTL_QUEUE : Field := ⟨555, 28, 2, .l, .num, 0, 0, 2⟩
def TSVC_INJECT_CTL_PORT : Field := ⟨556, 23, 5, .l, .num, 0, 0, 17⟩
def TSVC_INJECT_CTL_LEN : Field := ⟨557, 0, 14, .l, .num, 0, 0, 16383⟩
def TSVC_INJECT_ID_ID : Field := ⟨558, 0, 16, .l, .num, 0, 0, 65535⟩
def TSVC_TXTS_0_EMPTY : Field := ⟨559, 31, 1, .ro, .num, 0, 0, 1⟩
def TSVC_TXTS_0_DROPPED : Field := ⟨560, 30, 1, .ro, .num, 0, 0, 1⟩
def TSVC_TXTS_0_ID : Field := ⟨561, 0, 16, .ro, .num, 0, 0, 65535⟩
def TSVC_TXTS_1_NS : Field := ⟨562, 0, 32, .ro, .num, 0, 0, 4294967295⟩
def TSVC_TXTS_2_SEC : Field := ⟨563, 0, 32, .ro, .num, 0, 0, 4294967295⟩
def TSVC_TXTS_3_SEC_HI : Field := ⟨564, 16, 16, .ro, .num, 0, 0, 65535⟩
def TSVC_TXTS_3_FRAC : Field := ⟨565, 0, 16, .ro, .num, 0, 0, 65535⟩
def TSVC_INJECT_ADDR_ADDR : Field := ⟨566, 0, 64, .l, .num, 0, 0, 18446744073709551615⟩
def TSVC_TXTS_STAT_OVF : Field := ⟨567, 0, 18, .w1c, .num, 0, 0, 262143⟩
def TSVC_CNT_NOT_RUN_CNT : Field := ⟨568, 0, 32, .rc, .num, 0, 0, 4294967295⟩
def TSVC_CNT_FILTER_CNT : Field := ⟨569, 0, 32, .rc, .num, 0, 0, 4294967295⟩
def TSVC_CNT_NOSESS_CNT : Field := ⟨570, 0, 32, .rc, .num, 0, 0, 4294967295⟩
def TSVC_CNT_AUTH_FAIL_CNT : Field := ⟨571, 0, 32, .rc, .num, 0, 0, 4294967295⟩
def TSVC_CNT_REPLAY_CNT : Field := ⟨572, 0, 32, .rc, .num, 0, 0, 4294967295⟩
def TSVC_CNT_OVERLOAD_CNT : Field := ⟨573, 0, 32, .rc, .num, 0, 0, 4294967295⟩
def TSVC_CNT_NTS_NAK_CNT : Field := ⟨574, 0, 32, .rc, .num, 0, 0, 4294967295⟩
def TSVC_CNT_TXTS_LOST_CNT : Field := ⟨575, 0, 32, .rc, .num, 0, 0, 4294967295⟩
def MNTL_CTL_EN : Field := ⟨576, 31, 1, .l, .image, 0, 0, 1⟩
def MNTL_CTL_CLAIM_EN : Field := ⟨577, 30, 1, .l, .image, 0, 0, 1⟩
def MNTL_CTL_TRIAL_CLAIM : Field := ⟨578, 29, 1, .l, .image, 0, 0, 1⟩
def MNTL_CTL_MIRROR : Field := ⟨579, 28, 1, .h, .image, 0, 0, 1⟩
def MNTL_CTL_REVERT_EN : Field := ⟨580, 27, 1, .l, .image, 0, 0, 1⟩
def MNTL_CTL_HANDOVER : Field := ⟨581, 26, 1, .w1s, .num, 0, 0, 1⟩
def MNTL_CTL_STBY_PORTS : Field := ⟨582, 25, 1, .h, .image, 0, 0, 1⟩
def MNTL_CTL_UNIT_ID : Field := ⟨583, 24, 1, .ro, .image, 0, 0, 1⟩
def MNTL_CTL_SIG_N : Field := ⟨584, 16, 4, .l, .image, 0, 1, 15⟩
def MNTL_CTL_TIME_LIM : Field := ⟨585, 8, 8, .l, .image, 0, 1, 255⟩
def MNTL_LEASE_HOLDOFF_S : Field := ⟨586, 16, 10, .l, .image, 0, 1, 1023⟩
def MNTL_LEASE_L_MS : Field := ⟨587, 0, 7, .h, .image, 0, 2, 64⟩
def MNTL_STAT_ROLE : Field := ⟨588, 29, 3, .ro, .num, 0, 0, 7⟩
def MNTL_STAT_EPOCH : Field := ⟨589, 21, 8, .ro, .kept, 0, 0, 255⟩
def MNTL_STAT_PREF : Field := ⟨590, 20, 1, .ro, .num, 0, 0, 1⟩
def MNTL_STAT_HEALTHY : Field := ⟨591, 19, 1, .ro, .num, 0, 0, 1⟩
def MNTL_STAT_TWIN_HEALTHY : Field := ⟨592, 18, 1, .ro, .num, 0, 0, 1⟩
def MNTL_STAT_COMPAT : Field := ⟨593, 17, 1, .ro, .num, 0, 0, 1⟩
def MNTL_STAT_HO_STATE : Field := ⟨594, 14, 3, .ro, .num, 0, 0, 7⟩
def MNTL_STAT_HO_CAUSE : Field := ⟨595, 11, 3, .ro, .num, 0, 0, 7⟩
def MNTL_STAT_HOLDOFF_LEFT : Field := ⟨596, 0, 10, .ro, .num, 0, 0, 1023⟩
def MNTL_SIG_STAT_REPORTED : Field := ⟨597, 16, 16, .ro, .num, 0, 0, 65535⟩
def MNTL_SIG_STAT_LAST_DST : Field := ⟨598, 0, 11, .ro, .num, 0, 0, 2047⟩
def MNTL_HEALTH_OWN_DATA : Field := ⟨599, 0, 32, .ro, .num, 0, 0, 4294967295⟩
def MNTL_HEALTH_TWIN_DATA : Field := ⟨600, 0, 32, .ro, .num, 0, 0, 4294967295⟩
def MNTL_CNT_CLAIM_CNT : Field := ⟨601, 0, 32, .rc, .num, 0, 0, 4294967295⟩
def MNTL_CNT_LAPSE_CNT : Field := ⟨602, 0, 32, .rc, .num, 0, 0, 4294967295⟩
def MNTL_CNT_CONFLICT_CNT : Field := ⟨603, 0, 32, .rc, .num, 0, 0, 4294967295⟩
def MNTL_CNT_HANDOVER_CNT : Field := ⟨604, 0, 32, .rc, .num, 0, 0, 4294967295⟩
def MNTL_CNT_SIG_MISMATCH_CNT : Field := ⟨605, 0, 32, .rc, .num, 0, 0, 4294967295⟩
def MNTL_CNT_LANE_TEST_CNT : Field := ⟨606, 0, 32, .rc, .num, 0, 0, 4294967295⟩
def FLT_SRC_CFG_PIN : Field := ⟨607, 3, 1, .l, .image, 0, 0, 1⟩
def FLT_SRC_CFG_REPLACE : Field := ⟨608, 2, 1, .l, .image, 0, 0, 1⟩
def FLT_SRC_CFG_SEVERITY : Field := ⟨609, 0, 2, .l, .image, 0, 0, 2⟩
def FLT_SRC_STAT_STANDING : Field := ⟨610, 31, 1, .w1c, .num, 0, 0, 1⟩
def FLT_SRC_STAT_CONDITION : Field := ⟨611, 30, 1, .ro, .image, 0, 0, 1⟩
def FLT_SRC_STAT_COUNT : Field := ⟨612, 0, 16, .rc, .num, 0, 0, 65535⟩
def FLT_STANDING_BITS : Field := ⟨613, 0, 32, .ro, .num, 0, 0, 4294967295⟩
def FLT_STAT_FAULT_N : Field := ⟨614, 31, 1, .ro, .num, 0, 0, 1⟩
def FLT_STAT_REPLACE_N : Field := ⟨615, 30, 1, .ro, .num, 0, 0, 1⟩
def FLT_STAT_PULSE : Field := ⟨616, 29, 1, .ro, .num, 0, 0, 1⟩
def FLT_STAT_HEM_SRC : Field := ⟨617, 0, 9, .ro, .num, 0, 0, 511⟩
def FLT_PIN_CTL_FAULT_HOLD : Field := ⟨618, 0, 1, .l, .num, 0, 0, 1⟩
def FLT_FENCE_CMD_GO : Field := ⟨619, 31, 1, .w1s, .num, 0, 0, 1⟩
def FLT_FENCE_CMD_OP : Field := ⟨620, 30, 1, .l, .num, 0, 0, 1⟩
def FLT_FENCE_CMD_KIND : Field := ⟨621, 16, 4, .l, .num, 0, 0, 15⟩
def FLT_FENCE_CMD_INDEX : Field := ⟨622, 0, 12, .l, .num, 0, 0, 4095⟩
def FLT_FENCE_STAT_COUNT : Field := ⟨623, 0, 32, .ro, .num, 0, 0, 4294967295⟩
def FLT_HEM_CFG_CONTENT : Field := ⟨624, 6, 2, .h, .image, 0, 0, 2⟩
def FLT_HEM_CFG_HEM_HEAD : Field := ⟨625, 0, 4, .h, .image, 0, 0, 15⟩
def FLT_LOG_PTR_COUNT : Field := ⟨626, 16, 9, .ro, .kept, 0, 0, 511⟩
def FLT_LOG_PTR_HEAD : Field := ⟨627, 8, 8, .ro, .kept, 0, 0, 255⟩
def FLT_LOG_PTR_TAIL : Field := ⟨628, 0, 8, .ro, .kept, 0, 0, 255⟩
def FLT_LOG_ACK_COUNT : Field := ⟨629, 0, 9, .l, .num, 0, 0, 256⟩
def FLT_LOG_SEL_INDEX : Field := ⟨630, 0, 8, .l, .num, 0, 0, 255⟩
def FLT_LOG_DATA_DATA : Field := ⟨631, 0, 32, .ro, .kept, 0, 0, 4294967295⟩
def FLT_CNT_LOG_OVF_CNT : Field := ⟨632, 0, 32, .rc, .kept, 0, 0, 4294967295⟩
def HCP_CFG_UDP_PORT : Field := ⟨633, 16, 16, .ro, .image, 0, 0, 65535⟩
def HCP_CFG_IDLE_S : Field := ⟨634, 0, 10, .l, .image, 0, 5, 600⟩
def HCP_SLOT_STAT_LOADED : Field := ⟨635, 31, 1, .ro, .image, 0, 0, 1⟩
def HCP_SLOT_STAT_EN : Field := ⟨636, 30, 1, .l, .image, 0, 0, 1⟩
def HCP_SLOT_STAT_RIGHTS : Field := ⟨637, 24, 5, .ro, .image, 0, 0, 31⟩
def HCP_SLOT_STAT_KCV : Field := ⟨638, 0, 24, .ro, .image, 0, 0, 16777215⟩
def HCP_SLOT_OPENS_COUNT : Field := ⟨639, 0, 32, .ro, .kept, 0, 0, 4294967295⟩
def HCP_SESS_STAT_ACTIVE : Field := ⟨640, 31, 1, .ro, .num, 0, 0, 1⟩
def HCP_SESS_STAT_PENDING : Field := ⟨641, 30, 1, .ro, .num, 0, 0, 1⟩
def HCP_SESS_STAT_SLOT : Field := ⟨642, 26, 4, .ro, .num, 0, 0, 15⟩
def HCP_SESS_STAT_PORT : Field := ⟨643, 25, 1, .ro, .num, 0, 0, 1⟩
def HCP_SESS_STAT_SUBS : Field := ⟨644, 0, 16, .ro, .num, 0, 0, 65535⟩
def HCP_SESS_ID_ID : Field := ⟨645, 0, 32, .ro, .num, 0, 0, 4294967295⟩
def HCP_CNT_AUTH_FAIL_CNT : Field := ⟨646, 0, 32, .rc, .num, 0, 0, 4294967295⟩
def HCP_CNT_SEQ_ERR_CNT : Field := ⟨647, 0, 32, .rc, .num, 0, 0, 4294967295⟩
def HCP_CNT_FORMAT_CNT : Field := ⟨648, 0, 32, .rc, .num, 0, 0, 4294967295⟩
def HCP_CNT_OVERLOAD_CNT : Field := ⟨649, 0, 32, .rc, .num, 0, 0, 4294967295⟩
def HCP_CNT_EVT_LOST_CNT : Field := ⟨650, 0, 32, .rc, .num, 0, 0, 4294967295⟩
def CTRL_ISLAND_CLK_PRESENT : Field := ⟨651, 0, 32, .ro, .num, 0, 0, 4294967295⟩
def CTRL_DEV_STATE_FENCED_COUNT : Field := ⟨652, 8, 8, .ro, .num, 0, 0, 255⟩
def CTRL_DEV_STATE_PREV_MODE : Field := ⟨653, 4, 3, .ro, .kept, 0, 0, 7⟩
def CTRL_DEV_STATE_TRIAL : Field := ⟨654, 3, 1, .ro, .num, 0, 0, 1⟩
def CTRL_DEV_STATE_MODE : Field := ⟨655, 0, 3, .ro, .num, 0, 0, 7⟩
def CTRL_DEFAULT_ERR_MASTER : Field := ⟨656, 29, 3, .ro, .num, 0, 0, 7⟩
def CTRL_DEFAULT_ERR_WRITE : Field := ⟨657, 28, 1, .ro, .num, 0, 0, 1⟩
def CTRL_DEFAULT_ERR_ADDR : Field := ⟨658, 0, 28, .ro, .num, 0, 0, 268435455⟩
def CTRL_DEV_ID_PART : Field := ⟨659, 16, 16, .ro, .num, 33280, 0, 65535⟩
def CTRL_DEV_ID_GRADE : Field := ⟨660, 12, 4, .ro, .num, 0, 0, 15⟩
def CTRL_DEV_ID_REV_MAJOR : Field := ⟨661, 8, 4, .ro, .num, 1, 0, 15⟩
def CTRL_DEV_ID_REV_MINOR : Field := ⟨662, 4, 4, .ro, .num, 0, 0, 15⟩
def HOP_CH_CTL_EN : Field := ⟨663, 31, 1, .l, .num, 0, 0, 1⟩
def HOP_CH_CTL_GO : Field := ⟨664, 30, 1, .w1s, .num, 0, 0, 1⟩
def HOP_CH_CFG_RETRY_LIMIT : Field := ⟨665, 0, 3, .h, .image, 0, 0, 7⟩
def HOP_CH_STAT_STATE : Field := ⟨666, 30, 2, .ro, .num, 0, 0, 3⟩
def HOP_CH_STAT_CAUSE : Field := ⟨667, 26, 4, .ro, .num, 0, 0, 15⟩
def HOP_CH_STAT_RETRIES : Field := ⟨668, 8, 8, .rc, .num, 0, 0, 255⟩
def HOP_CH_STAT_DESC_DONE : Field := ⟨669, 0, 8, .rc, .num, 0, 0, 255⟩
def HOP_CH_DESC_ADDR : Field := ⟨670, 0, 64, .h, .num, 0, 0, 18446744073709551615⟩
def HOP_CH_RESID_COUNT : Field := ⟨671, 0, 32, .ro, .num, 0, 0, 4294967295⟩
def CRC_CFG_REFIN : Field := ⟨672, 25, 1, .h, .num, 0, 0, 1⟩
def CRC_CFG_REFOUT : Field := ⟨673, 24, 1, .h, .num, 0, 0, 1⟩
def CRC_CFG_WIDTH : Field := ⟨674, 0, 7, .h, .num, 32, 8, 64⟩
def CRC_CTL_EN : Field := ⟨675, 31, 1, .l, .num, 0, 0, 1⟩
def CRC_CTL_START : Field := ⟨676, 30, 1, .w1s, .num, 0, 0, 1⟩
def CRC_CTL_OWNER : Field := ⟨677, 25, 5, .h, .num, 0, 0, 16⟩
def CRC_CTL_PREFIX_LEN : Field := ⟨678, 23, 2, .l, .num, 0, 0, 3⟩
def CRC_CTL_FEED_BYTES : Field := ⟨679, 21, 2, .l, .num, 3, 0, 3⟩
def CRC_POLY_V : Field := ⟨680, 0, 64, .h, .num, 0, 0, 18446744073709551615⟩
def CRC_INIT_V : Field := ⟨681, 0, 64, .h, .num, 0, 0, 18446744073709551615⟩
def CRC_XOROUT_V : Field := ⟨682, 0, 64, .h, .num, 0, 0, 18446744073709551615⟩
def CRC_PREFIX_V : Field := ⟨683, 0, 64, .l, .num, 0, 0, 18446744073709551615⟩
def CRC_VALUE_V : Field := ⟨684, 0, 64, .l, .num, 0, 0, 18446744073709551615⟩
def CRC_RESULT_V : Field := ⟨685, 0, 64, .ro, .num, 0, 0, 18446744073709551615⟩
def CRC_FEED_WORD : Field := ⟨686, 0, 32, .l, .num, 0, 0, 4294967295⟩
def BOOT_STAT_SOURCE : Field := ⟨687, 30, 2, .ro, .num, 0, 0, 3⟩
def BOOT_STAT_CAUSE : Field := ⟨688, 26, 4, .ro, .num, 0, 0, 15⟩
def BOOT_STAT_FACTORY_PIN : Field := ⟨689, 25, 1, .ro, .num, 0, 0, 1⟩
def BOOT_STAT_FELL_BACK : Field := ⟨690, 24, 1, .ro, .num, 0, 0, 1⟩
def BOOT_STAT_SWAPPED : Field := ⟨691, 23, 1, .ro, .num, 0, 0, 1⟩
def BOOT_STAT_STAGE : Field := ⟨692, 16, 4, .ro, .num, 0, 0, 15⟩
def BOOT_STG_STAT_STATE : Field := ⟨693, 28, 4, .ro, .kept, 0, 0, 15⟩
def BOOT_STG_STAT_CAUSE : Field := ⟨694, 24, 4, .ro, .kept, 0, 0, 15⟩
def BOOT_STG_STAT_RELAYED : Field := ⟨695, 23, 1, .ro, .kept, 0, 0, 1⟩
def BOOT_STG_STAT_HOPS : Field := ⟨696, 16, 7, .ro, .kept, 0, 0, 127⟩
def BOOT_TRIAL_CONFIRM : Field := ⟨697, 31, 1, .w1s, .num, 0, 0, 1⟩
def BOOT_TRIAL_REJECT : Field := ⟨698, 30, 1, .w1s, .num, 0, 0, 1⟩
def BOOT_TRIAL_SELF_OK : Field := ⟨699, 29, 1, .ro, .num, 0, 0, 1⟩
def BOOT_TRIAL_HOST_REQ : Field := ⟨700, 28, 1, .ro, .num, 0, 0, 1⟩
def BOOT_TRIAL_STARTS : Field := ⟨701, 26, 2, .ro, .kept, 0, 0, 3⟩
def BOOT_TRIAL_WINDOW_LEFT : Field := ⟨702, 12, 14, .ro, .num, 0, 0, 16383⟩
def BOOT_TRIAL_HOLD_LEFT : Field := ⟨703, 0, 10, .ro, .num, 0, 0, 1023⟩
def BOOT_RELAY_CTL_ACCEPT : Field := ⟨704, 31, 1, .l, .image, 0, 0, 1⟩
def BOOT_RELAY_CTL_FORWARD : Field := ⟨705, 30, 1, .l, .image, 0, 0, 1⟩
def BOOT_RELAY_CTL_MANTLE : Field := ⟨706, 29, 1, .l, .image, 0, 0, 1⟩
def BOOT_RELAY_MASK_BUNDLES : Field := ⟨707, 0, 32, .l, .image, 0, 0, 4294967295⟩
def BOOT_ACT_VER_PROTO : Field := ⟨708, 24, 8, .ro, .image, 0, 0, 255⟩
def BOOT_ACT_VER_PROTO_LO : Field := ⟨709, 16, 8, .ro, .image, 0, 0, 255⟩
def BOOT_ACT_VER_PROTO_HI : Field := ⟨710, 8, 8, .ro, .image, 0, 0, 255⟩
def BOOT_ACT_SVN_SVN : Field := ⟨711, 0, 32, .ro, .image, 0, 0, 4294967295⟩
def BOOT_MIN_SVN_SVN : Field := ⟨712, 0, 32, .ro, .kept, 0, 0, 4294967295⟩
def BOOT_START_COUNT_COUNT : Field := ⟨713, 0, 32, .ro, .kept, 0, 0, 4294967295⟩
def BOOT_DEV_PUB_DATA : Field := ⟨714, 0, 32, .ro, .num, 0, 0, 4294967295⟩
def BOOT_OWNER_STAT_BITS : Field := ⟨715, 0, 8, .ro, .num, 0, 0, 255⟩
def PWR_CELLAR_CTL_CELLAR_PIN : Field := ⟨716, 1, 1, .ro, .num, 0, 0, 1⟩
def PWR_CELLAR_CTL_ENTER : Field := ⟨717, 0, 1, .w1s, .num, 0, 0, 1⟩
def PWR_RAIL_STAT_WAS_OUT : Field := ⟨718, 16, 10, .w1c, .num, 0, 0, 1023⟩
def PWR_RAIL_STAT_OK : Field := ⟨719, 0, 10, .ro, .num, 0, 0, 1023⟩
def PWR_TEMP_TJ : Field := ⟨720, 16, 16, .ro, .num, 0, 0, 65535⟩
def PWR_TEMP_SENSOR : Field := ⟨721, 0, 3, .ro, .num, 0, 0, 7⟩
def PWR_TEMP_PEAK_TJ : Field := ⟨722, 16, 16, .rc, .num, 0, 0, 65535⟩
def PWR_TSENS_CFG_FAST : Field := ⟨723, 18, 1, .ro, .image, 0, 0, 1⟩
def PWR_TSENS_CFG_SCALE : Field := ⟨724, 16, 2, .ro, .image, 0, 0, 3⟩
def PWR_TSENS_CFG_POINTER : Field := ⟨725, 8, 8, .ro, .image, 0, 0, 255⟩
def PWR_TSENS_CFG_ADDR : Field := ⟨726, 0, 7, .ro, .image, 0, 0, 127⟩
def PWR_UART_CTL_EN : Field := ⟨727, 31, 1, .l, .image, 0, 0, 1⟩
def PWR_UART_CTL_BAUD : Field := ⟨728, 0, 2, .h, .image, 0, 0, 3⟩
def PWR_UART_TX_FREE : Field := ⟨729, 8, 8, .ro, .num, 0, 0, 255⟩
def PWR_UART_TX_DATA : Field := ⟨730, 0, 8, .l, .num, 0, 0, 255⟩
def PWR_UART_RX_EMPTY : Field := ⟨731, 31, 1, .rc, .num, 0, 0, 1⟩
def PWR_UART_RX_OVF : Field := ⟨732, 30, 1, .rc, .num, 0, 0, 1⟩
def PWR_UART_RX_DATA : Field := ⟨733, 0, 8, .rc, .num, 0, 0, 255⟩

end Fld

/-- Number of instances (R822); BLK_* registers have one per block code. -/
def Reg.count : Reg → Nat
  | .COM_BLK_ID => 20
  | .COM_BLK_DIR_INFO => 20
  | .COM_BLK_FAULT => 20
  | .COM_BLK_SCRATCH => 20
  | .IZL_LINK_CTL => 33
  | .IZL_LINK_STAT => 33
  | .IZL_LANE_STAT => 264
  | .IZL_DEGRADE_SHED_LO => 33
  | .IZL_DEGRADE_SHED_HI => 33
  | .IZL_PRBS_CTL => 33
  | .IZL_CNT_MARKER_MISS => 33
  | .IZL_CNT_STUFF_VIOL => 33
  | .IZL_CNT_CLK_GLITCH => 33
  | .IZL_CNT_LINK_DOWN => 33
  | .IZL_CNT_WAKE_FAIL => 33
  | .IZL_PRBS_ERR => 264
  | .CELL_SRC_BIND => 1152
  | .CELL_DST_BIND => 1152
  | .CELL_LINK_DELAY => 33
  | .CELL_LINK_INFO => 33
  | .CELL_SRC_STAT => 1152
  | .CELL_CNT_CRC_ERR => 33
  | .CELL_CNT_SEQ_ERR => 33
  | .CELL_CNT_SEQ_LOST => 33
  | .CELL_CNT_MISDIR => 33
  | .CELL_CNT_HDR_ERR => 33
  | .CELL_CNT_OVERRUN => 33
  | .CELL_CNT_FMT_CHANGE => 33
  | .ETH_PORT_CTL => 18
  | .ETH_PORT_STAT => 18
  | .ETH_PORT_TX_RESV => 18
  | .ETH_FLOW_CTL => 4096
  | .ETH_FLOW_MEDIA => 4096
  | .ETH_FLOW_DIP => 4096
  | .ETH_FLOW_SIP => 4096
  | .ETH_FLOW_UDP => 4096
  | .ETH_FLOW_SSRC => 4096
  | .ETH_FLOW_HDR => 4096
  | .ETH_FLOW_PT => 4096
  | .ETH_FLOW_DMAC_HI => 4096
  | .ETH_FLOW_DMAC_LO => 4096
  | .ETH_FLOW_STAT => 4096
  | .ETH_FLOW_CNT => 4096
  | .ETH_CNT_RX_OCTETS => 18
  | .ETH_CNT_TX_OCTETS => 18
  | .ETH_CNT_RX_FRAMES => 18
  | .ETH_CNT_TX_FRAMES => 18
  | .ETH_CNT_RX_CRC => 18
  | .ETH_CNT_RX_SHORT => 18
  | .ETH_CNT_RX_LONG => 18
  | .ETH_CNT_RX_BAD => 18
  | .ETH_CNT_RX_FULL => 18
  | .ETH_CNT_RX_NOMATCH => 18
  | .ETH_CNT_RX_PAUSE => 18
  | .ETH_CNT_PAUSE_WD => 18
  | .ETH_CNT_TX_DISC => 18
  | .ETH_CNT_FEC_CORR => 18
  | .ETH_CNT_FEC_UNCORR => 18
  | .ETH_CNT_LINK_GLITCH => 18
  | .ETH_CNT_LINK_DOWN => 18
  | .ETH_MERGE_CTL => 18
  | .ETH_QUEUE_PCP => 18
  | .WARP_DST_CFG => 1152
  | .WARP_DST_TIMING => 1152
  | .WARP_DST_ROUTE => 1152
  | .WARP_DST_STAT => 1152
  | .WARP_DST_CNT => 1152
  | .WARP_SRC_TIME => 1152
  | .WARP_INT_TIME => 16
  | .WARP_CS_STAT => 32
  | .WARP_CS_STORE => 1
  | .WARP_CS_ARM => 32
  | .WARP_CS_PREP => 32
  | .CASK_REGION => 7
  | .CASK_RING => 1152
  | .CASK_INT_RING => 16
  | .CASK_FS_CTL => 1152
  | .CASK_FS_STAT => 1152
  | .CASK_FS_CNT => 1152
  | .CASK_SURF_STAT => 4096
  | .CASK_POOL_STAT => 1
  | .CASK_SPARE_STAT => 1
  | .CASK_ECC_CTL => 1
  | .CASK_BW_CLASS => 5
  | .CASK_CNT_CE => 1
  | .CASK_CNT_UE => 1
  | .CASK_CNT_RETIRED => 1
  | .CASK_CNT_PLY_SKIP => 1
  | .CASK_CNT_ANC_TRUNC => 1
  | .STCH_HEAD_CFG => 16
  | .STCH_HEAD_TIMING => 16
  | .STCH_HEAD_BG => 16
  | .STCH_HEAD_FILL => 16
  | .STCH_HEAD_STAT => 16
  | .STCH_HEAD_CNT => 16
  | .STCH_LAYER_CTL => 128
  | .STCH_LAYER_POS => 128
  | .STCH_LAYER_SIZE => 128
  | .STCH_LAYER_CROP_POS => 128
  | .STCH_LAYER_CROP_SIZE => 128
  | .STCH_LAYER_SRC => 128
  | .STCH_LAYER_STRIDE => 128
  | .STCH_SIG_CTL => 16
  | .STCH_SIG_STAT => 16
  | .STCH_SIG_POS => 256
  | .STCH_SIG_SIZE => 256
  | .STCH_SIG_EXP => 256
  | .STCH_SIG_VAL => 256
  | .STCH_APRON_STAT => 1
  | .MASH_CFG => 1
  | .MASH_SRC_AUDIO => 1168
  | .MASH_DST_AUDIO => 1152
  | .MASH_ROUTE => 32768
  | .MASH_OUT_DELAY => 32768
  | .MASH_ROUTE_CTL => 1
  | .MASH_BUSIN => 8192
  | .MASH_BUSIN_MAP => 8192
  | .MASH_BUS_FADER => 256
  | .MASH_BUS_DYN_A => 256
  | .MASH_BUS_DYN_B => 256
  | .MASH_BUS_STAT => 256
  | .MASH_ENG_CTL => 257
  | .MASH_ENG_STAT => 257
  | .MASH_CNT_RATE_ERR => 1
  | .MASH_CNT_ANC_DROP => 1
  | .MASH_CNT_OUT_SAT => 1
  | .MASH_CNT_ZC_TIMEOUT => 1
  | .MASH_CNT_BUS_UNLOCK => 1
  | .MASH_CNT_XFADE_SHORT => 1
  | .MASH_CNT_SLIP => 1
  | .APRT_PORT_CTL => 24
  | .APRT_TDM_FMT => 24
  | .APRT_BIND => 24
  | .APRT_MASK_LO => 24
  | .APRT_MASK_HI => 24
  | .APRT_MASK_STG_LO => 24
  | .APRT_MASK_STG_HI => 24
  | .APRT_PORT_STAT => 24
  | .APRT_CNT_SLIP => 24
  | .APRT_CNT_GLITCH => 24
  | .APRT_CNT_CLK_STOP => 24
  | .APRT_CNT_UNLOCK => 24
  | .APRT_CNT_PARITY => 24
  | .KILN_STAT => 1
  | .KILN_TEB => 1
  | .KILN_OFFSET_REM => 1
  | .KILN_HO_ELAPSED => 1
  | .KILN_HO_REMAIN => 1
  | .KILN_HO_LIMIT => 1
  | .KILN_SEL_CTL => 1
  | .KILN_REF_ORDER_0 => 1
  | .KILN_REF_ORDER_1 => 1
  | .KILN_SLEW => 1
  | .KILN_LOOP => 1
  | .KILN_CFG => 1
  | .KILN_CFG_2 => 1
  | .KILN_CFG_3 => 1
  | .KILN_REF_CFG => 44
  | .KILN_REF_ACC => 44
  | .KILN_REF_STAT => 44
  | .KILN_REF_OFFSET => 44
  | .KILN_REF_CNT => 44
  | .KILN_PPS_CFG => 4
  | .KILN_VREF_CFG => 2
  | .KILN_VREF_OFS => 2
  | .KILN_OSC_CFG => 1
  | .KILN_OSC_DAC => 1
  | .KILN_OSC_TEMP => 1
  | .KILN_MODEL_Y0 => 1
  | .KILN_MODEL_AGING => 1
  | .KILN_MODEL_TC => 1
  | .KILN_MODEL_UY => 1
  | .KILN_MODEL_UD => 1
  | .KILN_MODEL_UC => 1
  | .KILN_TOUT_CTL => 16
  | .KILN_TOUT_START => 16
  | .KILN_TOUT_PERIOD => 16
  | .KILN_TOUT_WIDTH => 16
  | .KILN_CLK_CTL => 4
  | .KILN_CLK_NUM => 4
  | .KILN_EVT_CFG => 8
  | .KILN_EVT_CAP_0 => 8
  | .KILN_EVT_CAP_1 => 8
  | .KILN_EVT_CAP_2 => 8
  | .KILN_EVT_STAT => 1
  | .KILN_UTC => 1
  | .KILN_SET_CTL => 1
  | .KILN_CNT_EVT_LOST => 1
  | .KILN_CNT_OSC_GLITCH => 1
  | .KILN_NOW_SEC_LO => 1
  | .KILN_NOW_SEC_HI => 1
  | .KILN_NOW_NS => 1
  | .KILN_NOW_FRAC => 1
  | .KILN_COUNT => 1
  | .KILN_SET_SEC_LO => 1
  | .KILN_SET_SEC_HI => 1
  | .KILN_SET_NS => 1
  | .GNSS_CTL => 1
  | .GNSS_IF_CFG_A => 1
  | .GNSS_IF_CFG_B => 1
  | .GNSS_STAT => 1
  | .GNSS_TEB => 1
  | .GNSS_TRACK_CFG_A => 1
  | .GNSS_TRACK_CFG_B => 1
  | .GNSS_CH_STAT => 96
  | .GNSS_SV_EXCL => 6
  | .GNSS_SV_EXCL_HI => 6
  | .GNSS_MEAS_PTR => 1
  | .GNSS_POS_X => 1
  | .GNSS_POS_Y => 1
  | .GNSS_POS_Z => 1
  | .GNSS_POS_UNC => 1
  | .GNSS_SURVEY => 1
  | .GNSS_CFG => 1
  | .GNSS_INTEG_CFG_0 => 1
  | .GNSS_INTEG_CFG_1 => 1
  | .GNSS_INTEG_CFG_2 => 1
  | .GNSS_INTEG_STAT => 1
  | .GNSS_CNT_CLK_GLITCH_A => 1
  | .GNSS_CNT_CLK_GLITCH_B => 1
  | .GNSS_CNT_EXCL => 1
  | .GNSS_CNT_UNTRUST => 1
  | .GNSS_CNT_LOCK_LOSS => 1
  | .TSVC_CFG => 1
  | .TSVC_ORG_ID => 1
  | .TSVC_STAT => 1
  | .TSVC_CLOCK_ID => 1
  | .TSVC_PORT_CFG => 18
  | .TSVC_NEG_CFG => 18
  | .TSVC_NEG_LIM => 18
  | .TSVC_PORT_STAT => 18
  | .TSVC_RESV_TOTAL => 1
  | .TSVC_PORT_CAL => 18
  | .TSVC_SESS_SEL => 1
  | .TSVC_SESS_CMD => 1
  | .TSVC_SESS_DATA => 64
  | .TSVC_KEY_STAGE => 8
  | .TSVC_KEY_ID => 1
  | .TSVC_KEY_LOAD => 1
  | .TSVC_GKEY_STAT => 8
  | .TSVC_NTS_MKEY_STAT => 4
  | .TSVC_NTP_CFG => 1
  | .TSVC_GKEY_ID => 8
  | .TSVC_NTS_MKEY_ID => 4
  | .TSVC_INJECT_CTL => 1
  | .TSVC_INJECT_ID => 1
  | .TSVC_TXTS_0 => 18
  | .TSVC_TXTS_1 => 18
  | .TSVC_TXTS_2 => 18
  | .TSVC_TXTS_3 => 18
  | .TSVC_INJECT_ADDR => 1
  | .TSVC_TXTS_STAT => 1
  | .TSVC_CNT_NOT_RUN => 18
  | .TSVC_CNT_FILTER => 18
  | .TSVC_CNT_NOSESS => 18
  | .TSVC_CNT_AUTH_FAIL => 18
  | .TSVC_CNT_REPLAY => 18
  | .TSVC_CNT_OVERLOAD => 18
  | .TSVC_CNT_NTS_NAK => 18
  | .TSVC_CNT_TXTS_LOST => 18
  | .MNTL_CTL => 1
  | .MNTL_LEASE => 1
  | .MNTL_STAT => 1
  | .MNTL_SIG_STAT => 1
  | .MNTL_HEALTH_OWN => 16
  | .MNTL_HEALTH_TWIN => 16
  | .MNTL_CNT_CLAIM => 1
  | .MNTL_CNT_LAPSE => 1
  | .MNTL_CNT_CONFLICT => 1
  | .MNTL_CNT_HANDOVER => 1
  | .MNTL_CNT_SIG_MISMATCH => 1
  | .MNTL_CNT_LANE_TEST => 1
  | .FLT_SRC_CFG => 512
  | .FLT_SRC_STAT => 512
  | .FLT_STANDING => 16
  | .FLT_STAT => 1
  | .FLT_PIN_CTL => 1
  | .FLT_FENCE_CMD => 1
  | .FLT_FENCE_STAT => 1
  | .FLT_HEM_CFG => 1152
  | .FLT_LOG_PTR => 1
  | .FLT_LOG_ACK => 1
  | .FLT_LOG_SEL => 1
  | .FLT_LOG_DATA => 8
  | .FLT_CNT_LOG_OVF => 1
  | .HCP_CFG => 1
  | .HCP_SLOT_STAT => 16
  | .HCP_SLOT_OPENS => 16
  | .HCP_SESS_STAT => 32
  | .HCP_SESS_ID => 32
  | .HCP_CNT_AUTH_FAIL => 1
  | .HCP_CNT_SEQ_ERR => 1
  | .HCP_CNT_FORMAT => 1
  | .HCP_CNT_OVERLOAD => 1
  | .HCP_CNT_EVT_LOST => 1
  | .CTRL_ISLAND_CLK => 4
  | .CTRL_DEV_STATE => 1
  | .CTRL_DEFAULT_ERR => 1
  | .CTRL_DEV_ID => 1
  | .HOP_CH_CTL => 16
  | .HOP_CH_CFG => 16
  | .HOP_CH_STAT => 16
  | .HOP_CH_DESC => 16
  | .HOP_CH_RESID => 16
  | .CRC_CFG => 8
  | .CRC_CTL => 8
  | .CRC_POLY => 8
  | .CRC_INIT => 8
  | .CRC_XOROUT => 8
  | .CRC_PREFIX => 8
  | .CRC_VALUE => 8
  | .CRC_RESULT => 8
  | .CRC_FEED => 8
  | .BOOT_STAT => 1
  | .BOOT_STG_STAT => 1
  | .BOOT_TRIAL => 1
  | .BOOT_RELAY_CTL => 1
  | .BOOT_RELAY_MASK => 1
  | .BOOT_ACT_VER => 1
  | .BOOT_ACT_SVN => 1
  | .BOOT_MIN_SVN => 1
  | .BOOT_START_COUNT => 1
  | .BOOT_DEV_PUB => 25
  | .BOOT_OWNER_STAT => 1
  | .PWR_CELLAR_CTL => 1
  | .PWR_RAIL_STAT => 1
  | .PWR_TEMP => 1
  | .PWR_TEMP_PEAK => 1
  | .PWR_TSENS_CFG => 1
  | .PWR_UART_CTL => 1
  | .PWR_UART_TX => 1
  | .PWR_UART_RX => 1

/-- The fields of a register array, most significant first. -/
def Reg.fields : Reg → List Field
  | .COM_BLK_ID => [Fld.COM_BLK_ID_CODE, Fld.COM_BLK_ID_VER_MAJOR, Fld.COM_BLK_ID_VER_MINOR]
  | .COM_BLK_DIR_INFO => [Fld.COM_BLK_DIR_INFO_ENTRIES]
  | .COM_BLK_FAULT => [Fld.COM_BLK_FAULT_STANDING]
  | .COM_BLK_SCRATCH => [Fld.COM_BLK_SCRATCH_DATA]
  | .IZL_LINK_CTL => [Fld.IZL_LINK_CTL_STUFF_N, Fld.IZL_LINK_CTL_DEGRADE_EN, Fld.IZL_LINK_CTL_RETRAIN, Fld.IZL_LINK_CTL_AUTO_RETRAIN, Fld.IZL_LINK_CTL_IDLE_AUTO, Fld.IZL_LINK_CTL_IDLE_REQ, Fld.IZL_LINK_CTL_MODE, Fld.IZL_LINK_CTL_ENABLE]
  | .IZL_LINK_STAT => [Fld.IZL_LINK_STAT_LANES_OK, Fld.IZL_LINK_STAT_FAR_MAP, Fld.IZL_LINK_STAT_TX_7LANE, Fld.IZL_LINK_STAT_TX_OMIT, Fld.IZL_LINK_STAT_MISWIRE, Fld.IZL_LINK_STAT_RX_OMIT, Fld.IZL_LINK_STAT_TX_IDLE, Fld.IZL_LINK_STAT_RX_IDLE, Fld.IZL_LINK_STAT_POS35_OFF, Fld.IZL_LINK_STAT_STATE]
  | .IZL_LANE_STAT => [Fld.IZL_LANE_STAT_PHASE, Fld.IZL_LANE_STAT_DESKEW, Fld.IZL_LANE_STAT_FAILED, Fld.IZL_LANE_STAT_LOCK, Fld.IZL_LANE_STAT_SEEN, Fld.IZL_LANE_STAT_SLIP]
  | .IZL_DEGRADE_SHED_LO => [Fld.IZL_DEGRADE_SHED_LO_SHED_LO]
  | .IZL_DEGRADE_SHED_HI => [Fld.IZL_DEGRADE_SHED_HI_SHED_HI]
  | .IZL_PRBS_CTL => [Fld.IZL_PRBS_CTL_CHK_LOCK, Fld.IZL_PRBS_CTL_INVERT, Fld.IZL_PRBS_CTL_POLY]
  | .IZL_CNT_MARKER_MISS => [Fld.IZL_CNT_MARKER_MISS_CNT]
  | .IZL_CNT_STUFF_VIOL => [Fld.IZL_CNT_STUFF_VIOL_CNT]
  | .IZL_CNT_CLK_GLITCH => [Fld.IZL_CNT_CLK_GLITCH_CNT]
  | .IZL_CNT_LINK_DOWN => [Fld.IZL_CNT_LINK_DOWN_CNT]
  | .IZL_CNT_WAKE_FAIL => [Fld.IZL_CNT_WAKE_FAIL_CNT]
  | .IZL_PRBS_ERR => [Fld.IZL_PRBS_ERR_CNT]
  | .CELL_SRC_BIND => [Fld.CELL_SRC_BIND_EN, Fld.CELL_SRC_BIND_KIND, Fld.CELL_SRC_BIND_RAW]
  | .CELL_DST_BIND => [Fld.CELL_DST_BIND_EN, Fld.CELL_DST_BIND_KIND, Fld.CELL_DST_BIND_RAW]
  | .CELL_LINK_DELAY => [Fld.CELL_LINK_DELAY_DELAY]
  | .CELL_LINK_INFO => [Fld.CELL_LINK_INFO_FAR_EPOCH, Fld.CELL_LINK_INFO_VALID]
  | .CELL_SRC_STAT => [Fld.CELL_SRC_STAT_NOSIG, Fld.CELL_SRC_STAT_LOST, Fld.CELL_SRC_STAT_FMT]
  | .CELL_CNT_CRC_ERR => [Fld.CELL_CNT_CRC_ERR_CNT]
  | .CELL_CNT_SEQ_ERR => [Fld.CELL_CNT_SEQ_ERR_CNT]
  | .CELL_CNT_SEQ_LOST => [Fld.CELL_CNT_SEQ_LOST_CNT]
  | .CELL_CNT_MISDIR => [Fld.CELL_CNT_MISDIR_CNT]
  | .CELL_CNT_HDR_ERR => [Fld.CELL_CNT_HDR_ERR_CNT]
  | .CELL_CNT_OVERRUN => [Fld.CELL_CNT_OVERRUN_CNT]
  | .CELL_CNT_FMT_CHANGE => [Fld.CELL_CNT_FMT_CHANGE_CNT]
  | .ETH_PORT_CTL => [Fld.ETH_PORT_CTL_PAUSE_WD, Fld.ETH_PORT_CTL_MAX_FRAME, Fld.ETH_PORT_CTL_PFC_EN, Fld.ETH_PORT_CTL_PAUSE_EN, Fld.ETH_PORT_CTL_EN]
  | .ETH_PORT_STAT => [Fld.ETH_PORT_STAT_HELD, Fld.ETH_PORT_STAT_IGNORE, Fld.ETH_PORT_STAT_REMOTE_FAULT, Fld.ETH_PORT_STAT_LOCAL_FAULT, Fld.ETH_PORT_STAT_ALIGNED, Fld.ETH_PORT_STAT_LINK_UP]
  | .ETH_PORT_TX_RESV => [Fld.ETH_PORT_TX_RESV_RESV]
  | .ETH_FLOW_CTL => [Fld.ETH_FLOW_CTL_EN, Fld.ETH_FLOW_CTL_DIR, Fld.ETH_FLOW_CTL_TYPE, Fld.ETH_FLOW_CTL_SHAPE, Fld.ETH_FLOW_CTL_PAIR_EN, Fld.ETH_FLOW_CTL_TAGGED, Fld.ETH_FLOW_CTL_PARTNER, Fld.ETH_FLOW_CTL_PORT]
  | .ETH_FLOW_MEDIA => [Fld.ETH_FLOW_MEDIA_RAW]
  | .ETH_FLOW_DIP => [Fld.ETH_FLOW_DIP_DIP]
  | .ETH_FLOW_SIP => [Fld.ETH_FLOW_SIP_SIP]
  | .ETH_FLOW_UDP => [Fld.ETH_FLOW_UDP_DPORT, Fld.ETH_FLOW_UDP_SPORT]
  | .ETH_FLOW_SSRC => [Fld.ETH_FLOW_SSRC_SSRC]
  | .ETH_FLOW_HDR => [Fld.ETH_FLOW_HDR_TTL, Fld.ETH_FLOW_HDR_DSCP, Fld.ETH_FLOW_HDR_PCP, Fld.ETH_FLOW_HDR_VID]
  | .ETH_FLOW_PT => [Fld.ETH_FLOW_PT_PT]
  | .ETH_FLOW_DMAC_HI => [Fld.ETH_FLOW_DMAC_HI_DMAC]
  | .ETH_FLOW_DMAC_LO => [Fld.ETH_FLOW_DMAC_LO_DMAC]
  | .ETH_FLOW_STAT => [Fld.ETH_FLOW_STAT_JITTER, Fld.ETH_FLOW_STAT_N_OK, Fld.ETH_FLOW_STAT_PATH_B, Fld.ETH_FLOW_STAT_PATH_A, Fld.ETH_FLOW_STAT_LOST]
  | .ETH_FLOW_CNT => [Fld.ETH_FLOW_CNT_TS_JUMP, Fld.ETH_FLOW_CNT_OVERRUN, Fld.ETH_FLOW_CNT_MALFORMED, Fld.ETH_FLOW_CNT_LATE, Fld.ETH_FLOW_CNT_B_LOSS, Fld.ETH_FLOW_CNT_A_LOSS, Fld.ETH_FLOW_CNT_SEQ_GAP, Fld.ETH_FLOW_CNT_PKT]
  | .ETH_CNT_RX_OCTETS => [Fld.ETH_CNT_RX_OCTETS_CNT]
  | .ETH_CNT_TX_OCTETS => [Fld.ETH_CNT_TX_OCTETS_CNT]
  | .ETH_CNT_RX_FRAMES => [Fld.ETH_CNT_RX_FRAMES_CNT]
  | .ETH_CNT_TX_FRAMES => [Fld.ETH_CNT_TX_FRAMES_CNT]
  | .ETH_CNT_RX_CRC => [Fld.ETH_CNT_RX_CRC_CNT]
  | .ETH_CNT_RX_SHORT => [Fld.ETH_CNT_RX_SHORT_CNT]
  | .ETH_CNT_RX_LONG => [Fld.ETH_CNT_RX_LONG_CNT]
  | .ETH_CNT_RX_BAD => [Fld.ETH_CNT_RX_BAD_CNT]
  | .ETH_CNT_RX_FULL => [Fld.ETH_CNT_RX_FULL_CNT]
  | .ETH_CNT_RX_NOMATCH => [Fld.ETH_CNT_RX_NOMATCH_CNT]
  | .ETH_CNT_RX_PAUSE => [Fld.ETH_CNT_RX_PAUSE_CNT]
  | .ETH_CNT_PAUSE_WD => [Fld.ETH_CNT_PAUSE_WD_CNT]
  | .ETH_CNT_TX_DISC => [Fld.ETH_CNT_TX_DISC_CNT]
  | .ETH_CNT_FEC_CORR => [Fld.ETH_CNT_FEC_CORR_CNT]
  | .ETH_CNT_FEC_UNCORR => [Fld.ETH_CNT_FEC_UNCORR_CNT]
  | .ETH_CNT_LINK_GLITCH => [Fld.ETH_CNT_LINK_GLITCH_CNT]
  | .ETH_CNT_LINK_DOWN => [Fld.ETH_CNT_LINK_DOWN_CNT]
  | .ETH_MERGE_CTL => [Fld.ETH_MERGE_CTL_WINDOW]
  | .ETH_QUEUE_PCP => [Fld.ETH_QUEUE_PCP_Q3, Fld.ETH_QUEUE_PCP_Q2, Fld.ETH_QUEUE_PCP_Q0]
  | .WARP_DST_CFG => [Fld.WARP_DST_CFG_EN, Fld.WARP_DST_CFG_FIELD_SW, Fld.WARP_DST_CFG_LATENCY, Fld.WARP_DST_CFG_MODE, Fld.WARP_DST_CFG_FMT]
  | .WARP_DST_TIMING => [Fld.WARP_DST_TIMING_OFFSET]
  | .WARP_DST_ROUTE => [Fld.WARP_DST_ROUTE_PENDING, Fld.WARP_DST_ROUTE_DIRECT, Fld.WARP_DST_ROUTE_STAGED, Fld.WARP_DST_ROUTE_SET, Fld.WARP_DST_ROUTE_SRC]
  | .WARP_DST_STAT => [Fld.WARP_DST_STAT_TIMED, Fld.WARP_DST_STAT_SRC_LOST, Fld.WARP_DST_STAT_BLACKED, Fld.WARP_DST_STAT_REFUSED, Fld.WARP_DST_STAT_LATE, Fld.WARP_DST_STAT_FENCED, Fld.WARP_DST_STAT_LATENCY]
  | .WARP_DST_CNT => [Fld.WARP_DST_CNT_SWITCH, Fld.WARP_DST_CNT_LATE, Fld.WARP_DST_CNT_REFUSED, Fld.WARP_DST_CNT_UNTIMED]
  | .WARP_SRC_TIME => [Fld.WARP_SRC_TIME_VALID, Fld.WARP_SRC_TIME_STABLE, Fld.WARP_SRC_TIME_WHOLE_FRAME, Fld.WARP_SRC_TIME_PHASE]
  | .WARP_INT_TIME => [Fld.WARP_INT_TIME_VALID, Fld.WARP_INT_TIME_STABLE, Fld.WARP_INT_TIME_WHOLE_FRAME, Fld.WARP_INT_TIME_PHASE]
  | .WARP_CS_STAT => [Fld.WARP_CS_STAT_STATE, Fld.WARP_CS_STAT_KIND, Fld.WARP_CS_STAT_AUTO_COMMIT, Fld.WARP_CS_STAT_NOW, Fld.WARP_CS_STAT_ENTRIES, Fld.WARP_CS_STAT_PENDING]
  | .WARP_CS_STORE => [Fld.WARP_CS_STORE_ITEMS_FREE]
  | .WARP_CS_ARM => [Fld.WARP_CS_ARM_T]
  | .WARP_CS_PREP => [Fld.WARP_CS_PREP_T]
  | .CASK_REGION => [Fld.CASK_REGION_BASE, Fld.CASK_REGION_SIZE]
  | .CASK_RING => [Fld.CASK_RING_EN, Fld.CASK_RING_DEPTH, Fld.CASK_RING_EFF_DEPTH, Fld.CASK_RING_OVERSIZE, Fld.CASK_RING_SLOT_SIZE]
  | .CASK_INT_RING => [Fld.CASK_INT_RING_EN, Fld.CASK_INT_RING_DEPTH, Fld.CASK_INT_RING_EFF_DEPTH, Fld.CASK_INT_RING_OVERSIZE, Fld.CASK_INT_RING_SLOT_SIZE]
  | .CASK_FS_CTL => [Fld.CASK_FS_CTL_FREEZE_MS]
  | .CASK_FS_STAT => [Fld.CASK_FS_STAT_FROZEN, Fld.CASK_FS_STAT_BLACK, Fld.CASK_FS_STAT_CAUSE, Fld.CASK_FS_STAT_FREEZE_LEFT]
  | .CASK_FS_CNT => [Fld.CASK_FS_CNT_REPEAT, Fld.CASK_FS_CNT_DROP]
  | .CASK_SURF_STAT => [Fld.CASK_SURF_STAT_STATE, Fld.CASK_SURF_STAT_APRON, Fld.CASK_SURF_STAT_REFS, Fld.CASK_SURF_STAT_BLOCKS]
  | .CASK_POOL_STAT => [Fld.CASK_POOL_STAT_FREE_BLOCKS, Fld.CASK_POOL_STAT_TOTAL_BLOCKS]
  | .CASK_SPARE_STAT => [Fld.CASK_SPARE_STAT_LOW, Fld.CASK_SPARE_STAT_SPARES_LEFT]
  | .CASK_ECC_CTL => [Fld.CASK_ECC_CTL_CE_LIMIT]
  | .CASK_BW_CLASS => [Fld.CASK_BW_CLASS_RATE]
  | .CASK_CNT_CE => [Fld.CASK_CNT_CE_CNT]
  | .CASK_CNT_UE => [Fld.CASK_CNT_UE_CNT]
  | .CASK_CNT_RETIRED => [Fld.CASK_CNT_RETIRED_CNT]
  | .CASK_CNT_PLY_SKIP => [Fld.CASK_CNT_PLY_SKIP_CNT]
  | .CASK_CNT_ANC_TRUNC => [Fld.CASK_CNT_ANC_TRUNC_CNT]
  | .STCH_HEAD_CFG => [Fld.STCH_HEAD_CFG_EN, Fld.STCH_HEAD_CFG_SAFETY, Fld.STCH_HEAD_CFG_MATRIX, Fld.STCH_HEAD_CFG_FMT]
  | .STCH_HEAD_TIMING => [Fld.STCH_HEAD_TIMING_OFFSET]
  | .STCH_HEAD_BG => [Fld.STCH_HEAD_BG_Y, Fld.STCH_HEAD_BG_CB, Fld.STCH_HEAD_BG_CR]
  | .STCH_HEAD_FILL => [Fld.STCH_HEAD_FILL_Y, Fld.STCH_HEAD_FILL_CB, Fld.STCH_HEAD_FILL_CR]
  | .STCH_HEAD_STAT => [Fld.STCH_HEAD_STAT_RUNNING, Fld.STCH_HEAD_STAT_TRANSITION, Fld.STCH_HEAD_STAT_ABORTED, Fld.STCH_HEAD_STAT_APRON_FORCED, Fld.STCH_HEAD_STAT_APRON_SHOWN, Fld.STCH_HEAD_STAT_SIG_FAIL, Fld.STCH_HEAD_STAT_FENCED, Fld.STCH_HEAD_STAT_FETCH]
  | .STCH_HEAD_CNT => [Fld.STCH_HEAD_CNT_UNDERRUN, Fld.STCH_HEAD_CNT_APRON_UNDERRUN, Fld.STCH_HEAD_CNT_SIG_MISMATCH, Fld.STCH_HEAD_CNT_MODE_CHANGE]
  | .STCH_LAYER_CTL => [Fld.STCH_LAYER_CTL_VISIBLE, Fld.STCH_LAYER_CTL_LOST_BLACK, Fld.STCH_LAYER_CTL_SRC_KIND, Fld.STCH_LAYER_CTL_FORMAT, Fld.STCH_LAYER_CTL_ROTATE, Fld.STCH_LAYER_CTL_MIRROR, Fld.STCH_LAYER_CTL_FILTER, Fld.STCH_LAYER_CTL_GLOBAL_ALPHA]
  | .STCH_LAYER_POS => [Fld.STCH_LAYER_POS_X, Fld.STCH_LAYER_POS_Y]
  | .STCH_LAYER_SIZE => [Fld.STCH_LAYER_SIZE_W, Fld.STCH_LAYER_SIZE_H]
  | .STCH_LAYER_CROP_POS => [Fld.STCH_LAYER_CROP_POS_CX, Fld.STCH_LAYER_CROP_POS_CY]
  | .STCH_LAYER_CROP_SIZE => [Fld.STCH_LAYER_CROP_SIZE_CW, Fld.STCH_LAYER_CROP_SIZE_CH]
  | .STCH_LAYER_SRC => [Fld.STCH_LAYER_SRC_CTAB, Fld.STCH_LAYER_SRC_INDEX]
  | .STCH_LAYER_STRIDE => [Fld.STCH_LAYER_STRIDE_STRIDE]
  | .STCH_SIG_CTL => [Fld.STCH_SIG_CTL_LEARN, Fld.STCH_SIG_CTL_MISMATCH_N, Fld.STCH_SIG_CTL_EN]
  | .STCH_SIG_STAT => [Fld.STCH_SIG_STAT_MISMATCH]
  | .STCH_SIG_POS => [Fld.STCH_SIG_POS_X, Fld.STCH_SIG_POS_Y]
  | .STCH_SIG_SIZE => [Fld.STCH_SIG_SIZE_W, Fld.STCH_SIG_SIZE_H]
  | .STCH_SIG_EXP => [Fld.STCH_SIG_EXP_EXP]
  | .STCH_SIG_VAL => [Fld.STCH_SIG_VAL_VAL]
  | .STCH_APRON_STAT => [Fld.STCH_APRON_STAT_ASSERTED]
  | .MASH_CFG => [Fld.MASH_CFG_RATE, Fld.MASH_CFG_DELAY_CAP]
  | .MASH_SRC_AUDIO => [Fld.MASH_SRC_AUDIO_UNLOCKED, Fld.MASH_SRC_AUDIO_RATE_ERR, Fld.MASH_SRC_AUDIO_COUNT, Fld.MASH_SRC_AUDIO_BASE]
  | .MASH_DST_AUDIO => [Fld.MASH_DST_AUDIO_FOLLOW, Fld.MASH_DST_AUDIO_XFADE_MS, Fld.MASH_DST_AUDIO_COUNT, Fld.MASH_DST_AUDIO_BASE]
  | .MASH_ROUTE => [Fld.MASH_ROUTE_EN, Fld.MASH_ROUTE_FOLLOW, Fld.MASH_ROUTE_INPUT, Fld.MASH_ROUTE_SILENT, Fld.MASH_ROUTE_GAIN]
  | .MASH_OUT_DELAY => [Fld.MASH_OUT_DELAY_DELAY]
  | .MASH_ROUTE_CTL => [Fld.MASH_ROUTE_CTL_XFADE_MS, Fld.MASH_ROUTE_CTL_ZC_TIMEOUT]
  | .MASH_BUSIN => [Fld.MASH_BUSIN_EN, Fld.MASH_BUSIN_MUTED, Fld.MASH_BUSIN_INPUT, Fld.MASH_BUSIN_GAIN]
  | .MASH_BUSIN_MAP => [Fld.MASH_BUSIN_MAP_ASSIGNED, Fld.MASH_BUSIN_MAP_BUS]
  | .MASH_BUS_FADER => [Fld.MASH_BUS_FADER_RAMP_MS, Fld.MASH_BUS_FADER_TARGET]
  | .MASH_BUS_DYN_A => [Fld.MASH_BUS_DYN_A_EN, Fld.MASH_BUS_DYN_A_RATIO, Fld.MASH_BUS_DYN_A_THRESH]
  | .MASH_BUS_DYN_B => [Fld.MASH_BUS_DYN_B_ATTACK, Fld.MASH_BUS_DYN_B_RELEASE]
  | .MASH_BUS_STAT => [Fld.MASH_BUS_STAT_RAMPING, Fld.MASH_BUS_STAT_FENCED, Fld.MASH_BUS_STAT_LEVEL, Fld.MASH_BUS_STAT_GR, Fld.MASH_BUS_STAT_CLIP]
  | .MASH_ENG_CTL => [Fld.MASH_ENG_CTL_SWAP, Fld.MASH_ENG_CTL_HOLD]
  | .MASH_ENG_STAT => [Fld.MASH_ENG_STAT_SHADOW_DIRTY, Fld.MASH_ENG_STAT_ENTRY_HELD, Fld.MASH_ENG_STAT_SWAPS]
  | .MASH_CNT_RATE_ERR => [Fld.MASH_CNT_RATE_ERR_CNT]
  | .MASH_CNT_ANC_DROP => [Fld.MASH_CNT_ANC_DROP_CNT]
  | .MASH_CNT_OUT_SAT => [Fld.MASH_CNT_OUT_SAT_CNT]
  | .MASH_CNT_ZC_TIMEOUT => [Fld.MASH_CNT_ZC_TIMEOUT_CNT]
  | .MASH_CNT_BUS_UNLOCK => [Fld.MASH_CNT_BUS_UNLOCK_CNT]
  | .MASH_CNT_XFADE_SHORT => [Fld.MASH_CNT_XFADE_SHORT_CNT]
  | .MASH_CNT_SLIP => [Fld.MASH_CNT_SLIP_CNT]
  | .APRT_PORT_CTL => [Fld.APRT_PORT_CTL_EN, Fld.APRT_PORT_CTL_CLK_MODE, Fld.APRT_PORT_CTL_FOLLOW_KIND, Fld.APRT_PORT_CTL_FOLLOW_BW, Fld.APRT_PORT_CTL_CH64, Fld.APRT_PORT_CTL_FOLLOW_IDX, Fld.APRT_PORT_CTL_PREROLL_N]
  | .APRT_TDM_FMT => [Fld.APRT_TDM_FMT_SLOTS, Fld.APRT_TDM_FMT_FS_WIDTH, Fld.APRT_TDM_FMT_FS_POL, Fld.APRT_TDM_FMT_DELAY, Fld.APRT_TDM_FMT_EDGE, Fld.APRT_TDM_FMT_TRISTATE]
  | .APRT_BIND => [Fld.APRT_BIND_RX_BASE, Fld.APRT_BIND_TX_BASE]
  | .APRT_MASK_LO => [Fld.APRT_MASK_LO_MASK]
  | .APRT_MASK_HI => [Fld.APRT_MASK_HI_MASK]
  | .APRT_MASK_STG_LO => [Fld.APRT_MASK_STG_LO_MASK]
  | .APRT_MASK_STG_HI => [Fld.APRT_MASK_STG_HI_MASK]
  | .APRT_PORT_STAT => [Fld.APRT_PORT_STAT_STATE, Fld.APRT_PORT_STAT_CLK_PRESENT, Fld.APRT_PORT_STAT_MASK_PENDING, Fld.APRT_PORT_STAT_FILL, Fld.APRT_PORT_STAT_PPM]
  | .APRT_CNT_SLIP => [Fld.APRT_CNT_SLIP_CNT]
  | .APRT_CNT_GLITCH => [Fld.APRT_CNT_GLITCH_CNT]
  | .APRT_CNT_CLK_STOP => [Fld.APRT_CNT_CLK_STOP_CNT]
  | .APRT_CNT_UNLOCK => [Fld.APRT_CNT_UNLOCK_CNT]
  | .APRT_CNT_PARITY => [Fld.APRT_CNT_PARITY_CNT]
  | .KILN_STAT => [Fld.KILN_STAT_STATE, Fld.KILN_STAT_TIME_VALID, Fld.KILN_STAT_TRACEABLE, Fld.KILN_STAT_OSC_XO, Fld.KILN_STAT_SLEWING, Fld.KILN_STAT_HO_EXPIRED, Fld.KILN_STAT_STEP_PENDING, Fld.KILN_STAT_MODEL_VALID, Fld.KILN_STAT_SELECTED]
  | .KILN_TEB => [Fld.KILN_TEB_TEB]
  | .KILN_OFFSET_REM => [Fld.KILN_OFFSET_REM_A]
  | .KILN_HO_ELAPSED => [Fld.KILN_HO_ELAPSED_SECONDS]
  | .KILN_HO_REMAIN => [Fld.KILN_HO_REMAIN_SECONDS]
  | .KILN_HO_LIMIT => [Fld.KILN_HO_LIMIT_LIMIT]
  | .KILN_SEL_CTL => [Fld.KILN_SEL_CTL_REVERT, Fld.KILN_SEL_CTL_MANUAL_EN, Fld.KILN_SEL_CTL_MANUAL]
  | .KILN_REF_ORDER_0 => [Fld.KILN_REF_ORDER_0_ENTRY_0, Fld.KILN_REF_ORDER_0_ENTRY_1, Fld.KILN_REF_ORDER_0_ENTRY_2, Fld.KILN_REF_ORDER_0_ENTRY_3]
  | .KILN_REF_ORDER_1 => [Fld.KILN_REF_ORDER_1_ENTRY_0, Fld.KILN_REF_ORDER_1_ENTRY_1, Fld.KILN_REF_ORDER_1_ENTRY_2, Fld.KILN_REF_ORDER_1_ENTRY_3]
  | .KILN_SLEW => [Fld.KILN_SLEW_THRESH, Fld.KILN_SLEW_STEP_EN, Fld.KILN_SLEW_RATE]
  | .KILN_LOOP => [Fld.KILN_LOOP_ERR, Fld.KILN_LOOP_BW]
  | .KILN_CFG => [Fld.KILN_CFG_START_WAIT, Fld.KILN_CFG_CAL_NS, Fld.KILN_CFG_FREQ_LIM]
  | .KILN_CFG_2 => [Fld.KILN_CFG_2_XO_UNC]
  | .KILN_CFG_3 => [Fld.KILN_CFG_3_MODEL_DAYS]
  | .KILN_REF_CFG => [Fld.KILN_REF_CFG_EN, Fld.KILN_REF_CFG_QUAL_S, Fld.KILN_REF_CFG_CAL]
  | .KILN_REF_ACC => [Fld.KILN_REF_ACC_ACC]
  | .KILN_REF_STAT => [Fld.KILN_REF_STAT_STATE, Fld.KILN_REF_STAT_QUAL_LEFT]
  | .KILN_REF_OFFSET => [Fld.KILN_REF_OFFSET_DELTA]
  | .KILN_REF_CNT => [Fld.KILN_REF_CNT_DISQUAL, Fld.KILN_REF_CNT_REJECT]
  | .KILN_PPS_CFG => [Fld.KILN_PPS_CFG_WIN, Fld.KILN_PPS_CFG_FREQ, Fld.KILN_PPS_CFG_EDGE]
  | .KILN_VREF_CFG => [Fld.KILN_VREF_CFG_WIN, Fld.KILN_VREF_CFG_FAMILY, Fld.KILN_VREF_CFG_DIV, Fld.KILN_VREF_CFG_EDGE]
  | .KILN_VREF_OFS => [Fld.KILN_VREF_OFS_OFS]
  | .KILN_OSC_CFG => [Fld.KILN_OSC_CFG_CLASS, Fld.KILN_OSC_CFG_DAC_BITS, Fld.KILN_OSC_CFG_DAC_GAIN]
  | .KILN_OSC_DAC => [Fld.KILN_OSC_DAC_VALUE]
  | .KILN_OSC_TEMP => [Fld.KILN_OSC_TEMP_TEMP]
  | .KILN_MODEL_Y0 => [Fld.KILN_MODEL_Y0_VALUE]
  | .KILN_MODEL_AGING => [Fld.KILN_MODEL_AGING_VALUE]
  | .KILN_MODEL_TC => [Fld.KILN_MODEL_TC_VALUE]
  | .KILN_MODEL_UY => [Fld.KILN_MODEL_UY_VALUE]
  | .KILN_MODEL_UD => [Fld.KILN_MODEL_UD_VALUE]
  | .KILN_MODEL_UC => [Fld.KILN_MODEL_UC_VALUE]
  | .KILN_TOUT_CTL => [Fld.KILN_TOUT_CTL_MODE, Fld.KILN_TOUT_CTL_POL, Fld.KILN_TOUT_CTL_LATE, Fld.KILN_TOUT_CTL_FAMILY, Fld.KILN_TOUT_CTL_DIV, Fld.KILN_TOUT_CTL_CAL]
  | .KILN_TOUT_START => [Fld.KILN_TOUT_START_START]
  | .KILN_TOUT_PERIOD => [Fld.KILN_TOUT_PERIOD_PERIOD]
  | .KILN_TOUT_WIDTH => [Fld.KILN_TOUT_WIDTH_WIDTH]
  | .KILN_CLK_CTL => [Fld.KILN_CLK_CTL_EN, Fld.KILN_CLK_CTL_ALIGN, Fld.KILN_CLK_CTL_DEN]
  | .KILN_CLK_NUM => [Fld.KILN_CLK_NUM_NUM]
  | .KILN_EVT_CFG => [Fld.KILN_EVT_CFG_EDGE, Fld.KILN_EVT_CFG_CAL]
  | .KILN_EVT_CAP_0 => [Fld.KILN_EVT_CAP_0_EMPTY, Fld.KILN_EVT_CAP_0_EDGE, Fld.KILN_EVT_CAP_0_FRAC]
  | .KILN_EVT_CAP_1 => [Fld.KILN_EVT_CAP_1_NS]
  | .KILN_EVT_CAP_2 => [Fld.KILN_EVT_CAP_2_SEC]
  | .KILN_EVT_STAT => [Fld.KILN_EVT_STAT_OVF]
  | .KILN_UTC => [Fld.KILN_UTC_SRC, Fld.KILN_UTC_LEAP61, Fld.KILN_UTC_LEAP59, Fld.KILN_UTC_UTC_OFFSET]
  | .KILN_SET_CTL => [Fld.KILN_SET_CTL_GO]
  | .KILN_CNT_EVT_LOST => [Fld.KILN_CNT_EVT_LOST_CNT]
  | .KILN_CNT_OSC_GLITCH => [Fld.KILN_CNT_OSC_GLITCH_CNT]
  | .KILN_NOW_SEC_LO => [Fld.KILN_NOW_SEC_LO_SEC]
  | .KILN_NOW_SEC_HI => [Fld.KILN_NOW_SEC_HI_SEC]
  | .KILN_NOW_NS => [Fld.KILN_NOW_NS_NS]
  | .KILN_NOW_FRAC => [Fld.KILN_NOW_FRAC_FRAC]
  | .KILN_COUNT => [Fld.KILN_COUNT_COUNT]
  | .KILN_SET_SEC_LO => [Fld.KILN_SET_SEC_LO_SEC]
  | .KILN_SET_SEC_HI => [Fld.KILN_SET_SEC_HI_SEC]
  | .KILN_SET_NS => [Fld.KILN_SET_NS_NS]
  | .GNSS_CTL => [Fld.GNSS_CTL_EN, Fld.GNSS_CTL_SELFTEST, Fld.GNSS_CTL_POS_MODE, Fld.GNSS_CTL_TIMESCALE, Fld.GNSS_CTL_MEAS_MS, Fld.GNSS_CTL_SIG_EN]
  | .GNSS_IF_CFG_A => [Fld.GNSS_IF_CFG_A_RATE, Fld.GNSS_IF_CFG_A_SWAP_IQ, Fld.GNSS_IF_CFG_A_CLK_OK, Fld.GNSS_IF_CFG_A_IF_FREQ]
  | .GNSS_IF_CFG_B => [Fld.GNSS_IF_CFG_B_RATE, Fld.GNSS_IF_CFG_B_SWAP_IQ, Fld.GNSS_IF_CFG_B_CLK_OK, Fld.GNSS_IF_CFG_B_IF_FREQ]
  | .GNSS_STAT => [Fld.GNSS_STAT_STATE, Fld.GNSS_STAT_START, Fld.GNSS_STAT_TRUSTED, Fld.GNSS_STAT_SOL_VALID, Fld.GNSS_STAT_DUAL, Fld.GNSS_STAT_SURVEYED, Fld.GNSS_STAT_LOCKED, Fld.GNSS_STAT_USED, Fld.GNSS_STAT_TRUST_LEFT]
  | .GNSS_TEB => [Fld.GNSS_TEB_TEB_G]
  | .GNSS_TRACK_CFG_A => [Fld.GNSS_TRACK_CFG_A_DLL_BW, Fld.GNSS_TRACK_CFG_A_PLL_BW, Fld.GNSS_TRACK_CFG_A_FLL_BW, Fld.GNSS_TRACK_CFG_A_T_COH, Fld.GNSS_TRACK_CFG_A_SPACING, Fld.GNSS_TRACK_CFG_A_LOSS_CN0]
  | .GNSS_TRACK_CFG_B => [Fld.GNSS_TRACK_CFG_B_DLL_BW, Fld.GNSS_TRACK_CFG_B_PLL_BW, Fld.GNSS_TRACK_CFG_B_FLL_BW, Fld.GNSS_TRACK_CFG_B_T_COH, Fld.GNSS_TRACK_CFG_B_SPACING, Fld.GNSS_TRACK_CFG_B_LOSS_CN0]
  | .GNSS_CH_STAT => [Fld.GNSS_CH_STAT_FAULTY, Fld.GNSS_CH_STAT_STATE, Fld.GNSS_CH_STAT_EXCLUDED, Fld.GNSS_CH_STAT_SIG, Fld.GNSS_CH_STAT_PRN, Fld.GNSS_CH_STAT_CN0]
  | .GNSS_SV_EXCL => [Fld.GNSS_SV_EXCL_PRN_LO]
  | .GNSS_SV_EXCL_HI => [Fld.GNSS_SV_EXCL_HI_PRN_HI]
  | .GNSS_MEAS_PTR => [Fld.GNSS_MEAS_PTR_NEWEST]
  | .GNSS_POS_X => [Fld.GNSS_POS_X_POS]
  | .GNSS_POS_Y => [Fld.GNSS_POS_Y_POS]
  | .GNSS_POS_Z => [Fld.GNSS_POS_Z_POS]
  | .GNSS_POS_UNC => [Fld.GNSS_POS_UNC_UNC]
  | .GNSS_SURVEY => [Fld.GNSS_SURVEY_SURVEY_S, Fld.GNSS_SURVEY_ELEV_MASK]
  | .GNSS_CFG => [Fld.GNSS_CFG_SURVEY_UNC, Fld.GNSS_CFG_CELLAR_NAV_H, Fld.GNSS_CFG_IONO_UNC, Fld.GNSS_CFG_CAL_UNC]
  | .GNSS_INTEG_CFG_0 => [Fld.GNSS_INTEG_CFG_0_RES_LIM, Fld.GNSS_INTEG_CFG_0_MAX_EXCL, Fld.GNSS_INTEG_CFG_0_MIN_SV, Fld.GNSS_INTEG_CFG_0_CN0_MAX, Fld.GNSS_INTEG_CFG_0_CN0_SD_MIN, Fld.GNSS_INTEG_CFG_0_NOISE_LIM]
  | .GNSS_INTEG_CFG_1 => [Fld.GNSS_INTEG_CFG_1_DOP_LIM, Fld.GNSS_INTEG_CFG_1_ISB_LIM, Fld.GNSS_INTEG_CFG_1_CLK_LIM, Fld.GNSS_INTEG_CFG_1_FREQ_MARGIN]
  | .GNSS_INTEG_CFG_2 => [Fld.GNSS_INTEG_CFG_2_TRUST_S]
  | .GNSS_INTEG_STAT => [Fld.GNSS_INTEG_STAT_SKIPPED, Fld.GNSS_INTEG_STAT_FAILING, Fld.GNSS_INTEG_STAT_CAUSE]
  | .GNSS_CNT_CLK_GLITCH_A => [Fld.GNSS_CNT_CLK_GLITCH_A_CNT]
  | .GNSS_CNT_CLK_GLITCH_B => [Fld.GNSS_CNT_CLK_GLITCH_B_CNT]
  | .GNSS_CNT_EXCL => [Fld.GNSS_CNT_EXCL_CNT]
  | .GNSS_CNT_UNTRUST => [Fld.GNSS_CNT_UNTRUST_CNT]
  | .GNSS_CNT_LOCK_LOSS => [Fld.GNSS_CNT_LOCK_LOSS_CNT]
  | .TSVC_CFG => [Fld.TSVC_CFG_PRIORITY1, Fld.TSVC_CFG_PRIORITY2, Fld.TSVC_CFG_DEGRADED_CLASS, Fld.TSVC_CFG_PORT_UNC]
  | .TSVC_ORG_ID => [Fld.TSVC_ORG_ID_ORG_ID]
  | .TSVC_STAT => [Fld.TSVC_STAT_BC]
  | .TSVC_CLOCK_ID => [Fld.TSVC_CLOCK_ID_ID]
  | .TSVC_PORT_CFG => [Fld.TSVC_PORT_CFG_ROLE, Fld.TSVC_PORT_CFG_MCAST, Fld.TSVC_PORT_CFG_UNICAST, Fld.TSVC_PORT_CFG_AUTH, Fld.TSVC_PORT_CFG_GKEY, Fld.TSVC_PORT_CFG_DOMAIN, Fld.TSVC_PORT_CFG_ACC_CLASS, Fld.TSVC_PORT_CFG_NTP_EN]
  | .TSVC_NEG_CFG => [Fld.TSVC_NEG_CFG_SYNC_MIN, Fld.TSVC_NEG_CFG_SYNC_MAX, Fld.TSVC_NEG_CFG_ANN_MIN, Fld.TSVC_NEG_CFG_ANN_MAX, Fld.TSVC_NEG_CFG_DR_MIN, Fld.TSVC_NEG_CFG_DR_MAX]
  | .TSVC_NEG_LIM => [Fld.TSVC_NEG_LIM_MAX_DUR, Fld.TSVC_NEG_LIM_PPS_LIM]
  | .TSVC_PORT_STAT => [Fld.TSVC_PORT_STAT_STATE, Fld.TSVC_PORT_STAT_RESV]
  | .TSVC_RESV_TOTAL => [Fld.TSVC_RESV_TOTAL_RESV]
  | .TSVC_PORT_CAL => [Fld.TSVC_PORT_CAL_TX_CAL, Fld.TSVC_PORT_CAL_RX_CAL]
  | .TSVC_SESS_SEL => [Fld.TSVC_SESS_SEL_INDEX]
  | .TSVC_SESS_CMD => [Fld.TSVC_SESS_CMD_BUSY, Fld.TSVC_SESS_CMD_WR_KEY_B, Fld.TSVC_SESS_CMD_WR_KEY_A, Fld.TSVC_SESS_CMD_INVALIDATE, Fld.TSVC_SESS_CMD_WRITE, Fld.TSVC_SESS_CMD_READ]
  | .TSVC_SESS_DATA => [Fld.TSVC_SESS_DATA_DATA]
  | .TSVC_KEY_STAGE => [Fld.TSVC_KEY_STAGE_DATA]
  | .TSVC_KEY_ID => [Fld.TSVC_KEY_ID_ID]
  | .TSVC_KEY_LOAD => [Fld.TSVC_KEY_LOAD_GO, Fld.TSVC_KEY_LOAD_TARGET, Fld.TSVC_KEY_LOAD_SLOT]
  | .TSVC_GKEY_STAT => [Fld.TSVC_GKEY_STAT_LOADED, Fld.TSVC_GKEY_STAT_KCV]
  | .TSVC_NTS_MKEY_STAT => [Fld.TSVC_NTS_MKEY_STAT_EN, Fld.TSVC_NTS_MKEY_STAT_ISSUE, Fld.TSVC_NTS_MKEY_STAT_KCV]
  | .TSVC_NTP_CFG => [Fld.TSVC_NTP_CFG_PLAIN_EN, Fld.TSVC_NTP_CFG_NTS_EN]
  | .TSVC_GKEY_ID => [Fld.TSVC_GKEY_ID_ID]
  | .TSVC_NTS_MKEY_ID => [Fld.TSVC_NTS_MKEY_ID_ID]
  | .TSVC_INJECT_CTL => [Fld.TSVC_INJECT_CTL_GO, Fld.TSVC_INJECT_CTL_TS_REQ, Fld.TSVC_INJECT_CTL_QUEUE, Fld.TSVC_INJECT_CTL_PORT, Fld.TSVC_INJECT_CTL_LEN]
  | .TSVC_INJECT_ID => [Fld.TSVC_INJECT_ID_ID]
  | .TSVC_TXTS_0 => [Fld.TSVC_TXTS_0_EMPTY, Fld.TSVC_TXTS_0_DROPPED, Fld.TSVC_TXTS_0_ID]
  | .TSVC_TXTS_1 => [Fld.TSVC_TXTS_1_NS]
  | .TSVC_TXTS_2 => [Fld.TSVC_TXTS_2_SEC]
  | .TSVC_TXTS_3 => [Fld.TSVC_TXTS_3_SEC_HI, Fld.TSVC_TXTS_3_FRAC]
  | .TSVC_INJECT_ADDR => [Fld.TSVC_INJECT_ADDR_ADDR]
  | .TSVC_TXTS_STAT => [Fld.TSVC_TXTS_STAT_OVF]
  | .TSVC_CNT_NOT_RUN => [Fld.TSVC_CNT_NOT_RUN_CNT]
  | .TSVC_CNT_FILTER => [Fld.TSVC_CNT_FILTER_CNT]
  | .TSVC_CNT_NOSESS => [Fld.TSVC_CNT_NOSESS_CNT]
  | .TSVC_CNT_AUTH_FAIL => [Fld.TSVC_CNT_AUTH_FAIL_CNT]
  | .TSVC_CNT_REPLAY => [Fld.TSVC_CNT_REPLAY_CNT]
  | .TSVC_CNT_OVERLOAD => [Fld.TSVC_CNT_OVERLOAD_CNT]
  | .TSVC_CNT_NTS_NAK => [Fld.TSVC_CNT_NTS_NAK_CNT]
  | .TSVC_CNT_TXTS_LOST => [Fld.TSVC_CNT_TXTS_LOST_CNT]
  | .MNTL_CTL => [Fld.MNTL_CTL_EN, Fld.MNTL_CTL_CLAIM_EN, Fld.MNTL_CTL_TRIAL_CLAIM, Fld.MNTL_CTL_MIRROR, Fld.MNTL_CTL_REVERT_EN, Fld.MNTL_CTL_HANDOVER, Fld.MNTL_CTL_STBY_PORTS, Fld.MNTL_CTL_UNIT_ID, Fld.MNTL_CTL_SIG_N, Fld.MNTL_CTL_TIME_LIM]
  | .MNTL_LEASE => [Fld.MNTL_LEASE_HOLDOFF_S, Fld.MNTL_LEASE_L_MS]
  | .MNTL_STAT => [Fld.MNTL_STAT_ROLE, Fld.MNTL_STAT_EPOCH, Fld.MNTL_STAT_PREF, Fld.MNTL_STAT_HEALTHY, Fld.MNTL_STAT_TWIN_HEALTHY, Fld.MNTL_STAT_COMPAT, Fld.MNTL_STAT_HO_STATE, Fld.MNTL_STAT_HO_CAUSE, Fld.MNTL_STAT_HOLDOFF_LEFT]
  | .MNTL_SIG_STAT => [Fld.MNTL_SIG_STAT_REPORTED, Fld.MNTL_SIG_STAT_LAST_DST]
  | .MNTL_HEALTH_OWN => [Fld.MNTL_HEALTH_OWN_DATA]
  | .MNTL_HEALTH_TWIN => [Fld.MNTL_HEALTH_TWIN_DATA]
  | .MNTL_CNT_CLAIM => [Fld.MNTL_CNT_CLAIM_CNT]
  | .MNTL_CNT_LAPSE => [Fld.MNTL_CNT_LAPSE_CNT]
  | .MNTL_CNT_CONFLICT => [Fld.MNTL_CNT_CONFLICT_CNT]
  | .MNTL_CNT_HANDOVER => [Fld.MNTL_CNT_HANDOVER_CNT]
  | .MNTL_CNT_SIG_MISMATCH => [Fld.MNTL_CNT_SIG_MISMATCH_CNT]
  | .MNTL_CNT_LANE_TEST => [Fld.MNTL_CNT_LANE_TEST_CNT]
  | .FLT_SRC_CFG => [Fld.FLT_SRC_CFG_PIN, Fld.FLT_SRC_CFG_REPLACE, Fld.FLT_SRC_CFG_SEVERITY]
  | .FLT_SRC_STAT => [Fld.FLT_SRC_STAT_STANDING, Fld.FLT_SRC_STAT_CONDITION, Fld.FLT_SRC_STAT_COUNT]
  | .FLT_STANDING => [Fld.FLT_STANDING_BITS]
  | .FLT_STAT => [Fld.FLT_STAT_FAULT_N, Fld.FLT_STAT_REPLACE_N, Fld.FLT_STAT_PULSE, Fld.FLT_STAT_HEM_SRC]
  | .FLT_PIN_CTL => [Fld.FLT_PIN_CTL_FAULT_HOLD]
  | .FLT_FENCE_CMD => [Fld.FLT_FENCE_CMD_GO, Fld.FLT_FENCE_CMD_OP, Fld.FLT_FENCE_CMD_KIND, Fld.FLT_FENCE_CMD_INDEX]
  | .FLT_FENCE_STAT => [Fld.FLT_FENCE_STAT_COUNT]
  | .FLT_HEM_CFG => [Fld.FLT_HEM_CFG_CONTENT, Fld.FLT_HEM_CFG_HEM_HEAD]
  | .FLT_LOG_PTR => [Fld.FLT_LOG_PTR_COUNT, Fld.FLT_LOG_PTR_HEAD, Fld.FLT_LOG_PTR_TAIL]
  | .FLT_LOG_ACK => [Fld.FLT_LOG_ACK_COUNT]
  | .FLT_LOG_SEL => [Fld.FLT_LOG_SEL_INDEX]
  | .FLT_LOG_DATA => [Fld.FLT_LOG_DATA_DATA]
  | .FLT_CNT_LOG_OVF => [Fld.FLT_CNT_LOG_OVF_CNT]
  | .HCP_CFG => [Fld.HCP_CFG_UDP_PORT, Fld.HCP_CFG_IDLE_S]
  | .HCP_SLOT_STAT => [Fld.HCP_SLOT_STAT_LOADED, Fld.HCP_SLOT_STAT_EN, Fld.HCP_SLOT_STAT_RIGHTS, Fld.HCP_SLOT_STAT_KCV]
  | .HCP_SLOT_OPENS => [Fld.HCP_SLOT_OPENS_COUNT]
  | .HCP_SESS_STAT => [Fld.HCP_SESS_STAT_ACTIVE, Fld.HCP_SESS_STAT_PENDING, Fld.HCP_SESS_STAT_SLOT, Fld.HCP_SESS_STAT_PORT, Fld.HCP_SESS_STAT_SUBS]
  | .HCP_SESS_ID => [Fld.HCP_SESS_ID_ID]
  | .HCP_CNT_AUTH_FAIL => [Fld.HCP_CNT_AUTH_FAIL_CNT]
  | .HCP_CNT_SEQ_ERR => [Fld.HCP_CNT_SEQ_ERR_CNT]
  | .HCP_CNT_FORMAT => [Fld.HCP_CNT_FORMAT_CNT]
  | .HCP_CNT_OVERLOAD => [Fld.HCP_CNT_OVERLOAD_CNT]
  | .HCP_CNT_EVT_LOST => [Fld.HCP_CNT_EVT_LOST_CNT]
  | .CTRL_ISLAND_CLK => [Fld.CTRL_ISLAND_CLK_PRESENT]
  | .CTRL_DEV_STATE => [Fld.CTRL_DEV_STATE_FENCED_COUNT, Fld.CTRL_DEV_STATE_PREV_MODE, Fld.CTRL_DEV_STATE_TRIAL, Fld.CTRL_DEV_STATE_MODE]
  | .CTRL_DEFAULT_ERR => [Fld.CTRL_DEFAULT_ERR_MASTER, Fld.CTRL_DEFAULT_ERR_WRITE, Fld.CTRL_DEFAULT_ERR_ADDR]
  | .CTRL_DEV_ID => [Fld.CTRL_DEV_ID_PART, Fld.CTRL_DEV_ID_GRADE, Fld.CTRL_DEV_ID_REV_MAJOR, Fld.CTRL_DEV_ID_REV_MINOR]
  | .HOP_CH_CTL => [Fld.HOP_CH_CTL_EN, Fld.HOP_CH_CTL_GO]
  | .HOP_CH_CFG => [Fld.HOP_CH_CFG_RETRY_LIMIT]
  | .HOP_CH_STAT => [Fld.HOP_CH_STAT_STATE, Fld.HOP_CH_STAT_CAUSE, Fld.HOP_CH_STAT_RETRIES, Fld.HOP_CH_STAT_DESC_DONE]
  | .HOP_CH_DESC => [Fld.HOP_CH_DESC_ADDR]
  | .HOP_CH_RESID => [Fld.HOP_CH_RESID_COUNT]
  | .CRC_CFG => [Fld.CRC_CFG_REFIN, Fld.CRC_CFG_REFOUT, Fld.CRC_CFG_WIDTH]
  | .CRC_CTL => [Fld.CRC_CTL_EN, Fld.CRC_CTL_START, Fld.CRC_CTL_OWNER, Fld.CRC_CTL_PREFIX_LEN, Fld.CRC_CTL_FEED_BYTES]
  | .CRC_POLY => [Fld.CRC_POLY_V]
  | .CRC_INIT => [Fld.CRC_INIT_V]
  | .CRC_XOROUT => [Fld.CRC_XOROUT_V]
  | .CRC_PREFIX => [Fld.CRC_PREFIX_V]
  | .CRC_VALUE => [Fld.CRC_VALUE_V]
  | .CRC_RESULT => [Fld.CRC_RESULT_V]
  | .CRC_FEED => [Fld.CRC_FEED_WORD]
  | .BOOT_STAT => [Fld.BOOT_STAT_SOURCE, Fld.BOOT_STAT_CAUSE, Fld.BOOT_STAT_FACTORY_PIN, Fld.BOOT_STAT_FELL_BACK, Fld.BOOT_STAT_SWAPPED, Fld.BOOT_STAT_STAGE]
  | .BOOT_STG_STAT => [Fld.BOOT_STG_STAT_STATE, Fld.BOOT_STG_STAT_CAUSE, Fld.BOOT_STG_STAT_RELAYED, Fld.BOOT_STG_STAT_HOPS]
  | .BOOT_TRIAL => [Fld.BOOT_TRIAL_CONFIRM, Fld.BOOT_TRIAL_REJECT, Fld.BOOT_TRIAL_SELF_OK, Fld.BOOT_TRIAL_HOST_REQ, Fld.BOOT_TRIAL_STARTS, Fld.BOOT_TRIAL_WINDOW_LEFT, Fld.BOOT_TRIAL_HOLD_LEFT]
  | .BOOT_RELAY_CTL => [Fld.BOOT_RELAY_CTL_ACCEPT, Fld.BOOT_RELAY_CTL_FORWARD, Fld.BOOT_RELAY_CTL_MANTLE]
  | .BOOT_RELAY_MASK => [Fld.BOOT_RELAY_MASK_BUNDLES]
  | .BOOT_ACT_VER => [Fld.BOOT_ACT_VER_PROTO, Fld.BOOT_ACT_VER_PROTO_LO, Fld.BOOT_ACT_VER_PROTO_HI]
  | .BOOT_ACT_SVN => [Fld.BOOT_ACT_SVN_SVN]
  | .BOOT_MIN_SVN => [Fld.BOOT_MIN_SVN_SVN]
  | .BOOT_START_COUNT => [Fld.BOOT_START_COUNT_COUNT]
  | .BOOT_DEV_PUB => [Fld.BOOT_DEV_PUB_DATA]
  | .BOOT_OWNER_STAT => [Fld.BOOT_OWNER_STAT_BITS]
  | .PWR_CELLAR_CTL => [Fld.PWR_CELLAR_CTL_CELLAR_PIN, Fld.PWR_CELLAR_CTL_ENTER]
  | .PWR_RAIL_STAT => [Fld.PWR_RAIL_STAT_WAS_OUT, Fld.PWR_RAIL_STAT_OK]
  | .PWR_TEMP => [Fld.PWR_TEMP_TJ, Fld.PWR_TEMP_SENSOR]
  | .PWR_TEMP_PEAK => [Fld.PWR_TEMP_PEAK_TJ]
  | .PWR_TSENS_CFG => [Fld.PWR_TSENS_CFG_FAST, Fld.PWR_TSENS_CFG_SCALE, Fld.PWR_TSENS_CFG_POINTER, Fld.PWR_TSENS_CFG_ADDR]
  | .PWR_UART_CTL => [Fld.PWR_UART_CTL_EN, Fld.PWR_UART_CTL_BAUD]
  | .PWR_UART_TX => [Fld.PWR_UART_TX_FREE, Fld.PWR_UART_TX_DATA]
  | .PWR_UART_RX => [Fld.PWR_UART_RX_EMPTY, Fld.PWR_UART_RX_OVF, Fld.PWR_UART_RX_DATA]

/-- Register arrays that hold a 64-bit value read and written under R16 (R823). -/
def Reg.w64 (r : Reg) : Bool :=
  match r with
  | .ETH_CNT_RX_OCTETS => true
  | .ETH_CNT_TX_OCTETS => true
  | .ETH_CNT_RX_FRAMES => true
  | .ETH_CNT_TX_FRAMES => true
  | .ETH_CNT_RX_CRC => true
  | .ETH_CNT_RX_SHORT => true
  | .ETH_CNT_RX_LONG => true
  | .ETH_CNT_RX_BAD => true
  | .ETH_CNT_RX_FULL => true
  | .ETH_CNT_RX_NOMATCH => true
  | .ETH_CNT_RX_PAUSE => true
  | .ETH_CNT_PAUSE_WD => true
  | .ETH_CNT_TX_DISC => true
  | .ETH_CNT_FEC_CORR => true
  | .ETH_CNT_FEC_UNCORR => true
  | .ETH_CNT_LINK_GLITCH => true
  | .ETH_CNT_LINK_DOWN => true
  | .WARP_CS_ARM => true
  | .WARP_CS_PREP => true
  | .KILN_TOUT_START => true
  | .KILN_COUNT => true
  | .GNSS_POS_X => true
  | .GNSS_POS_Y => true
  | .GNSS_POS_Z => true
  | .TSVC_CLOCK_ID => true
  | .TSVC_INJECT_ADDR => true
  | .HOP_CH_DESC => true
  | .CRC_POLY => true
  | .CRC_INIT => true
  | .CRC_XOROUT => true
  | .CRC_PREFIX => true
  | .CRC_VALUE => true
  | .CRC_RESULT => true
  | _ => false

/-- The block whose window holds the register; none for the common registers of R820. -/
def Reg.block : Reg → Option Block
  | .COM_BLK_ID => none
  | .COM_BLK_DIR_INFO => none
  | .COM_BLK_FAULT => none
  | .COM_BLK_SCRATCH => none
  | .IZL_LINK_CTL => some .izl
  | .IZL_LINK_STAT => some .izl
  | .IZL_LANE_STAT => some .izl
  | .IZL_DEGRADE_SHED_LO => some .izl
  | .IZL_DEGRADE_SHED_HI => some .izl
  | .IZL_PRBS_CTL => some .izl
  | .IZL_CNT_MARKER_MISS => some .izl
  | .IZL_CNT_STUFF_VIOL => some .izl
  | .IZL_CNT_CLK_GLITCH => some .izl
  | .IZL_CNT_LINK_DOWN => some .izl
  | .IZL_CNT_WAKE_FAIL => some .izl
  | .IZL_PRBS_ERR => some .izl
  | .CELL_SRC_BIND => some .cell
  | .CELL_DST_BIND => some .cell
  | .CELL_LINK_DELAY => some .cell
  | .CELL_LINK_INFO => some .cell
  | .CELL_SRC_STAT => some .cell
  | .CELL_CNT_CRC_ERR => some .cell
  | .CELL_CNT_SEQ_ERR => some .cell
  | .CELL_CNT_SEQ_LOST => some .cell
  | .CELL_CNT_MISDIR => some .cell
  | .CELL_CNT_HDR_ERR => some .cell
  | .CELL_CNT_OVERRUN => some .cell
  | .CELL_CNT_FMT_CHANGE => some .cell
  | .ETH_PORT_CTL => some .eth
  | .ETH_PORT_STAT => some .eth
  | .ETH_PORT_TX_RESV => some .eth
  | .ETH_FLOW_CTL => some .eth
  | .ETH_FLOW_MEDIA => some .eth
  | .ETH_FLOW_DIP => some .eth
  | .ETH_FLOW_SIP => some .eth
  | .ETH_FLOW_UDP => some .eth
  | .ETH_FLOW_SSRC => some .eth
  | .ETH_FLOW_HDR => some .eth
  | .ETH_FLOW_PT => some .eth
  | .ETH_FLOW_DMAC_HI => some .eth
  | .ETH_FLOW_DMAC_LO => some .eth
  | .ETH_FLOW_STAT => some .eth
  | .ETH_FLOW_CNT => some .eth
  | .ETH_CNT_RX_OCTETS => some .eth
  | .ETH_CNT_TX_OCTETS => some .eth
  | .ETH_CNT_RX_FRAMES => some .eth
  | .ETH_CNT_TX_FRAMES => some .eth
  | .ETH_CNT_RX_CRC => some .eth
  | .ETH_CNT_RX_SHORT => some .eth
  | .ETH_CNT_RX_LONG => some .eth
  | .ETH_CNT_RX_BAD => some .eth
  | .ETH_CNT_RX_FULL => some .eth
  | .ETH_CNT_RX_NOMATCH => some .eth
  | .ETH_CNT_RX_PAUSE => some .eth
  | .ETH_CNT_PAUSE_WD => some .eth
  | .ETH_CNT_TX_DISC => some .eth
  | .ETH_CNT_FEC_CORR => some .eth
  | .ETH_CNT_FEC_UNCORR => some .eth
  | .ETH_CNT_LINK_GLITCH => some .eth
  | .ETH_CNT_LINK_DOWN => some .eth
  | .ETH_MERGE_CTL => some .eth
  | .ETH_QUEUE_PCP => some .eth
  | .WARP_DST_CFG => some .warp
  | .WARP_DST_TIMING => some .warp
  | .WARP_DST_ROUTE => some .warp
  | .WARP_DST_STAT => some .warp
  | .WARP_DST_CNT => some .warp
  | .WARP_SRC_TIME => some .warp
  | .WARP_INT_TIME => some .warp
  | .WARP_CS_STAT => some .warp
  | .WARP_CS_STORE => some .warp
  | .WARP_CS_ARM => some .warp
  | .WARP_CS_PREP => some .warp
  | .CASK_REGION => some .cask
  | .CASK_RING => some .cask
  | .CASK_INT_RING => some .cask
  | .CASK_FS_CTL => some .cask
  | .CASK_FS_STAT => some .cask
  | .CASK_FS_CNT => some .cask
  | .CASK_SURF_STAT => some .cask
  | .CASK_POOL_STAT => some .cask
  | .CASK_SPARE_STAT => some .cask
  | .CASK_ECC_CTL => some .cask
  | .CASK_BW_CLASS => some .cask
  | .CASK_CNT_CE => some .cask
  | .CASK_CNT_UE => some .cask
  | .CASK_CNT_RETIRED => some .cask
  | .CASK_CNT_PLY_SKIP => some .cask
  | .CASK_CNT_ANC_TRUNC => some .cask
  | .STCH_HEAD_CFG => some .stch
  | .STCH_HEAD_TIMING => some .stch
  | .STCH_HEAD_BG => some .stch
  | .STCH_HEAD_FILL => some .stch
  | .STCH_HEAD_STAT => some .stch
  | .STCH_HEAD_CNT => some .stch
  | .STCH_LAYER_CTL => some .stch
  | .STCH_LAYER_POS => some .stch
  | .STCH_LAYER_SIZE => some .stch
  | .STCH_LAYER_CROP_POS => some .stch
  | .STCH_LAYER_CROP_SIZE => some .stch
  | .STCH_LAYER_SRC => some .stch
  | .STCH_LAYER_STRIDE => some .stch
  | .STCH_SIG_CTL => some .stch
  | .STCH_SIG_STAT => some .stch
  | .STCH_SIG_POS => some .stch
  | .STCH_SIG_SIZE => some .stch
  | .STCH_SIG_EXP => some .stch
  | .STCH_SIG_VAL => some .stch
  | .STCH_APRON_STAT => some .stch
  | .MASH_CFG => some .mash
  | .MASH_SRC_AUDIO => some .mash
  | .MASH_DST_AUDIO => some .mash
  | .MASH_ROUTE => some .mash
  | .MASH_OUT_DELAY => some .mash
  | .MASH_ROUTE_CTL => some .mash
  | .MASH_BUSIN => some .mash
  | .MASH_BUSIN_MAP => some .mash
  | .MASH_BUS_FADER => some .mash
  | .MASH_BUS_DYN_A => some .mash
  | .MASH_BUS_DYN_B => some .mash
  | .MASH_BUS_STAT => some .mash
  | .MASH_ENG_CTL => some .mash
  | .MASH_ENG_STAT => some .mash
  | .MASH_CNT_RATE_ERR => some .mash
  | .MASH_CNT_ANC_DROP => some .mash
  | .MASH_CNT_OUT_SAT => some .mash
  | .MASH_CNT_ZC_TIMEOUT => some .mash
  | .MASH_CNT_BUS_UNLOCK => some .mash
  | .MASH_CNT_XFADE_SHORT => some .mash
  | .MASH_CNT_SLIP => some .mash
  | .APRT_PORT_CTL => some .aprt
  | .APRT_TDM_FMT => some .aprt
  | .APRT_BIND => some .aprt
  | .APRT_MASK_LO => some .aprt
  | .APRT_MASK_HI => some .aprt
  | .APRT_MASK_STG_LO => some .aprt
  | .APRT_MASK_STG_HI => some .aprt
  | .APRT_PORT_STAT => some .aprt
  | .APRT_CNT_SLIP => some .aprt
  | .APRT_CNT_GLITCH => some .aprt
  | .APRT_CNT_CLK_STOP => some .aprt
  | .APRT_CNT_UNLOCK => some .aprt
  | .APRT_CNT_PARITY => some .aprt
  | .KILN_STAT => some .kiln
  | .KILN_TEB => some .kiln
  | .KILN_OFFSET_REM => some .kiln
  | .KILN_HO_ELAPSED => some .kiln
  | .KILN_HO_REMAIN => some .kiln
  | .KILN_HO_LIMIT => some .kiln
  | .KILN_SEL_CTL => some .kiln
  | .KILN_REF_ORDER_0 => some .kiln
  | .KILN_REF_ORDER_1 => some .kiln
  | .KILN_SLEW => some .kiln
  | .KILN_LOOP => some .kiln
  | .KILN_CFG => some .kiln
  | .KILN_CFG_2 => some .kiln
  | .KILN_CFG_3 => some .kiln
  | .KILN_REF_CFG => some .kiln
  | .KILN_REF_ACC => some .kiln
  | .KILN_REF_STAT => some .kiln
  | .KILN_REF_OFFSET => some .kiln
  | .KILN_REF_CNT => some .kiln
  | .KILN_PPS_CFG => some .kiln
  | .KILN_VREF_CFG => some .kiln
  | .KILN_VREF_OFS => some .kiln
  | .KILN_OSC_CFG => some .kiln
  | .KILN_OSC_DAC => some .kiln
  | .KILN_OSC_TEMP => some .kiln
  | .KILN_MODEL_Y0 => some .kiln
  | .KILN_MODEL_AGING => some .kiln
  | .KILN_MODEL_TC => some .kiln
  | .KILN_MODEL_UY => some .kiln
  | .KILN_MODEL_UD => some .kiln
  | .KILN_MODEL_UC => some .kiln
  | .KILN_TOUT_CTL => some .kiln
  | .KILN_TOUT_START => some .kiln
  | .KILN_TOUT_PERIOD => some .kiln
  | .KILN_TOUT_WIDTH => some .kiln
  | .KILN_CLK_CTL => some .kiln
  | .KILN_CLK_NUM => some .kiln
  | .KILN_EVT_CFG => some .kiln
  | .KILN_EVT_CAP_0 => some .kiln
  | .KILN_EVT_CAP_1 => some .kiln
  | .KILN_EVT_CAP_2 => some .kiln
  | .KILN_EVT_STAT => some .kiln
  | .KILN_UTC => some .kiln
  | .KILN_SET_CTL => some .kiln
  | .KILN_CNT_EVT_LOST => some .kiln
  | .KILN_CNT_OSC_GLITCH => some .kiln
  | .KILN_NOW_SEC_LO => some .kiln
  | .KILN_NOW_SEC_HI => some .kiln
  | .KILN_NOW_NS => some .kiln
  | .KILN_NOW_FRAC => some .kiln
  | .KILN_COUNT => some .kiln
  | .KILN_SET_SEC_LO => some .kiln
  | .KILN_SET_SEC_HI => some .kiln
  | .KILN_SET_NS => some .kiln
  | .GNSS_CTL => some .gnss
  | .GNSS_IF_CFG_A => some .gnss
  | .GNSS_IF_CFG_B => some .gnss
  | .GNSS_STAT => some .gnss
  | .GNSS_TEB => some .gnss
  | .GNSS_TRACK_CFG_A => some .gnss
  | .GNSS_TRACK_CFG_B => some .gnss
  | .GNSS_CH_STAT => some .gnss
  | .GNSS_SV_EXCL => some .gnss
  | .GNSS_SV_EXCL_HI => some .gnss
  | .GNSS_MEAS_PTR => some .gnss
  | .GNSS_POS_X => some .gnss
  | .GNSS_POS_Y => some .gnss
  | .GNSS_POS_Z => some .gnss
  | .GNSS_POS_UNC => some .gnss
  | .GNSS_SURVEY => some .gnss
  | .GNSS_CFG => some .gnss
  | .GNSS_INTEG_CFG_0 => some .gnss
  | .GNSS_INTEG_CFG_1 => some .gnss
  | .GNSS_INTEG_CFG_2 => some .gnss
  | .GNSS_INTEG_STAT => some .gnss
  | .GNSS_CNT_CLK_GLITCH_A => some .gnss
  | .GNSS_CNT_CLK_GLITCH_B => some .gnss
  | .GNSS_CNT_EXCL => some .gnss
  | .GNSS_CNT_UNTRUST => some .gnss
  | .GNSS_CNT_LOCK_LOSS => some .gnss
  | .TSVC_CFG => some .tsvc
  | .TSVC_ORG_ID => some .tsvc
  | .TSVC_STAT => some .tsvc
  | .TSVC_CLOCK_ID => some .tsvc
  | .TSVC_PORT_CFG => some .tsvc
  | .TSVC_NEG_CFG => some .tsvc
  | .TSVC_NEG_LIM => some .tsvc
  | .TSVC_PORT_STAT => some .tsvc
  | .TSVC_RESV_TOTAL => some .tsvc
  | .TSVC_PORT_CAL => some .tsvc
  | .TSVC_SESS_SEL => some .tsvc
  | .TSVC_SESS_CMD => some .tsvc
  | .TSVC_SESS_DATA => some .tsvc
  | .TSVC_KEY_STAGE => some .tsvc
  | .TSVC_KEY_ID => some .tsvc
  | .TSVC_KEY_LOAD => some .tsvc
  | .TSVC_GKEY_STAT => some .tsvc
  | .TSVC_NTS_MKEY_STAT => some .tsvc
  | .TSVC_NTP_CFG => some .tsvc
  | .TSVC_GKEY_ID => some .tsvc
  | .TSVC_NTS_MKEY_ID => some .tsvc
  | .TSVC_INJECT_CTL => some .tsvc
  | .TSVC_INJECT_ID => some .tsvc
  | .TSVC_TXTS_0 => some .tsvc
  | .TSVC_TXTS_1 => some .tsvc
  | .TSVC_TXTS_2 => some .tsvc
  | .TSVC_TXTS_3 => some .tsvc
  | .TSVC_INJECT_ADDR => some .tsvc
  | .TSVC_TXTS_STAT => some .tsvc
  | .TSVC_CNT_NOT_RUN => some .tsvc
  | .TSVC_CNT_FILTER => some .tsvc
  | .TSVC_CNT_NOSESS => some .tsvc
  | .TSVC_CNT_AUTH_FAIL => some .tsvc
  | .TSVC_CNT_REPLAY => some .tsvc
  | .TSVC_CNT_OVERLOAD => some .tsvc
  | .TSVC_CNT_NTS_NAK => some .tsvc
  | .TSVC_CNT_TXTS_LOST => some .tsvc
  | .MNTL_CTL => some .mntl
  | .MNTL_LEASE => some .mntl
  | .MNTL_STAT => some .mntl
  | .MNTL_SIG_STAT => some .mntl
  | .MNTL_HEALTH_OWN => some .mntl
  | .MNTL_HEALTH_TWIN => some .mntl
  | .MNTL_CNT_CLAIM => some .mntl
  | .MNTL_CNT_LAPSE => some .mntl
  | .MNTL_CNT_CONFLICT => some .mntl
  | .MNTL_CNT_HANDOVER => some .mntl
  | .MNTL_CNT_SIG_MISMATCH => some .mntl
  | .MNTL_CNT_LANE_TEST => some .mntl
  | .FLT_SRC_CFG => some .flt
  | .FLT_SRC_STAT => some .flt
  | .FLT_STANDING => some .flt
  | .FLT_STAT => some .flt
  | .FLT_PIN_CTL => some .flt
  | .FLT_FENCE_CMD => some .flt
  | .FLT_FENCE_STAT => some .flt
  | .FLT_HEM_CFG => some .flt
  | .FLT_LOG_PTR => some .flt
  | .FLT_LOG_ACK => some .flt
  | .FLT_LOG_SEL => some .flt
  | .FLT_LOG_DATA => some .flt
  | .FLT_CNT_LOG_OVF => some .flt
  | .HCP_CFG => some .hcp
  | .HCP_SLOT_STAT => some .hcp
  | .HCP_SLOT_OPENS => some .hcp
  | .HCP_SESS_STAT => some .hcp
  | .HCP_SESS_ID => some .hcp
  | .HCP_CNT_AUTH_FAIL => some .hcp
  | .HCP_CNT_SEQ_ERR => some .hcp
  | .HCP_CNT_FORMAT => some .hcp
  | .HCP_CNT_OVERLOAD => some .hcp
  | .HCP_CNT_EVT_LOST => some .hcp
  | .CTRL_ISLAND_CLK => some .ctrl
  | .CTRL_DEV_STATE => some .ctrl
  | .CTRL_DEFAULT_ERR => some .ctrl
  | .CTRL_DEV_ID => some .ctrl
  | .HOP_CH_CTL => some .hop
  | .HOP_CH_CFG => some .hop
  | .HOP_CH_STAT => some .hop
  | .HOP_CH_DESC => some .hop
  | .HOP_CH_RESID => some .hop
  | .CRC_CFG => some .crc
  | .CRC_CTL => some .crc
  | .CRC_POLY => some .crc
  | .CRC_INIT => some .crc
  | .CRC_XOROUT => some .crc
  | .CRC_PREFIX => some .crc
  | .CRC_VALUE => some .crc
  | .CRC_RESULT => some .crc
  | .CRC_FEED => some .crc
  | .BOOT_STAT => some .boot
  | .BOOT_STG_STAT => some .boot
  | .BOOT_TRIAL => some .boot
  | .BOOT_RELAY_CTL => some .boot
  | .BOOT_RELAY_MASK => some .boot
  | .BOOT_ACT_VER => some .boot
  | .BOOT_ACT_SVN => some .boot
  | .BOOT_MIN_SVN => some .boot
  | .BOOT_START_COUNT => some .boot
  | .BOOT_DEV_PUB => some .boot
  | .BOOT_OWNER_STAT => some .boot
  | .PWR_CELLAR_CTL => some .pwr
  | .PWR_RAIL_STAT => some .pwr
  | .PWR_TEMP => some .pwr
  | .PWR_TEMP_PEAK => some .pwr
  | .PWR_TSENS_CFG => some .pwr
  | .PWR_UART_CTL => some .pwr
  | .PWR_UART_TX => some .pwr
  | .PWR_UART_RX => some .pwr

/-- The common registers of R820. -/
def Reg.ofCom : List Reg :=
  [.COM_BLK_ID, .COM_BLK_DIR_INFO, .COM_BLK_FAULT, .COM_BLK_SCRATCH]

/-- The register arrays of IZL. -/
def Reg.ofIzl : List Reg :=
  [.IZL_LINK_CTL, .IZL_LINK_STAT, .IZL_LANE_STAT, .IZL_DEGRADE_SHED_LO, .IZL_DEGRADE_SHED_HI,
   .IZL_PRBS_CTL, .IZL_CNT_MARKER_MISS, .IZL_CNT_STUFF_VIOL, .IZL_CNT_CLK_GLITCH, .IZL_CNT_LINK_DOWN,
   .IZL_CNT_WAKE_FAIL, .IZL_PRBS_ERR]

/-- The register arrays of CELL. -/
def Reg.ofCell : List Reg :=
  [.CELL_SRC_BIND, .CELL_DST_BIND, .CELL_LINK_DELAY, .CELL_LINK_INFO, .CELL_SRC_STAT, .CELL_CNT_CRC_ERR,
   .CELL_CNT_SEQ_ERR, .CELL_CNT_SEQ_LOST, .CELL_CNT_MISDIR, .CELL_CNT_HDR_ERR, .CELL_CNT_OVERRUN,
   .CELL_CNT_FMT_CHANGE]

/-- The register arrays of ETH. -/
def Reg.ofEth : List Reg :=
  [.ETH_PORT_CTL, .ETH_PORT_STAT, .ETH_PORT_TX_RESV, .ETH_FLOW_CTL, .ETH_FLOW_MEDIA, .ETH_FLOW_DIP,
   .ETH_FLOW_SIP, .ETH_FLOW_UDP, .ETH_FLOW_SSRC, .ETH_FLOW_HDR, .ETH_FLOW_PT, .ETH_FLOW_DMAC_HI,
   .ETH_FLOW_DMAC_LO, .ETH_FLOW_STAT, .ETH_FLOW_CNT, .ETH_CNT_RX_OCTETS, .ETH_CNT_TX_OCTETS,
   .ETH_CNT_RX_FRAMES, .ETH_CNT_TX_FRAMES, .ETH_CNT_RX_CRC, .ETH_CNT_RX_SHORT, .ETH_CNT_RX_LONG,
   .ETH_CNT_RX_BAD, .ETH_CNT_RX_FULL, .ETH_CNT_RX_NOMATCH, .ETH_CNT_RX_PAUSE, .ETH_CNT_PAUSE_WD,
   .ETH_CNT_TX_DISC, .ETH_CNT_FEC_CORR, .ETH_CNT_FEC_UNCORR, .ETH_CNT_LINK_GLITCH, .ETH_CNT_LINK_DOWN,
   .ETH_MERGE_CTL, .ETH_QUEUE_PCP]

/-- The register arrays of WARP. -/
def Reg.ofWarp : List Reg :=
  [.WARP_DST_CFG, .WARP_DST_TIMING, .WARP_DST_ROUTE, .WARP_DST_STAT, .WARP_DST_CNT, .WARP_SRC_TIME,
   .WARP_INT_TIME, .WARP_CS_STAT, .WARP_CS_STORE, .WARP_CS_ARM, .WARP_CS_PREP]

/-- The register arrays of CASK. -/
def Reg.ofCask : List Reg :=
  [.CASK_REGION, .CASK_RING, .CASK_INT_RING, .CASK_FS_CTL, .CASK_FS_STAT, .CASK_FS_CNT, .CASK_SURF_STAT,
   .CASK_POOL_STAT, .CASK_SPARE_STAT, .CASK_ECC_CTL, .CASK_BW_CLASS, .CASK_CNT_CE, .CASK_CNT_UE,
   .CASK_CNT_RETIRED, .CASK_CNT_PLY_SKIP, .CASK_CNT_ANC_TRUNC]

/-- The register arrays of STCH. -/
def Reg.ofStch : List Reg :=
  [.STCH_HEAD_CFG, .STCH_HEAD_TIMING, .STCH_HEAD_BG, .STCH_HEAD_FILL, .STCH_HEAD_STAT, .STCH_HEAD_CNT,
   .STCH_LAYER_CTL, .STCH_LAYER_POS, .STCH_LAYER_SIZE, .STCH_LAYER_CROP_POS, .STCH_LAYER_CROP_SIZE,
   .STCH_LAYER_SRC, .STCH_LAYER_STRIDE, .STCH_SIG_CTL, .STCH_SIG_STAT, .STCH_SIG_POS, .STCH_SIG_SIZE,
   .STCH_SIG_EXP, .STCH_SIG_VAL, .STCH_APRON_STAT]

/-- The register arrays of MASH. -/
def Reg.ofMash : List Reg :=
  [.MASH_CFG, .MASH_SRC_AUDIO, .MASH_DST_AUDIO, .MASH_ROUTE, .MASH_OUT_DELAY, .MASH_ROUTE_CTL, .MASH_BUSIN,
   .MASH_BUSIN_MAP, .MASH_BUS_FADER, .MASH_BUS_DYN_A, .MASH_BUS_DYN_B, .MASH_BUS_STAT, .MASH_ENG_CTL,
   .MASH_ENG_STAT, .MASH_CNT_RATE_ERR, .MASH_CNT_ANC_DROP, .MASH_CNT_OUT_SAT, .MASH_CNT_ZC_TIMEOUT,
   .MASH_CNT_BUS_UNLOCK, .MASH_CNT_XFADE_SHORT, .MASH_CNT_SLIP]

/-- The register arrays of APRT. -/
def Reg.ofAprt : List Reg :=
  [.APRT_PORT_CTL, .APRT_TDM_FMT, .APRT_BIND, .APRT_MASK_LO, .APRT_MASK_HI, .APRT_MASK_STG_LO,
   .APRT_MASK_STG_HI, .APRT_PORT_STAT, .APRT_CNT_SLIP, .APRT_CNT_GLITCH, .APRT_CNT_CLK_STOP,
   .APRT_CNT_UNLOCK, .APRT_CNT_PARITY]

/-- The register arrays of KILN. -/
def Reg.ofKiln : List Reg :=
  [.KILN_STAT, .KILN_TEB, .KILN_OFFSET_REM, .KILN_HO_ELAPSED, .KILN_HO_REMAIN, .KILN_HO_LIMIT,
   .KILN_SEL_CTL, .KILN_REF_ORDER_0, .KILN_REF_ORDER_1, .KILN_SLEW, .KILN_LOOP, .KILN_CFG, .KILN_CFG_2,
   .KILN_CFG_3, .KILN_REF_CFG, .KILN_REF_ACC, .KILN_REF_STAT, .KILN_REF_OFFSET, .KILN_REF_CNT,
   .KILN_PPS_CFG, .KILN_VREF_CFG, .KILN_VREF_OFS, .KILN_OSC_CFG, .KILN_OSC_DAC, .KILN_OSC_TEMP,
   .KILN_MODEL_Y0, .KILN_MODEL_AGING, .KILN_MODEL_TC, .KILN_MODEL_UY, .KILN_MODEL_UD, .KILN_MODEL_UC,
   .KILN_TOUT_CTL, .KILN_TOUT_START, .KILN_TOUT_PERIOD, .KILN_TOUT_WIDTH, .KILN_CLK_CTL, .KILN_CLK_NUM,
   .KILN_EVT_CFG, .KILN_EVT_CAP_0, .KILN_EVT_CAP_1, .KILN_EVT_CAP_2, .KILN_EVT_STAT, .KILN_UTC,
   .KILN_SET_CTL, .KILN_CNT_EVT_LOST, .KILN_CNT_OSC_GLITCH, .KILN_NOW_SEC_LO, .KILN_NOW_SEC_HI,
   .KILN_NOW_NS, .KILN_NOW_FRAC, .KILN_COUNT, .KILN_SET_SEC_LO, .KILN_SET_SEC_HI, .KILN_SET_NS]

/-- The register arrays of GNSS. -/
def Reg.ofGnss : List Reg :=
  [.GNSS_CTL, .GNSS_IF_CFG_A, .GNSS_IF_CFG_B, .GNSS_STAT, .GNSS_TEB, .GNSS_TRACK_CFG_A, .GNSS_TRACK_CFG_B,
   .GNSS_CH_STAT, .GNSS_SV_EXCL, .GNSS_SV_EXCL_HI, .GNSS_MEAS_PTR, .GNSS_POS_X, .GNSS_POS_Y, .GNSS_POS_Z,
   .GNSS_POS_UNC, .GNSS_SURVEY, .GNSS_CFG, .GNSS_INTEG_CFG_0, .GNSS_INTEG_CFG_1, .GNSS_INTEG_CFG_2,
   .GNSS_INTEG_STAT, .GNSS_CNT_CLK_GLITCH_A, .GNSS_CNT_CLK_GLITCH_B, .GNSS_CNT_EXCL, .GNSS_CNT_UNTRUST,
   .GNSS_CNT_LOCK_LOSS]

/-- The register arrays of TSVC. -/
def Reg.ofTsvc : List Reg :=
  [.TSVC_CFG, .TSVC_ORG_ID, .TSVC_STAT, .TSVC_CLOCK_ID, .TSVC_PORT_CFG, .TSVC_NEG_CFG, .TSVC_NEG_LIM,
   .TSVC_PORT_STAT, .TSVC_RESV_TOTAL, .TSVC_PORT_CAL, .TSVC_SESS_SEL, .TSVC_SESS_CMD, .TSVC_SESS_DATA,
   .TSVC_KEY_STAGE, .TSVC_KEY_ID, .TSVC_KEY_LOAD, .TSVC_GKEY_STAT, .TSVC_NTS_MKEY_STAT, .TSVC_NTP_CFG,
   .TSVC_GKEY_ID, .TSVC_NTS_MKEY_ID, .TSVC_INJECT_CTL, .TSVC_INJECT_ID, .TSVC_TXTS_0, .TSVC_TXTS_1,
   .TSVC_TXTS_2, .TSVC_TXTS_3, .TSVC_INJECT_ADDR, .TSVC_TXTS_STAT, .TSVC_CNT_NOT_RUN, .TSVC_CNT_FILTER,
   .TSVC_CNT_NOSESS, .TSVC_CNT_AUTH_FAIL, .TSVC_CNT_REPLAY, .TSVC_CNT_OVERLOAD, .TSVC_CNT_NTS_NAK,
   .TSVC_CNT_TXTS_LOST]

/-- The register arrays of MNTL. -/
def Reg.ofMntl : List Reg :=
  [.MNTL_CTL, .MNTL_LEASE, .MNTL_STAT, .MNTL_SIG_STAT, .MNTL_HEALTH_OWN, .MNTL_HEALTH_TWIN,
   .MNTL_CNT_CLAIM, .MNTL_CNT_LAPSE, .MNTL_CNT_CONFLICT, .MNTL_CNT_HANDOVER, .MNTL_CNT_SIG_MISMATCH,
   .MNTL_CNT_LANE_TEST]

/-- The register arrays of FLT. -/
def Reg.ofFlt : List Reg :=
  [.FLT_SRC_CFG, .FLT_SRC_STAT, .FLT_STANDING, .FLT_STAT, .FLT_PIN_CTL, .FLT_FENCE_CMD, .FLT_FENCE_STAT,
   .FLT_HEM_CFG, .FLT_LOG_PTR, .FLT_LOG_ACK, .FLT_LOG_SEL, .FLT_LOG_DATA, .FLT_CNT_LOG_OVF]

/-- The register arrays of HCP. -/
def Reg.ofHcp : List Reg :=
  [.HCP_CFG, .HCP_SLOT_STAT, .HCP_SLOT_OPENS, .HCP_SESS_STAT, .HCP_SESS_ID, .HCP_CNT_AUTH_FAIL,
   .HCP_CNT_SEQ_ERR, .HCP_CNT_FORMAT, .HCP_CNT_OVERLOAD, .HCP_CNT_EVT_LOST]

/-- The register arrays of CTRL. -/
def Reg.ofCtrl : List Reg :=
  [.CTRL_ISLAND_CLK, .CTRL_DEV_STATE, .CTRL_DEFAULT_ERR, .CTRL_DEV_ID]

/-- The register arrays of HOP. -/
def Reg.ofHop : List Reg :=
  [.HOP_CH_CTL, .HOP_CH_CFG, .HOP_CH_STAT, .HOP_CH_DESC, .HOP_CH_RESID]

/-- The register arrays of CRC. -/
def Reg.ofCrc : List Reg :=
  [.CRC_CFG, .CRC_CTL, .CRC_POLY, .CRC_INIT, .CRC_XOROUT, .CRC_PREFIX, .CRC_VALUE, .CRC_RESULT, .CRC_FEED]

/-- The register arrays of BOOT. -/
def Reg.ofBoot : List Reg :=
  [.BOOT_STAT, .BOOT_STG_STAT, .BOOT_TRIAL, .BOOT_RELAY_CTL, .BOOT_RELAY_MASK, .BOOT_ACT_VER,
   .BOOT_ACT_SVN, .BOOT_MIN_SVN, .BOOT_START_COUNT, .BOOT_DEV_PUB, .BOOT_OWNER_STAT]

/-- The register arrays of PWR. -/
def Reg.ofPwr : List Reg :=
  [.PWR_CELLAR_CTL, .PWR_RAIL_STAT, .PWR_TEMP, .PWR_TEMP_PEAK, .PWR_TSENS_CFG, .PWR_UART_CTL, .PWR_UART_TX,
   .PWR_UART_RX]

/-- Every register array. -/
def Reg.all : List Reg :=
  Reg.ofCom ++ Reg.ofIzl ++ Reg.ofCell ++ Reg.ofEth ++ Reg.ofWarp ++ Reg.ofCask ++ Reg.ofStch ++ Reg.ofMash ++ Reg.ofAprt ++ Reg.ofKiln ++ Reg.ofGnss ++ Reg.ofTsvc ++ Reg.ofMntl ++ Reg.ofFlt ++ Reg.ofHcp ++ Reg.ofCtrl ++ Reg.ofHop ++ Reg.ofCrc ++ Reg.ofBoot ++ Reg.ofPwr

end Sys2Proof.Machine
end

