-- ==== Sys2Proof/Machine/Types.lean ====
section
/-! DEFINITION. Operand and record types shared by the commands and the state: units, masters, addresses,
requests, change sets, log entries, events. -/

set_option autoImplicit false

namespace Sys2Proof.Machine

/-- Unit kinds of the fault log and of FENCE_CMD (14_faults_hem R701, R682). -/
inductive UKind where
  | none | bundle | dst | port | flow | head | bus | aport | gnssCh | hopCh
deriving DecidableEq, Repr

/-- Code of a unit kind, byte 18 of a log entry (R701). -/
def UKind.code : UKind → Nat
  | .none => 0 | .bundle => 1 | .dst => 2 | .port => 3 | .flow => 4
  | .head => 5 | .bus => 6 | .aport => 7 | .gnssCh => 8 | .hopCh => 9

/-- Unit kind of a code; none for a code of no unit. -/
def UKind.ofCode : Nat → UKind
  | 1 => .bundle | 2 => .dst | 3 => .port | 4 => .flow | 5 => .head
  | 6 => .bus | 7 => .aport | 8 => .gnssCh | 9 => .hopCh | _ => .none

/-- Number of instances of a unit kind (00_scope, instance names). -/
def UKind.count : UKind → Nat
  | .none => 0 | .bundle => 33 | .dst => 1152 | .port => 18 | .flow => 4096
  | .head => 16 | .bus => 256 | .aport => 24 | .gnssCh => 96 | .hopCh => 16

/-- One unit that can be fenced. -/
structure UnitId where
  kind : UKind
  idx : Nat
deriving DecidableEq, Repr

/-- Target kinds of a STAGE entry (15_hcp_control R736) and the units of 01_architecture R26. -/
inductive TKind where
  | dst | eng | head | aport | tout | clk
deriving DecidableEq, Repr

/-- Code of a target kind (R736). -/
def TKind.code : TKind → Nat
  | .dst => 1 | .eng => 2 | .head => 3 | .aport => 4 | .tout => 5 | .clk => 6

/-- Number of instances of a target kind (R26, R736). -/
def TKind.count : TKind → Nat
  | .dst => 1152 | .eng => 257 | .head => 16 | .aport => 24 | .tout => 16 | .clk => 4

/-- Status codes (R728). -/
inductive Status where
  | ok | errAddr | errAccess | errBusy | errProtected | errLate | errRefused | errAuth | errSeq | errFull
deriving DecidableEq, Repr

/-- The code of a status (R728). -/
def Status.code : Status → Nat
  | .ok => 0 | .errAddr => 1 | .errAccess => 2 | .errBusy => 3 | .errProtected => 4 | .errLate => 5
  | .errRefused => 6 | .errAuth => 7 | .errSeq => 8 | .errFull => 9

/-- Masters that write and read registers: the control cores, the image loader, the JTAG port
(16_internal_engines R751), an HCP session, and the mirror of a twin (13_mantle_twin R667). -/
inductive Master where
  | core (n : Fin 4) | boot | dbg | sess (k : Fin 32) | mirror
deriving DecidableEq, Repr

/-- A register address: by the name and instance the block's directory gives it (18_address_map R821,
R822), `hi` the upper word of a 64-bit pair (R823); or as a number. -/
inductive RegAddr where
  | named (r : Reg) (inst : Nat) (hi : Bool)
  | raw (a : BitVec 32)
deriving DecidableEq, Repr

/-- One item of a WRITE or STAGE (R734, R736). -/
structure Item where
  addr : RegAddr
  val : BitVec 32
  mask : BitVec 32
deriving DecidableEq, Repr

/-- One entry of a STAGE request (R736). -/
structure StageEntry where
  kind : TKind
  inst : Nat
  items : List Item
deriving DecidableEq, Repr

/-- The header of an HCP request and what the transport says of it (R707, R709, R712, R730, R731):
`fmtOk` is false for a fragment, a wrong VERSION or length; `bodyLen` is the LENGTH field; `tagOk` is the
verdict of the AES-256-GCM tag check under the slot's key; `badOp` is true for an opcode that the table does
not give a host; `short` for a body too short for its opcode. -/
structure HcpReq where
  ctl1 : Bool
  src : Nat
  slot : Fin 16
  session : BitVec 32
  seq : BitVec 64
  reqId : BitVec 32
  fmtOk : Bool
  bodyLen : Nat
  tagOk : Bool
  resp : Bool
  badOp : Bool
  short : Bool
deriving DecidableEq, Repr

/-- An answer kept for its request, with the sequence number it was sent under (R725). -/
structure Reply where
  seq : Nat
  reqId : Nat
  op : Nat
  status : Status
  body : List Byte
deriving DecidableEq, Repr

/-- An event of R745, before a session numbers it. -/
structure Ev where
  code : Nat
  time : Nat
  inst : Nat
  detail : List Byte
deriving DecidableEq, Repr

/-- An event in a session's queue (R746): its sequence and, once sent, when it was last sent. -/
structure QEv where
  seq : Nat
  ev : Ev
  sentAt : Option Nat
deriving DecidableEq, Repr

/-- One HCP session (R717 to R726, R745, R746). -/
structure Session where
  active : Bool := false
  pending : Bool := false
  slot : Nat := 0
  id : Nat := 0
  ctl1 : Bool := false
  src : Nat := 0
  subs : Nat := 0
  high : Nat := 0
  accepted : List Nat := []
  kept : List (Nat × Reply) := []
  devSeq : Nat := 1
  openedAt : Nat := 0
  lastAt : Nat := 0
  evSeq : Nat := 0
  queue : List QEv := []
  lost : Nat := 0
deriving DecidableEq, Repr

/-- One snapshot buffer (R740 to R742): the session that owns it, its target, capture time and records. -/
structure SnapBuf where
  owner : Nat
  target : Nat
  seam : Bool
  inst : Nat
  first : Nat
  count : Nat
  ts : Nat
  late : Bool
  complete : Bool
  recs : List (Nat × List Byte)
deriving DecidableEq, Repr

/-- One register's part of a change set entry (R736, R737): bits of the value under the mask. -/
structure CsItem where
  reg : Reg
  inst : Nat
  val : Nat
  mask : Nat
deriving DecidableEq, Repr

/-- One entry of a change set (01_architecture R27 to R33, 05_warp_seam status table): `status` 0 PENDING to
5 DISCARDED, `shadow` the Kiln time it reached its unit, `verdict` what its guard check found. -/
structure CsEntry where
  kind : TKind
  inst : Nat
  items : List CsItem
  status : Nat := 0
  cause : Nat := 0
  twin : Bool := false
  shadow : Option Nat := none
  late : Bool := false
  verdict : Option Nat := none
deriving DecidableEq, Repr

/-- One change set (R28, 05_warp_seam R248, R264): times are Kiln times, `ord` its place in the order of
acceptance (R32), `ta` the arm time, none for NOW, `twinReady` and `twinNot` what the twin's CS_READY last reported, `told`
what the unit's own last reported (13_mantle_twin R670). -/
structure ChangeSet where
  state : Nat := 0
  allOrNone : Bool := false
  auto : Bool := false
  now : Bool := false
  ta : Option Nat := none
  tp : Nat := 0
  armReg : Nat := 0
  prepReg : Nat := 0
  ord : Nat := 0
  prepared : Bool := false
  twinReady : Bool := false
  twinNot : List (Nat × Nat × Nat) := []
  told : Option (List (Nat × Nat × Nat)) := none
  entries : List CsEntry := []
deriving DecidableEq, Repr

/-- A direct write of S fields that waits for its unit's boundary (00_scope R5 to R7): `ord` its place in the
order of acceptance, `at` the Kiln time it completed, `verdict` what a Seam's guard check found. -/
structure Staged where
  reg : Reg
  inst : Nat
  val : Nat
  mask : Nat
  ord : Nat
  at_ : Nat
  verdict : Option Nat := none
deriving DecidableEq, Repr

/-- A held lower word of a 64-bit pair with the mask of its write (00_scope R16; 15_hcp_control R734). -/
structure Held where
  by_ : Master
  reg : Reg
  inst : Nat
  lo : Nat
  mask : Nat
deriving DecidableEq, Repr

/-- A log entry (14_faults_hem R701); its CRC bytes are computed when it is read. -/
structure LogEntry where
  seq : Nat
  time : Nat
  timeValid : Bool
  escalated : Bool
  nested : Bool
  replace : Bool
  severity : Nat
  src : Nat
  kind : UKind
  mode : Nat
  inst : Nat
  starts : Nat
  detail : Nat
deriving DecidableEq, Repr

/-- Operating modes (01_architecture R45). -/
inductive Mode where
  | startUp | service | degraded | hem | cellar
deriving DecidableEq, Repr

/-- Code of a mode, CTRL.DEV_STATE.MODE (R45). -/
def Mode.code : Mode → Nat
  | .startUp => 0 | .service => 1 | .degraded => 2 | .hem => 3 | .cellar => 4

/-- Mode of a code. -/
def Mode.ofCode : Nat → Mode
  | 1 => .service | 2 => .degraded | 3 => .hem | 4 => .cellar | _ => .startUp

/-- Roles of the mantle (13_mantle_twin R636). -/
inductive Role where
  | none | standby | holder | lapsed | single
deriving DecidableEq, Repr

/-- Code of a role, MNTL.STAT.ROLE (R636). -/
def Role.code : Role → Nat
  | .none => 0 | .standby => 1 | .holder => 2 | .lapsed => 3 | .single => 4

/-- Role of a code. -/
def Role.ofCode : Nat → Role
  | 1 => .standby | 2 => .holder | 3 => .lapsed | 4 => .single | _ => .none

/-- What an image's header says (17_startup_update, image header), with the image identifier. -/
structure ImgHdr where
  id : Nat := 0
  len : Nat := 0
  svn : Nat := 0
  week : Nat := 0
  proto : Nat := 0
  protoLo : Nat := 0
  protoHi : Nat := 0
  raiseSvn : Bool := false
  requireHost : Bool := false
  confirmS : Nat := 600
  holdS : Nat := 60
deriving DecidableEq, Repr

/-- A configuration record (R786): the address of its first register and the registers' values. -/
structure CfgRec where
  addr : RegAddr
  vals : List (BitVec 32)
deriving DecidableEq, Repr

/-- A slot entry of a key record (R787): rights, EN, LOADED and the wrapped key. `ok` says that the key passes its RFC 3394 integrity
check under the record's wrapping key (R788). -/
structure KeyEntry where
  rights : BitVec 5 := 0
  en : Bool := false
  loaded : Bool := false
  wrapped : BitVec 320 := 0
  ok : Bool := true
deriving DecidableEq, Repr

/-- A key record (R787): whether its device identifier is this device's, the ephemeral public key, and the slot entries. -/
structure KeyRec where
  mine : Bool
  eph : BitVec 776
  slots : Vector KeyEntry 16
deriving DecidableEq, Repr

/-- A signature as the device checks it (R789): where its 96 bytes stand in the image, the first and last byte of those whose SHA-384 it
is checked against, and whether it is an ECDSA P-384 signature over them under its key. -/
structure Sig where
  at_ : Nat
  first : Nat
  last : Nat
  ok : Bool
deriving DecidableEq, Repr

/-- A requirement of a component: a type and its lowest and highest version; type 0 marks an unused one (component entry). -/
structure ImgReq where
  type : BitVec 8
  lo : BitVec 16
  hi : BitVec 16
deriving DecidableEq, Repr

/-- A component entry of an image: its type, version, offset and length, its requirements, and its signature. -/
structure ImgComp where
  type : BitVec 8
  version : BitVec 16
  off : Nat
  len : Nat
  reqs : List ImgReq
  sig : Sig
deriving DecidableEq, Repr

/-- An image as the device reads it from flash (17_startup_update, Pattern image): whether every byte could be read; the header's fields;
the SHA-384 of the owner key in it; the owner signature; the components; where the configuration and key records lie, and the records;
and the addresses of the ports (04_ethernet R176). What the ciphers give over its bytes comes with it (log entry 44). -/
structure ImgIn where
  readable : Bool
  magic : BitVec 32
  format : BitVec 16
  hdrLen : BitVec 16
  hdr : ImgHdr
  ownerKey : BitVec 384
  ownerSig : Sig
  comps : List ImgComp
  cfgOff : Nat
  cfgLen : Nat
  keyOff : Nat
  recs : List CfgRec
  keys : List KeyRec
  ip : Vector (BitVec 32) 18
deriving DecidableEq, Repr

/-- What the start-up applies of the image that it has verified: the configuration records, the key record that names the device, and the
ports' addresses (R786, R787). -/
structure ImgCfg where
  recs : List CfgRec := []
  key : Option KeyRec := none
  ip : List (BitVec 32) := []
deriving DecidableEq, Repr

/-- The state record's contents beside STAGING's state and the trial starts (R785): SWAPPING, FALLBACK_DUE, TRIAL, the swap
step completed, the swap length in sectors, the sequence number of the newer copy. -/
structure StateRec where
  seq : Nat := 0
  swapping : Bool := false
  fallback : Bool := false
  trial : Bool := false
  step : Nat := 0
  len : Nat := 0
deriving DecidableEq, Repr

/-- An operation the holder forwards in a MIRROR message (13_mantle_twin R652, R667). -/
inductive MirOp where
  | write (safety : Bool) (items : List Item)
  | stage (set : Fin 32) (entries : List StageEntry)
  | arm (set : Fin 32) (allOrNone now auto : Bool) (ta tp : Nat)
  | prepare (set : Fin 32)
  | commit (set : Fin 32)
  | cancel (set : Fin 32)
  | surfAlloc (size : Nat) (apron safety : Bool)
  | surfFree (handle : Fin 4096) (safety : Bool)
  | bulkWrite (surface safety : Bool) (addr off : Nat) (data : List Byte)
  | rtpSeq (seqs : List (Nat × Nat))
deriving DecidableEq, Repr

/-- A mantle message (13_mantle_twin R633), less its Kiln time of sending. -/
inductive MantleMsg where
  | renew (n : Nat) | ack (n : Nat) | release | propose (th : Nat) | accept (th : Nat)
  | refuse (cause : Nat) | request | health (rec : List Byte)
  | mirror (op : MirOp) (at_ : Nat) (result : Status)
  | csReady (set : Nat) (ready : Bool) (notReady : List (Nat × Nat × Nat))
deriving DecidableEq, Repr

end Sys2Proof.Machine
end

