-- ==== Sys2Proof/Machine/Records.lean ====
section
/-! DEFINITION. Records that commands carry: received messages, frames and cells as structured data. -/

set_option autoImplicit false

namespace Sys2Proof.Machine

/-- A cell as it arrives on a bundle (02_izsar_lanes R59): the line bits of its eight chunks, each as its lane brings them, or its
bytes, for a cell whose line bits arrive without an error (log entry 128, DESIGN CHOICE). -/
inductive RxCell where
  | bytes (c : List Byte)
  | line (chunks : List (List Bool))
deriving DecidableEq, Repr

/-- A control word as it arrives on a lane (R71): its line bits, or its bytes, when they arrive without an error. -/
inductive RxWord where
  | bytes (w : List Byte)
  | line (bits : List Bool)
deriving DecidableEq, Repr

/-- What an uncorrectable Cask error hit (06_cask R304): a line of a ring slot, a block of a proxy slot, audio delay
samples of an input position, a session entry, a 64-byte beat of a surface, a Hopper buffer byte, or nothing in use. -/
inductive UeAt where
  | ring (k : Fin 1168) (slot : Nat) (field : Bool) (line : Nat)
  | proxy (k : Fin 1168) (slot line block : Nat)
  | audio (pos : Fin 32768) (first n : Nat)
  | session (idx : Fin 1048576)
  | surface (handle : Fin 4096) (off : BitVec 32)
  | hopper (a : Nat)
  | unused
deriving DecidableEq, Repr

/-- How a Hopper beat is answered (16_internal_engines R765, R766): OK, an error response, an uncorrectable Cask error, or
an error of the default target. -/
inductive BeatRes where
  | ok | err | ue | default
deriving DecidableEq, Repr

/-- Why a received Ethernet frame is dropped (04_ethernet R174): FCS, too short, too long, an uncorrectable codeword with
the codewords corrected and not corrected meanwhile, a PCS error, or an ingress buffer that has no room: whether the frame is media, its
length, and the bytes of media and of other frames that wait in the buffer (R177). -/
inductive DropCause where
  | crc | short | long
  | fec (corrected uncorrected : Nat)
  | pcs
  | full (media : Bool) (len mediaFill otherFill : Nat)
deriving DecidableEq, Repr

/-- The headers of a UDP frame that flows are matched by (R186), and the frame's length in octets. -/
structure FrameHdr where
  dip : BitVec 32
  dport : BitVec 16
  sip : BitVec 32
  sport : BitVec 16
  vid : Option (BitVec 12)
  ssrc : BitVec 32
  len : Nat
deriving DecidableEq, Repr

/-- A frame of a transmit flow (04_ethernet R188): Ethernet, 802.1Q (VID, PCP), IPv4 and UDP headers, and the RTP packet. -/
structure UdpFrame where
  dmac : Nat
  smac : Nat
  tag : Option (Nat × Nat)
  sip : Nat
  dip : Nat
  dscp : Nat
  ttl : Nat
  sport : Nat
  dport : Nat
  rtp : List Byte
deriving DecidableEq, Repr

/-- Octets of a frame, with its FCS. -/
def UdpFrame.octets (f : UdpFrame) : Nat := max 64 (46 + (if f.tag.isSome then 4 else 0) + f.rtp.length)

/-- An AES3 subframe: its audio bits and its V, U and C bits (R201). -/
structure Aes3 where
  audio : BitVec 24
  v : Bool
  u : Bool
  c : Bool
deriving DecidableEq, Repr

/-- One row of a -20 packet: line, offset of its first pixel, samples (R193). -/
structure RtpRow where
  field : Bool
  line : Nat
  offset : Nat
  data : List Byte
deriving DecidableEq, Repr

/-- A satellite in a time solution: its L1-band channel and its residual in ns (R564). -/
structure GSat where
  ch : Fin 96
  residual : Nat
deriving DecidableEq, Repr

/-- What the least-squares solution gives after some exclusions (R560): the satellites used, the constellation time of
TIMESCALE now in ticks, the deviation of the estimate in 2^-8 ns, whether every satellite has both bands, and in survey mode
the deviation of the position in mm. -/
structure GPass where
  sats : List GSat
  time : Int
  sigma : Nat
  dual : Bool
  posSd : Nat
deriving DecidableEq, Repr

/-- The measurements behind a whole-second solution and its checks (R560, R564, R565): the solution with no exclusion, with
one, and so on; C/N0 in 0.01 dB-Hz of L1-band signals above 20 degrees, and the greatest of any signal; noise power and AGC
of each input in 0.1 dB; Doppler departures in 0.1 Hz by channel; inter-system biases in ns with their satellites, by
constellation; the change of the offset that the loop predicts, in 2^-8 ns; the frequency difference of R565 in 10^-15; the
survey's mean position in mm and the deviation of the mean. -/
structure GSol where
  passes : List GPass
  cn0 : List Nat
  cn0Max : Nat
  noise : List (Fin 2 × Int × Int)
  doppler : List (Fin 96 × Nat)
  isb : List (Fin 3 × Int × Nat)
  predicted : Int
  freq : Nat
  mean : Vector Int 3
  meanSd : Nat
deriving DecidableEq, Repr

/-- What a locked channel gives at a measurement epoch (R556). -/
structure GMeas where
  ch : Fin 96
  half : Bool
  code : BitVec 64
  carrier : BitVec 64
  doppler : BitVec 32
  cn0 : BitVec 16
deriving DecidableEq, Repr

/-- What finishes learning (R568): the noise baseline of an input, or a constellation's bias. -/
inductive Baseline where
  | noise (input : Fin 2) (power agc : Int)
  | isb (c : Fin 3) (bias : Int)
deriving DecidableEq, Repr

/-- The AUTHENTICATION TLV of a received message (12_time R606): its SPP, keyID and sequenceNo, whether its indicator is
0x02 with no disclosedKey or RES and it is the last TLV, and the key under which its ICV verifies, if any (R607). -/
structure AuthTlv where
  spp : BitVec 8
  keyId : BitVec 32
  seqNo : BitVec 32
  formOk : Bool
  key : Option (BitVec 256)
deriving DecidableEq, Repr

/-- What the headers of a received PTP message hold (R583, R599): its version, majorSdoId and domain, whether it came to
the multicast address, its sourcePortIdentity, sequenceId and correctionField, where it came from, its AUTHENTICATION TLV,
and the frame's length in octets. -/
structure PtpHdr where
  version : BitVec 4
  sdo : BitVec 4
  domain : BitVec 8
  multicast : Bool
  srcId : BitVec 80
  seqId : BitVec 16
  corr : BitVec 64
  sip : BitVec 32
  sport : BitVec 16
  smac : BitVec 48
  auth : Option AuthTlv
  len : Nat
deriving DecidableEq, Repr

/-- What an Announce says (R580, R589 to R592, R615): `flags` are leap61, leap59, currentUtcOffsetValid, timeTraceable and
frequencyTraceable. -/
structure AnnData where
  gmId : BitVec 64
  priority1 : BitVec 8
  clockClass : BitVec 8
  accuracy : BitVec 8
  variance : BitVec 16
  priority2 : BitVec 8
  steps : BitVec 16
  timeSource : BitVec 8
  utcOffset : BitVec 16
  leap61 : Bool
  leap59 : Bool
  utcValid : Bool
  timeTraceable : Bool
  freqTraceable : Bool
deriving DecidableEq, Repr

/-- A TEB TLV received with a Follow_Up (R593, R617): its organizationId and its TEB. -/
structure TebTlv where
  org : BitVec 24
  teb : BitVec 32
deriving DecidableEq, Repr

/-- One REQUEST_UNICAST_TRANSMISSION TLV (R600): messageType, logInterval, duration. -/
structure UniReq where
  kind : BitVec 4
  logInterval : BitVec 8
  duration : BitVec 32
deriving DecidableEq, Repr

/-- What a sent PTP message says (R582 to R604). Times are whole nanoseconds of Kiln time, corrections in 2^-16 ns; `teb` is
the TEB TLV. -/
inductive PtpMsg where
  | sync (seq : Nat)
  | followUp (seq origin corr : Nat) (teb : List Byte)
  | announce (seq : Nat) (logInterval : Int) (data : AnnData) (teb : List Byte)
  | delayReq (seq : Nat)
  | delayResp (seq receive : Nat) (corr : Int) (requester : Nat) (logInterval : Int)
  | grants (answers : List (Nat × Int × Nat))
  | cancelAcks (kinds : List Nat)
  | metadata (seq utcOffset : Nat) (leap61 leap59 : Bool)
deriving DecidableEq, Repr

/-- A received NTP packet (R618): where it went and came from, its version, mode, poll and transmit timestamp, and the
frame's length. -/
structure NtpReq where
  dip : BitVec 32
  sip : BitVec 32
  sport : BitVec 16
  version : BitVec 3
  mode : BitVec 3
  poll : BitVec 8
  xmt : BitVec 64
  len : Nat
deriving DecidableEq, Repr

/-- An NTS cookie (R621): the keyID it names, the key it decrypts under, if any, and what it holds. -/
structure NtsCookie where
  keyId : BitVec 32
  key : Option (BitVec 256)
  aead : BitVec 16
  c2s : BitVec 256
  s2c : BitVec 256
deriving DecidableEq, Repr

/-- The extension fields of an NTS request (R622, R623): the Unique Identifiers, the cookies, the number of placeholders,
whether the Authenticator comes last, and the key under which it verifies, if any. -/
structure NtsFields where
  uids : List (List Byte)
  cookies : List NtsCookie
  placeholders : Nat
  authLast : Bool
  authKey : Option (BitVec 256)
deriving DecidableEq, Repr

/-- An NTP response (R618, R623, R624). Timestamps are in the 64-bit NTP form; `cookies` are the keyIDs of the new cookies,
`sealedBy` the S2C key of the Authenticator. -/
structure NtpReply where
  li : Nat
  vn : Nat
  stratum : Nat
  poll : Nat
  precision : Int
  rootDelay : Nat
  rootDisp : Nat
  refId : Nat
  refTime : Nat
  origin : Nat
  receive : Nat
  transmit : Nat
  uid : Option (List Byte) := none
  cookies : List Nat := []
  sealedBy : Option Nat := none
deriving DecidableEq, Repr

end Sys2Proof.Machine
end

