-- ==== Sys2Proof/Syntax.lean ====
section
/-! DEFINITION. The commands of the block: one constructor per row of spec/opcode_table.json. The first operand
of every command, `dt`, is the Kiln time that has passed since the command before it, in units of 2^-16 ns
(log entry 1, DESIGN CHOICE). The other operands are what the row's text says arrives: the instance, the message's fields, the
verdict of a check that is made outside this model's numbers (a GCM tag, a signature). -/

set_option autoImplicit false

namespace Sys2Proof

open Sys2Proof.Machine

/-- A command, or an event of a pin, wire or timer, that the block takes. -/
inductive Instr where
  /-- CELLAR_N_ASSERTED (R49). -/
  | cellarNAsserted (dt : Nat)
  /-- CELLAR_ENTER (R49). -/
  | cellarEnter (dt : Nat) (m : Master)
  /-- CELLAR_ENTRY_ISOLATED (R49). -/
  | cellarEntryIsolated (dt : Nat)
  /-- CELLAR_N_DEASSERTED (R46). -/
  | cellarNDeasserted (dt : Nat) (pref : Bool)
  /-- RESET_N_ASSERTED (R778). -/
  | resetNAsserted (dt : Nat)
  /-- RESET_N_DEASSERTED (R792). -/
  | resetNDeasserted (dt : Nat) (factory pref : Bool)
  /-- KEEP_ALIVE_POR_RELEASE (R776). -/
  | keepAlivePorRelease (dt : Nat)
  /-- FLASH_INIT_DONE (R781). -/
  | flashInitDone (dt : Nat) (ok : Bool)
  /-- SWAP_STEP_DONE (R803). -/
  | swapStepDone (dt : Nat) (ok : Bool)
  /-- START_VERIFY_DONE (R794). -/
  | startVerifyDone (dt : Nat) (img : ImgIn)
  /-- CONFIG_APPLIED (R786). -/
  | configApplied (dt : Nat)
  /-- HBM_TRAINED (R792). -/
  | hbmTrained (dt : Nat)
  /-- STAGE_6_END (R793). -/
  | stage6End (dt : Nat)
  /-- ENTER_SERVICE (R46). -/
  | enterService (dt : Nat)
  /-- HEM_MASH_SILENT (R685). -/
  | hemMashSilent (dt : Nat)
  /-- ISLAND_CLOCK_LOST (R42). -/
  | islandClockLost (dt : Nat) (n : Fin 105)
  /-- ISLAND_CLOCK_RETURN (R43). -/
  | islandClockReturn (dt : Nat) (n : Fin 105)
  /-- CS_OPEN (R735). -/
  | csOpen (dt : Nat) (h : HcpReq) (set : BitVec 8)
  /-- STAGE (R736). -/
  | stage (dt : Nat) (h : HcpReq) (set : BitVec 8) (entries : List StageEntry)
  /-- ARM (R248). -/
  | arm (dt : Nat) (h : HcpReq) (set kind : BitVec 8) (now auto : Bool) (ta tp : BitVec 64)
  /-- PREPARE (R254). -/
  | prepare (dt : Nat) (h : HcpReq) (set : BitVec 8)
  /-- COMMIT (R256). -/
  | commit (dt : Nat) (h : HcpReq) (set : BitVec 8)
  /-- CANCEL (R738). -/
  | cancel (dt : Nat) (h : HcpReq) (set : BitVec 8)
  /-- CS_RELEASE (R738). -/
  | csRelease (dt : Nat) (h : HcpReq) (set : BitVec 8)
  /-- CS_READ (R739). -/
  | csRead (dt : Nat) (h : HcpReq) (set : BitVec 8) (first count : BitVec 16)
  /-- CS_DISTRIBUTION_DONE (R250). -/
  | csDistributionDone (dt : Nat) (n : Fin 32)
  /-- CS_ENTRY_IN_SHADOW (R869). -/
  | csEntryInShadow (dt : Nat) (n : Fin 32) (e : BitVec 12)
  /-- ARM_TIME_REACHED (R30). -/
  | armTimeReached (dt : Nat) (n : Fin 32)
  /-- PREPARE_DEADLINE (R257). -/
  | prepareDeadline (dt : Nat) (n : Fin 32)
  /-- CLOCK_LANE_QUALIFIED (R78). -/
  | clockLaneQualified (dt : Nat) (b : Fin 33)
  /-- ADAPT_DONE (R78). -/
  | adaptDone (dt : Nat) (b : Fin 33)
  /-- BIT_SLIP_POSITION (R78). -/
  | bitSlipPosition (dt : Nat) (b : Fin 33)
  /-- DESKEW_DONE (R79). -/
  | deskewDone (dt : Nat) (b : Fin 33) (arrival : Vector Nat 8)
  /-- VERIFY_DONE (R81). -/
  | verifyDone (dt : Nat) (b : Fin 33)
  /-- RETRAIN (R83). -/
  | retrain (dt : Nat) (m : Master) (b : Fin 33)
  /-- AUTO_RETRAIN_RETRY (R82). -/
  | autoRetrainRetry (dt : Nat) (b : Fin 33)
  /-- BUNDLE_ENABLE (R96). -/
  | bundleEnable (dt : Nat) (m : Master) (b : Fin 33) (en : Bool)
  /-- TX_ALIGNMENT_MARKER (R72). -/
  | txAlignmentMarker (dt : Nat) (b : Fin 33)
  /-- ALIGNMENT_MARKER (R73). -/
  | alignmentMarker (dt : Nat) (b : Fin 33) (l : Fin 8) (skipped : Nat) (rx : RxWord)
  /-- MARKER_MISSING (R104). -/
  | markerMissing (dt : Nat) (b : Fin 33) (l : Fin 8)
  /-- INTERPOLATOR_LIMIT (R104). -/
  | interpolatorLimit (dt : Nat) (b : Fin 33) (l : Fin 8) (late : Bool)
  /-- FILL (R74). -/
  | fill (dt : Nat) (b : Fin 33) (l : Fin 8) (rx : RxWord)
  /-- LIGHT_IDLE_ENTRY (R89). -/
  | lightIdleEntry (dt : Nat) (b : Fin 33) (l : Fin 8) (rx : RxWord)
  /-- DEEP_IDLE_ENTRY (R89). -/
  | deepIdleEntry (dt : Nat) (b : Fin 33) (l : Fin 8) (rx : RxWord)
  /-- IDLE_REQ (R86). -/
  | idleReq (dt : Nat) (m : Master) (b : Fin 33) (v : BitVec 2)
  /-- IDLE_AUTO_TIMEOUT (R86). -/
  | idleAutoTimeout (dt : Nat) (b : Fin 33)
  /-- TX_IDLE_EXIT (R90). -/
  | txIdleExit (dt : Nat) (b : Fin 33)
  /-- EXIT_BURST_DELIMITER (R90). -/
  | exitBurstDelimiter (dt : Nat) (b : Fin 33) (l : Fin 8)
  /-- WAKE_FAILURE (R95). -/
  | wakeFailure (dt : Nat) (b : Fin 33)
  /-- FWD_CLOCK_STOP (R115). -/
  | fwdClockStop (dt : Nat) (b : Fin 33)
  /-- FWD_CLOCK_GLITCH (R115). -/
  | fwdClockGlitch (dt : Nat) (b : Fin 33)
  /-- FWD_CLOCK_RATE_CHANGE (R115). -/
  | fwdClockRateChange (dt : Nat) (b : Fin 33)
  /-- FWD_CLOCK_REQUALIFIED (R116). -/
  | fwdClockRequalified (dt : Nat) (b : Fin 33)
  /-- IDLE_CELL (R161). -/
  | idleCell (dt : Nat) (b : Fin 33) (rx : RxCell)
  /-- ESSENCE_CELL (R141). -/
  | essenceCell (dt : Nat) (b : Fin 33) (rx : RxCell) (overrun : Bool)
  /-- ANCILLARY_CELL (R146). -/
  | ancillaryCell (dt : Nat) (b : Fin 33) (rx : RxCell) (overrun : Bool)
  /-- ECHO_CELL (R154). -/
  | echoCell (dt : Nat) (b : Fin 33) (rx : RxCell)
  /-- STAMP_CELL (R156). -/
  | stampCell (dt : Nat) (b : Fin 33) (rx : RxCell)
  /-- FAMILY_CELL_RX (R647). -/
  | familyCellRx (dt : Nat) (rx : RxCell)
  /-- MANAGEMENT_SIDE_CELL (R160). -/
  | managementSideCell (dt : Nat) (b : Fin 33) (rx : RxCell)
  /-- LANE_TEST_CELL (R659). -/
  | laneTestCell (dt : Nat) (rx : RxCell)
  /-- SIGNATURE_CELL (R657). -/
  | signatureCell (dt : Nat) (rx : RxCell)
  /-- SOURCE_LOST_TIMEOUT (R141). -/
  | sourceLostTimeout (dt : Nat) (k : Fin 1152)
  /-- WARP_CELL_CHECK_FAIL (R133). -/
  | warpCellCheckFail (dt : Nat) (d : Fin 1152) (field : Bool) (line offset : BitVec 12)
  /-- FAMILY_CELL_TX (R152). -/
  | familyCellTx (dt : Nat) (b : Fin 33) (fam : Fin 5)
  /-- LAUNCH_CELL_TX (R153). -/
  | launchCellTx (dt : Nat) (d : Fin 1152)
  /-- ECHO_CELL_TX (R632). -/
  | echoCellTx (dt : Nat)
  /-- SIGNATURE_CELL_TX (R655). -/
  | signatureCellTx (dt : Nat) (dsts : List (Fin 1152))
  /-- ETH_FRAME_BAD (R174). -/
  | ethFrameBad (dt : Nat) (p : Fin 18) (cause : DropCause)
  /-- UNMATCHED_FRAME (R174). -/
  | unmatchedFrame (dt : Nat) (p : Fin 18) (len : Nat) (query : Option (BitVec 32))
  /-- PAUSE_FRAME (R179). -/
  | pauseFrame (dt : Nat) (p : Fin 18) (pfc : Bool) (classes : BitVec 8) (quanta : Vector (BitVec 16) 8)
  /-- PAUSE_EXPIRE (R180). -/
  | pauseExpire (dt : Nat) (p : Fin 18) (q : Fin 4)
  /-- PAUSE_WATCHDOG (R181). -/
  | pauseWatchdog (dt : Nat) (p : Fin 18) (q : Fin 4)
  /-- PAUSE_IGNORE_END (R181). -/
  | pauseIgnoreEnd (dt : Nat) (p : Fin 18) (q : Fin 4)
  /-- ARP_REQUEST (R176). -/
  | arpRequest (dt : Nat) (p : Fin 18) (target : BitVec 32) (len : Nat)
  /-- ICMP_ECHO_REQUEST (R176). -/
  | icmpEchoRequest (dt : Nat) (p : Fin 18) (data : List Byte) (len : Nat)
  /-- ST2110_20_PACKET (R193). -/
  | st211020Packet (dt : Nat) (p : Fin 18) (h : FrameHdr) (seq ts : BitVec 32) (marker field narrow ok room : Bool) (rows : List RtpRow)
  /-- ST2110_22_PACKET (R199). -/
  | st211022Packet (dt : Nat) (p : Fin 18) (h : FrameHdr) (seq : BitVec 16) (ts : BitVec 32) (marker ok : Bool) (payload : List Byte)
  /-- ST2110_30_PACKET (R200). -/
  | st211030Packet (dt : Nat) (p : Fin 18) (h : FrameHdr) (seq : BitVec 16) (ts : BitVec 32) (ok l16 : Bool) (samples : List (List (BitVec 24)))
  /-- ST2110_31_PACKET (R201). -/
  | st211031Packet (dt : Nat) (p : Fin 18) (h : FrameHdr) (seq : BitVec 16) (ts : BitVec 32) (ok : Bool) (subframes : List (List Aes3))
  /-- ST2110_40_PACKET (R203). -/
  | st211040Packet (dt : Nat) (p : Fin 18) (h : FrameHdr) (seq : BitVec 16) (newFrame ok : Bool) (payload : List Byte)
  /-- FLOW_LOST_TIMEOUT (R195). -/
  | flowLostTimeout (dt : Nat) (f : Fin 4096)
  /-- AUDIO_FLOW_LOST_TIMEOUT (R202). -/
  | audioFlowLostTimeout (dt : Nat) (f : Fin 4096)
  /-- FLOW_ENABLE (R191). -/
  | flowEnable (dt : Nat) (m : Master) (f : Fin 4096) (en : Bool)
  /-- ETH_LOSS_OF_SIGNAL (R213). -/
  | ethLossOfSignal (dt : Nat) (p : Fin 18)
  /-- ETH_LINK_GLITCH (R213). -/
  | ethLinkGlitch (dt : Nat) (p : Fin 18) (frames : Nat)
  /-- ETH_RATE_CHANGE (R213). -/
  | ethRateChange (dt : Nat) (p : Fin 18)
  /-- ETH_LINK_UP (R214). -/
  | ethLinkUp (dt : Nat) (p : Fin 18)
  /-- DST_ROUTE_WRITE (R246). -/
  | dstRouteWrite (dt : Nat) (m : Master) (d : Fin 1152) (src : BitVec 11)
  /-- SEAM_GUARD_OPEN (R252). -/
  | seamGuardOpen (dt : Nat) (d : Fin 1152)
  /-- SEAM_SWITCHING_INSTANT (R243). -/
  | seamSwitchingInstant (dt : Nat) (d : Fin 1152) (second : Bool)
  /-- SEAM_SNAPSHOT_TIMEOUT (R263). -/
  | seamSnapshotTimeout (dt : Nat) (buf : Fin 4) (d : Fin 1152)
  /-- DST_FRAME_LAUNCH (R222). -/
  | dstFrameLaunch (dt : Nat) (d : Fin 1152)
  /-- DST_LINE_BOUNDARY (R233). -/
  | dstLineBoundary (dt : Nat) (d : Fin 1152) (field : Bool) (line : Nat)
  /-- FREEZE_EXPIRE (R284). -/
  | freezeExpire (dt : Nat) (d : Fin 1152)
  /-- PLY_PROXY_COMPLETE (R292). -/
  | plyProxyComplete (dt : Nat) (k : Fin 1168)
  /-- CASK_CORRECTED_ERROR (R303). -/
  | caskCorrectedError (dt : Nat) (page : Fin 1572864)
  /-- CASK_UNCORRECTABLE_ERROR (R304). -/
  | caskUncorrectableError (dt : Nat) (page : Fin 1572864) (at_ : UeAt)
  /-- PAGE_RETIRE_DONE (R305). -/
  | pageRetireDone (dt : Nat) (page : Fin 1572864)
  /-- SURF_ALLOC (R743). -/
  | surfAlloc (dt : Nat) (h : HcpReq) (size : BitVec 32) (apron : Bool)
  /-- SURF_FREE (R298). -/
  | surfFree (dt : Nat) (h : HcpReq) (surf : BitVec 16)
  /-- BULK_WRITE (R744). -/
  | bulkWrite (dt : Nat) (h : HcpReq) (kind : BitVec 8) (addr : BitVec 64) (off : BitVec 32) (data : List Byte)
  /-- BULK_READ (R744). -/
  | bulkRead (dt : Nat) (h : HcpReq) (kind : BitVec 8) (addr : BitVec 64) (off : BitVec 32) (len : BitVec 16)
  /-- HEAD_ENABLE (R315). -/
  | headEnable (dt : Nat) (m : Master) (h : Fin 16)
  /-- HEAD_DISABLE (R316). -/
  | headDisable (dt : Nat) (m : Master) (h : Fin 16)
  /-- HEAD_GUARD_OPEN (R319). -/
  | headGuardOpen (dt : Nat) (h : Fin 16)
  /-- HEAD_FRAME_START (R319). -/
  | headFrameStart (dt : Nat) (h : Fin 16)
  /-- TRANSITION_FRAME_END (R323). -/
  | transitionFrameEnd (dt : Nat) (h : Fin 16)
  /-- HEAD_UNDERRUN (R356). -/
  | headUnderrun (dt : Nat) (h : Fin 16) (e x : Nat)
  /-- APRON_UNDERRUN (R358). -/
  | apronUnderrun (dt : Nat) (h : Fin 16) (e x : Nat)
  /-- HEAD_FRAME_END (R370). -/
  | headFrameEnd (dt : Nat) (h : Fin 16)
  /-- SIG_LEARN (R371). -/
  | sigLearn (dt : Nat) (m : Master) (h : Fin 16)
  /-- APRON_FIELD_WRITE (R362). -/
  | apronFieldWrite (dt : Nat) (m : Master) (h : Fin 16) (k : Fin 7) (val mask : BitVec 32)
  /-- APRON_FIELD_APPLY (R362). -/
  | apronFieldApply (dt : Nat) (h : Fin 16)
  /-- APRON_N_ASSERTED (R365). -/
  | apronNAsserted (dt : Nat) (g : Fin 4)
  /-- APRON_FORCE_BEGIN (R365). -/
  | apronForceBegin (dt : Nat) (g : Fin 4)
  /-- APRON_N_DEASSERTED (R366). -/
  | apronNDeasserted (dt : Nat) (g : Fin 4)
  /-- MASH_SAMPLE_INSTANT (R374). -/
  | mashSampleInstant (dt : Nat)
  /-- ENG_SWAP_REQUEST (R413). -/
  | engSwapRequest (dt : Nat) (m : Master) (e : Fin 257)
  /-- ENG_HOLD_WRITE (R413). -/
  | engHoldWrite (dt : Nat) (m : Master) (e : Fin 257) (hold : Bool)
  /-- ZC_TIMEOUT (R392). -/
  | zcTimeout (dt : Nat) (bus : Bool) (i : Fin 32768)
  /-- FADER_RAMP_END (R403). -/
  | faderRampEnd (dt : Nat) (b : Fin 256)
  /-- UNLOCK_HOLD_EXPIRE (R386). -/
  | unlockHoldExpire (dt : Nat) (k : Fin 1152)
  /-- PORT_ENABLE (R453). -/
  | portEnable (dt : Nat) (m : Master) (p : Fin 24)
  /-- PORT_DISABLE (R454). -/
  | portDisable (dt : Nat) (m : Master) (p : Fin 24)
  /-- PREROLL_DONE (R453). -/
  | prerollDone (dt : Nat) (p : Fin 24)
  /-- STOP_DONE (R454). -/
  | stopDone (dt : Nat) (p : Fin 24)
  /-- FRAME_SYNC (R441). -/
  | frameSync (dt : Nat) (p : Fin 24) (rx : List (BitVec 32)) (ppm : BitVec 20)
  /-- MASK_LO_WRITE (R442). -/
  | maskLoWrite (dt : Nat) (m : Master) (p : Fin 24) (v mask : BitVec 32)
  /-- MASK_HI_WRITE (R442). -/
  | maskHiWrite (dt : Nat) (m : Master) (p : Fin 24) (v mask : BitVec 32)
  /-- PORT_CLOCK_STOP (R459). -/
  | portClockStop (dt : Nat) (p : Fin 24)
  /-- PORT_CLOCK_GLITCH (R459). -/
  | portClockGlitch (dt : Nat) (p : Fin 24)
  /-- PORT_RATE_CHANGE (R459). -/
  | portRateChange (dt : Nat) (p : Fin 24)
  /-- PORT_CLOCK_QUALIFIED (R460). -/
  | portClockQualified (dt : Nat) (p : Fin 24)
  /-- FRAME_EPOCH (R475). -/
  | frameEpoch (dt : Nat) (fam : Fin 5)
  /-- KILN_SECOND (R504). -/
  | kilnSecond (dt : Nat)
  /-- EVT_IN_EDGE (R472). -/
  | evtInEdge (dt : Nat) (n : Fin 8) (falling short : Bool)
  /-- EVT_CAP_READ (R473). -/
  | evtCapRead (dt : Nat) (m : Master) (n : Fin 8)
  /-- NOW_READ (R468). -/
  | nowRead (dt : Nat) (m : Master)
  /-- LOWER_WORD_READ (R16). -/
  | lowerWordRead (dt : Nat) (m : Master) (a : RegAddr)
  /-- PPS_IN_PULSE (R481). -/
  | ppsInPulse (dt : Nat) (n : Fin 4) (falling short : Bool)
  /-- VREF_IN_PULSE (R479). -/
  | vrefInPulse (dt : Nat) (n : Fin 2) (falling short : Bool)
  /-- PULSE_TIMEOUT (R481). -/
  | pulseTimeout (dt : Nat) (k : Fin 44)
  /-- FREQ_IN_GLITCH (R481). -/
  | freqInGlitch (dt : Nat) (n : Fin 4)
  /-- FREQ_IN_STOP (R481). -/
  | freqInStop (dt : Nat) (n : Fin 4)
  /-- FREQ_IN_RATE_CHANGE (R481). -/
  | freqInRateChange (dt : Nat) (n : Fin 4)
  /-- REF_QUALIFIED (R484). -/
  | refQualified (dt : Nat) (k : Fin 44)
  /-- SEL_CTL_WRITE (R486). -/
  | selCtlWrite (dt : Nat) (m : Master) (v mask : BitVec 32)
  /-- REF_ORDER_WRITE (R486). -/
  | refOrderWrite (dt : Nat) (m : Master) (second : Bool) (v mask : BitVec 32)
  /-- KILN_STEP (R492). -/
  | kilnStep (dt : Nat)
  /-- KILN_TIME_SET (R494). -/
  | kilnTimeSet (dt : Nat)
  /-- SLEW_DONE (R491). -/
  | slewDone (dt : Nat)
  /-- DAC_UPDATE (R498). -/
  | dacUpdate (dt : Nat)
  /-- TEMP_READ (R500). -/
  | tempRead (dt : Nat) (temp : BitVec 16)
  /-- TEMP_SENSOR_TIMEOUT (R500). -/
  | tempSensorTimeout (dt : Nat)
  /-- MODEL_SAVE (R503). -/
  | modelSave (dt : Nat)
  /-- MODEL_VALID (R502). -/
  | modelValid (dt : Nat)
  /-- OSC_GLITCH (R505). -/
  | oscGlitch (dt : Nat)
  /-- OSC_STOP (R505). -/
  | oscStop (dt : Nat)
  /-- OSC_RATE_CHANGE (R505). -/
  | oscRateChange (dt : Nat)
  /-- OSC_DRIFT (R505). -/
  | oscDrift (dt : Nat)
  /-- OSC_RESTORE (R508). -/
  | oscRestore (dt : Nat)
  /-- XO_IN_STOP (R844). -/
  | xoInStop (dt : Nat)
  /-- TIME_OUT_PULSE (R515). -/
  | timeOutPulse (dt : Nat) (n : Fin 16)
  /-- TIME_OUT_PULSE_END (R519). -/
  | timeOutPulseEnd (dt : Nat) (n : Fin 16)
  /-- CLK_OUT_ALIGN (R521). -/
  | clkOutAlign (dt : Nat) (n : Fin 4)
  /-- TIME_SET_GO (R528). -/
  | timeSetGo (dt : Nat) (m : Master)
  /-- START_WAIT_EXPIRE (R527). -/
  | startWaitExpire (dt : Nat)
  /-- GNSS_CLOCK_STOP (R541). -/
  | gnssClockStop (dt : Nat) (i : Fin 2)
  /-- GNSS_CLOCK_GLITCH (R541). -/
  | gnssClockGlitch (dt : Nat) (i : Fin 2)
  /-- GNSS_CLOCK_RATE_CHANGE (R541). -/
  | gnssClockRateChange (dt : Nat) (i : Fin 2)
  /-- GNSS_CLOCK_REQUALIFIED (R542). -/
  | gnssClockRequalified (dt : Nat) (i : Fin 2)
  /-- GNSS_SEARCH_PASS (R551). -/
  | gnssSearchPass (dt : Nat) (sig : Fin 3) (sweep : Bool) (found : List (Fin 96 × Fin 64))
  /-- HOT_SEARCH_TIMEOUT (R554). -/
  | hotSearchTimeout (dt : Nat) (c : Fin 96)
  /-- CHANNEL_LOCK_LOSS (R549). -/
  | channelLockLoss (dt : Nat) (c : Fin 96) (code : Bool)
  /-- NAV_DATA_DECODED (R544). -/
  | navDataDecoded (dt : Nat) (c : Fin 96) (almanac : Bool) (utc week : Option (BitVec 10))
  /-- MEASUREMENT_EPOCH (R555). -/
  | measurementEpoch (dt : Nat) (channels : List GMeas)
  /-- GNSS_SOLUTION (R560). -/
  | gnssSolution (dt : Nat) (m : GSol)
  /-- POS_WRITE (R563). -/
  | posWrite (dt : Nat) (m : Master) (k : Fin 4) (hi : Bool) (v mask : BitVec 32)
  /-- POS_MODE_WRITE (R563). -/
  | posModeWrite (dt : Nat) (m : Master) (v : BitVec 2)
  /-- BASELINE_LEARNT (R568). -/
  | baselineLearnt (dt : Nat) (b : Baseline)
  /-- SELFTEST (R572). -/
  | selftest (dt : Nat) (m : Master)
  /-- SELFTEST_DONE (R573). -/
  | selftestDone (dt : Nat) (u : Fin 112) (ok last : Bool)
  /-- GNSS_BURST (R569). -/
  | gnssBurst (dt : Nat) (channels : List GMeas) (m : GSol)
  /-- GNSS_NAV_REFRESH (R570). -/
  | gnssNavRefresh (dt : Nat)
  /-- SYNC_TX (R584). -/
  | syncTx (dt : Nat) (p : Fin 18)
  /-- FOLLOW_UP_TX (R588). -/
  | followUpTx (dt : Nat) (p : Fin 18) (sess : Option (Fin 1048576))
  /-- ANNOUNCE_TX (R592). -/
  | announceTx (dt : Nat) (p : Fin 18)
  /-- SYNC_METADATA_TX (R582). -/
  | syncMetadataTx (dt : Nat) (p : Fin 18)
  /-- GRANT_DUE (R604). -/
  | grantDue (dt : Nat) (i : Fin 1048576) (sync : Bool)
  /-- GRANT_EXPIRE (R602). -/
  | grantExpire (dt : Nat) (i : Fin 1048576) (kind : BitVec 4)
  /-- DELAY_REQ (R604). -/
  | delayReq (dt : Nat) (p : Fin 18) (h : PtpHdr)
  /-- SYNC (R617). -/
  | sync (dt : Nat) (p : Fin 18) (h : PtpHdr) (two : Bool) (seconds : BitVec 48) (nanos : BitVec 32)
  /-- FOLLOW_UP (R617). -/
  | followUp (dt : Nat) (p : Fin 18) (h : PtpHdr) (seconds : BitVec 48) (nanos : BitVec 32) (tebs : List TebTlv)
  /-- DELAY_RESP (R617). -/
  | delayResp (dt : Nat) (p : Fin 18) (h : PtpHdr) (log : BitVec 8) (requester : BitVec 80) (seconds : BitVec 48) (nanos : BitVec 32)
  /-- ANNOUNCE (R615). -/
  | announce (dt : Nat) (p : Fin 18) (h : PtpHdr) (log : BitVec 8) (data : AnnData)
  /-- CLIENT_DELAY_REQ_TX (R616). -/
  | clientDelayReqTx (dt : Nat) (p : Fin 18)
  /-- ANNOUNCE_RECEIPT_TIMEOUT (R616). -/
  | announceReceiptTimeout (dt : Nat) (p : Fin 18)
  /-- EXCHANGE_TIMEOUT (R616). -/
  | exchangeTimeout (dt : Nat) (p : Fin 18)
  /-- REQUEST_UNICAST_TRANSMISSION (R600). -/
  | requestUnicastTransmission (dt : Nat) (p : Fin 18) (h : PtpHdr) (reqs : List UniReq)
  /-- CANCEL_UNICAST_TRANSMISSION (R603). -/
  | cancelUnicastTransmission (dt : Nat) (p : Fin 18) (h : PtpHdr) (kinds : List (BitVec 4))
  /-- MANAGEMENT_MESSAGE (R582). -/
  | managementMessage (dt : Nat) (p : Fin 18) (len : Nat)
  /-- PDELAY_MESSAGE (R582). -/
  | pdelayMessage (dt : Nat) (p : Fin 18) (len : Nat)
  /-- NTP_REQUEST (R618). -/
  | ntpRequest (dt : Nat) (p : Fin 18) (r : NtpReq) (turn : Nat)
  /-- NTS_REQUEST (R623). -/
  | ntsRequest (dt : Nat) (p : Fin 18) (r : NtpReq) (x : NtsFields) (turn : Nat)
  /-- LEAP_SECOND (R620). -/
  | leapSecond (dt : Nat)
  /-- SESS_READ (R597). -/
  | sessRead (dt : Nat) (m : Master)
  /-- SESS_WRITE (R598). -/
  | sessWrite (dt : Nat) (m : Master) (keyA keyB : Bool)
  /-- SESS_INVALIDATE (R597). -/
  | sessInvalidate (dt : Nat) (m : Master)
  /-- KEY_LOAD (R613). -/
  | keyLoad (dt : Nat) (m : Master) (nts : Bool) (slot : BitVec 3)
  /-- NTS_MKEY_WRITE (R625). -/
  | ntsMkeyWrite (dt : Nat) (m : Master) (k : Fin 4) (en issue : Bool)
  /-- PTP_ROLE_WRITE (R603). -/
  | ptpRoleWrite (dt : Nat) (m : Master) (p : Fin 18) (role : BitVec 2)
  /-- INJECT (R626). -/
  | inject (dt : Nat) (m : Master) (v : BitVec 31)
  /-- INJECTED_FRAME_SENT (R627). -/
  | injectedFrameSent (dt : Nat)
  /-- TXTS_READ (R628). -/
  | txtsRead (dt : Nat) (m : Master) (p : Fin 18)
  /-- RENEW_TX (R638). -/
  | renewTx (dt : Nat)
  /-- RENEW (R635). -/
  | renew (dt : Nat) (rx : RxCell)
  /-- ACK (R638). -/
  | ack (dt : Nat) (rx : RxCell)
  /-- LEASE_IN_EDGE (R635). -/
  | leaseInEdge (dt : Nat)
  /-- LEASE_CONFIRM_TIMEOUT (R639). -/
  | leaseConfirmTimeout (dt : Nat)
  /-- CLAIM_TIMEOUT (R640). -/
  | claimTimeout (dt : Nat)
  /-- NONE_WAIT_TIMEOUT (R645). -/
  | noneWaitTimeout (dt : Nat) (pref : Bool)
  /-- RELEASE (R644). -/
  | release (dt : Nat) (rx : RxCell)
  /-- HANDOVER (R663). -/
  | handover (dt : Nat) (m : Master)
  /-- REQUEST (R663). -/
  | request (dt : Nat) (rx : RxCell)
  /-- PROPOSE (R664). -/
  | propose (dt : Nat) (rx : RxCell)
  /-- ACCEPT (R664). -/
  | accept (dt : Nat) (rx : RxCell)
  /-- REFUSE (R664). -/
  | refuse (dt : Nat) (rx : RxCell)
  /-- HANDOVER_ACCEPT_DEADLINE (R664). -/
  | handoverAcceptDeadline (dt : Nat)
  /-- HANDOVER_TIME (R665). -/
  | handoverTime (dt : Nat)
  /-- HOLDOFF_EXPIRE (R666). -/
  | holdoffExpire (dt : Nat) (pref : Bool)
  /-- HEALTH_TX (R660). -/
  | healthTx (dt : Nat) (pref : Bool)
  /-- HEALTH (R662). -/
  | health (dt : Nat) (rx : RxCell)
  /-- TWIN_HEALTH_TIMEOUT (R662). -/
  | twinHealthTimeout (dt : Nat)
  /-- MIRROR (R667). -/
  | mirror (dt : Nat) (op : MirOp) (at_ : Nat) (result : Status)
  /-- RTP_SEQ_MIRROR_TX (R652). -/
  | rtpSeqMirrorTx (dt : Nat)
  /-- CS_READY (R670). -/
  | csReady (dt : Nat) (n : Fin 32) (ready : Bool) (notReady : List (TKind × BitVec 16 × BitVec 7))
  /-- MANTLE_EN_WRITE (R870). -/
  | mantleEnWrite (dt : Nat) (m : Master) (en : Bool)
  /-- STANDING_CLEAR (R676). -/
  | standingClear (dt : Nat) (m : Master) (fs : Fin 512)
  /-- FENCE_CMD_FENCE (R682). -/
  | fenceCmdFence (dt : Nat) (m : Master) (kind : BitVec 4) (idx : BitVec 12)
  /-- FENCE_CMD_RELEASE (R682). -/
  | fenceCmdRelease (dt : Nat) (m : Master) (kind : BitVec 4) (idx : BitVec 12)
  /-- FAULT_PULSE_END (R690). -/
  | faultPulseEnd (dt : Nat)
  /-- FAULT_HOLD_WRITE (R690). -/
  | faultHoldWrite (dt : Nat) (m : Master) (v : Bool)
  /-- LOG_ACK (R702). -/
  | logAck (dt : Nat) (m : Master) (n : BitVec 9)
  /-- LOG_RETRY (R704). -/
  | logRetry (dt : Nat) (ok : Bool)
  /-- OPEN (R717). -/
  | hcpOpen (dt : Nat) (h : HcpReq)
  /-- CLOSE (R721). -/
  | hcpClose (dt : Nat) (h : HcpReq)
  /-- NOP (R731). -/
  | hcpNop (dt : Nat) (h : HcpReq)
  /-- READ (R732). -/
  | hcpRead (dt : Nat) (h : HcpReq) (addr : RegAddr) (count : BitVec 16) (staged : Bool)
  /-- WRITE (R734). -/
  | hcpWrite (dt : Nat) (h : HcpReq) (items : List Item)
  /-- REGISTER_WRITE (R4). -/
  | registerWrite (dt : Nat) (m : Master) (a : RegAddr) (val mask : BitVec 32)
  /-- RC_COUNTER_READ (R11). -/
  | rcCounterRead (dt : Nat) (m : Master) (a : RegAddr)
  /-- SNAPSHOT (R740). -/
  | snapshot (dt : Nat) (h : HcpReq) (target : BitVec 8) (now seam : Bool) (inst first count : BitVec 16) (ts : BitVec 64)
  /-- SNAPSHOT_CAPTURE (R262). -/
  | snapshotCapture (dt : Nat) (k : Fin 4)
  /-- SNAP_READ (R742). -/
  | snapRead (dt : Nat) (h : HcpReq) (buf : BitVec 8) (off : BitVec 32) (len : BitVec 16)
  /-- SNAP_FREE (R742). -/
  | snapFree (dt : Nat) (h : HcpReq) (buf : BitVec 8)
  /-- SUBSCRIBE (R745). -/
  | subscribe (dt : Nat) (h : HcpReq) (classes : BitVec 16)
  /-- EVENT_ACK (R746). -/
  | eventAck (dt : Nat) (h : HcpReq) (n : BitVec 32)
  /-- EVENT_RESEND (R746). -/
  | eventResend (dt : Nat) (k : Fin 32)
  /-- RESTART (R747). -/
  | restart (dt : Nat) (h : HcpReq) (kind : BitVec 8)
  /-- SESSION_PENDING_TIMEOUT (R721). -/
  | sessionPendingTimeout (dt : Nat) (k : Fin 32)
  /-- SESSION_IDLE_TIMEOUT (R721). -/
  | sessionIdleTimeout (dt : Nat) (k : Fin 32)
  /-- SLOT_DISABLE (R723). -/
  | slotDisable (dt : Nat) (m : Master) (k : Fin 16)
  /-- IMAGE_WRITE (R796). -/
  | imageWrite (dt : Nat) (h : HcpReq) (off : BitVec 32) (data : List Byte) (full : Bool)
  /-- IMAGE_END (R799). -/
  | imageEnd (dt : Nat) (h : HcpReq) (len : BitVec 32) (activate : Bool)
  /-- IMAGE_VERIFY_DONE (R799). -/
  | imageVerifyDone (dt : Nat) (img : ImgIn)
  /-- IMAGE_ABORT (R801). -/
  | imageAbort (dt : Nat) (h : HcpReq)
  /-- IMAGE_STATUS (R799). -/
  | imageStatus (dt : Nat) (h : HcpReq)
  /-- IMAGE_RELAY (R813). -/
  | imageRelay (dt : Nat) (h : HcpReq) (hops : BitVec 8) (mask : BitVec 32) (mantle : Bool)
  /-- OFFER (R814). -/
  | relayOffer (dt : Nat) (b : Fin 33) (rx : RxCell)
  /-- WANT (R813). -/
  | relayWant (dt : Nat) (b : Fin 33) (rx : RxCell)
  /-- DATA (R812). -/
  | relayData (dt : Nat) (b : Fin 33) (rx : RxCell)
  /-- RELAY_ACK (R813). -/
  | relayAck (dt : Nat) (b : Fin 33) (rx : RxCell)
  /-- DONE (R815). -/
  | relayDone (dt : Nat) (b : Fin 33) (rx : RxCell)
  /-- DECLINE (R814). -/
  | relayDecline (dt : Nat) (b : Fin 33) (rx : RxCell)
  /-- RELAY_TIMEOUT (R816). -/
  | relayTimeout (dt : Nat) (b : Fin 33) (rx : Bool)
  /-- TRIAL_CONFIRM_WRITE (R806). -/
  | trialConfirmWrite (dt : Nat) (m : Master)
  /-- TRIAL_CONFIRMED (R807). -/
  | trialConfirmed (dt : Nat)
  /-- TRIAL_REJECT (R808). -/
  | trialReject (dt : Nat) (m : Master)
  /-- TRIAL_WINDOW_EXPIRE (R808). -/
  | trialWindowExpire (dt : Nat)
  /-- HOPPER_GO (R759). -/
  | hopperGo (dt : Nat) (m : Master) (c : Fin 16)
  /-- HOPPER_STOP (R767). -/
  | hopperStop (dt : Nat) (m : Master) (c : Fin 16)
  /-- DESCRIPTOR_FETCHED (R762). -/
  | descriptorFetched (dt : Nat) (c : Fin 16) (ok : Bool)
  /-- READ_BEAT_RETURN (R761). -/
  | readBeatReturn (dt : Nat) (c : Fin 16) (beat : Nat) (res : BeatRes)
  /-- WRITE_BEAT_RESPONSE (R765). -/
  | writeBeatResponse (dt : Nat) (c : Fin 16) (beat : Nat) (res : BeatRes)
  /-- DESCRIPTOR_WRITE_BACK (R764). -/
  | descriptorWriteBack (dt : Nat) (c : Fin 16)
  /-- DEFAULT_TARGET_ACCESS (R756). -/
  | defaultTargetAccess (dt : Nat) (master : Fin 8) (write : Bool) (addr : BitVec 64)
  /-- CRC_START (R770). -/
  | crcStart (dt : Nat) (m : Master) (u : Fin 8)
  /-- CRC_FEED (R771). -/
  | crcFeed (dt : Nat) (m : Master) (u : Fin 8) (v : BitVec 32)
  /-- CRC_VALUE_RESTORE (R772). -/
  | crcValueRestore (dt : Nat) (m : Master) (u : Fin 8) (v : BitVec 32)
  /-- RAIL_OUT_OF_TOLERANCE (R835). -/
  | railOutOfTolerance (dt : Nat) (rail : Fin 10) (held : Bool)
  /-- RAIL_RESTORED (R835). -/
  | railRestored (dt : Nat)
  /-- MAIN_RAIL_COLLAPSE (R836). -/
  | mainRailCollapse (dt : Nat) (sram : Bool)
  /-- KEEP_RAIL_COLLAPSE (R837). -/
  | keepRailCollapse (dt : Nat)
  /-- TEMP_SENSORS_SAMPLE (R864). -/
  | tempSensorsSample (dt : Nat) (t : Vector (BitVec 16) 8)
  /-- UART_TX_WRITE (R859). -/
  | uartTxWrite (dt : Nat) (m : Master) (b : Byte)
  /-- UART_RX_READ (R859). -/
  | uartRxRead (dt : Nat) (m : Master)
  /-- UART_BYTE_RECEIVED (R859). -/
  | uartByteReceived (dt : Nat) (b : Byte)
  /-- PRBS_CHECKER_LOCK (R103). -/
  | prbsCheckerLock (dt : Nat) (b : Fin 33) (l : Fin 8) (rx : List Bool)
  /-- PRBS_CHECKER_RESEED (R103). -/
  | prbsCheckerReseed (dt : Nat) (b : Fin 33) (l : Fin 8) (rx : List Bool)
  /-- REMOTE_FAULT_RECEIVED (R173). -/
  | remoteFaultReceived (dt : Nat) (p : Fin 18)
  /-- REMOTE_FAULT_ENDED (R173). -/
  | remoteFaultEnded (dt : Nat) (p : Fin 18)
  /-- HEM_LAYER_DROP (R688). -/
  | hemLayerDrop (dt : Nat)
  /-- XO_IN_RETURN (R845). -/
  | xoInReturn (dt : Nat)
  /-- FREQ_IN_RETURN (R483). -/
  | freqInReturn (dt : Nat) (n : Fin 4)
  /-- CHANNEL_LOCK_ACQUIRED (R549). -/
  | channelLockAcquired (dt : Nat) (c : Fin 96) (sig : Fin 6) (prn : Fin 64) (cn0 : BitVec 16) (sync : Bool)
  /-- VAT_CORRECTED_ERROR (R658). -/
  | vatCorrectedError (dt : Nat) (sparesLow : Bool)
  /-- VAT_UNCORRECTABLE_ERROR (R674). -/
  | vatUncorrectableError (dt : Nat)
  /-- MASH_PARITY_FAULT (R685). -/
  | mashParityFault (dt : Nat) (b : Fin 256)
  /-- CONTROL_CORE_WATCHDOG (R674). -/
  | controlCoreWatchdog (dt : Nat)
  /-- CROSSING_FIFO_OVERFLOW (R41). -/
  | crossingFifoOverflow (dt : Nat)
  /-- OWNER_SLOT_PROGRAM (R790). -/
  | ownerSlotProgram (dt : Nat) (k : Fin 4) (digest : BitVec 384)
  /-- OWNER_SLOT_REVOKE (R790). -/
  | ownerSlotRevoke (dt : Nat) (k : Fin 4)
deriving DecidableEq, Repr

end Sys2Proof
end

