-- ==== Sys2Proof/Config.lean ====
section
/-! DEFINITION. What the manual leaves open, and what one part fixes that the manual does not state: constants
with no body, so nothing can be proved of their values. Each is named in the assumption log. -/

set_option autoImplicit false

namespace Sys2Proof.Config

/-- A fresh free value: the model's counter and a tag that says what it stands for (log entry 5, DESIGN CHOICE). -/
opaque free : Nat → Nat → Nat

/-- How long the device takes over a reaction of a severity, in 2^-16 ns (R698 gives bounds; log entry 12, DESIGN CHOICE). -/
opaque handleTime : Nat → Nat → Nat

/-- The number of a session's first event (R745 says only that the sequence rises by 1; log entry 13, DESIGN CHOICE). -/
opaque firstEvent : Nat

/-- The code error of sample `i` of a decoded Ply block whose samples are given (R291 bounds it; R295 does not expose
the coding; log entry 30, DESIGN CHOICE). -/
opaque plyError : List Nat → Nat → Nat

/-- Whether the scaler filters vertically before it filters horizontally (R343 to R347 do not say; log entry 31, DESIGN CHOICE). -/
opaque verticalFirst : Bool

/-- Rounding of a scaled 12-bit alpha to the 10 bits of R349 (not stated; log entry 31, DESIGN CHOICE). -/
opaque alphaRound : Nat → Nat

/-- Weights of the old and the new input at sample `m` of `M` of an input-change crossfade, in 2^-36 (R394 gives no
curve; log entry 36, DESIGN CHOICE). -/
opaque fadeOld : Nat → Nat → Nat
opaque fadeNew : Nat → Nat → Nat

/-- The deviation of an applied dynamics gain from its formula at a sample (R408 bounds it by 0.01 dB; log entry 37, DESIGN CHOICE). -/
opaque dynError : Nat → Nat → Nat

/-- The class defaults of the oscillator model and the floors of its uncertainties, by class and by the model's value: Y0, AGING, TC, U_Y,
U_D, U_C (R501 and R502 place them in the Pattern image and give no record; log entry 153, DESIGN CHOICE). -/
opaque oscDefault : Nat → Nat → Nat
opaque oscFloor : Nat → Nat → Nat

/-- The reservation, in Mb/s, of a -22 or -40 transmit flow (R190 gives no rate for them; log entry 38, DESIGN CHOICE). -/
opaque flowRate : Nat → Nat

/-- The gains ki and kp of a follow master's loop for FOLLOW_BW, in 10^-15 for 2^-16 of a sample (R449 and R450 give the
bandwidth and the damping, not the gains; log entry 40, DESIGN CHOICE). -/
opaque followKi : Nat → Nat
opaque followKp : Nat → Nat

/-- Where the GNSS measurement ring lies in the Hopper window of control SRAM (16_internal_engines says only that it lies
there; log entry 43, DESIGN CHOICE). -/
opaque measRing : Nat

/-- The key check value of a 256-bit key, 24 bits: the first 3 bytes of its AES-CMAC of 16 zero bytes (15_hcp R714). The
cipher is not described by the manual and stays uninterpreted (log entry 44, DESIGN CHOICE). -/
opaque kcv : Nat → Nat

/-- The ciphers of R787 and R788, which the manual names and does not describe (log entry 44, DESIGN CHOICE): the x coordinate of the ECDH
product of the device private key and a public key, HKDF-SHA-384 with an empty salt to 32 bytes from keying material and info, the
unwrapping of 40 bytes under RFC 3394, and SHA-384. -/
opaque ecdhX : Nat → Nat
opaque hkdf384 : Nat → List Byte → Nat
opaque unwrap : Nat → Nat → Nat
opaque sha384 : List Byte → Nat

/-- How many whole packets per second a register shows for a reservation that is no whole number, in 1/128 (12_time R601
states no rounding; log entry 45, DESIGN CHOICE). -/
opaque resvRound : Nat → Nat

/-- How long after its acceptance the first message of a grant is due, in ns, by the interval in ns (R604 gives the spacing
only; log entry 46, DESIGN CHOICE). -/
opaque firstDue : Nat → Nat

/-- The offset of instance 0 of a register array inside its window, by the array's number (18_address_map R820, R822: the
directory gives it; the manual states only that of WARP.DST_ROUTE; log entry 57, DESIGN CHOICE). -/
opaque ownOffset : Nat → Nat

/-- Which register array of a block, by its place among the block's arrays, a directory entry describes (18_address_map
states no order; log entry 57, DESIGN CHOICE). -/
opaque dirEntry : Nat → Nat → Nat

/-- Whether a register array of a bundle, an Ethernet port or an audio port lies in the island of the external clock
(01_architecture R39, R43 do not say; log entry 58, DESIGN CHOICE). -/
opaque inIsland : Nat → Bool

/-- The ordering grade in the fuses, and the words of the device public key (18_address_map, 17_startup_update R817): one
part's own (log entry 59, DESIGN CHOICE). -/
opaque grade : Bool
opaque devPub : Nat → Nat

/-- What CASK.BW_CLASS shows at a time (06_cask: a measured rate; log entry 60, DESIGN CHOICE). -/
opaque classRate : Nat → Nat → Nat

/-- A port's MAC address (04_ethernet R188: one part's own, which no register holds; log entry 144, DESIGN CHOICE). -/
opaque portMac : Nat → Nat

/-- Bytes of a port's ingress buffer (R177 states only what is reserved in it; log entry 145, DESIGN CHOICE). -/
opaque ingressBytes : Nat

/-- The content of a MIRROR and of a CS_READY message from byte 18 on, for which R633 gives no layout (log entry 143, DESIGN CHOICE). -/
opaque mantleRest : Machine.MantleMsg → List Byte

end Sys2Proof.Config
end

