-- ==== Sys2Proof/Machine/Formats.lean ====
section
/-! DEFINITION. Units of time, rate families, video formats and their rasters (03_cells_slots R137, R138;
05_warp_seam, line periods and switching lines). A `tick` is 2^-16 ns, the unit of R149. A `fine` unit is 1/189
of a tick: every family's period and every format's line period is a whole number of fine units. -/

set_option autoImplicit false

namespace Sys2Proof.Machine

/-- Ticks of a number of nanoseconds. -/
def ns (n : Nat) : Nat := n * 65536
/-- Ticks of a number of microseconds. -/
def us (n : Nat) : Nat := n * 65536000
/-- Ticks of a number of milliseconds. -/
def ms (n : Nat) : Nat := n * 65536000000
/-- Ticks of a number of seconds. -/
def sec (n : Nat) : Nat := n * 65536000000000

/-- Fine units of a number of ticks. -/
def fine (t : Nat) : Nat := t * 189

/-- Period of a rate family, in fine units (R137: 1/50, 1/60, 1001/60000, 1/24, 1001/24000 s). -/
def famPeriod : Nat → Nat
  | 0 => fine (sec 1) / 50
  | 1 => fine (sec 1) / 60
  | 2 => fine (sec 1) * 1001 / 60000
  | 3 => fine (sec 1) / 24
  | _ => fine (sec 1) * 1001 / 24000

/-- A format of R137: rate family, family periods in a frame (R138), interlaced, active pixels, active lines of a
frame or field, total lines of the raster, and the switching lines. -/
structure Fmt where
  fam : Nat
  per : Nat
  inter : Bool
  width : Nat
  active : Nat
  lines : Nat
  sw1 : Nat
  sw2 : Nat
deriving DecidableEq, Repr

/-- 720p of a family. -/
def fmt720 (fam : Nat) : Fmt := ⟨fam, 1, false, 1280, 720, 750, 7, 7⟩
/-- 1080p of a family, a frame lasting `per` periods. -/
def fmt1080 (fam per : Nat) : Fmt := ⟨fam, per, false, 1920, 1080, 1125, 7, 7⟩
/-- 2160p of a family, a frame lasting `per` periods. -/
def fmt2160 (fam per : Nat) : Fmt := ⟨fam, per, false, 3840, 2160, 2250, 7, 7⟩

/-- The format of an FMT code (R137); none for 0 and 24 to 63 (R123). -/
def fmtOf : Nat → Option Fmt
  | 1 => some (fmt720 0) | 2 => some (fmt720 2) | 3 => some (fmt720 1)
  | 4 => some ⟨0, 2, true, 1920, 540, 1125, 7, 569⟩
  | 5 => some ⟨2, 2, true, 1920, 540, 1125, 7, 569⟩
  | 6 => some (fmt1080 4 1) | 7 => some (fmt1080 3 1) | 8 => some (fmt1080 0 2) | 9 => some (fmt1080 2 2)
  | 10 => some (fmt1080 1 2) | 11 => some (fmt1080 0 1) | 12 => some (fmt1080 2 1) | 13 => some (fmt1080 1 1)
  | 14 => some (fmt2160 4 1) | 15 => some (fmt2160 3 1) | 16 => some (fmt2160 0 2) | 17 => some (fmt2160 2 2)
  | 18 => some (fmt2160 1 2) | 19 => some (fmt2160 0 1) | 20 => some (fmt2160 2 1) | 21 => some (fmt2160 1 1)
  | 22 => some ⟨2, 2, true, 720, 243, 525, 10, 273⟩
  | 23 => some ⟨0, 2, true, 720, 288, 625, 6, 319⟩
  | _ => none

/-- Frame period P in fine units (R138). -/
def Fmt.period (f : Fmt) : Nat := famPeriod f.fam * f.per

/-- Line period T in fine units: the frame period divided by the total lines (R228). -/
def Fmt.line (f : Fmt) : Nat := f.period / f.lines

/-- Cells of one line (R135, R137): 102 pixels in every cell but the last. -/
def Fmt.cells (f : Fmt) : Nat := (f.width + 101) / 102

/-- VALID of cell `k` of a line (R135, R137): 5 bytes for two pixels. -/
def Fmt.cellBytes (f : Fmt) (k : Nat) : Nat :=
  if k + 1 < f.cells then 255 else (f.width - 102 * k) / 2 * 5

/-- Bytes of one frame's essence (R137, R273). -/
def Fmt.frameBytes (f : Fmt) : Nat :=
  f.width / 2 * 5 * f.active * (if f.inter then 2 else 1)

/-- Frame period in whole nanoseconds, rounded down. -/
def Fmt.periodNs (f : Fmt) : Nat := f.period / fine (ns 1)

/-- The raster line of the first active line of a frame's first or second field, as each format's standard numbers them (R144; log entry
135, PRESUMED). -/
def Fmt.top (f : Fmt) (second : Bool) : Nat :=
  match f.lines, f.inter with
  | 750, _ => 26
  | 2250, _ => 83
  | 525, _ => if second then 283 else 21
  | 625, _ => if second then 336 else 23
  | _, true => if second then 584 else 21
  | _, false => 42

/-- The field and active line of a raster line; none for a line of the vertical blanking. -/
def Fmt.activeOf (f : Fmt) (m : Nat) : Option (Bool × Nat) :=
  if f.top false ≤ m ∧ m < f.top false + f.active then some (false, m - f.top false)
  else if f.inter ∧ f.top true ≤ m ∧ m < f.top true + f.active then some (true, m - f.top true)
  else none

/-- The field that follows a blanking line: its packets come before that field's SOF cell (R145). -/
def Fmt.blankOf (f : Fmt) (m : Nat) : Bool := f.inter && decide (f.top false + f.active ≤ m ∧ m < f.top true)

/-- The raster lines of the vertical blanking before a field, in order. -/
def Fmt.blanks (f : Fmt) (second : Bool) : List Nat :=
  if second then (List.range (f.top true - f.top false - f.active)).map fun i => f.top false + f.active + i
  else
    let last := f.top f.inter + f.active
    (List.range (f.lines + 1 - last)).map (fun i => last + i) ++ (List.range (f.top false - 1)).map (· + 1)

end Sys2Proof.Machine
end

