-- ==== Sys2Proof/Machine/Output.lean ====
section
/-! DEFINITION. What the device sends: the outputs of the last command, in order. They are the model's own
field of State (log entry 2, DESIGN CHOICE): the spec's chapters say what is sent, and this is where it can be seen. -/

set_option autoImplicit false

namespace Sys2Proof.Machine

/-- One thing the device sends or drives. -/
inductive Output where
  /-- An HCP response (15_hcp_control R708, R709, R712, R727) with the SLOT of its key: `plain` for a PLAIN reply. -/
  | hcpResp (ctl1 : Bool) (src slot : Nat) (plain : Bool) (op seq session reqId : Nat) (status : Status)
      (body : List Byte)
  /-- An EVENT message (R745). -/
  | hcpEvent (ctl1 : Bool) (src slot session seq : Nat) (body : List Byte)
  /-- The result of a register access by a master other than an HCP session. -/
  | result (status : Status) (words : List Nat)
  /-- The mantle message that the side cells of channel 2 of MANTLE after it carry (13_mantle_twin R633). -/
  | mantle (epoch : Nat) (msg : MantleMsg)
  /-- MANTLE_LEASE_OUT toggles (R634). -/
  | leaseOut (level : Bool)
  /-- A control word on one data lane of a transmit bundle (02_izsar_lanes R71, R72, R87). -/
  | laneWord (bundle lane : Nat) (word : List Byte)
  /-- Line bits on one data lane, scrambled and stuffed, an exit burst or a PRBS pattern (R59, R90, R99). -/
  | lineBits (bundle lane : Nat) (bits : List Bool)
  /-- A data lane goes electrically idle (R87, R107). -/
  | laneIdle (bundle lane : Nat)
  /-- The clock lane runs, or stops, so many UI after the data lanes' last bit (R88, R96). -/
  | clockLane (bundle : Nat) (runs : Bool) (ui : Nat)
  /-- A cell on a transmit bundle (03_cells_slots R120), which leaves `after` ticks after the command (R139). -/
  | cell (bundle after : Nat) (bytes : List Byte)
  /-- The data of a management side cell, passed to the host (R160). -/
  | management (bundle : Nat) (data : List Byte)
  /-- A frame of a transmit flow, which leaves `after` ticks after the command (04_ethernet R188, R197). -/
  | media (after flow : Nat) (f : UdpFrame)
  /-- A frame of a TDM port, bit clock by bit clock from the one on which frame sync becomes active (09_audio_ports R433, R434): the levels of
  FS, which a slave does not drive, the bits of DOUT, none where it is high-impedance, and whether data is launched on rising edges. -/
  | tdmFrame (port : Nat) (fs : Option (List Bool)) (dout : List (Option Bool)) (rising : Bool)
  /-- A frame of a MADI port: the levels of its line (R435, R437). -/
  | madiFrame (port : Nat) (line : List Bool)
  /-- An audio port's clocks start, or stop low with DOUT high-impedance (R453, R454). -/
  | portClock (port : Nat) (runs : Bool)
  /-- The answer to an ARP request or to an ICMP echo request on a port (R176). -/
  | arpReply (port : Nat)
  | echoReply (port : Nat) (data : List Byte)
  /-- An IGMPv3 membership report or leave of a port for a group and source, 0 for any source (R187). -/
  | igmp (port group source : Nat) (join : Bool)
  /-- A TIME_OUT pin's pulse begins (active) or ends (10_kiln R515, R519), with the programmed instant in ticks. -/
  | timeOut (n : Nat) (active : Bool) (instant : Nat)
  /-- A CLK_OUT clock runs, or stops low (R521, R523). -/
  | clkOut (n : Nat) (runs : Bool)
  /-- A PTP message (12_time R582): multicast, or to a MAC, an IPv4 address and a UDP port; the keyID and sequenceNo of its
  AUTHENTICATION TLV. -/
  | ptp (port : Nat) (dest : Option (Nat × Nat × Nat)) (sealed : Option (Nat × Nat)) (msg : PtpMsg)
  /-- An NTP response (R618) to an address and a UDP port. -/
  | ntp (port ip udp : Nat) (reply : NtpReply)
  /-- An injected frame, without its FCS, on a queue (R626). -/
  | injected (port queue : Nat) (data : List Byte)
  /-- A byte sent on RB_UART_TXD (19_electrical R859). -/
  | uartByte (b : Byte)
  /-- A DAC code is written to the oscillator (R498). -/
  | dac (code : Nat)
  /-- A frame leaves an egress queue of a port, with the PCP of the queue or of its flow (04_ethernet R209); an injected frame goes as the
  host wrote it. -/
  | frame (port queue : Nat) (pcp : Option Nat) (content : Output)
  /-- A port's transmitter sends remote fault ordered sets, or no longer (R173). -/
  | remoteFault (port : Nat) (on : Bool)
deriving DecidableEq, Repr

/-- The egress queue of a frame (04_ethernet R209). -/
def Output.queue : Output → Nat
  | .ptp _ _ _ (.sync _) | .ptp _ _ _ (.delayReq _) => 0
  | .media .. => 1
  | .ptp .. | .ntp .. => 2
  | .injected _ q _ => q
  | _ => 3

end Sys2Proof.Machine
end

