-- ==== Sys2Proof/Machine/Store.lean ====
section
/-! DEFINITION. The one canonical form of sparse state: a list of (key, value) pairs, keys strictly rising,
no pair whose value is what an unlisted key reads as. Memory, the field store and the tables of records
all use it, so that equal contents are equal data. -/

namespace Sys2Proof.Machine

/-- The value of a key, `d` when the key is not listed. -/
def tget {α : Type} (d : α) : List (Nat × α) → Nat → α
  | [], _ => d
  | p :: t, k => if p.1 = k then p.2 else tget d t k

/-- Enter a pair at its place. -/
def tinsert {α : Type} : List (Nat × α) → Nat → α → List (Nat × α)
  | [], k, v => [(k, v)]
  | p :: t, k, v =>
    if k < p.1 then (k, v) :: p :: t else if p.1 = k then (k, v) :: t else p :: tinsert t k v

/-- Strike a key out. -/
def terase {α : Type} : List (Nat × α) → Nat → List (Nat × α)
  | [], _ => []
  | p :: t, k => if p.1 = k then terase t k else p :: terase t k

/-- Write a key: the value an unlisted key reads as removes the entry. -/
def tput {α : Type} [DecidableEq α] (d : α) (t : List (Nat × α)) (k : Nat) (v : α) : List (Nat × α) :=
  if v = d then terase t k else tinsert t k v

/-- The canonical form. -/
def twf {α : Type} [DecidableEq α] (d : α) : List (Nat × α) → Bool
  | [] => true
  | [p] => p.2 ≠ d
  | p :: q :: t => (p.2 ≠ d) && (decide (p.1 < q.1)) && twf d (q :: t)

/-- Write each of a list of keys in order. -/
def tputs {α : Type} [DecidableEq α] (d : α) (t : List (Nat × α)) : List (Nat × α) → List (Nat × α)
  | [] => t
  | p :: ps => tputs d (tput d t p.1 p.2) ps

end Sys2Proof.Machine
end

