-- ==== Sys2Proof/Machine/State.lean ====
section
/-! DEFINITION. The state of the block as plain data, its faults and refusals, and the state after reset.
The registers of Machine/Registers.lean are held field by field in `rv`; what the chapters name beside their
registers stands in one record for each chapter. -/

set_option autoImplicit false

namespace Sys2Proof.Machine

/-- The fault collector's state beside its registers (14_faults_hem): standing instances (key
source * 8192 + instance, 2 when raised with REPLACE 1), fenced units (key kind * 8192 + index; 1 fenced for
itself, 2 through its bundle, 3 both), the fences changed in the last second, newest first, with the time and what was before
(01_architecture R33), the log ring and its next sequence number (kept), entries whose Ledger
write failed (R704), the fault being handled (R698), the end of the FAULT_N pulse, and FAULT_N held by a
failed start-up (R794). -/
structure FltS where
  stand : List (Nat × Nat) := []
  fenced : List (Nat × Nat) := []
  fenceLog : List (Nat × (Nat × Nat)) := []
  log : List (Nat × LogEntry) := []
  seq : Nat := 0
  retry : List (Nat × LogEntry) := []
  ledgerOk : Bool := true
  handleFrom : Nat := 0
  handleEnd : Nat := 0
  handleSev : Nat := 0
  pulseEnd : Nat := 0
  startHold : Bool := false
  hemAt : Option Nat := none
  hemHard : Bool := false
deriving DecidableEq, Repr

/-- HCP's state beside its registers (15_hcp_control): the keys of the controller slots that are loaded (R713), sessions 0 to
31, the SEQs of the last OPENs of each slot, the snapshot buffers, and the counts of requests and of PLAIN replies in the
present second. -/
structure HcpS where
  keys : List (Nat × Nat) := []
  sess : List (Nat × Session) := []
  opens : List (Nat × List Nat) := []
  snaps : List (Nat × SnapBuf) := []
  reqSec : Nat := 0
  reqN : Nat := 0
  plainSec : Nat := 0
  plainN : Nat := 0
deriving DecidableEq, Repr

/-- One frame of a source in a frame ring or in Vat (06_cask R273, R274; 05_warp_seam R226, R232): the effective
start `s` in ticks, once it is known, `sEnd` when it marks the end of the frame, the arrival of its first line, the
essence cells that passed their check (key field * 2^24 + line * 2^12 + offset), the ancillary packets in order of arrival
(03_cells R142),
the lines an uncorrectable error turned black (field * 4096 + line; for a proxy's block 2^24 + line * 64 + block)
(R304), whether the frame has ended, for a packet source the sample rows as packets bring them (R193),
the epoch that its RTP timestamp names (fine units), and the number of its first embedded audio sample (08_mash R426). -/
structure Frame where
  s : Option Nat := none
  sEnd : Bool := false
  fmt : Nat := 0
  count : Nat := 0
  complete : Bool := false
  firstAt : Nat := 0
  cells : List (Nat × List Byte) := []
  anc : List (List Byte) := []
  bad : List Nat := []
  done : Bool := false
  segs : List (Nat × List Byte) := []
  epoch : Option Nat := none
  aud : Option Nat := none
deriving DecidableEq, Repr

/-- A frame in a ring slot. -/
structure FrameRef where
  src : Nat
  slot : Nat
  count : Nat
  s : Nat
deriving DecidableEq, Repr

/-- One source, 0 to 1151 a source slot and 1152 to 1167 an internal source (05_warp_seam R226, R227; 06_cask R273):
when its last essence cell passed, the last valid stamp, the phases of the last 8 frames in fine units, the frames in
Vat (newest first), the ring's slots, the slot being written and the next in rotation, the running frame count, the
frame rings' proxies (slot to frame, newest `proxyNew`), and the ancillary packets that wait for the frame that follows (03_cells R145). -/
structure SrcS where
  lastEss : Option Nat := none
  stamp : Option Nat := none
  phases : List Int := []
  vat : List Frame := []
  slots : List (Nat × Frame) := []
  wslot : Option Nat := none
  next : Nat := 0
  count : Nat := 0
  proxies : List (Nat × Frame) := []
  proxyNew : Option Nat := none
  proxyNext : Nat := 0
  ancNext : List (List Byte) := []
deriving DecidableEq, Repr

/-- What a destination's output frame carries: black, a stored frame (frame mode), or the routed source line by line
(line mode). -/
inductive Content where
  | black
  | stored (f : FrameRef)
  | live (src : Nat)
deriving DecidableEq, Repr

/-- One destination's Seam (05_warp_seam; 06_cask R235, R236, R283 to R286): the last launch instant in fine units,
the launch and frame count of its launch cells, what the frame in progress carries, the frame last used under R236, a
frame that waits for a switching instant (R286), the frozen frame and its first frozen launch, whether its source was
lost when last looked at, the hem frame (R687), whether a -22 destination discards up to its new
source's marker (R241), the RTP sequence of a packet destination, audio samples that wait to be embedded
(03_cells_slots R147), one list of channels for each sample instant with its number, the data block number last sent, the launch at
which it last repeated or dropped a frame, that whose signature was sent (13_mantle_twin R655, R656), the last line sent with its launch
(03_cells R136), and the cells of the output frame that its queue in Vat discarded (R133). -/
structure DstS where
  launch : Option Nat := none
  lcell : Option Nat := none
  lcount : Nat := 0
  content : Content := .black
  used : Option FrameRef := none
  resume : Option FrameRef := none
  freeze : Option FrameRef := none
  frozenAt : Option Nat := none
  lost : Bool := false
  hem : Option FrameRef := none
  skip22 : Bool := false
  rtpSeq : Nat := 0
  audio : List (Nat × List Int) := []
  dbn : Nat := 0
  slipAt : Option Nat := none
  sigAt : Option Nat := none
  lineAt : Option (Nat × Nat) := none
  gone : List Nat := []
deriving DecidableEq, Repr

/-- One compositor head beside its registers (07_stitch_heads): the start of its last frame in fine units, the time
before which it may not start (R315), whether it stops at the next frame start (R316) and the frame line from which it
then sends fill, the frames its proxy and ring layers read in this frame (R332), where the frame was aborted (emitted
line and pixel) for L0 to L6 and for the apron (R356, R358), the apron's fields as they come into effect by emitted
line (R362), when a write or a pin takes effect (R362, R365), the emitted line from which the apron is forced and
whether it still is (R366), the emitted line from which L0 to L6 are dropped (R688), consecutive mismatches by region
and the expected values learnt (R370, R371), and a head that waits for its new timing (R324). -/
structure HeadS where
  frameAt : Option Nat := none
  startFrom : Option Nat := none
  stopping : Bool := false
  fillFrom : Option Nat := none
  reads : List (Nat × FrameRef) := []
  abort : Option (Nat × Nat) := none
  apronAbort : Option (Nat × Nat) := none
  apron : List (Nat × List Nat) := []
  apronDue : List (Nat × List Nat) := []
  forceDue : Option Nat := none
  force : Option Nat := none
  dropFrom : Option Nat := none
  bad : List (Nat × Nat) := []
  waiting : Bool := false
deriving DecidableEq, Repr

/-- A PRBS checker (02_izsar_lanes R103): the last 31 bits, how many of them it has since it seeded itself, the correct bits in a
row, and the ages of the errors within the last 1024 bits. -/
structure PrbsS where
  hist : Nat := 0
  have_ : Nat := 0
  good : Nat := 0
  errs : List Nat := []
deriving DecidableEq, Repr

/-- A transmit lane (R61 to R64, R68, R75, R102): the scrambler's last 58 bits, all ones after reset; the stuffer's count and last bit;
bytes of a data word not yet complete; the line time to spare, in bits / N; the PRBS generator. -/
structure LaneTx where
  hist : Nat := 2 ^ 58 - 1
  run : Nat := 0
  last : Bool := false
  queue : List Byte := []
  spare : Nat := 0
  prbs : Nat := 2 ^ 31 - 1
deriving DecidableEq, Repr

/-- A receive lane (R61 to R68, R72, R89, R91, R103 to R108): the descrambler's last 58 bits; the destuffer's expected stuff bit, count
and last bit; data bytes since the last marker position; stuff violations since then; whether line bits are discarded until a
delimiter, and whether the first marker after one is awaited; the next marker count; markers missing and good in a row; the last
marker's byte 7; the PRBS checker. -/
structure LaneRx where
  hist : Nat := 2 ^ 58 - 1
  expect : Bool := false
  run : Nat := 0
  last : Bool := false
  got : Nat := 0
  viol : Nat := 0
  discard : Bool := false
  awake : Bool := false
  next : Option Nat := none
  miss : Nat := 0
  hits : Nat := 0
  b7 : Option Nat := none
  prbs : PrbsS := {}
deriving DecidableEq, Repr

/-- One bundle beside its registers (02_izsar_lanes): the training step in hand (lanes found, positions tried, when the step or
position began, deskew measured); the forwarded clock (qualified; held after a rate change; the time of the last fault; a glitch whose
next marker is awaited, with the markers missing there; a word lost in it); when the next automatic retrain may come; the lanes that
have reported the present marker, when the first did, and lanes that failed with their times (R115, R117); the far-lane map under
R106; the receive lanes and the cells received since the last marker. -/
structure BndS where
  found : List Nat := []
  pos : Nat := 0
  posAt : Nat := 0
  deskewed : Bool := false
  clkOk : Bool := false
  rateHold : Bool := false
  clkFaultAt : Option Nat := none
  glitch : Option Nat := none
  hurt : Bool := false
  retryAt : Nat := 0
  seen : List Nat := []
  periodAt : Nat := 0
  failAt : List (Nat × Nat) := []
  farOne : Option (Nat × Nat) := none
  rx : List (Nat × LaneRx) := []
  rxCells : Nat := 0
deriving DecidableEq, Repr

/-- The transmitter of one bundle beside its registers (02_izsar_lanes): its lanes, the marker count (log entry 129, DESIGN CHOICE), cells
sent since the last marker, cells that wait for the next, a pending 7-lane switch; the last cell that was not idle, when it began to have
idle cells only, and when its lanes are ready after an exit from idle; the next sequence number of each stream, key slot * 16 + type
(03_cells R129), side cells sent since the last marker, side payloads that wait (R160), the next message identifier (R159) and the
sequence of the lane test (13_mantle_twin R659); what the near-end loops hold (R99): cells, and control words by lane. -/
structure TxS where
  lanes : List (Nat × LaneTx) := []
  count : Nat := 0
  cells : Nat := 0
  late : List (List Byte) := []
  seven : Option Nat := none
  lastTx : Option Nat := none
  idleFrom : Option Nat := none
  readyAt : Nat := 0
  seq : List (Nat × Nat) := []
  sideN : Nat := 0
  side : List (List Byte) := []
  msgId : Nat := 0
  test : Nat := 2 ^ 31 - 1
  loop : List (List Byte) := []
  loopWords : List (Nat × List Byte) := []
deriving DecidableEq, Repr

/-- The cell layer (03_cells_slots R129, R132): next sequence of each received stream plus 1 (0 unsynchronised), key
(bundle * 2048 + slot) * 16 + type; under the same keys, what has come of an ancillary packet that the next
cell continues (R143), and of a side message: identifier, next fragment, data (R159). `famSent` is the last epoch of each family that a
bundle's family cells described (R152). -/
structure CellS where
  rx : List (Nat × Nat) := []
  famSent : List (Nat × Nat) := []
  anc : List (Nat × List Byte) := []
  side : List (Nat × Option (Nat × Nat × List Byte)) := []
deriving DecidableEq, Repr

/-- A surface (06_cask R296, R297): its state code, apron flag, blocks, and a Hopper raw write in progress. -/
structure Surf where
  state : Nat := 0
  apron : Bool := false
  blocks : Nat := 0
  writes : Nat := 0
deriving DecidableEq, Repr

/-- Cask beside its registers (06_cask): surfaces, corrected errors of each page with their times (R303), and the
list of retired pages with their spares (kept, R306). -/
structure CaskS where
  surf : List (Nat × Surf) := []
  ce : List (Nat × List Nat) := []
  retired : List (Nat × Nat) := []
  copying : List (Nat × Nat) := []
deriving DecidableEq, Repr

/-- A follow crossfade (08_mash_audio R418 to R421, R874): towards the companion channels of route `tgt`, over samples
`start` to `stop` - 1, turned back at sample `back`; `ord` is the change it belongs to and `seam` its audio seam. -/
structure Xfade where
  tgt : Nat
  start : Nat
  stop : Nat
  back : Option Nat := none
  ord : Nat := 0
  seam : Nat := 0
deriving DecidableEq, Repr

/-- A destination's follow group (R417 to R428): the route it settled on, the crossfades that run or wait, oldest
first, the ramp to zero (the sample it began at) and the ramp back, a slip under R427 (the launch's sample), the frame
that is read for each route with its launch in fine units (R425), and what was read before the last launch. -/
structure FollowS where
  base : Nat := 2047
  xs : List Xfade := []
  mute : Option Nat := none
  unmute : Option Nat := none
  slip : Option Nat := none
  reads : List (Nat × Nat) := []
  launch : Option Nat := none
  before : List (Nat × Nat) := []
  prior : Option Nat := none
deriving DecidableEq, Repr

/-- An old input that a tap fades from (R394): input position, whether it is silence, gain code, delay, and the sample
and length of the fade into the next. -/
structure FadeS where
  input : Nat
  silent : Bool
  code : Nat
  delay : Nat
  start : Nat
  len : Nat
deriving DecidableEq, Repr

/-- A plain route or a bus input entry beside its registers (R392 to R394, R402): the gain code that applies, when it is
not the register's; a code that waits for a zero crossing with the sample at which its time ends; the inputs it fades
from, oldest first; the last input sample; and for a bus entry the sample at which its ramp to zero, or back, began. -/
structure TapS where
  code : Option Nat := none
  wait : Option (Nat × Nat) := none
  fades : List FadeS := []
  prev : Int := 0
  muteAt : Option Nat := none
  backAt : Option Nat := none
deriving DecidableEq, Repr

/-- The embedded audio of a lane source (R381 to R386, R428): samples received so far, newest first, their number, and how many of each
group; the next sample that the pool takes, and whether the pool takes samples; the numbers at which its frames began, newest first, and
the start of a frame whose essence has not begun; the raster line of the last audio data packet; until when it stays unlocked after its
elastic buffer left its range; the channels it marks active. -/
structure LaneS where
  recs : List (List Int) := []
  total : Nat := 0
  got : List (Nat × Nat) := []
  read : Nat := 0
  flow : Bool := false
  starts : List Nat := []
  ahead : Option Nat := none
  line : Nat := 0
  hold : Option Nat := none
  active : List (Nat × Nat) := []
deriving DecidableEq, Repr

/-- A slip reader (R428): the sample it reads next, a move that waits (the sample number at which it takes place, and
whether it is back), and the sample instant of the last move. -/
structure SlipS where
  idx : Nat := 0
  move : Option (Nat × Bool) := none
  moved : Option Nat := none
deriving DecidableEq, Repr

/-- A bus beside its registers (R399 to R410): the fader's ramp (from a level in 1/`den` codes to a code, from a sample
on, over a number of samples), the level reached, the smoothed reduction in 10^-30 dB, and the last output sample. -/
structure BusS where
  fromNum : Nat := 0
  fromDen : Nat := 1
  target : Nat := 0
  start : Nat := 0
  len : Nat := 0
  gr : Int := 0
  out : Int := 0
deriving DecidableEq, Repr

/-- Mash beside its registers (08_mash_audio): the last sample instant, the samples of each input position newest first
(R396), samples that wait to enter the pool, the embedded audio of lane sources, the samples of flows by their RTP time
(R426), flows refused for their rate (R375), follow groups, routes, bus entries, slip readers, buses, swap requests
with their times (R413), the output samples, samples that wait for a transmit flow's packet, the sequence numbers of
transmit flows, and when silencing for cellar entry began (01_architecture R49). -/
structure MashS where
  n : Option Nat := none
  hist : List (Nat × List Int) := []
  inq : List (Nat × List Int) := []
  lane : List (Nat × LaneS) := []
  flowRec : List (Nat × List (Nat × List Int)) := []
  rateBad : List Nat := []
  follow : List (Nat × FollowS) := []
  route : List (Nat × TapS) := []
  entry : List (Nat × TapS) := []
  slip : List (Nat × SlipS) := []
  bus : List (Nat × BusS) := []
  swapAt : List (Nat × Nat) := []
  out : List (Nat × Int) := []
  txq : List (Nat × List (List Int)) := []
  txSeq : List (Nat × Nat) := []
  silentFrom : Option Nat := none
deriving DecidableEq, Repr

/-- What the departure of a frame is noted in (04_ethernet R211): the Sync that awaits its Follow_Up by its key and sequenceId, a client's
Delay_Req with its sequenceId, the TX timestamp queue with an injected frame's identifier. -/
inductive TxMark where
  | none
  | sync (key seq : Nat)
  | delayReq (seq : Nat)
  | inject (id : Nat)
deriving DecidableEq, Repr

/-- A frame in an egress queue (04_ethernet R209): its queue and octets, its flow, its mark, the time it is due, what it is. -/
structure TxItem where
  queue : Nat
  len : Nat
  flow : Option Nat
  mark : TxMark
  due : Nat
  out : Output
deriving DecidableEq, Repr

/-- Pause of one egress queue (04_ethernet R179 to R182): when the quanta of 802.3 pause end, when those of priority pause end by priority,
since when the queue is held, and when the watchdog's ignore interval ends. -/
structure PauseS where
  mac : Nat := 0
  pfc : List (Nat × Nat) := []
  since : Nat := 0
  ignore : Nat := 0
deriving DecidableEq, Repr

/-- A receive flow beside its registers (R195, R196, R202 to R207): whether the path is not lost, when a packet last
matched, the RTP timestamp of the frame in progress, the next sequence number, the numbers in the merge window (arrival
time, and 1 for path A, 2 for path B, 3 for both), and the first-packet offset and spacing of the last 64 frames. -/
structure FlowRx where
  alive : Bool := false
  last : Nat := 0
  ts : Option Nat := none
  next : Option Nat := none
  seen : List (Nat × (Nat × Nat)) := []
  hist : List (Int × Bool) := []
  narrow : Bool := true
deriving DecidableEq, Repr

/-- Ethernet beside its registers (04_ethernet_ports): held queues (key port * 4 + queue), receive flows, and the ports'
IPv4 addresses, which the Pattern image gives. -/
structure EthS where
  pause : List (Nat × PauseS) := []
  rx : List (Nat × FlowRx) := []
  ip : List (Nat × Nat) := []
deriving DecidableEq, Repr

/-- One audio port beside its registers (09_audio_ports): frames of pre-roll or stop so far; EN written with 1 during
STOPPING (R456); a discarded frame that awaits realignment (R459); the external clock qualified (R460); the held lower
half of a MADI mask (R442); whether the elastic buffer is read, and the sample at which a ramp before a re-centring
began (R447); the follow buffer, oldest sample first, with the next sample read of a lane source's record, the time of
the last sample, whether it refills, the frames since a ramp of it began, and the loop's integrator in 10^-15 (R449 to
R452); the frames sent, the line bits to spare in bits / fs and the level of a MADI line (R435, R437); samples discarded while the port's
clock is absent (01_architecture R44). -/
structure PortS where
  frames : Nat := 0
  again : Bool := false
  glitch : Bool := false
  clkOk : Bool := false
  lo : Option Nat := none
  flow : Bool := false
  slip : Option Nat := none
  buf : List (List Int) := []
  ptr : Nat := 0
  lastIn : Nat := 0
  refill : Bool := true
  fslip : Option Nat := none
  integ : Int := 0
  txn : Nat := 0
  spare : Nat := 0
  level : Bool := false
  lost : Nat := 0
deriving DecidableEq, Repr

/-- One entry of a signature cell (13_mantle_twin R655). -/
structure SigEntry where
  dst : Nat
  skip : Bool
  route : Nat
  epoch : Nat
  sig : Nat
deriving DecidableEq, Repr

/-- The mantle's state beside its registers (13_mantle_twin): the holder flag sent in cells; the number of the next renewal, when the last
was sent, t_c, t_s and t_n (R638 to R645); the number and epoch of the last RENEW seen, when a renewal and an ACK were last seen, and the
path that a renewal has come by so far, with its time; the lease pin's level; the epoch in Ledger; the Kiln time from which a new holder
sends media, and that up to which one that gave the mantle away does (R653); T_h of a handover proposed, whether it is accepted, and T_h
that this standby accepted; the last time a standing condition of the unit's health changed and the start of a hold-off's hindrance (R661,
R666); the next health record's number and its Kiln second, when the twin's last came; the holder's last family cell (its T1, its arrival,
whether an echo went back, its flag with TIME_VALID); the time check's run (R650); signature entries of both units by destination,
mismatches in a row, destinations reported (R657); counts of the last second and the last mismatch, uncorrectable error and lane test
error (R660, R661); the last 31 bits of the lane test (R659). -/
structure MntlS where
  flag : Bool := false
  renewN : Nat := 0
  renewAt : Nat := 0
  tc : Nat := 0
  ts : Nat := 0
  tn : Nat := 0
  seenN : Nat := 0
  seenEpoch : Option Nat := none
  seenAt : Option Nat := none
  ackAt : Option Nat := none
  half : Option (Bool × Nat) := none
  leaseOut : Bool := false
  ledgerEpoch : Nat := 0
  mediaFrom : Nat := 0
  mediaTo : Nat := 0
  proposed : Option Nat := none
  accepted : Bool := false
  agreed : Option Nat := none
  sickAt : Nat := 0
  holdAt : Nat := 0
  healthSeq : Nat := 0
  healthSec : Option Nat := none
  twinAt : Option Nat := none
  fam : Option (Nat × Nat) := none
  echoed : Bool := false
  timeRun : Nat := 0
  timeFail : Bool := false
  own : List (Nat × List SigEntry) := []
  twin : List (Nat × List SigEntry) := []
  run : List (Nat × Nat) := []
  reported : List Nat := []
  cmp : Nat := 0
  mis : Nat := 0
  ce : Nat := 0
  ue : Nat := 0
  laneErr : Nat := 0
  misAt : Option Nat := none
  ueAt : Option Nat := none
  laneAt : Option Nat := none
  lfsr : Option Nat := none
deriving DecidableEq, Repr

/-- One reference candidate (10_kiln_timebase R477 to R485): whether what it is measured by is there (a solution, a
pulse train, a clock, a client, the holder's cells), when it became available, whether it is qualified, the last
accepted pulse, rejections in a row, a bad FREQ_IN, and the last measurement's bound, in ns, and time. -/
structure RefS where
  there : Bool := false
  since : Option Nat := none
  qual : Bool := false
  pulse : Option Nat := none
  bad : Nat := 0
  freqBad : Bool := false
  teb : Nat := 0
  meas : Option Nat := none
  delta : Int := 0
deriving DecidableEq, Repr

/-- One TIME_OUT output (R515 to R519): when its program took effect, the last leading edge, the end of the pulse in
progress (all in fine units), and whether a once-pulse has fired or was skipped by a step. -/
structure ToutS where
  since : Nat := 0
  last : Option Nat := none
  high : Option Nat := none
  fired : Bool := false
  skipped : Bool := false
deriving DecidableEq, Repr

/-- Kiln beside its registers: the candidates, the absorbed offset A in ticks as it stood at `aAt` (R490, R491), whether the selected
candidate has been measured, the TEB just before the state was entered (none: saturated) with the time and temperature of entry and the
integral of |T - T_h| in 0.01 degC ticks up to `thetaAt` (R510), a TEB term of R512, the sensor's last answer and whether it is lost, the
last DAC write, a step that waits (R492), a time set that waits: the reference's time and `up` then (R494), since when START_WAIT runs
(R527), LOCKED operation so far (R502), the Ledger's model, time and whether it holds a cellar configuration, cellar operation without one
(R52), event queues (R473), TIME_OUT programs, running clocks and from when a started clock may run (R523), UTC values by source (R525),
the last Kiln second handled, the glitches of the last millisecond (R507), and whether XO_IN is absent, since when it runs again, and
whether the core PLLs take their reference from the Kiln clock (19_electrical_package R844, R845, R847). -/
structure KilnS where
  refs : List (Nat × RefS) := []
  a0 : Int := 0
  aAt : Nat := 0
  measured : Bool := false
  tebH : Option Nat := none
  enterAt : Nat := 0
  tempH : Int := 0
  theta : Nat := 0
  thetaAt : Nat := 0
  extra : Nat := 0
  tempAt : Nat := 0
  dacAt : Option Nat := none
  tempLost : Bool := false
  stepAt : Option Nat := none
  stepBy : Int := 0
  setRef : Option (Nat × Nat) := none
  waitFrom : Option Nat := none
  locked : Nat := 0
  model : List Nat := []
  ledgerTime : Nat := 0
  cellarCfg : Option (List (Nat × Nat)) := none
  bare : Bool := false
  evq : List (Nat × List (Bool × Nat)) := []
  tout : List (Nat × ToutS) := []
  clkRun : List (Nat × Bool) := []
  clkFrom : List (Nat × Nat) := []
  utcHost : Option Nat := none
  utcPtp : Option Nat := none
  utcGnss : Option Nat := none
  utcImage : Nat := 0
  second : Nat := 0
  glitches : List Nat := []
  xoLost : Bool := false
  xoFrom : Option Nat := none
  pllKiln : Bool := false
deriving DecidableEq, Repr

/-- The GNSS baseband beside its registers (11_gnss_baseband): a self-test in hand; ephemeris (key signal * 64 + PRN) with
its Kiln time, the almanac's time, the GPS week and the image's build week (R545); when each channel entered its state and
gained carrier lock, channels whose next record carries SLIP, channels with bit synchronisation and the coherent integration
of each channel in lock, of its data and of its pilot component in ms (R548); consecutive self-test failures and bank sections
out of use (R573); signals that the bank
searches and whether it swept GPS without a find (R552, R554); record number and epoch; the last solution's second and
offset in 2^-8 ns; runs of check 1 and of trust; a position write that waits (R563); the surveyed position (x, y, z, unc)
and survey seconds; baselines of noise by input and of biases by constellation with the trusted seconds behind them (R568);
bursts without a solution, the last refresh and the end of navigation decoding in cellar mode (R570, R571). -/
structure GnssS where
  testing : Bool := false
  eph : List (Nat × Nat) := []
  alm : Option Nat := none
  week : Option Nat := none
  buildWeek : Nat := 0
  since : List (Nat × Nat) := []
  lock : List (Nat × Nat) := []
  slip : List Nat := []
  sync : List Nat := []
  coh : List (Nat × (Nat × Nat)) := []
  tests : List (Nat × Nat) := []
  bankOut : List Nat := []
  bank : List Nat := []
  swept : Bool := false
  seq : Nat := 0
  epoch : Option Nat := none
  second : Option Nat := none
  delta : Option Int := none
  cn0Run : Nat := 0
  trustRun : Nat := 0
  posDirty : Bool := false
  surveyed : Option (List Nat) := none
  surveyN : Nat := 0
  noise : List (Nat × (Int × Int)) := []
  isb : List (Nat × Int) := []
  svc : Nat := 0
  isbN : Nat := 0
  noSol : Nat := 0
  refreshAt : Nat := 0
  navUntil : Nat := 0
deriving DecidableEq, Repr

/-- A key of the time service (12_time R596, R598, R610, R611): keyID, key, TX_NEXT, RX_NEXT, and whether it is
exhausted. -/
structure TKey where
  id : Nat := 0
  key : Nat := 0
  tx : Nat := 0
  rx : Nat := 0
  spent : Bool := false
deriving DecidableEq, Repr

/-- A grant (R596): logInterval, GRANTED, next sequenceId, duration in s, expiry and next due time as Kiln counts. -/
structure Grant where
  log : Int := 0
  on : Bool := false
  seq : Nat := 0
  dur : Nat := 0
  expiry : Nat := 0
  due : Nat := 0
deriving DecidableEq, Repr

/-- A session entry (R596); `tag` is the number that its 56 bytes spell. -/
structure TEntry where
  valid : Bool := false
  bind : Bool := false
  txB : Bool := false
  port : Nat := 0
  domain : Nat := 0
  auth : Bool := false
  portId : Nat := 0
  udp : Nat := 0
  ip : Nat := 0
  mac : Nat := 0
  a : TKey := {}
  b : TKey := {}
  ann : Grant := {}
  syn : Grant := {}
  dr : Grant := {}
  authFail : Nat := 0
  replay : Nat := 0
  denied : Nat := 0
  tag : Nat := 0
deriving DecidableEq, Repr

/-- A foreign master (R611, R615): its portIdentity, its last Announce with its logInterval, when it came, RX_NEXT. -/
structure Foreign where
  id : Nat
  data : AnnData
  log : Int
  at_ : Nat
  rx : Nat
deriving DecidableEq, Repr

/-- A client port (R615 to R617): the master it follows, its foreign masters, a Sync that awaits its Follow_Up (sequenceId,
t2, correction), the last Sync with its t1 and t2 in ticks and the upstream TEB in ns, the Delay_Req sent last (sequenceId,
t3), the next sequenceId, the interval, when a Delay_Req was sent last, the last 16 path delays doubled, completed exchanges
in a row, and when the last was completed or the master chosen. -/
structure ClientS where
  best : Option Nat := none
  foreign : List Foreign := []
  sync : Option (Nat × Int × Int) := none
  cur : Option (Int × Int × Option Nat) := none
  req : Option (Nat × Int) := none
  reqSeq : Nat := 0
  reqLog : Int := -3
  reqAt : Option Nat := none
  delays : List Int := []
  good : Nat := 0
  doneAt : Nat := 0
deriving DecidableEq, Repr

/-- A PTP port: the sequenceIds of its multicast messages and when each was sent last; its client; its TX timestamp queue
(identifier, DROPPED, time) (R584, R616, R627). -/
structure TPortS where
  syncSeq : Nat := 0
  annSeq : Nat := 0
  metaSeq : Nat := 0
  syncAt : Option Nat := none
  annAt : Option Nat := none
  metaAt : Option Nat := none
  client : ClientS := {}
  txts : List (Nat × Bool × Nat) := []
deriving DecidableEq, Repr

/-- A frame that waits to be sent by injection (R626). -/
structure InjectS where
  port : Nat
  queue : Nat
  len : Nat
  ts : Bool
  id : Nat
  addr : Nat
deriving DecidableEq, Repr

/-- The time service beside its registers (12_time_service): the session table, group keys and NTS master keys, ports,
Syncs that await their Follow_Up (key: the port for multicast, 32 + the entry for a session; sequenceId, departure in
ticks, TEB at departure), the frame to inject, and the packets outside the grants in the present second. -/
structure TsvcS where
  sess : List (Nat × TEntry) := []
  group : List (Nat × TKey) := []
  nts : List (Nat × Nat) := []
  port : List (Nat × TPortS) := []
  sent : List (Nat × (Nat × Nat × Nat)) := []
  inj : Option InjectS := none
  sec : Nat := 0
  load : Nat := 0
deriving DecidableEq, Repr

/-- What a Hopper channel does (16_internal_engines R759 to R767): rests, fetches a descriptor, moves data, or writes its
descriptor back. -/
inductive HopPhase where
  | rest | fetch | run | back
deriving DecidableEq, Repr

/-- One Hopper channel beside its registers (R757 to R767): the descriptor as it was fetched; the read beats returned with
the bytes they brought (by byte of the transfer), the write beats issued and those that responded OK, the retries by beat
(read beats from 0, write beats from 2^32); the first byte of the lowest beat that failed with its cause; the cause of a
stop that waits; the bytes fed to a check unit; and the state, cause and COUNT that the write-back in hand carries. -/
structure HopCh where
  phase : HopPhase := .rest
  ctl : Nat := 0
  count : Nat := 0
  src : Nat := 0
  dst : Nat := 0
  next : Nat := 0
  got : List Nat := []
  data : List (Nat × Byte) := []
  issued : Nat := 0
  ok : List Nat := []
  tries : List (Nat × Nat) := []
  fail : Option (Nat × Nat) := none
  stop : Option Nat := none
  fed : Nat := 0
  cause : Nat := 0
  resid : Nat := 0
deriving DecidableEq, Repr

/-- A relay that the device sends on a link (17_startup_update R813): the offset that the last ACK named, the next byte to
send, when a message last came. -/
structure RelayTx where
  acked : Nat := 0
  sent : Nat := 0
  at_ : Nat := 0
deriving DecidableEq, Repr

/-- A relay that the device receives (R814 to R816): link, hops, identifier, length, bytes stored, the offset of the last
ACK, when a message last came. -/
structure RelayRx where
  link : Nat
  hops : Nat
  id : Nat
  len : Nat
  stored : Nat := 0
  acked : Nat := 0
  at_ : Nat
deriving DecidableEq, Repr

/-- Start-up and update beside the registers (17_startup_update): the state record as it was loaded or last updated; the headers of the
images of ACTIVE, STAGING and FACTORY as they were last verified; the running image's header; what stage 4 applies of the image that
stage 3 verified; the bytes of STATE_A and STATE_B (R785); when stage 1 and the stage in hand began; FACTORY_N, and
whether stage 3 has turned to FACTORY; whether RESET_N, and whether CELLAR_N, is asserted, and how CELLAR was entered; the
writer of STAGING, its bytes written, the verification in hand (after IMAGE_END with ACTIVATE, or of a relayed image);
relays received and sent; whether FS_384 or FS_417 was raised since the start, and since
when SELF_OK may have held; the owner fuses (slot to digest and revoke bit); the condition faults of the keep-alive island that
are evaluated again at start-up (R693); a restart that follows the answer to the request in hand. -/
structure BootS where
  rec_ : StateRec := {}
  active : ImgHdr := {}
  staging : ImgHdr := {}
  factory : ImgHdr := {}
  run : ImgHdr := {}
  img : ImgCfg := {}
  recA : List Byte := []
  recB : List Byte := []
  startAt : Nat := 0
  stageAt : Nat := 0
  useFactory : Bool := false
  resetPin : Bool := false
  cellarByPin : Bool := false
  writer : Option Nat := none
  written : Nat := 0
  activate : Bool := false
  rx : Option RelayRx := none
  tx : List (Nat × RelayTx) := []
  bad : Bool := false
  selfAt : Nat := 0
  fuses : List (Nat × (Option Nat × Bool)) := []
  conds : List Nat := []
  due : Bool := false
deriving DecidableEq, Repr

/-- Power and the UART (19_electrical_package): the UART's FIFOs, oldest first, when the byte in front began to be sent,
whether received bytes were lost since the last read, and whether TEMP_PEAK has been read since the last sample. -/
structure PwrS where
  tx : List Byte := []
  txAt : Nat := 0
  rx : List Byte := []
  lost : Bool := false
  peakFresh : Bool := true
deriving DecidableEq, Repr

/-- An upper word that a read of its lower word latched (00_scope R16). -/
structure Latch where
  by_ : Master
  reg : Reg
  inst : Nat
  hi : Nat
deriving DecidableEq, Repr

/-- Why the block stops with a fault. -/
inductive Fault where
  /-- Reserved for a command whose operand no carrier can hold. No meaning of this model raises it: every command ends in a
  next state. Safe. -/
  | illFormed (command : String)
deriving DecidableEq, Repr

/-- Why the block refuses a command. -/
inductive Refusal where
  /-- The command has no meaning in this model. Only an arm of the dispatch could raise it, and none does. Safe. -/
  | notModelled (mnemonic : String)
deriving DecidableEq, Repr

/-- The state of the block. `pending` is the queue of waiting commands. `iso` says that every island outside the keep-alive island is
isolated or held in reset, `por` that the keep-alive island is held in power-on reset. `out` is what the last command made the device
send. `now` is Kiln's counter and `up` the time since the keep-alive island left power-on reset, both in 2^-16 ns. `rv` holds every
register field (key: the field's key + 1024 * instance), `staged` the direct writes of S fields that wait for a boundary, `held` the lower
words of 64-bit pairs, `bound` the layers that are bound to their surfaces (R873), `latch` the upper words latched by reads of lower
words, `parked` the L fields written while their island's clock was absent (R43), `mirror` what the status and counters of an island
showed when its clock went (island; place of the field, value) (R43), `cs` the change sets, `freeCtr` the model's own counter behind the
free values. -/
structure State where
  pending : List Instr := []
  iso : Bool := false
  por : Bool := false
  out : List Output := []
  now : Nat := 0
  up : Nat := 0
  freeCtr : Nat := 0
  rv : List (Nat × Nat) := []
  staged : List Staged := []
  ord : Nat := 0
  held : List Held := []
  cs : List (Nat × ChangeSet) := []
  mem : List Host.Cell := []
  flt : FltS := {}
  bnd : List (Nat × BndS) := []
  txb : List (Nat × TxS) := []
  cell : CellS := {}
  src : List (Nat × SrcS) := []
  dst : List (Nat × DstS) := []
  cask : CaskS := {}
  head : List (Nat × HeadS) := []
  bound : List Nat := []
  mntl : MntlS := {}
  mash : MashS := {}
  aprt : List (Nat × PortS) := []
  eth : EthS := {}
  kiln : KilnS := {}
  gnss : GnssS := {}
  tsvc : TsvcS := {}
  hcp : HcpS := {}
  hop : List (Nat × HopCh) := []
  boot : BootS := {}
  pwr : PwrS := {}
  latch : List Latch := []
  parked : List CsItem := []
  mirror : List (Nat × List (Nat × Nat)) := []
  egr : List (Nat × List TxItem) := []
deriving DecidableEq, Repr

/-- The machine right after reset: a new part, at the end of its first power-up, with RESET_N just deasserted (17_startup R792,
R795; 18_address_map R825, R826). Every register has its reset value, but for the stage, 1, and the count of this start. -/
def State.reset : State := { rv := [(Fld.BOOT_STAT_STAGE.key, 1), (Fld.BOOT_START_COUNT_COUNT.key, 1)] }

/-- What a meaning answers. -/
abbrev Res := Host.Outcome State Fault Refusal

end Sys2Proof.Machine
end

