-- ==== Sys2Proof/Machine/Ops.lean ====
section
/-! DEFINITION. The operations that every meaning shares: reading and writing register fields, time, free values,
events, slots and their bundles, and what stands and is fenced. -/

set_option autoImplicit false

namespace Sys2Proof.Machine

/-! Updates of the state, one part at a time. -/

def State.onFlt (s : State) (f : FltS → FltS) : State := { s with flt := f s.flt }
def State.onCell (s : State) (f : CellS → CellS) : State := { s with cell := f s.cell }
def State.onCask (s : State) (f : CaskS → CaskS) : State := { s with cask := f s.cask }
def State.onMntl (s : State) (f : MntlS → MntlS) : State := { s with mntl := f s.mntl }
def State.onMash (s : State) (f : MashS → MashS) : State := { s with mash := f s.mash }
def State.onEth (s : State) (f : EthS → EthS) : State := { s with eth := f s.eth }
def State.onKiln (s : State) (f : KilnS → KilnS) : State := { s with kiln := f s.kiln }
def State.onGnss (s : State) (f : GnssS → GnssS) : State := { s with gnss := f s.gnss }
def State.onTsvc (s : State) (f : TsvcS → TsvcS) : State := { s with tsvc := f s.tsvc }
def State.onHcp (s : State) (f : HcpS → HcpS) : State := { s with hcp := f s.hcp }
def State.onBoot (s : State) (f : BootS → BootS) : State := { s with boot := f s.boot }
def State.onPwr (s : State) (f : PwrS → PwrS) : State := { s with pwr := f s.pwr }
def State.setStaged (s : State) (x : List Staged) : State := { s with staged := x }
def State.setOrd (s : State) (x : Nat) : State := { s with ord := x }
def State.setHeld (s : State) (x : List Held) : State := { s with held := x }
def State.setLatch (s : State) (x : List Latch) : State := { s with latch := x }
def State.setParked (s : State) (x : List CsItem) : State := { s with parked := x }
def State.setMirror (s : State) (x : List (Nat × List (Nat × Nat))) : State := { s with mirror := x }
def State.setBound (s : State) (x : List Nat) : State := { s with bound := x }
def State.setNow (s : State) (x : Nat) : State := { s with now := x }
def State.setIso (s : State) (x : Bool) : State := { s with iso := x }
def State.setMem (s : State) (x : List Host.Cell) : State := { s with mem := x }
def State.setRv (s : State) (x : List (Nat × Nat)) : State := { s with rv := x }
def State.setOut (s : State) (x : List Output) : State := { s with out := x }
/-- The model's own counter moves on. -/
def State.countFree (s : State) : State := { s with freeCtr := s.freeCtr + 1 }

/-! Register fields. -/

/-- Place of a field's instance in the field store. -/
def Field.at (f : Field) (i : Nat) : Nat := f.key + 1024 * i

/-- A field's value in force (00_scope R5, R12). -/
def State.rd (s : State) (f : Field) (i : Nat) : Nat := tget f.init s.rv (f.at i)

/-- Whether a one-bit field is 1. -/
def State.on (s : State) (f : Field) (i : Nat) : Bool := s.rd f i == 1

/-- Give a field a value; bits beyond its width are dropped. -/
def State.wr (s : State) (f : Field) (i v : Nat) : State :=
  { s with rv := tput f.init s.rv (f.at i) (v % 2 ^ f.width) }

/-- Set or clear a one-bit field. -/
def State.flag (s : State) (f : Field) (i : Nat) (b : Bool) : State := s.wr f i (b2n b)

/-- Count, saturating at the field's greatest value (R118, R169 and the other counter rules). -/
def State.bump (s : State) (f : Field) (i n : Nat) : State :=
  s.wr f i (satTo (2 ^ f.width - 1) (s.rd f i + n))

/-- Run a list of instances through an update. -/
def State.each (s : State) (is : List Nat) (f : State → Nat → State) : State := is.foldl f s

/-! Records of instances. -/

def State.srcOf (s : State) (k : Nat) : SrcS := tget {} s.src k
def State.putSrc (s : State) (k : Nat) (r : SrcS) : State := { s with src := tput {} s.src k r }
def State.dstOf (s : State) (d : Nat) : DstS := tget {} s.dst d
def State.putDst (s : State) (d : Nat) (r : DstS) : State := { s with dst := tput {} s.dst d r }
def State.bndOf (s : State) (b : Nat) : BndS := tget {} s.bnd b
def State.putBnd (s : State) (b : Nat) (r : BndS) : State := { s with bnd := tput {} s.bnd b r }
def State.txOf (s : State) (b : Nat) : TxS := tget {} s.txb b
def State.putTxb (s : State) (b : Nat) (r : TxS) : State := { s with txb := tput {} s.txb b r }
def State.csOf (s : State) (n : Nat) : ChangeSet := tget {} s.cs n
def State.putCs (s : State) (n : Nat) (c : ChangeSet) : State := { s with cs := tput {} s.cs n c }
def State.surfOf (s : State) (h : Nat) : Surf := tget {} s.cask.surf h
def State.putSurf (s : State) (h : Nat) (r : Surf) : State :=
  s.onCask fun z => { z with surf := tput {} s.cask.surf h r }
def State.sessOf (s : State) (k : Nat) : Session := tget {} s.hcp.sess k
def State.putSess (s : State) (k : Nat) (r : Session) : State :=
  s.onHcp fun z => { z with sess := tput {} s.hcp.sess k r }

def State.headOf (s : State) (h : Nat) : HeadS := tget {} s.head h
def State.putHead (s : State) (h : Nat) (r : HeadS) : State := { s with head := tput {} s.head h r }

/-! Time (10_kiln R464 to R467) and outputs. -/

/-- The Kiln count: seconds * 10^9 + nanoseconds, modulo 2^64 (R467). -/
def State.count (s : State) : Nat := s.now / 65536 % 2 ^ 64

/-- Whole Kiln seconds. -/
def State.second (s : State) : Nat := s.now / sec 1

/-- A time in the 12-byte format of R149: 48-bit seconds, 32-bit nanoseconds, 16-bit fraction. -/
def kilnBytes (t : Nat) : List Byte :=
  beBytes 6 (t / sec 1) ++ beBytes 4 (t % sec 1 / 65536) ++ beBytes 2 (t % 65536)

/-- The ticks that 12 bytes of R149 spell. -/
def kilnOf (bs : List Byte) (off : Nat) : Nat :=
  sec (beAt bs off 6) + ns (beAt bs (off + 6) 4) + beAt bs (off + 10) 2

/-- Whether `t` (a 64-bit Kiln count) has been reached: (int64)(count - t) is not negative (R469). -/
def reached (count t : Nat) : Bool := (count + 2 ^ 64 - t % 2 ^ 64) % 2 ^ 64 < 2 ^ 63

/-- Send or drive one output. -/
def State.emit (s : State) (o : Output) : State := s.setOut (s.out ++ [o])

/-- The start of every command: `dt` has passed. Kiln's counter stands still in WAIT (R465). -/
def State.start (s : State) (dt : Nat) : State :=
  { s with out := [], up := s.up + dt, now := if s.rd Fld.KILN_STAT_STATE 0 = 0 then s.now else s.now + dt }

/-- A command of the keep-alive island: without effect while it is held in power-on reset. -/
def onKeep (dt : Nat) (s : State) (f : State → State) : Res :=
  .next (if s.por then s.start dt else f (s.start dt))

/-- A fresh free value with a tag (log entry 5, DESIGN CHOICE). -/
def State.fresh (s : State) (tag : Nat) : Nat × State :=
  (Config.free tag s.freeCtr, s.countFree)

/-! Memory of the Hopper address spaces (16_internal_engines R757): one byte for each 64-bit address; a byte that
nothing has written reads 0 (R296; log entry 6, DESIGN CHOICE). -/

/-- The address of a byte of a surface: space 2. -/
def surfAddr (h off : Nat) : Nat := 2 * 2 ^ 62 + h * 2 ^ 32 + off

/-- The address of a byte of Cask: space 1. -/
def caskAddr (a : Nat) : Nat := 2 ^ 62 + a

/-- Read one byte. -/
def State.byteAt (s : State) (a : Nat) : Byte := tget 0 s.mem a

/-- Read consecutive bytes. -/
def State.bytesAt (s : State) (a n : Nat) : List Byte := (List.range n).map fun i => s.byteAt (a + i)

/-- Write consecutive bytes. -/
def State.putBytes (s : State) (a : Nat) (bs : List Byte) : State :=
  s.setMem (tputs 0 s.mem (bs.zipIdx.map fun p => (a + p.2, p.1)))

/-- Bytes `a` to `a + n - 1` become 0. -/
def State.clearBytes (s : State) (a n : Nat) : State :=
  s.setMem (s.mem.filter fun p => p.1 < a || a + n ≤ p.1)

/-! The CRC of cells, records and log entries (03_cells_slots R130), and the state record. -/

/-- One bit of the reflected CRC-32 of R130. -/
def crcStep (c : Nat) : Nat → Nat
  | 0 => c
  | n + 1 => crcStep (if c % 2 = 1 then (c / 2) ^^^ 0xEDB88320 else c / 2) n

/-- CRC-32 of R130 over bytes. -/
def crc32 (bs : List Byte) : Nat :=
  (bs.foldl (fun c b => crcStep (c ^^^ b.toNat) 8) 0xFFFFFFFF) ^^^ 0xFFFFFFFF

/-- The 64 bytes of the state record (17_startup_update R785). -/
def State.recBytes (s : State) (r : StateRec) : List Byte :=
  let stg := s.rd Fld.BOOT_STG_STAT_STATE 0
  let b := beBytes 4 r.seq ++ beBytes 1 stg
    ++ beBytes 1 (b2n (decide (stg = 5)) + b2n r.swapping * 2 + b2n r.fallback * 4 + b2n r.trial * 8)
    ++ beBytes 1 (s.rd Fld.BOOT_TRIAL_STARTS 0) ++ beBytes 1 0 ++ beBytes 4 r.step ++ beBytes 4 r.len
    ++ beBytes 16 s.boot.active.id ++ beBytes 16 s.boot.staging.id ++ beBytes 12 0
  b ++ beBytes 4 (crc32 b)

/-- The sequence number of a copy of the state record whose CRC passes. -/
def recSeq (c : List Byte) : Option Nat := if c.length = 64 ∧ crc32 (c.take 60) = beAt c 60 4 then some (beAt c 0 4) else none

/-- Whether STATE_A is the copy in use: its CRC passes, and its number is the newer by signed 32-bit difference (R785). -/
def State.recAUsed (s : State) : Bool :=
  match recSeq s.boot.recA, recSeq s.boot.recB with
  | some a, some b => decide (0 < sval 32 (a + 2 ^ 32 - b))
  | some _, none => true
  | none, _ => false

/-- Update the state record: the older copy is written, with the other's number and 1 (17_startup_update R785). -/
def State.onRec (s : State) (f : StateRec → StateRec) : State :=
  let r := { f s.boot.rec_ with seq := (s.boot.rec_.seq + 1) % 2 ^ 32 }
  let b := s.recBytes r
  if s.recAUsed then s.onBoot fun z => { z with rec_ := r, recB := b } else s.onBoot fun z => { z with rec_ := r, recA := b }

/-! What Ledger keeps (10_kiln R501 to R503; 01_architecture R51). -/

/-- Whether a block's registers keep their values through RESET_N (R825). -/
def keepBlock : Block → Bool
  | .kiln | .gnss | .pwr => true
  | _ => false

/-- Whether RESET_N leaves a register array unchanged: those of KILN and GNSS, and of PWR but for the UART's (R825, R866). -/
def Reg.keepAlive (r : Reg) : Bool :=
  match r with
  | .PWR_UART_CTL | .PWR_UART_TX | .PWR_UART_RX => false
  | r => r.block.any keepBlock

/-- The fields of the model that Ledger holds (R501, R502). -/
def modelFields : List Field :=
  [Fld.KILN_MODEL_Y0_VALUE, Fld.KILN_MODEL_AGING_VALUE, Fld.KILN_MODEL_TC_VALUE, Fld.KILN_MODEL_UY_VALUE,
   Fld.KILN_MODEL_UD_VALUE, Fld.KILN_MODEL_UC_VALUE, Fld.KILN_STAT_MODEL_VALID]

/-- Write the model, and the time with it, to Ledger (R503; log entry 33, DEDUCED). -/
def State.saveModel (s : State) : State :=
  let s := s.onKiln fun k => { k with model := modelFields.map fun f => s.rd f 0 }
  if s.on Fld.KILN_STAT_TIME_VALID 0 then s.onKiln fun k => { k with ledgerTime := s.now } else s

/-- The image fields of keep-alive registers, which the cellar configuration holds (R51; log entry 62, DEDUCED). -/
def State.cellarFields (s : State) : List (Nat × Nat) :=
  s.rv.filter fun p => Reg.all.any fun r => r.keepAlive && r.fields.any fun f => f.key == p.1 % 1024 && f.form == .image

/-- The cellar configuration and the model are written to Ledger (R49, R51). -/
def State.saveCellar (s : State) : State :=
  s.saveModel.onKiln fun k => { k with cellarCfg := some s.cellarFields }

/-! Modes (01_architecture R45). -/

def State.mode (s : State) : Mode := Mode.ofCode (s.rd Fld.CTRL_DEV_STATE_MODE 0)
/-- A standing condition of the unit's health changes now (13_mantle_twin R661, R666), and with it what SELF_OK of a trial
image may rest on (17_startup_update R806). -/
def State.sick (s : State) : State :=
  (s.onMntl fun z => { z with sickAt := s.up }).onBoot fun z => { z with selfAt := s.up }
/-- Enter a mode. A step that waits is cancelled when the device leaves START_UP, and its offset is slewed from then
on (10_kiln R495). Every entry into SERVICE writes the cellar configuration (R51). -/
def State.setMode (s : State) (m : Mode) : State :=
  let live := fun (x : Mode) => x == .service || x == .degraded
  let s := if s.mode = m then s else if live s.mode && live m then (s.onMntl fun z => { z with sickAt := s.up }) else s.sick
  let s := if m = .service ∧ s.mode ≠ .service then s.saveCellar else s
  let s := s.wr Fld.CTRL_DEV_STATE_MODE 0 m.code
  if m ≠ .startUp ∧ s.kiln.stepAt.isSome then
    let k := { s.kiln with stepAt := none, aAt := s.now }
    (s.onKiln fun _ => k).flag Fld.KILN_STAT_STEP_PENDING 0 false
  else s
def State.role (s : State) : Role := Role.ofCode (s.rd Fld.MNTL_STAT_ROLE 0)
def State.setRole (s : State) (r : Role) : State := s.wr Fld.MNTL_STAT_ROLE 0 r.code
/-- The epoch of the mantle, MNTL.STAT.EPOCH. -/
def State.epoch (s : State) : Nat := s.rd Fld.MNTL_STAT_EPOCH 0

/-! Frames of the Ethernet ports. -/

/-- Count on a 64-bit port counter, which wraps (04_ethernet R216). -/
def State.cnt64 (s : State) (f : Field) (p n : Nat) : State := s.wr f p (s.rd f p + n)

/-- Bit `q` of HELD (R179). -/
def State.queueHeld (s : State) (p q : Nat) : Bool := bitOf (s.rd Fld.ETH_PORT_STAT_HELD p) q

/-- The frames that wait in a port's queues, in the order they came. -/
def State.egress (s : State) (p : Nat) : List TxItem := tget [] s.egr p
def State.putEgress (s : State) (p : Nat) (l : List TxItem) : State := { s with egr := tput [] s.egr p l }

/-- The PCP of a frame (R209): its flow's, or its queue's (log entry 146, DESIGN CHOICE). -/
def State.txPcp (s : State) (p : Nat) (x : TxItem) : Option Nat :=
  match x.out, x.flow, x.queue with
  | .injected .., _, _ => none
  | _, some f, _ => some (s.rd Fld.ETH_FLOW_HDR_PCP f)
  | _, none, 0 => some (s.rd Fld.ETH_QUEUE_PCP_Q0 p)
  | _, none, 2 => some (s.rd Fld.ETH_QUEUE_PCP_Q2 p)
  | _, none, _ => some (s.rd Fld.ETH_QUEUE_PCP_Q3 p)

/-- What a frame is when it leaves now. -/
def State.txOut (s : State) (x : TxItem) : Output :=
  match x.out with
  | .media _ f u => .media (x.due - s.up) f u
  | o => o

/-- A frame leaves its port (R209, R215, R216). -/
def State.txLeave (s : State) (p : Nat) (x : TxItem) : State :=
  let s := (s.cnt64 Fld.ETH_CNT_TX_FRAMES_CNT p 1).cnt64 Fld.ETH_CNT_TX_OCTETS_CNT p x.len
  let s := match x.flow with
    | some f => s.bump Fld.ETH_FLOW_CNT_PKT f 1
    | none => s
  s.emit (.frame p x.queue (s.txPcp p x) (s.txOut x))

/-- Whether a port sends what it is given (R173). -/
def State.portSends (s : State) (p : Nat) : Bool :=
  s.on Fld.ETH_PORT_CTL_EN p && !s.on Fld.ETH_PORT_STAT_LOCAL_FAULT p && !s.on Fld.ETH_PORT_STAT_REMOTE_FAULT p
    && s.on Fld.ETH_PORT_STAT_LINK_UP p

/-- A frame for a port (R173, R179, R209): discarded and counted while the port has a fault; a port that is not up sends nothing; a held
queue keeps it, and any other sends it at once. -/
def State.txItem (s : State) (p : Nat) (x : TxItem) : State :=
  if !s.portSends p then
    if s.on Fld.ETH_PORT_CTL_EN p && (s.on Fld.ETH_PORT_STAT_LOCAL_FAULT p || s.on Fld.ETH_PORT_STAT_REMOTE_FAULT p) then
      s.cnt64 Fld.ETH_CNT_TX_DISC_CNT p 1
    else s
  else if s.queueHeld p x.queue then s.putEgress p (s.egress p ++ [x])
  else s.txLeave p x

/-- Send one frame that is no media (R209). -/
def State.txFrame (s : State) (p len : Nat) (o : Output) (mark : TxMark := .none) : State :=
  s.txItem p ⟨o.queue, max 64 len, none, mark, s.up, o⟩

/-! Events to sessions (15_hcp_control R745, R746). -/

/-- The body of an EVENT message (R745). -/
def eventBody (seq : Nat) (e : Ev) : List Byte :=
  beBytes 4 (Config.firstEvent + seq) ++ beBytes 2 e.code ++ kilnBytes e.time ++ beBytes 2 e.inst
    ++ beBytes 2 e.detail.length ++ e.detail

/-- Queue an event: a full queue loses it, and the next event queued is preceded by EVENT_LOST (R746). The answer
says whether it was lost. -/
def Session.enqueue (r : Session) (e : Ev) : Session × Bool :=
  let need := if r.lost = 0 then 1 else 2
  if r.queue.length + need > 64 then ({ r with lost := r.lost + 1 }, true)
  else
    let r1 := if r.lost = 0 then r else
      { r with lost := 0, evSeq := r.evSeq + 1,
               queue := r.queue ++ [{ seq := r.evSeq, ev := ⟨0, e.time, 0, beBytes 4 r.lost⟩, sentAt := none }] }
    ({ r1 with evSeq := r1.evSeq + 1, queue := r1.queue ++ [{ seq := r1.evSeq, ev := e, sentAt := none }] }, false)

/-- Send the events of a queue that may go: at most 8 sent and unacknowledged at once (R746), each with the
session's next device sequence number (R724). -/
def sendQueued (up : Nat) (r : Session) : Nat → List QEv → List QEv × Nat × List Output
  | _, [] => ([], r.devSeq, [])
  | n, q :: qs =>
    if n = 0 then (q :: qs, r.devSeq, [])
    else match q.sentAt with
      | some _ =>
        let rest := sendQueued up r (n - 1) qs
        (q :: rest.1, rest.2)
      | none =>
        let rest := sendQueued up { r with devSeq := r.devSeq + 1 } (n - 1) qs
        ({ q with sentAt := some up } :: rest.1, rest.2.1,
          .hcpEvent r.ctl1 r.src r.slot r.id r.devSeq (eventBody q.seq q.ev) :: rest.2.2)

/-- Send what session `k` may send now. -/
def State.flush (s : State) (k : Nat) : State :=
  let r := s.sessOf k
  let q := sendQueued s.up r 8 r.queue
  let s1 := s.putSess k { r with queue := q.1, devSeq := q.2.1 }
  q.2.2.foldl (fun s o => match o with
    | .hcpEvent c _ _ _ _ body => s.txFrame (16 + b2n c) (86 + body.length) o
    | o => s.emit o) s1

/-- Offer an event of a class to every session that subscribes to it. -/
def State.event (s : State) (cls code inst : Nat) (detail : List Byte) : State :=
  s.each (List.range 32) fun s k =>
    let r := s.sessOf k
    if r.active && bitOf r.subs cls then
      let q := r.enqueue ⟨code, s.now, inst, detail⟩
      let s1 := (s.putSess k q.1).flush k
      if q.2 then s1.bump Fld.HCP_CNT_EVT_LOST_CNT 0 1 else s1
    else s

/-! Slots and their bundles (03_cells_slots R127). -/

/-- The bundle and position of a bound lane source. -/
def State.srcLane (s : State) (k : Nat) : Option (Nat × Nat) :=
  if k < 1152 ∧ s.on Fld.CELL_SRC_BIND_EN k ∧ s.rd Fld.CELL_SRC_BIND_KIND k = 0 then
    some (bitsOf (s.rd Fld.CELL_SRC_BIND_RAW k) 8 6, bitsOf (s.rd Fld.CELL_SRC_BIND_RAW k) 0 6) else none

/-- The flow of a bound packet source. -/
def State.srcFlow (s : State) (k : Nat) : Option Nat :=
  if k < 1152 ∧ s.on Fld.CELL_SRC_BIND_EN k ∧ s.rd Fld.CELL_SRC_BIND_KIND k = 1 then
    some (bitsOf (s.rd Fld.CELL_SRC_BIND_RAW k) 0 12) else none

/-- The bundle and position of a bound lane destination. -/
def State.dstLane (s : State) (d : Nat) : Option (Nat × Nat) :=
  if s.on Fld.CELL_DST_BIND_EN d ∧ s.rd Fld.CELL_DST_BIND_KIND d = 0 then
    some (bitsOf (s.rd Fld.CELL_DST_BIND_RAW d) 8 6, bitsOf (s.rd Fld.CELL_DST_BIND_RAW d) 0 6) else none

/-- The flow of a bound packet destination. -/
def State.dstFlow (s : State) (d : Nat) : Option Nat :=
  if s.on Fld.CELL_DST_BIND_EN d ∧ s.rd Fld.CELL_DST_BIND_KIND d = 1 then
    some (bitsOf (s.rd Fld.CELL_DST_BIND_RAW d) 0 12) else none

/-- Source slots bound to a bundle. -/
def State.bundleSrcs (s : State) (b : Nat) : List Nat :=
  (List.range 1152).filter fun k => (s.srcLane k).any fun p => p.1 == b

/-- Destination slots bound to a bundle. -/
def State.bundleDsts (s : State) (b : Nat) : List Nat :=
  (List.range 1152).filter fun d => (s.dstLane d).any fun p => p.1 == b

/-! The fault collector (14_faults_hem). -/

/-- Whether a source is a condition source, and the kind of unit that raises it (R674); none for a reserved
number. -/
def faultInfo (fs : Nat) : Option (Bool × UKind) :=
  match fs with
  | 0 | 3 | 4 | 5 | 6 => some (false, .bundle)
  | 1 | 2 => some (true, .bundle)
  | 32 | 33 | 34 | 35 => some (false, .bundle)
  | 64 => some (true, .port)
  | 65 | 66 | 67 => some (false, .port)
  | 96 => some (false, .dst)
  | 97 | 98 => some (false, .none)
  | 99 => some (true, .none)
  | 128 | 129 => some (false, .none)
  | 130 | 131 | 132 => some (true, .none)
  | 160 | 161 | 162 => some (false, .head)
  | 192 | 194 | 195 => some (false, .none)
  | 193 | 196 => some (false, .bus)
  | 224 | 225 => some (true, .aport)
  | 226 => some (false, .aport)
  | 256 | 258 | 259 | 260 | 262 => some (true, .none)
  | 257 | 261 => some (false, .none)
  | 288 | 289 | 291 => some (true, .none)
  | 290 => some (false, .none)
  | 292 => some (false, .gnssCh)
  | 293 => some (true, .none)
  | 320 | 321 | 322 | 323 | 324 => some (false, .none)
  | 352 | 353 | 354 | 355 | 357 => some (false, .none)
  | 356 | 358 => some (true, .none)
  | 384 | 385 | 386 | 387 => some (false, .none)
  | 416 => some (false, .hopCh)
  | 417 => some (false, .none)
  | 448 | 449 | 450 => some (true, .none)
  | 451 => some (false, .none)
  | _ => none

/-- Key of a source's instance among those standing (R675). -/
def standKey (fs i : Nat) : Nat := fs * 8192 + i

/-- Whether an instance of a source stands. -/
def State.stands (s : State) (fs i : Nat) : Bool := tget 0 s.flt.stand (standKey fs i) != 0

/-- Whether any instance of a source stands (R675). -/
def State.fsStands (s : State) (fs : Nat) : Bool := s.flt.stand.any fun p => p.1 / 8192 == fs

/-- Whether a source raised with REPLACE 1 stands (R678, R692). -/
def State.replaceStands (s : State) : Bool := s.flt.stand.any fun p => p.2 == 2

/-- Key of a unit among those fenced. -/
def fenceKey (k : UKind) (i : Nat) : Nat := k.code * 8192 + i

/-- Whether a unit is fenced, for itself or through its bundle (R680). -/
def State.fenced (s : State) (k : UKind) (i : Nat) : Bool := tget 0 s.flt.fenced (fenceKey k i) != 0

/-- Whether any unit is fenced. -/
def State.anyFenced (s : State) : Bool := !s.flt.fenced.isEmpty

/-! Units and their stopped states (00_scope R867; 01_architecture R868). -/

/-- Whether the start-up sequence has reached stage 4 (R867). -/
def State.configured (s : State) : Bool := s.rd Fld.BOOT_STAT_STAGE 0 ≥ 4 || s.mode != .startUp

end Sys2Proof.Machine
end

