-- ==== Sys2Proof/Machine/LineCode.lean ====
section
/-! DEFINITION. From cells to line bits and back (02_izsar_lanes R59 to R68, R71, R74 to R76, R102, R109; 03_cells_slots R120 to
R122, R129 to R131, R161): the cell's header and CRC, chunks, data and control words, scrambler, stuffer, and the transmitter of a
bundle, through which everything that the device sends on it goes. -/

set_option autoImplicit false

namespace Sys2Proof.Machine

/-! Cells (R120 to R122, R131). -/

/-- The header of a cell (R121). -/
structure Hdr where
  type : Nat
  slot : Nat
  epoch : Nat
  holder : Bool
  seq : Nat
  line : Nat
  offset : Nat
  sof : Bool
  eol : Bool
  eof : Bool
  field : Bool
  nosig : Bool
  cont : Bool
  res25 : Bool
  valid : Nat
  fmt : Nat
  res : Nat
deriving DecidableEq, Repr

/-- Read a header from the 96-bit big-endian word of bytes 0 to 11 (R121). -/
def Hdr.ofBytes (c : List Byte) : Hdr :=
  let h := beAt c 0 12
  { type := bitsOf h 92 4, slot := bitsOf h 81 11, epoch := bitsOf h 73 8, holder := bitOf h 72,
    seq := bitsOf h 56 16, line := bitsOf h 44 12, offset := bitsOf h 32 12, sof := bitOf h 31, eol := bitOf h 30,
    eof := bitOf h 29, field := bitOf h 28, nosig := bitOf h 27, cont := bitOf h 26, res25 := bitOf h 25,
    valid := bitsOf h 16 9, fmt := bitsOf h 10 6, res := bitsOf h 0 10 }

/-- The 12 bytes of a header (R121). -/
def Hdr.bytes (h : Hdr) : List Byte :=
  beBytes 12 (h.type * 2 ^ 92 + h.slot * 2 ^ 81 + h.epoch * 2 ^ 73 + b2n h.holder * 2 ^ 72 + h.seq * 2 ^ 56
    + h.line * 2 ^ 44 + h.offset * 2 ^ 32 + b2n h.sof * 2 ^ 31 + b2n h.eol * 2 ^ 30 + b2n h.eof * 2 ^ 29
    + b2n h.field * 2 ^ 28 + b2n h.nosig * 2 ^ 27 + b2n h.cont * 2 ^ 26 + b2n h.res25 * 2 ^ 25 + h.valid * 2 ^ 16
    + h.fmt * 2 ^ 10 + h.res)

/-- The slot number of a link cell (R126). -/
def linkSlot : Nat := 2047

/-- The CRC of a cell under a slot and sequence prefix (R130, R131). -/
def cellCrc (slot seq : Nat) (body : List Byte) : Nat := crc32 (beBytes 2 slot ++ beBytes 2 seq ++ body)

/-- A whole cell: header, payload padded with zeros to 256 bytes, CRC (R120, R122, R130). -/
def cellOf (h : Hdr) (payload : List Byte) : List Byte :=
  let body := h.bytes ++ payload.take 256 ++ List.replicate (256 - payload.length) 0
  body ++ beBytes 4 (cellCrc h.slot h.seq body)

/-- The payload that a receiver reads: bytes beyond VALID are ignored, as zeros (R122). -/
def payloadOf (c : List Byte) : List Byte :=
  let v := (Hdr.ofBytes c).valid
  ((c.drop 12).take 256).take v ++ List.replicate (256 - v) 0

/-! Line coding. Bits are in transmission order, the most significant bit of each byte first (R61). -/

/-- The bits of bytes. -/
def lineBits (bs : List Byte) : List Bool := bs.flatMap fun b => (List.range 8).map fun i => b.getMsbD i

/-- The byte of the next eight bits. -/
def bitsByte (l : List Bool) : Byte := BitVec.ofNat 8 (l.foldl (fun n x => 2 * n + b2n x) 0)

/-- The first `n` bytes of a list of bits. -/
def lineBytes : Nat → List Bool → List Byte
  | 0, _ => []
  | n + 1, l => bitsByte (l.take 8) :: lineBytes n (l.drop 8)

/-- The scrambler: s(n) = d(n) xor s(n-39) xor s(n-58) (R61); `h` holds the last 58 scrambled bits, the newest in bit 0. -/
def scramble : Nat → List Bool → List Bool × Nat
  | h, [] => ([], h)
  | h, d :: ds =>
    let x := (d ^^ bitOf h 38) ^^ bitOf h 57
    let r := scramble ((2 * h + b2n x) % 2 ^ 58) ds
    (x :: r.1, r.2)

/-- The descrambler: d(n) = r(n) xor r(n-39) xor r(n-58) (R61). -/
def descramble : Nat → List Bool → List Bool × Nat
  | h, [] => ([], h)
  | h, x :: xs =>
    let r := descramble ((2 * h + b2n x) % 2 ^ 58) xs
    (((x ^^ bitOf h 38) ^^ bitOf h 57) :: r.1, r.2)

/-- The stuffer (R64): after `n` identical data bits, one bit of the opposite value. The count and the last bit that it is left
with follow the line bits. -/
def stuff (n : Nat) : Nat → Bool → List Bool → List Bool × (Nat × Bool)
  | c, last, [] => ([], (c, last))
  | c, last, b :: bs =>
    let c' := if 0 < c ∧ b = last then c + 1 else 1
    if c' = n then
      let r := stuff n 0 b bs
      (b :: (!b) :: r.1, r.2)
    else
      let r := stuff n c' b bs
      (b :: r.1, r.2)

/-- The destuffer (R65): the bits delivered and the stuff violations, with what it is left with: whether a stuff bit is
expected, the count, the last bit. -/
def destuff (n : Nat) : Bool → Nat → Bool → List Bool → (List Bool × Nat) × (Bool × Nat × Bool)
  | e, c, last, [] => (([], 0), (e, c, last))
  | true, _, last, x :: xs =>
    let r := destuff n false 0 last xs
    ((r.1.1, r.1.2 + b2n (x == last)), r.2)
  | false, c, last, x :: xs =>
    let c' := if 0 < c ∧ x = last then c + 1 else 1
    let r := destuff n (c' == n) c' x xs
    ((x :: r.1.1, r.1.2), r.2)

/-- A control word (R71). -/
def controlWord (b kind lane map b7 : Nat) : List Byte :=
  beBytes 4 0x9C4E63B1 ++ beBytes 1 b ++ beBytes 1 (kind * 16 + lane) ++ beBytes 1 map ++ beBytes 1 b7

/-- An exit burst (R90): alternating bits, the first a 1, and the delimiter 0b0000_1111. -/
def exitBurst (ui : Nat) : List Bool :=
  (List.range ui).map (fun i => i % 2 == 0) ++ [false, false, false, false, true, true, true, true]

/-! PRBS (R102). -/

/-- Degree and second tap of a polynomial: PRBS7, PRBS15, PRBS23, PRBS31. -/
def prbsTaps (poly : Nat) : Nat × Nat :=
  match poly with
  | 0 => (7, 6) | 1 => (15, 14) | 2 => (23, 18) | _ => (31, 28)

/-- The next bit after a history of bits, the newest in bit 0. -/
def prbsNext (poly h : Nat) : Bool := bitOf h ((prbsTaps poly).1 - 1) ^^ bitOf h ((prbsTaps poly).2 - 1)

/-- `n` bits of a pattern after a history, and the history after them. -/
def prbsBits (poly : Nat) : Nat → Nat → List Bool × Nat
  | h, 0 => ([], h)
  | h, n + 1 =>
    let x := prbsNext poly h
    let r := prbsBits poly ((2 * h + b2n x) % 2 ^ 31) n
    (x :: r.1, r.2)

/-- A checker takes one received bit (R103), whether it is locked: seeding itself from the received bits until 64 in a row are
correct, and from 64 errors within 1024 bits on again. The answer says whether it is locked now and whether this bit counts as an
error. -/
def PrbsS.bit (c : PrbsS) (poly : Nat) (locked x : Bool) : Bool × Bool × PrbsS :=
  let deg := (prbsTaps poly).1
  if c.have_ < deg then (false, false, { c with hist := (2 * c.hist + b2n x) % 2 ^ 31, have_ := c.have_ + 1, good := 0 })
  else
    let want := prbsNext poly c.hist
    let bad := x != want
    if locked then
      let errs := (if bad then [0] else []) ++ (c.errs.map (· + 1)).filter fun a => decide (a < 1024)
      if 64 ≤ errs.length then (false, true, { c with have_ := 0, good := 0, errs := [] })
      else (true, bad, { c with hist := (2 * c.hist + b2n want) % 2 ^ 31, errs := errs })
    else
      let good := if bad then 0 else c.good + 1
      (decide (64 ≤ good), false, { c with hist := (2 * c.hist + b2n x) % 2 ^ 31, good := good, errs := [] })

/-- A checker takes bits in order: whether it is locked after them, and the errors counted. -/
def PrbsS.bits (poly : Nat) : PrbsS → Bool → List Bool → Bool × Nat × PrbsS
  | c, locked, [] => (locked, 0, c)
  | c, locked, x :: xs =>
    let p := c.bit poly locked x
    let r := PrbsS.bits poly p.2.2 p.1 xs
    (r.1, r.2.1 + b2n p.2.1, r.2.2)

/-! A bundle and its lanes. -/

/-- Instance of a lane's register. -/
def laneIx (b l : Nat) : Nat := b * 8 + l

/-- The state of a bundle's receiver, LINK_STAT.STATE: 0 OFF, 1 CLOCK_WAIT, 2 ADAPT, 3 SEARCH, 4 DESKEW, 5 UP,
6 UP_7LANE, 7 DOWN. -/
def State.link (s : State) (b : Nat) : Nat := s.rd Fld.IZL_LINK_STAT_STATE b

/-- Whether a bundle delivers cells. -/
def State.linkUp (s : State) (b : Nat) : Bool := s.link b == 5 || s.link b == 6

/-- N of the stuffer and destuffer of a bundle (R66). -/
def State.stuffN (s : State) (b : Nat) : Nat := s.rd Fld.IZL_LINK_CTL_STUFF_N b

/-- POS35_OFF (R70): N lies from 24 to 35. -/
def State.pos35Off (s : State) (b : Nat) : Bool := decide (24 ≤ s.stuffN b ∧ s.stuffN b < 36)

/-- The transmit and receive state of a lane. -/
def TxS.lane (r : TxS) (l : Nat) : LaneTx := tget {} r.lanes l
def BndS.rxLane (r : BndS) (l : Nat) : LaneRx := tget {} r.rx l
def State.putTx (s : State) (b l : Nat) (x : LaneTx) : State :=
  let r := s.txOf b
  s.putTxb b { r with lanes := tput {} r.lanes l x }

/-- Data lanes that a transmit bundle uses (R107). -/
def State.txLanes (s : State) (b : Nat) : List Nat :=
  (List.range 8).filter fun l => !(s.on Fld.IZL_LINK_STAT_TX_7LANE b && s.rd Fld.IZL_LINK_STAT_TX_OMIT b == l)

/-- Cells between two alignment markers: 8704 data words of every lane (R72, R109). -/
def periodCells (lanes : Nat) : Nat := if lanes = 7 then 1792 else 2048

/-- The data bytes of a lane between two markers. -/
def periodBytes : Nat := 8 * 8704

/-- The least time of a marker period: 8705 words without stuffing, 9.904 us. -/
def markerPeriod : Nat := 8705 * 64 * 65536 * 4 / 225

/-! The transmitter. -/

/-- The scrambler and the stuffer of a lane pass bytes (R61, R62, R64): the line bits and the lane after them. -/
def LaneTx.send (r : LaneTx) (n : Nat) (data : List Byte) : List Bool × LaneTx :=
  let x := scramble r.hist (lineBits data)
  let y := stuff n r.run r.last x.1
  (y.1, { r with hist := x.2, run := y.2.1, last := y.2.2 })

/-- Send bytes on a lane. -/
def State.laneSend (s : State) (b l : Nat) (data : List Byte) : State :=
  let x := ((s.txOf b).lane l).send (s.stuffN b) data
  (s.putTx b l x.2).emit (.lineBits b l x.1)

/-- In the near-end loops what is sent also comes back (R99). -/
def State.looped (s : State) (b : Nat) : Bool :=
  s.rd Fld.IZL_LINK_CTL_MODE b == 1 || s.rd Fld.IZL_LINK_CTL_MODE b == 2

/-- Send a control word on a lane (R71). -/
def State.sendWord (s : State) (b l : Nat) (word : List Byte) : State :=
  let s := (s.emit (.laneWord b l word)).laneSend b l word
  if s.looped b then s.putTxb b { s.txOf b with loopWords := (s.txOf b).loopWords ++ [(l, word)] } else s

/-- Line time that a lane has to spare against the worst-case stuffing, in bits / N, after `bits` line bits for `words` words that
were offered at the worst-case capacity (R75). -/
def spareAfter (n spare words bits : Nat) : Nat := spare + 64 * (n + 1) * words - n * bits

/-- A data word goes out on a lane; when by then a whole word of line time is spare, the lane's queue has run empty, and it sends a
fill word (R75, R76; log entry 127, DESIGN CHOICE). -/
def State.dataWord (s : State) (b l : Nat) (word : List Byte) : State :=
  let n := s.stuffN b
  let r := (s.txOf b).lane l
  let x := r.send n word
  let spare := spareAfter n r.spare 1 x.1.length
  let s := (s.putTx b l { x.2 with spare := spare }).emit (.lineBits b l x.1)
  if n = 0 ∨ spare < 64 * (n + 1) then s
  else
    let s := s.sendWord b l (controlWord b 3 l 0 0)
    let r := (s.txOf b).lane l
    s.putTx b l { r with spare := spare - 64 * (n + 1) }

/-- The whole words of a lane's queue go out. -/
def State.drainLane (s : State) (b l : Nat) : Nat → State
  | 0 => s
  | k + 1 =>
    let r := (s.txOf b).lane l
    if r.queue.length < 8 then s
    else ((s.putTx b l { r with queue := r.queue.drop 8 }).dataWord b l (r.queue.take 8)).drainLane b l k

/-- The lane of chunk `k` of cell `c` after a marker (R60, R109). -/
def laneOfChunk (lanes : List Nat) (c k : Nat) : Nat := lanes.getD ((8 * c + k) % lanes.length) 0

/-- Put a cell on the lanes of a bundle: bytes 34k to 34k + 33 are chunk k (R60, R109). `after` is when it leaves, after the
command's instant (R139). -/
def State.rawCell (s : State) (b after : Nat) (cell : List Byte) : State :=
  let lanes := s.txLanes b
  let c := (s.txOf b).cells
  let s := s.emit (.cell b after cell)
  let s := s.putTxb b { s.txOf b with cells := c + 1 }
  let s := if s.looped b then s.putTxb b { s.txOf b with loop := (s.txOf b).loop ++ [cell] } else s
  s.each (List.range 8) fun s k =>
    let l := laneOfChunk lanes c k
    let r := (s.txOf b).lane l
    (s.putTx b l { r with queue := r.queue ++ (cell.drop (34 * k)).take 34 }).drainLane b l 5

/-- How long before a cell the transmitter leaves idle (R94), or how long its lanes still need after it left. -/
def State.txLead (s : State) (b : Nat) : Nat :=
  match s.rd Fld.IZL_LINK_STAT_TX_IDLE b with
  | 0 => (s.txOf b).readyAt - s.up
  | 1 => ns 40
  | _ => us 5

/-- The transmitter leaves idle (R90, R92 to R94): out of deep idle the clock lane starts first; the exit burst goes out on every
active lane. -/
def State.txWake (s : State) (b : Nat) : State :=
  let q := s.rd Fld.IZL_LINK_STAT_TX_IDLE b
  if q = 0 then s
  else
    let ready := s.up + s.txLead b
    let s := s.wr Fld.IZL_LINK_STAT_TX_IDLE b 0
    let s := if q = 1 then s else s.emit (.clockLane b true 0)
    let s := s.each (s.txLanes b) fun s l => s.emit (.lineBits b l (exitBurst (if q = 1 then 120 else 56312)))
    s.putTxb b { s.txOf b with idleFrom := none, readyAt := ready }

/-- A cell leaves on a bundle that sends (R72, R94): out of idle first; past the data words of its marker period it waits for the
marker. -/
def State.sendBytes (s : State) (b after : Nat) (cell : List Byte) : State :=
  if !s.on Fld.IZL_LINK_CTL_ENABLE b || s.rd Fld.IZL_LINK_CTL_MODE b == 4 then s
  else
    let s := s.txWake b
    let s := s.putTxb b { s.txOf b with lastTx := some s.up, idleFrom := none }
    if periodCells (s.txLanes b).length ≤ (s.txOf b).cells then
      s.putTxb b { s.txOf b with late := (s.txOf b).late ++ [cell] }
    else s.rawCell b (max after (s.txLead b)) cell

/-- The header of a cell that the device sends. -/
def State.txHdr (s : State) (type slot seq valid fmt : Nat) : Hdr :=
  { type := type, slot := slot, epoch := s.epoch, holder := s.mntl.flag, seq := seq, line := 0, offset := 0, sof := false,
    eol := false, eof := false, field := false, nosig := false, cont := false, res25 := false, valid := valid, fmt := fmt,
    res := 0 }

/-- Key of a stream (R129). -/
def streamKey (b slot type : Nat) : Nat := (b * 2048 + slot) * 16 + type

/-- Send a cell of a stream under a header, whose SEQ is the stream's next (R129). In loop mode 3 the device's own cells are
discarded (R99). -/
def State.sendHdr (s : State) (b after : Nat) (h : Hdr) (payload : List Byte) : State :=
  let r := s.txOf b
  let k := h.slot * 16 + h.type
  let q := tget 0 r.seq k
  let s := s.putTxb b { r with seq := tput 0 r.seq k ((q + 1) % 65536) }
  if s.rd Fld.IZL_LINK_CTL_MODE b = 3 then s
  else s.sendBytes b after (cellOf { h with seq := q, valid := payload.length } payload)

/-- Send a cell of a stream with a payload (R121, R129). -/
def State.sendCell (s : State) (b type slot fmt : Nat) (payload : List Byte) : State :=
  s.sendHdr b 0 (s.txHdr type slot 0 0 fmt) payload

/-- The idle cell (R161): TYPE 0, SLOT 2047, SEQ 0, VALID 0 and a zero payload, HOLDER and EPOCH as in the other cells. -/
def State.idleCell (s : State) : List Byte := cellOf (s.txHdr 0 linkSlot 0 0 0) []

/-- Until the next marker there are 8704 data words on every lane: what no other cell took is idle cells (R72, R161). -/
def State.padIdle (s : State) (b : Nat) : State :=
  s.each (List.range (periodCells (s.txLanes b).length - (s.txOf b).cells)) fun s _ => s.rawCell b 0 s.idleCell

/-- A side cell's payload (R159): channel, FIRST and LAST, message identifier, fragment index, data. -/
def sideBytes (chan : Nat) (first last : Bool) (id frag : Nat) (data : List Byte) : List Byte :=
  beBytes 1 chan ++ beBytes 1 (b2n first + 2 * b2n last) ++ beBytes 2 id ++ beBytes 2 frag ++ beBytes 2 data.length ++ data

/-- Side cells that a marker period may hold: 1 % of its cells (R160). -/
def State.sideRoom (s : State) (b : Nat) : Nat := periodCells (s.txLanes b).length / 100

/-- Send a side cell, or let it wait for a marker period that has room (R160): a mantle message before other side cells (log entry 138,
DESIGN CHOICE). -/
def State.sideCell (s : State) (b : Nat) (first : Bool) (payload : List Byte) : State :=
  let r := s.txOf b
  if r.sideN < s.sideRoom b then (s.putTxb b { r with sideN := r.sideN + 1 }).sendCell b 4 linkSlot 0 payload
  else if s.on Fld.IZL_LINK_CTL_ENABLE b then
    s.putTxb b { r with side := if first then payload :: r.side else r.side ++ [payload] }
  else s

/-- A new marker period: side cells that waited go out as far as it has room (R160). -/
def State.sideNext (s : State) (b : Nat) : State :=
  let r := s.txOf b
  let n := s.sideRoom b
  let s := s.putTxb b { r with sideN := min n r.side.length, side := r.side.drop n }
  (r.side.take n).foldl (fun s p => s.sendCell b 4 linkSlot 0 p) s

/-- The fragments of a message from fragment `k` on, 248 bytes each (R159). -/
def State.sideFrags (s : State) (b chan id : Nat) : Nat → Nat → List Byte → State
  | 0, _, _ => s
  | n + 1, k, data =>
    let rest := data.drop 248
    let s := s.sideCell b (chan == 2) (sideBytes chan (k == 0) rest.isEmpty id k (data.take 248))
    if rest.isEmpty then s else s.sideFrags b chan id n (k + 1) rest

/-- Send a message on a side channel of a bundle (R159), under the next message identifier. -/
def State.sideSend (s : State) (b chan : Nat) (data : List Byte) : State :=
  let r := s.txOf b
  (s.putTxb b { r with msgId := (r.msgId + 1) % 65536 }).sideFrags b chan r.msgId (data.length / 248 + 1) 0 data

/-- The lane test (13_mantle_twin R659): what the present marker period has left of its side cells carries the PRBS31 sequence on. -/
def State.laneTest (s : State) (b : Nat) : State :=
  s.each (List.range (s.sideRoom b - (s.txOf b).sideN)) fun s _ =>
    let r := s.txOf b
    let g := prbsBits 3 r.test (8 * 248)
    (s.putTxb b { r with test := g.2, msgId := (r.msgId + 1) % 65536 }).sideCell b false
      (sideBytes 3 true true r.msgId 0 (lineBytes 248 g.1))

end Sys2Proof.Machine
end

