-- ==== Sys2Proof/Machine/Anc.lean ====
section
/-! DEFINITION. Ancillary packets bit for bit (03_cells_slots R142 to R147; 08_mash_audio R375, R381 to R383): ST 291 packets in the
payload form of RFC 8331, how cells and RTP packets carry them, and the audio packets of ST 299-1. The standards' own layouts are log
entry 135 (PRESUMED). -/

set_option autoImplicit false

namespace Sys2Proof.Machine

/-- Ones in the low `n` bits of a number. -/
def popcount (v n : Nat) : Nat := ((List.range n).filter fun i => bitOf v i).length

/-- The low `n` bits of a number, the most significant first. -/
def natBits (n v : Nat) : List Bool := (List.range n).map fun i => bitOf v (n - 1 - i)

/-- Bits as bytes, the last filled up with zeros to a word of `k` bytes. -/
def padBytes (k : Nat) (l : List Bool) : List Byte :=
  let n := (l.length + 8 * k - 1) / (8 * k) * k
  lineBytes n (l ++ List.replicate (8 * n - l.length) false)

/-! Packets. -/

/-- An ST 291 packet (R142, R144): C, Line_Number, Horizontal_Offset, DID and SDID, its user data words without parity. -/
structure AncPkt where
  c : Bool
  line : Nat
  hoff : Nat
  did : Nat
  sdid : Nat
  udw : List Nat
deriving DecidableEq, Repr

/-- A ten-bit word of ST 291: bit 8 gives the data even parity, bit 9 is its complement. -/
def ancWord (d : Nat) : Nat :=
  let p := popcount d 8 % 2
  d % 256 + 256 * p + 512 * (1 - p)

/-- The checksum word: the sum of nine bits of each word, bit 9 the complement of bit 8. -/
def ancSum (ws : List Nat) : Nat :=
  let v := (ws.map fun w => w % 512).sum % 512
  v + 512 * (1 - v / 256)

/-- The bytes of a packet in a payload, with its word alignment. -/
def AncPkt.bytes (p : AncPkt) : List Byte :=
  let ws := [ancWord p.did, ancWord p.sdid, ancWord p.udw.length] ++ p.udw.map ancWord
  padBytes 4 (natBits 1 (b2n p.c) ++ natBits 11 p.line ++ natBits 12 p.hoff ++ natBits 8 0
    ++ (ws ++ [ancSum ws]).flatMap (natBits 10))

/-- Bytes of the packet at the front of a payload, once its Data_Count is there. -/
def ancLen (b : List Byte) : Option Nat :=
  if b.length < 8 then none else some ((72 + 10 * bitsOf (beAt b 0 8) 2 8 + 31) / 32 * 4)

/-- Ten-bit word `i` of a packet's bytes: 0 DID, 1 SDID, 2 Data_Count, 3 the first user data word. -/
def ancAt (p : List Byte) (i : Nat) : Nat := bitsOf (beNat p) (8 * p.length - 42 - 10 * i) 10

/-- The low byte of user data word `i`. -/
def ancUdw (p : List Byte) (i : Nat) : Nat := ancAt p (i + 3) % 256

/-- Line_Number of a packet's bytes. -/
def ancLine (p : List Byte) : Nat := bitsOf (beAt p 0 4) 20 11

/-- Cut `n` packets from the front: those that are whole, and what is there of the one that is not. -/
def ancCut : Nat → List Byte → List (List Byte) × List Byte
  | 0, _ => ([], [])
  | n + 1, b =>
    match ancLen b with
    | none => ([], b)
    | some k =>
      if b.length < k then ([], b)
      else
        let r := ancCut n (b.drop k)
        (b.take k :: r.1, r.2)

/-- The packets of a payload (R142, R143): `cont` continues the packet that `part` begins. With no beginning to continue, where the next
packet begins is not known, and the payload is dropped (log entry 136, DESIGN CHOICE). -/
def ancTake (part payload : List Byte) (cont : Bool) : List (List Byte) × List Byte :=
  let n := beAt payload 0 1
  if cont then
    if part.isEmpty then ([], []) else ancCut (n + 1) (part ++ payload.drop 4)
  else ancCut n (payload.drop 4)

/-- ANC_Count and F of a payload: progressive, first field, second field. -/
def ancHead (inter second : Bool) (n : Nat) : List Byte :=
  beBytes 4 (n * 2 ^ 24 + (if inter then (if second then 3 else 2) else 0) * 2 ^ 22)

/-- Payloads that carry at most `room` bytes of packets each (R143): the packets stand one after another, and each goes on in the next
payload where it does not fit. Every payload comes with whether it begins with a continuation. -/
def ancSplit (inter second : Bool) (room : Nat) (ps : List (List Byte)) : List (Bool × List Byte) :=
  let data := ps.flatten
  let starts := (ps.foldl (fun (q : List Nat × Nat) p => (q.2 :: q.1, q.2 + p.length)) ([], 0)).1
  (List.range ((data.length + room - 1) / room)).map fun k =>
    let a := k * room
    (!starts.contains a, ancHead inter second (starts.filter fun x => decide (a ≤ x ∧ x < a + room)).length ++ (data.drop a).take room)

/-! Audio. -/

/-- Channel status of the audio that the device sends, byte by byte: professional use, linear audio, the rate, and the CRC. -/
def chanStatus (fs : Nat) : List Nat :=
  let l := [if fs = 96000 then 0x01 else 0x81, 0, 0, 0, if fs = 96000 then 0x10 else 0] ++ List.replicate 18 0
  let step := fun (c : Nat) => if c % 2 = 1 then c / 2 ^^^ 0xB8 else c / 2
  l ++ [l.foldl (fun c b => step (step (step (step (step (step (step (step (c ^^^ b))))))))) 0xFF]

/-- The C bit of frame `i` of a block of 192. -/
def chanBit (fs i : Nat) : Bool := bitOf ((chanStatus fs).getD (i % 192 / 8) 0) (i % 8)

/-- What a packet is, as its DID and SDID name it (R146; 08_mash R381): ST 352; an audio data packet or an audio control packet of a group
of ST 299-1 (1 to 4) or ST 299-2 (5 to 8); any other. -/
inductive AncKind where
  | st352
  | audio (group : Nat)
  | control (group : Nat)
  | other
deriving DecidableEq, Repr

/-- The kind of a packet. -/
def ancKind (p : List Byte) : AncKind :=
  let did := ancAt p 0 % 256
  if did = 0x41 ∧ ancAt p 1 % 256 = 1 then .st352
  else if 0xE4 ≤ did ∧ did ≤ 0xE7 then .audio (0xE8 - did)
  else if 0xA4 ≤ did ∧ did ≤ 0xA7 then .audio (0xAC - did)
  else if 0xE0 ≤ did ∧ did ≤ 0xE3 then .control (0xE4 - did)
  else if 0xA0 ≤ did ∧ did ≤ 0xA3 then .control (0xA8 - did)
  else .other

/-- The six ECC words of an audio data packet over the 24 words before them: BCH with (x + 1)(x^5 + x^2 + 1), a code for each of the eight
bits. -/
def eccWords (ws : List Nat) : List Nat :=
  ws.foldl (fun (r : List Nat) w =>
    let a := fun (i : Nat) => r.getD i 0
    let f := (w % 256) ^^^ a 0
    [a 1 ^^^ f, a 2, a 3 ^^^ f, a 4 ^^^ f, a 5 ^^^ f, f]) [0, 0, 0, 0, 0, 0]

/-- Whether the ECC of an audio data packet holds (R382). -/
def eccOk (p : List Byte) : Bool :=
  eccWords ([0, 0xFF, 0xFF] ++ (List.range 21).map fun i => ancAt p i % 256) == (List.range 6).map fun i => ancUdw p (18 + i)

/-- The sample of channel `c`, 0 to 3, of an audio data packet. -/
def ancSample (p : List Byte) (c : Nat) : Int :=
  let w := fun (i : Nat) => ancUdw p (2 + 4 * c + i)
  sval 24 (w 0 / 16 + 16 * w 1 + 4096 * w 2 + 2 ^ 20 * (w 3 % 16))

/-- The rate that an audio control packet names (R375), 0 when it names none that fs may be. -/
def ancRate (p : List Byte) : Nat :=
  match ancUdw p 1 / 2 % 8 with
  | 0 => 48000
  | 1 => 44100
  | 2 => 32000
  | 4 => 96000
  | _ => 0

/-- The four user data words of one channel: Z, the audio bits, V 0, U 0, C and even parity. -/
def audioWords (v : Int) (z c : Bool) : List Nat :=
  let x := ofInt 24 v
  let p := (popcount x 24 + b2n c) % 2
  [b2n z * 8 + 16 * (x % 16), x / 16 % 256, x / 4096 % 256, x / 2 ^ 20 + 64 * b2n c + 128 * p]

/-- An audio data packet of a group on a raster line (R147, R383): its data block number, the place of its sample in the line in video
clocks, whether the sample comes from the line before, and the samples with their number. -/
def audioPkt (fs g line dbn clk : Nat) (late : Bool) (n : Nat) (v : List Int) : AncPkt :=
  let did := 0xE8 - g
  let clkw := [clk % 256, clk / 256 % 16 + 16 * b2n late + 32 * (clk / 4096 % 2)]
  let body := clkw ++ (List.range 4).flatMap fun c => audioWords (v.getD c 0) (n % 192 == 0 && c % 2 == 0) (chanBit fs n)
  { c := true, line := line, hoff := 0xFFF, did := did, sdid := dbn,
    udw := body ++ eccWords ([0, 0xFF, 0xFF, did, dbn, 24] ++ body) }

/-- An audio control packet of a group on a raster line (R147, R375, R383): rate, and the channels that are active. -/
def audioCtl (fs g line act : Nat) : AncPkt :=
  { c := false, line := line, hoff := 0xFFF, did := 0xE4 - g, sdid := 0,
    udw := [0, if fs = 96000 then 8 else 0, act] ++ List.replicate 8 0 }

end Sys2Proof.Machine
end

