-- ==== Sys2Proof/Machine/GnssCh.lean ====
section
/-! DEFINITION. The tracking channels of the GNSS baseband (11_gnss_baseband): their states and coherent integration. -/

set_option autoImplicit false

namespace Sys2Proof.Machine

/-- The input of a signal: 0 GNSS_A, 1 GNSS_B (R543). -/
def sigInput (sig : Nat) : Nat := if sig < 3 then 0 else 1

/-- The state of a tracking channel: 0 idle, 1 acquiring, 2 code lock, 3 carrier lock. -/
def State.chState (s : State) (c : Nat) : Nat := s.rd Fld.GNSS_CH_STAT_STATE c

/-- The coherent integration of a signal in ms, of its data and of its pilot component, 0 for none (R548): `t` is the set length. GPS L1
C/A and BeiDou B1I go beyond 1 ms only with bit synchronisation, and up to a data bit (20 ms, or 2 ms for the D2 data of the satellites in
geostationary orbit; log entry 155, PRESUMED); the data components of E1-B and of the L5 band up to their symbols, and pilots take
the set length. -/
def cohMs (sig prn t : Nat) (sync : Bool) : Nat × Nat :=
  match sig with
  | 0 => (if sync then t else 1, 0)
  | 1 => (min t 4, t)
  | 2 => (if !sync then 1 else if prn ≤ 5 ∨ 59 ≤ prn then min t 2 else t, 0)
  | _ => (1, t)

/-- The set coherent integration of an input in ms (R547). -/
def State.cohSet (s : State) (i : Nat) : Nat :=
  match if i = 0 then s.rd Fld.GNSS_TRACK_CFG_A_T_COH 0 else s.rd Fld.GNSS_TRACK_CFG_B_T_COH 0 with
  | 0 => 1
  | 1 => 2
  | 2 => 4
  | 3 => 10
  | _ => 20

/-- The integration of every channel in lock follows its signal, its synchronisation and its input's setting (R548, R550). -/
def State.cohSettle (s : State) : State :=
  let locked := (List.range 96).filter fun c => s.chState c ≥ 2
  let of := fun (c : Nat) =>
    let sig := s.rd Fld.GNSS_CH_STAT_SIG c
    cohMs sig (s.rd Fld.GNSS_CH_STAT_PRN c) (s.cohSet (sigInput sig)) (s.gnss.sync.contains c)
  s.onGnss fun g => { g with sync := g.sync.filter fun c => locked.contains c, coh := locked.map fun c => (c, of c) }

/-- STAT.LOCKED and STAT.STATE follow the channels (R546, R569, R572): tracking while a channel has code lock. -/
def State.gnssSettle (s : State) : State :=
  let s := s.cohSettle
  let n := ((List.range 96).filter fun c => s.chState c ≥ 2).length
  let st := if s.gnss.testing then 4 else if !s.on Fld.GNSS_CTL_EN 0 then 0 else if s.mode = .cellar then 3
    else if n = 0 then 1 else 2
  (s.wr Fld.GNSS_STAT_LOCKED 0 n).wr Fld.GNSS_STAT_STATE 0 st

/-- A channel enters a state: 0 idle, 1 acquiring, 2 code lock, 3 carrier lock. -/
def State.setCh (s : State) (c st : Nat) : State :=
  let s := (s.wr Fld.GNSS_CH_STAT_STATE c st).onGnss fun g =>
    { g with since := tput 0 g.since c s.up,
             lock := if st = 3 then tput 0 g.lock c s.up else terase g.lock c }
  if st = 0 then
    ((s.flag Fld.GNSS_CH_STAT_EXCLUDED c false).wr Fld.GNSS_CH_STAT_SIG c 0).wr Fld.GNSS_CH_STAT_PRN c 0
  else s

end Sys2Proof.Machine
end

