-- ==== Sys2Proof/Machine/KilnTime.lean ====
section
/-! DEFINITION. Kiln's absorbed offset and time error bound (10_kiln_timebase R490, R491, R510 to R512, R529). -/

set_option autoImplicit false

namespace Sys2Proof.Machine

def State.refOf (s : State) (k : Nat) : RefS := tget {} s.kiln.refs k
def State.putRef (s : State) (k : Nat) (r : RefS) : State :=
  s.onKiln fun x => { x with refs := tput {} x.refs k r }

/-- The code of a Kiln state (R488): 0 WAIT, 1 FREERUN, 2 LOCKED, 3 FREQ_LOCKED, 4 HOLDOVER. -/
def State.kilnState (s : State) : Nat := s.rd Fld.KILN_STAT_STATE 0

/-- The absorbed offset A now, in ticks: moved towards 0 at SLEW.RATE ns/s since `aAt` (R491), held while a step
waits (R492). -/
def State.absorbed (s : State) : Int :=
  let k := s.kiln
  if k.stepAt.isSome then k.a0
  else
    let moved := s.rd Fld.KILN_SLEW_RATE 0 * (s.now - k.aAt) / 1000000000
    if 0 ≤ k.a0 then max 0 (k.a0 - moved) else min 0 (k.a0 + moved)

/-- A signed field. -/
def State.srd (s : State) (f : Field) (i : Nat) : Int := sval f.width (s.rd f i)

/-- |T - T_h| in 0.01 degC: 10 degC while the sensor is lost (R500). -/
def State.tempDev (s : State) : Nat :=
  if s.kiln.tempLost then 1000 else (s.srd Fld.KILN_OSC_TEMP_TEMP 0 - s.kiln.tempH).natAbs

/-- The integral of |T - T_h| since the state was entered (R510). -/
def State.thetaNow (s : State) : Nat := s.kiln.theta + s.tempDev * (s.now - s.kiln.thetaAt)

/-- An uncertainty of the oscillator model, `i` its place among the model's values: the class default until the model is valid (R502). -/
def State.modelU (s : State) (i : Nat) (f : Field) : Nat :=
  if s.on Fld.KILN_STAT_MODEL_VALID 0 then s.rd f 0 else Config.oscDefault (s.rd Fld.KILN_OSC_CFG_CLASS 0) i

/-- The growth of the bound after `t` ticks of HOLDOVER or FREQ_LOCKED, with `theta` the integral of |T - T_h| in
0.01 degC ticks (R510, R511), in ticks, rounded up. -/
def State.tebGrowth (s : State) (t theta : Nat) : Nat :=
  let ceilOf := fun (n d : Nat) => (n + d - 1) / d
  if s.kilnState = 3 then
    ceilOf (s.rd Fld.KILN_REF_ACC_ACC (s.rd Fld.KILN_STAT_SELECTED 0) * t) (10 ^ 15)
  else if s.on Fld.KILN_STAT_OSC_XO 0 then ceilOf (s.rd Fld.KILN_CFG_2_XO_UNC 0 * t) (10 ^ 12)
  else
    let day := 172800 * sec 1
    ceilOf ((s.modelU 3 Fld.KILN_MODEL_UY_VALUE * t * 100 + s.modelU 5 Fld.KILN_MODEL_UC_VALUE * theta) * day
      + s.modelU 4 Fld.KILN_MODEL_UD_VALUE * t * t * 100) (10 ^ 15 * 100 * day)

/-- The time error bound in ticks; none when it is saturated (R510). Until a newly selected time or phase candidate has
been measured, LOCKED runs as HOLDOVER (R490). -/
def State.tebTicks (s : State) : Option Nat :=
  let k := s.kiln
  match s.kilnState with
  | 2 =>
    if k.measured then
      some (ns ((s.refOf (s.rd Fld.KILN_STAT_SELECTED 0)).teb + s.rd Fld.KILN_CFG_CAL_NS 0)
        + (s.srd Fld.KILN_LOOP_ERR 0).natAbs * 16384 + s.absorbed.natAbs + k.extra)
    else k.tebH.map fun h => h + s.tebGrowth (s.now - k.enterAt) s.thetaNow
  | 3 | 4 => k.tebH.map fun h => h + s.tebGrowth (s.now - k.enterAt) s.thetaNow
  | _ => none

/-- KILN.TEB: in ns, rounded up, saturating (R510). -/
def State.teb (s : State) : Nat :=
  match s.tebTicks with
  | some t => satTo (2 ^ 32 - 1) ((t + 65535) / 65536)
  | none => 2 ^ 32 - 1

/-- HO_REMAIN (R514): seconds until the TEB reaches HO_LIMIT with |T - T_h| held; nearest second (log entry 35, DEDUCED). -/
def State.hoRemain (s : State) : Nat :=
  match s.kiln.tebH with
  | none => 0
  | some h =>
    let t := s.now - s.kiln.enterAt
    let th := s.thetaNow
    let ok := fun (x : Nat) =>
      let d := sec x + sec 1 / 2
      decide (h + s.tebGrowth (t + d) (th + s.tempDev * d) ≤ ns (s.rd Fld.KILN_HO_LIMIT_LIMIT 0))
    (List.range 32).foldl (fun x i => if ok (x + 2 ^ (31 - i) - 1) then x + 2 ^ (31 - i) else x) 0

/-- KILN.STAT.TRACEABLE (R529): the flag that a time set or step leaves, while the TEB is not saturated. -/
def State.traceable (s : State) : Bool := s.on Fld.KILN_STAT_TRACEABLE 0 && s.teb != 2 ^ 32 - 1

end Sys2Proof.Machine
end

