-- ==== Sys2Proof/Machine/Sources.lean ====
section
/-! DEFINITION. Sources as the Seam and the frame store see them: loss and format, the ring of a source, the
qualification of a source for a line-mode destination, and a frame-mode destination's loss (05_warp_seam R226 to
R233; 06_cask_frame_store R273 to R285). -/

set_option autoImplicit false

namespace Sys2Proof.Machine

/-- Key of an essence cell within its frame. -/
def cellKey (field : Bool) (line offset : Nat) : Nat := b2n field * 2 ^ 24 + line * 2 ^ 12 + offset

/-- Route value of BLACK (R217). -/
def black : Nat := 2047

/-- The FMT a -20 or -22 flow carries: bits [5:0] of FLOW_MEDIA. -/
def State.flowFmt (s : State) (f : Nat) : Nat := s.rd Fld.ETH_FLOW_MEDIA_RAW f % 64

/-- Whether the source of a route value is lost: a lane slot under R141, a packet slot under R195, an internal
source whose head is not emitting frames or is fenced (R317); a slot that nothing is bound to is lost. -/
def State.srcLost (s : State) (k : Nat) : Bool :=
  if k < 1152 then
    match s.srcFlow k with
    | some f => s.on Fld.ETH_FLOW_STAT_LOST f
    | none => s.on Fld.CELL_SRC_STAT_LOST k
  else if k < 1168 then !s.on Fld.STCH_HEAD_STAT_RUNNING (k - 1152) || s.fenced .head (k - 1152)
  else false

/-- The FMT of a source, 0 when it is unknown: the last checked essence cell's, the flow's, or the head's. -/
def State.srcFmt (s : State) (k : Nat) : Nat :=
  if k < 1152 then
    match s.srcFlow k with
    | some f => s.flowFmt f
    | none => s.rd Fld.CELL_SRC_STAT_FMT k
  else if k < 1168 then s.rd Fld.STCH_HEAD_CFG_FMT (k - 1152) else 0

/-! The ring of a source (R273). -/

def State.ringEn (s : State) (k : Nat) : Bool :=
  if k < 1152 then s.on Fld.CASK_RING_EN k else s.on Fld.CASK_INT_RING_EN (k - 1152)
def State.ringDepth (s : State) (k : Nat) : Nat :=
  if k < 1152 then s.rd Fld.CASK_RING_DEPTH k else s.rd Fld.CASK_INT_RING_DEPTH (k - 1152)
def State.ringEff (s : State) (k : Nat) : Nat :=
  if k < 1152 then s.rd Fld.CASK_RING_EFF_DEPTH k else s.rd Fld.CASK_INT_RING_EFF_DEPTH (k - 1152)
def State.ringOver (s : State) (k : Nat) : Bool :=
  if k < 1152 then s.on Fld.CASK_RING_OVERSIZE k else s.on Fld.CASK_INT_RING_OVERSIZE (k - 1152)
def State.ringSize (s : State) (k : Nat) : Nat :=
  if k < 1152 then s.rd Fld.CASK_RING_SLOT_SIZE k else s.rd Fld.CASK_INT_RING_SLOT_SIZE (k - 1152)
def State.putRingEff (s : State) (k v : Nat) : State :=
  if k < 1152 then s.wr Fld.CASK_RING_EFF_DEPTH k v else s.wr Fld.CASK_INT_RING_EFF_DEPTH (k - 1152) v
def State.putRingOver (s : State) (k : Nat) (b : Bool) : State :=
  if k < 1152 then s.flag Fld.CASK_RING_OVERSIZE k b else s.flag Fld.CASK_INT_RING_OVERSIZE (k - 1152) b

/-! The phase record of a source (R227). -/

def State.timeValid (s : State) (k : Nat) : Bool :=
  if k < 1152 then s.on Fld.WARP_SRC_TIME_VALID k else s.on Fld.WARP_INT_TIME_VALID (k - 1152)
def State.timeStable (s : State) (k : Nat) : Bool :=
  if k < 1152 then s.on Fld.WARP_SRC_TIME_STABLE k else s.on Fld.WARP_INT_TIME_STABLE (k - 1152)

/-- Write the phase record: VALID, STABLE, WHOLE_FRAME and the phase in ns, rounded down (R227). -/
def State.putTime (s : State) (k : Nat) (valid stable whole : Bool) (phase : Int) : State :=
  let p := ofInt 26 (phase / (fine (ns 1) : Int))
  if k < 1152 then
    (((s.flag Fld.WARP_SRC_TIME_VALID k valid).flag Fld.WARP_SRC_TIME_STABLE k stable).flag
      Fld.WARP_SRC_TIME_WHOLE_FRAME k whole).wr Fld.WARP_SRC_TIME_PHASE k p
  else
    (((s.flag Fld.WARP_INT_TIME_VALID (k - 1152) valid).flag Fld.WARP_INT_TIME_STABLE (k - 1152) stable).flag
      Fld.WARP_INT_TIME_WHOLE_FRAME (k - 1152) whole).wr Fld.WARP_INT_TIME_PHASE (k - 1152) p

/-- Phase of an instant (fine units) to the nearest epoch of a period, in -P/2 exclusive to P/2 (R227). -/
def phaseOf (t p : Nat) : Int :=
  let r := t % p
  if 2 * r ≤ p then (r : Int) else (r : Int) - (p : Int)

/-- Greatest less least of a list of phases. -/
def spread (l : List Int) : Int :=
  match l with
  | [] => 0
  | x :: xs => xs.foldl max x - xs.foldl min x

/-- STABLE: the phase has varied by at most 1 us over the last 8 frames (R227). -/
def stableOf (l : List Int) : Bool := l.length == 8 && spread l ≤ (fine (us 1) : Int)

/-- Whether D of a source phase lies in the line-mode window of a format: 2 lines to 3 lines + 2 us (R229). -/
def inWindow (f : Fmt) (off : Nat) (phase : Int) : Bool :=
  let d := ((fine (ns off) : Int) - phase) % (f.period : Int)
  (2 * f.line : Int) ≤ d && d ≤ ((3 * f.line + fine (us 2) : Nat) : Int)

/-- The conditions of R229 but for the window. -/
def State.qualifies (s : State) (d k : Nat) : Bool :=
  !s.srcLost k && s.srcFmt k == s.rd Fld.WARP_DST_CFG_FMT d && s.timeValid k && s.timeStable k &&
  match s.srcFlow k with
  | some f => s.on Fld.ETH_FLOW_STAT_N_OK f && s.rd Fld.ETH_FLOW_STAT_JITTER f ≤ 64
  | none => true

/-- Whether a source is timed for a destination under R229. -/
def State.timedFor (s : State) (d k : Nat) : Bool :=
  match fmtOf (s.rd Fld.WARP_DST_CFG_FMT d) with
  | none => false
  | some f =>
    let ph := (s.srcOf k).phases
    s.qualifies d k && ph.length == 8 && ph.all (inWindow f (s.rd Fld.WARP_DST_TIMING_OFFSET d))

/-- Whether a timed source stays timed: the window is left only after 2 consecutive frames outside it (R230). -/
def State.staysTimed (s : State) (d k : Nat) : Bool :=
  match fmtOf (s.rd Fld.WARP_DST_CFG_FMT d) with
  | none => false
  | some f => s.qualifies d k &&
    ((s.srcOf k).phases.take 2).any (inWindow f (s.rd Fld.WARP_DST_TIMING_OFFSET d))

/-- What R282 names for a frame-mode destination of route `k`: 1 lost, 2 format, 3 oversize, 4 depth; 0 none. -/
def State.lostCause (s : State) (d k : Nat) : Nat :=
  if k ≥ 1168 then 0
  else if s.srcLost k then 1
  else if s.srcFmt k ≠ s.rd Fld.WARP_DST_CFG_FMT d then 2
  else if s.ringOver k then 3
  else if s.ringEff k < s.rd Fld.WARP_DST_CFG_LATENCY d then 4
  else 0

/-- The newest frame of a source's ring with COMPLETE 1 and a format (R283, R687). -/
def newestComplete (k fmt : Nat) (r : SrcS) : Option FrameRef :=
  r.slots.foldl (fun best p =>
    match p.2.s with
    | some st =>
      if p.2.complete && p.2.fmt == fmt then
        match best with
        | some b => if st > b.s then some ⟨k, p.1, p.2.count, st⟩ else best
        | none => some ⟨k, p.1, p.2.count, st⟩
      else best
    | none => best) none

/-- Re-evaluate a destination against its routed source: SRC_LOST, line mode's TIMED and BLACKED with the count of
R233, and frame mode's cause with the frame to freeze, chosen at the instant of the loss (R230, R282, R283). -/
def State.judge (s : State) (d : Nat) : State :=
  let k := s.rd Fld.WARP_DST_ROUTE_SRC d
  let s := s.flag Fld.WARP_DST_STAT_SRC_LOST d (k < 1168 && s.srcLost k)
  if !s.on Fld.WARP_DST_CFG_EN d then s
  else if s.rd Fld.WARP_DST_CFG_MODE d = 0 then
    let t := k < 1168 && (if s.on Fld.WARP_DST_STAT_TIMED d then s.staysTimed d k else s.timedFor d k)
    let s := s.flag Fld.WARP_DST_STAT_TIMED d t
    if k < 1168 && !t && !s.on Fld.WARP_DST_STAT_BLACKED d then
      (s.flag Fld.WARP_DST_STAT_BLACKED d true).bump Fld.WARP_DST_CNT_UNTIMED d 1
    else s
  else if s.rd Fld.WARP_DST_CFG_MODE d = 1 then
    let c := s.lostCause d k
    let s := s.wr Fld.CASK_FS_STAT_CAUSE d c
    let r := s.dstOf d
    if c ≠ 0 && !r.lost then
      s.putDst d { r with lost := true, used := none, resume := none,
                          freeze := newestComplete k (s.rd Fld.WARP_DST_CFG_FMT d) (s.srcOf k) }
    else if c = 0 && r.lost then s.putDst d { r with lost := false }
    else s
  else s

/-- Re-evaluate every destination that takes a source. -/
def State.judgeAll (s : State) (k : Nat) : State :=
  s.each ((List.range 1152).filter fun d => s.rd Fld.WARP_DST_ROUTE_SRC d == k) State.judge

/-- Record a frame's phase for a source, or that S was not defined for its last frame (R227). -/
def State.recordPhase (s : State) (k : Nat) (st : Option Nat) (whole : Bool) : State :=
  let r := s.srcOf k
  let s := match fmtOf (s.srcFmt k), st with
    | some f, some t =>
      let ph := phaseOf (fine t) f.period
      let l := (ph :: r.phases).take 8
      (s.putSrc k { r with phases := l }).putTime k true (stableOf l) whole ph
    | _, _ => (s.putSrc k { r with phases := [] }).putTime k false false whole 0
  s.judgeAll k

/-- A lane slot becomes lost (R141). -/
def State.loseSlot (s : State) (k : Nat) : State := (s.flag Fld.CELL_SRC_STAT_LOST k true).judgeAll k

/-- The source slots that a flow carries: those bound to it, or to its pair's path A (R204). -/
def State.flowSlots (s : State) (f : Nat) : List Nat :=
  (List.range 1152).filter fun k => s.srcFlow k == some f

def State.flowRx (s : State) (f : Nat) : FlowRx := tget {} s.eth.rx f
def State.putFlowRx (s : State) (f : Nat) (r : FlowRx) : State :=
  s.onEth fun z => { z with rx := tput {} s.eth.rx f r }

/-- The other path of a receive flow's pair: two entries of a type with PAIR_EN, each naming the other (R204). -/
def State.pairOf (s : State) (f : Nat) : Option Nat :=
  let g := s.rd Fld.ETH_FLOW_CTL_PARTNER f
  if s.on Fld.ETH_FLOW_CTL_PAIR_EN f && s.on Fld.ETH_FLOW_CTL_PAIR_EN g && s.rd Fld.ETH_FLOW_CTL_PARTNER g == f
      && g != f && s.rd Fld.ETH_FLOW_CTL_TYPE g == s.rd Fld.ETH_FLOW_CTL_TYPE f
      && s.rd Fld.ETH_FLOW_CTL_DIR f == 0 && s.rd Fld.ETH_FLOW_CTL_DIR g == 0 then some g else none

/-- Path A of a flow: the lower index of its pair, or the flow itself (R204). -/
def State.pathA (s : State) (f : Nat) : Nat := (s.pairOf f).elim f (min f)

/-- LOST, PATH_A and PATH_B follow the paths: a pair is lost only when both are (R207), and with it its slots (R195). -/
def State.settleFlow (s : State) (f : Nat) : State :=
  let a := s.pathA f
  let la := !(s.flowRx a).alive
  let s := match s.pairOf a with
    | none => s.flag Fld.ETH_FLOW_STAT_LOST a la
    | some b =>
      let lb := !(s.flowRx b).alive
      s.each [a, b] fun s x => ((s.flag Fld.ETH_FLOW_STAT_LOST x (la && lb)).flag Fld.ETH_FLOW_STAT_PATH_A x (!la)).flag
        Fld.ETH_FLOW_STAT_PATH_B x (!lb)
  let lost := s.rd Fld.ETH_FLOW_STAT_LOST a
  s.each (s.flowSlots a) fun s k => (s.wr Fld.CELL_SRC_STAT_LOST k lost).judgeAll k

/-- A receive flow's path becomes lost, and with the flow its slot (R195, R202, R207). The merge of a pair goes on while its other path
lives. -/
def State.loseFlow (s : State) (f : Nat) : State :=
  let s := s.putFlowRx f { s.flowRx f with alive := false, ts := none, hist := [], narrow := true }
  let a := s.pathA f
  let live := (s.pairOf a).any fun b => (s.flowRx a).alive || (s.flowRx b).alive
  (if live then s else s.putFlowRx a { s.flowRx a with next := none, seen := [] }).settleFlow f

/-- Slots of a ring that may not be rewritten: frozen frames (R285), hem frames (R687), and frames that a head's ring
layer reads (R332). -/
def State.heldSlots (s : State) (k : Nat) : List Nat :=
  (s.head.flatMap fun p => p.2.reads.filterMap fun q =>
    if q.2.src = k && s.rd Fld.STCH_LAYER_CTL_SRC_KIND (p.1 * 8 + q.1) == 2 then some q.2.slot else none) ++
  s.dst.filterMap fun p =>
    let use (o : Option FrameRef) := o.bind fun f => if f.src = k then some f.slot else none
    match use p.2.hem with
    | some x => some x
    | none => if p.2.lost && !s.on Fld.CASK_FS_STAT_BLACK p.1 && s.rd Fld.CASK_FS_CTL_FREEZE_MS p.1 ≠ 0 then
        use p.2.freeze else none

end Sys2Proof.Machine
end

