-- ==== Sys2Proof/Machine/Faults.lean ====
section
/-! DEFINITION. The fault collector (14_faults_hem): raising and clearing a source, the log, fences, the FAULT_N
pulse and hem entry. -/

set_option autoImplicit false

namespace Sys2Proof.Machine

/-- Whether a bundle is in 7-lane mode (R46): a receiver UP_7LANE or a transmitter in 7-lane mode. -/
def State.any7Lane (s : State) : Bool :=
  (List.range 33).any fun b => s.rd Fld.IZL_LINK_STAT_STATE b == 6 || s.on Fld.IZL_LINK_STAT_TX_7LANE b

/-- SERVICE and DEGRADED follow the fences and the 7-lane bundles (R46). -/
def State.settleMode (s : State) : State :=
  match s.mode with
  | .service => if s.anyFenced || s.any7Lane then s.setMode .degraded else s
  | .degraded => if s.anyFenced || s.any7Lane then s else s.setMode .service
  | _ => s

/-- Change a unit's fence: bit 0 for itself, bit 1 through its bundle. What it was is kept for a second. -/
def State.putFence (s : State) (k : UKind) (i v : Nat) : State :=
  let old := (fenceKey k i, s.up, tget 0 s.flt.fenced (fenceKey k i))
  s.onFlt fun z => { z with
    fenced := tput 0 s.flt.fenced (fenceKey k i) v
    fenceLog := old :: s.flt.fenceLog.filter fun p => decide (s.up < p.2.1 + sec 1) }

/-- Whether a unit was fenced some time ago, at most a second (01_architecture R33). -/
def State.fencedAgo (s : State) (k : UKind) (i ago : Nat) : Bool :=
  match (s.flt.fenceLog.filter fun p => p.1 == fenceKey k i && decide (s.up < p.2.1 + ago)).getLast? with
  | some p => p.2.2 != 0
  | none => s.fenced k i

def State.hopOf (s : State) (c : Nat) : HopCh := tget {} s.hop c
def State.putHop (s : State) (c : Nat) (r : HopCh) : State := { s with hop := tput {} s.hop c r }

/-- A Hopper channel that is active stops for a cause (16_internal_engines R767): it issues no more beats. -/
def State.hopStop (s : State) (c cause : Nat) : State :=
  let r := s.hopOf c
  if r.phase = .rest ∨ r.stop.isSome then s else s.putHop c { r with stop := some cause }

/-- A unit is fenced for itself (`bit` 1) or through its bundle. -/
def State.ownFence (s : State) (k : UKind) (i bit : Nat) : State :=
  let v := tget 0 s.flt.fenced (fenceKey k i)
  s.putFence k i (if bit = 1 then v / 2 * 2 + 1 else v % 2 + 2)

/-- Fence one unit and give it the effects of R680 that are state: a bundle's slots become lost sources and its
destinations are fenced with it, a port's receive flows and a receive flow are lost. What a fenced unit sends is
decided where it sends. A GNSS channel leaves its signal, and a Hopper channel halts at its current descriptor. -/
def State.fence (s : State) (k : UKind) (i : Nat) : State :=
  let s := s.ownFence k i 1
  let s := match k with
    | .bundle =>
      let s := s.each (s.bundleSrcs i) State.loseSlot
      s.each (s.bundleDsts i) fun s d => s.ownFence .dst d 2
    | .port =>
      s.each (List.range 4096) fun s f =>
        if s.rd Fld.ETH_FLOW_CTL_PORT f == i && s.rd Fld.ETH_FLOW_CTL_DIR f == 0 then
          s.loseFlow f else s
    | .flow => if s.rd Fld.ETH_FLOW_CTL_DIR i = 0 then s.loseFlow i else s
    | .head => (s.flag Fld.STCH_HEAD_STAT_RUNNING i false).judgeAll (1152 + i)
    | .gnssCh => if s.chState i = 0 then s else (s.setCh i 0).gnssSettle
    | .hopCh => s.hopStop i 6
    | _ => s
  s.settleMode

/-- Release one unit's fence, and with a bundle's the fences its destinations had through it (R680, R683). A destination
of a bundle that stays fenced stays fenced through it. -/
def State.unfence (s : State) (k : UKind) (i : Nat) : State :=
  let s := s.putFence k i (tget 0 s.flt.fenced (fenceKey k i) / 2 * 2)
  let s := match k with
    | .bundle => s.each (s.bundleDsts i) fun s d =>
        s.putFence .dst d (tget 0 s.flt.fenced (fenceKey .dst d) % 2)
    | .head => s.judgeAll (1152 + i)
    | _ => s
  s.settleMode

/-- The change sets that hem entry cancels (R34): every set OPEN, ARMED, PREPARING, COMMITTED or APPLYING. -/
def csLive (state : Nat) : Bool := 1 ≤ state && state ≤ 5

/-- Change a set's state and tell the subscribers (CS_STATE, R746). -/
def State.csGo (s : State) (n : Nat) (c : ChangeSet) (st : Nat) : State :=
  (s.putCs n { c with state := st }).event 1 0x0101 0 (beBytes 1 n ++ beBytes 1 st)

/-- An entry that has not applied becomes DISCARDED. -/
def CsEntry.discard (e : CsEntry) : CsEntry := if e.status = 0 then { e with status := 5 } else e

/-- Cancel a set: entries not yet applied are discarded and listed (R28). -/
def State.csCancel (s : State) (n : Nat) : State :=
  let c := s.csOf n
  s.csGo n { c with entries := c.entries.map CsEntry.discard } 8

/-- What hem content 1 freezes a destination on (R687). -/
def State.hemFrozen (s : State) (d : Nat) : Option FrameRef :=
  let r := s.dstOf d
  let route := s.rd Fld.WARP_DST_ROUTE_SRC d
  if s.fenced .dst d then none
  else if s.on Fld.CASK_FS_STAT_FROZEN d then r.freeze
  else if route ≥ 1168 || s.on Fld.WARP_DST_STAT_BLACKED d || s.on Fld.CASK_FS_STAT_BLACK d then none
  else newestComplete route (s.rd Fld.WARP_DST_CFG_FMT d) (s.srcOf route)

/-- Code, number and content of a mantle message (13_mantle_twin R633). -/
def MantleMsg.parts (m : MantleMsg) : Nat × Nat × List Byte :=
  match m with
  | .renew n => (1, n, [])
  | .ack n => (2, n, [])
  | .release => (3, 0, [])
  | .propose th => (4, 0, kilnBytes th)
  | .accept th => (5, 0, kilnBytes th)
  | .refuse c => (6, c, [])
  | .request => (7, 0, [])
  | .health r => (8, 0, r)
  | .mirror _ _ _ => (9, 0, Config.mantleRest m)
  | .csReady n _ _ => (10, n, Config.mantleRest m)

/-- The data of a side cell that carries a mantle message (R633). -/
def State.mantleBytes (s : State) (m : MantleMsg) : List Byte :=
  let p := m.parts
  beBytes 1 p.1 ++ beBytes 1 s.epoch ++ beBytes 4 p.2.1 ++ kilnBytes (s.now + s.txLead 32) ++ p.2.2

/-- Send a mantle message at the unit's epoch in a side cell of channel 2 of MANTLE, while the bundle is up (R633). -/
def State.mantle (s : State) (m : MantleMsg) : State :=
  let st := s.rd Fld.IZL_LINK_STAT_STATE 32
  if st = 5 ∨ st = 6 then (s.emit (.mantle s.epoch m)).sideSend 32 2 (s.mantleBytes m) else s

/-- The holder flag of every cell is cleared (R634, R684). -/
def State.clearHolder (s : State) : State := s.onMntl fun z => { z with flag := false }

/-- A holder gives up the mantle: RELEASE is sent and the role is STANDBY (R644; log entry 20, DEDUCED). -/
def State.giveUp (s : State) : State :=
  match s.role with
  | .holder =>
    let s := (s.clearHolder.mantle .release).setRole .standby
    (s.onMntl fun z => { z with ts := s.up, proposed := none, accepted := false }).flag Fld.MNTL_CTL_HANDOVER 0 false
  | .single => s.clearHolder
  | _ => s

/-- The frames that hem content 1 freezes are held (R684, R687). -/
def State.hemHold (s : State) : State :=
  s.each (List.range 1152) fun s d =>
    if s.rd Fld.FLT_HEM_CFG_CONTENT d = 1 then s.putDst d { s.dstOf d with hem := s.hemFrozen d } else s

/-- Hem entry cancels the change sets (R34). -/
def State.hemCancel (s : State) : State :=
  s.each (List.range 32) fun s n => if csLive (s.csOf n).state then s.csCancel n else s

/-- A trial image whose device enters HEM falls back at the next start (17_startup_update R809). -/
def State.trialHem (s : State) : State :=
  if s.on Fld.CTRL_DEV_STATE_TRIAL 0 then s.onRec fun r => { r with fallback := true } else s

/-- Entry into hem state (R684): the frames that are held, the mode, the cause, the holder flag and RELEASE, and the change
sets. Q1 and the old content stop because HEM is the mode. -/
def State.enterHem (s : State) (fs : Nat) : State :=
  let s := (s.hemHold.setMode .hem).wr Fld.FLT_STAT_HEM_SRC 0 fs
  let s := s.onFlt fun z => { z with hemAt := some s.up, hemHard := 192 ≤ fs && fs ≤ 223 }
  s.trialHem.giveUp.hemCancel

/-- The FAULT_N pulse (R690, R691). -/
def State.pulse (s : State) : State :=
  let ends := s.onFlt fun z => { z with pulseEnd := s.up + us 20 }
  if s.on Fld.FLT_STAT_PULSE 0 then ends
  else if s.on Fld.FLT_PIN_CTL_FAULT_HOLD 0 then s
  else (ends.flag Fld.FLT_STAT_PULSE 0 true).flag Fld.FLT_PIN_CTL_FAULT_HOLD 0 true

/-- The 28 bytes of a log entry before its CRC (R701). -/
def LogEntry.head (e : LogEntry) : List Byte :=
  beBytes 4 e.seq ++ kilnBytes e.time
    ++ beBytes 2 (b2n e.timeValid * 2 ^ 15 + b2n e.escalated * 2 ^ 14 + b2n e.nested * 2 ^ 13
        + b2n e.replace * 2 ^ 12 + e.severity * 2 ^ 10 + e.src)
    ++ beBytes 1 e.kind.code ++ beBytes 1 e.mode ++ beBytes 2 e.inst ++ beBytes 2 e.starts ++ beBytes 4 e.detail

/-- The 32 bytes of a log entry (R701). -/
def LogEntry.bytes (e : LogEntry) : List Byte := e.head ++ beBytes 4 (crc32 e.head)

/-- Enter a fault in the log (R701 to R704): with 256 entries unacknowledged it is only counted; an entry whose
Ledger write fails is kept in control SRAM. A FAULT event carries the entry (R746). -/
def State.logFault (s : State) (e : LogEntry) : State :=
  if s.rd Fld.FLT_LOG_PTR_COUNT 0 ≥ 256 then s.bump Fld.FLT_CNT_LOG_OVF_CNT 0 1
  else
    let h := s.rd Fld.FLT_LOG_PTR_HEAD 0
    let e := { e with seq := s.flt.seq }
    let f := { s.flt with seq := (s.flt.seq + 1) % 2 ^ 32 }
    let f := if s.flt.ledgerOk then { f with log := tinsert f.log h e, retry := terase f.retry h }
      else { f with retry := tinsert f.retry h e }
    let s := s.onFlt fun _ => f
    let s := (s.wr Fld.FLT_LOG_PTR_HEAD 0 (h + 1)).wr Fld.FLT_LOG_PTR_COUNT 0 (s.rd Fld.FLT_LOG_PTR_COUNT 0 + 1)
    s.event 0 1 e.inst e.bytes

/-- Whether a fault is being handled that was detected earlier (R698). -/
def State.handling (s : State) : Bool := s.flt.handleFrom < s.up && s.up < s.flt.handleEnd

/-- The severity applied to a raise (R47, R677, R681): NOTE in CELLAR and for a FENCE of the MANTLE bundle. -/
def State.severity (s : State) (fs : Nat) (k : UKind) (i : Nat) : Nat :=
  if s.mode = .cellar then 0
  else
    let v := s.rd Fld.FLT_SRC_CFG_SEVERITY fs
    if v = 1 ∧ k = .bundle ∧ i = 32 then 0 else v

/-- The reaction to a severity (R679, R680, R684, R697, R699). Of the HEM faults of one instant HEM_SRC names the lowest
(R700). -/
def State.react (s : State) (fs : Nat) (k : UKind) (i sev : Nat) : State :=
  if s.mode = .cellar then s
  else
    let s := if sev = 0 && !s.on Fld.FLT_SRC_CFG_PIN fs then s else s.pulse
    if sev = 1 then s.fence k i
    else if sev ≠ 2 then s
    else if s.mode ≠ .hem then s.enterHem fs
    else if s.flt.hemAt = some s.up ∧ fs < s.rd Fld.FLT_STAT_HEM_SRC 0 then s.wr Fld.FLT_STAT_HEM_SRC 0 fs
    else s

/-- A fault begins to be handled (R698). -/
def State.handle (s : State) (sev : Nat) : State :=
  let fin := s.up + Config.handleTime sev s.freeCtr
  let s := s.countFree
  let f := s.flt
  if s.handling then
    s.onFlt fun _ => { f with handleSev := max f.handleSev sev, handleEnd := max f.handleEnd fin }
  else s.onFlt fun _ => { f with handleFrom := s.up, handleEnd := fin, handleSev := sev }

/-- Raise a source's instance: counted, stood, logged, and reacted to (R674 to R679, R695 to R698). A source that
already stands for the instance only counts when it is an event source (R676). -/
def State.raiseOne (s : State) (fs i detail : Nat) : State :=
  match faultInfo fs with
  | none => s
  | some (cond, kind) =>
    if s.stands fs i then (if cond then s else s.bump Fld.FLT_SRC_STAT_COUNT fs 1)
    else
      let sev := s.severity fs kind i
      let rep := s.on Fld.FLT_SRC_CFG_REPLACE fs
      let busy := s.handling
      let e : LogEntry := {
        seq := 0, time := s.now, timeValid := s.on Fld.KILN_STAT_TIME_VALID 0,
        escalated := busy && decide (s.flt.handleSev < sev), nested := busy || s.mode == .hem,
        replace := rep, severity := sev, src := fs, kind := kind, mode := s.mode.code,
        inst := if kind = .none then 0 else i, starts := s.rd Fld.BOOT_START_COUNT_COUNT 0 % 65536,
        detail := detail }
      let s := s.bump Fld.FLT_SRC_STAT_COUNT fs 1
      let s := s.onBoot fun z => { z with bad := s.boot.bad || fs == 384 || fs == 417 }
      let s := s.onFlt fun z => { z with stand := tput 0 s.flt.stand (standKey fs i) (if rep then 2 else 1) }
      let s := (s.logFault e).handle sev
      s.react fs kind i sev

/-- When the Ledger write of a log entry made since `old` has failed, FS_386 is raised (R704). -/
def State.ledgerCheck (s old : State) : State :=
  if s.flt.ledgerOk || s.flt.seq == old.flt.seq then s else s.raiseOne 386 0 0

/-- Raise a source's instance. -/
def State.raise (s : State) (fs i detail : Nat) : State := (s.raiseOne fs i detail).ledgerCheck s

/-- The condition of a condition source ends: its instance stands no more (R674), and is not raised again at start-up (R693). -/
def State.lower (s : State) (fs i : Nat) : State :=
  (s.onFlt fun z => { z with stand := terase s.flt.stand (standKey fs i) }).onBoot fun z =>
    { z with conds := s.boot.conds.filter fun k => k != standKey fs i }

/-- A condition source follows its condition (R674). -/
def State.cond (s : State) (fs i : Nat) (holds : Bool) : State :=
  if holds then s.raise fs i 0 else s.lower fs i

end Sys2Proof.Machine
end

