-- ==== Sys2Proof/Machine/KilnRef.lean ====
section
/-! DEFINITION. Kiln's reference candidates: availability, qualification, and selection (10_kiln_timebase R476 to R490,
R495, R496, R513). -/

set_option autoImplicit false

namespace Sys2Proof.Machine

/-! Candidates (R476 to R485). -/

/-- Kind of a candidate (R476): 0 time, 1 phase, 2 frequency. -/
def refKind (k : Nat) : Nat :=
  if k = 0 ∨ (5 ≤ k ∧ k ≤ 22) ∨ k = 43 then 0 else if (1 ≤ k ∧ k ≤ 4) ∨ k = 41 ∨ k = 42 then 1 else 2

/-- Whether bundle MANTLE is UP or UP_7LANE. -/
def State.mantleLink (s : State) : Bool :=
  s.rd Fld.IZL_LINK_STAT_STATE 32 == 5 || s.rd Fld.IZL_LINK_STAT_STATE 32 == 6

/-- Whether a candidate is available (R483, 13_mantle R647, R530, R531): in cellar mode only candidate 0 can be, and none in cellar
operation without a configuration (01_architecture R52). -/
def State.refAvail (s : State) (k : Nat) : Bool :=
  let r := s.refOf k
  let freqUsed := decide (1 ≤ k ∧ k ≤ 4) && s.rd Fld.KILN_PPS_CFG_FREQ (k - 1) != 0
  s.on Fld.KILN_REF_CFG_EN k && r.there && !(freqUsed && r.freqBad)
    && (refKind k != 1 || s.on Fld.KILN_STAT_TIME_VALID 0)
    && (k == 0 || s.mode != .cellar) && !s.kiln.bare
    && (k != 43 || (s.role == .standby && s.on Fld.CELL_LINK_INFO_VALID 32 && s.mantleLink))

/-- A Kiln event (15_hcp_control, class 2). -/
def State.kilnEvent (s : State) (code : Nat) (k : Nat) : State := s.event 2 (0x0200 + code) 0 (beBytes 1 k)

/-- Follow one candidate's availability (R484, R485). The answer says whether a qualification was lost. -/
def refFollow (p : Bool × State) (k : Nat) : Bool × State :=
  let s := p.2
  let r := s.refOf k
  if s.refAvail k then (p.1, if r.since.isNone then s.putRef k { r with since := some s.up } else s)
  else if r.qual then
    let s := s.putRef k { r with since := none, qual := false }
    (true, ((s.bump Fld.KILN_REF_CNT_DISQUAL k 1).kilnEvent 2 k).raise 261 0 0)
  else (p.1, s.putRef k { r with since := none })

/-! Holdover expiry (R513). -/

/-- Whether the TEB is above HO_LIMIT, in the states that compare it. -/
def State.hoOver (s : State) : Bool :=
  if s.kilnState ≤ 1 then false
  else match s.tebTicks with
    | some t => decide (ns (s.rd Fld.KILN_HO_LIMIT_LIMIT 0) < t)
    | none => s.kilnState != 2

/-- HO_EXPIRED, its event and FS_262 follow the comparison. -/
def State.hoCheck (s : State) : State :=
  if s.hoOver then
    if s.on Fld.KILN_STAT_HO_EXPIRED 0 then s
    else ((s.flag Fld.KILN_STAT_HO_EXPIRED 0 true).kilnEvent 5 (s.rd Fld.KILN_STAT_SELECTED 0)).raise 262 0 0
  else (s.flag Fld.KILN_STAT_HO_EXPIRED 0 false).lower 262 0

/-! Selection (R486 to R490, R495, R496). -/

/-- A state that holds phase by itself begins: the bound at its entry, and the temperature (R510). -/
def State.holdFrom (s : State) (h : Option Nat) : State :=
  s.onKiln fun k => { k with tebH := h, enterAt := s.now, tempH := s.srd Fld.KILN_OSC_TEMP_TEMP 0, theta := 0,
                             thetaAt := s.now, extra := 0 }

/-- The selection changes to `new`, 63 for none (R488 to R490, R495, R496). -/
def State.kilnSwitch (s : State) (new : Nat) : State :=
  let s := if new = 43 ∨ s.rd Fld.KILN_STAT_SELECTED 0 = 43 then s.sick else s
  let st := s.kilnState
  let before := s.tebTicks
  let measured := s.kiln.measured
  let a := s.absorbed
  let s := (s.wr Fld.KILN_STAT_SELECTED 0 new).flag Fld.KILN_STAT_STEP_PENDING 0 false
  let s := s.onKiln fun k => { k with stepAt := none, setRef := none, utcPtp := none, a0 := a, aAt := s.now }
  let s := s.kilnEvent 1 new
  if !s.on Fld.KILN_STAT_TIME_VALID 0 then s
  else
    let nst := if new = 63 then (if st = 2 ∨ st = 3 then 4 else st) else if refKind new = 2 then 3 else 2
    let s := s.wr Fld.KILN_STAT_STATE 0 nst
    let keep := nst == 2 && (st == 4 || (st == 2 && !measured))
    let s := if nst ≥ 2 && !keep && !(nst == 4 && st == 4) then s.holdFrom before else s
    let s := s.onKiln fun k => { k with measured := if nst = 2 then false else k.measured }
    let s := if st = 2 ∧ nst ≠ 2 then s.onKiln fun k => { k with a0 := 0, aAt := s.now } else s
    let s := if nst = 4 ∧ st ≠ 4 then
        (((s.saveModel).kilnEvent 3 new).wr Fld.KILN_HO_ELAPSED_SECONDS 0 0).wr Fld.KILN_HO_REMAIN_SECONDS 0 s.hoRemain
      else s
    let s := if st = 4 ∧ nst ≠ 4 then s.kilnEvent 4 new else s
    let s := if nst ≠ 4 then s.wr Fld.KILN_HO_REMAIN_SECONDS 0 (2 ^ 32 - 1) else s
    s.hoCheck

/-- The ordered list (R486). -/
def State.refOrder (s : State) : List Nat :=
  [s.rd Fld.KILN_REF_ORDER_0_ENTRY_0 0, s.rd Fld.KILN_REF_ORDER_0_ENTRY_1 0, s.rd Fld.KILN_REF_ORDER_0_ENTRY_2 0,
   s.rd Fld.KILN_REF_ORDER_0_ENTRY_3 0, s.rd Fld.KILN_REF_ORDER_1_ENTRY_0 0, s.rd Fld.KILN_REF_ORDER_1_ENTRY_1 0,
   s.rd Fld.KILN_REF_ORDER_1_ENTRY_2 0, s.rd Fld.KILN_REF_ORDER_1_ENTRY_3 0]

/-- The best candidate: the manual choice, which on a standby is candidate 43, then the ordered list; 63 for none (R486,
R487, R648). -/
def State.refBest (s : State) : Nat :=
  let standby := s.role == .standby
  let m := if standby then 43 else s.rd Fld.KILN_SEL_CTL_MANUAL 0
  if (standby || s.on Fld.KILN_SEL_CTL_MANUAL_EN 0) && (s.refOf m).qual then m
  else (s.refOrder.find? fun k => k != 63 && (s.refOf k).qual).getD 63

/-- Evaluate the selection (R486). -/
def State.refSelect (s : State) (writeEvent : Bool) : State :=
  let cur := s.rd Fld.KILN_STAT_SELECTED 0
  let best := s.refBest
  if (writeEvent || s.on Fld.KILN_SEL_CTL_REVERT 0 || cur == 63 || !(s.refOf cur).qual) && best != cur then
    s.kilnSwitch best
  else s

/-- Follow every candidate's availability, and the selection with it. A part in cellar mode without a cellar configuration
has no discipline and keeps the state it had (01_architecture R52). -/
def State.refSettle (s : State) : State :=
  if s.mode = .cellar ∧ s.kiln.bare then s else
  let p := (List.range 44).foldl refFollow (false, s)
  if p.1 then p.2.refSelect false else p.2

/-- A candidate's own measurement comes or goes. -/
def State.refThere (s : State) (k : Nat) (there : Bool) : State :=
  if (s.refOf k).there = there then s else (s.putRef k { s.refOf k with there := there }).refSettle

/-- The pulses of a candidate are not monitored: what was seen of them counts no more (R481 to R483). -/
def State.refUnseen (s : State) (k : Nat) : State :=
  s.putRef k { s.refOf k with there := false, pulse := none, bad := 0, freqBad := false }

/-! Roles of the mantle (13_mantle_twin R636, R637). -/

/-- The role changes: what waits for a handover ends, and the hold-off restarts (R666). -/
def State.enterRole (s : State) (r : Role) : State :=
  let s := (s.setRole r).sick.onMntl fun m => { m with
    proposed := none, accepted := false, agreed := none, half := none, holdAt := s.up }
  (s.flag Fld.MNTL_CTL_HANDOVER 0 false).refSettle

/-- Mantle negotiation begins (R636, R637, R645): with EN 0 the unit is SINGLE at once. -/
def State.negotiate (s : State) : State :=
  if s.on Fld.MNTL_CTL_EN 0 then (s.enterRole .none).onMntl fun m => { m with flag := false, tn := s.up }
  else (s.enterRole .single).onMntl fun m => { m with flag := true, mediaFrom := s.now }

/-- A start-up stage begins (17_startup_update R792). -/
def State.toStage (s : State) (n : Nat) : State :=
  (s.wr Fld.BOOT_STAT_STAGE 0 n).onBoot fun b => { b with stageAt := s.up }

/-- Stage 7 ends as soon as Kiln time is valid, and the mantle is negotiated (R792). -/
def State.timeStage (s : State) : State :=
  if s.mode = .startUp ∧ s.rd Fld.BOOT_STAT_STAGE 0 = 7 ∧ s.on Fld.KILN_STAT_TIME_VALID 0 then (s.toStage 8).negotiate else s

end Sys2Proof.Machine
end

