-- ==== Sys2Proof/Machine/Picture.lean ====
section
/-! DEFINITION. What a compositor head draws (07_stitch_heads R327 to R353, R356 to R358, R365, R369, R688; 06_cask
R288 to R291): source pixels of surfaces, rings and proxies, rotation, scaling, blending, and lines and signatures. -/

set_option autoImplicit false

namespace Sys2Proof.Machine

/-- Bytes laid over a line's bytes from a place on. -/
def overlayBytes (bs : List Byte) (at_ : Nat) (d : List Byte) : List Byte :=
  bs.take at_ ++ d.take (bs.length - at_) ++ bs.drop (at_ + d.length)

/-- A line as packets brought it: samples that lack are black (04_ethernet R193). -/
def Frame.segLine (fr : Frame) (f : Fmt) (field : Bool) (line : Nat) : List Byte :=
  let base := (List.range (f.width / 2)).flatMap fun _ => beBytes 5 (0x200 * 2 ^ 30 + 0x040 * 2 ^ 20 + 0x200 * 2 ^ 10 + 0x040)
  fr.segs.foldl (fun bs p =>
    if p.1 / 4096 = cellKey field line 0 / 4096 then overlayBytes bs (p.1 % 4096 / 2 * 5) p.2 else bs) base

/-- The samples of a line of a frame as far as its cells passed; none when a cell is missing or the line was lost to
an uncorrectable error (R234, R279, R304). -/
def Frame.lineOf (fr : Frame) (f : Fmt) (field : Bool) (line : Nat) : Option (List Byte) :=
  if fr.bad.contains (b2n field * 4096 + line) then none
  else if !fr.segs.isEmpty then some (fr.segLine f field line)
  else
    (List.range f.cells).foldl (fun acc i =>
      match acc with
      | none => none
      | some bs =>
        let c := tget [] fr.cells (cellKey field line (102 * i))
        if c.isEmpty then none else some (bs ++ c)) (some [])

/-! Samples of a stored frame. -/

/-- One pixel's Y and its pair's Cb and Cr, at 10 bits. -/
structure Yuv where
  y : Nat
  cb : Nat
  cr : Nat
deriving DecidableEq, Repr

/-- Black (R333). -/
def Yuv.black : Yuv := ⟨0x040, 0x200, 0x200⟩

/-- Pixel `x` of a line of pgroups of 5 bytes, Cb Y0 Cr Y1 (R134, R336). -/
def pgroupPx (w : Nat) (x : Nat) : Yuv :=
  ⟨if x % 2 = 0 then bitsOf w 20 10 else bitsOf w 0 10, bitsOf w 30 10, bitsOf w 10 10⟩

/-- Frame lines of a format: both fields (R313). -/
def Fmt.height (f : Fmt) : Nat := if f.inter then 2 * f.active else f.active

/-- A pixel of a stored frame in frame coordinates; a line that is missing is black (R279, R332). -/
def Frame.px (fr : Frame) (f : Fmt) (x y : Nat) : Yuv :=
  match fr.lineOf f (f.inter && y % 2 == 1) (if f.inter then y / 2 else y) with
  | some bs => pgroupPx (beAt bs (5 * (x / 2)) 5) x
  | none => .black

/-! Ply proxies (R288 to R291). -/

/-- Width and height of a format's proxy (R288). -/
def Fmt.proxyW (f : Fmt) : Nat := f.width / 2
def Fmt.proxyH (f : Fmt) : Nat := if f.inter then f.active else f.active / 2

/-- A sample of R289: the mean of the co-sited source samples that `g` reads at frame pixels. -/
def proxyMean (fr : Frame) (f : Fmt) (g : Yuv → Nat) (x dx y : Nat) : Nat :=
  if f.inter then (g (fr.px f x (2 * y)) + g (fr.px f (x + dx) (2 * y)) + 1) / 2
  else (g (fr.px f x (2 * y)) + g (fr.px f (x + dx) (2 * y)) + g (fr.px f x (2 * y + 1))
    + g (fr.px f (x + dx) (2 * y + 1)) + 2) / 4

/-- The proxy pixel of R289 before it is coded. -/
def Frame.proxyPx (fr : Frame) (f : Fmt) (x y : Nat) : Yuv :=
  ⟨proxyMean fr f Yuv.y (2 * x) 1 y, proxyMean fr f Yuv.cb (4 * (x / 2)) 2 y, proxyMean fr f Yuv.cr (4 * (x / 2)) 2 y⟩

/-- The 64 samples of one block: 32 of Y, 16 of Cb and 16 of Cr; beyond the line its last pixel is repeated (R290). -/
def Frame.block (fr : Frame) (f : Fmt) (y b : Nat) : List Nat :=
  let at_ := fun (i : Nat) => fr.proxyPx f (min (32 * b + i) (f.proxyW - 1)) y
  (List.range 32).map (fun i => (at_ i).y) ++ (List.range 16).map (fun i => (at_ (2 * i)).cb)
    ++ (List.range 16).map (fun i => (at_ (2 * i)).cr)

/-- A sample that decodes at most 4 codes away from `v` (R291). -/
def plySample (block : List Nat) (i v : Nat) : Nat := min 1023 (v + Config.plyError block i % 9 - 4)

/-- A pixel of a decoded proxy; a block that an uncorrectable error hit is black (R304). -/
def Frame.decodedPx (fr : Frame) (f : Fmt) (x y : Nat) : Yuv :=
  let b := x / 32
  if fr.bad.contains (2 ^ 24 + y * 64 + b) then .black
  else
    let blk := fr.block f y b
    let p := fr.proxyPx f x y
    ⟨plySample blk (x % 32) p.y, plySample blk (32 + x % 32 / 2) p.cb, plySample blk (48 + x % 32 / 2) p.cr⟩

/-! Layers (R327 to R341). -/

/-- A layer's fields (STCH.LAYER registers). -/
structure Layer where
  visible : Bool
  lostBlack : Bool
  kind : Nat
  format : Nat
  rotate : Nat
  mirror : Bool
  filter : Nat
  alpha : Nat
  x : Int
  y : Int
  w : Nat
  h : Nat
  cx : Nat
  cy : Nat
  cw : Nat
  ch : Nat
  ctab : Nat
  index : Nat
  stride : Nat
deriving DecidableEq, Repr

/-- The fields of a layer with their registers, in the order of `Layer`. -/
def layerFields : List (Reg × Field) :=
  [(.STCH_LAYER_CTL, Fld.STCH_LAYER_CTL_VISIBLE), (.STCH_LAYER_CTL, Fld.STCH_LAYER_CTL_LOST_BLACK),
   (.STCH_LAYER_CTL, Fld.STCH_LAYER_CTL_SRC_KIND), (.STCH_LAYER_CTL, Fld.STCH_LAYER_CTL_FORMAT),
   (.STCH_LAYER_CTL, Fld.STCH_LAYER_CTL_ROTATE), (.STCH_LAYER_CTL, Fld.STCH_LAYER_CTL_MIRROR),
   (.STCH_LAYER_CTL, Fld.STCH_LAYER_CTL_FILTER), (.STCH_LAYER_CTL, Fld.STCH_LAYER_CTL_GLOBAL_ALPHA),
   (.STCH_LAYER_POS, Fld.STCH_LAYER_POS_X), (.STCH_LAYER_POS, Fld.STCH_LAYER_POS_Y),
   (.STCH_LAYER_SIZE, Fld.STCH_LAYER_SIZE_W), (.STCH_LAYER_SIZE, Fld.STCH_LAYER_SIZE_H),
   (.STCH_LAYER_CROP_POS, Fld.STCH_LAYER_CROP_POS_CX), (.STCH_LAYER_CROP_POS, Fld.STCH_LAYER_CROP_POS_CY),
   (.STCH_LAYER_CROP_SIZE, Fld.STCH_LAYER_CROP_SIZE_CW), (.STCH_LAYER_CROP_SIZE, Fld.STCH_LAYER_CROP_SIZE_CH),
   (.STCH_LAYER_SRC, Fld.STCH_LAYER_SRC_CTAB), (.STCH_LAYER_SRC, Fld.STCH_LAYER_SRC_INDEX),
   (.STCH_LAYER_STRIDE, Fld.STCH_LAYER_STRIDE_STRIDE)]

/-- A layer from its field values. -/
def Layer.ofList (v : List Nat) : Layer :=
  let a := fun (i : Nat) => v.getD i 0
  { visible := a 0 == 1, lostBlack := a 1 == 1, kind := a 2, format := a 3, rotate := a 4, mirror := a 5 == 1,
    filter := a 6, alpha := a 7, x := sval 16 (a 8), y := sval 16 (a 9), w := a 10, h := a 11, cx := a 12, cy := a 13,
    cw := a 14, ch := a 15, ctab := a 16, index := a 17, stride := a 18 }

/-- The field values in force of layer `g` = head * 8 + layer. -/
def State.layerVals (s : State) (g : Nat) : List Nat := layerFields.map fun p => s.rd p.2 g

/-- Whether a head's L7 is an apron (R360). -/
def State.apronHead (s : State) (h : Nat) : Bool := s.rd Fld.STCH_HEAD_CFG_SAFETY h % 2 == 1

/-- The fields that show on an emitted line: an apron's direct writes show later than they read (R362). -/
def State.shownLayer (s : State) (h l e : Nat) : Layer :=
  if l = 7 ∧ s.apronHead h then
    match (s.headOf h).apron.find? fun p => p.1 ≤ e with
    | some p => .ofList p.2
    | none => .ofList (s.layerVals (h * 8 + l))
  else .ofList (s.layerVals (h * 8 + l))

/-- A pixel at 12 bits, with alpha (R328, R338). -/
structure Px where
  y : Nat
  cb : Nat
  cr : Nat
  a : Nat
deriving DecidableEq, Repr

/-- Round a rational half up to an integer (R339, R345). -/
def roundHalfUp (n : Int) (d : Nat) : Int := (2 * n + d) / (2 * d : Nat)

/-- R339: full-range 10-bit R, G, B to 12-bit YCbCr, exactly, each result rounded half up. -/
def rgbPx (matrix : Nat) (r g b a : Nat) : Px :=
  let kr : Int := if matrix = 0 then 2126 else 2627
  let kb : Int := if matrix = 0 then 722 else 593
  let y10 : Int := kr * r + (10000 - kr - kb) * g + kb * b
  let d : Nat := 10000 * 1023
  let db : Nat := d * (2 * (10000 - kb).toNat)
  let dr : Nat := d * (2 * (10000 - kr).toNat)
  ⟨(roundHalfUp (4 * (64 * (d : Int) + 876 * y10)) d).toNat,
   (roundHalfUp (4 * (512 * (db : Int) + 896 * (10000 * (10000 * b - y10)))) db).toNat,
   (roundHalfUp (4 * (512 * (dr : Int) + 896 * (10000 * (10000 * r - y10)))) dr).toNat,
   4 * a⟩

/-- An 8-bit value at 10 bits (R338). -/
def ten8 (v : Nat) : Nat := v * 4 + v / 64

/-- A 4:2:2 source's pixel `i` of a crop line at 4:4:4 and 12 bits (R338, R341): `own` takes an odd pixel's chroma from
its own pair, else it is the mean of its neighbours', and the last odd pixel repeats its left neighbour's. -/
def upsample (own : Bool) (cw : Nat) (at_ : Nat → Yuv) (i : Nat) : Px :=
  let p := at_ i
  let mix := fun (g : Yuv → Nat) =>
    if i % 2 = 0 || own || i + 1 ≥ cw then 4 * g p else (4 * g p + 4 * g (at_ (i + 1)) + 1) / 2
  ⟨4 * p.y, mix Yuv.cb, mix Yuv.cr, 4 * 1023⟩

/-- A surface's pixel: source column and line, with the pixel formats of R335 to R337; `own` as in `upsample`. -/
def State.surfPx (s : State) (m : Nat) (ly : Layer) (own : Bool) (i j : Nat) : Px :=
  let line := surfAddr ly.index ((ly.cy + j) * ly.stride * 64)
  let word := fun (off n : Nat) => beNat (s.bytesAt (line + off) n)
  let x := ly.cx + i
  match ly.format with
  | 0 => upsample own ly.cw (fun i => pgroupPx (word (5 * ((ly.cx + i) / 2)) 5) (ly.cx + i)) i
  | 2 =>
    let w := word (4 * x) 4
    rgbPx m (ten8 (bitsOf w 16 8)) (ten8 (bitsOf w 8 8)) (ten8 (bitsOf w 0 8)) (ten8 (bitsOf w 24 8))
  | 3 =>
    let w := word (4 * x) 4
    rgbPx m (bitsOf w 20 10) (bitsOf w 10 10) (bitsOf w 0 10) (bitsOf w 30 2 * 341)
  | _ =>
    let w := beNat (s.bytesAt (surfAddr ly.ctab (8 * word x 1)) 8)
    ⟨4 * bitsOf w 20 10, 4 * bitsOf w 10 10, 4 * bitsOf w 0 10, 4 * bitsOf w 30 10⟩

/-- The pixel of a proxy or ring layer in source pixels; outside the source's dimensions, or with no frame to read,
opaque black (R332 to R334). -/
def State.storedPx (s : State) (ly : Layer) (read : Option FrameRef) (x y : Nat) : Yuv :=
  match read with
  | none => .black
  | some r =>
    let src := s.srcOf r.src
    let fr := tget {} (if ly.kind = 1 then src.proxies else src.slots) r.slot
    match fmtOf fr.fmt, fmtOf (if s.srcFmt r.src = 0 then fr.fmt else s.srcFmt r.src) with
    | some f, some now =>
      if ly.kind = 1 then
        if x < now.proxyW ∧ y < now.proxyH then fr.decodedPx f x y else .black
      else if x < now.width ∧ y < now.height then fr.px f x y else .black
    | _, _ => .black

/-- Pixel (i, j) of a layer's crop at 12 bits. -/
def State.cropPx (s : State) (h : Nat) (ly : Layer) (read : Option FrameRef) (i j : Nat) : Px :=
  let own := ly.rotate % 2 == 1
  if ly.kind = 0 then s.surfPx (s.rd Fld.STCH_HEAD_CFG_MATRIX h) ly own i j
  else upsample own ly.cw (fun i => s.storedPx ly read (ly.cx + i) (ly.cy + j)) i

/-- Size of the rotated rectangle (R340). -/
def Layer.rotW (ly : Layer) : Nat := if ly.rotate % 2 = 1 then ly.ch else ly.cw
def Layer.rotH (ly : Layer) : Nat := if ly.rotate % 2 = 1 then ly.cw else ly.ch

/-- The crop pixel that pixel (i, j) of the rotated and mirrored rectangle shows (R340). -/
def Layer.unrotate (ly : Layer) (i j : Nat) : Nat × Nat :=
  let i := if ly.mirror then ly.rotW - 1 - i else i
  match ly.rotate with
  | 0 => (i, j)
  | 1 => (j, ly.ch - 1 - i)
  | 2 => (ly.cw - 1 - i, ly.ch - 1 - j)
  | _ => (ly.cw - 1 - j, i)

/-! The scaler (R342 to R347). Sines are computed in fixed point to 30 decimal digits (log entry 31, DESIGN CHOICE). -/

/-- The fixed-point unit. -/
def fxOne : Int := 10 ^ 30

/-- pi in fixed point. -/
def fxPi : Int := 3141592653589793238462643383280

/-- Terms of the sine series: `t` is the last term, `x2` the square of the argument. -/
def sinTerms (x2 : Int) : Nat → Int → Nat → Int
  | 0, _, _ => 0
  | n + 1, t, k => t + sinTerms x2 n (-(t * x2 / fxOne / ((2 * k + 2) * (2 * k + 3) : Nat))) (k + 1)

/-- sin(pi n / d) in fixed point, by the quarter in which n / d lies. -/
def sinPi (n d : Nat) : Int :=
  let r := n % (2 * d)
  let q := r % d
  let q := if 2 * q > d then d - q else q
  let x := fxPi * q / d
  let v := sinTerms (x * x / fxOne) 25 x 0
  if r < d then v else -v

/-- sinc(n / d) in fixed point (R345). -/
def sinc (n d : Nat) : Int := if n = 0 then fxOne else sinPi n d * fxOne / (fxPi * n / d)

/-- The weight of a tap at `d64` / 64 input pixels from the centre, for f = `fn` / `fd` (R345). -/
def tapWeight (a fn fd : Nat) (d64 : Int) : Int :=
  let u := fn * d64.natAbs
  sinc u (64 * fd) * sinc u (64 * fd * a) / fxOne

/-- The coefficients of one phase: `lo` taps before floor(x), `n` in all (R345). -/
def coeffs (n lo a fn fd p : Nat) : List Int :=
  let w := (List.range n).map fun (t : Nat) => tapWeight a fn fd (64 * ((t : Int) - lo) - p)
  let sum := w.foldl (· + ·) 0
  let c := w.map fun x => (2 * 1024 * x + sum) / (2 * sum)
  let fix := 1024 - c.foldl (· + ·) 0
  c.modify (lo + (if p ≥ 32 then 1 else 0)) (· + fix)

/-- The exponent m of R343 for a ratio `nin` / `nout`. -/
def boxExp (nin nout : Nat) : Nat :=
  ((List.range 3).find? fun m => decide (nin ≤ 2 * nout * 2 ^ m)).getD 3

/-- Scale along one axis (R342 to R347): output pixel `i` of `nout` from the samples `at_` of `nin`. -/
def scaleAxis (vert : Bool) (filter nin nout : Nat) (at_ : Nat → Nat) (i : Nat) : Nat :=
  if filter = 2 then at_ (min (nin - 1) ((2 * i + 1) * nin / (2 * nout)))
  else
    let m := boxExp nin nout
    let g := 2 ^ m
    let len := (nin + g - 1) / g
    let box := fun (k : Nat) =>
      if m = 0 then at_ k
      else (((List.range g).map fun t => at_ (min (nin - 1) (k * g + t))).foldl (· + ·) (g / 2)) / g
    let num : Int := ((2 * i + 1) * nin : Nat) - (nout * g : Nat)
    let den := 2 * nout * g
    let x0 := num / (den : Int)
    let p := ((num - x0 * den) * 64 / (den : Int)).toNat
    let n := if vert then 6 else 8
    let lo := if vert then 2 else 3
    let c := coeffs n lo (if vert then 3 else 4) (if filter = 1 then 3 * nout * g else nout * g)
      (if filter = 1 then 4 * nin else nin) p
    let tap := fun (t : Nat) => (box (max 0 (min ((len : Int) - 1) (x0 + t - lo))).toNat : Int)
    let sum := (c.zipIdx.map fun q => q.1 * tap q.2).foldl (· + ·) 0
    (max 0 (min 4095 ((sum + 512) / 1024))).toNat

/-- One component of a layer's output pixel (i, j). -/
def scaled (ly : Layer) (comp : Nat → Nat → Nat) (i j : Nat) : Nat :=
  if Config.verticalFirst then
    scaleAxis false ly.filter ly.rotW ly.w
      (fun x => scaleAxis true ly.filter ly.rotH ly.h (fun y => comp x y) j) i
  else
    scaleAxis true ly.filter ly.rotH ly.h
      (fun y => scaleAxis false ly.filter ly.rotW ly.w (fun x => comp x y) i) j

/-- A 12-bit alpha at the 10 bits of R349. -/
def alpha10 (a : Nat) : Nat :=
  if a % 4 = 0 then a / 4 else min 1023 (a / 4 + Config.alphaRound a % 2)

/-- Whether a layer's format has no per-pixel alpha (R336). -/
def Layer.solid (ly : Layer) : Bool := ly.format ≤ 1

/-- A layer's output pixel (i, j) at 12 bits with its 10-bit alpha. -/
def State.layerPx (s : State) (h : Nat) (ly : Layer) (read : Option FrameRef) (i j : Nat) : Px :=
  let at_ := fun (g : Px → Nat) => scaled ly (fun x y =>
    let q := ly.unrotate x y
    g (s.cropPx h ly read q.1 q.2)) i j
  ⟨at_ Px.y, at_ Px.cb, at_ Px.cr, if ly.solid then 1023 else alpha10 (at_ Px.a)⟩

/-! Blending (R348 to R351). -/

/-- The alpha of a layer pixel (R349). -/
def pixelAlpha (pa ga : Nat) : Nat := (pa * (ga + ga / 512) + 512) / 1024

/-- Blend one component at 12 bits (R350). -/
def blend (src dst a : Nat) : Nat :=
  let a := a + a / 512
  (src * a + dst * (1024 - a) + 512) / 1024

/-- Round to 10 bits and saturate (R351). -/
def final10 (v : Nat) : Nat := max 4 (min 1019 ((v + 2) / 4))

/-- Whether a layer is bound to what it names (R873). -/
def State.isBound (s : State) (g : Nat) (ly : Layer) : Bool := ly.kind != 0 || s.bound.contains g

/-- Blend a layer over a pixel of the raster, if it covers it. -/
def State.overlay (s : State) (h l : Nat) (ly : Layer) (alpha : Nat) (x y : Nat) (p : Px) : Px :=
  let i := (x : Int) - ly.x
  let j := (y : Int) - ly.y
  if s.isBound (h * 8 + l) ly && decide (0 ≤ i ∧ i < ly.w ∧ 0 ≤ j ∧ j < ly.h) then
    let q := s.layerPx h ly (tget none ((s.headOf h).reads.map fun r => (r.1, some r.2)) l) i.toNat j.toNat
    let a := pixelAlpha q.a alpha
    ⟨blend q.y p.y a, blend q.cb p.cb a, blend q.cr p.cr a, 0⟩
  else p

/-- Whether an abort at a place reaches pixel `x` of emitted line `e` (R356). -/
def past (a : Option (Nat × Nat)) (e x : Nat) : Bool :=
  a.any fun p => decide (p.1 < e) || (p.1 == e && decide (p.2 ≤ x))

/-- A register pair's colour at 12 bits. -/
def State.colour (s : State) (h : Nat) (y cb cr : Field) : Px := ⟨4 * s.rd y h, 4 * s.rd cb h, 4 * s.rd cr h, 0⟩

/-- The composite of a head at 12 bits: emitted line `e`, pixel `x` (R316, R322, R348, R356, R358, R365, R688). -/
def State.headPx (s : State) (h : Nat) (f : Fmt) (e x : Nat) : Px :=
  let r := s.headOf h
  let y := if f.inter then 2 * (e % f.active) + e / f.active else e
  let fill := s.colour h Fld.STCH_HEAD_FILL_Y Fld.STCH_HEAD_FILL_CB Fld.STCH_HEAD_FILL_CR
  let bg := s.colour h Fld.STCH_HEAD_BG_Y Fld.STCH_HEAD_BG_CB Fld.STCH_HEAD_BG_CR
  let apron := s.apronHead h
  let lost := past r.abort e x
  if (r.fillFrom.any fun n => decide (n ≤ e)) || past r.apronAbort e x || (lost && !apron) then fill
  else
    let bare := s.on Fld.STCH_HEAD_STAT_TRANSITION h || r.dropFrom.any fun n => decide (n ≤ e)
    let base :=
      if lost then fill
      else if bare then bg
      else (List.range 7).foldl (fun p l =>
        let ly := s.shownLayer h l e
        if ly.visible then s.overlay h l ly ly.alpha x y p else p) bg
    let ly := s.shownLayer h 7 e
    let forced := apron && r.force.any fun n => decide (n ≤ e)
    if forced then s.overlay h 7 ly 1023 x y base
    else if ly.visible && (apron || !bare) then s.overlay h 7 ly ly.alpha x y base
    else base

/-- Two pixels as they go out, Cb Y0 Cr Y1 at 10 bits (R351). -/
def State.headPair (s : State) (h : Nat) (f : Fmt) (e x : Nat) : List Nat :=
  let p := s.headPx h f e x
  [final10 p.cb, final10 p.y, final10 p.cr, final10 (s.headPx h f e (x + 1)).y]

/-- A line of a head as essence bytes (R134, R312, R313). -/
def State.headLine (s : State) (h : Nat) (f : Fmt) (field : Bool) (line : Nat) : List Byte :=
  (List.range (f.width / 2)).flatMap fun i =>
    match s.headPair h f (b2n field * f.active + line) (2 * i) with
    | [cb, y0, cr, y1] => beBytes 5 (cb * 2 ^ 30 + y0 * 2 ^ 20 + cr * 2 ^ 10 + y1)
    | _ => []

/-- The cells of a whole head frame, as they go into Vat, the ring and the proxy. -/
def State.headCells (s : State) (h : Nat) (f : Fmt) : List (Nat × List Byte) :=
  (List.range (if f.inter then 2 else 1)).flatMap fun fd =>
    (List.range f.active).flatMap fun line =>
      let bs := s.headLine h f (fd == 1) line
      (List.range f.cells).map fun i => (cellKey (fd == 1) line (102 * i), (bs.drop (255 * i)).take 255)

/-- Emitted lines whose frame lines lie in a region, in the order of emission (R369). -/
def regionLines (f : Fmt) (y h : Nat) : List Nat :=
  (List.range (f.height)).filter fun e =>
    let fy := if f.inter then 2 * (e % f.active) + e / f.active else e
    y ≤ fy && fy < y + h

/-- The value of a signature region: the CRC-32 of R130 over its output samples as 16-bit values (R369). -/
def State.headSig (s : State) (h : Nat) (f : Fmt) (i : Nat) : Nat :=
  let x := s.rd Fld.STCH_SIG_POS_X i
  crc32 ((regionLines f (s.rd Fld.STCH_SIG_POS_Y i) (s.rd Fld.STCH_SIG_SIZE_H i)).flatMap fun e =>
    (List.range (s.rd Fld.STCH_SIG_SIZE_W i / 2)).flatMap fun k =>
      (s.headPair h f e (x + 2 * k)).flatMap (beBytes 2))

/-! Fetch load (R352 to R355). -/

/-- A layer that is fetched in a frame: its output columns and frame lines inside the raster, and whether it is opaque. -/
structure Fetched where
  l : Nat
  ly : Layer
  x0 : Nat
  x1 : Nat
  y0 : Nat
  y1 : Nat
  opaque_ : Bool
deriving DecidableEq, Repr

/-- The layers a head fetches (R327, R329, R363, R688, R873), bottom first; opaque as R352 says. -/
def State.fetched (s : State) (h : Nat) (f : Fmt) : List Fetched :=
  let r := s.headOf h
  let apron := s.apronHead h
  (List.range 8).filterMap fun l =>
    let ly := s.shownLayer h l 0
    let ap := apron && l == 7
    let forced := ap && r.force.isSome
    let bare := (s.on Fld.STCH_HEAD_STAT_TRANSITION h || r.dropFrom == some 0) && !ap
    let x0 := (max 0 ly.x).toNat
    let y0 := (max 0 ly.y).toNat
    let x1 := (min (f.width : Int) (ly.x + ly.w)).toNat
    let y1 := (min (f.height : Int) (ly.y + ly.h)).toNat
    if s.isBound (h * 8 + l) ly && (ly.visible || ap) && !bare && decide (x0 < x1 ∧ y0 < y1) then
      let shown := ly.visible || forced
      let black := ly.kind != 0 && !(r.reads.any fun p => p.1 == l)
      some ⟨l, ly, x0, x1, y0, y1, shown && (forced || ly.alpha == 1023) && (ly.solid || black)⟩
    else none

/-- Whether a run from `x` to `x1` of a line is covered by opaque layers; `n` bounds the search. -/
def covered (above : List Fetched) (y x1 : Nat) : Nat → Nat → Bool
  | 0, x => decide (x1 ≤ x)
  | n + 1, x =>
    if x1 ≤ x then true
    else
      let reach := above.foldl (fun m a => if a.y0 ≤ y ∧ y < a.y1 ∧ a.x0 ≤ x ∧ x < a.x1 then max m a.x1 else m) x
      if reach = x then false else covered above y x1 n reach

/-- Bytes of `n` source lines of a layer (R355), times 8. -/
def fetchBits (ly : Layer) (lines : Nat) : Nat :=
  let px8 := match ly.format with
    | 0 => 20
    | 1 => 5
    | 4 => 8
    | _ => 32
  (lines * ly.cw * px8) * (if ly.rotate % 2 = 1 then 4 else 1) + (if ly.format = 4 then 2048 * 8 else 0)

/-- Source lines of a layer that map to raster lines inside the raster and not wholly covered (R353, R355; log entry
32, DEDUCED: a line of which a part is covered counts whole). -/
def sourceLines (above : List Fetched) (a : Fetched) : Nat :=
  ((List.range (a.y1 - a.y0)).map fun i =>
    let y := a.y0 + i
    if covered above y a.x1 8 a.x0 then 0
    else
      let j := ((y : Int) - a.ly.y).toNat
      let up := fun (n : Nat) => (n * a.ly.rotH + a.ly.h - 1) / a.ly.h
      up (j + 1) - up j).foldl (· + ·) 0

/-- A head's fetch load for one frame in bytes times 8: of all that it fetches, and of the apron alone. -/
def State.fetchLoad (s : State) (h : Nat) (f : Fmt) : Nat × Nat :=
  let ls := s.fetched h f
  ls.foldl (fun t a =>
    let b := fetchBits a.ly (sourceLines (ls.filter fun x => x.opaque_ && decide (a.l < x.l)) a)
    (t.1 + b, t.2 + if a.l = 7 ∧ s.apronHead h then b else 0)) (0, 0)

/-- A load as a rate in 0.001 GB/s, rounded down (R355). -/
def loadRate (f : Fmt) (bits : Nat) : Nat := bits * fine (sec 1) / (8 * 1000000 * f.period)

/-- Whether a load exceeds a head's guaranteed 25 GB/s (R354, R355). -/
def overShare (f : Fmt) (bits : Nat) : Bool := decide (25000000000 * 8 * f.period < bits * fine (sec 1))

end Sys2Proof.Machine
end

