-- ==== Sys2Proof/Machine/ChangeSets.lean ====
section
/-! DEFINITION. Units, staged writes and change sets (01_architecture R24 to R35, R868, R869; 05_warp_seam R248 to
R260; 15_hcp_control R735 to R739): what is staged for a unit, what is due at a boundary, and the states of a set. -/

set_option autoImplicit false

namespace Sys2Proof.Machine

/-- The unit that an S field belongs to (R26, R736): Seams, Mash engines (256 is the route engine), heads, audio
ports, TIME_OUT and CLK_OUT outputs. A bus input entry assigned to no bus belongs to no engine (R397). -/
def State.unitOf (s : State) (r : Reg) (i : Nat) : Option (TKind × Nat) :=
  match r with
  | .WARP_DST_ROUTE | .CASK_FS_CTL => some (.dst, i)
  | .MASH_ROUTE | .MASH_OUT_DELAY => some (.eng, 256)
  | .MASH_BUSIN =>
    if s.on Fld.MASH_BUSIN_MAP_ASSIGNED i then some (.eng, s.rd Fld.MASH_BUSIN_MAP_BUS i) else none
  | .MASH_BUS_FADER | .MASH_BUS_DYN_A | .MASH_BUS_DYN_B => some (.eng, i)
  | .STCH_HEAD_CFG | .STCH_HEAD_TIMING | .STCH_HEAD_BG | .STCH_HEAD_FILL | .STCH_SIG_CTL => some (.head, i)
  | .STCH_LAYER_CTL | .STCH_LAYER_POS | .STCH_LAYER_SIZE | .STCH_LAYER_CROP_POS | .STCH_LAYER_CROP_SIZE
  | .STCH_LAYER_SRC | .STCH_LAYER_STRIDE => some (.head, i / 8)
  | .STCH_SIG_POS | .STCH_SIG_SIZE | .STCH_SIG_EXP => some (.head, i / 16)
  | .APRT_MASK_LO | .APRT_MASK_HI => some (.aport, i)
  | .KILN_TOUT_CTL | .KILN_TOUT_START | .KILN_TOUT_PERIOD | .KILN_TOUT_WIDTH => some (.tout, i)
  | .KILN_CLK_CTL | .KILN_CLK_NUM => some (.clk, i)
  | _ => none

/-- Whether a unit is stopped (R867, R868): it has no boundary to wait for. -/
def State.unitStopped (s : State) (k : TKind) (i : Nat) : Bool :=
  match k with
  | .dst => !s.on Fld.WARP_DST_CFG_EN i
  | .eng => false
  | .head => !s.on Fld.STCH_HEAD_CFG_EN i && !s.on Fld.STCH_HEAD_STAT_RUNNING i
  | .aport => s.rd Fld.APRT_PORT_STAT_STATE i == 0
  | .tout => false
  | .clk => !s.on Fld.KILN_CLK_CTL_EN i

/-- Whether a unit itself is fenced (R33). Engine 256 and the Kiln outputs are no units that can be fenced. -/
def State.unitFenced (s : State) (k : TKind) (i : Nat) : Bool :=
  match k with
  | .dst => s.fenced .dst i
  | .eng => i < 256 && s.fenced .bus i
  | .head => s.fenced .head i
  | .aport => s.fenced .aport i
  | .tout | .clk => false

/-! Bits of a register. -/

/-- Bits of a field under a register mask. -/
def Field.maskOf (f : Field) (mask : Nat) : Nat := bitsOf mask f.lsb f.width

/-- A field's value with the bits under a register's mask taken from a register's value (R734). -/
def Field.merge (f : Field) (old val mask : Nat) : Nat :=
  let m := f.maskOf mask
  (old &&& ((2 ^ f.width - 1) ^^^ m)) ||| (bitsOf val f.lsb f.width &&& m)

/-- Put the masked bits of a register's fields of one access class in force. -/
def State.putFields (s : State) (a : Acc) (r : Reg) (i val mask : Nat) : State :=
  (r.fields.filter fun f => f.acc == a && f.maskOf mask != 0).foldl
    (fun s f => s.wr f i (f.merge (s.rd f i) val mask)) s

/-- One change that waits for a unit's boundary: a direct write or a change set entry (`src` names set and entry), in
the order of acceptance (R32). `at_` is when it reached the unit, `ta` its arm time if it has one. -/
structure Change where
  ord : Nat
  items : List CsItem
  src : Option (Nat × Nat)
  at_ : Nat
  ta : Option Nat
  allOrNone : Bool
  late : Bool
  verdict : Option Nat
deriving DecidableEq, Repr

/-- Put a change at its place in the order of acceptance. -/
def orderIn (c : Change) : List Change → List Change
  | [] => [c]
  | x :: xs => if c.ord < x.ord then c :: x :: xs else x :: orderIn c xs

/-- The entries of set `n` that wait in a unit's shadow. -/
def csWaiting (n : Nat) (c : ChangeSet) (k : TKind) (i : Nat) : List Change :=
  if 2 ≤ c.state && c.state ≤ 5 then
    c.entries.zipIdx.filterMap fun p =>
      let e := p.1
      match e.shadow with
      | some t =>
        if e.kind == k && e.inst == i && e.status == 0 then
          some { ord := c.ord, items := e.items, src := some (n, p.2), at_ := t,
                 ta := c.ta,
                 allOrNone := c.allOrNone, late := e.late, verdict := e.verdict }
        else none
      | none => none
  else []

/-- Direct writes that wait for a unit, each register's alone. -/
def State.directs (s : State) (k : TKind) (i : Nat) : List Change :=
  (s.staged.filter fun w => s.unitOf w.reg w.inst == some (k, i)).map fun w =>
    { ord := w.ord, items := [⟨w.reg, w.inst, w.val, w.mask⟩], src := none, at_ := w.at_, ta := none,
      allOrNone := false, late := false, verdict := w.verdict }

/-- Everything that waits for a unit, in the order of acceptance. -/
def State.waiting (s : State) (k : TKind) (i : Nat) : List Change :=
  (s.directs k i ++ s.cs.flatMap fun p => csWaiting p.1 p.2 k i).foldr orderIn []

/-- The staged value of an S field (R5): the value in force with everything that waits laid over it. -/
def State.stagedValue (s : State) (r : Reg) (f : Field) (i : Nat) : Nat :=
  match s.unitOf r i with
  | none => (s.staged.filter fun w => w.reg == r && w.inst == i).foldl (fun v w => f.merge v w.val w.mask) (s.rd f i)
  | some (k, j) =>
    ((s.waiting k j).flatMap fun c => c.items).foldl
      (fun v it => if it.reg = r ∧ it.inst = i then f.merge v it.val it.mask else v) (s.rd f i)

/-- Whether a change is due at a boundary whose guard begins at `guard` and which falls at `bound` (fine units): it
reached the unit by the guard, and its arm time has come (R7, R30, R251). An all-or-none entry is due only once its
set is COMMITTED or APPLYING. -/
def State.due (s : State) (guard bound : Nat) (c : Change) : Bool :=
  fine c.at_ ≤ guard &&
  (match c.ta with
   | none => true
   | some t => reached (bound / fine (ns 1) % 2 ^ 64) t) &&
  (match c.src with
   | some (n, _) => !c.allOrNone || (s.csOf n).state == 4 || (s.csOf n).state == 5
   | none => true)

/-- Change entry `e` of set `n`. -/
def State.onEntry (s : State) (n e : Nat) (g : CsEntry → CsEntry) : State :=
  let c := s.csOf n
  s.putCs n { c with entries := c.entries.modify e g }

/-- A set whose last entry has been applied or reported becomes DONE (R28). -/
def State.csSettle (s : State) (n : Nat) : State :=
  let c := s.csOf n
  if c.state = 5 ∧ (c.entries.all fun e => e.status != 0) then s.csGo n c 6 else s

/-- Entries of a split set that reach their unit inside the guard of its first boundary on or after the arm time are
marked late there (R30); never with NOW (R251). -/
def State.markLate (s : State) (k : TKind) (i guard bound : Nat) : State :=
  (s.waiting k i).foldl (fun s c =>
    match c.src, c.ta with
    | some (n, e), some t =>
      if !c.allOrNone && !(s.csOf n).now && fine c.at_ > guard && fine c.at_ ≤ bound && reached (bound / fine (ns 1) % 2 ^ 64) t then
        s.onEntry n e fun x => { x with late := true }
      else s
    | _, _ => s) s

/-- A change has been dealt with: a direct write leaves the stage, an entry takes its status and cause. -/
def State.finish (s : State) (c : Change) (status cause : Nat) : State :=
  match c.src with
  | none => s.setStaged (s.staged.filter fun w => w.ord != c.ord)
  | some (n, e) =>
    let s := if (s.csOf n).state = 4 then s.csGo n (s.csOf n) 5 else s
    (s.onEntry n e fun x => { x with status := status, cause := cause }).csSettle n

/-- The status of an applied change: APPLIED, or APPLIED_LATE (05_warp_seam, change set entry status). -/
def Change.okStatus (c : Change) : Nat := if c.late then 2 else 1

/-- Put a change's S fields in force. -/
def State.install (s : State) (c : Change) : State :=
  c.items.foldl (fun s it => s.putFields .s it.reg it.inst it.val it.mask) s

/-! Surfaces named by layers and entries (06_cask R297; 07_stitch R873). -/

/-- Whether a layer register array is one of a layer's. -/
def Reg.isLayer : Reg → Bool
  | .STCH_LAYER_CTL | .STCH_LAYER_POS | .STCH_LAYER_SIZE | .STCH_LAYER_CROP_POS | .STCH_LAYER_CROP_SIZE
  | .STCH_LAYER_SRC | .STCH_LAYER_STRIDE => true
  | _ => false

/-- A field of a layer as it stands under a list of items laid over what `base` gives. -/
def fieldUnder (base : Field → Nat) (r : Reg) (f : Field) (i : Nat) (items : List CsItem) : Nat :=
  items.foldl (fun v it => if it.reg = r ∧ it.inst = i then f.merge v it.val it.mask else v) (base f)

/-- Surfaces that layer `l` names when its fields are read through `g` (R873): its surface while it is visible, or
always for an apron, and a palette layer's colour table. -/
def State.namesOf (s : State) (l : Nat) (g : Reg → Field → Nat) : List Nat :=
  let head := l / 8
  let apron := l % 8 = 7 ∧ (s.rd Fld.STCH_HEAD_CFG_SAFETY head) % 2 = 1
  if (g .STCH_LAYER_CTL Fld.STCH_LAYER_CTL_VISIBLE = 1 ∨ apron) ∧ g .STCH_LAYER_CTL Fld.STCH_LAYER_CTL_SRC_KIND = 0 then
    g .STCH_LAYER_SRC Fld.STCH_LAYER_SRC_INDEX ::
      (if g .STCH_LAYER_CTL Fld.STCH_LAYER_CTL_FORMAT = 4 then [g .STCH_LAYER_SRC Fld.STCH_LAYER_SRC_CTAB] else [])
  else []

end Sys2Proof.Machine
end

