-- ==== Sys2Proof/Machine/Follow.lean ====
section
/-! DEFINITION. Audio following video, as the Seam drives it (08_mash_audio R417 to R422, R874): the follow group's
inputs, and the crossfades that Mash schedules when it learns of a change. -/

set_option autoImplicit false

namespace Sys2Proof.Machine

/-- The device sample rate (R373). -/
def State.fs (s : State) : Nat := if s.on Fld.MASH_CFG_RATE 0 then 96000 else 48000

/-- The first sample instant at or after a time in fine units (R374). -/
def State.sampleAfter (s : State) (t : Nat) : Nat := (t * s.fs + fine (sec 1) - 1) / fine (sec 1)

/-- The follow group of a destination. -/
def State.followOf (s : State) (d : Nat) : FollowS := tget {} s.mash.follow d
def State.putFollow (s : State) (d : Nat) (f : FollowS) : State :=
  s.onMash fun z => { z with follow := tput {} s.mash.follow d f }

/-- The Seam sets the INPUT fields of a follow group to the companion channels of a route, silence beyond them
(R417). -/
def State.setFollow (s : State) (d route : Nat) : State :=
  if !s.on Fld.MASH_DST_AUDIO_FOLLOW d then s
  else
    let n := if route < 1168 then s.rd Fld.MASH_SRC_AUDIO_COUNT route else 0
    s.each (List.range (s.rd Fld.MASH_DST_AUDIO_COUNT d)) fun s k =>
      let pos := s.rd Fld.MASH_DST_AUDIO_BASE d + k
      if k < n then
        (s.wr Fld.MASH_ROUTE_INPUT pos (s.rd Fld.MASH_SRC_AUDIO_BASE route + k)).flag Fld.MASH_ROUTE_SILENT pos false
      else s.flag Fld.MASH_ROUTE_SILENT pos true

/-- The route that a follow group is heading for as its changes stand. -/
def FollowS.target (f : FollowS) : Nat :=
  match (f.xs.filter fun x => x.back.isNone).getLast? with
  | some x => x.tgt
  | none => f.base

/-- A crossfade that will not be carried through: dropped when it has not begun, else turned back at sample `n`
(R421). -/
def turnBack (n : Nat) (p : Xfade → Bool) (xs : List Xfade) : List Xfade :=
  xs.filterMap fun x =>
    if p x && x.back.isNone then (if n < x.start then none else some { x with back := some n }) else some x

/-- Mash learns of a change of route (R418, R420, R874): `seam` is the switching instant in fine units. A change that
another learnt later in the order of acceptance outranks at the same audio seam is not followed. -/
def State.learn (s : State) (d tgt seam ord : Nat) : State :=
  if !s.on Fld.MASH_DST_AUDIO_FOLLOW d then s
  else
    let f := s.followOf d
    let sm := s.sampleAfter seam
    if f.xs.any fun x => x.seam == sm && x.ord > ord && x.back.isNone then s
    else
      let f := { f with xs := turnBack (s.sampleAfter (fine s.now)) (fun x => x.seam == sm && x.ord < ord) f.xs }
      if f.target = tgt then s.putFollow d f
      else
        let m := s.rd Fld.MASH_DST_AUDIO_XFADE_MS d * s.fs / 1000
        let fin := sm - m / 2 + m
        let soon := sm * fine (sec 1) < fine s.now * s.fs + (m / 2 + 2) * fine (sec 1)
        let begins := if soon then (fine s.now * s.fs + 3 * fine (sec 1) - 1) / fine (sec 1) else sm - m / 2
        let x : Xfade := { tgt := tgt, start := begins, stop := max begins fin, ord := ord, seam := sm }
        let s := if soon then s.bump Fld.MASH_CNT_XFADE_SHORT_CNT 0 1 else s
        s.putFollow d { f with xs := f.xs ++ [x] }

/-- The Seam does not apply a change that Mash may have begun to crossfade (R421). -/
def State.unlearn (s : State) (d ord : Nat) : State :=
  let f := s.followOf d
  s.putFollow d { f with xs := turnBack (s.sampleAfter (fine s.now)) (fun x => x.ord == ord) f.xs }

/-- A change applies at a switching instant: the group's inputs follow, and a change that Mash had not learnt of is
learnt now (R420). -/
def State.followApply (s : State) (d tgt seam ord : Nat) : State :=
  let f := s.followOf d
  let s := if f.xs.any fun x => x.ord == ord && x.back.isNone then s else s.learn d tgt seam ord
  s.setFollow d tgt

end Sys2Proof.Machine
end

