-- ==== Sys2Proof/Machine/Surfaces.lean ====
section
/-! DEFINITION. Surfaces (06_cask_frame_store R296 to R301; 07_stitch_heads R873): what names a surface, its state,
allocation, freeing, and the checks of writes that name it. -/

set_option autoImplicit false

namespace Sys2Proof.Machine

/-- Surfaces that layer `g` names by its fields in force, bound layers only (R873). -/
def State.namedInForce (s : State) (g : Nat) : List Nat :=
  if s.bound.contains g then s.namesOf g fun _ f => s.rd f g else []

/-- Surfaces that layer `g` names in its head's shadow: with the direct writes that wait laid over what is in force. -/
def State.namedInShadow (s : State) (g : Nat) : List Nat :=
  if s.bound.contains g && (s.staged.any fun w => w.reg.isLayer && w.inst == g) then
    s.namesOf g fun r f =>
      (s.staged.filter fun w => w.reg == r && w.inst == g).foldl (fun v w => f.merge v w.val w.mask) (s.rd f g)
  else []

/-- Surfaces that a change set entry would leave a layer naming (R297, R873). -/
def State.namedByEntry (s : State) (e : CsEntry) : List Nat :=
  ((e.items.filter fun it => it.reg.isLayer).map fun it => it.inst).eraseDups.flatMap fun g =>
    s.namesOf g fun r f => fieldUnder (fun f => s.stagedValue r f g) r f g e.items

/-- Entries not yet applied of sets that are OPEN or armed. -/
def State.openEntries (s : State) : List CsEntry :=
  s.cs.flatMap fun p => if 1 ≤ p.2.state && p.2.state ≤ 5 then p.2.entries.filter fun e => e.status == 0 else []

/-- Layers in force, layers in a shadow, and entries that name a surface (R297). -/
def State.forceRefs (s : State) (h : Nat) : Nat :=
  ((List.range 128).filter fun g => (s.namedInForce g).contains h).length
def State.otherRefs (s : State) (h : Nat) : Nat :=
  ((List.range 128).filter fun g => (s.namedInShadow g).contains h).length
    + (s.openEntries.filter fun e => (s.namedByEntry e).contains h).length

/-- The state code of a surface (R297). -/
def State.surfState (s : State) (h : Nat) : Nat :=
  let st := (s.surfOf h).state
  if st = 1 ∧ 0 < s.forceRefs h + s.otherRefs h then 2 else st

/-- Free blocks of the pool (R296). -/
def State.freeBlocks (s : State) : Nat :=
  s.rd Fld.CASK_POOL_STAT_TOTAL_BLOCKS 0 - (s.cask.surf.map fun p => p.2.blocks).foldl (· + ·) 0

/-- The lowest free handle. -/
def State.freeHandle (s : State) : Option Nat := (List.range 4096).find? fun h => (s.surfOf h).state == 0

/-- Allocate a surface (R296): refused for 0 bytes, for want of blocks or of a handle; it reads as zeros. -/
def State.surfAlloc (s : State) (size : Nat) (apron : Bool) : Status × Nat × State :=
  let n := (size + 2097151) / 2097152
  if size = 0 then (.errAccess, 0, s)
  else match s.freeHandle with
    | none => (.errFull, 0, s)
    | some h =>
      if s.freeBlocks < n then (.errFull, 0, s)
      else (.ok, h, (s.putSurf h { state := 1, apron := apron, blocks := n, writes := 0 }).clearBytes (surfAddr h 0) (2 ^ 32))

/-- A surface becomes FREE: its blocks are free, and invisible layers that hold its handle are unbound (R299, R873). -/
def State.dropSurf (s : State) (h : Nat) : State :=
  let holds := fun (g : Nat) =>
    s.rd Fld.STCH_LAYER_CTL_SRC_KIND g == 0 && (s.rd Fld.STCH_LAYER_SRC_INDEX g == h
      || (s.rd Fld.STCH_LAYER_CTL_FORMAT g == 4 && s.rd Fld.STCH_LAYER_SRC_CTAB g == h))
  let s := (s.putSurf h {}).clearBytes (surfAddr h 0) (2 ^ 32)
  s.setBound (s.bound.filter fun g => !holds g)

/-- Free a surface (R298, R301). -/
def State.surfFree (s : State) (safety : Bool) (h : Nat) : Status × State :=
  let r := s.surfOf h
  if r.state = 0 then (.errAddr, s)
  else if r.apron && !safety then (.errProtected, s)
  else if r.state = 3 then (.ok, s)
  else if s.otherRefs h ≠ 0 then (.errBusy, s)
  else if s.forceRefs h ≠ 0 then (.ok, s.putSurf h { r with state := 3 })
  else (.ok, s.dropSurf h)

/-- The check of a raw write to a surface (R298, R301), and the length check of R744. -/
def State.surfWritable (s : State) (safety : Bool) (h off n : Nat) : Status :=
  let r := s.surfOf h
  if r.state = 0 then .errAddr
  else if r.apron && !safety then .errProtected
  else if s.surfState h ≠ 1 then .errBusy
  else if off + n > r.blocks * 2097152 then .errAccess
  else .ok

/-- The check of a STAGE or layer write that leaves a layer naming a surface (R298, R300, R361). -/
def State.nameCheck (s : State) (apron : Bool) (h : Nat) : Status :=
  let r := s.surfOf h
  if r.state = 0 || r.state == 3 then .errAccess
  else if apron && !r.apron then .errAccess
  else if r.writes ≠ 0 then .errBusy
  else .ok

/-- At a head's frame start: a surface in PENDING_RELEASE that no layer in force names becomes FREE (R299), and the
subscribers are told (SURFACE_FREED, 15_hcp_control). -/
def State.releaseSurfaces (s : State) : State :=
  s.each ((s.cask.surf.filter fun p => p.2.state == 3).map fun p => p.1) fun s h =>
    if s.forceRefs h = 0 then (s.dropSurf h).event 6 0x0602 0 (beBytes 2 h) else s

/-! The check of a layer (R321, R330, R331, R335, R361). -/

/-- A layer's values with its field limits: sources and formats (R331), ratios (R342, R330), even crops of 4:2:2 and
Ply sources, and a surface's crop inside the surface (R335). -/
def layerOk (vals : List Nat) (blocks : Option Nat) (ctab : Option Nat) : Bool :=
  let a := fun (i : Nat) => vals.getD i 0
  let kind := a 2
  let format := a 3
  let x := sval 16 (a 8)
  let y := sval 16 (a 9)
  let w := a 10
  let h := a 11
  let cx := a 12
  let cy := a 13
  let cw := a 14
  let ch := a 15
  let rw := if a 4 % 2 = 1 then ch else cw
  let rh := if a 4 % 2 = 1 then cw else ch
  let src := match kind with
    | 0 => format == 0 || format == 2 || format == 3 || format == 4
    | 1 => format == 1 && decide (a 17 ≤ 1167)
    | 2 => format == 0 && decide (a 17 ≤ 1167)
    | _ => false
  let range := decide (-8192 ≤ x ∧ x ≤ 8191 ∧ -8192 ≤ y ∧ y ≤ 8191)
    && decide (1 ≤ w ∧ w ≤ 4096 ∧ 1 ≤ h ∧ h ≤ 4096 ∧ 1 ≤ cw ∧ cw ≤ 8192 ∧ 1 ≤ ch ∧ ch ≤ 8192)
  let ratio := decide (w ≤ rw ∧ rw ≤ 16 * w ∧ h ≤ rh ∧ rh ≤ 16 * h)
  let even := decide (2 ≤ format) || (cx % 2 == 0 && cw % 2 == 0)
  let bytes := match format with
    | 0 => (cx + cw) / 2 * 5
    | 4 => cx + cw
    | _ => 4 * (cx + cw)
  let inside := (kind != 0 || decide (bytes ≤ a 18 * 64)) &&
    (blocks.all fun n => decide ((cy + ch) * (a 18 * 64) ≤ n * 2097152))
  let table := match ctab with
    | some n => decide (1 ≤ n)
    | none => true
  src && range && ratio && even && inside && table

/-- The check of layer `g` as it would stand with the values `vals` (R321, R361, R873): the limits, then the state of
the surfaces that it would name. A surface it does not name is not checked. -/
def State.layerCheck (s : State) (g : Nat) (vals : List Nat) : Status :=
  let apron := g % 8 = 7 ∧ s.apronHead (g / 8)
  let names := (vals.getD 0 0 = 1 ∨ apron) ∧ vals.getD 2 0 = 0
  let idx := vals.getD 17 0
  let pal := vals.getD 3 0 = 4
  if apron ∧ vals.getD 2 0 ≠ 0 then .errAccess
  else if names then
    match s.nameCheck apron idx, (if pal then s.nameCheck apron (vals.getD 16 0) else .ok) with
    | .ok, .ok => if layerOk vals (some (s.surfOf idx).blocks) (if pal then some (s.surfOf (vals.getD 16 0)).blocks else none)
        then .ok else .errAccess
    | .ok, e => e
    | e, _ => e
  else if layerOk vals none none then .ok else .errAccess

/-- A write or STAGE of a layer that passed R321 binds it when it names allocated surfaces (R873). -/
def State.bindLayer (s : State) (g : Nat) (vals : List Nat) : State :=
  let there := fun (h : Nat) => (s.surfOf h).state == 1
  if (vals.getD 0 0 = 1 ∨ (g % 8 = 7 ∧ s.apronHead (g / 8))) ∧ vals.getD 2 0 = 0 ∧ there (vals.getD 17 0) ∧ (vals.getD 3 0 ≠ 4 ∨ there (vals.getD 16 0)) ∧ !s.bound.contains g then
    s.setBound (g :: s.bound)
  else s

end Sys2Proof.Machine
end

