-- ==== Sys2Proof/Machine/Ready.lean ====
section
/-! DEFINITION. What a destination may switch to and when (05_warp_seam R217 to R252), and the readiness of all-or-none change
sets, which every command may change (R255 to R259; 01_architecture R869; 07_stitch R320; 08_mash R415; 13_mantle_twin R670). -/

set_option autoImplicit false

namespace Sys2Proof.Machine

/-! Route checks (R217, R220, R221, R237, R246, R252). -/

/-- Whether a destination is a -22 packet destination, and whether a source slot is a -22 packet source (R220). -/
def State.dst22 (s : State) (d : Nat) : Bool := (s.dstFlow d).any fun f => s.rd Fld.ETH_FLOW_CTL_TYPE f == 1
def State.src22 (s : State) (k : Nat) : Bool := (s.srcFlow k).any fun f => s.rd Fld.ETH_FLOW_CTL_TYPE f == 1

/-- The format of a destination; of a -22 destination that of its flow (R221). -/
def State.dstFmt (s : State) (d : Nat) : Nat :=
  match s.dst22 d, s.dstFlow d with
  | true, some f => s.flowFmt f
  | _, _ => s.rd Fld.WARP_DST_CFG_FMT d

/-- Whether a destination is a -20 packet destination. -/
def State.dst20 (s : State) (d : Nat) : Bool := (s.dstFlow d).isSome && !s.dst22 d

/-- The depth against which R237 checks: the effective depth once the ring has held a frame, else the set depth
(R278; log entry 27, DEDUCED). -/
def State.depthOf (s : State) (k : Nat) : Nat := if s.ringEff k = 0 then s.ringDepth k else s.ringEff k

/-- The check of a route at STAGE and at a write (R246). -/
def State.routeCheck (s : State) (d v : Nat) : Status :=
  if v = black then .ok
  else if v ≥ 1168 then .errAccess
  else if s.dst22 d != s.src22 v then .errRefused
  else if s.dst22 d then
    if s.srcFmt v = s.dstFmt d then .ok else .errRefused
  else
    let known := s.srcFmt v ≠ 0
    if known ∧ s.srcFmt v ≠ s.dstFmt d then .errRefused
    else if s.rd Fld.WARP_DST_CFG_MODE d = 1 ∧ s.depthOf v < s.rd Fld.WARP_DST_CFG_LATENCY d then .errRefused
    else if s.rd Fld.WARP_DST_CFG_MODE d = 0 ∧ known ∧ !s.srcLost v ∧ !s.timedFor d v then .errRefused
    else .ok

/-- Whether the bundle, port or flow that carries a source is fenced (R33). -/
def State.pathFenced (s : State) (k : Nat) : Bool :=
  ((s.srcLane k).any fun p => s.fenced .bundle p.1) ||
  ((s.srcFlow k).any fun f => s.fenced .flow f || s.fenced .port (s.rd Fld.ETH_FLOW_CTL_PORT f))

/-- The checks of R252 on a route that is due: 0 may apply, 1 FENCED, 2 REFUSED. -/
def State.routeDue (s : State) (d v : Nat) : Nat :=
  if v ≥ 1168 then (if s.fenced .dst d then 1 else 0)
  else if s.fenced .dst d || s.pathFenced v then 1
  else
    let known := s.srcFmt v ≠ 0
    if known ∧ s.srcFmt v ≠ s.dstFmt d then 2
    else if s.rd Fld.WARP_DST_CFG_MODE d = 0 ∧ known ∧ !s.srcLost v ∧ !s.timedFor d v then 2
    else 0

/-- The route that a change would put in force, if it names one. -/
def Change.route (c : Change) : Option Nat :=
  (c.items.filter fun it => it.reg == .WARP_DST_ROUTE && Fld.WARP_DST_ROUTE_SRC.maskOf it.mask != 0).getLast?.map
    fun it => bitsOf it.val 0 11

/-- The route after a change, over the route in force. -/
def State.routeAfter (s : State) (d : Nat) (c : Change) : Nat :=
  fieldUnder (fun f => s.rd f d) .WARP_DST_ROUTE Fld.WARP_DST_ROUTE_SRC d c.items

/-- The verdict of R252 on a change for a destination. -/
def State.changeDue (s : State) (d : Nat) (c : Change) : Nat :=
  match c.route with
  | some _ => s.routeDue d (s.routeAfter d c)
  | none => if s.fenced .dst d then 1 else 0

/-! Boundaries (R238 to R242). -/

/-- Offsets of a destination's boundaries from its launch, in fine units: its switching lines, or the launch itself
for a -20 destination. -/
def State.boundOffsets (s : State) (d : Nat) (f : Fmt) : List Nat :=
  if s.dst20 d then [0]
  else if f.inter && !s.on Fld.WARP_DST_CFG_FIELD_SW d then [(f.sw1 - 1) * f.line, (f.sw2 - 1) * f.line]
  else [(f.sw1 - 1) * f.line]

/-- The first instant `o` + n periods at or after `t`. -/
def instantAfter (p o t : Nat) : Nat := if t ≤ o then o else (t - o + p - 1) / p * p + o

/-- The last instant `o` + n periods at or before `t`. -/
def instantBefore (p o t : Nat) : Option Nat := if t < o then none else some ((t - o) / p * p + o)

/-- The first boundary of a destination at or after `t` (fine units). -/
def State.nextBound (s : State) (d : Nat) (f : Fmt) (t : Nat) : Nat :=
  let off := fine (ns (s.rd Fld.WARP_DST_TIMING_OFFSET d))
  ((s.boundOffsets d f).map fun o => instantAfter f.period (off + o) t).foldl min
    (instantAfter f.period (off + (s.boundOffsets d f).headD 0) t)

/-- The boundary at which a change that has reached a destination will apply: the first on or after its arm time, or
the one after it when it came inside that one's guard (R30, R242, R251). -/
def State.boundFor (s : State) (d : Nat) (f : Fmt) (at_ : Nat) (ta : Option Nat) : Nat :=
  let a := fine at_ + 2 * f.line
  match ta with
  | none => s.nextBound d f a
  | some t => s.nextBound d f (max a (fine (ns t)))

/-- Mash learns of a change that has reached a destination (R420). -/
def State.learnChange (s : State) (d : Nat) (c : Change) : State :=
  match fmtOf (s.rd Fld.WARP_DST_CFG_FMT d), c.route with
  | some f, some v => if s.unitStopped .dst d || s.dst22 d then s
      else s.learn d v (s.boundFor d f c.at_ c.ta) c.ord
  | _, _ => s

/-- Whether mirroring is in force (R667). -/
def State.mirrors (s : State) : Bool := s.on Fld.MNTL_CTL_MIRROR 0 && s.on Fld.MNTL_STAT_COMPAT 0 && s.on Fld.MNTL_CTL_EN 0

/-! All-or-none sets while they are PREPARING (05_warp_seam R254 to R259). -/

/-- The layers that an entry for a head touches pass R321 as the entry would leave them (07_stitch R320). -/
def State.layersPass (s : State) (e : CsEntry) : Bool :=
  ((e.items.filter fun it => it.reg.isLayer).map fun it => it.inst).eraseDups.all fun g =>
    s.layerCheck g (layerFields.map fun p => fieldUnder (fun f => s.stagedValue p.1 f g) p.1 p.2 g e.items) == .ok

/-- Why an entry's unit is not ready, 0 when it is (01_architecture R33, R869; 05_warp_seam R255; 07_stitch R320; 08_mash
R415): 1 FENCED, before every other cause, 2 REFUSED, 3 not yet in its shadow, 4 unit disabled. -/
def State.entryCause (s : State) (c : ChangeSet) (e : CsEntry) : Nat :=
  let ch : Change := { ord := c.ord, items := e.items, src := none, at_ := 0, ta := none, allOrNone := true, late := false,
                       verdict := none }
  let due := if e.kind = .dst then s.changeDue e.inst ch else 0
  if s.unitFenced e.kind e.inst || due == 1 then 1
  else if e.shadow.isNone then 3
  else if s.unitStopped e.kind e.inst then 4
  else if due = 2 ∨ (e.kind = .head ∧ !s.layersPass e) then 2
  else 0

/-- The units of a set that are not ready: kind, instance and cause (R255; 13_mantle_twin R670). -/
def State.notReady (s : State) (c : ChangeSet) : List (Nat × Nat × Nat) :=
  c.entries.filterMap fun e =>
    match s.entryCause c e with
    | 0 => none
    | k => some (e.kind.code, e.inst, k)

/-- Every unit is ready, and while a holder mirrors its twin's copy as well (R256; 13_mantle_twin R670). -/
def State.csReady (s : State) (c : ChangeSet) : Bool :=
  (s.notReady c).isEmpty && (!(s.role == .holder && s.mirrors) || c.twinReady)

/-- T_p has not passed (R256, R257). -/
def State.beforeTp (s : State) (c : ChangeSet) : Bool := !reached s.count c.tp

/-- Mash learns of the changes of a set that have reached their Seams (08_mash R420). -/
def State.learnSet (s : State) (n : Nat) : State :=
  ((s.csOf n).entries.filter fun e => e.kind == .dst).foldl (fun s e =>
    ((csWaiting n (s.csOf n) .dst e.inst).foldl (fun s c => s.learnChange e.inst c)) s) s

/-- A set becomes COMMITTED (R256). One armed with NOW has its time now: 1 ms after the instant `at_` of the commit (R248),
and Mash learns of it. A mirroring holder tells its twin (13_mantle_twin R667, R670). -/
def State.commitSet (s : State) (n at_ : Nat) : State :=
  let c := s.csOf n
  let ta := (at_ / 65536 + 1000000) % 2 ^ 64
  let c := if c.now then { c with ta := some ta, armReg := ta } else c
  let s := s.csGo n c 4
  let s := if c.now then s.learnSet n else s
  if s.role = .holder && s.mirrors then
    if hn : n < 32 then s.mantle (.mirror (.commit ⟨n, hn⟩) s.now .ok) else s
  else s

/-- Follow one PREPARING set: a standby's copy reports each change of its readiness (13_mantle_twin R670); elsewhere an
AUTO_COMMIT set is COMMITTED once every unit is ready (R256). -/
def State.settleSet (s : State) (n : Nat) : State :=
  let c := s.csOf n
  if c.state ≠ 3 then s
  else if s.role = .standby && s.mirrors then
    let not_ := s.notReady c
    if c.told = some not_ then s
    else (s.putCs n { c with told := some not_ }).mantle (.csReady n not_.isEmpty not_)
  else if c.auto && s.beforeTp c && s.csReady c then s.commitSet n s.now
  else s

/-- Follow every PREPARING set. -/
def State.settleSets (s : State) : State :=
  s.each ((s.cs.filter fun p => p.2.state == 3).map fun p => p.1) State.settleSet

/-- A command of the main islands: without effect while they are isolated or held in reset. The readiness of PREPARING change
sets follows whatever it changes (R255, R256). -/
def onMain (dt : Nat) (s : State) (f : State → State) : Res :=
  .next (if s.iso then s.start dt else (f (s.start dt)).settleSets)

end Sys2Proof.Machine
end

