-- ==== Sys2Proof/Machine/Lanes.lean ====
section
/-! DEFINITION. Izsar lanes (02_izsar_lanes): training, alignment markers, 7-lane
mode, electrical idle, forwarded clock faults and the PRBS checkers. -/

set_option autoImplicit false

namespace Sys2Proof.Machine

/-! Registers of a bundle's lanes. -/

/-- Whether receive lane `l` is in service. -/
def State.laneOk (s : State) (b l : Nat) : Bool := bitOf (s.rd Fld.IZL_LINK_STAT_LANES_OK b) l

/-- Receive lanes in service. -/
def State.lanesOk (s : State) (b : Nat) : List Nat := (List.range 8).filter (s.laneOk b)

/-- Put a lane in or out of service. -/
def State.setLane (s : State) (b l : Nat) (ok : Bool) : State :=
  s.wr Fld.IZL_LINK_STAT_LANES_OK b (setBitTo (s.rd Fld.IZL_LINK_STAT_LANES_OK b) l ok)

/-- Slot positions that 7-lane mode keeps (R110, R111): those not shed, less 35 when POS35_OFF, at most 31, the
highest-numbered going first. -/
def State.kept7 (s : State) (b : Nat) : List Nat :=
  let shed := s.rd Fld.IZL_DEGRADE_SHED_LO_SHED_LO b + 2 ^ 32 * s.rd Fld.IZL_DEGRADE_SHED_HI_SHED_HI b
  ((List.range 36).filter fun p =>
    !bitOf shed p && !(p == 35 && s.pos35Off b)).take 31

/-- Whether a receive bundle carries a slot position (R69, R70, R110). -/
def State.carries (s : State) (b p : Nat) : Bool :=
  (s.link b == 5 && !(p == 35 && s.pos35Off b)) || (s.link b == 6 && (s.kept7 b).contains p)

/-- Whether a transmit bundle carries a slot position (R69, R70, R110 to R112). -/
def State.txCarries (s : State) (b p : Nat) : Bool :=
  if s.on Fld.IZL_LINK_STAT_TX_7LANE b then (s.kept7 b).contains p else !(p == 35 && s.pos35Off b)

/-- Data lanes that a receive bundle uses (R108, R109). -/
def State.rxLanes (s : State) (b : Nat) : List Nat :=
  (List.range 8).filter fun l => !(s.link b == 6 && s.rd Fld.IZL_LINK_STAT_RX_OMIT b == l)

def State.putRx (s : State) (b l : Nat) (x : LaneRx) : State :=
  let r := s.bndOf b
  s.putBnd b { r with rx := tput {} r.rx l x }

/-- Every receive lane changed alike. -/
def BndS.onLanes (r : BndS) (f : LaneRx → LaneRx) : BndS :=
  { r with rx := (List.range 8).foldl (fun t l => tput {} t l (f (tget {} t l))) r.rx }

/-- Forget the sequence of every stream that a bundle receives (R132). -/
def State.unsync (s : State) (b : Nat) : State :=
  s.onCell fun z => { z with rx := z.rx.filter fun p => p.1 / 32768 != b, anc := z.anc.filter fun p => p.1 / 32768 != b,
                             side := z.side.filter fun p => p.1 / 32768 != b }

/-- Every slot of a bundle becomes a lost source (R141), and its streams lose their sequence. -/
def State.dropSlots (s : State) (b : Nat) : State := (s.each (s.bundleSrcs b) State.loseSlot).unsync b

/-- What follows a change of MANTLE's state (13_mantle_twin R647, R661). -/
def State.linkChanged (s : State) (b : Nat) : State := if b = 32 then s.sick.refSettle else s

/-- A bundle goes DOWN (R81, R91, R95, R113, R115): counted, its slots lost, FS_001 standing and FS_002 not. A bundle that is OFF
stays so (R872). -/
def State.linkDown (s : State) (b : Nat) : State :=
  if s.link b = 7 ∨ s.link b = 0 then s
  else
    let s := (s.wr Fld.IZL_LINK_STAT_STATE b 7).bump Fld.IZL_CNT_LINK_DOWN_CNT b 1
    let s := (s.flag Fld.IZL_LINK_CTL_RETRAIN b false).dropSlots b
    let r := s.bndOf b
    let s := s.putBnd b { r.onLanes fun x => { x with discard := false, awake := false } with glitch := none, hurt := false }
    ((((s.wr Fld.IZL_LINK_STAT_RX_IDLE b 0).lower 2 b).raise 1 b 0).settleMode).linkChanged b

/-- Training begins with all eight lanes (R78, R83): CLOCK_WAIT, no lane failed, both directions out of 7-lane
mode (R114; log entry 24, DEDUCED). MISWIRE is cleared here, for which the spec names no moment, and the transmitter's marker count
goes on (log entry 129, DESIGN CHOICE). -/
def State.train (s : State) (b : Nat) : State :=
  let s := s.dropSlots b
  let s := ((s.wr Fld.IZL_LINK_STAT_STATE b 1).wr Fld.IZL_LINK_STAT_LANES_OK b 0).wr Fld.IZL_LINK_STAT_RX_OMIT b 0
  let s := ((s.flag Fld.IZL_LINK_STAT_TX_7LANE b false).wr Fld.IZL_LINK_STAT_TX_OMIT b 0).flag
    Fld.IZL_LINK_STAT_MISWIRE b false
  let s := s.each (List.range 8) fun s l =>
    ((s.flag Fld.IZL_LANE_STAT_FAILED (laneIx b l) false).flag Fld.IZL_LANE_STAT_LOCK (laneIx b l) false).wr
      Fld.IZL_LANE_STAT_DESKEW (laneIx b l) 0
  let r := s.bndOf b
  let s := s.putBnd b { r.onLanes fun x => { x with discard := false, awake := false, next := none, miss := 0, hits := 0, b7 := none } with
    found := [], pos := 0, deskewed := false, farOne := none, glitch := none, hurt := false, clkFaultAt := none,
    seen := [], failAt := [] }
  let s := s.putTxb b { s.txOf b with seven := none }
  (((s.wr Fld.IZL_LINK_STAT_RX_IDLE b 0).lower 2 b).settleMode).linkChanged b

/-- Every SEEN flag of a bundle is cleared (R78). -/
def State.clearSeen (s : State) (b : Nat) : State :=
  s.each (List.range 8) fun s l => s.flag Fld.IZL_LANE_STAT_SEEN (laneIx b l) false

/-- A receive data lane fails (R104): FS_000, and outside training DOWN when 7-lane mode is not permitted or this is
a second failed lane, also before the bundle has switched (R113; log entry 130, DEDUCED). Not recorded in a marker period with a clock
fault (R117). -/
def State.laneFail (s : State) (b l : Nat) : State :=
  let r := s.bndOf b
  let masked := r.clkFaultAt.any fun t => decide (r.periodAt ≤ t)
  if s.on Fld.IZL_LANE_STAT_FAILED (laneIx b l) || masked then s
  else
    let s := ((s.flag Fld.IZL_LANE_STAT_FAILED (laneIx b l) true).flag Fld.IZL_LANE_STAT_LOCK (laneIx b l) false).setLane
      b l false
    let s := s.putBnd b { r with failAt := (l, s.up) :: r.failAt }
    let s := s.raise 0 b l
    if s.linkUp b && (!s.on Fld.IZL_LINK_CTL_DEGRADE_EN b || (s.lanesOk b).length < 7) then s.linkDown b else s

/-- The failures of lanes in the marker period of a clock fault are not recorded (R117). -/
def State.unfail (s : State) (b : Nat) : State :=
  let r := s.bndOf b
  s.each ((r.failAt.filter fun p => decide (r.periodAt ≤ p.2)).map fun p => p.1) fun s l =>
    (s.flag Fld.IZL_LANE_STAT_FAILED (laneIx b l) false).setLane b l true

/-! What arrives (R59, R60, R65, R77, R89, R108, R109). -/

/-- A receive lane takes line bits: destuffer, then descrambler. The data bits, the stuff violations, the lane after them. -/
def LaneRx.take (x : LaneRx) (n : Nat) (bits : List Bool) : List Bool × Nat × LaneRx :=
  let y := destuff n x.expect x.run x.last bits
  let d := descramble x.hist y.1.1
  (d.1, y.1.2, { x with hist := d.2, expect := y.2.1, run := y.2.2.1, last := y.2.2.2, viol := x.viol + y.1.2 })

/-- The line bits that bring bytes to a lane without an error. -/
def LaneRx.lineFor (x : LaneRx) (n : Nat) (data : List Byte) : List Bool :=
  let d := scramble x.hist (lineBits data)
  (if x.expect then [!x.last] else []) ++ (stuff n (if x.expect then 0 else x.run) x.last d.1).1

/-- A lane takes `k` data bytes. -/
def BndS.takeBytes (r : BndS) (n l k : Nat) (bits : List Bool) : (List Byte × Nat) × BndS :=
  let x := r.rxLane l
  let p := x.take n bits
  ((lineBytes k p.1, p.2.1), { r with rx := tput {} r.rx l { p.2.2 with got := x.got + k } })

/-- A clock glitch costs every lane the word in progress (R115): its bytes of the cell read 0. -/
def cutWord (c : List Byte) : List Byte := c.zipIdx.map fun p => if p.2 % 34 < 8 then 0 else p.1

/-- The chunks of a cell are taken from their lanes and put together again (R60, R109): the cell, stuff violations, and the bundle
after it. -/
def BndS.takeCell (r : BndS) (n : Nat) (lanes : List Nat) (rx : RxCell) : (List Byte × Nat) × BndS :=
  let p := (List.range 8).foldl (fun (p : (List Byte × Nat) × BndS) k =>
    let l := laneOfChunk lanes r.rxCells k
    let bits := match rx with
      | .bytes c => (p.2.rxLane l).lineFor n ((c.drop (34 * k)).take 34)
      | .line chunks => chunks.getD k []
    let q := p.2.takeBytes n l 34 bits
    ((p.1.1 ++ q.1.1, p.1.2 + q.1.2), q.2)) (([], 0), r)
  let c := match rx with
    | .bytes c => c
    | .line _ => p.1.1
  ((if r.hurt then cutWord c else c, p.1.2), { p.2 with rxCells := r.rxCells + 1, hurt := false })

/-- Stuff violations are counted as the destuffer finds them (R65, R118). -/
def State.violated (s : State) (b n : Nat) : State := s.bump Fld.IZL_CNT_STUFF_VIOL_CNT b n

/-- A cell arrives on a bundle: its bytes, none when the line bits are discarded (R89), and the state after them. In a near-end loop
it is the next that the transmitter sent (R99). -/
def State.cellIn (s : State) (b : Nat) (rx : RxCell) : List Byte × State :=
  let r := s.bndOf b
  let take := fun (r : BndS) (rx : RxCell) =>
    let p := r.takeCell (s.stuffN b) (s.rxLanes b) rx
    (p.1.1, (s.putBnd b p.2).violated b p.1.2)
  if s.link b = 0 then ([], s)
  else if s.looped b then
    match (s.txOf b).loop with
    | [] => ([], s)
    | c :: rest =>
      let q := take r (.bytes c)
      (q.1, q.2.putTxb b { q.2.txOf b with loop := rest })
  else if (s.rxLanes b).any fun l => (r.rxLane l).discard then ([], s)
  else take r rx

/-- A control word of a kind arrives on a lane: its bytes, when it is recognised (R71, R77); any other word is data. -/
def State.wordIn (s : State) (b l kind : Nat) (rx : RxWord) : Option (List Byte) × State :=
  let r := s.bndOf b
  let take := fun (r : BndS) (rx : RxWord) =>
    let bits := match rx with
      | .bytes w => (r.rxLane l).lineFor (s.stuffN b) (w.take 8)
      | .line x => x
    let x := r.rxLane l
    let p := r.takeBytes (s.stuffN b) l 8 bits
    let w := match rx with
      | .bytes w => w
      | .line _ => p.1.1
    let known := beAt w 0 4 == 0x9C4E63B1 && beAt w 5 1 / 16 == kind
    let q := p.2.rxLane l
    let s := (s.putBnd b { p.2 with rx := tput {} p.2.rx l { q with got := if known then x.got else q.got } }).violated b p.1.2
    (if known then some w else none, s)
  if s.link b = 0 || (r.rxLane l).discard then (none, s)
  else if s.looped b then
    match (s.txOf b).loopWords.find? fun p => p.1 == l with
    | some p =>
      if beAt p.2 5 1 / 16 = kind then
        let q := take r (.bytes p.2)
        (q.1, q.2.putTxb b { q.2.txOf b with loopWords := (q.2.txOf b).loopWords.erase p })
      else (none, s)
    | none => (none, s)
  else take r rx

/-- The checks of R77 on a received control word: another bundle or lane is a miswire. The answer says whether the
word may be used. -/
def State.wordCheck (s : State) (b l : Nat) (w : List Byte) : Bool × State :=
  if beAt w 4 1 = b ∧ beAt w 5 1 % 16 = l then (true, s)
  else (false, ((s.flag Fld.IZL_LINK_STAT_MISWIRE b true).laneFail b l).raise 6 b 0)

/-! Training (R78 to R83). -/

/-- CLOCK_LANE_QUALIFIED (R78): the clock lane has been qualified for 10 us; after a rate change only R116
requalifies it. -/
def execClockLaneQualified (dt : Nat) (b : Fin 33) (s : State) : Res :=
  onMain dt s fun s =>
    let r := s.bndOf b
    if r.rateHold then s
    else
      let s := s.putBnd b { r with clkOk := true }
      if s.link b = 1 then s.wr Fld.IZL_LINK_STAT_STATE b 2 else s

/-- ADAPT_DONE (R78): the bit-slip search begins at position 0. -/
def execAdaptDone (dt : Nat) (b : Fin 33) (s : State) : Res :=
  onMain dt s fun s =>
    if s.link b = 2 then
      let s := (s.wr Fld.IZL_LINK_STAT_STATE b 3).clearSeen b
      let s := s.each (List.range 8) fun s l => s.wr Fld.IZL_LANE_STAT_PHASE (laneIx b l) 0
      s.putBnd b { s.bndOf b with found := [], pos := 0, posAt := s.up }
    else s

/-- BIT_SLIP_POSITION (R78): after 11 us lanes that saw a marker are found and the others slip one bit later; the
search ends when all are found or after 64 positions, and a lane not found has failed. -/
def execBitSlipPosition (dt : Nat) (b : Fin 33) (s : State) : Res :=
  onMain dt s fun s =>
    let r := s.bndOf b
    if s.link b = 3 ∧ s.up ≥ r.posAt + us 11 then
      let found := r.found ++ (List.range 8).filter fun l =>
        !r.found.contains l && s.on Fld.IZL_LANE_STAT_SEEN (laneIx b l)
      let s := s.each ((List.range 8).filter fun l => !found.contains l) fun s l =>
        s.wr Fld.IZL_LANE_STAT_SLIP (laneIx b l) ((s.rd Fld.IZL_LANE_STAT_SLIP (laneIx b l) + 1) % 64)
      let s := s.each (found.filter fun l => !s.on Fld.IZL_LANE_STAT_FAILED (laneIx b l)) fun s l => s.setLane b l true
      let s := s.putBnd b { r with found := found, pos := r.pos + 1, posAt := s.up }
      if found.length = 8 ∨ r.pos + 1 ≥ 64 then
        let s := (s.wr Fld.IZL_LINK_STAT_STATE b 4).putBnd b ((s.bndOf b).onLanes fun x => { x with next := none, hits := 0, miss := 0 })
        s.each ((List.range 8).filter fun l => !found.contains l) fun s l => s.laneFail b l
      else s.clearSeen b
    else s

/-- DESKEW_DONE (R78, R79): two marker periods after the search; `arrival` is the word in which each lane's marker arrived. Earlier
lanes are delayed to the latest; a lane that would need more than 15 words fails. -/
def execDeskewDone (dt : Nat) (b : Fin 33) (arrival : Vector Nat 8) (s : State) : Res :=
  onMain dt s fun s =>
    if s.link b = 4 ∧ (s.bndOf b).deskewed = false ∧ (s.bndOf b).posAt + 2 * markerPeriod ≤ s.up then
      let lanes := s.lanesOk b
      let last := lanes.foldl (fun m l => max m (arrival.toList.getD l 0)) 0
      let s := s.putBnd b { (s.bndOf b).onLanes fun x => { x with next := none, hits := 0 } with deskewed := true, posAt := s.up }
      s.each lanes fun s l =>
        let d := last - arrival.toList.getD l 0
        if d ≤ 15 then s.wr Fld.IZL_LANE_STAT_DESKEW (laneIx b l) d else s.laneFail b l
    else s

/-- VERIFY_DONE (R78, R81): four marker periods after the deskew; a lane whose markers did not stand four times in a row at the
expected position with consecutive counts fails. All eight lanes in service give UP; exactly one failed with DEGRADE_EN gives
UP_7LANE; else DOWN. The bundle comes up without a measured link delay (03_cells_slots R154). -/
def execVerifyDone (dt : Nat) (b : Fin 33) (s : State) : Res :=
  onMain dt s fun s =>
    if s.link b = 4 ∧ (s.bndOf b).deskewed ∧ (s.bndOf b).posAt + 4 * markerPeriod ≤ s.up then
      let s := s.each ((s.lanesOk b).filter fun l => decide (((s.bndOf b).rxLane l).hits < 4)) fun s l => s.laneFail b l
      let n := (s.lanesOk b).length
      let s := ((s.flag Fld.IZL_LINK_CTL_RETRAIN b false).flag Fld.CELL_LINK_INFO_VALID b false).wr Fld.CELL_LINK_DELAY_DELAY b 0
      if n = 8 then (((s.wr Fld.IZL_LINK_STAT_STATE b 5).unsync b).lower 1 b).linkChanged b
      else if n = 7 ∧ s.on Fld.IZL_LINK_CTL_DEGRADE_EN b then
        let gone := ((List.range 8).filter fun l => !s.laneOk b l).headD 0
        let s := ((s.wr Fld.IZL_LINK_STAT_STATE b 6).wr Fld.IZL_LINK_STAT_RX_OMIT b gone).unsync b
        (((s.lower 1 b).raise 2 b 0).settleMode).linkChanged b
      else s.linkDown b
    else s

/-- AUTO_RETRAIN_RETRY (R82): a DOWN bundle whose clock is qualified is retrained, every 10 ms until it succeeds. -/
def execAutoRetrainRetry (dt : Nat) (b : Fin 33) (s : State) : Res :=
  onMain dt s fun s =>
    let r := s.bndOf b
    if s.link b = 7 ∧ s.on Fld.IZL_LINK_CTL_AUTO_RETRAIN b ∧ s.on Fld.IZL_LINK_CTL_ENABLE b ∧ r.clkOk
        ∧ s.up ≥ r.retryAt then
      let s := s.train b
      s.putBnd b { s.bndOf b with retryAt := s.up + ms 10 }
    else s

/-! Markers (R72, R73, R104 to R114). -/

/-- The idle state that a transmitter may enter now, 0 for none (R84, R85, R86): the one IDLE_REQ names, or light
idle under IDLE_AUTO after 1 us of idle cells. -/
def State.idleWanted (s : State) (b : Nat) : Nat :=
  if s.linkUp b && s.rd Fld.IZL_LINK_CTL_MODE b == 0 && (s.bundleDsts b).isEmpty then
    let q := s.rd Fld.IZL_LINK_CTL_IDLE_REQ b
    if q ≠ 0 then q
    else match (s.txOf b).idleFrom with
      | some t => if s.on Fld.IZL_LINK_CTL_IDLE_AUTO b && decide (t + us 1 ≤ s.up) then 1 else 0
      | none => 0
  else 0

/-- Whether a transmit bundle sends: enabled, out of idle and not in PRBS mode. -/
def State.txRuns (s : State) (b : Nat) : Bool :=
  s.on Fld.IZL_LINK_CTL_ENABLE b && s.rd Fld.IZL_LINK_STAT_TX_IDLE b == 0 && s.rd Fld.IZL_LINK_CTL_MODE b != 4

/-- The transmitter's alignment marker (R72, R73, R105 to R107): idle cells, and on MANTLE the lane test, fill the period up to it; it
stands on every active lane, with the far-lane map and, from the 7-lane switch on, the omitted lane, which goes idle. Cells that waited
for it follow, and side cells (03_cells R160). -/
def State.txMarker (s : State) (b : Nat) : State :=
  let s := if b = 32 ∧ s.linkUp b ∧ s.role ≠ .single then s.laneTest b else s
  let s := s.padIdle b
  let r := s.txOf b
  let s := match r.seven with
    | some l => if s.on Fld.IZL_LINK_STAT_TX_7LANE b then s else
        ((((s.flag Fld.IZL_LINK_STAT_TX_7LANE b true).wr Fld.IZL_LINK_STAT_TX_OMIT b l).settleMode).emit (.laneIdle b l))
    | none => s
  let b7 := (if s.on Fld.IZL_LINK_STAT_TX_7LANE b then 128 + 16 * s.rd Fld.IZL_LINK_STAT_TX_OMIT b else 0) + r.count
  let map := s.rd Fld.IZL_LINK_STAT_LANES_OK b
  let s := s.each (s.txLanes b) fun s l => s.sendWord b l (controlWord b 0 l map b7)
  let s := s.putTxb b { s.txOf b with count := (r.count + 1) % 16, seven := none, cells := 0, late := [] }
  (r.late.foldl (fun s c => s.rawCell b 0 c) s).sideNext b

/-- The transmitter enters an idle state (R87, R88): the entry word on every active lane with any stuff bit due on it, then the lanes go
idle; for deep idle the clock lane stops 64 of its periods, 256 UI, later. -/
def State.txEnterIdle (s : State) (b q : Nat) : State :=
  let s := s.each (s.txLanes b) fun s l => (s.sendWord b l (controlWord b q l 0 0)).emit (.laneIdle b l)
  let s := if q = 2 then s.emit (.clockLane b false 256) else s
  s.wr Fld.IZL_LINK_STAT_TX_IDLE b q

/-- The transmitter goes into deep idle for power-down (R87, R88, R96, R97): out of light idle first; in PRBS mode there is no entry
word to send. -/
def State.txPowerDown (s : State) (b : Nat) : State :=
  if s.rd Fld.IZL_LINK_STAT_TX_IDLE b = 2 then s
  else if s.rd Fld.IZL_LINK_CTL_MODE b = 4 then
    ((s.each (s.txLanes b) fun s l => s.emit (.laneIdle b l)).emit (.clockLane b false 256)).wr Fld.IZL_LINK_STAT_TX_IDLE b 2
  else ((s.txWake b).txMarker b).txEnterIdle b 2

/-- A bundle's transmitter starts to run (R87, R90): out of the deep idle in which it powered down. -/
def State.txStart (s : State) (b : Nat) : State :=
  (if s.rd Fld.IZL_LINK_STAT_TX_IDLE b = 0 then s.emit (.clockLane b true 0) else s.txWake b)

/-- TX_ALIGNMENT_MARKER (R72, R73, R84 to R87, R105 to R107): the marker, then the entry into an idle state that is due. -/
def execTxAlignmentMarker (dt : Nat) (b : Fin 33) (s : State) : Res :=
  onMain dt s fun s =>
    if s.txRuns b then
      let busy := !(s.txOf b).late.isEmpty || !(s.txOf b).side.isEmpty
      let s := s.txMarker b
      let q := s.idleWanted b
      if q = 0 || busy then s else s.txEnterIdle b q
    else s

/-- A lane reports a marker position: the first report of a marker begins a marker period. A glitch's next marker is over once a lane
reports the one after it (R115, R117). -/
def State.newPeriod (s : State) (b l : Nat) : State :=
  let r := s.bndOf b
  if r.seen.contains l then s.putBnd b { r with seen := [l], periodAt := s.up, rxCells := 0, glitch := none }
  else if r.seen.isEmpty then s.putBnd b { r with seen := [l], periodAt := s.up, rxCells := 0 }
  else s.putBnd b { r with seen := l :: r.seen }

/-- At its marker position a lane that had 64 or more stuff violations since the last fails (R104); the counts begin anew. -/
def State.endPeriod (s : State) (b l : Nat) : State :=
  let x := (s.bndOf b).rxLane l
  let s := s.putRx b l { x with got := 0, viol := 0 }
  if 64 ≤ x.viol then s.laneFail b l else s

/-- Note a missing marker on a lane (R104): counted, and three in a row fail the lane; the first marker after an idle
exit missing takes the bundle DOWN (R91), and so do two lanes' after a clock glitch (R115). -/
def State.markerMiss (s : State) (b l : Nat) : State :=
  let s := (s.bump Fld.IZL_CNT_MARKER_MISS_CNT b 1).flag Fld.IZL_LANE_STAT_LOCK (laneIx b l) false
  let r := s.bndOf b
  let x := r.rxLane l
  let g := r.glitch.map fun n => n + 1
  let x' := { x with miss := x.miss + 1, hits := 0, next := x.next.map fun n => (n + 1) % 16 }
  let s := s.putBnd b { r with glitch := g, rx := tput {} r.rx l x' }
  if x.awake || (g.any fun n => 2 ≤ n) then s.linkDown b
  else if 3 ≤ x.miss + 1 then s.laneFail b l else s

/-- Take the mode from a marker: at least four lanes in service carry the same byte 7 (R108, R110 to R112). The
streams stay synchronised, as the bundle does not leave UP and UP_7LANE (03_cells_slots R132; log entry 131, DEDUCED). -/
def State.takeMode (s : State) (b b7 : Nat) : State :=
  let same := (s.lanesOk b).filter fun l => ((s.bndOf b).rxLane l).b7 == some b7
  if same.length ≥ 4 ∧ bitOf b7 7 ∧ s.link b = 5 then
    let s := (s.wr Fld.IZL_LINK_STAT_STATE b 6).wr Fld.IZL_LINK_STAT_RX_OMIT b (bitsOf b7 4 3)
    let s := s.putBnd b { s.bndOf b with rxCells := 0 }
    let s := s.each ((s.bundleSrcs b).filter fun k =>
      (s.srcLane k).any fun p => !(s.kept7 b).contains p.2) State.loseSlot
    ((s.raise 2 b 0).settleMode).linkChanged b
  else s

/-- Follow the far-lane map (R106): two consecutive markers with exactly one lane's bit cleared call for 7-lane mode
at the next marker sent. Both must name the same lane (log entry 132, DEDUCED). -/
def State.takeMap (s : State) (b map count : Nat) : State :=
  let s := s.wr Fld.IZL_LINK_STAT_FAR_MAP b map
  let r := s.bndOf b
  match (List.range 8).filter fun l => !bitOf map l with
  | [l] =>
    match r.farOne with
    | some (l0, c0) =>
      if l0 = l ∧ c0 ≠ count then
        if s.on Fld.IZL_LINK_CTL_DEGRADE_EN b && !s.on Fld.IZL_LINK_STAT_TX_7LANE b then
          (s.putBnd b { r with farOne := some (l, count) }).putTxb b { s.txOf b with seven := some l }
        else s.putBnd b { r with farOne := some (l, count) }
      else s.putBnd b { r with farOne := some (l, count) }
    | none => s.putBnd b { r with farOne := some (l, count) }
  | _ => s.putBnd b { r with farOne := none }

/-- A marker that has come in DESKEW: good when it stands at its expected position with the next count (R78). -/
def State.trainMarker (s : State) (b l : Nat) (inPlace : Bool) (count : Nat) : State :=
  let x := (s.bndOf b).rxLane l
  s.putRx b l { x with next := some ((count + 1) % 16), hits := if inPlace && x.next == some count then x.hits + 1 else 0 }

/-- A marker that has come at its expected position with the next count on a lane of a bundle that is up (R58, R104, R106, R108). The
phase that the lane's interpolator tracks is not stated, within 4 UI (log entry 133, DESIGN CHOICE). -/
def State.goodMarker (s : State) (b l : Nat) (map b7 : Nat) : State :=
  let x := (s.bndOf b).rxLane l
  let count := b7 % 16
  let s := s.putRx b l { x with miss := 0, hits := x.hits + 1, awake := false, next := some ((count + 1) % 16), b7 := some b7 }
  let s := if 2 ≤ x.hits + 1 then s.flag Fld.IZL_LANE_STAT_LOCK (laneIx b l) true else s
  let p := s.fresh 4
  let s := p.2.wr Fld.IZL_LANE_STAT_PHASE (laneIx b l) (ofInt 10 ((p.1 % 511 : Nat) - 255))
  (s.takeMap b map count).takeMode b b7

/-- ALIGNMENT_MARKER (R72, R73, R74, R77, R78, R91, R104, R106, R108): a marker on a lane. It is in its place after 8704 data words:
those of the cells that came and `skipped` words of idle cells that were not given as commands (log entry 128, DESIGN CHOICE). -/
def execAlignmentMarker (dt : Nat) (b : Fin 33) (l : Fin 8) (skipped : Nat) (rx : RxWord) (s : State) : Res :=
  onMain dt s fun s =>
    let p := s.wordIn b l 0 rx
    match p.1 with
    | none => p.2
    | some w =>
      let c := p.2.wordCheck b l w
      if !c.1 then c.2
      else
        let inPlace := ((c.2.bndOf b).rxLane l).got + 8 * skipped == periodBytes
        let s := (c.2.newPeriod b l).endPeriod b l
        let b7 := beAt w 7 1
        let count := b7 % 16
        if s.link b = 3 then s.flag Fld.IZL_LANE_STAT_SEEN (laneIx b l) true
        else if s.link b = 4 then s.trainMarker b l inPlace count
        else if s.linkUp b && s.laneOk b l then
          if !inPlace || (((s.bndOf b).rxLane l).next.any fun n => n != count) then s.markerMiss b l
          else s.goodMarker b l (beAt w 6 1) b7
        else s

/-- MARKER_MISSING (R104): no marker at the expected position of a lane in service. -/
def execMarkerMissing (dt : Nat) (b : Fin 33) (l : Fin 8) (s : State) : Res :=
  onMain dt s fun s =>
    if s.linkUp b && s.laneOk b l && !((s.bndOf b).rxLane l).discard then
      let s := (s.newPeriod b l).endPeriod b l
      if s.laneOk b l && s.linkUp b then s.markerMiss b l else s
    else s

/-- INTERPOLATOR_LIMIT (R58, R104): a lane's interpolator is at +4 UI or -4 UI, and the lane fails. -/
def execInterpolatorLimit (dt : Nat) (b : Fin 33) (l : Fin 8) (late : Bool) (s : State) : Res :=
  onMain dt s fun s =>
    if s.link b = 0 then s
    else (s.wr Fld.IZL_LANE_STAT_PHASE (laneIx b l) (if late then 256 else 768)).laneFail b l

/-- FILL (R74, R76, R77): a fill word is removed; only its bundle and lane numbers are checked. -/
def execFill (dt : Nat) (b : Fin 33) (l : Fin 8) (rx : RxWord) (s : State) : Res :=
  onMain dt s fun s =>
    let p := s.wordIn b l 3 rx
    match p.1 with
    | none => p.2
    | some w => (p.2.wordCheck b l w).2

/-! Electrical idle (R84 to R96). -/

/-- An entry word on a lane: its line bits are discarded until the delimiter (R89). -/
def State.rxIdle (s : State) (b l kind : Nat) (rx : RxWord) : State :=
  let p := s.wordIn b l kind rx
  match p.1 with
  | none => p.2
  | some w =>
    let c := p.2.wordCheck b l w
    if c.1 then (c.2.putRx b l { (c.2.bndOf b).rxLane l with discard := true }).wr Fld.IZL_LINK_STAT_RX_IDLE b kind else c.2

/-- LIGHT_IDLE_ENTRY (R77, R89). -/
def execLightIdleEntry (dt : Nat) (b : Fin 33) (l : Fin 8) (rx : RxWord) (s : State) : Res :=
  onMain dt s fun s => s.rxIdle b l 1 rx

/-- DEEP_IDLE_ENTRY (R77, R89). -/
def execDeepIdleEntry (dt : Nat) (b : Fin 33) (l : Fin 8) (rx : RxWord) (s : State) : Res :=
  onMain dt s fun s => s.rxIdle b l 2 rx

/-- IDLE_AUTO_TIMEOUT (R86): the transmitter has had only idle cells to send for 1 us; with IDLE_AUTO set and
IDLE_REQ 0 it enters light idle after its next marker. -/
def execIdleAutoTimeout (dt : Nat) (b : Fin 33) (s : State) : Res :=
  onMain dt s fun s =>
    let quiet := (s.txOf b).lastTx.all fun t => decide (t + us 1 ≤ s.up)
    if s.txRuns b && quiet && s.on Fld.IZL_LINK_CTL_IDLE_AUTO b && s.rd Fld.IZL_LINK_CTL_IDLE_REQ b == 0 then
      s.putTxb b { s.txOf b with idleFrom := some (s.up - us 1) }
    else s

/-- TX_IDLE_EXIT (R90, R92 to R94): the transmitter leaves idle with an exit burst. -/
def execTxIdleExit (dt : Nat) (b : Fin 33) (s : State) : Res :=
  onMain dt s fun s => if s.on Fld.IZL_LINK_CTL_ENABLE b then s.txWake b else s

/-- EXIT_BURST_DELIMITER (R90, R91): a lane finds the delimiter, and destuffing resumes; its next marker must stand in its place. The
receiver is out of idle when every lane is. -/
def execExitBurstDelimiter (dt : Nat) (b : Fin 33) (l : Fin 8) (s : State) : Res :=
  onMain dt s fun s =>
    let x := (s.bndOf b).rxLane l
    if x.discard then
      let s := s.putRx b l { x with discard := false, awake := true }
      if (s.bndOf b).rx.any fun p => p.2.discard then s else s.wr Fld.IZL_LINK_STAT_RX_IDLE b 0
    else s

/-- WAKE_FAILURE (R95): no delimiter within the wake bound. -/
def execWakeFailure (dt : Nat) (b : Fin 33) (s : State) : Res :=
  onMain dt s fun s =>
    if (s.bndOf b).rx.any fun p => p.2.discard then ((s.bump Fld.IZL_CNT_WAKE_FAIL_CNT b 1).linkDown b).raise 5 b 0 else s

/-! Forwarded clock faults (R115 to R117). -/

/-- A stop or rate change takes the bundle DOWN and raises FS_004. In a near-end loop the receiver runs from the transmit clock (R99). -/
def State.clockFault (s : State) (b : Nat) (rate : Bool) : State :=
  if s.link b = 0 || s.looped b then s
  else
    let s := s.unfail b
    let r := s.bndOf b
    let s := s.putBnd b { r with clkOk := false, rateHold := r.rateHold || rate, clkFaultAt := some s.up, failAt := [] }
    (s.linkDown b).raise 4 b 0

/-- FWD_CLOCK_STOP (R115): a stop that follows a deep-idle entry word is no fault. -/
def execFwdClockStop (dt : Nat) (b : Fin 33) (s : State) : Res :=
  onMain dt s fun s => if s.rd Fld.IZL_LINK_STAT_RX_IDLE b = 2 then s else s.clockFault b false

/-- FWD_CLOCK_GLITCH (R115, R117): counted; the words in progress are discarded, and the next marker is looked at. -/
def execFwdClockGlitch (dt : Nat) (b : Fin 33) (s : State) : Res :=
  onMain dt s fun s =>
    if s.link b = 0 || s.looped b then s
    else
      let s := ((s.bump Fld.IZL_CNT_CLK_GLITCH_CNT b 1).unfail b).raise 3 b 0
      s.putBnd b { s.bndOf b with glitch := some 0, hurt := true, seen := [], clkFaultAt := some s.up, failAt := [] }

/-- FWD_CLOCK_RATE_CHANGE (R115, R116). -/
def execFwdClockRateChange (dt : Nat) (b : Fin 33) (s : State) : Res :=
  onMain dt s fun s => s.clockFault b true

/-- FWD_CLOCK_REQUALIFIED (R116): within 100 ppm for 1 ms after a rate change; retraining then follows R82. -/
def execFwdClockRequalified (dt : Nat) (b : Fin 33) (s : State) : Res :=
  onMain dt s fun s => s.putBnd b { s.bndOf b with rateHold := false, clkOk := true }

/-! PRBS mode (R99, R102, R103). -/

/-- In PRBS mode a lane's checker takes received bits, and the lane sends as many of its own (R99, R103; log entry 134, DESIGN
CHOICE). An error is counted as it is found while the checker is locked (R118). -/
def State.prbsRun (s : State) (b l : Nat) (rx : List Bool) : State :=
  if s.rd Fld.IZL_LINK_CTL_MODE b = 4 ∧ s.on Fld.IZL_LINK_CTL_ENABLE b then
    let poly := s.rd Fld.IZL_PRBS_CTL_POLY b
    let inv := s.on Fld.IZL_PRBS_CTL_INVERT b
    let x := (s.bndOf b).rxLane l
    let p := x.prbs.bits poly (bitOf (s.rd Fld.IZL_PRBS_CTL_CHK_LOCK b) l) (rx.map fun y => y ^^ inv)
    let s := s.putRx b l { x with prbs := p.2.2 }
    let s := (s.bump Fld.IZL_PRBS_ERR_CNT (laneIx b l) p.2.1).wr Fld.IZL_PRBS_CTL_CHK_LOCK b
      (setBitTo (s.rd Fld.IZL_PRBS_CTL_CHK_LOCK b) l p.1)
    let t := (s.txOf b).lane l
    let g := prbsBits poly t.prbs rx.length
    (s.putTx b l { t with prbs := g.2 }).emit (.lineBits b l (g.1.map fun y => y ^^ inv))
  else s

/-- PRBS_CHECKER_LOCK: bits after which the lane's checker has seen 64 correct ones in a row. -/
def execPrbsCheckerLock (dt : Nat) (b : Fin 33) (l : Fin 8) (rx : List Bool) (s : State) : Res :=
  onMain dt s fun s => s.prbsRun b l rx

/-- PRBS_CHECKER_RESEED: bits with which the lane's checker has seen 64 errors within 1024. -/
def execPrbsCheckerReseed (dt : Nat) (b : Fin 33) (l : Fin 8) (rx : List Bool) (s : State) : Res :=
  onMain dt s fun s => s.prbsRun b l rx

end Sys2Proof.Machine
end

