-- ==== Sys2Proof/Machine/Cells.lean ====
section
/-! DEFINITION. Cells (03_cells_slots): the checks of a header, of the CRC and of the sequence, essence into Vat and the frame ring
(06_cask_frame_store R273 to R278), time and side cells, and source loss. -/

set_option autoImplicit false

namespace Sys2Proof.Machine

/-- Header checks of R123 and R124 on a bundle that the device receives. -/
def Hdr.good (h : Hdr) (mantle : Bool) : Bool :=
  let typeOk := if mantle then h.type == 0 || h.type == 3 || h.type == 4 || h.type == 5 else h.type ≤ 4
  let fmtOk := match h.type with
    | 1 => h.fmt ≤ 23 && (h.nosig || decide (1 ≤ h.fmt))
    | 2 => h.fmt ≤ 23
    | 3 => if h.slot = linkSlot then h.fmt == 0 else h.fmt ≤ 23
    | _ => h.fmt == 0
  typeOk && fmtOk && !h.res25 && h.res == 0

/-- Slot checks of R126 and R128: the type's range, and a slot bound to the bundle on which it arrives. -/
def State.slotGood (s : State) (b : Nat) (h : Hdr) : Bool :=
  let range := match h.type with
    | 1 | 2 => h.slot ≤ 1151
    | 3 => h.slot ≤ 1151 || h.slot == linkSlot
    | _ => h.slot == linkSlot
  range && (h.slot == linkSlot || (s.srcLane h.slot).any fun p => p.1 == b)

/-- Set what a stream expects next. -/
def State.putNext (s : State) (k v : Nat) : State :=
  s.onCell fun z => { z with rx := tput 0 s.cell.rx k (v % 65536 + 1) }

/-- Forget what a stream has begun: an ancillary packet or a side message that a later cell would continue (R143, R159). -/
def State.dropPart (s : State) (k : Nat) : State :=
  s.onCell fun z => { z with anc := tput [] z.anc k [], side := z.side.filter fun p => p.1 / 16 != k / 16 }

/-- The receiver's checks of one cell in the order of R128, with the CRC and sequence checks of R132. The answer is
the header of a cell that passed. A bundle that is not up or is fenced delivers nothing (R680). -/
def State.checkCell (s : State) (b : Nat) (c : List Byte) : Option Hdr × State :=
  if c.isEmpty || !s.linkUp b || s.fenced .bundle b then (none, s)
  else
    let h := Hdr.ofBytes c
    if !h.good (b == 32) then (none, s.bump Fld.CELL_CNT_HDR_ERR_CNT b 1)
    else if !s.slotGood b h then (none, (s.bump Fld.CELL_CNT_MISDIR_CNT b 1).raise 34 b 0)
    else
      let body := c.take 268
      let crc := beAt c 268 4
      let k := streamKey b h.slot h.type
      let known := tget 0 s.cell.rx k
      let want := if h.type = 0 then 0 else if known = 0 then h.seq else known - 1
      if cellCrc h.slot want body = crc then
        let s := if h.type = 0 then s else s.putNext k (want + 1)
        (some h, s.wr Fld.CELL_LINK_INFO_FAR_EPOCH b h.epoch)
      else if h.type ≠ 0 ∧ cellCrc h.slot h.seq body = crc then
        let s := (s.bump Fld.CELL_CNT_SEQ_ERR_CNT b 1).bump Fld.CELL_CNT_SEQ_LOST_CNT b ((h.seq + 65536 - want) % 65536)
        (none, ((s.putNext k (h.seq + 1)).dropPart k).raise 33 b 0)
      else (none, (s.bump Fld.CELL_CNT_CRC_ERR_CNT b 1).raise 32 b 0)

/-- In loop mode 3 every received cell goes back unchanged, whatever its CRC (R99). -/
def State.loopBack (s : State) (b : Nat) (c : List Byte) : State :=
  if !c.isEmpty ∧ s.rd Fld.IZL_LINK_CTL_MODE b = 3 ∧ s.linkUp b then s.sendBytes b 0 c else s

/-- A cell arrives on a bundle (R59, R99, R128, R132): its bytes, the header when it passed the checks, and the state after them. -/
def State.takeCell (s : State) (b : Nat) (rx : RxCell) : List Byte × Option Hdr × State :=
  let q := s.cellIn b rx
  (q.1, (q.2.loopBack b q.1).checkCell b q.1)

/-! Essence into Vat and the ring (R134 to R141; 06_cask R273 to R278). -/

/-- Essence cells of a whole frame. -/
def Fmt.frameCells (f : Fmt) : Nat := f.cells * f.active * (if f.inter then 2 else 1)

/-- The stamp of a frame whose first line arrives at `at_`: the last one, if the frame starts within a frame period
after it (R156; log entry 26, DEDUCED). -/
def stampFor (f : Fmt) (stamp : Option Nat) (at_ : Nat) : Option Nat :=
  match stamp with
  | some t => if t ≤ at_ ∧ fine (at_ - t) < f.period then some t else none
  | none => none

/-- The next slot of a ring in rotation that no reader holds (R275, R285). -/
def nextSlot (r : SrcS) (depth : Nat) (held : List Nat) : Option Nat :=
  ((List.range (depth + 1)).map fun i => (r.next + i) % (depth + 1)).find? fun x => !held.contains x

/-- The embedded audio of a lane source. -/
def State.laneOf (s : State) (k : Nat) : LaneS := tget {} s.mash.lane k
def State.putLane (s : State) (k : Nat) (r : LaneS) : State :=
  s.onMash fun z => { z with lane := tput {} s.mash.lane k r }

/-- Begin a frame of a source in Vat and in its ring (R275, R277, R278): `st` is its effective start when it is
already known, `sEnd` false for a start. -/
def State.beginFrame (s : State) (k fmt : Nat) (st : Option Nat) : State :=
  match fmtOf fmt with
  | none => s
  | some f =>
    let r := s.srcOf k
    let ln := s.laneOf k
    let fr : Frame := { s := st, fmt := fmt, count := r.count, firstAt := s.now, aud := ln.ahead, anc := r.ancNext }
    let s := s.putLane k { ln with ahead := none }
    let r := { r with count := (r.count + 1) % 2 ^ 32, vat := (fr :: r.vat).take 2, wslot := none, ancNext := [] }
    if !s.ringEn k then s.putSrc k r
    else if f.frameBytes + 196672 > s.ringSize k * 1048576 then
      ((s.putSrc k r).putRingOver k true).raise 132 k 0
    else
      let s := (s.putRingOver k false).lower 132 k
      match nextSlot r (s.ringDepth k) (s.heldSlots k) with
      | none => s.putSrc k r
      | some x => s.putSrc k { r with slots := tput {} r.slots x fr, wslot := some x,
                                      next := (x + 1) % (s.ringDepth k + 1) }

/-- Change the frame a source is writing, in Vat and in its ring. -/
def SrcS.onFrame (r : SrcS) (g : Frame → Frame) : SrcS :=
  let r := match r.vat with
    | v :: vs => { r with vat := g v :: vs }
    | [] => r
  match r.wslot with
  | some x => { r with slots := tput {} r.slots x (g (tget {} r.slots x)) }
  | none => r

/-- Give the frame a source is writing its effective start (R226, R278), and record its phase (R227). -/
def State.startKnown (s : State) (k t : Nat) (whole : Bool) : State :=
  let s := s.putSrc k ((s.srcOf k).onFrame fun f => { f with s := some t, sEnd := whole })
  s.putRingEff k (s.ringDepth k - b2n whole)

/-- The frame a source is writing ends (R274): COMPLETE when every cell of it passed. -/
def State.endFrame (s : State) (k : Nat) : State :=
  let r := s.srcOf k
  match r.vat with
  | [] => s
  | v :: _ =>
    let whole := (fmtOf v.fmt).any fun f =>
      if v.segs.isEmpty then v.cells.length == f.frameCells
      else (v.segs.map fun p => p.2.length).foldl (· + ·) 0 == f.frameBytes
    s.putSrc k (r.onFrame fun f => { f with complete := whole, done := true })

/-- The FMT of a lane source's essence cell (R169). The first that is seen after reset is no change (log entry 137, DEDUCED). -/
def State.seeFmt (s : State) (b k fmt : Nat) : State :=
  if s.rd Fld.CELL_SRC_STAT_FMT k = fmt then s
  else
    let s := if (s.srcOf k).lastEss.isSome then s.bump Fld.CELL_CNT_FMT_CHANGE_CNT b 1 else s
    (s.wr Fld.CELL_SRC_STAT_FMT k fmt).judgeAll k

/-- A checked essence cell (R134 to R141, R274 to R278). `over` says that the slot's buffer has no room (R140). -/
def State.essence (s : State) (b : Nat) (h : Hdr) (c : List Byte) (overrun : Bool) : State :=
  let k := h.slot
  if !((s.srcLane k).any fun p => s.carries b p.2) then s
  else if overrun then (s.bump Fld.CELL_CNT_OVERRUN_CNT b 1).raise 35 b 0
  else
    let s := (s.seeFmt b k h.fmt).flag Fld.CELL_SRC_STAT_NOSIG k h.nosig
    let s := s.putSrc k { s.srcOf k with lastEss := some s.up }
    if h.nosig then s.loseSlot k
    else
      match fmtOf h.fmt with
      | none => s
      | some f =>
        let first := h.sof && !(f.inter && h.field)
        let s := if h.sof && s.on Fld.CELL_SRC_STAT_LOST k then
          (s.flag Fld.CELL_SRC_STAT_LOST k false).judgeAll k else s
        if s.on Fld.CELL_SRC_STAT_LOST k then s
        else
          let s := if first then
              let st := stampFor f (s.srcOf k).stamp s.now
              let s := s.beginFrame k h.fmt st
              match st with
              | some t => (s.startKnown k t false).recordPhase k (some t) false
              | none => s
            else s
          let s := s.putSrc k ((s.srcOf k).onFrame fun fr =>
            if fr.fmt = h.fmt ∧ fr.done = false then
              { fr with cells := tput [] fr.cells (cellKey h.field h.line h.offset) ((c.drop 12).take h.valid) }
            else fr)
          if h.eof && !(f.inter && !h.field) then
            let s := s.endFrame k
            match (s.srcOf k).vat with
            | v :: _ => if v.s.isNone then (s.startKnown k s.now true).recordPhase k none true else s
            | [] => s
          else s

/-- ESSENCE_CELL (R128, R132, R134 to R141). -/
def execEssenceCell (dt : Nat) (b : Fin 33) (rx : RxCell) (overrun : Bool) (s : State) : Res :=
  onMain dt s fun s =>
    let r := s.takeCell b rx
    match r.2.1 with
    | some h => if h.type = 1 then r.2.2.essence b h r.1 overrun else r.2.2
    | none => r.2.2

/-- IDLE_CELL (R123 to R132, R161): checked and dropped. -/
def execIdleCell (dt : Nat) (b : Fin 33) (rx : RxCell) (s : State) : Res :=
  onMain dt s fun s => (s.takeCell b rx).2.2

/-- Whether a time cell's kind agrees with its SLOT (R126, R150). -/
def kindAgrees (kind slot : Nat) : Bool :=
  if slot = linkSlot then kind == 1 || kind == 3 else kind == 2 || kind == 4

/-- A checked time cell whose kind does not agree with its SLOT is misdirected (R126, R128); `p` is its payload. -/
def State.timeKind (s : State) (b : Nat) (h : Hdr) (p : List Byte) : Option Nat × State :=
  let kind := beAt p 0 1
  if kindAgrees kind h.slot then (some kind, s)
  else (none, (s.bump Fld.CELL_CNT_MISDIR_CNT b 1).raise 34 b 0)

/-- A time cell of a kind arrives (R150): what its header and payload do. -/
def State.timeCell (s : State) (b kind : Nat) (rx : RxCell) (f : State → Hdr → List Byte → State) : State :=
  let r := s.takeCell b rx
  match r.2.1 with
  | some h =>
    if h.type = 3 then
      let p := payloadOf r.1
      let k := r.2.2.timeKind b h p
      if k.1 = some kind then f k.2 h p else k.2
    else r.2.2
  | none => r.2.2

/-- An echo (R154): DELAY = (T4 - T1 - turnaround) / 2, taken as 0 when negative; the cell arrives now. -/
def State.echo (s : State) (b : Nat) (p : List Byte) : State :=
  let t1 := kilnOf p 4
  let turn := beAt p 28 4
  let d := if s.now < t1 + turn then 0 else (s.now - t1 - turn) / 2
  (s.wr Fld.CELL_LINK_DELAY_DELAY b (satTo (2 ^ 32 - 1) d)).flag Fld.CELL_LINK_INFO_VALID b true

/-- ECHO_CELL (R154). -/
def execEchoCell (dt : Nat) (b : Fin 33) (rx : RxCell) (s : State) : Res :=
  onMain dt s fun s => s.timeCell b 3 rx fun s _ p => s.echo b p

/-- A stamp (R156, R158, R226): with TIME_VALID 1 and LOCKED 1 it gives the effective start of the frame it belongs
to; with LOCKED 0 the source has no valid stamp; while TIME_VALID is 0, and for a position that the bundle does not carry (R70), it
is ignored. -/
def State.stamp (s : State) (b k : Nat) (p : List Byte) : State :=
  if !s.on Fld.KILN_STAT_TIME_VALID 0 || !((s.srcLane k).any fun q => s.carries b q.2) then s
  else if !bitOf (beAt p 2 2) 0 then s.putSrc k { s.srcOf k with stamp := none }
  else
    let t := kilnOf p 4
    let s := s.putSrc k { s.srcOf k with stamp := some t }
    match (s.srcOf k).vat, fmtOf (s.srcFmt k) with
    | v :: _, some f =>
      if v.s.isNone ∧ (stampFor f (some t) v.firstAt).isSome then (s.startKnown k t false).recordPhase k (some t) false
      else s
    | _, _ => s

/-- STAMP_CELL (R156). -/
def execStampCell (dt : Nat) (b : Fin 33) (rx : RxCell) (s : State) : Res :=
  onMain dt s fun s => s.timeCell b 4 rx fun s h p => s.stamp b h.slot p

/-! Side cells (R159, R160). -/

/-- A side cell that passed arrives: the fragment of a channel, read from the payload (R159); `none` for another cell, and for a length
that R159 does not have (log entry 139, DESIGN CHOICE). -/
def sideOf (h : Hdr) (p : List Byte) (chan : Nat) : Option (Bool × Bool × Nat × Nat × List Byte) :=
  let n := beAt p 6 2
  if h.type = 4 ∧ beAt p 0 1 = chan ∧ 1 ≤ n ∧ n ≤ 248 then
    some (bitOf (beAt p 1 1) 0, bitOf (beAt p 1 1) 1, beAt p 2 2, beAt p 4 2, (p.drop 8).take n)
  else none

/-- The message that a fragment completes (R159): the fragments of one identifier in order, from FIRST to LAST. -/
def State.sideTake (s : State) (b chan : Nat) (q : Bool × Bool × Nat × Nat × List Byte) : Option (List Byte) × State :=
  let k := streamKey b linkSlot (8 + chan)
  let put := fun (v : Option (Nat × Nat × List Byte)) => s.onCell fun z => { z with side := tput none z.side k v }
  let begun := match tget none s.cell.side k with
    | some (id, next, d) => if id = q.2.2.1 ∧ next = q.2.2.2.1 then some d else none
    | none => none
  let d := if q.1 then (if q.2.2.2.1 = 0 then some [] else none) else begun
  match d with
  | none => (none, put none)
  | some d =>
    let d := d ++ q.2.2.2.2
    if q.2.1 then (some d, put none) else (none, put (some (q.2.2.1, q.2.2.2.1 + 1, d)))

/-- A side cell of a channel arrives (R159): what the message does that it completes. -/
def State.sideIn (s : State) (b chan : Nat) (rx : RxCell) (f : State → List Byte → State) : State :=
  let r := s.takeCell b rx
  match r.2.1 with
  | none => r.2.2
  | some h =>
    match sideOf h (payloadOf r.1) chan with
    | none => r.2.2
    | some q =>
      let m := r.2.2.sideTake b chan q
      match m.1 with
      | some d => f m.2 d
      | none => m.2

/-- MANAGEMENT_SIDE_CELL (R159, R160): a message of channel 0, once it is whole, goes to the host (log entry 140, DESIGN CHOICE). -/
def execManagementSideCell (dt : Nat) (b : Fin 33) (rx : RxCell) (s : State) : Res :=
  onMain dt s fun s => s.sideIn b 0 rx fun s d => s.emit (.management b d)

/-- SOURCE_LOST_TIMEOUT (R141): no essence cell has passed for 1.25 frame periods of the last FMT seen, or for 50 ms
when none has been seen. -/
def execSourceLostTimeout (dt : Nat) (k : Fin 1152) (s : State) : Res :=
  onMain dt s fun s =>
    let last := (s.srcOf k).lastEss.getD 0
    let wait := match fmtOf (s.rd Fld.CELL_SRC_STAT_FMT k) with
      | some f => f.period * 5 / 4
      | none => fine (ms 50)
    if (s.srcLane k).isSome ∧ fine (s.up - last) ≥ wait ∧ s.on Fld.CELL_SRC_STAT_LOST k = false then s.loseSlot k else s

/-- WARP_CELL_CHECK_FAIL (R133): an essence cell in a destination's queue in Vat fails the check of the queue's slot and sequence: it is
discarded from the output frame, and FS_096 raised. -/
def execWarpCellCheckFail (dt : Nat) (d : Fin 1152) (field : Bool) (line offset : BitVec 12) (s : State) : Res :=
  onMain dt s fun s =>
    (s.putDst d { s.dstOf d with gone := cellKey field line.toNat offset.toNat :: (s.dstOf d).gone }).raise 96 d 0

/-- VAT_CORRECTED_ERROR (R658): FS_097, and FS_099 while repair spares are below 10 %. -/
def execVatCorrectedError (dt : Nat) (sparesLow : Bool) (s : State) : Res :=
  onMain dt s fun s => ((s.onMntl fun z => { z with ce := s.mntl.ce + 1 }).raise 97 0 0).cond 99 0 sparesLow

/-- An uncorrectable error enters the health record (13_mantle_twin R660, R661). -/
def State.ueSeen (s : State) : State := s.onMntl fun z => { z with ue := s.mntl.ue + 1, ueAt := some s.up }

/-- VAT_UNCORRECTABLE_ERROR (R674): FS_098. -/
def execVatUncorrectableError (dt : Nat) (s : State) : Res :=
  onMain dt s fun s => s.ueSeen.raise 98 0 0

/-! Time cells sent (R149 to R153). -/

/-- FAMILY_CELL_TX (R150 to R152): one per epoch of a family on a bundle that is up, describing the next epoch n, after
epoch n - 1 and at least 1 ms before epoch n. -/
def execFamilyCellTx (dt : Nat) (b : Fin 33) (fam : Fin 5) (s : State) : Res :=
  onMain dt s fun s =>
    let p := famPeriod fam
    let n := fine s.now / p + 1
    let key := b.val * 8 + fam.val
    if s.linkUp b ∧ fine (s.now + ms 1) ≤ n * p ∧ tget 0 s.cell.famSent key ≠ n then
      let s := s.onCell fun z => { z with famSent := tput 0 s.cell.famSent key n }
      s.sendCell b 3 linkSlot 0
        (beBytes 1 1 ++ beBytes 1 fam ++ beBytes 2 (s.rd Fld.KILN_STAT_TIME_VALID 0) ++ kilnBytes (s.now + s.txLead b)
          ++ kilnBytes (n * p / 189) ++ beBytes 8 n ++ beBytes 4 (s.rd Fld.CELL_LINK_DELAY_DELAY b)
          ++ beBytes 4 s.teb)
    else s

/-- The first launch instant of a destination at or after `t`, in fine units (R222). -/
def launchAfter (f : Fmt) (off t : Nat) : Nat :=
  let o := fine (ns off)
  if t ≤ o then o else (t - o + f.period - 1) / f.period * f.period + o

/-- LAUNCH_CELL_TX (R150, R153, R223, R225): one per frame for a running destination bound to a bundle that carries its position (R70,
R112), with the time of its next frame, at least 1 ms ahead. The frame count starts at 0 and counts launch cells (log entry 141,
DESIGN CHOICE). -/
def execLaunchCellTx (dt : Nat) (d : Fin 1152) (s : State) : Res :=
  onMain dt s fun s =>
    match s.dstLane d, fmtOf (s.rd Fld.WARP_DST_CFG_FMT d) with
    | some (b, p), some f =>
      let l := launchAfter f (s.rd Fld.WARP_DST_TIMING_OFFSET d) (fine (s.now + ms 1))
      let r := s.dstOf d
      if s.linkUp b && s.txCarries b p && s.on Fld.WARP_DST_CFG_EN d && r.lcell != some l then
        let s := s.putDst d { r with lcell := some l, lcount := (r.lcount + 1) % 2 ^ 32 }
        s.sendCell b 3 d (s.rd Fld.WARP_DST_CFG_FMT d)
          (beBytes 1 2 ++ beBytes 1 f.fam ++ beBytes 2 (s.rd Fld.KILN_STAT_TIME_VALID 0) ++ kilnBytes (s.now + s.txLead b)
            ++ kilnBytes (l / 189) ++ beBytes 4 r.lcount ++ List.replicate 4 0
            ++ beBytes 4 (s.rd Fld.CELL_LINK_DELAY_DELAY b))
      else s
    | _, _ => s

end Sys2Proof.Machine
end

