-- ==== Sys2Proof/Machine/Seam.lean ====
section
/-! DEFINITION. The Seams (05_warp_seam): route checks, boundaries and guards, applying changes at switching
instants, frame launches with repeat, drop, freeze and resumption (06_cask R280 to R286), and output lines. -/

set_option autoImplicit false

namespace Sys2Proof.Machine

/-! Frame mode's choice (R235, R236). -/

/-- Frames of a ring that have an effective start and a format. -/
def ringFrames (k fmt : Nat) (r : SrcS) : List FrameRef :=
  r.slots.filterMap fun p =>
    match p.2.s with
    | some st => if p.2.fmt = fmt then some ⟨k, p.1, p.2.count, st⟩ else none
    | none => none

/-- D = L - S in fine units. -/
def latencyOf (l st : Nat) : Int := (l : Int) - (fine st : Int)

/-- The frame whose D lies from (N - 1) P + 3 lines to N P + 3 lines, the upper bound excluded (R235). -/
def State.choose (s : State) (d k l : Nat) (f : Fmt) : Option FrameRef :=
  let n := s.rd Fld.WARP_DST_CFG_LATENCY d
  (ringFrames k (s.rd Fld.WARP_DST_CFG_FMT d) (s.srcOf k)).find? fun r =>
    (((n - 1) * f.period + 3 * f.line : Nat) : Int) ≤ latencyOf l r.s &&
    latencyOf l r.s < ((n * f.period + 3 * f.line : Nat) : Int)

/-- The last launch instant of a destination at or before now, in fine units (R222). -/
def State.launchNow (s : State) (d : Nat) (f : Fmt) : Option Nat :=
  instantBefore f.period (fine (ns (s.rd Fld.WARP_DST_TIMING_OFFSET d))) (fine s.now)

/-! Applying a change. -/

/-- Put a route in force (R219, R235, R244): counted when it differs, the destination's frame-mode record begins
afresh, and its follow group's inputs follow. `l` is the launch of the frame in progress. -/
def State.setRoute (s : State) (d v : Nat) (direct : Bool) (set : Nat) (late : Bool) (ord bound : Nat) : State :=
  let old := s.rd Fld.WARP_DST_ROUTE_SRC d
  let s := ((s.wr Fld.WARP_DST_ROUTE_SRC d v).flag Fld.WARP_DST_ROUTE_DIRECT d direct).wr Fld.WARP_DST_ROUTE_SET d set
  let s := (s.flag Fld.WARP_DST_STAT_REFUSED d false).flag Fld.WARP_DST_STAT_LATE d late
  let s := if late then s.bump Fld.WARP_DST_CNT_LATE d 1 else s
  if old = v then s
  else
    let s := s.bump Fld.WARP_DST_CNT_SWITCH d 1
    let s := ((s.flag Fld.WARP_DST_STAT_BLACKED d false).flag Fld.WARP_DST_STAT_TIMED d false).wr
      Fld.CASK_FS_STAT_CAUSE d 0
    let s := (s.flag Fld.CASK_FS_STAT_FROZEN d false).flag Fld.CASK_FS_STAT_BLACK d false
    let s := s.putDst d { s.dstOf d with used := none, resume := none, freeze := none, frozenAt := none, lost := false,
                                         content := .black, skip22 := true }
    let s := (s.judge d).followApply d v bound ord
    match s.rd Fld.WARP_DST_CFG_MODE d, fmtOf (s.rd Fld.WARP_DST_CFG_FMT d) with
    | 0, _ => s.putDst d { s.dstOf d with content := if v < 1168 then .live v else .black }
    | 1, some f =>
      if v < 1168 ∧ (s.dstOf d).lost = false then
        match (s.launchNow d f).bind fun l => s.choose d v l f with
        | some r =>
          let s := s.putDst d { s.dstOf d with content := .stored r, used := some r }
          if s.on Fld.MASH_DST_AUDIO_FOLLOW d then
            let g := s.followOf d
            s.putFollow d { g with reads := tinsert g.reads v r.count }
          else s
        | none => s
      else s
    | _, _ => s

/-- Apply one change to a destination and report it. -/
def State.applyDst (s : State) (d : Nat) (c : Change) (bound : Nat) : State :=
  let s1 := c.items.foldl (fun s it =>
    if it.reg = .WARP_DST_ROUTE then s else s.putFields .s it.reg it.inst it.val it.mask) s
  let s2 := match c.route with
    | some _ => s1.setRoute d (s.routeAfter d c) c.src.isNone ((c.src.map fun (p : Nat × Nat) => p.1).getD 0) c.late c.ord bound
    | none => s1
  s2.finish c c.okStatus 0

/-- A stopped unit's changes are in force at once: its direct writes, and each entry whose arm time has come or that was armed with NOW
(R868). A fenced unit's entry of a split set, or one whose source's path is fenced, is turned away (R33). A clock that they start runs
from 2 us on (10_kiln R523). -/
def State.takeStopped (s : State) (k : TKind) (i : Nat) : State :=
  let t := ((s.waiting k i).filter fun c => s.due (fine s.now) (fine s.now) c).foldl (fun s c =>
    let barred := c.src.isSome && !c.allOrNone && (s.unitFenced k i || (k == .dst && s.changeDue i c == 1))
    if barred then s.finish c 3 1
    else if k = .dst then s.applyDst i c (fine s.now) else (s.install c).finish c c.okStatus 0) s
  if k = .clk ∧ t.on Fld.KILN_CLK_CTL_EN i then
    t.onKiln fun x => { x with clkFrom := tput 0 x.clkFrom i (t.now + us 2) }
  else t

/-- Report a change that R252 turned away. -/
def State.turnAway (s : State) (d : Nat) (c : Change) (verdict : Nat) : State :=
  let s := if verdict = 2 then
    (s.flag Fld.WARP_DST_STAT_REFUSED d true).bump Fld.WARP_DST_CNT_REFUSED d 1 else s
  (s.unlearn d c.ord).finish c (if verdict = 1 then 3 else 4) verdict

/-- Note that a change passed its check at the guard. -/
def State.passed (s : State) (c : Change) : State :=
  match c.src with
  | some (n, e) => s.onEntry n e fun x => { x with verdict := some 0 }
  | none => s.setStaged (s.staged.map fun w => if w.ord = c.ord then { w with verdict := some 0 } else w)

/-- SEAM_GUARD_OPEN (R242, R252, R33): at the start of the guard of the next boundary each due split entry and direct
write is checked; one that may not apply is reported now. Committed entries are not checked (R259, R260). -/
def execSeamGuardOpen (dt : Nat) (d : Fin 1152) (s : State) : Res :=
  onMain dt s fun s =>
    match fmtOf (s.rd Fld.WARP_DST_CFG_FMT d) with
    | none => s
    | some f =>
      let b := s.nextBound d f (fine s.now)
      if s.unitStopped .dst d || s.dst22 d || decide (fine s.now + 2 * f.line < b) then s
      else
        ((s.waiting .dst d).filter fun c => !c.allOrNone && s.due (b - 2 * f.line) b c).foldl (fun s c =>
          let v := s.changeDue d c
          if v = 0 then s.passed c else s.turnAway d c v) s

/-- A Warp snapshot record (15_hcp_control, Warp snapshot record): route in force, staged route, DST_STAT, the phase
record of the route, the count at the record. -/
def State.warpRecord (s : State) (d : Nat) : List Byte :=
  let v := s.rd Fld.WARP_DST_ROUTE_SRC d
  let word := fun (r : Reg) (i : Nat) => r.fields.foldl (fun w f => w + s.rd f i * 2 ^ f.lsb) 0
  let stat := word .WARP_DST_STAT d
  let stat := if s.fenced .dst d ∧ !s.on Fld.WARP_DST_STAT_FENCED d then stat + 2 ^ 26 else stat
  let tm := if v < 1152 then word .WARP_SRC_TIME v else if v < 1168 then word .WARP_INT_TIME (v - 1152) else 0
  let pend := (s.waiting .dst d).any fun c => c.route.isSome
  beBytes 2 v ++ beBytes 2 (b2n pend * 2 ^ 15 + s.stagedValue .WARP_DST_ROUTE Fld.WARP_DST_ROUTE_SRC d)
    ++ beBytes 4 stat ++ beBytes 4 tm ++ beBytes 4 (s.count % 2 ^ 32)

/-- Record a destination in every SEAM snapshot whose time has come and that lacks it (R263). -/
def State.snapSeam (s : State) (d bound : Nat) : State :=
  s.each (s.hcp.snaps.map (·.1)) fun s k =>
    let b := tget { owner := 0, target := 9, seam := false, inst := 0, first := 0, count := 0, ts := 0, late := false,
                    complete := false, recs := [] } s.hcp.snaps k
    if b.target = 0 ∧ b.seam ∧ !b.complete ∧ b.first ≤ d ∧ d < b.first + b.count
        ∧ reached (bound / fine (ns 1) % 2 ^ 64) b.ts ∧ !(b.recs.any fun p => p.1 == d) then
      let recs := tinsert b.recs d (s.warpRecord d)
      let b' := { b with recs := recs, complete := recs.length == b.count }
      let h := { s.hcp with snaps := tinsert s.hcp.snaps k b' }
      s.onHcp fun _ => h
    else s

/-- A frame-mode destination resumes a regained source (R286): at the first switching instant at least 2 lines after
the chosen frame's first line reached the ring. -/
def State.resumeAt (s : State) (d bound : Nat) (f : Fmt) : State :=
  let r := s.dstOf d
  match r.resume with
  | none => s
  | some fr =>
    let first := (tget {} (s.srcOf fr.src).slots fr.slot).firstAt
    if fine first + 2 * f.line ≤ bound then
      ((s.putDst d { r with content := .stored fr, used := some fr, resume := none, freeze := none,
                            frozenAt := none }).flag Fld.CASK_FS_STAT_FROZEN d false).flag Fld.CASK_FS_STAT_BLACK d false
    else s

/-- SEAM_SWITCHING_INSTANT (R238 to R244, R251, R259, R260, R286, R233): the changes due at the boundary apply in the
order of acceptance; then a source that is timed again or regained is resumed, and a SEAM snapshot records the
destination. `second` names an interlaced format's second switching line. -/
def execSeamSwitchingInstant (dt : Nat) (d : Fin 1152) (second : Bool) (s : State) : Res :=
  onMain dt s fun s =>
    match fmtOf (s.rd Fld.WARP_DST_CFG_FMT d) with
    | none => s
    | some f =>
      let off := fine (ns (s.rd Fld.WARP_DST_TIMING_OFFSET d))
      match ((s.boundOffsets d f)[b2n second]?).bind fun o => instantBefore f.period (off + o) (fine s.now) with
      | none => s
      | some b =>
        if s.unitStopped .dst d || s.dst22 d then s
        else
          let g := b - 2 * f.line
          let s := s.markLate .dst d g b
          let s := ((s.waiting .dst d).filter (s.due g b)).foldl (fun s c =>
            let v := if c.allOrNone then 0 else c.verdict.getD (s.changeDue d c)
            if v = 0 then s.applyDst d c b else s.turnAway d c v) s
          let s := s.resumeAt d b f
          let s := if s.on Fld.WARP_DST_STAT_BLACKED d && s.on Fld.WARP_DST_STAT_TIMED d then
            s.flag Fld.WARP_DST_STAT_BLACKED d false else s
          s.snapSeam d b

/-- SEAM_SNAPSHOT_TIMEOUT (R263): a destination that is stopped or not bound is recorded at T_s, and one whose boundary
has not come by T_s plus one frame period is recorded then. -/
def execSeamSnapshotTimeout (dt : Nat) (buf : Fin 4) (d : Fin 1152) (s : State) : Res :=
  onMain dt s fun s =>
    match s.hcp.snaps.find? fun p => p.1 == buf.val with
    | none => s
    | some (_, b) =>
      let stopped := s.unitStopped .dst d || !s.on Fld.CELL_DST_BIND_EN d
      let wait := if stopped then 0 else match fmtOf (s.rd Fld.WARP_DST_CFG_FMT d) with
        | some f => f.periodNs
        | none => 0
      if reached s.count (b.ts + wait) then s.snapSeam d (fine s.now) else s

/-! Launches (R222 to R224, R232, R235, R236; 06_cask R280 to R286). -/

/-- Samples of sample data that one -20 packet carries (04_ethernet R194). -/
def packetBytes : Nat := 1260

/-- Packets of one frame of a format: each frame or field ends with its own last packet (R194). -/
def Fmt.packets (f : Fmt) : Nat :=
  let one := f.frameBytes / (if f.inter then 2 else 1)
  (one + packetBytes - 1) / packetBytes * (if f.inter then 2 else 1)

/-- The RTP timestamp of an instant: the 90 kHz clock from the PTP epoch (R192). -/
def rtpTime (t : Nat) : Nat := t * 90000 / fine (sec 1) % 2 ^ 32

/-- Octets of a format's frame on a -20 flow, without preamble and gap (R188, R194, R190's worked example): each packet has
70 octets of headers and FCS besides its samples and tag, and each that crosses a line boundary 6 more. -/
def Fmt.mediaOctets (f : Fmt) (tagged : Bool) : Nat :=
  let fields := if f.inter then 2 else 1
  let cross := ((List.range f.active).filter fun j => j ≠ 0 && (j * (f.width / 2 * 5)) % packetBytes != 0).length
  f.frameBytes + f.packets * (66 + (if tagged then 4 else 0)) + cross * fields * 6

/-- Whether the unit's role lets Q1 send media of an instant in fine units (13_mantle_twin R651, R653; log entry 51, DEDUCED): of the holder
from the first launched since it became one, and of a holder that gave the mantle away, -20 frames launched before. -/
def State.mediaAt (s : State) (t : Nat) : Bool :=
  ((s.role == .holder || s.role == .single) && decide (fine s.mntl.mediaFrom ≤ t)) || decide (t < fine s.mntl.mediaTo)

/-- Whether a transmit flow sends (R189, R212; 14_faults R680): not in hem state or from cellar entry on, not with EN 0, not past a fence. -/
def State.flowSends (s : State) (fl : Nat) : Bool :=
  s.mode != .hem && s.mode != .cellar && s.on Fld.ETH_FLOW_CTL_EN fl && !s.fenced .flow fl
    && !s.fenced .port (s.rd Fld.ETH_FLOW_CTL_PORT fl)

/-- The frame of a transmit flow around an RTP packet (R188). -/
def State.flowFrame (s : State) (fl : Nat) (rtp : List Byte) : UdpFrame :=
  let dip := s.rd Fld.ETH_FLOW_DIP_DIP fl
  let p := s.rd Fld.ETH_FLOW_CTL_PORT fl
  { dmac := if dip / 2 ^ 28 = 14 then 0x01005E000000 + dip % 2 ^ 23
      else s.rd Fld.ETH_FLOW_DMAC_HI_DMAC fl * 2 ^ 32 + s.rd Fld.ETH_FLOW_DMAC_LO_DMAC fl,
    smac := Config.portMac p, sip := tget 0 s.eth.ip p, dip := dip, rtp := rtp,
    tag := if s.on Fld.ETH_FLOW_CTL_TAGGED fl then some (s.rd Fld.ETH_FLOW_HDR_VID fl, s.rd Fld.ETH_FLOW_HDR_PCP fl) else none,
    dscp := s.rd Fld.ETH_FLOW_HDR_DSCP fl, ttl := s.rd Fld.ETH_FLOW_HDR_TTL fl,
    sport := s.rd Fld.ETH_FLOW_UDP_SPORT fl, dport := s.rd Fld.ETH_FLOW_UDP_DPORT fl }

/-- A transmit flow sends an RTP packet that is due at a time. -/
def State.txMedia (s : State) (fl due : Nat) (rtp : List Byte) : State :=
  if s.flowSends fl then
    let f := s.flowFrame fl rtp
    s.txItem (s.rd Fld.ETH_FLOW_CTL_PORT fl) ⟨1, f.octets, some fl, .none, due, .media 0 fl f⟩
  else s

/-- Instances of a field that do not read as its reset value. -/
def State.listed (s : State) (f : Field) : List Nat :=
  s.rv.filterMap fun p => if p.1 % 1024 = f.key then some (p.1 / 1024) else none

/-- Whether a transmit entry is another's pair path (R208). -/
def State.copies (s : State) (g fl : Nat) : Bool :=
  g != fl && s.on Fld.ETH_FLOW_CTL_PAIR_EN g && s.rd Fld.ETH_FLOW_CTL_PARTNER g == fl && s.rd Fld.ETH_FLOW_CTL_DIR g == 1
    && s.rd Fld.ETH_FLOW_CTL_DIR fl == 1 && s.rd Fld.ETH_FLOW_CTL_TYPE g == s.rd Fld.ETH_FLOW_CTL_TYPE fl

/-- Whether a transmit entry only repeats its partner's packets: of two that name each other the higher index does (R204, R208). -/
def State.follows (s : State) (g : Nat) : Bool :=
  let fl := s.rd Fld.ETH_FLOW_CTL_PARTNER g
  s.copies g fl && (!s.copies fl g || decide (fl < g))

/-- Send a packet on a flow, and the same RTP header and payload on the entries that name it as partner (R208). -/
def State.txPair (s : State) (fl due : Nat) (rtp : List Byte) : State :=
  s.each (fl :: (s.listed Fld.ETH_FLOW_CTL_EN).filter fun g => s.copies g fl) fun s x => s.txMedia x due rtp

/-- The RTP header of a flow's packet (R188). -/
def State.rtpHead (s : State) (fl : Nat) (marker : Bool) (seq ts : Nat) : List Byte :=
  beBytes 1 0x80 ++ beBytes 1 (b2n marker * 128 + s.rd Fld.ETH_FLOW_PT_PT fl) ++ beBytes 2 seq ++ beBytes 4 ts
    ++ beBytes 4 (s.rd Fld.ETH_FLOW_SSRC_SSRC fl)

/-- The output of a frame-mode destination whose source is lost, at a launch (R283, R284). -/
def State.lostLaunch (s : State) (d l : Nat) : State :=
  let r := s.dstOf d
  let ms' := s.rd Fld.CASK_FS_CTL_FREEZE_MS d
  let black := ((s.putDst d { r with content := .black, used := none, resume := none }).flag
    Fld.CASK_FS_STAT_FROZEN d false).flag Fld.CASK_FS_STAT_BLACK d true
  match r.freeze with
  | some fr =>
    if ms' = 0 then black
    else
      let since := r.frozenAt.getD l
      if since + fine (ms ms') ≤ l then black
      else
        ((s.putDst d { r with content := .stored fr, used := none, resume := none, frozenAt := some since }).flag
          Fld.CASK_FS_STAT_FROZEN d true).flag Fld.CASK_FS_STAT_BLACK d false
  | none => black

/-- A slip of the follow group at a repeat or drop (08_mash R427). -/
def State.followSlip (s : State) (d l : Nat) : State :=
  if s.on Fld.MASH_DST_AUDIO_FOLLOW d then
    (s.putFollow d { s.followOf d with slip := some (s.sampleAfter l) }).bump Fld.MASH_CNT_SLIP_CNT 0 1
  else s

/-- The frame that a frame-mode destination carries from a launch on (R235, R236, R280, R281, R286). -/
def State.frameLaunch (s : State) (d k l : Nat) (f : Fmt) : State :=
  let r := s.dstOf d
  let n := s.rd Fld.WARP_DST_CFG_LATENCY d
  match r.used with
  | none =>
    let c := s.choose d k l f
    if s.on Fld.CASK_FS_STAT_FROZEN d || s.on Fld.CASK_FS_STAT_BLACK d then
      let s := s.putDst d { r with resume := c }
      if s.dst20 d then s.resumeAt d l f else s
    else
      match c with
      | some fr => s.putDst d { r with content := .stored fr, used := some fr }
      | none => s.putDst d { r with content := .black }
  | some u =>
    let frames := ringFrames k (s.rd Fld.WARP_DST_CFG_FMT d) (s.srcOf k)
    let next := fun (i : Nat) => frames.find? fun x => x.count == (u.count + i) % 2 ^ 32
    let again := ((s.putDst d { r with content := .stored u, slipAt := some l }).bump Fld.CASK_FS_CNT_REPEAT d 1).followSlip d l
    match next 1 with
    | none => (again.raise 194 0 0)
    | some c =>
      if latencyOf l c.s < (((n - 1) * f.period + 2 * f.line : Nat) : Int) then again.raise 194 0 0
      else if ((n * f.period + 4 * f.line : Nat) : Int) ≤ latencyOf l c.s then
        let c := (next 2).getD c
        (((s.putDst d { r with content := .stored c, used := some c, slipAt := some l }).bump Fld.CASK_FS_CNT_DROP d 1).followSlip d l).raise
          194 0 0
      else s.putDst d { r with content := .stored c, used := some c }

/-- At a launch in frame mode the follow group reads on (08_mash R425): the audio of the frame launched for the carried
route, and for a route that a crossfade still reads that of the frame after its last. -/
def State.followLaunch (s : State) (d k l : Nat) : State :=
  if !s.on Fld.MASH_DST_AUDIO_FOLLOW d || s.rd Fld.WARP_DST_CFG_MODE d != 1 then s
  else
    let g := s.followOf d
    let old := (g.reads.filter fun p => p.1 != k).map fun p => (p.1, (p.2 + 1) % 2 ^ 32)
    let reads := match (s.dstOf d).used with
      | some u => tinsert old k u.count
      | none => old
    s.putFollow d { g with before := g.reads, prior := g.launch, reads := reads, launch := some l }

/-- LATENCY of DST_STAT: D of the frame launched, in us; 0 when no source frame is carried. -/
def State.noteLatency (s : State) (d l : Nat) (f : Fmt) : State :=
  let us' := fun (x : Int) => (x / (fine (us 1) : Int)).toNat
  let v := match (s.dstOf d).content with
    | .black => 0
    | .stored r => if (s.dstOf d).used = some r then us' (latencyOf l r.s) else 0
    | .live k => if s.on Fld.WARP_DST_STAT_BLACKED d then 0 else
        match (s.srcOf k).phases with
        | p :: _ => us' (((fine (ns (s.rd Fld.WARP_DST_TIMING_OFFSET d)) : Int) - p) % (f.period : Int))
        | [] => 0
  s.wr Fld.WARP_DST_STAT_LATENCY d (satTo (2 ^ 17 - 1) v)

/-- DST_FRAME_LAUNCH (R222 to R224, R232, R235, R236, R283): the destination launches the output frame of its last
launch instant, once. -/
def execDstFrameLaunch (dt : Nat) (d : Fin 1152) (s : State) : Res :=
  onMain dt s fun s =>
    match fmtOf (s.rd Fld.WARP_DST_CFG_FMT d) with
    | none => s
    | some f =>
      match s.launchNow d f with
      | none => s
      | some l =>
        if s.unitStopped .dst d || s.dst22 d || (s.dstOf d).launch == some l then s
        else
          let s := s.putDst d { s.dstOf d with launch := some l, gone := [] }
          let k := s.rd Fld.WARP_DST_ROUTE_SRC d
          let s := s.judge d
          let s :=
            if s.fenced .dst d || decide (k ≥ 1168) then
              s.putDst d { s.dstOf d with content := .black, used := none, resume := none }
            else if s.rd Fld.WARP_DST_CFG_MODE d = 0 then s.putDst d { s.dstOf d with content := .live k }
            else if (s.dstOf d).lost then s.lostLaunch d l
            else s.frameLaunch d k l f
          (s.followLaunch d k l).noteLatency d l f

/-- FREEZE_EXPIRE (R284): from the first launch on or after the first frozen launch plus FREEZE_MS, black. -/
def execFreezeExpire (dt : Nat) (d : Fin 1152) (s : State) : Res :=
  onMain dt s fun s =>
    let r := s.dstOf d
    match r.frozenAt, fmtOf (s.rd Fld.WARP_DST_CFG_FMT d) with
    | some t, some f =>
      match s.launchNow d f with
      | some l =>
        if s.mode != .hem && s.on Fld.CASK_FS_STAT_FROZEN d && decide (t + fine (ms (s.rd Fld.CASK_FS_CTL_FREEZE_MS d)) ≤ l)
        then ((s.putDst d { r with content := .black }).flag Fld.CASK_FS_STAT_FROZEN d false).flag
          Fld.CASK_FS_STAT_BLACK d true
        else s
      | none => s
    | _, _ => s

/-! Lines (R232 to R234; 06_cask R279; 14_faults_hem R687). -/

/-- What a destination sends on a line: black or samples. -/
inductive LineOut where
  | black
  | bytes (b : List Byte)
deriving DecidableEq, Repr

/-- The frame that a reference names, while its slot still holds it. -/
def State.storedFrame (s : State) (r : FrameRef) : Option Frame :=
  let fr := tget {} (s.srcOf r.src).slots r.slot
  if fr.count = r.count then some fr else none

/-- The line-mode effective start of a frame, in ticks (R226): a packet source's is the time its RTP timestamp names and a
line period; a frame whose start is not known has none. -/
def Frame.lineStart (fr : Frame) (f : Fmt) : Option Nat :=
  match fr.epoch with
  | some e => some ((e + f.line) / 189)
  | none => if fr.sEnd then none else fr.s

/-- The frame of a source taken live: the one whose D lies in the line-mode window (R232). -/
def State.liveFrame (s : State) (d k : Nat) (f : Fmt) : Option Frame :=
  (s.dstOf d).launch.bind fun l => (s.srcOf k).vat.find? fun fr => (fr.lineStart f).any fun st =>
    (2 * f.line : Int) ≤ latencyOf l st && latencyOf l st ≤ ((3 * f.line + fine (us 2) : Nat) : Int)

/-- A line of a frame of a source; a head's frame that it has not finished is composed as it is read. -/
def State.frameLine (s : State) (k : Nat) (fr : Option Frame) (f : Fmt) (field : Bool) (line : Nat) : LineOut :=
  match fr with
  | none => .black
  | some fr =>
    if k ≥ 1152 && !fr.done then .bytes (s.headLine (k - 1152) f field line)
    else match fr.lineOf f field line with
      | some b => .bytes b
      | none => .black

/-- A line of a stored frame, and of a source taken live. -/
def State.storedLine (s : State) (r : FrameRef) (f : Fmt) (field : Bool) (line : Nat) : LineOut :=
  s.frameLine r.src (s.storedFrame r) f field line
def State.liveLine (s : State) (d k : Nat) (f : Fmt) (field : Bool) (line : Nat) : LineOut :=
  s.frameLine k (s.liveFrame d k f) f field line

/-- The hem content of a destination's line (R687). -/
def State.hemLine (s : State) (d : Nat) (f : Fmt) (field : Bool) (line : Nat) : LineOut :=
  match s.rd Fld.FLT_HEM_CFG_CONTENT d with
  | 1 => match (s.dstOf d).hem with
    | some r => s.storedLine r f field line
    | none => .black
  | 2 =>
    let k := 1152 + s.rd Fld.FLT_HEM_CFG_HEM_HEAD d
    if s.srcLost k then .black
    else if s.rd Fld.WARP_DST_CFG_MODE d = 0 then
      if s.timedFor d k then s.liveLine d k f field line else .black
    else match (s.dstOf d).launch.bind fun l => s.choose d k l f with
      | some r => s.storedLine r f field line
      | none => .black
  | _ => .black

/-- Whether the queue of a destination discarded a cell of a line of the output frame (03_cells R133). -/
def DstS.lacks (r : DstS) (field : Bool) (line : Nat) : Bool := r.gone.any fun k => k / 4096 == cellKey field line 0 / 4096

/-- What a destination sends on an active line; a line that lacks a cell is black (R279). -/
def State.lineContent (s : State) (d : Nat) (f : Fmt) (field : Bool) (line : Nat) : LineOut :=
  if (s.dstOf d).lacks field line then .black
  else if s.mode = .hem then s.hemLine d f field line
  else if s.fenced .dst d then .black
  else match (s.dstOf d).content with
    | .black => .black
    | .stored r => s.storedLine r f field line
    | .live k => if s.on Fld.WARP_DST_STAT_BLACKED d then .black else s.liveLine d k f field line

/-- The bytes of a black line. -/
def Fmt.blackLine (f : Fmt) : List Byte :=
  (List.range (f.width / 2)).flatMap fun _ => beBytes 5 (0x200 * 2 ^ 30 + 0x040 * 2 ^ 20 + 0x200 * 2 ^ 10 + 0x040)

/-- The bytes of a line that is sent. -/
def LineOut.samples (o : LineOut) (f : Fmt) : List Byte :=
  match o with
  | .black => f.blackLine
  | .bytes b => b

/-- The ancillary packets of the frame that a destination carries (03_cells R145, R146; 14_faults R687). -/
def State.frameAnc (s : State) (d : Nat) (f : Fmt) : List (List Byte) :=
  let fr :=
    if s.fenced .dst d then none
    else if s.mode = .hem then
      if s.rd Fld.FLT_HEM_CFG_CONTENT d = 1 then (s.dstOf d).hem.bind s.storedFrame else none
    else match (s.dstOf d).content with
      | .black => none
      | .stored r => s.storedFrame r
      | .live k => if s.on Fld.WARP_DST_STAT_BLACKED d then none else s.liveFrame d k f
  match fr with
  | none => []
  | some fr => fr.anc

/-- The packets that go before an active line (R145): before a field's first line those of the blanking before it, before another those
that name the line before it. -/
def State.lineAnc (s : State) (d : Nat) (f : Fmt) (field : Bool) (line : Nat) : List (List Byte) :=
  (s.frameAnc d f).filter fun p =>
    match f.activeOf (ancLine p) with
    | none => line == 0 && f.blankOf (ancLine p) == field
    | some (g, a) => g == field && a + 1 == line

/-- The packets that name a field's last line go after it. -/
def State.lastAnc (s : State) (d : Nat) (f : Fmt) (field : Bool) (line : Nat) : List (List Byte) :=
  if line + 1 = f.active then (s.frameAnc d f).filter fun p => f.activeOf (ancLine p) == some (field, line) else []

/-! Embedded audio (03_cells R147, R168; 08_mash R383; log entry 142, PRESUMED). -/

/-- Video clocks of a line of a format, by which ST 299-1 places a sample in its line. -/
def Fmt.clocks (f : Fmt) : Nat :=
  let c := if f.fam = 0 then 2640 else if f.fam = 1 ∨ f.fam = 2 then 2200 else 2750
  if f.lines = 750 then c * 3 / 4 else if f.lines = 2250 then c * 2 else c

/-- Audio data packets of one group that a line may carry: the samples of a line period, and one more. -/
def State.audioRoom (s : State) (f : Fmt) : Nat := s.fs * f.line / fine (sec 1) + 1

/-- The audio control packets of groups 1 to 4: active are the channels below COUNT (08_mash R383). -/
def State.audioCtls (s : State) (d m : Nat) : List AncPkt :=
  (List.range 4).map fun g =>
    audioCtl s.fs (g + 1) m (2 ^ min 4 (s.rd Fld.MASH_DST_AUDIO_COUNT d - 4 * g) - 1)

/-- The audio data packets of groups 1 to 4 with one sample instant's channels; zeros in hem state (R168). -/
def State.audioPkts (s : State) (f : Fmt) (l m dbn : Nat) (late : Bool) (q : Nat × List Int) : List AncPkt :=
  let clk := (((fine (q.1 * sec 1 / s.fs) : Int) - (l : Int)) % (f.line : Int)).toNat * f.clocks / f.line
  let v := if s.mode = .hem then [] else q.2
  (List.range 4).map fun g => audioPkt s.fs (g + 1) m dbn clk late q.1 ((v.drop (4 * g)).take 4)

/-- Lay the waiting samples over raster lines, and the control packets on the second line after a switching line; none goes on the line
that follows one. The packets, the samples that are left, the data block number. -/
def State.embed (s : State) (d : Nat) (f : Fmt) (l : Nat) :
    List Nat → Nat → List (Nat × List Int) → List AncPkt × List (Nat × List Int) × Nat
  | [], dbn, q => ([], q, dbn)
  | m :: ms, dbn, q =>
    let after := fun (n : Nat) => m == f.sw1 + n || m == f.sw2 + n
    if after 1 then s.embed d f l ms dbn q
    else
      let now := q.take (s.audioRoom f)
      let p := now.foldl (fun (p : List AncPkt × Nat) x =>
        let dbn := p.2 % 255 + 1
        (p.1 ++ s.audioPkts f l m dbn (after 2) x, dbn)) (if after 2 then s.audioCtls d m else [], dbn)
      let r := s.embed d f l ms p.2 (q.drop (s.audioRoom f))
      (p.1 ++ r.1, r.2)

/-- The audio packets that go with an active line, and before a field's first line with the blanking lines before it. -/
def State.takeAudio (s : State) (d : Nat) (f : Fmt) (l : Nat) (field : Bool) (line : Nat) : List (List Byte) × State :=
  let r := s.dstOf d
  if 22 ≤ s.rd Fld.WARP_DST_CFG_FMT d ∨ s.rd Fld.MASH_DST_AUDIO_COUNT d = 0 then ([], s)
  else
    let lines := (if line = 0 then f.blanks field else []) ++ [f.top field + line]
    let e := s.embed d f l lines r.dbn r.audio
    (e.1.map AncPkt.bytes, s.putDst d { r with audio := e.2.1, dbn := e.2.2 })

/-! The cells of a destination (03_cells R134 to R139, R142 to R145, R166). -/

/-- Send ancillary packets in ancillary cells (R142, R143). -/
def State.sendAnc (s : State) (b d : Nat) (f : Fmt) (field : Bool) (ps : List (List Byte)) : State :=
  (ancSplit f.inter field 252 ps).foldl (fun s q =>
    s.sendHdr b 0 { s.txHdr 2 d 0 0 (s.rd Fld.WARP_DST_CFG_FMT d) with field := field, cont := q.1 } q.2) s

/-- When cell `i` of a line leaves, in ticks after the first: the cells spread over the line period (R139). -/
def Fmt.cellAfter (f : Fmt) (i : Nat) : Nat := i * (f.line / 189) / f.cells

/-- Send the essence cells of an active line (R135, R136, R139). -/
def State.sendLine (s : State) (b d : Nat) (f : Fmt) (field : Bool) (line : Nat) (samples : List Byte) : State :=
  s.each (List.range f.cells) fun s i =>
    s.sendHdr b (f.cellAfter i)
      { s.txHdr 1 d 0 0 (s.rd Fld.WARP_DST_CFG_FMT d) with
        line := line, offset := 102 * i, sof := line == 0 && i == 0, eol := i + 1 == f.cells,
        eof := line + 1 == f.active && i + 1 == f.cells, field := field }
      ((samples.drop (255 * i)).take (f.cellBytes i))

/-- Whether a line of the frame launched at `l` comes after the line sent last (R136). -/
def State.lineAfter (s : State) (d l : Nat) (field : Bool) (line : Nat) : Bool :=
  (s.dstOf d).lineAt.all fun p => p.1 != l || decide (p.2 < 4096 * b2n field + line)

/-- Whether an active line of the frame launched at `l` may still be sent: its last cell leaves at least half a line period before the
line leaves the card (R166), and it comes after the line sent last (R136). -/
def State.lineDue (s : State) (d l : Nat) (f : Fmt) (field : Bool) (line : Nat) : Bool :=
  decide (2 * (fine (s.now + f.cellAfter (f.cells - 1))) + f.line ≤ 2 * (l + (f.top field + line - 1) * f.line)) &&
  s.lineAfter d l field line

/-! The packets of a destination (04_ethernet R194, R197, R203). -/

/-- Bytes of a line, and packets of a frame or field of a -20 flow. -/
def Fmt.lineBytes (f : Fmt) : Nat := f.width / 2 * 5
def Fmt.fieldPackets (f : Fmt) : Nat := (f.lineBytes * f.active + packetBytes - 1) / packetBytes

/-- The default TRO of ST 2110-21 in fine units (R197; log entry 147, PRESUMED). -/
def Fmt.tro (f : Fmt) : Nat :=
  f.line * (if f.inter then (if f.lines = 525 then 20 else if f.lines = 625 then 26 else 22) else if f.lines = 750 then 28
    else 43 * f.lines / 1125)

/-- When packet `k` of a field of the frame launched at `l` is due, in fine units: a gapped sender spreads the field's packets over its
active lines (R197, R224). -/
def Fmt.packetAt (f : Fmt) (l : Nat) (field : Bool) (k : Nat) : Nat :=
  l + f.tro + (if field then f.period / 2 else 0) + k * (f.active * f.line) / f.fieldPackets

/-- The time `up` has at an instant in fine units, or now where it has passed. -/
def State.upAt (s : State) (t : Nat) : Nat := s.up + (t - fine s.now) / 189

/-- The rows of packet `k` of a field: line, first byte in it, bytes. -/
def Fmt.rowsOf (f : Fmt) (k : Nat) : List (Nat × Nat × Nat) :=
  let a := packetBytes * k
  let z := min (a + packetBytes) (f.lineBytes * f.active)
  let first := a / f.lineBytes
  (List.range ((z - 1) / f.lineBytes + 1 - first)).map fun i =>
    let j := first + i
    let x := max a (j * f.lineBytes)
    (j, x - j * f.lineBytes, min z ((j + 1) * f.lineBytes) - x)

/-- Packet `k` of a field of a destination: the extended sequence number, the row headers, and the samples (R193, R194). -/
def State.packetBody (s : State) (d : Nat) (f : Fmt) (field : Bool) (k seq : Nat) : List Byte :=
  let rows := f.rowsOf k
  beBytes 2 (seq / 65536)
    ++ (rows.zipIdx.flatMap fun p => beBytes 2 p.1.2.2 ++ beBytes 2 (b2n field * 2 ^ 15 + p.1.1)
      ++ beBytes 2 (b2n (decide (p.2 + 1 < rows.length)) * 2 ^ 15 + p.1.2.1 / 5 * 2))
    ++ rows.flatMap fun r => ((((s.lineContent d f field r.1).samples f).drop r.2.1).take r.2.2)

/-- A -20 destination sends the packets that an active line completes, and a field's last packet with its last line (R189, R194, R212). -/
def State.sendPackets (s : State) (d fl l : Nat) (f : Fmt) (field : Bool) (line : Nat) : State :=
  let off := fine (ns (s.rd Fld.WARP_DST_TIMING_OFFSET d))
  let whole := fun (n : Nat) => if n = f.active then f.fieldPackets else n * f.lineBytes / packetBytes
  let from_ := match (s.dstOf d).lineAt with
    | some (l', q) => if l' = l ∧ q / 4096 = b2n field then whole (q % 4096 + 1) else 0
    | none => 0
  s.each ((List.range (whole (line + 1) - from_)).map (from_ + ·)) fun s k =>
    let r := s.dstOf d
    let s := if s.mediaAt l then
        s.txPair fl (s.upAt (f.packetAt l field k)) (s.rtpHead fl (k + 1 == f.fieldPackets) r.rtpSeq (rtpTime (l - off))
          ++ s.packetBody d f field k r.rtpSeq)
      else s
    s.putDst d { s.dstOf d with rtpSeq := (r.rtpSeq + 1) % 2 ^ 32 }

/-- Ancillary packets in groups that fit in a payload of at most `room` bytes. -/
def ancGroups (room : Nat) (ps : List (List Byte)) : List (List (List Byte)) :=
  (ps.foldl (fun (q : List (List (List Byte)) × List (List Byte)) p =>
    if q.2.length < 255 ∧ (q.2.map List.length).sum + p.length ≤ room then (q.1, q.2 ++ [p]) else (q.1 ++ [q.2], [p])) ([], [])
    |> fun q => q.1 ++ [q.2])

/-- The -40 transmit flows tied to a -20 flow (R203). -/
def State.ancFlows (s : State) (fl : Nat) : List Nat :=
  (s.listed Fld.ETH_FLOW_CTL_EN).filter fun g => s.rd Fld.ETH_FLOW_CTL_TYPE g == 4 && s.rd Fld.ETH_FLOW_CTL_DIR g == 1
    && s.rd Fld.ETH_FLOW_MEDIA_RAW g % 4096 == fl && !s.follows g

/-- Send ancillary packets on the -40 flows of a -20 flow, with the marker on a field's last packet (R203; RFC 8331's layout and the packets'
size are log entry 148, PRESUMED). -/
def State.sendAncFlow (s : State) (d fl l : Nat) (f : Fmt) (field ends : Bool) (ps : List (List Byte)) : State :=
  if ps.isEmpty && !ends then s
  else
    let gs := ancGroups 1200 ps
    let e := l - fine (ns (s.rd Fld.WARP_DST_TIMING_OFFSET d))
    s.each (s.ancFlows fl) fun s g =>
      gs.zipIdx.foldl (fun s q =>
        let n := tget 0 s.mash.txSeq g
        let data := q.1.flatten
        let s := if s.mediaAt e then
            s.txPair g s.up (s.rtpHead g (ends && q.2 + 1 == gs.length) n (rtpTime e) ++ beBytes 2 (n / 65536) ++ beBytes 2 data.length
              ++ ancHead f.inter field q.1.length ++ data)
          else s
        s.onMash fun m => { m with txSeq := tput 0 m.txSeq g ((n + 1) % 2 ^ 32) }) s

/-- DST_LINE_BOUNDARY (R134 to R139, R142 to R147, R166, R168, R194, R203, R233, R234, R279, R687): a running destination sends an active
line of the frame it launched last: a lane destination whose bundle carries its position the ancillary and audio packets that are due
and the essence cells, a -20 destination its packets and those of its -40 flows. -/
def execDstLineBoundary (dt : Nat) (d : Fin 1152) (field : Bool) (line : Nat) (s : State) : Res :=
  onMain dt s fun s =>
    match fmtOf (s.rd Fld.WARP_DST_CFG_FMT d), (s.dstOf d).launch with
    | some f, some l =>
      if s.unitStopped .dst d || decide (line ≥ f.active) || (field && !f.inter) || s.mode == .cellar then s
      else
        let seen := fun (s : State) => s.putDst d { s.dstOf d with lineAt := some (l, 4096 * b2n field + line) }
        let anc := s.lineAnc d f field line
        let last := s.lastAnc d f field line
        match s.dstLane d, s.dstFlow d with
        | some (b, p), _ =>
          if !s.linkUp b || !s.txCarries b p || s.fenced .bundle b || !s.lineDue d l f field line then s
          else
            let x := (s.lineContent d f field line).samples f
            let a := s.takeAudio d f l field line
            (((seen a.2).sendAnc b d f field (anc ++ a.1)).sendLine b d f field line x).sendAnc b d f field last
        | none, some fl =>
          if !s.dst20 d || !s.lineAfter d l field line then s
          else seen ((s.sendAncFlow d fl l f field (line + 1 == f.active) (anc ++ last)).sendPackets d fl l f field line)
        | none, none => s
    | _, _ => s

end Sys2Proof.Machine
end

