-- ==== Sys2Proof/Machine/Stitch.lean ====
section
/-! DEFINITION. The compositor heads (07_stitch_heads): frame starts and the guard before them, timing-mode changes,
underruns, aprons and their pins, and signatures; and the Ply proxies of a ring (06_cask R292 to R294). -/

set_option autoImplicit false

namespace Sys2Proof.Machine

/-- The format of a head. -/
def State.headFmt (s : State) (h : Nat) : Option Fmt := fmtOf (s.rd Fld.STCH_HEAD_CFG_FMT h)

/-- A head's offset, in fine units. -/
def State.headOff (s : State) (h : Nat) : Nat := fine (ns (s.rd Fld.STCH_HEAD_TIMING_OFFSET h))

/-- The last frame start of a head's timing at or before now (R311). -/
def State.headStartNow (s : State) (h : Nat) (f : Fmt) : Option Nat :=
  instantBefore f.period (s.headOff h) (fine s.now)

/-- The next frame start of a head's timing after `t`. -/
def State.headStartAfter (s : State) (h : Nat) (f : Fmt) (t : Nat) : Nat := instantAfter f.period (s.headOff h) t

/-- The emitted line that begins first at or after `t` in the frame that began at `F` (R312); none past the frame. -/
def emittedLine (f : Fmt) (F t : Nat) : Option Nat :=
  let k := (t - F + f.line - 1) / f.line
  if !f.inter then (if k < f.active then some k else none)
  else if k < f.active then some k
  else if k ≤ 563 then some f.active
  else if k - 563 < f.active then some (f.active + (k - 563)) else none

/-- The line a head is emitting, or begins next, at `t`: for effects from a line on; the frame's line count at its end. -/
def State.lineFrom (s : State) (h t : Nat) : Option Nat :=
  match s.headFmt h, (s.headOf h).frameAt with
  | some f, some F => emittedLine f F t
  | _, _ => none

/-! Boundaries (R319, R320, R322 to R326; 01_architecture R30 to R33). -/

/-- Whether a change may apply at a head: an entry of a split set for a fenced head is not applied (R33). -/
def State.headVerdict (s : State) (h : Nat) (c : Change) : Nat :=
  if s.fenced .head h && c.src.isSome then 1 else 0

/-- HEAD_GUARD_OPEN (R319, R33): the 16 lines before a frame start begin; a split entry that is due for a fenced head is
reported FENCED. -/
def execHeadGuardOpen (dt : Nat) (h : Fin 16) (s : State) : Res :=
  onMain dt s fun s =>
    match s.headFmt h with
    | none => s
    | some f =>
      let b := s.headStartAfter h f (fine s.now)
      if s.unitStopped .head h || decide (fine s.now + 16 * f.line < b) then s
      else
        ((s.waiting .head h).filter fun c => !c.allOrNone && s.due (b - 16 * f.line) b c).foldl (fun s c =>
          if s.headVerdict h c = 0 then s.passed c else s.finish c 3 1) s

/-- Whether a staged write is of a head's timing mode. -/
def Staged.isTiming (w : Staged) (h : Nat) : Bool := (w.reg == .STCH_HEAD_CFG || w.reg == .STCH_HEAD_TIMING) && w.inst == h

/-- Put a direct write at its place in the order of acceptance (01_architecture R32). -/
def byOrd (w : Staged) : List Staged → List Staged
  | [] => [w]
  | x :: xs => if w.ord < x.ord then w :: x :: xs else x :: byOrd w xs

/-- Apply one change at a frame start: its items of the timing mode are handed back, the rest is in force now, and the change
is reported. -/
def State.applyHead (s : State) (c : Change) : List Staged × State :=
  let timing := fun (it : CsItem) => it.reg == .STCH_HEAD_CFG || it.reg == .STCH_HEAD_TIMING
  let rest := { c with items := c.items.filter fun it => !timing it }
  let mode := (c.items.filter timing).map fun it =>
    { reg := it.reg, inst := it.inst, val := it.val, mask := it.mask, ord := c.ord, at_ := c.at_ : Staged }
  (mode, (s.install rest).finish c c.okStatus 0)

/-- Whether writes of the timing mode, one after the other, leave FMT or OFFSET other than in force (R322, R326). -/
def State.newTiming (s : State) (h : Nat) (ws : List Staged) : Bool :=
  let after := fun (r : Reg) (f : Field) => (ws.filter fun w => w.reg == r).foldl (fun v w => f.merge v w.val w.mask) (s.rd f h)
  after .STCH_HEAD_CFG Fld.STCH_HEAD_CFG_FMT != s.rd Fld.STCH_HEAD_CFG_FMT h
    || after .STCH_HEAD_TIMING Fld.STCH_HEAD_TIMING_OFFSET != s.rd Fld.STCH_HEAD_TIMING_OFFSET h

/-- Apply everything due at a head's frame start, in the order of acceptance (R31, R32). A timing mode that differs from the
one in force stays staged for the end of the transition frame (R322). The answer says whether a transition begins. -/
def State.headBoundary (s : State) (h F g : Nat) : Bool × State :=
  let s := s.markLate .head h g F
  let q := ((s.waiting .head h).filter (s.due g F)).foldl (fun (p : List Staged × State) c =>
    let v := if c.allOrNone then 0 else c.verdict.getD (p.2.headVerdict h c)
    if v = 0 then
      let a := p.2.applyHead c
      (p.1 ++ a.1, a.2)
    else (p.1, p.2.finish c 3 1)) ([], s)
  if q.2.newTiming h q.1 then (true, q.2.setStaged (q.1.foldr byOrd q.2.staged)) else (false, q.2)

/-! Frames. -/

/-- The newest frame with COMPLETE 1 of a source's ring, of any format (R332, R334). -/
def newestFrame (k : Nat) (r : SrcS) : Option FrameRef :=
  r.slots.foldl (fun best p =>
    match p.2.s with
    | some st =>
      if p.2.complete && best.all (fun b => decide (b.s < st)) then some ⟨k, p.1, p.2.count, st⟩ else best
    | none => best) none

/-- The newest complete proxy of a source (R294). -/
def newestProxy (k : Nat) (r : SrcS) : Option FrameRef :=
  r.proxyNew.bind fun x =>
    let f := tget {} r.proxies x
    some ⟨k, x, f.count, f.s.getD 0⟩

/-- The frame that a proxy or ring layer reads in a frame (R332, R334): none is fetched as opaque black. -/
def State.layerRead (s : State) (g : Nat) : Option FrameRef :=
  let ly := Layer.ofList (s.layerVals g)
  if ly.kind = 0 ∨ (s.srcLost ly.index ∧ ly.lostBlack) then none
  else if ly.kind = 1 then newestProxy ly.index (s.srcOf ly.index) else newestFrame ly.index (s.srcOf ly.index)

/-- A head emits nothing any more: INT_nn is lost (R316, R317, R324). -/
def State.headQuiet (s : State) (h : Nat) : State :=
  (s.flag Fld.STCH_HEAD_STAT_RUNNING h false).judgeAll (1152 + h)

/-- Whether a pin forces the aprons of a head (R364, R365, R367). -/
def State.pinForced (s : State) (h : Nat) : Bool :=
  s.apronHead h && bitOf (s.rd Fld.STCH_APRON_STAT_ASSERTED 0) (h / 4)

/-- APRON_SHOWN follows what the head shows. -/
def State.noteApron (s : State) (h : Nat) : State :=
  let ly := s.shownLayer h 7 100000
  s.flag Fld.STCH_HEAD_STAT_APRON_SHOWN h (s.apronHead h && s.on Fld.STCH_HEAD_STAT_RUNNING h
    && s.isBound (h * 8 + 7) ly && (ly.visible || s.on Fld.STCH_HEAD_STAT_APRON_FORCED h))

/-- When the layers L0 to L6 of a head may be dropped: 2 lines after the device entered HEM (R688). -/
def State.hemDue (s : State) (h : Nat) : Option Nat :=
  match s.headFmt h, s.flt.hemAt with
  | some f, some t => if s.mode = .hem ∧ s.apronHead h then some (fine (s.now - (s.up - t)) + 2 * f.line) else none
  | _, _ => none

/-- Begin the frame of a head that starts at `F` (R226, R311, R322, R332, R363, R366, R688). -/
def State.headFrame (s : State) (h F : Nat) (trans : Bool) : State :=
  let k := 1152 + h
  let fresh := !s.on Fld.STCH_HEAD_STAT_RUNNING h
  let s := ((s.flag Fld.STCH_HEAD_STAT_RUNNING h true).flag Fld.STCH_HEAD_STAT_TRANSITION h trans).flag
    Fld.STCH_HEAD_STAT_ABORTED h false
  let r := s.headOf h
  let forced := s.pinForced h && decide ((r.forceDue.getD 0) ≤ F)
  let s := s.flag Fld.STCH_HEAD_STAT_APRON_FORCED h forced
  let drop := (s.hemDue h).any fun t => decide (t ≤ F)
  let s := s.putHead h { r with
    frameAt := some F, startFrom := none, waiting := false, fillFrom := none, abort := none, apronAbort := none,
    force := if forced then some 0 else none, dropFrom := if drop then some 0 else none,
    apron := match r.apron with
      | p :: _ => [(0, p.2)]
      | [] => [],
    reads := (List.range 8).filterMap fun l => (s.layerRead (h * 8 + l)).map fun x => (l, x) }
  let s := if fresh then s.judgeAll k else s
  let st := F / 189
  let s := s.beginFrame k (s.rd Fld.STCH_HEAD_CFG_FMT h) (some st)
  let s := ((s.startKnown k st false).recordPhase k (some st) false).noteApron h
  s.releaseSurfaces

/-- HEAD_FRAME_START (R315, R316, R319, R320, R322 to R324, R332, R366, R299): the head's last frame start. What is due
applies; a head that was told to stop stops, one that waits for its start or its new timing starts, a running one begins
its next frame, and one whose FMT or OFFSET changes begins a transition frame. A fenced head emits nothing (R317). -/
def execHeadFrameStart (dt : Nat) (h : Fin 16) (s : State) : Res :=
  onMain dt s fun s =>
    match s.headFmt h with
    | none => s
    | some f =>
      match s.headStartNow h f with
      | none => s
      | some F =>
        let r := s.headOf h
        let again := r.startFrom.any fun t => decide (t ≤ F)
        if s.unitStopped .head h || r.frameAt == some F || (r.startFrom.isSome && !r.stopping && !again)
            || (s.on Fld.STCH_HEAD_STAT_TRANSITION h && !r.waiting) then s
        else
          let q := s.headBoundary h F (F - 16 * f.line)
          let s := q.2
          if r.stopping && !again then
            ((s.putHead h { s.headOf h with frameAt := some F, stopping := false, fillFrom := none, reads := [] }).headQuiet h).takeStopped .head h
          else if s.fenced .head h then
            (s.putHead h { s.headOf h with frameAt := some F, stopping := false, startFrom := none, reads := [] }).headQuiet h
          else (s.putHead h { s.headOf h with stopping := false }).headFrame h F q.1

/-- TRANSITION_FRAME_END (R323, R324): at the frame start after a transition frame the staged timing mode is latched, and
the head waits for the first frame start of its new timing; a head that was told to stop stops (R316), and starts again as
R315 says where EN is 1 again. No guard is looked at here: R323 and R325 name none for it (log
entry 125, DESIGN CHOICE). -/
def execTransitionFrameEnd (dt : Nat) (h : Fin 16) (s : State) : Res :=
  onMain dt s fun s =>
    match s.headFmt h, (s.headOf h).frameAt with
    | some f, some F =>
      if s.on Fld.STCH_HEAD_STAT_TRANSITION h && !(s.headOf h).waiting && decide (F + f.period ≤ fine s.now) then
        let mine := (s.staged.filter fun w => w.isTiming h).foldr byOrd []
        let s := mine.foldl (fun s w => s.putFields .s w.reg w.inst w.val w.mask) s
        let s := s.setStaged (s.staged.filter fun w => !w.isTiming h)
        let s := s.bump Fld.STCH_HEAD_CNT_MODE_CHANGE h 1
        let r := s.headOf h
        let q := { r with stopping := false, fillFrom := none, frameAt := none, reads := [] }
        if r.stopping && r.startFrom.isNone then
          (((s.putHead h q).flag Fld.STCH_HEAD_STAT_TRANSITION h false).headQuiet h).takeStopped .head h
        else (s.putHead h { q with waiting := true, startFrom := some (max (r.startFrom.getD 0) (F + f.period)) }).headQuiet h
      else s
    | _, _ => s

/-- Whether a head has a frame in progress that it emits. -/
def State.emitting (s : State) (h : Nat) : Bool :=
  s.on Fld.STCH_HEAD_STAT_RUNNING h && !s.fenced .head h

/-- HEAD_UNDERRUN (R355 to R358): a pixel of the composite is not ready as its line goes out; only a head whose load
exceeds its share can underrun. -/
def execHeadUnderrun (dt : Nat) (h : Fin 16) (e x : Nat) (s : State) : Res :=
  onMain dt s fun s =>
    match s.headFmt h with
    | none => s
    | some f =>
      let r := s.headOf h
      if s.emitting h && r.abort.isNone && overShare f (s.fetchLoad h f).1 then
        let s := s.putHead h { r with abort := some (e, x) }
        let s := if r.apronAbort.isNone then s.bump Fld.STCH_HEAD_CNT_UNDERRUN h 1 else s
        (s.flag Fld.STCH_HEAD_STAT_ABORTED h true).raise 160 h 0
      else s

/-- APRON_UNDERRUN (R358): the apron's own fetch underruns. -/
def execApronUnderrun (dt : Nat) (h : Fin 16) (e x : Nat) (s : State) : Res :=
  onMain dt s fun s =>
    match s.headFmt h with
    | none => s
    | some f =>
      let r := s.headOf h
      if s.emitting h && s.apronHead h && r.apronAbort.isNone && overShare f (s.fetchLoad h f).1 then
        let s := s.putHead h { r with apronAbort := some (e, x) }
        let s := if r.abort.isNone then s.bump Fld.STCH_HEAD_CNT_UNDERRUN h 1 else s
        ((s.bump Fld.STCH_HEAD_CNT_APRON_UNDERRUN h 1).flag Fld.STCH_HEAD_STAT_ABORTED h true).raise 161 h 0
      else s

/-- One region at the end of a frame (R370, R371). -/
def State.checkSig (s : State) (h : Nat) (f : Fmt) (i : Nat) : State :=
  let g := h * 16 + i
  let v := s.headSig h f g
  let r := s.headOf h
  let learn := s.on Fld.STCH_SIG_CTL_LEARN h
  let s := s.wr Fld.STCH_SIG_VAL_VAL g v
  let mask := s.rd Fld.STCH_SIG_STAT_MISMATCH h
  if learn || v == s.rd Fld.STCH_SIG_EXP_EXP g then
    let s := if learn then s.wr Fld.STCH_SIG_EXP_EXP g v else s
    (s.putHead h { r with bad := terase r.bad i }).wr Fld.STCH_SIG_STAT_MISMATCH h (setBitTo mask i false)
  else
    let n := tget 0 r.bad i + 1
    let s := s.putHead h { r with bad := tput 0 r.bad i n }
    if s.rd Fld.STCH_SIG_CTL_MISMATCH_N h ≤ n ∧ !bitOf mask i then
      ((s.wr Fld.STCH_SIG_STAT_MISMATCH h (setBitTo mask i true)).bump Fld.STCH_HEAD_CNT_SIG_MISMATCH h 1).raise 162 h 0
    else s

/-- HEAD_FRAME_END (R355, R359, R368 to R372; 06_cask R274): the frame's cells are in its ring, COMPLETE even when it was
aborted; its fetch load is shown; and the enabled regions are checked. -/
def execHeadFrameEnd (dt : Nat) (h : Fin 16) (s : State) : Res :=
  onMain dt s fun s =>
    match s.headFmt h, (s.srcOf (1152 + h)).vat with
    | some f, v :: _ =>
      if s.emitting h && !v.done then
        let cells := s.headCells h f
        let s := s.putSrc (1152 + h) ((s.srcOf (1152 + h)).onFrame fun fr =>
          { fr with cells := cells, complete := true, done := true })
        let s := s.wr Fld.STCH_HEAD_STAT_FETCH h (satTo 65535 (loadRate f (s.fetchLoad h f).1))
        if 2 ≤ s.rd Fld.STCH_HEAD_CFG_SAFETY h then
          let s := s.each ((List.range 16).filter fun i => bitOf (s.rd Fld.STCH_SIG_CTL_EN h) i) fun s i => s.checkSig h f i
          (s.flag Fld.STCH_SIG_CTL_LEARN h false).flag Fld.STCH_HEAD_STAT_SIG_FAIL h
            (s.rd Fld.STCH_SIG_STAT_MISMATCH h != 0)
        else s
      else s
    | _, _ => s

/-! Starting and stopping (R315, R316), as the writes of HEAD_CFG.EN make them. -/

/-- EN is written with 1: the first frame start at least 16 lines later. -/
def State.headOn (s : State) (h : Nat) : State :=
  match s.headFmt h with
  | none => s
  | some f =>
    let r := s.headOf h
    if r.stopping || (!s.on Fld.STCH_HEAD_STAT_RUNNING h && !r.waiting) then
      s.putHead h { r with startFrom := some (fine s.now + 16 * f.line) }
    else s

/-- EN is written with 0: fill from the next line on, and a stop at the next frame start; a head that has not started
stops at once, and so does one that waits for a new timing (R324), which emits nothing. -/
def State.headOff0 (s : State) (h : Nat) : State :=
  let r := s.headOf h
  if s.on Fld.STCH_HEAD_STAT_RUNNING h then
    s.putHead h { r with stopping := true, startFrom := none, fillFrom := some ((s.lineFrom h (fine s.now)).getD 100000) }
  else (s.flag Fld.STCH_HEAD_STAT_TRANSITION h false).putHead h { r with startFrom := none, stopping := false, waiting := false }

/-! Aprons (R360 to R367). -/

/-- A write to an apron field by the safety controller: the field reads the new value at once, and shows it from the
first active line at least 2 lines later (R362). -/
def State.apronWrite (s : State) (r : Reg) (h val mask : Nat) : State :=
  let g := h * 8 + 7
  let old := s.layerVals g
  let s := s.putFields .s r g val mask
  match s.headFmt h with
  | some f =>
    let x := s.headOf h
    let x := if x.apron.isEmpty then { x with apron := [(0, old)] } else x
    if s.emitting h then s.putHead h { x with apronDue := x.apronDue ++ [(fine s.now + 2 * f.line, s.layerVals g)] }
    else s.putHead h { x with apron := [(0, s.layerVals g)], apronDue := [] }
  | none => s

/-- APRON_FIELD_APPLY (R362). -/
def execApronFieldApply (dt : Nat) (h : Fin 16) (s : State) : Res :=
  onMain dt s fun s =>
    let r := s.headOf h
    match r.apronDue with
    | (t, v) :: rest =>
      if fine s.now < t then s
      else
        let e := (s.lineFrom h t).getD 100000
        (s.putHead h { r with apron := (e, v) :: r.apron, apronDue := rest }).noteApron h
    | [] => s

/-- The heads that a pin serves (R364, R367): running, not fenced, with an apron. -/
def State.pinHeads (s : State) (g : Nat) : List Nat :=
  ((List.range 4).map fun i => 4 * g + i).filter fun h => s.apronHead h && s.emitting h

/-- APRON_N_ASSERTED (R364, R365): the pin has held low for 10 us. -/
def execApronNAsserted (dt : Nat) (g : Fin 4) (s : State) : Res :=
  onMain dt s fun s =>
    let s := s.wr Fld.STCH_APRON_STAT_ASSERTED 0 (setBitTo (s.rd Fld.STCH_APRON_STAT_ASSERTED 0) g true)
    s.each ((List.range 4).map fun i => 4 * g.val + i) fun s h =>
      match s.headFmt h with
      | some f => s.putHead h { s.headOf h with forceDue := some (fine s.now + 2 * f.line) }
      | none => s

/-- APRON_FORCE_BEGIN (R365): the first active line at least 2 lines after the filtered assertion. -/
def execApronForceBegin (dt : Nat) (g : Fin 4) (s : State) : Res :=
  onMain dt s fun s =>
    if bitOf (s.rd Fld.STCH_APRON_STAT_ASSERTED 0) g then
      s.each (s.pinHeads g) fun s h =>
        let r := s.headOf h
        match r.forceDue with
        | some t =>
          if t ≤ fine s.now ∧ r.force.isNone then
            ((s.putHead h { r with force := some ((s.lineFrom h t).getD 100000) }).flag
              Fld.STCH_HEAD_STAT_APRON_FORCED h true).noteApron h
          else s
        | none => s
    else s

/-- APRON_N_DEASSERTED (R366): the force ends at each head's next frame start. -/
def execApronNDeasserted (dt : Nat) (g : Fin 4) (s : State) : Res :=
  onMain dt s fun s =>
    let s := s.wr Fld.STCH_APRON_STAT_ASSERTED 0 (setBitTo (s.rd Fld.STCH_APRON_STAT_ASSERTED 0) g false)
    s.each ((List.range 4).map fun i => 4 * g.val + i) fun s h => s.putHead h { s.headOf h with forceDue := none }

/-- HEM_LAYER_DROP (14_faults_hem R688): in HEM, layers L0 to L6 of every apron head are dropped from the first active
line at least 2 lines after detection. -/
def execHemLayerDrop (dt : Nat) (s : State) : Res :=
  onMain dt s fun s =>
    if s.mode = .hem then
      s.each (List.range 16) fun s h =>
        match s.hemDue h with
        | some due =>
          let r := s.headOf h
          if r.dropFrom.isNone && s.emitting h && decide (due ≤ fine s.now) then
            s.putHead h { r with dropFrom := s.lineFrom h due }
          else s
        | none => s
    else s

/-! Proxies (06_cask R288, R292, R293). -/

/-- Proxy slots of a source that a head reads (R294). -/
def State.proxyHeld (s : State) (k : Nat) : List Nat :=
  s.head.flatMap fun p => p.2.reads.filterMap fun q =>
    if q.2.src = k ∧ s.rd Fld.STCH_LAYER_CTL_SRC_KIND (p.1 * 8 + q.1) = 1 then some q.2.slot else none

/-- PLY_PROXY_COMPLETE (R288, R292, R293): the proxy of the source's newest ended frame is in Cask, in the oldest slot that
no head reads; when every slot is being read it is not written, and counted. -/
def execPlyProxyComplete (dt : Nat) (k : Fin 1168) (s : State) : Res :=
  onMain dt s fun s =>
    let r := s.srcOf k
    match r.vat.find? fun f => f.done with
    | none => s
    | some fr =>
      if !s.ringEn k || (r.proxies.any fun p => p.2.count == fr.count && p.2.firstAt == fr.firstAt) then s
      else
        let held := s.proxyHeld k
        match ([0, 1, 2].map fun i => (r.proxyNext + i) % 3).find? fun x => !held.contains x with
        | none => s.bump Fld.CASK_CNT_PLY_SKIP_CNT 0 1
        | some x => s.putSrc k { r with proxies := tput {} r.proxies x fr, proxyNew := some x, proxyNext := (x + 1) % 3 }

end Sys2Proof.Machine
end

