-- ==== Sys2Proof/Machine/Kiln.lean ====
section
/-! DEFINITION. Kiln (10_kiln_timebase): candidates, measurements, slewing, steps and time
sets, the oscillator and its model, holdover, event capture, and the TIME_OUT and CLK_OUT outputs. -/

set_option autoImplicit false

namespace Sys2Proof.Machine

/-- REF_QUALIFIED (R484, R648): a candidate has been available for QUAL_S seconds. -/
def execRefQualified (dt : Nat) (k : Fin 44) (s : State) : Res :=
  onKeep dt s fun s =>
    let r := s.refOf k
    match r.since with
    | some t =>
      if s.refAvail k && !r.qual && decide (t + sec (s.rd Fld.KILN_REF_CFG_QUAL_S k) ≤ s.up) then
        (s.putRef k { r with qual := true }).refSelect (k.val == 43 && s.role == .standby)
      else s
    | none => s

/-! Measurements (R477, R478, R490, R492, R494). -/

/-- A signed value saturated to 32 bits. -/
def sat32 (z : Int) : Nat := ofInt 32 (max (-(2 ^ 31)) (min (2 ^ 31 - 1) z))

/-- Reduce an offset to a phase candidate's ambiguity: above minus half, up to half (R477). -/
def reducePhase (d : Int) (amb : Nat) : Int :=
  let r := d % (amb : Int)
  if 2 * r ≤ (amb : Int) then r else r - amb

/-- A measurement of candidate `k` with offset `d` in ticks, before CAL, and own bound `teb` in ns. -/
def State.refMeasure (s : State) (k : Nat) (d : Int) (amb : Option Nat) (teb : Nat) : State :=
  let d := d + s.srd Fld.KILN_REF_CFG_CAL k * 16384
  let d := match amb with
    | some a => reducePhase d a
    | none => d
  let s := (s.putRef k { s.refOf k with teb := teb, meas := some s.now, delta := d }).wr Fld.KILN_REF_OFFSET_DELTA k (sat32 (d / 65536))
  if s.rd Fld.KILN_STAT_SELECTED 0 ≠ k then s
  else if !s.on Fld.KILN_STAT_TIME_VALID 0 then
    if refKind k = 0 then s.onKiln fun x => { x with setRef := some (((s.now : Int) + d).toNat, s.up) } else s
  else
    let s :=
      if s.kiln.measured then s
      else
        let step := decide (ns (s.rd Fld.KILN_SLEW_THRESH 0) < d.natAbs) && s.on Fld.KILN_SLEW_STEP_EN 0
          && s.mode == .startUp
        let s := s.onKiln fun x => { x with a0 := d, aAt := s.now, measured := true, extra := 0, stepBy := d,
                                            stepAt := if step then some ((s.now / sec 1 + 1) * sec 1) else none }
        s.flag Fld.KILN_STAT_STEP_PENDING 0 step
    let e := s.fresh 1
    (e.2.wr Fld.KILN_LOOP_ERR 0 e.1).hoCheck

/-- Time becomes valid with the counter at `t` (R494, R527, R528), and start-up goes on when it waited for that. Phase candidates measure
only from now on (R478), and a candidate that is selected already makes FREERUN the state of its kind (R488; log entry 152, DEDUCED). -/
def State.timeStarts (s : State) (t state : Nat) (traceable : Bool) : State :=
  let cur := s.rd Fld.KILN_STAT_SELECTED 0
  let state := if state = 1 ∧ cur < 44 then (if refKind cur = 2 then 3 else 2) else state
  let s := s.setNow t
  let s := s.onKiln fun k => { k with a0 := 0, aAt := t, enterAt := t, thetaAt := t, setRef := none, waitFrom := none,
                                      tebH := none, extra := 0, second := t / sec 1, measured := false,
                                      refs := k.refs.map fun p =>
                                        (p.1, if refKind p.1 = 1 then { p.2 with there := false, pulse := none, bad := 0 } else p.2) }
  let s := s.onBoot fun b => { b with selfAt := s.up }
  (((s.flag Fld.KILN_STAT_TIME_VALID 0 true).wr Fld.KILN_STAT_STATE 0 state).flag Fld.KILN_STAT_TRACEABLE 0 traceable).timeStage

/-- KILN_TIME_SET (R494): with TIME_VALID 0 and a time candidate selected, at the reference's next second boundary. -/
def execKilnTimeSet (dt : Nat) (s : State) : Res :=
  onKeep dt s fun s =>
    match s.kiln.setRef with
    | some (t, u) =>
      let ref := t + (s.up - u)
      if s.on Fld.KILN_STAT_TIME_VALID 0 ∨ ref < (t / sec 1 + 1) * sec 1 then s
      else
        let s := (s.timeStarts ref 2 true).onKiln fun k => { k with measured := true }
        ((s.kilnEvent 7 (s.rd Fld.KILN_STAT_SELECTED 0)).refSettle).hoCheck
    | none => s

/-- SLEW_DONE (R491): A has reached 0. -/
def execSlewDone (dt : Nat) (s : State) : Res :=
  onKeep dt s fun s =>
    if s.absorbed = 0 then (s.onKiln fun k => { k with a0 := 0, aAt := s.now }).flag Fld.KILN_STAT_SLEWING 0 false
    else s

/-- START_WAIT_EXPIRE (R527): no time candidate within START_WAIT, and Kiln starts in FREERUN from the Ledger's time. -/
def execStartWaitExpire (dt : Nat) (s : State) : Res :=
  onKeep dt s fun s =>
    match s.kiln.waitFrom with
    | some t =>
      let cur := s.rd Fld.KILN_STAT_SELECTED 0
      let selected := cur != 63 && refKind cur == 0
      if s.kilnState = 0 ∧ !selected ∧ t + sec (s.rd Fld.KILN_CFG_START_WAIT 0) ≤ s.up then
        (s.timeStarts s.kiln.ledgerTime 1 false).refSettle
      else s
    | none => s

/-! Pulse and clock inputs (R479 to R482). -/

/-- The period of a pulse candidate in fine units (R476, R479). -/
def State.pulsePeriod (s : State) (k : Nat) : Nat :=
  if k < 41 then fine (sec 1)
  else s.rd Fld.KILN_VREF_CFG_DIV (k - 41) * famPeriod (s.rd Fld.KILN_VREF_CFG_FAMILY (k - 41))

/-- Distance of `t` from the nearest of the instants o + n p, in fine units. -/
def nearest (t o : Int) (p : Nat) : Int := reducePhase (t - o) p

/-- Whether a candidate that takes its frequency from its pulses lies within FREQ_LIM of Kiln, by the pulse now and the one before it
(R480, R483; log entry 154, DEDUCED). -/
def State.pulseFreq (s : State) (k : Nat) : Bool :=
  let own := 41 ≤ k || s.rd Fld.KILN_PPS_CFG_FREQ (k - 1) == 0
  match (s.refOf k).pulse with
  | some q => !own || decide ((nearest (fine s.now) (fine q) (s.pulsePeriod k)).natAbs * 10 ^ 9
      ≤ s.rd Fld.KILN_CFG_FREQ_LIM 0 * (fine s.now - fine q))
  | none => true

/-- A pulse of candidate `k` on its selected edge arrives now, with window `win` in ns and the expected instants at
`o` + n periods (fine units) (R479 to R482). -/
def State.pulseIn (s : State) (k win : Nat) (o : Int) : State :=
  let r := s.refOf k
  let p := s.pulsePeriod k
  let t := (fine s.now : Int)
  if !s.on Fld.KILN_REF_CFG_EN k || s.mode == .cellar then s
  else
    let good := match r.pulse with
      | some q => decide ((nearest t (fine q) p).natAbs ≤ fine (ns win))
      | none => true
    if good then
      let ok := s.pulseFreq k
      let s := (s.putRef k { r with pulse := some s.now, bad := 0 }).refThere k ok
      if s.on Fld.KILN_STAT_TIME_VALID 0 then
        s.refMeasure k (-(nearest t o p) / 189) (some (p / 189)) (s.rd Fld.KILN_REF_ACC_ACC k)
      else s
    else
      let s := s.bump Fld.KILN_REF_CNT_REJECT k 1
      if r.bad + 1 ≥ 3 then (s.putRef k { r with bad := 0, pulse := none }).refThere k false
      else s.putRef k { r with bad := r.bad + 1 }

/-- PPS_IN_PULSE (R480 to R482): an edge on PPS_IN_n; `short` says that its pulse is shorter than 8 ns, and it is ignored (R472). -/
def execPpsInPulse (dt : Nat) (n : Fin 4) (falling short : Bool) (s : State) : Res :=
  onKeep dt s fun s =>
    if !short && falling == s.on Fld.KILN_PPS_CFG_EDGE n then s.pulseIn (1 + n) (s.rd Fld.KILN_PPS_CFG_WIN n) 0 else s

/-- VREF_IN_PULSE (R479 to R482); `short` as on PPS_IN. -/
def execVrefInPulse (dt : Nat) (n : Fin 2) (falling short : Bool) (s : State) : Res :=
  onKeep dt s fun s =>
    if !short && falling == s.on Fld.KILN_VREF_CFG_EDGE n then
      s.pulseIn (41 + n) (s.rd Fld.KILN_VREF_CFG_WIN n) (s.srd Fld.KILN_VREF_OFS_OFS n * (fine (ns 1) : Nat))
    else s

/-- PULSE_TIMEOUT (R481): no accepted pulse within 1.5 expected periods. -/
def execPulseTimeout (dt : Nat) (k : Fin 44) (s : State) : Res :=
  onKeep dt s fun s =>
    let r := s.refOf k
    match r.pulse with
    | some q =>
      if refKind k = 1 ∧ 2 * fine (s.now - q) ≥ 3 * s.pulsePeriod k then
        (s.putRef k { r with pulse := none, bad := 0 }).refThere k false
      else s
    | none => s

/-- Whether FREQ_IN_n is monitored: its candidate is enabled and uses it (R480, R530). -/
def State.freqWatched (s : State) (n : Nat) : Bool :=
  s.on Fld.KILN_REF_CFG_EN (1 + n) && s.rd Fld.KILN_PPS_CFG_FREQ n != 0 && s.mode != .cellar

/-- FREQ_IN_GLITCH (R481): the edge is rejected and counted. -/
def execFreqInGlitch (dt : Nat) (n : Fin 4) (s : State) : Res :=
  onKeep dt s fun s =>
    if s.freqWatched n then s.bump Fld.KILN_REF_CNT_REJECT (1 + n) 1 else s

/-- A FREQ_IN fault comes or goes. -/
def State.freqFault (s : State) (n : Nat) (bad : Bool) : State :=
  if !s.freqWatched n then s else (s.putRef (1 + n) { s.refOf (1 + n) with freqBad := bad }).refSettle

/-- FREQ_IN_STOP (R481). -/
def execFreqInStop (dt : Nat) (n : Fin 4) (s : State) : Res := onKeep dt s fun s => s.freqFault n true

/-- FREQ_IN_RATE_CHANGE (R481). -/
def execFreqInRateChange (dt : Nat) (n : Fin 4) (s : State) : Res := onKeep dt s fun s => s.freqFault n true

/-- FREQ_IN_RETURN (R483): edges within FREQ_LIM again. -/
def execFreqInReturn (dt : Nat) (n : Fin 4) (s : State) : Res := onKeep dt s fun s => s.freqFault n false

/-! The oscillator (R497 to R509, R512). -/

/-- A moment's fixed error enters the TEB (R512). -/
def State.addError (s : State) (t : Nat) : State :=
  s.onKiln fun k =>
    if s.kilnState = 2 ∧ k.measured then { k with extra := k.extra + t } else { k with tebH := k.tebH.map (· + t) }

/-- DAC_UPDATE (R498): Kiln writes the DAC, not while it runs from XO_IN (R507); the code is what the discipline loop
asks for (log entry 34, DESIGN CHOICE). At an end of its range the DAC-limit source stands. -/
def execDacUpdate (dt : Nat) (s : State) : Res :=
  onKeep dt s fun s =>
    if s.kilnState < 2 ∨ s.on Fld.KILN_STAT_OSC_XO 0 ∨ s.kiln.bare ∨ s.kiln.dacAt.any (fun t => decide (s.up < t + ms 100)) then s
    else
      let f := (s.onKiln fun k => { k with dacAt := some s.up }).fresh 2
      let n := 2 ^ s.rd Fld.KILN_OSC_CFG_DAC_BITS 0
      let v := f.1 % n
      ((f.2.wr Fld.KILN_OSC_DAC_VALUE 0 v).emit (.dac v)).cond 258 0 (v == 0 || v + 1 == n)

/-- TEMP_READ (R500): the sensor answers with a temperature in 0.01 degC. -/
def execTempRead (dt : Nat) (temp : BitVec 16) (s : State) : Res :=
  onKeep dt s fun s =>
    let th := s.thetaNow
    let s := s.wr Fld.KILN_OSC_TEMP_TEMP 0 temp.toNat
    (s.onKiln fun k => { k with tempAt := s.up, tempLost := false, theta := th, thetaAt := s.now }).lower 259 0

/-- TEMP_SENSOR_TIMEOUT (R500): no answer for 10 s. -/
def execTempSensorTimeout (dt : Nat) (s : State) : Res :=
  onKeep dt s fun s =>
    if s.kiln.tempAt + sec 10 ≤ s.up then
      let th := s.thetaNow
      (s.onKiln fun k => { k with tempLost := true, theta := th, thetaAt := s.now }).raise 259 0 0
    else s

/-- MODEL_SAVE (R503). -/
def execModelSave (dt : Nat) (s : State) : Res := onKeep dt s fun s => s.saveModel

/-- MODEL_VALID (R502): 24 h of LOCKED operation. -/
def execModelValid (dt : Nat) (s : State) : Res :=
  onKeep dt s fun s => if sec 86400 ≤ s.kiln.locked then s.flag Fld.KILN_STAT_MODEL_VALID 0 true else s

/-- The Kiln clock moves to XO_IN (R505 to R507, R512). -/
def State.oscLost (s : State) : State :=
  if s.on Fld.KILN_STAT_OSC_XO 0 then s
  else
    let s := (s.flag Fld.KILN_STAT_OSC_XO 0 true).addError (ns 2)
    ((s.kilnEvent 8 (s.rd Fld.KILN_STAT_SELECTED 0)).raise 256 0 0).hoCheck

/-- OSC_GLITCH (R505): the edge is rejected and counted; more than 8 within 1 ms are a stop. -/
def execOscGlitch (dt : Nat) (s : State) : Res :=
  onKeep dt s fun s =>
    let g := s.up :: s.kiln.glitches.filter fun t => decide (s.up < t + ms 1)
    let s := (s.bump Fld.KILN_CNT_OSC_GLITCH_CNT 0 1).onKiln fun k => { k with glitches := g }
    if 8 < g.length then s.oscLost else s

/-- OSC_STOP (R505). -/
def execOscStop (dt : Nat) (s : State) : Res := onKeep dt s fun s => s.oscLost

/-- OSC_RATE_CHANGE (R505). -/
def execOscRateChange (dt : Nat) (s : State) : Res := onKeep dt s fun s => s.oscLost

/-- OSC_DRIFT (R505): beyond FREQ_LIM against the selected candidate while locked. -/
def execOscDrift (dt : Nat) (s : State) : Res :=
  onKeep dt s fun s => if s.kilnState = 2 ∧ !s.on Fld.KILN_STAT_OSC_XO 0 then s.raise 257 0 0 else s

/-- OSC_RESTORE (R508, R512). -/
def execOscRestore (dt : Nat) (s : State) : Res :=
  onKeep dt s fun s =>
    if s.on Fld.KILN_STAT_OSC_XO 0 then
      let s := (s.flag Fld.KILN_STAT_OSC_XO 0 false).addError (ns 2)
      ((s.kilnEvent 9 (s.rd Fld.KILN_STAT_SELECTED 0)).lower 256 0).hoCheck
    else s

/-- XO_IN_STOP (R509; 19_electrical_package R844): FS_260 stands; the core PLLs take a reference from the Kiln clock. -/
def execXoInStop (dt : Nat) (s : State) : Res :=
  onKeep dt s fun s => (s.onKiln fun k => { k with xoLost := true, pllKiln := true }).raise 260 0 0

/-- XO_IN_RETURN (19_electrical_package R845): FS_260 clears; the PLLs stay on the Kiln reference until the next start. -/
def execXoInReturn (dt : Nat) (s : State) : Res :=
  onKeep dt s fun s => (s.onKiln fun k => { k with xoLost := false, xoFrom := some s.up }).lower 260 0

/-! Each second (R500 to R504, R510 to R514). -/

/-- Fit the model from the loop's corrections (R501): what the fit gives is free (log entry 34, DESIGN CHOICE),
each uncertainty at least the floor of the oscillator's class. -/
def State.fitModel (s : State) : State :=
  (modelFields.take 6).zipIdx.foldl (fun s f =>
    let v := s.fresh 3
    v.2.wr f.1 0 (if 3 ≤ f.2 then max v.1 (Config.oscFloor (s.rd Fld.KILN_OSC_CFG_CLASS 0) f.2) else v.1)) s

/-- The tracking settings of a GNSS input written at least 1 ms before a whole second take effect at it (11_gnss R550), and at once while
the baseband is stopped (01_architecture R868). -/
def State.trackApply (s : State) : State :=
  let b := s.now / sec 1 * sec 1
  let due := s.staged.filter fun w => (w.reg == .GNSS_TRACK_CFG_A || w.reg == .GNSS_TRACK_CFG_B)
    && (!s.on Fld.GNSS_CTL_EN 0 || decide (w.at_ + ms 1 ≤ b))
  let s := due.foldl (fun s w => s.putFields .s w.reg w.inst w.val w.mask) s
  if due.isEmpty then s else (s.setStaged (s.staged.filter fun w => !due.contains w)).cohSettle

/-- KILN_SECOND (R501, R504, R510, R513, R514): once at each Kiln second boundary. -/
def execKilnSecond (dt : Nat) (s : State) : Res :=
  onKeep dt s fun s =>
    if s.now / sec 1 ≤ s.kiln.second then s
    else
      let th := s.thetaNow
      let s := s.onKiln fun k => { k with second := s.now / sec 1, theta := th, thetaAt := s.now }
      let s := if s.kilnState = 2 ∧ !s.on Fld.KILN_STAT_OSC_XO 0 ∧ !s.kiln.bare then
        (s.onKiln fun k => { k with locked := k.locked + sec 1 }).fitModel else s
      let s := if s.kilnState = 4 then
        (s.wr Fld.KILN_HO_ELAPSED_SECONDS 0 ((s.now - s.kiln.enterAt) / sec 1)).wr Fld.KILN_HO_REMAIN_SECONDS 0 s.hoRemain
        else s
      s.trackApply.hoCheck

/-- FRAME_EPOCH (R475): an epoch of a rate family is a Kiln event; what follows it has commands of its own. -/
def execFrameEpoch (dt : Nat) (_fam : Fin 5) (s : State) : Res := onKeep dt s fun s => s

/-! Event capture (R472 to R474). -/

/-- EVT_IN_EDGE: a selected edge is captured with its time, less the calibration, in steps of 0.25 ns; a full queue
loses it, and a pulse shorter than 8 ns (`short`) is ignored. -/
def execEvtInEdge (dt : Nat) (n : Fin 8) (falling short : Bool) (s : State) : Res :=
  onKeep dt s fun s =>
    let e := s.rd Fld.KILN_EVT_CFG_EDGE n
    if !short ∧ (e = 3 ∨ (e = 1 ∧ !falling) ∨ (e = 2 ∧ falling)) then
      let q := tget [] s.kiln.evq n
      if q.length ≥ 16 then
        (s.wr Fld.KILN_EVT_STAT_OVF 0 (setBitTo (s.rd Fld.KILN_EVT_STAT_OVF 0) n true)).bump Fld.KILN_CNT_EVT_LOST_CNT 0 1
      else
        let t := (((s.now / 16384 : Nat) : Int) - s.srd Fld.KILN_EVT_CFG_CAL n).toNat * 16384
        s.onKiln fun k => { k with evq := tinsert k.evq n (q ++ [(falling, t)]) }
    else s

/-! TIME_OUT (R515 to R519). -/

def State.toutOf (s : State) (n : Nat) : ToutS := tget {} s.kiln.tout n
def State.putTout (s : State) (n : Nat) (r : ToutS) : State := s.onKiln fun k => { k with tout := tput {} k.tout n r }

/-- The spacing of a program's edges, and the offset of its edges, in fine units; none for MODE 0 and 1. -/
def State.toutGrid (s : State) (n : Nat) : Option (Nat × Nat) :=
  let o := fine (ns (s.rd Fld.KILN_TOUT_START_START n))
  match s.rd Fld.KILN_TOUT_CTL_MODE n with
  | 2 => some (fine (ns (s.rd Fld.KILN_TOUT_PERIOD_PERIOD n)), o)
  | 3 => some (s.rd Fld.KILN_TOUT_CTL_DIV n * famPeriod (s.rd Fld.KILN_TOUT_CTL_FAMILY n), o)
  | 4 => some (fine (sec 1), o)
  | _ => none

/-- The next leading edge of an output after `t`, in fine units: a once-program whose START has passed fires at once. -/
def State.toutNext (s : State) (n t : Nat) : Option Nat :=
  let r := s.toutOf n
  match s.toutGrid n with
  | some (p, o) => if p = 0 then none else some (instantAfter p o (t + 1))
  | none =>
    if s.rd Fld.KILN_TOUT_CTL_MODE n = 1 ∧ !r.fired then some (max t (fine (ns (s.rd Fld.KILN_TOUT_START_START n)))) else none

/-- The leading edge that falls now: the last one that has not yet fired. -/
def State.toutEdge (s : State) (n : Nat) : Option Nat :=
  let r := s.toutOf n
  let t := fine s.now
  match s.toutGrid n with
  | some (p, o) =>
    if p = 0 then none
    else (instantBefore p o t).bind fun e => if r.since ≤ e ∧ r.last.all (fun l => decide (l < e)) then some e else none
  | none =>
    let e := fine (ns (s.rd Fld.KILN_TOUT_START_START n))
    if s.rd Fld.KILN_TOUT_CTL_MODE n = 1 ∧ !r.fired ∧ e ≤ t then some e else none

/-- Changes of an output's program take effect at `t` (fine units). -/
def State.toutApply (s : State) (n t : Nat) (cs : List Change) : State :=
  if cs.isEmpty then s
  else
    let s := cs.foldl (fun s c => (s.install c).finish c c.okStatus 0) s
    s.putTout n { s.toutOf n with since := t, fired := false, skipped := false }

/-- Whether a write of a program takes effect as it completes: no edge is due within 2 us (R518). -/
def State.toutFree (s : State) (n : Nat) : Bool :=
  match s.toutNext n (fine s.now) with
  | some e => decide (fine (s.now + us 2) < e)
  | none => true

/-- While no edge of an output is due at all, what its arm time permits takes effect (R518). -/
def State.toutSettle (s : State) (n : Nat) : State :=
  if (s.toutNext n (fine s.now)).isNone then
    s.toutApply n (fine s.now) ((s.waiting .tout n).filter (s.due (fine s.now) (fine s.now)))
  else s

/-- TIME_OUT_PULSE (R515, R518, R519): a leading edge; what was staged before its guard takes effect with it, and when no
edge follows, what was staged inside it as well. -/
def execTimeOutPulse (dt : Nat) (n : Fin 16) (s : State) : Res :=
  onKeep dt s fun s =>
    match s.toutEdge n with
    | none => s
    | some e =>
      let r := s.toutOf n
      let once := s.rd Fld.KILN_TOUT_CTL_MODE n = 1
      let s := if once then
        s.flag Fld.KILN_TOUT_CTL_LATE n (decide (e < r.since) || r.skipped) else s
      let s := s.putTout n { r with last := some e, fired := r.fired || once }
      let s := s.markLate .tout n (e - fine (us 2)) e
      let s := s.toutApply n e ((s.waiting .tout n).filter (s.due (e - fine (us 2)) e))
      let s := if (s.toutNext n e).isNone then s.toutApply n e ((s.waiting .tout n).filter (s.due e e)) else s
      if s.rd Fld.KILN_TOUT_CTL_MODE n = 0 then s
      else
        (s.putTout n { s.toutOf n with high := some (e + fine (ns (s.rd Fld.KILN_TOUT_WIDTH_WIDTH n))) }).emit
          (.timeOut n true (e / 189))

/-- TIME_OUT_PULSE_END (R515, R519): the pulse in progress ends after the width it began with. -/
def execTimeOutPulseEnd (dt : Nat) (n : Fin 16) (s : State) : Res :=
  onKeep dt s fun s =>
    let r := s.toutOf n
    match r.high with
    | some e => if e ≤ fine s.now then (s.putTout n { r with high := none }).emit (.timeOut n false (e / 189)) else s
    | none => s

/-- A step from `old` to `new` ticks moves an output (R471, R519, R524): its next pulse is computed from the new time, a once-program whose
START it skips fires late, and a pulse in progress keeps its width. -/
def State.toutStep (s : State) (old new_ n : Nat) : State :=
  let r := s.toutOf n
  let r := { r with high := r.high.map fun h => h + fine new_ - fine old }
  let t := ns (s.rd Fld.KILN_TOUT_START_START n)
  if (s.toutGrid n).isSome then s.putTout n { r with since := fine new_, last := none }
  else s.putTout n { r with skipped := r.skipped || (decide (old < t) && decide (t ≤ new_) && !r.fired) }

/-- KILN_STEP (R492, R471, R524, R529): at the second boundary the step is taken. What was timed before it counts on in the new time. -/
def execKilnStep (dt : Nat) (s : State) : Res :=
  onKeep dt s fun s =>
    match s.kiln.stepAt with
    | some b =>
      if s.now < b then s
      else
        let old := s.now
        let d := s.kiln.stepBy
        let move := fun (t : Nat) => ((t : Int) + d).toNat
        let new := move old
        let s := s.setNow new
        let s := s.onKiln fun k => { k with
          a0 := 0, aAt := new, stepAt := none, enterAt := new, thetaAt := new, second := new / sec 1,
          refs := k.refs.map fun p => (p.1, { p.2 with pulse := p.2.pulse.map move }),
          clkFrom := k.clkFrom.map fun p => (p.1, move p.2) }
        let s := s.setStaged (s.staged.map fun w => { w with at_ := min w.at_ new })
        let s := s.each (List.range 16) fun s n => s.toutStep old new n
        let s := s.flag Fld.KILN_STAT_STEP_PENDING 0 false
        let s := if refKind (s.rd Fld.KILN_STAT_SELECTED 0) = 0 then s.flag Fld.KILN_STAT_TRACEABLE 0 true else s
        (s.event 2 0x0206 0 (beBytes 8 (ofInt 64 (d / 65536)))).hoCheck
    | none => s

/-! CLK_OUT (R520 to R523). -/

/-- Alignment period of a clock in fine units (R521). -/
def alignPeriod (a : Nat) : Nat := if a = 0 then fine (sec 1) else famPeriod (a - 1)

/-- Whether a setting gives a whole number of cycles in an alignment period, from 1 Hz to 250 MHz (R520, R521). -/
def clkOk (num den align : Nat) : Bool :=
  decide (1 ≤ num) && decide (1 ≤ den) && decide (den ≤ num * 1000) && decide (num * 1000 ≤ 250000000 * den)
    && decide (align ≤ 5) && num * 1000 * alignPeriod align % (den * fine (sec 1)) == 0

/-- CLK_OUT_ALIGN (R521 to R523): an alignment instant; staged fields take effect, and a clock that was started at least
2 us before runs. CLK_OUT outputs stay low in cellar mode (R530). -/
def execClkOutAlign (dt : Nat) (n : Fin 4) (s : State) : Res :=
  onKeep dt s fun s =>
    let t := (instantBefore (alignPeriod (s.rd Fld.KILN_CLK_CTL_ALIGN n)) 0 (fine s.now)).getD 0
    let s := s.markLate .clk n (t - fine (us 2)) t
    let s := if s.unitStopped .clk n then s
      else ((s.waiting .clk n).filter (s.due (t - fine (us 2)) t)).foldl (fun s c => (s.install c).finish c c.okStatus 0) s
    let runs := s.on Fld.KILN_CLK_CTL_EN n && decide (fine (tget 0 s.kiln.clkFrom n) ≤ t) && s.mode != .cellar
    if runs = tget false s.kiln.clkRun n then s
    else (s.onKiln fun k => { k with clkRun := tput false k.clkRun n runs }).emit (.clkOut n runs)

/-- The CLK_OUT outputs stop low (R530). -/
def State.clocksLow (s : State) : State :=
  s.each (List.range 4) fun s n =>
    if tget false s.kiln.clkRun n then (s.onKiln fun k => { k with clkRun := tput false k.clkRun n false }).emit (.clkOut n false)
    else s

/-! UTC (R525). -/

/-- The value in force and its source: GNSS while it is trusted, the selected PTP candidate, the last host write, the
image. -/
def State.utcSettle (s : State) : State :=
  let k := s.kiln
  let pick : Nat × Nat :=
    match (if s.on Fld.GNSS_STAT_TRUSTED 0 then k.utcGnss else none), k.utcPtp, k.utcHost with
    | some v, _, _ => (v, 3)
    | none, some v, _ => (v, 2)
    | none, none, some v => (v, 1)
    | none, none, none => (k.utcImage, 0)
  (((s.wr Fld.KILN_UTC_UTC_OFFSET 0 (pick.1 % 256)).wr Fld.KILN_UTC_LEAP59 0 (bitsOf pick.1 8 1)).wr
    Fld.KILN_UTC_LEAP61 0 (bitsOf pick.1 9 1)).wr Fld.KILN_UTC_SRC 0 pick.2

end Sys2Proof.Machine
end

