-- ==== Sys2Proof/Machine/Gnss.lean ====
section
/-! DEFINITION. The GNSS baseband (11_gnss_baseband): sample clocks, search and tracking channels, navigation data,
measurement records, whole-second solutions with their integrity checks, bursts in cellar mode, and self-test. What the
correlators and the least squares give comes with the commands. -/

set_option autoImplicit false

namespace Sys2Proof.Machine

/-- Whether the sample clock of an input is in use (R542). -/
def State.ifOk (s : State) (i : Nat) : Bool :=
  if i = 0 then s.on Fld.GNSS_IF_CFG_A_CLK_OK 0 else s.on Fld.GNSS_IF_CFG_B_CLK_OK 0
def State.setIf (s : State) (i : Nat) (b : Bool) : State :=
  if i = 0 then s.flag Fld.GNSS_IF_CFG_A_CLK_OK 0 b else s.flag Fld.GNSS_IF_CFG_B_CLK_OK 0 b

/-- Whether a signal of a satellite may be tracked: enabled, and its satellite not excluded (R543, R546). -/
def State.svOk (s : State) (sig prn : Nat) : Bool :=
  let last := match sig with
    | 0 | 3 => 32
    | 1 | 4 => 36
    | _ => 63
  let first := if sig = 5 then 19 else 1
  bitOf (s.rd Fld.GNSS_CTL_SIG_EN 0) sig && decide (first ≤ prn) && decide (prn ≤ last) &&
  (if prn ≤ 32 then !bitOf (s.rd Fld.GNSS_SV_EXCL_PRN_LO sig) (prn - 1)
   else !bitOf (s.rd Fld.GNSS_SV_EXCL_HI_PRN_HI sig) (prn - 33))

/-- Whether a channel may be used (R573; 14_faults R680). -/
def State.chOk (s : State) (c : Nat) : Bool := !s.on Fld.GNSS_CH_STAT_FAULTY c && !s.fenced .gnssCh c

/-- Key of a signal. -/
def sigKey (sig prn : Nat) : Nat := sig * 64 + prn

/-- Whether the antenna position is held (R551, R558). -/
def State.posHeld (s : State) : Bool :=
  s.rd Fld.GNSS_CTL_POS_MODE 0 == 1 || (s.rd Fld.GNSS_CTL_POS_MODE 0 == 2 && s.gnss.surveyed.isSome)

/-- The start type from the conditions that hold (R551): 0 HOT, 1 WARM, 2 COLD. -/
def State.startType (s : State) : Nat :=
  let within := fun (t : Nat) => s.tebTicks.any fun b => b ≤ t
  let eph := (s.gnss.eph.filter fun p => s.now ≤ p.2 + sec 14400).length
  let near := s.posHeld || decide (s.rd Fld.GNSS_POS_UNC_UNC 0 ≤ 100000000 ∧ s.rd Fld.GNSS_POS_UNC_UNC 0 ≠ 0)
  if decide (4 ≤ eph) && s.on Fld.KILN_STAT_TIME_VALID 0 && within (us 10) && s.posHeld then 0
  else if (s.gnss.alm.any fun t => s.now ≤ t + sec 7776000) && within (sec 10) && near then 1
  else 2

/-- The baseband starts (R551, R572): untrusted, with a self-test of every channel and the bank. -/
def State.gnssStart (s : State) : State :=
  let s := s.wr Fld.GNSS_STAT_START 0 s.startType
  let s := ((s.flag Fld.GNSS_STAT_TRUSTED 0 false).flag Fld.GNSS_STAT_SOL_VALID 0 false).onGnss fun g =>
    { g with testing := true, trustRun := 0, cn0Run := 0, swept := false, second := none, delta := none }
  s.gnssSettle

/-- The baseband stops: every channel is idle, and candidate 0 goes. -/
def State.gnssStop (s : State) : State :=
  let s := s.each ((List.range 96).filter fun c => s.chState c != 0) fun s c => s.setCh c 0
  let s := (s.flag Fld.GNSS_STAT_TRUSTED 0 false).flag Fld.GNSS_STAT_SOL_VALID 0 false
  let s := (s.flag Fld.GNSS_CTL_SELFTEST 0 false).onGnss fun g => { g with testing := false }
  (s.trackApply.gnssSettle.lower 291 0).refThere 0 false

/-! Sample clocks (R541, R542). -/

/-- A channel loses lock (R549): its next record carries SLIP, and it reacquires. -/
def State.loseLock (s : State) (c st : Nat) : State :=
  ((s.setCh c st).bump Fld.GNSS_CNT_LOCK_LOSS_CNT 0 1).onGnss fun g => { g with slip := c :: g.slip.filter (· ≠ c) }

/-- The clock of an input stopped or changed rate. -/
def State.clockGone (s : State) (i : Nat) : State :=
  let s := s.setIf i false
  let s := s.each ((List.range 96).filter fun c =>
    s.chState c ≥ 2 && sigInput (s.rd Fld.GNSS_CH_STAT_SIG c) == i) fun s c => s.loseLock c 1
  s.gnssSettle.raise (288 + i) 0 0

/-- GNSS_CLOCK_STOP and GNSS_CLOCK_RATE_CHANGE (R541). -/
def execGnssClockStop (dt : Nat) (i : Fin 2) (s : State) : Res :=
  onKeep dt s fun s => if s.on Fld.GNSS_CTL_EN 0 then s.clockGone i else s.setIf i false
def execGnssClockRateChange (dt : Nat) (i : Fin 2) (s : State) : Res :=
  onKeep dt s fun s => if s.on Fld.GNSS_CTL_EN 0 then s.clockGone i else s.setIf i false

/-- GNSS_CLOCK_GLITCH (R541): 1 ms of samples is discarded and counted. -/
def execGnssClockGlitch (dt : Nat) (i : Fin 2) (s : State) : Res :=
  onKeep dt s fun s =>
    if s.on Fld.GNSS_CTL_EN 0 && s.ifOk i then
      (if i.val = 0 then s.bump Fld.GNSS_CNT_CLK_GLITCH_A_CNT 0 1 else s.bump Fld.GNSS_CNT_CLK_GLITCH_B_CNT 0 1).raise 290 0 0
    else s

/-- GNSS_CLOCK_REQUALIFIED (R542). -/
def execGnssClockRequalified (dt : Nat) (i : Fin 2) (s : State) : Res :=
  onKeep dt s fun s => (s.setIf i true).lower (288 + i) 0

/-! Search and tracking (R544, R546, R549, R551 to R554). -/

/-- A channel is given a signal to acquire. -/
def State.assign (s : State) (c sig prn : Nat) : State :=
  if s.chOk c && s.chState c == 0 && s.svOk sig prn && s.ifOk (sigInput sig) then
    ((s.setCh c 1).wr Fld.GNSS_CH_STAT_SIG c sig).wr Fld.GNSS_CH_STAT_PRN c prn
  else s

/-- GNSS_SEARCH_PASS (R551 to R554): a pass of the bank over L1-band signal `sig` gives channels the satellites it found;
`sweep` ends a sweep over every PRN. In a COLD start Galileo and BeiDou are searched only after a GPS sweep that found
none. -/
def execGnssSearchPass (dt : Nat) (sig : Fin 3) (sweep : Bool) (found : List (Fin 96 × Fin 64)) (s : State) : Res :=
  onKeep dt s fun s =>
    let cold := s.rd Fld.GNSS_STAT_START 0 == 2 && !s.on Fld.KILN_STAT_TIME_VALID 0 && !s.on Fld.GNSS_STAT_SOL_VALID 0
    if !s.on Fld.GNSS_CTL_EN 0 || !s.ifOk 0 || (cold && sig.val != 0 && !s.gnss.swept) then s
    else
      let s := s.each (found.map fun p => p.1.val * 64 + p.2.val) fun s x => s.assign (x / 64) sig (x % 64)
      let s := s.onGnss fun g =>
        { g with bank := g.bank.filter fun k => !(found.any fun p => sigKey sig p.2 == k),
                 swept := g.swept || (sweep && sig.val == 0 && found.isEmpty) }
      s.gnssSettle

/-- HOT_SEARCH_TIMEOUT (R554): a signal not reacquired within 2 s is left to the bank. -/
def execHotSearchTimeout (dt : Nat) (c : Fin 96) (s : State) : Res :=
  onKeep dt s fun s =>
    if s.chState c = 1 ∧ tget 0 s.gnss.since c.val + sec 2 ≤ s.up then
      let k := sigKey (s.rd Fld.GNSS_CH_STAT_SIG c) (s.rd Fld.GNSS_CH_STAT_PRN c)
      ((s.setCh c 0).onGnss fun g => { g with bank := k :: g.bank.filter (· ≠ k) }).gnssSettle
    else s

/-- CHANNEL_LOCK_LOSS (R549): the carrier's condition, or the code's too, has failed for 1 s. -/
def execChannelLockLoss (dt : Nat) (c : Fin 96) (code : Bool) (s : State) : Res :=
  onKeep dt s fun s =>
    if code && decide (s.chState c ≥ 2) then (s.loseLock c 1).gnssSettle
    else if !code && s.chState c == 3 then (s.loseLock c 2).gnssSettle
    else s

/-- Whether the ephemeris of an L1-band signal is valid: decoded, and in cellar mode at most 6 h old (R544, R570). -/
def State.ephOk (s : State) (sig prn : Nat) : Bool :=
  (s.gnss.eph.find? fun p => p.1 == sigKey sig prn).any fun p => s.mode != .cellar || decide (s.now ≤ p.2 + sec 21600)

/-- CHANNEL_LOCK_ACQUIRED (R544, R549, R553): a channel gains code and carrier lock on a signal; an L5-band signal only
while its satellite's L1-band signal is tracked and carries valid ephemeris. `sync` says that bit synchronisation is reached (R548). -/
def execChannelLockAcquired (dt : Nat) (c : Fin 96) (sig : Fin 6) (prn : Fin 64) (cn0 : BitVec 16) (sync : Bool) (s : State) : Res :=
  onKeep dt s fun s =>
    let mine := s.chState c == 0 || (s.rd Fld.GNSS_CH_STAT_SIG c == sig.val && s.rd Fld.GNSS_CH_STAT_PRN c == prn.val)
    let l1 := sig.val - 3
    let base := sig.val < 3 || (s.ephOk l1 prn && (List.range 96).any fun j =>
      s.chState j ≥ 2 && s.rd Fld.GNSS_CH_STAT_SIG j == l1 && s.rd Fld.GNSS_CH_STAT_PRN j == prn.val)
    if s.on Fld.GNSS_CTL_EN 0 && s.chOk c && mine && s.svOk sig prn && s.ifOk (sigInput sig) && base then
      let s := ((s.setCh c 3).wr Fld.GNSS_CH_STAT_SIG c sig).wr Fld.GNSS_CH_STAT_PRN c prn
      let s := s.onGnss fun g => { g with sync := if sync then c.val :: g.sync.filter (· ≠ c.val) else g.sync.filter (· ≠ c.val) }
      (s.wr Fld.GNSS_CH_STAT_CN0 c cn0.toNat).gnssSettle
    else s

/-- The GPS week of a TAI second: the GPS epoch is second 315,964,819 of the PTP epoch. -/
def gpsWeek (t : Nat) : Nat := (t - 315964819) / 604800

/-- NAV_DATA_DECODED (R543 to R545, R570): an L1-band signal gives ephemeris, almanac and UTC parameters, and GPS its
10-bit week number, resolved to the week at or after that of the Ledger's time, or the build week. In cellar mode data is
decoded during a refresh only. -/
def execNavDataDecoded (dt : Nat) (c : Fin 96) (almanac : Bool) (utc : Option (BitVec 10)) (week : Option (BitVec 10))
    (s : State) : Res :=
  onKeep dt s fun s =>
    let sig := s.rd Fld.GNSS_CH_STAT_SIG c
    if s.chState c ≥ 2 ∧ sig < 3 ∧ (s.mode = .cellar → s.up ≤ s.gnss.navUntil) then
      let base := if s.kiln.ledgerTime = 0 then s.gnss.buildWeek else gpsWeek (s.kiln.ledgerTime / sec 1)
      let s := s.onGnss fun g =>
        { g with eph := tput 0 g.eph (sigKey sig (s.rd Fld.GNSS_CH_STAT_PRN c)) s.now,
                 alm := if almanac then some s.now else g.alm,
                 week := match week with
                   | some w => if sig = 0 then some (base + (w.toNat + 1024 - base % 1024) % 1024) else g.week
                   | none => g.week }
      match utc with
      | some u => (s.onKiln fun k => { k with utcGnss := some u.toNat }).utcSettle
      | none => s
    else s

/-! Measurement records (R555 to R557). -/

/-- The 32-byte entry of a channel (R556). -/
def State.measEntry (s : State) (m : GMeas) : List Byte :=
  let c := m.ch.val
  let flags := b2n (s.chState c ≥ 2) * 128 + b2n (s.chState c == 3) * 64 + b2n m.half * 32
    + s.rd Fld.GNSS_CH_STAT_EXCLUDED c * 16 + b2n (s.gnss.slip.contains c) * 8
  let lock := if s.chState c = 3 then (s.up - tget 0 s.gnss.lock c) / ms 1 else 0
  beBytes 1 c ++ beBytes 1 (s.rd Fld.GNSS_CH_STAT_SIG c) ++ beBytes 1 (s.rd Fld.GNSS_CH_STAT_PRN c) ++ beBytes 1 flags
    ++ beBytes 8 m.code.toNat ++ beBytes 8 m.carrier.toNat ++ beBytes 4 m.doppler.toNat ++ beBytes 2 m.cn0.toNat
    ++ beBytes 4 (satTo (2 ^ 32 - 1) lock) ++ beBytes 2 0

/-- MEAS_MS in ms. -/
def State.measMs (s : State) : Nat := 10 ^ (s.rd Fld.GNSS_CTL_MEAS_MS 0 + 1)

/-- A measurement record (R556): complete in control SRAM before NEWEST moves to it (R557). `sol` says whether a solution
was formed at the epoch `t`. -/
def State.measRecord (s : State) (t : Nat) (sol burst : Bool) (ms_ : List GMeas) : State :=
  let ms_ := (List.range 96).filterMap fun c => ms_.find? fun m => m.ch.val == c && s.chState c ≥ 2
  let slot := (s.rd Fld.GNSS_MEAS_PTR_NEWEST 0 + 1) % 16
  let flags := s.rd Fld.GNSS_STAT_TRUSTED 0 + b2n sol * 2 + (if sol then s.rd Fld.GNSS_STAT_DUAL 0 else 0) * 4 + b2n burst * 8
  let d := if sol then s.gnss.delta.getD 0 else 0
  let bytes := kilnBytes t ++ beBytes 4 s.gnss.seq ++ beBytes 1 ms_.length ++ beBytes 1 flags ++ beBytes 2 s.measMs
    ++ beBytes 4 (ofInt 32 d) ++ beBytes 4 (s.rd Fld.GNSS_TEB_TEB_G 0) ++ beBytes 4 0 ++ ms_.flatMap s.measEntry
  let s := s.putBytes (0x300000 + Config.measRing % 0xF0000 + slot * 3104) bytes
  let s := ms_.foldl (fun s m => s.wr Fld.GNSS_CH_STAT_CN0 m.ch m.cn0.toNat) s
  (s.wr Fld.GNSS_MEAS_PTR_NEWEST 0 slot).onGnss fun g =>
    { g with seq := (g.seq + 1) % 2 ^ 32, slip := g.slip.filter fun c => !(ms_.any fun m => m.ch.val == c) }

/-- MEASUREMENT_EPOCH (R555): once at each epoch outside cellar mode. -/
def execMeasurementEpoch (dt : Nat) (channels : List GMeas) (s : State) : Res :=
  onKeep dt s fun s =>
    let t := s.now / ms s.measMs * ms s.measMs
    if s.on Fld.GNSS_CTL_EN 0 && s.mode != .cellar && s.gnss.epoch != some t then
      let sol := t % sec 1 == 0 && s.gnss.second == some (t / sec 1) && s.on Fld.GNSS_STAT_SOL_VALID 0
      (s.onGnss fun g => { g with epoch := some t }).measRecord t sol false channels
    else s

/-! Solutions and integrity (R558 to R568). -/

/-- Exclude the worst satellite while its residual is above the limit (R564): what is excluded, the solution left, and
whether check 0 fails. -/
def exclude (lim maxN minSv : Nat) : Nat → List GPass → List Nat × Option GPass × Bool
  | _, [] => ([], none, true)
  | i, p :: ps =>
    match p.sats.foldl (fun (b : Option GSat) x => match b with
        | some y => if y.residual < x.residual then some x else b
        | none => some x) none with
    | none => ([], some p, true)
    | some w =>
      if w.residual ≤ lim then ([], some p, decide (p.sats.length < minSv))
      else if i < maxN ∧ ps ≠ [] then
        let r := exclude lim maxN minSv (i + 1) ps
        (w.ch.val :: r.1, r.2)
      else ([], some p, true)

/-- Whether the deviation of C/N0 (0.01 dB-Hz) is below a limit in 0.1 dB. -/
def cn0Low (l : List Nat) (lim : Nat) : Bool :=
  let n := l.length
  let sum := l.foldl (· + ·) 0
  let sq := (l.map fun x => x * x).foldl (· + ·) 0
  decide (n * sq - sum * sum < n * n * (10 * lim) * (10 * lim))

/-- TEB_G in ns (R560): 3 sigma, the position term, CAL_UNC and the single-frequency allowance, rounded up. -/
def State.tebG (s : State) (p : GPass) : Nat :=
  let unc := match s.rd Fld.GNSS_CTL_POS_MODE 0 with
    | 0 => p.posSd
    | 1 => s.rd Fld.GNSS_POS_UNC_UNC 0
    | _ => (s.gnss.surveyed.getD []).getD 3 0
  let fixed := s.rd Fld.GNSS_CFG_CAL_UNC 0 + (if p.dual then 0 else s.rd Fld.GNSS_CFG_IONO_UNC 0)
  let num := 3 * p.sigma * 299792458 + unc * 256000000000
  satTo (2 ^ 32 - 1) ((num + 256 * 299792458 - 1) / (256 * 299792458) + fixed)

/-- GNSS becomes untrusted (R566), with the checks that failed. -/
def State.distrust (s : State) (fails : List Nat) : State :=
  let s := s.onGnss fun g => { g with trustRun := 0 }
  if s.on Fld.GNSS_STAT_TRUSTED 0 then
    let s := (s.flag Fld.GNSS_STAT_TRUSTED 0 false).bump Fld.GNSS_CNT_UNTRUST_CNT 0 1
    let s := s.wr Fld.GNSS_INTEG_STAT_CAUSE 0 (fails.foldl (fun v b => setBitTo v b true) (s.rd Fld.GNSS_INTEG_STAT_CAUSE 0))
    (s.each fails fun s b => s.event 3 0x0301 0 (beBytes 1 b)).raise 291 0 0
  else s

/-- Every check has passed at a solution (R566): after TRUST_S seconds GNSS is trusted again. -/
def State.passedSecond (s : State) : State :=
  let n := s.gnss.trustRun + 1
  let s := s.onGnss fun g => { g with trustRun := n }
  if s.rd Fld.GNSS_INTEG_CFG_2_TRUST_S 0 ≤ n then (s.flag Fld.GNSS_STAT_TRUSTED 0 true).lower 291 0 else s

/-- No solution can be formed at this second: GNSS_A is out of use (R542, R562). -/
def State.noSolution (s : State) : State :=
  let s := (s.flag Fld.GNSS_STAT_SOL_VALID 0 false).onGnss fun g =>
    { g with second := some (s.now / sec 1), delta := none, trustRun := 0, noSol := g.noSol + 1 }
  s.refThere 0 false

/-- The survey counts a second, and ends (R559). -/
def State.surveyStep (s : State) (m : GSol) : State :=
  if s.rd Fld.GNSS_CTL_POS_MODE 0 ≠ 0 then s
  else
    let n := s.gnss.surveyN + 1
    let s := s.onGnss fun g => { g with surveyN := n }
    if s.rd Fld.GNSS_SURVEY_SURVEY_S 0 ≤ n ∧ m.meanSd ≤ s.rd Fld.GNSS_CFG_SURVEY_UNC 0 then
      let s := s.onGnss fun g => { g with surveyed := some (m.mean.toList.map (ofInt 64) ++ [m.meanSd]), noise := [], svc := 0 }
      (s.flag Fld.GNSS_STAT_SURVEYED 0 true).wr Fld.GNSS_CTL_POS_MODE 0 2
    else s

/-- A solution shows: its exclusions, the checks it failed and skipped, and what it gives (R561 to R566). -/
def State.solveShow (s : State) (out : List Nat) (dual : Bool) (used : Nat) (fails : List Nat) (skipped : Nat) (valid : Bool)
    (teb : Nat) (d : Int) (run : Nat) : State :=
  let s := s.each (List.range 96) fun s c =>
    if s.on Fld.GNSS_CH_STAT_EXCLUDED c || out.contains c then s.flag Fld.GNSS_CH_STAT_EXCLUDED c (out.contains c) else s
  let s := s.bump Fld.GNSS_CNT_EXCL_CNT 0 out.length
  let s := (s.wr Fld.GNSS_INTEG_STAT_FAILING 0 (fails.foldl (fun v b => v + 2 ^ b) 0)).wr
    Fld.GNSS_INTEG_STAT_SKIPPED 0 skipped
  let s := ((s.flag Fld.GNSS_STAT_SOL_VALID 0 valid).flag Fld.GNSS_STAT_DUAL 0 dual).wr
    Fld.GNSS_STAT_USED 0 used
  let s := s.wr Fld.GNSS_TEB_TEB_G 0 teb
  s.onGnss fun g => { g with second := some (s.now / sec 1), delta := if valid then some d else none,
                                      cn0Run := run, noSol := if valid then 0 else g.noSol + 1 }

/-- What follows from the checks of a solution: distrust or trust, the survey, UTC, and Kiln's candidate 0 (R561 to R569). -/
def State.solveEnd (s : State) (m : GSol) (fails : List Nat) (valid : Bool) (dt : Int) (teb : Nat) : State :=
  let moved := s.gnss.posDirty && s.rd Fld.GNSS_CTL_POS_MODE 0 == 1
  let s := if moved then s.onGnss fun g => { g with posDirty := false, noise := [], svc := 0 } else s
  let s := if !fails.isEmpty then s.distrust fails
    else if moved then s.distrust []
    else s.passedSecond
  let s := s.wr Fld.GNSS_STAT_TRUST_LEFT 0 (if s.on Fld.GNSS_STAT_TRUSTED 0 then 0 else
    satTo 255 (s.rd Fld.GNSS_INTEG_CFG_2_TRUST_S 0 - s.gnss.trustRun))
  let t := s.on Fld.GNSS_STAT_TRUSTED 0
  let s := if t then s.onGnss fun g =>
    { g with svc := if s.mode = .service then g.svc + 1 else g.svc, isbN := g.isbN + 1 } else s
  let s := if valid then s.surveyStep m else s
  let s := s.utcSettle.refThere 0 (t && valid)
  if t && valid then s.refMeasure 0 dt none teb else s

/-- The checks of a whole-second solution `p`, in the order of R564: the channels `out0` were excluded, `over` when no more may
be. -/
def State.solveBy (s : State) (m : GSol) (p : GPass) (out0 : List Nat) (past : Bool) : State :=
  let mode0 := s.rd Fld.GNSS_CTL_POS_MODE 0 = 0
  let minSv := s.rd Fld.GNSS_INTEG_CFG_0_MIN_SV 0
  let dop := m.doppler.filter fun x => s.rd Fld.GNSS_INTEG_CFG_1_DOP_LIM 0 < x.2
  let dopOut := if mode0 then [] else match dop with
    | [x] => [x.1.val]
    | _ => []
  let left := p.sats.filter fun x => !dopOut.contains x.ch.val
  let out := out0 ++ dopOut.filter fun c => p.sats.any fun x => x.ch.val == c
  let valid := decide (minSv ≤ left.length)
  let scale := if s.rd Fld.GNSS_CTL_TIMESCALE 0 = 2 then 33 else 19
  let dt := p.time + (sec scale : Int) - (s.now : Int)
  let d := dt / 256
  let teb := s.tebG p
  let low := decide (6 ≤ m.cn0.length) && cn0Low m.cn0 (s.rd Fld.GNSS_INTEG_CFG_0_CN0_SD_MIN 0)
  let run := if low then s.gnss.cn0Run + 1 else 0
  let base := fun (i : Nat) => (s.gnss.noise.find? fun q => q.1 == i).map fun q => q.2
  let lim : Int := 10 * s.rd Fld.GNSS_INTEG_CFG_0_NOISE_LIM 0
  let isbOf := fun (c : Nat) => (s.gnss.isb.find? fun q => q.1 == c).map fun q => q.2
  let isbRun := m.isb.filter fun x => decide (2 ≤ x.2.2) && (isbOf x.1.val).isSome
  let sel := s.rd Fld.KILN_STAT_SELECTED 0 == 0
  let f0 := past || !valid
  let f1 := decide (10 ≤ run) || decide (100 * s.rd Fld.GNSS_INTEG_CFG_0_CN0_MAX 0 < m.cn0Max)
  let f2 := m.noise.any fun x => (base x.1.val).any fun b =>
    decide (lim < (x.2.1 - b.1).natAbs) || decide (lim < (x.2.2 - b.2).natAbs)
  let f3 := !mode0 && decide (2 ≤ dop.length)
  let f4 := isbRun.any fun x => (isbOf x.1.val).any fun b => decide (s.rd Fld.GNSS_INTEG_CFG_1_ISB_LIM 0 < (x.2.1 - b).natAbs)
  let f5 :=
    if sel then
      (s.gnss.delta.any fun o => decide (256 * s.rd Fld.GNSS_INTEG_CFG_1_CLK_LIM 0 < (d - o - m.predicted).natAbs)) ||
      (s.on Fld.KILN_STAT_MODEL_VALID 0 &&
        decide (3 * s.rd Fld.KILN_MODEL_UY_VALUE 0 + 1000 * s.rd Fld.GNSS_INTEG_CFG_1_FREQ_MARGIN 0 < m.freq))
    else decide (256 * (s.teb + teb) < d.natAbs)
  let fails := ([f0, f1, f2, f3, f4, f5].zipIdx.filter fun q => q.1).map fun q => q.2
  let skipped := b2n (m.cn0.length < 6) * 2 + b2n (m.noise.any fun x => (base x.1.val).isNone) * 4 + b2n mode0 * 8
    + b2n (m.isb.any fun x => decide (x.2.2 < 2) || (isbOf x.1.val).isNone) * 16
  (s.solveShow out p.dual left.length fails skipped valid teb d run).solveEnd m fails valid dt teb

/-- What a solution may use: in cellar mode no satellite whose ephemeris is older than 6 h (R570), and one frequency while GNSS_B is out
of use (R542). -/
def State.usable (s : State) (p : GPass) : GPass :=
  let ok := fun (x : GSat) => s.mode != .cellar ||
    s.ephOk (s.rd Fld.GNSS_CH_STAT_SIG x.ch % 3) (s.rd Fld.GNSS_CH_STAT_PRN x.ch)
  { p with sats := p.sats.filter ok, dual := p.dual && s.ifOk 1 }

/-- A whole-second solution, or none (R560, R564). -/
def State.solve (s : State) (m : GSol) : State :=
  if !s.ifOk 0 then s.noSolution
  else
    let r := exclude (s.rd Fld.GNSS_INTEG_CFG_0_RES_LIM 0) (s.rd Fld.GNSS_INTEG_CFG_0_MAX_EXCL 0)
      (s.rd Fld.GNSS_INTEG_CFG_0_MIN_SV 0) 0 (m.passes.map s.usable)
    match r.2.1 with
    | none => s.noSolution
    | some p => s.solveBy m p r.1 r.2.2

/-- GNSS_SOLUTION (R560): once at each whole Kiln second outside cellar mode. -/
def execGnssSolution (dt : Nat) (m : GSol) (s : State) : Res :=
  onKeep dt s fun s =>
    if s.on Fld.GNSS_CTL_EN 0 && s.mode != .cellar && s.gnss.second != some (s.now / sec 1) then s.solve m
    else s

/-- BASELINE_LEARNT (R568): a noise baseline after an hour of trusted operation in SERVICE, a bias after 24 hours of
trusted solutions. -/
def execBaselineLearnt (dt : Nat) (b : Baseline) (s : State) : Res :=
  onKeep dt s fun s =>
    if s.mode = .cellar then s
    else match b with
      | .noise i p a => if 3600 ≤ s.gnss.svc then s.onGnss fun g => { g with noise := tinsert g.noise i.val (p, a) } else s
      | .isb c v => if 86400 ≤ s.gnss.isbN then s.onGnss fun g => { g with isb := tinsert g.isb c.val v } else s

/-- A write of POS_X, POS_Y, POS_Z or POS_UNC (R563). -/
def State.posWritten (s : State) : State := s.onGnss fun g => { g with posDirty := true }

/-- A write of POS_MODE 0 (R563): the surveyed position is discarded and a survey starts. -/
def State.posMode (s : State) (v : Nat) : State :=
  let s := s.wr Fld.GNSS_CTL_POS_MODE 0 v
  if v = 0 then (s.flag Fld.GNSS_STAT_SURVEYED 0 false).onGnss fun g => { g with surveyed := none, surveyN := 0 } else s

/-! Cellar mode (R569 to R571). -/

/-- GNSS_BURST (R569 to R571): a burst of a whole second, latched at 60 ms: one record and one solution from at most 24
signals. After 60 bursts without a solution none runs until the next refresh. -/
def execGnssBurst (dt : Nat) (channels : List GMeas) (m : GSol) (s : State) : Res :=
  onKeep dt s fun s =>
    if s.on Fld.GNSS_CTL_EN 0 && s.mode == .cellar && !s.kiln.bare && decide (s.gnss.noSol < 60)
        && s.gnss.second != some (s.now / sec 1) then
      let s := s.solve m
      (s.gnssSettle).measRecord (s.now / sec 1 * sec 1 + ms 60) (s.on Fld.GNSS_STAT_SOL_VALID 0) true (channels.take 24)
    else s

/-- GNSS_NAV_REFRESH (R570): every CELLAR_NAV_H hours navigation data is decoded for 36 s, and bursts go on. -/
def execGnssNavRefresh (dt : Nat) (s : State) : Res :=
  onKeep dt s fun s =>
    if s.on Fld.GNSS_CTL_EN 0 && s.mode == .cellar
        && decide (s.gnss.refreshAt + sec (3600 * s.rd Fld.GNSS_CFG_CELLAR_NAV_H 0) ≤ s.up) then
      s.onGnss fun g => { g with refreshAt := s.up, navUntil := s.up + sec 36, noSol := 0 }
    else s

/-! Self-test (R572 to R574). -/

/-- A self-test begins. -/
def State.selfTest (s : State) : State :=
  ((s.flag Fld.GNSS_CTL_SELFTEST 0 true).onGnss fun g => { g with testing := true }).gnssSettle

/-- A unit under test passes or fails: 3 failures in a row are a persistent fault (R574). -/
def State.testResult (s : State) (u : Nat) (ok : Bool) : State :=
  let n := if ok then 0 else tget 0 s.gnss.tests u + 1
  let s := s.onGnss fun g => { g with tests := tput 0 g.tests u n }
  if ok then s
  else
    let s := if u < 96 then (s.setCh u 0).flag Fld.GNSS_CH_STAT_FAULTY u true
      else s.onGnss fun g => { g with bankOut := u :: g.bankOut.filter (· ≠ u) }
    let s := s.raise 292 (if u < 96 then u else 0) 0
    if 3 ≤ n then s.raise 293 0 0 else s

/-- SELFTEST_DONE (R573, R574): the test of a channel, or of a bank section from 96 on, ends; a channel that tracks hands
its signal to an idle one, or is reported not tested. `last` ends the self-test. -/
def execSelftestDone (dt : Nat) (u : Fin 112) (ok last : Bool) (s : State) : Res :=
  onKeep dt s fun s =>
    if !s.gnss.testing then s
    else
      let s :=
        if u.val < 96 ∧ s.chState u ≠ 0 then
          match (List.range 96).find? fun j => s.chState j == 0 && s.chOk j with
          | none => s
          | some j =>
            let st := s.chState u
            let sig := s.rd Fld.GNSS_CH_STAT_SIG u
            let prn := s.rd Fld.GNSS_CH_STAT_PRN u
            let s := ((s.setCh j st).wr Fld.GNSS_CH_STAT_SIG j sig).wr Fld.GNSS_CH_STAT_PRN j prn
            (s.setCh u 0).testResult u ok
        else s.testResult u ok
      let s := if last then (s.flag Fld.GNSS_CTL_SELFTEST 0 false).onGnss fun g => { g with testing := false } else s
      s.gnssSettle

end Sys2Proof.Machine
end

