-- ==== Sys2Proof/Machine/Egress.lean ====
section
/-! DEFINITION. What a frame's departure is noted in, and how a port's queues are served (04_ethernet R173, R179, R209 to R212; 12_time
R585, R588, R616, R627). -/

set_option autoImplicit false

namespace Sys2Proof.Machine

/-! Records of the time service's ports. -/

def State.tportOf (s : State) (p : Nat) : TPortS := tget {} s.tsvc.port p
def State.putTport (s : State) (p : Nat) (r : TPortS) : State :=
  s.onTsvc fun t => { t with port := tput {} s.tsvc.port p r }
def State.clientOf (s : State) (p : Nat) : ClientS := (s.tportOf p).client
def State.putClient (s : State) (p : Nat) (c : ClientS) : State := s.putTport p { s.tportOf p with client := c }

/-! Timestamps (R585, R586): the internal time has a resolution of 0.25 ns (log entry 47, DEDUCED). -/

def State.internal (s : State) : Int := ((s.now / 16384 * 16384 : Nat) : Int)
def State.txStamp (s : State) (p : Nat) : Int := s.internal + s.srd Fld.TSVC_PORT_CAL_TX_CAL p * 16384
def State.rxStamp (s : State) (p : Nat) : Int := s.internal - s.srd Fld.TSVC_PORT_CAL_RX_CAL p * 16384

/-- A Sync that was sent awaits its Follow_Up. -/
def State.syncSent (s : State) (key seq p : Nat) : State :=
  s.onTsvc fun t => { t with sent := tinsert t.sent key (seq, (s.txStamp p).toNat, s.teb) }

/-- Queue a transmit timestamp; a full queue loses it (R627, R629). -/
def State.txStampQueue (s : State) (p : Nat) (entry : Nat × Bool × Nat) : State :=
  let r := s.tportOf p
  if r.txts.length < 64 then s.putTport p { r with txts := r.txts ++ [entry] }
  else ((s.wr Fld.TSVC_TXTS_STAT_OVF 0 (setBitTo (s.rd Fld.TSVC_TXTS_STAT_OVF 0) p true)).bump
    Fld.TSVC_CNT_TXTS_LOST_CNT p 1).raise 324 0 0

/-! Departures. -/

/-- Note a departure now (R211). -/
def State.marked (s : State) (p : Nat) : TxMark → State
  | .none => s
  | .sync key seq => s.syncSent key seq p
  | .delayReq seq => s.putClient p { s.clientOf p with req := some (seq, s.txStamp p) }
  | .inject id => s.txStampQueue p (id, false, (s.txStamp p).toNat)

/-- Note that a frame was dropped (R627). -/
def State.unmarked (s : State) (p : Nat) : TxMark → State
  | .inject id => s.txStampQueue p (id, true, 0)
  | _ => s

/-- Send a frame that is noted: at once, or when its queue is served. -/
def State.txMarked (s : State) (p len : Nat) (o : Output) (mark : TxMark) : State :=
  if !s.portSends p then (s.txFrame p len o).unmarked p mark
  else if s.queueHeld p o.queue then s.txFrame p len o mark
  else (s.txFrame p len o).marked p mark

/-- Three frames of Q2 to one of Q3 (R209). -/
def wrr {α : Type} : Nat → List α → List α → List α
  | 0, _, _ => []
  | n + 1, a, b => a.take 3 ++ b.take 1 ++ wrr n (a.drop 3) (b.drop 1)

/-- The order in which frames that may leave do (R209): Q0, then Q1, then Q2 and Q3 in turn. -/
def served (l : List TxItem) : List TxItem :=
  let q := fun (n : Nat) => l.filter fun x => x.queue == n
  q 0 ++ q 1 ++ wrr l.length (q 2) (q 3)

/-- Serve a port's queues that are not held. A media frame of a flow that no longer sends is dropped. -/
def State.serve (s : State) (p : Nat) : State :=
  let l := s.egress p
  let s := s.putEgress p (l.filter fun x => s.queueHeld p x.queue)
  (served (l.filter fun x => !s.queueHeld p x.queue)).foldl (fun s x =>
    if x.flow.all s.flowSends then
      let t := s.txItem p x
      if s.portSends p then t.marked p x.mark else t.unmarked p x.mark
    else s) s

/-- A port stops sending: the frames that wait are discarded, and counted while it has a fault (R173). -/
def State.dropEgress (s : State) (p : Nat) : State :=
  let l := s.egress p
  l.foldl (fun s x => (s.txItem p x).unmarked p x.mark) (s.putEgress p [])

end Sys2Proof.Machine
end

