-- ==== Sys2Proof/Machine/MashMath.lean ====
section
/-! DEFINITION. The arithmetic of Mash (08_mash_audio R387 to R390, R402 to R409, R419): gains, rounding, ramps,
weights and the dynamics, over integers. Powers and logarithms of the fader and the dynamics are computed in the fixed
point of 30 decimal digits (log entries 31, 37). -/

set_option autoImplicit false

namespace Sys2Proof.Machine

/-- Round half to even of `n` / `d` (R388 to R390). -/
def rne (n : Int) (d : Nat) : Int :=
  let q := n / (d : Int)
  let r := 2 * (n % (d : Int))
  if r < (d : Int) then q else if (d : Int) < r then q + 1 else if q % 2 = 0 then q else q + 1

/-- Whether 10^((c - 1800)/400) * 2^21 is at least g - 1/2. -/
def gainAtLeast (c g : Nat) : Bool :=
  decide ((2 * g - 1) ^ 400 * 10 ^ (1800 - c) ≤ 2 ^ 8800 * 10 ^ (c - 1800))

/-- The greatest number below 2^n more than `g` that passes a test, bit by bit from the top. -/
def topBits (p : Nat → Bool) : Nat → Nat → Nat
  | 0, g => g
  | n + 1, g => topBits p n (if p (g + 2 ^ n) then g + 2 ^ n else g)

/-- The linear value of a gain code: 24 bits with 21 fraction bits (R388). -/
def gainLin (c : Nat) : Nat := if c = 0 then 0 else topBits (gainAtLeast c) 24 0

/-- From products of a sample and a gain (2^-44 of full scale) to the accumulator (2^-36) (R389). -/
def toAcc (p : Int) : Int := rne p 256

/-- From the accumulator to 24 bits, without saturation (R390). -/
def to24 (a : Int) : Int := rne a 8192

/-- Saturation to 24 bits (R390). -/
def sat24 (v : Int) : Int := max (-8388608) (min 8388607 v)

/-! Fixed-point powers and logarithms. -/

/-- Terms of the series of exp: `t` is the last term. -/
def expTerms (x : Int) : Nat → Int → Nat → Int
  | 0, _, _ => 0
  | n + 1, t, k => t + expTerms x n (t * x / fxOne / ((k : Int) + 1)) (k + 1)

/-- Terms of the series of 2 atanh t: `p` is the power of t. -/
def atanhTerms (t2 : Int) : Nat → Int → Nat → Int
  | 0, _, _ => 0
  | n + 1, p, k => 2 * p / (2 * (k : Int) + 1) + atanhTerms t2 n (p * t2 / fxOne) (k + 1)

/-- ln(n / d) for a ratio from 1 to 2. -/
def lnSmall (n d : Int) : Int :=
  let t := (n - d) * fxOne / (n + d)
  atanhTerms (t * t / fxOne) 36 t 0

/-- ln 2 and ln 10. -/
def fxLn2 : Int := lnSmall 2 1
def fxLn10 : Int := 3 * fxLn2 + lnSmall 5 4

/-- exp(x) of a fixed-point number. -/
def fxExp (x : Int) : Int :=
  let k := x / fxLn2
  let v := expTerms (x - k * fxLn2) 32 fxOne 0
  if 0 ≤ k then v * 2 ^ k.toNat else v / 2 ^ (-k).toNat

/-- 10^x of a fixed-point number. -/
def fxPow10 (x : Int) : Int := fxExp (x * fxLn10 / fxOne)

/-- log10(n / d) of positive numbers. -/
def fxLog10 (n d : Nat) : Int :=
  let e : Int := (n.log2 : Int) - (d.log2 : Int)
  let n' : Int := if 0 ≤ e then n else n * 2 ^ (-e).toNat
  let d' : Int := if 0 ≤ e then d * 2 ^ e.toNat else d
  let p := if n' < d' then (2 * n', d', e - 1) else (n', d', e)
  (lnSmall p.1 p.2.1 + p.2.2 * fxLn2) * fxOne / fxLn10

/-- The linear value of a gain at `n` / `d` codes, rounded as a code's is (R388, R403; log entry 37, DESIGN CHOICE). -/
def gainLinAt (n d : Nat) : Nat :=
  if n % d = 0 then gainLin (n / d)
  else (rne (fxPow10 (((n : Int) - 1800 * d) * fxOne / (400 * d)) * 2097152) (10 ^ 30)).toNat

/-! Linear ramps of R402, R423, R427, R428 and R447: `r` samples long (log entry 39, DEDUCED). -/

/-- Weight, out of `r`, at sample `n` of a ramp to zero that began at `n0`. -/
def rampDown (r n n0 : Nat) : Nat := r - min r (n + 1 - n0)

/-- Weight, out of `r`, at sample `n` of a ramp back that began at `n0`. -/
def rampUp (r n n0 : Nat) : Nat := min r (n + 1 - n0)

/-- Where a ramp begins that goes on from a weight `w` at sample `n`, upward or downward. -/
def turnUp (n w : Nat) : Nat := n - w
def turnDown (r n w : Nat) : Nat := n - (r - w)

/-- Scale by a weight out of `r`, rounded half to even. -/
def scaleBy (v : Int) (w r : Nat) : Int := rne (v * w) r

/-- The constant-power mix at sample `m` of `len` (R419): cos(pi u/2) of the old and sin(pi u/2) of the new, with
u = (m + 1/2) / len. -/
def constPower (old new_ : Int) (m len : Nat) : Int :=
  let c := sinPi (2 * len - (2 * m + 1)) (4 * len)
  let w := sinPi (2 * m + 1) (4 * len)
  rne (old * c + new_ * w) (10 ^ 30)

/-! Dynamics (R406 to R409). -/

/-- The target reduction y - x in 10^-30 dB for a level `x` (R407); `ratio` in tenths, 255 the limiter. -/
def reduction (x t : Int) (ratio : Nat) : Int :=
  let w := 6 * fxOne
  let slope := fun (v : Int) => if ratio = 255 then -v else v * 10 / ratio - v
  let e := x - t
  if 2 * e < -w then 0
  else if 2 * e ≤ w then
    let q := (e + w / 2) * (e + w / 2) / (2 * w)
    slope q
  else slope e

/-- The smoothed reduction after one sample (R408): `tau` in units of 50 us. -/
def smooth (g c : Int) (tauA tauR fs : Nat) : Int :=
  let alpha := fun (tau : Nat) => fxExp (-(fxOne * 20000 / ((tau * fs : Nat) : Int)))
  let a := if c < g then alpha tauA else alpha tauR
  (a * g + (fxOne - a) * c) / fxOne

end Sys2Proof.Machine
end

