-- ==== Sys2Proof/Machine/MashPool.lean ====
section
/-! DEFINITION. The input pool of Mash (08_mash_audio R373 to R386, R428): which channel an input position carries,
locked and unlocked sources, de-embedding, the elastic buffers, and the ring of each position. -/

set_option autoImplicit false

namespace Sys2Proof.Machine

/-- The latest sample instant at or before now (R374). -/
def State.sampleNow (s : State) : Nat := s.now * s.fs / sec 1

/-- Samples of a ramp of 2 ms (R402). -/
def State.ramp2 (s : State) : Nat := if s.on Fld.MASH_CFG_RATE 0 then 192 else 96

/-- Positions of the pools (R377). -/
def State.positions (s : State) : Nat := if s.on Fld.MASH_CFG_RATE 0 then 16384 else 32768

/-- The first input position of the bus returns (R378). -/
def State.busBase (s : State) : Nat := if s.on Fld.MASH_CFG_RATE 0 then 16128 else 32512

/-- The bus whose return a position is (R378). -/
def State.busAt (s : State) (pos : Nat) : Option Nat :=
  if s.busBase ≤ pos ∧ pos < s.busBase + 256 then some (pos - s.busBase) else none

/-- Lane sources with companion channels: those that are de-embedded (R148, R381). -/
def State.audioLanes (s : State) : List Nat :=
  (s.listed Fld.MASH_SRC_AUDIO_COUNT).filter fun k => (s.srcLane k).isSome

/-- The lane source and channel of a position (R379, R380). -/
def State.laneAt (s : State) (pos : Nat) : Option (Nat × Nat) :=
  (s.audioLanes.find? fun k => s.rd Fld.MASH_SRC_AUDIO_BASE k ≤ pos
    && pos < s.rd Fld.MASH_SRC_AUDIO_BASE k + s.rd Fld.MASH_SRC_AUDIO_COUNT k).map
      fun k => (k, pos - s.rd Fld.MASH_SRC_AUDIO_BASE k)

/-- Channels, first position and packet time of a -30 or -31 flow (04_ethernet R200). -/
def State.flowChans (s : State) (f : Nat) : Nat := s.rd Fld.ETH_FLOW_MEDIA_RAW f % 128
def State.flowBase (s : State) (f : Nat) : Nat := bitsOf (s.rd Fld.ETH_FLOW_MEDIA_RAW f) 8 15

/-- Samples in a packet of a -30 or -31 flow (R375): fs times 1 ms or 125 us. -/
def State.flowSamples (s : State) (f : Nat) : Nat :=
  if bitOf (s.rd Fld.ETH_FLOW_MEDIA_RAW f) 23 then s.fs / 8000 else s.fs / 1000

/-- Enabled -30 and -31 flows of a direction: 0 receive, 1 transmit; of a receive pair only path A is bound (R204). -/
def State.audioFlows (s : State) (dir : Nat) : List Nat :=
  (s.listed Fld.ETH_FLOW_CTL_EN).filter fun f =>
    s.rd Fld.ETH_FLOW_CTL_DIR f == dir && (s.rd Fld.ETH_FLOW_CTL_TYPE f == 2 || s.rd Fld.ETH_FLOW_CTL_TYPE f == 3)
      && s.pathA f == f

/-- The receive flow and channel of a position. -/
def State.flowAt (s : State) (pos : Nat) : Option (Nat × Nat) :=
  ((s.audioFlows 0).find? fun f => s.flowBase f ≤ pos && pos < s.flowBase f + s.flowChans f).map
    fun f => (f, pos - s.flowBase f)

/-- Whether a position carries an unlocked channel (R385). -/
def State.unlockedAt (s : State) (pos : Nat) : Bool := (s.laneAt pos).any fun p => s.on Fld.MASH_SRC_AUDIO_UNLOCKED p.1

/-- Whether a position carries a channel of a source refused for its rate (R375). -/
def State.refusedAt (s : State) (pos : Nat) : Bool :=
  ((s.laneAt pos).any fun p => s.on Fld.MASH_SRC_AUDIO_RATE_ERR p.1) ||
  ((s.flowAt pos).any fun p => s.mash.rateBad.contains p.1)

/-! Locked and unlocked lane sources (R385, R386). -/

/-- The conditions of R385 but for the elastic buffer. -/
def State.lockable (s : State) (k : Nat) : Bool := !s.srcLost k && s.timeValid k && s.timeStable k

/-- Evaluate R385 and R386 for a lane source: an elastic buffer of 8 samples on either side of its centre. -/
def State.evalLock (s : State) (k : Nat) : State :=
  let r := s.laneOf k
  let un := s.on Fld.MASH_SRC_AUDIO_UNLOCKED k
  let past := r.flow && (decide (r.total ≤ r.read) || decide (r.read + 16 < r.total))
  if !s.lockable k then s.flag Fld.MASH_SRC_AUDIO_UNLOCKED k true
  else if un then
    if r.hold.all fun t => t ≤ s.up then
      (s.putLane k { r with hold := none, read := max r.read (r.total - 8), flow := decide (8 ≤ r.total) }).flag
        Fld.MASH_SRC_AUDIO_UNLOCKED k false
    else s
  else if past then (s.putLane k { r with hold := some (s.up + sec 1) }).flag Fld.MASH_SRC_AUDIO_UNLOCKED k true
  else s

/-- UNLOCK_HOLD_EXPIRE (R386): the second has passed; the source is locked when the other conditions hold. -/
def execUnlockHoldExpire (dt : Nat) (k : Fin 1152) (s : State) : Res :=
  onMain dt s fun s => if s.audioLanes.contains k.val then s.evalLock k else s

/-! De-embedding (03_cells R142 to R148; R381, R382). -/

/-- The channels of a packet in place in one sample's list. -/
def setChans (l : List Int) (at_ : Nat) (v : List Int) : List Int :=
  let l := l ++ List.replicate (16 - l.length) 0
  l.take at_ ++ v ++ l.drop (at_ + v.length)

/-- One sample of an audio group enters the source's record: the group's next place, aligned to the newest sample when
the group has fallen more than 8 samples behind. -/
def LaneS.addSample (r : LaneS) (g : Nat) (v : List Int) : LaneS :=
  let i := tget 0 r.got g
  let i := if i + 8 < r.total then r.total - 1 else i
  let r := { r with got := tput 0 r.got g (i + 1) }
  if i = r.total then { r with recs := (setChans [] (4 * (g - 1)) v :: r.recs).take 20480, total := r.total + 1 }
  else { r with recs := r.recs.modify (r.total - 1 - i) fun l => setChans l (4 * (g - 1)) v }

/-- An audio data packet of groups 1 to 4 (R381, R382, R426): it is the first of its frame when its raster line does not come after that
of the packet before it. -/
def State.audioPacket (s : State) (k g : Nat) (p : List Byte) : State :=
  let r := s.laneOf k
  let m := ancLine p
  let first := r.line == 0 || decide (m < r.line)
  let act := tget 15 r.active g
  let ok := eccOk p
  let row := (List.range 4).map fun c => if ok && bitOf act c then ancSample p c else 0
  let start := tget 0 r.got g
  let inFrame := first && ((s.srcOf k).vat.head?.any fun f => f.aud.isNone && !f.done)
  let r := if first then { r with starts := (start :: r.starts).take 64,
                                  ahead := if inFrame then none else some start } else r
  let s := if inFrame then s.putSrc k ((s.srcOf k).onFrame fun f => { f with aud := some start }) else s
  s.putLane k ({ r with line := m }.addSample g row)

/-- An audio control packet (R375, R382): the channels that are active; a rate other than fs refuses the source. -/
def State.audioControl (s : State) (k g : Nat) (p : List Byte) : State :=
  let s := s.putLane k { s.laneOf k with active := tput 15 (s.laneOf k).active g (ancUdw p 2 % 16) }
  let bad := ancRate p != s.fs
  let was := s.on Fld.MASH_SRC_AUDIO_RATE_ERR k
  let s := s.flag Fld.MASH_SRC_AUDIO_RATE_ERR k bad
  if bad && !was then (s.bump Fld.MASH_CNT_RATE_ERR_CNT 0 1).raise 192 0 0 else s

/-- Change the frame before the one that a source is writing, in Vat and in its ring. -/
def SrcS.onPrev (r : SrcS) (g : Frame → Frame) : SrcS :=
  match r.vat with
  | v :: w :: vs =>
    { r with vat := v :: g w :: vs, slots := r.slots.map fun p => if p.2.count = w.count then (p.1, g p.2) else p }
  | _ => r

/-- Which frame of a source a packet on raster line `m` belongs to (R145): 0 the one that follows, for a line of the vertical blanking
after its EOF; 1 the one being written; 2 the one before, for its last lines' packets, which may come after the next SOF. -/
def SrcS.ancPlace (r : SrcS) (f : Option Fmt) (m : Nat) : Nat :=
  match r.vat, f with
  | v :: vs, some f =>
    match f.activeOf m with
    | none => if v.done then 0 else 1
    | some (second, a) =>
      let begun := (v.cells.map (·.1) ++ v.segs.map (·.1)).any fun k => decide (2 * 4096 ≤ k)
      if !v.done && second == f.inter && decide (f.active ≤ a + 2) && !begun && !vs.isEmpty then 2 else 1
  | _, _ => 0

/-- Keep a packet with its frame, to 192 KiB in a frame (06_cask R276). -/
def State.ancStore (s : State) (k : Nat) (p : List Byte) : State :=
  let r := s.srcOf k
  let at_ := r.ancPlace (fmtOf (s.srcFmt k)) (ancLine p)
  let have_ := match at_, r.vat with
    | 1, f :: _ => f.anc
    | 2, _ :: f :: _ => f.anc
    | _, _ => r.ancNext
  if (have_.map List.length).sum + p.length > 196608 then s.bump Fld.CASK_CNT_ANC_TRUNC_CNT 0 1
  else s.putSrc k (match at_ with
    | 1 => r.onFrame fun f => { f with anc := f.anc ++ [p] }
    | 2 => r.onPrev fun f => { f with anc := f.anc ++ [p] }
    | _ => { r with ancNext := r.ancNext ++ [p] })

/-- One ancillary packet of a slot (R146, R148, R381). -/
def State.ancPacket (s : State) (k : Nat) (p : List Byte) : State :=
  let sd := s.srcFmt k ≥ 22
  match ancKind p with
  | .st352 => s
  | .other => s.ancStore k p
  | .audio g =>
    if sd then s.ancStore k p
    else if 5 ≤ g then s.bump Fld.MASH_CNT_ANC_DROP_CNT 0 1
    else s.audioPacket k g p
  | .control g => if sd then s.ancStore k p else if 5 ≤ g then s else s.audioControl k g p

/-- A checked ancillary cell (R140, R142, R143): `late` says that the slot's buffer has no room. -/
def State.ancCell (s : State) (b : Nat) (h : Hdr) (c : List Byte) (late : Bool) : State :=
  let k := streamKey b h.slot 2
  if !((s.srcLane h.slot).any fun p => s.carries b p.2) then s
  else if late then ((s.dropPart k).bump Fld.CELL_CNT_OVERRUN_CNT b 1).raise 35 b 0
  else
    let q := ancTake (tget [] s.cell.anc k) ((payloadOf c).take h.valid) h.cont
    q.1.foldl (fun s p => s.ancPacket h.slot p) (s.onCell fun z => { z with anc := tput [] z.anc k q.2 })

/-- ANCILLARY_CELL (R128, R140, R142 to R148): a checked cell of type 2 gives the packets that end in it. -/
def execAncillaryCell (dt : Nat) (b : Fin 33) (rx : RxCell) (overrun : Bool) (s : State) : Res :=
  onMain dt s fun s =>
    let r := s.takeCell b rx
    match r.2.1 with
    | some h => if h.type = 2 then r.2.2.ancCell b h r.1 overrun else r.2.2
    | none => r.2.2

/-! The pool at a sample instant. -/

/-- The samples of a position, newest first. -/
def State.histOf (s : State) (pos : Nat) : List Int := tget [] s.mash.hist pos

/-- The sample of a position `d` sample instants ago (R391, R396). -/
def State.sampleAt (s : State) (pos d : Nat) : Int := (s.histOf pos).getD d 0

/-- Enter a sample in a position's ring (R396). -/
def State.pushSample (s : State) (pos : Nat) (v : Int) : State :=
  let l := s.histOf pos
  if l.isEmpty ∧ v = 0 then s
  else s.onMash fun z => { z with hist := tput [] s.mash.hist pos ((v :: l).take 16448) }

/-- A lane source gives the pool its next sample (R384, R385): zeros while it has none. -/
def State.poolLane (s : State) (k : Nat) : State :=
  let s := s.evalLock k
  let r := s.laneOf k
  let r := if !r.flow && decide (r.read + 8 ≤ r.total) then { r with flow := true } else r
  let r := if s.on Fld.MASH_SRC_AUDIO_UNLOCKED k then { r with read := max r.read (r.total - 16) } else r
  let has := r.flow && decide (r.read < r.total)
  let row := if has then r.recs.getD (r.total - 1 - r.read) [] else []
  let r := if has then { r with read := r.read + 1 } else { r with flow := false }
  let s := s.putLane k r
  let base := s.rd Fld.MASH_SRC_AUDIO_BASE k
  s.each (List.range (s.rd Fld.MASH_SRC_AUDIO_COUNT k)) fun s c =>
    s.pushSample (base + c) (if s.on Fld.MASH_SRC_AUDIO_RATE_ERR k then 0 else row.getD c 0)

/-! Elastic buffers of ports (09_audio_ports R447). -/

def State.portOf (s : State) (p : Nat) : PortS := tget {} s.aprt p
def State.putPort (s : State) (p : Nat) (r : PortS) : State := { s with aprt := tput {} s.aprt p r }

/-- The mask in force of a port, 64 bits. -/
def State.portMask (s : State) (p : Nat) : Nat :=
  s.rd Fld.APRT_MASK_LO_MASK p + 2 ^ 32 * s.rd Fld.APRT_MASK_HI_MASK p

/-- Receive positions that a port fills (R440). -/
def State.portChans (s : State) (p : Nat) : List Nat :=
  (List.range (popcount (s.portMask p) 64)).map fun i => s.rd Fld.APRT_BIND_RX_BASE p + i

/-- Whether a port's receive path has an elastic buffer: a slave TDM port, a MADI receiver, a follow master (R447). -/
def State.portElastic (s : State) (p : Nat) : Bool := 16 ≤ p || s.rd Fld.APRT_PORT_CTL_CLK_MODE p != 1

/-- Samples that wait to enter a position. -/
def State.inqOf (s : State) (pos : Nat) : List Int := tget [] s.mash.inq pos
def State.putInq (s : State) (pos : Nat) (l : List Int) : State :=
  s.onMash fun z => { z with inq := tput [] s.mash.inq pos l }

/-- A port's elastic buffer at a sample instant (R447): at either edge a ramp of 2 ms begins, at its end the port
repeats or drops 8 samples, and a ramp back follows. -/
def State.poolPort (s : State) (n p : Nat) : State :=
  let r := s.portOf p
  let chans := s.portChans p
  let fill := ((chans.head?.map s.inqOf).getD []).length
  let ramp := s.ramp2
  let elastic := s.portElastic p
  let r := if !r.flow && (!elastic || decide (8 ≤ fill)) then { r with flow := true } else r
  let r := if elastic && r.flow && r.slip.isNone && (fill == 0 || decide (16 ≤ fill)) then { r with slip := some n } else r
  let move := r.slip == some (n - ramp) && decide (ramp ≤ n)
  let s := if move then
      let s := s.bump Fld.APRT_CNT_SLIP_CNT p 1
      s.each chans fun s pos =>
        let q := s.inqOf pos
        s.putInq pos (if 8 < q.length then q.drop 8 else ((s.histOf pos).take 8).reverse ++ q)
    else s
  let w := match r.slip with
    | none => ramp
    | some n0 => if n < n0 + ramp then rampDown ramp n n0 else rampUp ramp n (n0 + ramp)
  let r := if r.slip.any fun n0 => n0 + 2 * ramp ≤ n + 1 then { r with slip := none } else r
  let s := (s.putPort p r).wr Fld.APRT_PORT_STAT_FILL p (min 63 fill)
  s.each chans fun s pos =>
    if r.flow then
      let q := s.inqOf pos
      (s.putInq pos q.tail).pushSample pos (scaleBy (q.headD 0) w ramp)
    else s.pushSample pos 0

/-- The output sample of a bus at the previous instant. -/
def State.busOut (s : State) (b : Nat) : Int := (tget {} s.mash.bus b : BusS).out

/-- Every position takes its sample of the instant (R374, R378, R384): lane sources, running ports, flows, bus
returns. -/
def State.poolStep (s : State) (n : Nat) : State :=
  let s := s.each s.audioLanes fun s k => s.poolLane k
  let s := s.each ((List.range 24).filter fun p => s.rd Fld.APRT_PORT_STAT_STATE p == 2) fun s p => s.poolPort n p
  let s := s.each (s.audioFlows 0) fun s f =>
    s.each (List.range (s.flowChans f)) fun s c =>
      let pos := s.flowBase f + c
      let q := s.inqOf pos
      (s.putInq pos q.tail).pushSample pos (if s.on Fld.ETH_FLOW_STAT_LOST f || s.mash.rateBad.contains f then 0 else q.headD 0)
  let idle := (s.mash.hist.map (·.1)).filter fun pos =>
    (s.laneAt pos).isNone && (s.flowAt pos).isNone && (s.busAt pos).isNone &&
    !((List.range 24).any fun p => s.rd Fld.APRT_PORT_STAT_STATE p == 2 && (s.portChans p).contains pos)
  let s := s.each idle fun s pos => s.pushSample pos 0
  s.each (List.range 256) fun s b => s.pushSample (s.busBase + b) (s.busOut b)

/-! Follow masters (09_audio_ports R448, R449). -/

/-- Running follow masters of a source. -/
def State.followers (s : State) (kind idx : Nat) : List Nat :=
  (List.range 16).filter fun p => s.rd Fld.APRT_PORT_CTL_CLK_MODE p == 2 && s.rd Fld.APRT_PORT_STAT_STATE p == 2
    && s.rd Fld.APRT_PORT_CTL_FOLLOW_KIND p == kind && s.rd Fld.APRT_PORT_CTL_FOLLOW_IDX p == idx

/-- One sample of every channel of a source enters the follow buffers of its followers. -/
def State.feed (s : State) (kind idx : Nat) (row : List Int) : State :=
  s.each (s.followers kind idx) fun s p =>
    let r := s.portOf p
    s.putPort p { r with buf := r.buf ++ [row], lastIn := s.now }

/-- The companion groups that are no lane source's give their samples at each sample instant. -/
def State.feedCompanions (s : State) : State :=
  let ks := (((List.range 16).filter fun p => s.rd Fld.APRT_PORT_CTL_CLK_MODE p == 2
    && s.on Fld.APRT_PORT_CTL_FOLLOW_KIND p).map fun p => s.rd Fld.APRT_PORT_CTL_FOLLOW_IDX p).eraseDups
  s.each (ks.filter fun k => (s.srcLane k).isNone) fun s k =>
    s.feed 1 k ((List.range (s.rd Fld.MASH_SRC_AUDIO_COUNT k)).map fun c => s.sampleAt (s.rd Fld.MASH_SRC_AUDIO_BASE k + c) 0)

end Sys2Proof.Machine
end

