-- ==== Sys2Proof/Machine/Mash.lean ====
section
/-! DEFINITION. Mash at a sample instant (08_mash_audio R387 to R428, R874): engine swaps, taps with their gain changes
and crossfades, buses, follow groups, slip readers, outputs and their silencing. -/

set_option autoImplicit false

namespace Sys2Proof.Machine

/-! Taps: plain routes and bus input entries (R391 to R394, R398). -/

/-- What a tap's registers say. `input` from `followMark` on names a follow group's position. -/
structure TapVals where
  en : Bool
  input : Nat
  gain : Nat
  delay : Nat
deriving DecidableEq, Repr

/-- The input of a route whose input is a follow group's mix. -/
def followMark : Nat := 65536

/-- The destination and channel of an output position in a follow group whose FOLLOW is 1. -/
def State.followAt (s : State) (pos : Nat) : Option (Nat × Nat) :=
  ((s.listed Fld.MASH_DST_AUDIO_FOLLOW).find? fun d => s.rd Fld.MASH_DST_AUDIO_BASE d ≤ pos
    && pos < s.rd Fld.MASH_DST_AUDIO_BASE d + s.rd Fld.MASH_DST_AUDIO_COUNT d).map
      fun d => (d, pos - s.rd Fld.MASH_DST_AUDIO_BASE d)

/-- The registers of a plain route; DELAY is 0 in a frame-mode follow group (R417). -/
def State.routeTap (s : State) (pos : Nat) : TapVals :=
  let en := s.on Fld.MASH_ROUTE_EN pos
  let g := s.rd Fld.MASH_ROUTE_GAIN pos
  match s.followAt pos with
  | some (d, _) => ⟨en, followMark + pos, g,
      if s.rd Fld.WARP_DST_CFG_MODE d = 1 then 0 else s.rd Fld.MASH_OUT_DELAY_DELAY pos⟩
  | none => ⟨en, s.rd Fld.MASH_ROUTE_INPUT pos, g, s.rd Fld.MASH_OUT_DELAY_DELAY pos⟩

/-- The registers of a bus input entry. -/
def State.entryTap (s : State) (e : Nat) : TapVals :=
  ⟨s.on Fld.MASH_BUSIN_EN e, s.rd Fld.MASH_BUSIN_INPUT e, s.rd Fld.MASH_BUSIN_GAIN e, 0⟩

/-- The gain code that applies; EN 0 is mute (R393). -/
def TapVals.code (v : TapVals) (r : TapS) : Nat := r.code.getD (if v.en then v.gain else 0)

/-- A swap changes a tap's registers at sample `n` (R392 to R394): an input change crossfades over `xf` samples, a gain
change waits for a zero crossing for at most `zc` samples. -/
def TapS.swap (r : TapS) (old new_ : TapVals) (n xf zc : Nat) : TapS :=
  let some_ := old.en || new_.en
  if some_ && (new_.input != old.input || new_.delay != old.delay || (!old.en && new_.en)) then
    { r with code := none, wait := none,
             fades := if xf = 0 then [] else
               r.fades ++ [⟨old.input, old.code r == 0, old.code r, old.delay, n, xf⟩] }
  else
    let g := if new_.en then new_.gain else 0
    let goal := (r.wait.map fun p => p.1).getD (old.code r)
    if g = goal then r
    else { r with code := some (old.code r), wait := some (g, (r.wait.map fun p => p.2).getD (n + zc)) }

/-- A waiting gain change at a sample (R392): it takes effect at a zero crossing of the input, or when its time ends;
the answer says whether it was the time. -/
def TapS.cross (r : TapS) (n : Nat) (x prev : Int) : TapS × Bool :=
  match r.wait with
  | none => (r, false)
  | some (_, t) =>
    if x = 0 ∨ decide (x < 0) ≠ decide (prev < 0) then ({ r with code := none, wait := none }, false)
    else if t ≤ n then ({ r with code := none, wait := none }, true)
    else (r, false)

/-- Crossfades that have ended leave, and what is older than them (R394). -/
def dropFades (n : Nat) : List FadeS → List FadeS
  | [] => []
  | f :: fs => if (f :: fs).any fun g => g.start + g.len ≤ n then dropFades n fs else f :: fs

/-- The value of an input-change crossfade's sides at a sample (R394; log entry 36, DESIGN CHOICE). -/
def fadeMix (f : FadeS) (n : Nat) (old new_ : Int) : Int :=
  rne (old * Config.fadeOld (n - f.start) f.len + new_ * Config.fadeNew (n - f.start) f.len) (2 ^ 36)

/-- Mix the inputs that a tap fades from, oldest first, into the present one. -/
def fadeChain (val : FadeS → Int) (n : Nat) (cur : Int) : Int → List FadeS → Int
  | acc, [] => acc
  | acc, [f] => fadeMix f n acc cur
  | acc, f :: g :: t => fadeChain val n cur (fadeMix f n acc (val g)) (g :: t)

/-- The product of a tap at a sample, in 2^-44 of full scale (R389, R394). -/
def tapValue (get : Nat → Nat → Int) (v : TapVals) (r : TapS) (n : Nat) : Int :=
  let cur := get v.input v.delay * gainLin (v.code r)
  let val := fun (f : FadeS) => get f.input f.delay * gainLin f.code
  match r.fades with
  | [] => cur
  | f :: fs => fadeChain val n cur (val f) (f :: fs)

/-! Follow groups (R417 to R427, R874). -/

/-- Fine units between sample instants. -/
def State.samplePeriod (s : State) : Nat := fine (sec 1) / s.fs

/-- The frame of a source with a frame count. -/
def State.frameBy (s : State) (k count : Nat) : Option Frame :=
  let r := s.srcOf k
  (r.vat ++ r.slots.map fun p => p.2).find? fun f => f.count == count

/-- Sample `i` of the audio of a source frame, and its length when it is known (R426). -/
def State.frameSample (s : State) (n k pos ch : Nat) (fr : Frame) (i : Nat) : Int × Option Nat :=
  let u := s.samplePeriod
  let span := fun (from_ : Nat) (p : Nat) =>
    ((from_ + u - 1) / u, (from_ + p + u - 1) / u - (from_ + u - 1) / u)
  if (s.srcLane k).isSome then
    let r := s.laneOf k
    match fr.aud with
    | none => (0, none)
    | some a =>
      let next := (r.starts ++ r.ahead.toList).foldl (fun m x => if a < x then some (min x (m.getD x)) else m) none
      let row := if a + i < r.total then r.recs.getD (r.total - 1 - (a + i)) [] else []
      (row.getD ch 0, next.map fun x => x - a)
  else
    let p := ((fmtOf fr.fmt).map Fmt.period).getD 0
    match if 1152 ≤ k then none else s.flowAt pos with
    | some (f, c) =>
      match fr.epoch with
      | none => (0, none)
      | some e =>
        let a := span e p
        (((tget [] (tget [] s.mash.flowRec f) (a.1 + i)).getD c 0), some a.2)
    | none =>
      match fr.epoch.orElse fun _ => fr.s.map fine with
      | none => (0, none)
      | some e =>
        let a := span e p
        (if a.1 + i ≤ n then s.sampleAt pos (n - (a.1 + i)) else 0, some a.2)

/-- Sample `j` from the start of source frame `count`'s audio, going on into the frame after it (R425). -/
def State.frameAudio (s : State) (n k pos ch count j : Nat) : Int :=
  match s.frameBy k count with
  | none => 0
  | some fr =>
    let v := s.frameSample n k pos ch fr j
    match v.2 with
    | none => v.1
    | some len =>
      if j < len then v.1
      else match s.frameBy k ((count + 1) % 2 ^ 32) with
        | some g => (s.frameSample n k pos ch g (j - len)).1
        | none => 0

/-- Channel `k` of a route's companion group as a follow group reads it at sample `n` (R417, R424, R425, R427). -/
def State.companion (s : State) (n d route k delay : Nat) : Int :=
  if route ≥ 1168 || s.rd Fld.MASH_SRC_AUDIO_COUNT route ≤ k then 0
  else
    let pos := s.rd Fld.MASH_SRC_AUDIO_BASE route + k
    if s.rd Fld.WARP_DST_CFG_MODE d ≠ 1 then s.sampleAt pos delay
    else
      let g := s.followOf d
      let past := g.slip.any fun m => n < m + s.ramp2
      let reads := if past then g.before else g.reads
      match reads.find? (fun p => p.1 == route), (if past then g.prior else g.launch) with
      | some (_, count), some l =>
        let u := s.samplePeriod
        s.frameAudio n route pos k count ((2 * (n * u - l) + u) / (2 * u))
      | _, _ => 0

/-- One crossfade of a follow group laid over the mix before it (R419 to R421, R874). -/
def xfadeMix (n : Nat) (x : Xfade) (old new_ : Int) : Int :=
  let len := x.stop - x.start
  if n < x.start then old
  else match x.back with
    | none => if len ≤ n - x.start then new_ else constPower old new_ (n - x.start) len
    | some b =>
      let ran := b - x.start
      if ran ≤ n - b then old else constPower old new_ (ran - 1 - (n - b)) len

/-- Weight of a follow group's mute of R423, out of the ramp. -/
def FollowS.weight (g : FollowS) (r n : Nat) : Nat :=
  match g.mute, g.unmute with
  | some m, _ => rampDown r n m
  | none, some m => rampUp r n m
  | none, none => r

/-- Weight of a follow group's slip (R427). -/
def FollowS.slipWeight (g : FollowS) (r n : Nat) : Nat :=
  match g.slip with
  | some m => if n < m + r then rampDown r n m else rampUp r n (m + r)
  | none => r

/-- The input of a follow group's channel at sample `n`. -/
def State.followMix (s : State) (n d k delay : Nat) : Int :=
  let g := s.followOf d
  let v := g.xs.foldl (fun v x => xfadeMix n x v (s.companion n d x.tgt k delay)) (s.companion n d g.base k delay)
  let r := s.ramp2
  scaleBy (scaleBy v (g.weight r n) r) (g.slipWeight r n) r

/-- Whether a destination's follow group is held at zero (R423; 14_faults R680). -/
def State.followMuted (s : State) (d : Nat) : Bool :=
  s.unitStopped .dst d || s.fenced .dst d || s.on Fld.WARP_DST_STAT_BLACKED d || s.on Fld.CASK_FS_STAT_BLACK d
    || s.on Fld.CASK_FS_STAT_FROZEN d

/-- A follow group at a sample instant: its mute begins or ends, and what has run out is forgotten. -/
def State.followStep (s : State) (n d : Nat) : State :=
  let g := s.followOf d
  let r := s.ramp2
  let g :=
    if s.followMuted d then
      match g.mute with
      | some _ => g
      | none =>
        let w := match g.unmute with
          | some m => min r (n - m)
          | none => r
        { g with mute := some (turnDown r n w), unmute := none }
    else
      match g.mute with
      | some m => { g with mute := none, unmute := some (turnUp n (r - min r (n - m))) }
      | none => if g.unmute.any fun m => m + r ≤ n then { g with unmute := none } else g
  let g := if g.slip.any fun m => m + 2 * r ≤ n then { g with slip := none } else g
  let past := fun (x : Xfade) => x.back.any fun b => b - x.start ≤ n - b
  let xs := g.xs.filter fun x => !past x
  let g := match (xs.filter fun x => x.back.isNone && decide (max x.start x.stop ≤ n)).getLast? with
    | some x => { g with base := x.tgt, xs := (xs.reverse.takeWhile fun y => y != x).reverse }
    | none => { g with xs := xs }
  let used := g.base :: g.xs.map fun x => x.tgt
  s.putFollow d { g with reads := g.reads.filter fun p => used.contains p.1 || p.1 == s.rd Fld.WARP_DST_ROUTE_SRC d }

/-! Slip readers (R428). -/

/-- Samples in a frame of a lane source: the last frame's, or a frame period's. -/
def State.laneFrame (s : State) (k : Nat) : Nat :=
  match (s.laneOf k).starts with
  | a :: b :: _ => a - b
  | _ => ((fmtOf (s.srcFmt k)).map fun f => f.period / s.samplePeriod).getD 1

/-- The reader of an output position on an unlocked source's ring at sample `n`: it reads one sample, and moves by a
frame at a frame boundary when it would leave its window. The answer is the sample. -/
def State.slipRead (s : State) (n pos k ch delay : Nat) : Int × State :=
  let ln := s.laneOf k
  let r := s.ramp2
  let frame := s.laneFrame k
  let d0 : SlipS := { idx := ln.total - (delay + 32), move := none, moved := none }
  let x := ((s.mash.slip.find? fun p => p.1 == pos).map fun p => p.2).getD d0
  let dist := (ln.total : Int) - x.idx
  let out := decide (dist < (delay + 32 : Nat)) || decide (((delay + 32 + frame : Nat) : Int) < dist)
  let x := if x.move.isNone && x.moved.all (fun m => m + r ≤ n) && out then
      let at_ := match (ln.starts.filter fun a => x.idx + r ≤ a).getLast? with
        | some a => a
        | none => (ln.starts.headD 0) + ((x.idx + r - ln.starts.headD 0) + frame - 1) / max 1 frame * frame
      { x with move := some (n + (at_ - x.idx), decide (dist < (delay + 32 : Nat))) }
    else x
  let go := x.move.any fun m => m.1 ≤ n
  let x := match x.move with
    | some (m, back) => if m ≤ n then
        ({ idx := if back then x.idx - frame else x.idx + frame, move := none, moved := some n } : SlipS) else x
    | none => x
  let w := match x.move, x.moved with
    | some (m, _), _ => if m ≤ n + r then rampDown r n (m - r) else r
    | none, some m => rampUp r n m
    | none, none => r
  let row := if x.idx < ln.total then ln.recs.getD (ln.total - 1 - x.idx) [] else []
  let s := s.onMash fun z => { z with slip := tinsert s.mash.slip pos { x with idx := x.idx + 1 } }
  let s := if go then (s.bump Fld.MASH_CNT_SLIP_CNT 0 1).raise 194 0 0 else s
  (scaleBy (row.getD ch 0) w r, s)

/-! Engine swaps (R411 to R415). -/

/-- Input-change crossfade and zero-crossing timeout in samples. -/
def State.xfadeLen (s : State) : Nat := s.rd Fld.MASH_ROUTE_CTL_XFADE_MS 0 * s.fs / 1000
def State.zcLen (s : State) : Nat := s.rd Fld.MASH_ROUTE_CTL_ZC_TIMEOUT 0 * s.fs / 1000

def State.routeRec (s : State) (pos : Nat) : TapS := tget {} s.mash.route pos
def State.putRoute (s : State) (pos : Nat) (r : TapS) : State :=
  s.onMash fun z => { z with route := tput {} s.mash.route pos r }
def State.entryRec (s : State) (e : Nat) : TapS := tget {} s.mash.entry e
def State.putEntry (s : State) (e : Nat) (r : TapS) : State :=
  s.onMash fun z => { z with entry := tput {} s.mash.entry e r }
def State.busRec (s : State) (b : Nat) : BusS := tget {} s.mash.bus b
def State.putBus (s : State) (b : Nat) (r : BusS) : State :=
  s.onMash fun z => { z with bus := tput {} s.mash.bus b r }

/-- The level of a fader at sample `n`, as a fraction of codes, 0 for mute (R403, R404). -/
def BusS.level (r : BusS) (target n : Nat) : Nat × Nat :=
  if r.len = 0 ∨ r.start + r.len ≤ n + 1 then (target, 1)
  else
    let m := n + 1 - r.start
    let t := if target = 0 then 1 else target
    let num := ((r.fromNum * r.len : Nat) + ((t * r.fromDen : Nat) - (r.fromNum : Int)) * m).toNat
    let den := r.fromDen * r.len
    (num / num.gcd den, den / num.gcd den)

/-- A swap changes a fader's TARGET or RAMP_MS (R403 to R405). -/
def State.faderSwap (s : State) (b n oldTarget : Nat) : State :=
  let r := s.busRec b
  let lv := r.level oldTarget (n - 1)
  let from_ := if lv.1 = 0 then (1, 1) else lv
  s.putBus b { r with fromNum := from_.1, fromDen := from_.2, start := n,
                      len := if lv = (s.rd Fld.MASH_BUS_FADER_TARGET b, 1) then 0
                             else s.rd Fld.MASH_BUS_FADER_RAMP_MS b * s.fs / 1000 }

/-- What changed in an engine at a swap is crossfaded, ramped or made to wait. -/
def State.swapDiff (s old : State) (n e : Nat) (items : List CsItem) : State :=
  let of := fun (p : Reg → Bool) => ((items.filter fun it => p it.reg).map fun it => it.inst).eraseDups
  let s := s.each (of fun r => r == .MASH_ROUTE || r == .MASH_OUT_DELAY) fun s pos =>
    s.putRoute pos ((s.routeRec pos).swap (old.routeTap pos) (s.routeTap pos) n s.xfadeLen s.zcLen)
  let s := s.each (of fun r => r == .MASH_BUSIN) fun s i =>
    s.putEntry i ((s.entryRec i).swap (old.entryTap i) (s.entryTap i) n s.xfadeLen s.zcLen)
  if e ≥ 256 then s
  else
    let t := old.rd Fld.MASH_BUS_FADER_TARGET e
    let s := if t ≠ s.rd Fld.MASH_BUS_FADER_TARGET e ∨
        old.rd Fld.MASH_BUS_FADER_RAMP_MS e ≠ s.rd Fld.MASH_BUS_FADER_RAMP_MS e then s.faderSwap e n t else s
    if s.on Fld.MASH_BUS_DYN_A_EN e then s else s.putBus e { s.busRec e with gr := 0 }

/-- One engine at a sample instant: whether it swaps, and what a swap installs (R413, R414, R33). -/
def State.engStep (s : State) (n e : Nat) : State :=
  let u := s.samplePeriod
  let bound := n * u
  let g := bound - 2 * u
  let s := s.markLate .eng e g bound
  let due := (s.waiting .eng e).filter (s.due g bound)
  let req := s.mash.swapAt.any fun p => p.1 == e && decide (fine p.2 ≤ g)
  if req || (due.any fun c => c.src.isSome) || (!due.isEmpty && !s.on Fld.MASH_ENG_CTL_HOLD e) then
    let old := s
    let fenced := e < 256 && s.fencedAgo .bus e (2 * u / 189)
    let barred := fun (c : Change) => c.src.isSome && !c.allOrNone && fenced
    let s := due.foldl (fun s c =>
      if barred c then s.finish c 3 1 else (s.install c).finish c c.okStatus 0) s
    let applied := (due.filter fun c => !barred c).flatMap fun c => c.items
    let s := s.wr Fld.MASH_ENG_STAT_SWAPS e (s.rd Fld.MASH_ENG_STAT_SWAPS e + 1)
    let s := if req then
        (s.flag Fld.MASH_ENG_CTL_SWAP e false).onMash fun z => { z with swapAt := terase s.mash.swapAt e }
      else s
    s.swapDiff old n e applied
  else s

/-- Engines for which something waits. -/
def State.engBusy (s : State) : List Nat :=
  let unit := fun (u : Option (TKind × Nat)) => match u with
    | some (.eng, e) => some e
    | _ => none
  ((s.staged.filterMap fun w => unit (s.unitOf w.reg w.inst))
    ++ (s.cs.flatMap fun p => p.2.entries.filterMap fun x => if x.kind == .eng && x.status == 0 then some x.inst else none)
    ++ s.mash.swapAt.map fun p => p.1).eraseDups

/-! Buses (R397 to R410). -/

/-- A tap after the sample `x` of its input: the crossing of R392, a count of the timeout, and old fades. -/
def State.stepTap (s : State) (n : Nat) (r : TapS) (x prev : Int) : TapS × State :=
  let c := r.cross n x prev
  ({ c.1 with fades := dropFades n c.1.fades }, if c.2 then s.bump Fld.MASH_CNT_ZC_TIMEOUT_CNT 0 1 else s)

/-- The sample that a bus input entry takes: a lower bus's own, or the pool's (R378, R400). -/
def State.entryIn (s : State) (pos : Nat) : Int :=
  match s.busAt pos with
  | some a => s.busOut a
  | none => s.sampleAt pos 0

/-- One bus input entry at a sample instant (R392 to R394, R398, R402): its contribution to the sum. -/
def State.entryStep (s : State) (n b e : Nat) : Int × State :=
  let v := s.entryTap e
  let r := s.entryRec e
  let ramp := s.ramp2
  let un := v.en && s.unlockedAt v.input
  let x := s.entryIn v.input
  let prev := match s.busAt v.input with
    | some _ => s.sampleAt v.input 0
    | none => s.sampleAt v.input 1
  let t := s.stepTap n r x prev
  let r := t.1
  let s := t.2
  let p : TapS × Bool :=
    if un then
      match r.muteAt with
      | some _ => (r, false)
      | none =>
        let w := match r.backAt with
          | some m => min ramp (n - m)
          | none => ramp
        ({ r with muteAt := some (turnDown ramp n w), backAt := none }, true)
    else match r.muteAt with
      | some m => ({ r with muteAt := none, backAt := some (turnUp n (ramp - min ramp (n - m))) }, false)
      | none => if r.backAt.any fun m => m + ramp ≤ n then ({ r with backAt := none }, false) else (r, false)
  let r := p.1
  let s := if p.2 then (s.bump Fld.MASH_CNT_BUS_UNLOCK_CNT 0 1).raise 193 b 0 else s
  let w := match r.muteAt, r.backAt with
    | some m, _ => rampDown ramp n m
    | none, some m => rampUp ramp n m
    | none, none => ramp
  let s := (s.putEntry e r).flag Fld.MASH_BUSIN_MUTED e (r.muteAt.any fun m => m + ramp ≤ n + 1)
  (rne (tapValue (fun pos _ => s.entryIn pos) v r n * w) (256 * ramp), s)

/-- The threshold of a bus in 10^-30 dB. -/
def State.threshold (s : State) (b : Nat) : Int := -(s.rd Fld.MASH_BUS_DYN_A_THRESH b * fxOne / 10)

/-- The dynamics of a bus on a post-fader sample (R406 to R409), in the accumulator. -/
def State.dynamics (s : State) (n b : Nat) (a : Int) : Int × State :=
  if !s.on Fld.MASH_BUS_DYN_A_EN b then (a, s)
  else
    let r := s.busRec b
    let ratio := s.rd Fld.MASH_BUS_DYN_A_RATIO b
    let c := if a = 0 then 0 else reduction (20 * fxLog10 a.natAbs (2 ^ 36)) (s.threshold b) ratio
    let g := smooth r.gr c (s.rd Fld.MASH_BUS_DYN_B_ATTACK b) (20 * s.rd Fld.MASH_BUS_DYN_B_RELEASE b) s.fs
    let dev := ((Config.dynError b n % 20001 : Nat) - 10000 : Int) * (fxOne / 1000000)
    let a := rne (a * fxPow10 ((g + dev) / 20)) (10 ^ 30)
    let s := s.putBus b { r with gr := g }
    let top := fxPow10 (s.threshold b / 20) * 8388608 / fxOne * 8192
    if ratio = 255 ∧ top < a then (top, s.bump Fld.MASH_BUS_STAT_CLIP b 1)
    else if ratio = 255 ∧ a < -top then (-top, s.bump Fld.MASH_BUS_STAT_CLIP b 1)
    else (a, s)

/-- Round an accumulator to a sample; a saturated one is counted (R390). -/
def State.toSample (s : State) (a : Int) : Int × State :=
  let v := to24 a
  if sat24 v = v then (v, s) else (sat24 v, (s.bump Fld.MASH_CNT_OUT_SAT_CNT 0 1).raise 195 0 0)

/-- The sum of a bus's inputs (R400, R402). -/
def State.busSum (s : State) (n b : Nat) (entries : List Nat) : Int × State :=
  entries.foldl (fun (p : Int × State) e =>
    let q := p.2.entryStep n b e
    (p.1 + q.1, q.2)) ((0 : Int), s)

/-- The fader's level at sample `n`, and its ramp followed (R404, R405). -/
def State.busFade (s : State) (n b : Nat) : (Nat × Nat) × State :=
  let r := s.busRec b
  let lv := r.level (s.rd Fld.MASH_BUS_FADER_TARGET b) n
  let r := if r.start + r.len ≤ n + 1 then { r with fromNum := 0, fromDen := 1, target := 0, start := 0, len := 0 } else r
  (lv, ((s.putBus b r).wr Fld.MASH_BUS_STAT_LEVEL b ((2 * lv.1 + lv.2) / (2 * lv.2))).flag
    Fld.MASH_BUS_STAT_RAMPING b (r.len != 0))

/-- A bus's output sample, silence while the bus is fenced. -/
def State.busSend (s : State) (b : Nat) (x : Int) : State :=
  let t := if s.fenced .bus b then (0, s) else s.toSample x
  let s := t.2
  let r := s.busRec b
  (s.putBus b { r with out := t.1 }).wr Fld.MASH_BUS_STAT_GR b (min 255 ((-r.gr) * 4 / fxOne).toNat)

/-- One bus at a sample instant (R399): sum, fader, dynamics, rounding; a fenced bus gives zeros (R416). -/
def State.busStep (s : State) (n b : Nat) (entries : List Nat) : State :=
  let p := s.busSum n b entries
  let f := p.2.busFade n b
  let q := f.2.dynamics n b (rne (p.1 * gainLinAt f.1.1 f.1.2) 2097152)
  q.2.busSend b q.1

/-- Every bus in ascending order (R400). -/
def State.busesStep (s : State) (n : Nat) : State :=
  let es := s.listed Fld.MASH_BUSIN_MAP_ASSIGNED
  s.each (List.range 256) fun s b =>
    let mine := es.filter fun e => s.rd Fld.MASH_BUSIN_MAP_BUS e == b
    if mine.isEmpty && s.busRec b == {} then s else s.busStep n b mine

/-! Outputs. -/

/-- How much of an output remains while Mash is silenced (R685; 01_architecture R49), out of 1 ms in ticks. -/
def State.silence (s : State) : Nat :=
  let ramp := fun (t : Nat) => ms 1 - min (ms 1) (s.up - t)
  let hem := match s.flt.hemAt with
    | some t => if s.mode != .hem then ms 1 else if s.flt.hemHard then 0 else ramp t
    | none => ms 1
  let cellar := match s.mash.silentFrom with
    | some t => ramp t
    | none => ms 1
  min hem cellar

/-- One plain route at a sample instant (R391 to R394, R428). -/
def State.routeStep (s : State) (n pos : Nat) : State :=
  let v := s.routeTap pos
  let slip := match s.followAt pos with
    | some _ => none
    | none => if s.unlockedAt v.input && v.en then s.laneAt v.input else none
  let p := match slip with
    | some (k, ch) => let q := s.slipRead n pos k ch v.delay; (some q.1, q.2)
    | none => (none, (s.onMash fun z => { z with slip := terase s.mash.slip pos }))
  let s := p.2
  let get := fun (i d : Nat) =>
    if followMark ≤ i then
      match s.followAt pos with
      | some (dst, k) => s.followMix n dst k d
      | none => 0
    else match p.1 with
      | some x => if i = v.input then x else s.sampleAt i d
      | none => s.sampleAt i d
  let x := get v.input v.delay
  let r := s.routeRec pos
  let prev := if followMark ≤ v.input || p.1.isSome then r.prev else s.sampleAt v.input (v.delay + 1)
  let t := s.stepTap n r x prev
  let r := { t.1 with prev := if (followMark ≤ v.input || p.1.isSome) && v.en then x else 0 }
  let q := (t.2.putRoute pos r).toSample (toAcc (tapValue get v r n))
  let y := scaleBy q.1 q.2.silence (ms 1)
  q.2.onMash fun z => { z with out := tput 0 q.2.mash.out pos y }

/-- The output sample of a position. -/
def State.outAt (s : State) (pos : Nat) : Int := tget 0 s.mash.out pos

/-- An AES3 subframe as ST 2110-31 carries it (04_ethernet R201; log entry 149, PRESUMED): V 0 and U 0, the channel status bit of its frame,
even parity, the starts of the block and of the frame. -/
def aes3Bytes (fs n ch : Nat) (x : Int) : List Byte :=
  let v := ofInt 24 x
  let c := b2n (chanBit fs (n % 192))
  let first := ch % 2 == 0
  beBytes 1 (b2n (first && n % 192 == 0) * 32 + b2n first * 16 + (popcount v 24 + c) % 2 * 8 + c * 4) ++ beBytes 3 v

/-- The RTP payload of an audio packet whose first sample instant is `n`: L24, or AES3 subframes (R200, R201). -/
def State.audioBody (s : State) (f n : Nat) (q : List (List Int)) : List Byte :=
  q.zipIdx.flatMap fun r => r.1.zipIdx.flatMap fun x =>
    if s.rd Fld.ETH_FLOW_CTL_TYPE f = 2 then beBytes 3 (ofInt 24 x.1) else aes3Bytes s.fs (n + r.2) x.2 x.1

/-- Octets of a packet of a -30 or -31 transmit flow, without preamble and gap (04_ethernet R188, R200, R201): 3 bytes a
sample of L24, 4 a subframe. -/
def State.audioOctets (s : State) (f : Nat) (tagged : Bool) : Nat :=
  max 64 (58 + (if tagged then 4 else 0)
    + s.flowSamples f * s.flowChans f * (if s.rd Fld.ETH_FLOW_CTL_TYPE f = 2 then 3 else 4))

/-- Output samples for a port whose external clock is absent are discarded and counted (01_architecture R44). -/
def State.crossLost (s : State) : State :=
  s.each ((List.range 24).filter fun p => s.rd Fld.APRT_PORT_STAT_STATE p == 4) fun s p =>
    let r := s.portOf p
    s.putPort p { r with lost := r.lost + popcount (s.portMask p) 64 }

/-- Give the output samples to the lane destinations and to the transmit flows (R379, R383; 04_ethernet R200;
13_mantle_twin R653). -/
def State.sinks (s : State) (n : Nat) : State :=
  let s := s.each ((s.listed Fld.MASH_DST_AUDIO_COUNT).filter fun d =>
      (s.dstLane d).isSome && !s.unitStopped .dst d) fun s d =>
    let row := (List.range (s.rd Fld.MASH_DST_AUDIO_COUNT d)).map fun k => s.outAt (s.rd Fld.MASH_DST_AUDIO_BASE d + k)
    s.putDst d { s.dstOf d with audio := (s.dstOf d).audio ++ [(n, row)] }
  s.each ((s.audioFlows 1).filter fun f => !s.follows f) fun s f =>
    let q := tget [] s.mash.txq f ++ [(List.range (s.flowChans f)).map fun c => s.outAt (s.flowBase f + c)]
    if s.flowSamples f ≤ q.length then
      let sq := tget 0 s.mash.txSeq f
      let m := { s.mash with txq := tput [] s.mash.txq f [], txSeq := tput 0 s.mash.txSeq f ((sq + 1) % 65536) }
      let s := s.onMash fun _ => m
      let first := n + 1 - q.length
      if s.mediaAt (fine (first * sec 1 / s.fs)) then
        s.txPair f s.up (s.rtpHead f false sq first ++ s.audioBody f first q)
      else s
    else s.onMash fun z => { z with txq := tput [] s.mash.txq f q }

/-- MASH_SAMPLE_INSTANT (R374): the newest sample instant not yet taken: the pool, the engines' swaps, the follow
groups, the buses and every output. -/
def execMashSampleInstant (dt : Nat) (s : State) : Res :=
  onMain dt s fun s =>
    let n := s.sampleNow
    if !s.configured || s.mash.n == some n then s
    else
      let s := s.onMash fun z => { z with n := some n }
      let s := s.poolStep n
      let s := s.each s.engBusy fun s e => s.engStep n e
      let s := s.each (s.listed Fld.MASH_DST_AUDIO_FOLLOW) fun s d => s.followStep n d
      let s := s.busesStep n
      let s := s.each ((s.listed Fld.MASH_ROUTE_EN) ++ s.mash.route.map fun p => p.1).eraseDups fun s pos =>
        s.routeStep n pos
      let live := s.mash.out.filter fun p => s.on Fld.MASH_ROUTE_EN p.1 || (s.routeRec p.1) != {}
      let s := s.onMash fun z => { z with out := live }
      (s.feedCompanions.sinks n).crossLost

/-- ZC_TIMEOUT (R392, R393): the time of a waiting gain change has ended; the new gain takes effect. -/
def execZcTimeout (dt : Nat) (bus : Bool) (i : Fin 32768) (s : State) : Res :=
  onMain dt s fun s =>
    let r := if bus then s.entryRec i else s.routeRec i
    match r.wait with
    | some (_, t) =>
      if t ≤ s.sampleNow then
        let r := { r with code := none, wait := none }
        (if bus then s.putEntry i r else s.putRoute i r).bump Fld.MASH_CNT_ZC_TIMEOUT_CNT 0 1
      else s
    | none => s

/-- FADER_RAMP_END (R403, R404): the ramp's last sample has come; the fader stands at TARGET. -/
def execFaderRampEnd (dt : Nat) (b : Fin 256) (s : State) : Res :=
  onMain dt s fun s =>
    let r := s.busRec b
    if r.len ≠ 0 ∧ r.start + r.len ≤ s.sampleNow + 1 then
      ((s.putBus b { r with fromNum := 0, fromDen := 1, target := 0, start := 0, len := 0 }).wr
        Fld.MASH_BUS_STAT_LEVEL b (s.rd Fld.MASH_BUS_FADER_TARGET b)).flag Fld.MASH_BUS_STAT_RAMPING b false
    else s

/-- MASH_PARITY_FAULT (R685; 14_faults R674): FS_196; a fault of Mash that brings on the hem state silences without a
ramp. -/
def execMashParityFault (dt : Nat) (b : Fin 256) (s : State) : Res :=
  onMain dt s fun s =>
    let s := s.raise 196 b 0
    if s.silence = 0 then (s.onMash fun z => { z with out := [] }) else s

/-- HEM_MASH_SILENT (R685): the ramp of hem entry has ended; every output position is silent. -/
def execHemMashSilent (dt : Nat) (s : State) : Res :=
  onMain dt s fun s => if s.silence = 0 then (s.onMash fun z => { z with out := [] }) else s

end Sys2Proof.Machine
end

