-- ==== Sys2Proof/Machine/Eth.lean ====
section
/-! DEFINITION. Ethernet ports (04_ethernet_ports): drops, pause and its watchdog, ARP and ICMP, the flow table, media
packets with the ST 2022-7 merge, transmit reservations, and link faults. -/

set_option autoImplicit false

namespace Sys2Proof.Machine

/-- Whether a port receives: EN 1 and link up. -/
def State.portUp (s : State) (p : Nat) : Bool := s.on Fld.ETH_PORT_CTL_EN p && s.on Fld.ETH_PORT_STAT_LINK_UP p

/-- Whether the ingress buffer lacks room for a frame (R177): media may use only what is left beside the 16 KiB that are reserved for
frames of classes 1 to 5. -/
def bufferFull (media : Bool) (len mediaFill otherFill : Nat) : Bool :=
  if media then decide (Config.ingressBytes < mediaFill + len + max 16384 otherFill)
  else decide (Config.ingressBytes < min mediaFill (Config.ingressBytes - 16384) + otherFill + len)

/-- ETH_FRAME_BAD (R172, R174, R177): a frame is dropped silently and counted; a full buffer raises FS_067. -/
def execEthFrameBad (dt : Nat) (p : Fin 18) (cause : DropCause) (s : State) : Res :=
  onMain dt s fun s =>
    if !s.portUp p then s
    else match cause with
      | .crc => s.cnt64 Fld.ETH_CNT_RX_CRC_CNT p 1
      | .short => s.cnt64 Fld.ETH_CNT_RX_SHORT_CNT p 1
      | .long => s.cnt64 Fld.ETH_CNT_RX_LONG_CNT p 1
      | .fec c u => ((s.cnt64 Fld.ETH_CNT_RX_BAD_CNT p 1).cnt64 Fld.ETH_CNT_FEC_CORR_CNT p c).cnt64
          Fld.ETH_CNT_FEC_UNCORR_CNT p u
      | .pcs => s.cnt64 Fld.ETH_CNT_RX_BAD_CNT p 1
      | .full m n a b => if bufferFull m n a b then (s.cnt64 Fld.ETH_CNT_RX_FULL_CNT p 1).raise 67 p 0 else s

/-- A frame that no class takes is dropped and counted (R174, R175). -/
def State.noMatch (s : State) (p : Nat) : State := s.cnt64 Fld.ETH_CNT_RX_NOMATCH_CNT p 1

/-- The MAC's checks of a frame's length, and then its class (R174, R175; log entry 150, DESIGN CHOICE). -/
def State.rxChecked (s : State) (p len : Nat) (f : State → State) : State :=
  if !s.portUp p then s
  else if len < 64 then s.cnt64 Fld.ETH_CNT_RX_SHORT_CNT p 1
  else if s.rd Fld.ETH_PORT_CTL_MAX_FRAME p < len then s.cnt64 Fld.ETH_CNT_RX_LONG_CNT p 1
  else f s

/-- A received frame that a class takes, and the counters of a good frame (R174, R216). -/
def State.rxFrame (s : State) (p len : Nat) (f : State → State) : State :=
  s.rxChecked p len fun s => f ((s.cnt64 Fld.ETH_CNT_RX_FRAMES_CNT p 1).cnt64 Fld.ETH_CNT_RX_OCTETS_CNT p len)

/-- Send an IGMPv3 report or leave, and once more (R187; log entry 16, PRESUMED). -/
def State.igmpSend (s : State) (p group source : Nat) (join : Bool) : State :=
  (s.txFrame p 64 (.igmp p group source join)).txFrame p 64 (.igmp p group source join)

/-- The group address of PTP, 224.0.1.129. -/
def ptpGroup : Nat := 0xE0000181

/-- An IGMP report or leave of a receive flow with a multicast address (R187). -/
def State.igmpFlow (s : State) (f : Nat) (join : Bool) : State :=
  let dip := s.rd Fld.ETH_FLOW_DIP_DIP f
  let p := s.rd Fld.ETH_FLOW_CTL_PORT f
  if s.rd Fld.ETH_FLOW_CTL_DIR f = 0 ∧ dip / 2 ^ 28 = 14 then s.igmpSend p dip (s.rd Fld.ETH_FLOW_SIP_SIP f) join
  else s

/-- The memberships of a port in a group, 0 for every group: those of its enabled receive flows (R187), and that of a client port
(12_time_service R615). -/
def State.igmpAll (s : State) (p group : Nat) : State :=
  let s := ((s.listed Fld.ETH_FLOW_CTL_EN).filter fun f => s.rd Fld.ETH_FLOW_CTL_PORT f == p
      && (group == 0 || s.rd Fld.ETH_FLOW_DIP_DIP f == group)).foldl (fun s f => s.igmpFlow f true) s
  if s.rd Fld.TSVC_PORT_CFG_ROLE p = 2 ∧ (group = 0 ∨ group = ptpGroup) then s.igmpSend p ptpGroup 0 true else s

/-- UNMATCHED_FRAME (R174, R187): `query` is the group of an IGMP membership query, 0 for a general one, which no class of R175 takes and
which the port's memberships answer (log entry 16, PRESUMED). -/
def execUnmatchedFrame (dt : Nat) (p : Fin 18) (len : Nat) (query : Option (BitVec 32)) (s : State) : Res :=
  onMain dt s fun s => s.rxChecked p len fun s =>
    match query with
    | some g => (s.noMatch p).igmpAll p g.toNat
    | none => s.noMatch p

/-! Pause (R178 to R183). -/

def State.pauseOf (s : State) (p q : Nat) : PauseS := tget {} s.eth.pause (p * 4 + q)
def State.putPause (s : State) (p q : Nat) (r : PauseS) : State :=
  s.onEth fun z => { z with pause := tput {} s.eth.pause (p * 4 + q) r }

/-- Bit `q` of HELD and of IGNORE. -/
def State.markHeld (s : State) (p q : Nat) (b : Bool) : State :=
  s.wr Fld.ETH_PORT_STAT_HELD p (setBitTo (s.rd Fld.ETH_PORT_STAT_HELD p) q b)
def State.queueIgnores (s : State) (p q : Nat) : Bool := bitOf (s.rd Fld.ETH_PORT_STAT_IGNORE p) q
def State.setIgnores (s : State) (p q : Nat) (b : Bool) : State :=
  s.wr Fld.ETH_PORT_STAT_IGNORE p (setBitTo (s.rd Fld.ETH_PORT_STAT_IGNORE p) q b)

/-- Whether a queue sends with a PCP: Q1 with those of its transmit flows (R209). -/
def State.queuePcp (s : State) (p q c : Nat) : Bool :=
  match q with
  | 0 => s.rd Fld.ETH_QUEUE_PCP_Q0 p == c
  | 1 => (s.listed Fld.ETH_FLOW_CTL_EN).any fun f =>
      s.rd Fld.ETH_FLOW_CTL_DIR f == 1 && s.rd Fld.ETH_FLOW_CTL_PORT f == p && s.rd Fld.ETH_FLOW_HDR_PCP f == c
  | 2 => s.rd Fld.ETH_QUEUE_PCP_Q2 p == c
  | _ => s.rd Fld.ETH_QUEUE_PCP_Q3 p == c

/-- When no pause holds a queue any longer (R180). -/
def PauseS.end_ (r : PauseS) : Nat := r.pfc.foldl (fun m p => max m p.2) r.mac

/-- Pauses of some quanta of 512 bit times hold a queue (R179, R180): an 802.3 pause, or priority pauses by priority. Each replaces what was
left of its own kind and priority. -/
def State.pauseQueue (s : State) (p q : Nat) (mac : Option Nat) (pfc : List (Nat × Nat)) : State :=
  if s.queueIgnores p q || (mac.isNone && pfc.isEmpty) then s
  else
    let r := s.pauseOf p q
    let fin := fun (n : Nat) => s.up + n * 33554432 / 100
    let was := s.queueHeld p q && decide (s.up ≤ r.end_)
    let r := { r with mac := (mac.map fin).getD r.mac, pfc := pfc.foldl (fun l x => tinsert l x.1 (fin x.2)) r.pfc }
    if r.end_ ≤ s.up then (s.putPause p q r).markHeld p q false
    else (s.putPause p q (if was then r else { r with since := s.up })).markHeld p q true

/-- PAUSE_FRAME (R179, R180, R182): an 802.3 pause with its quanta, or a priority pause with the enabled classes and the
quanta of each. -/
def execPauseFrame (dt : Nat) (p : Fin 18) (pfc : Bool) (classes : BitVec 8) (quanta : Vector (BitVec 16) 8) (s : State) :
    Res :=
  onMain dt s fun s =>
    if !s.portUp p then s
    else
      let s := s.cnt64 Fld.ETH_CNT_RX_PAUSE_CNT p 1
      let n := fun (c : Nat) => (quanta.toList.getD c 0).toNat
      if pfc then
        if s.on Fld.ETH_PORT_CTL_PFC_EN p then
          (s.each (List.range 4) fun s q => s.pauseQueue p q none
            (((List.range 8).filter fun c => classes.getLsbD c && s.queuePcp p q c).map fun c => (c, n c))).serve p
        else s
      else if s.on Fld.ETH_PORT_CTL_PAUSE_EN p then
        (s.each (List.range 4) fun s q => s.pauseQueue p q (some (n 0)) []).serve p
      else s

/-- PAUSE_EXPIRE (R180, R209): no pause holds the queue any longer, and what waits in it is served. -/
def execPauseExpire (dt : Nat) (p : Fin 18) (q : Fin 4) (s : State) : Res :=
  onMain dt s fun s =>
    if s.queueHeld p q && decide ((s.pauseOf p q).end_ ≤ s.up) then (s.markHeld p q false).serve p else s

/-- PAUSE_WATCHDOG (R181): a queue held for PAUSE_WD ms is released, and pauses are ignored as long again. -/
def execPauseWatchdog (dt : Nat) (p : Fin 18) (q : Fin 4) (s : State) : Res :=
  onMain dt s fun s =>
    let r := s.pauseOf p q
    let wd := ms (s.rd Fld.ETH_PORT_CTL_PAUSE_WD p)
    if s.queueHeld p q && decide (r.since + wd ≤ s.up) then
      let s := s.putPause p q { r with mac := s.up, pfc := [], ignore := s.up + wd }
      ((((s.markHeld p q false).setIgnores p q true).cnt64 Fld.ETH_CNT_PAUSE_WD_CNT p 1).raise 65 p 0).serve p
    else s

/-- PAUSE_IGNORE_END (R181). -/
def execPauseIgnoreEnd (dt : Nat) (p : Fin 18) (q : Fin 4) (s : State) : Res :=
  onMain dt s fun s =>
    if s.queueIgnores p q && decide ((s.pauseOf p q).ignore ≤ s.up) then s.setIgnores p q false else s

/-! ARP and ICMP (R175, R176). -/

/-- ARP_REQUEST: a request for the port's IPv4 address is answered, any other matches no class. -/
def execArpRequest (dt : Nat) (p : Fin 18) (target : BitVec 32) (len : Nat) (s : State) : Res :=
  onMain dt s fun s =>
    if tget 0 s.eth.ip p.val = target.toNat ∧ target ≠ 0 then
      s.rxFrame p len fun s => s.txFrame p 64 (.arpReply p)
    else s.rxChecked p len fun s => s.noMatch p

/-- ICMP_ECHO_REQUEST: answered on CTL_0 and CTL_1 only; `data` is what the reply returns. -/
def execIcmpEchoRequest (dt : Nat) (p : Fin 18) (data : List Byte) (len : Nat) (s : State) : Res :=
  onMain dt s fun s =>
    if 16 ≤ p.val then s.rxFrame p len fun s => s.txFrame p len (.echoReply p data)
    else s.rxChecked p len fun s => s.noMatch p

/-! The flow table (R184 to R191). -/

/-- Whether a receive flow of a port matches a frame (R186). -/
def State.flowMatches (s : State) (f p : Nat) (h : FrameHdr) : Bool :=
  let tag := match h.vid with
    | some v => s.on Fld.ETH_FLOW_CTL_TAGGED f && s.rd Fld.ETH_FLOW_HDR_VID f == v.toNat
    | none => !s.on Fld.ETH_FLOW_CTL_TAGGED f
  s.rd Fld.ETH_FLOW_CTL_DIR f == 0 && s.rd Fld.ETH_FLOW_CTL_PORT f == p
    && s.rd Fld.ETH_FLOW_DIP_DIP f == h.dip.toNat && s.rd Fld.ETH_FLOW_UDP_DPORT f == h.dport.toNat
    && (s.rd Fld.ETH_FLOW_SIP_SIP f == 0 || s.rd Fld.ETH_FLOW_SIP_SIP f == h.sip.toNat)
    && (s.rd Fld.ETH_FLOW_UDP_SPORT f == 0 || s.rd Fld.ETH_FLOW_UDP_SPORT f == h.sport.toNat)
    && tag && (s.rd Fld.ETH_FLOW_SSRC_SSRC f == 0 || s.rd Fld.ETH_FLOW_SSRC_SSRC f == h.ssrc.toNat)

/-- The enabled receive flow that takes a frame: the lowest index that matches (R186). -/
def State.matchFlow (s : State) (p : Nat) (h : FrameHdr) : Option Nat :=
  (s.listed Fld.ETH_FLOW_CTL_EN).find? fun f => s.flowMatches f p h

/-- Wire octets of the preamble and gap of a packet. -/
def gapOctets : Nat := 20

/-- Mb/s, rounded up, of a number of octets in a period in fine units. -/
def mbps (octets period : Nat) : Nat :=
  (octets * 8 * fine (sec 1) + period * 1000000 - 1) / (period * 1000000)

/-- The reservation of a transmit flow (R190; log entry 38, DESIGN CHOICE). -/
def State.flowResv (s : State) (f : Nat) : Nat :=
  let tag := s.on Fld.ETH_FLOW_CTL_TAGGED f
  match s.rd Fld.ETH_FLOW_CTL_TYPE f with
  | 0 => match fmtOf (s.flowFmt f) with
    | some m => mbps (m.mediaOctets tag + m.packets * gapOctets) m.period
    | none => 0
  | 2 | 3 => mbps (s.audioOctets f tag + gapOctets)
      (if bitOf (s.rd Fld.ETH_FLOW_MEDIA_RAW f) 23 then fine (us 125) else fine (ms 1))
  | _ => Config.flowRate f

/-- ETH.PORT_TX_RESV (R190). -/
def State.portResv (s : State) (p : Nat) : Nat :=
  (((s.listed Fld.ETH_FLOW_CTL_EN).filter fun f =>
    s.rd Fld.ETH_FLOW_CTL_DIR f == 1 && s.rd Fld.ETH_FLOW_CTL_PORT f == p).map s.flowResv).foldl (· + ·) 0

/-- A write of FLOW_CTL.EN (R187, R189, R191): refused with ERR_FULL when the reservations would exceed 95,000 Mb/s. -/
def State.flowEnable (s : State) (f : Nat) (en : Bool) : Status × State :=
  let was := s.on Fld.ETH_FLOW_CTL_EN f
  if was = en then (.ok, s)
  else if en then
    if s.rd Fld.ETH_FLOW_CTL_DIR f = 1 ∧ 95000 < s.portResv (s.rd Fld.ETH_FLOW_CTL_PORT f) + s.flowResv f then (.errFull, s)
    else (.ok, (s.flag Fld.ETH_FLOW_CTL_EN f true).igmpFlow f true)
  else (.ok, (s.igmpFlow f false).flag Fld.ETH_FLOW_CTL_EN f false)

/-! Reception of media (R186, R192 to R207). -/

/-- The merge window of a pair in ticks: that of path A's port (R206). -/
def State.mergeWindow (s : State) (a : Nat) : Nat := ms (s.rd Fld.ETH_MERGE_CTL_WINDOW (s.rd Fld.ETH_FLOW_CTL_PORT a))

/-- Sequence numbers whose time in the window has ended leave it: a number that one path lacked, or both, is counted
(R206, R215). `m` is the modulus of the sequence. -/
def State.closeWindow (s : State) (a m : Nat) : State :=
  let r := s.flowRx a
  let w := s.mergeWindow a
  match r.next with
  | none => s
  | some next =>
    let old := r.seen.filter fun p => p.2.1 + w ≤ s.up
    if old.isEmpty then s
    else
      let d := (old.map fun p => (p.1 + m - next) % m).foldl max 0
      let gone := r.seen.filter fun p => (p.1 + m - next) % m ≤ d
      let s := s.bump Fld.ETH_FLOW_CNT_B_LOSS a (gone.filter fun p => p.2.2 == 1).length
      let s := s.bump Fld.ETH_FLOW_CNT_A_LOSS a (gone.filter fun p => p.2.2 == 2).length
      let s := s.bump Fld.ETH_FLOW_CNT_SEQ_GAP a (d + 1 - gone.length)
      s.putFlowRx a { r with seen := r.seen.filter fun p => d < (p.1 + m - next) % m, next := some ((next + d + 1) % m) }

/-- Whether a packet's content is used (R205, R206): of a pair the first intact packet of a number within the window; of
a single flow every packet, with missing numbers counted. -/
def State.takeSeq (s : State) (f seq m : Nat) : Bool × State :=
  let a := s.pathA f
  match s.pairOf f with
  | none =>
    let r := s.flowRx a
    let gap := match r.next with
      | some n => (seq + m - n) % m
      | none => 0
    if gap < m / 2 then
      (true, (s.bump Fld.ETH_FLOW_CNT_SEQ_GAP a gap).putFlowRx a { r with next := some ((seq + 1) % m) })
    else (true, s)
  | some _ =>
    let s := s.closeWindow a m
    let r := s.flowRx a
    let bit := if f = a then 1 else 2
    let next := r.next.getD seq
    if m / 2 ≤ (seq + m - next) % m then (false, s.bump Fld.ETH_FLOW_CNT_LATE f 1)
    else match r.seen.find? fun p => p.1 == seq with
      | some (_, t, k) =>
        (false, s.putFlowRx a { r with seen := tinsert r.seen seq (t, if k = bit then k else 3) })
      | none => (true, s.putFlowRx a { r with next := some next, seen := tinsert r.seen seq (s.up, bit) })

/-- The Kiln time, in fine units, that a 90 kHz RTP timestamp names: the frame epoch whose timestamp it is, or else the
time itself, of the instants nearest to now (R192, R194; log entry 41, DEDUCED). -/
def State.rtpNamed (s : State) (ts period : Nat) : Nat :=
  let u := fine (sec 1) / 90000
  let c := fine s.now / u
  let d := (ts + 2 ^ 32 - c % 2 ^ 32) % 2 ^ 32
  let t := (if d < 2 ^ 31 then c + d else c + d - 2 ^ 32) * u
  let e := (t + period / 2) / period * period
  if rtpTime e = ts then e else t

/-- A packet matched a flow: PKT counts, and its path is not lost; the answer says whether the flow may be used. `new`
says whether the packet may regain a lost path (R195, R202). -/
def State.seePacket (s : State) (f : Nat) (new_ : Bool) : Bool × State :=
  let s := s.bump Fld.ETH_FLOW_CNT_PKT f 1
  let r := s.flowRx f
  let s := s.putFlowRx f { r with last := s.up }
  if s.fenced .flow f || s.fenced .port (s.rd Fld.ETH_FLOW_CTL_PORT f) then (false, s)
  else if r.alive then (true, s)
  else if new_ then (true, (s.putFlowRx f { s.flowRx f with alive := true }).settleFlow f)
  else (false, s)

/-- Find the flow of a type that takes a frame, check the frame's header verdict and its buffer, and go on. A frame for a time port is the
time service's, which drops what is none of its messages (R175; 12_time R583, R618). -/
def State.media (s : State) (p : Nat) (h : FrameHdr) (types : List Nat) (ok room : Bool) (f : State → Nat → State) : State :=
  s.rxChecked p h.len fun s =>
    let port := h.dport.toNat
    if port = 123 ∨ ((port = 319 ∨ port = 320) ∧ s.rd Fld.TSVC_PORT_CFG_ROLE p ≠ 0) then
      s.rxFrame p h.len fun s => s.bump Fld.TSVC_CNT_FILTER_CNT p 1
    else if port = 319 ∨ port = 320 then s.rxFrame p h.len fun s => s
    else match s.matchFlow p h with
    | none => s.noMatch p
    | some fl => s.rxFrame p h.len fun s =>
        if !ok || !types.contains (s.rd Fld.ETH_FLOW_CTL_TYPE fl) then s.bump Fld.ETH_FLOW_CNT_MALFORMED fl 1
        else if !room then s.bump Fld.ETH_FLOW_CNT_OVERRUN fl 1
        else f s fl

/-- The first packet of a frame of a -20 flow (R196): its arrival offset from the time its timestamp names, and the
spacing of the frame before it. -/
def State.measureFrame (s : State) (f : Nat) (named line : Nat) : State :=
  let r := s.flowRx f
  let hist := ((((fine s.now : Nat) : Int) - (named : Int), r.narrow) :: r.hist).take 64
  let s := s.putFlowRx f { r with hist := hist, narrow := true }
  let j := spread (hist.map fun p => p.1)
  let s := s.wr Fld.ETH_FLOW_STAT_JITTER f (min 4095 ((64 * j).toNat / line))
  s.flag Fld.ETH_FLOW_STAT_N_OK f (hist.length == 64 && hist.all fun p => p.2)

/-- Change the frames of a source, in Vat and in its ring, that a flow's time names. -/
def SrcS.onEpoch (r : SrcS) (t : Nat) (g : Frame → Frame) : SrcS :=
  let h := fun (v : Frame) => if v.epoch = some t then g v else v
  { r with vat := r.vat.map h, slots := r.slots.map fun p => (p.1, h p.2) }

/-- Put rows in a frame; one that has ended is COMPLETE when it lacks nothing any longer (R193, R205; 06_cask R274). -/
def Frame.addRows (v : Frame) (fm : Fmt) (rows : List RtpRow) : Frame :=
  let segs := rows.foldl (fun l x => tput [] l (cellKey x.field x.line x.offset) x.data) v.segs
  { v with segs := segs, complete := v.complete || (v.done && (segs.map fun p => p.2.length).foldl (· + ·) 0 == fm.frameBytes) }

/-- Put a packet's rows in the frame of each slot that a flow carries; a new frame begins one in Vat and in the ring
(R193, R205; 06_cask R273 to R275). A packet that comes after its frame's marker goes into the frame that it belongs to. -/
def State.packetRows (s : State) (a : Nat) (named : Nat) (fm : Fmt) (begins ends : Bool) (rows : List RtpRow) : State :=
  s.each (s.flowSlots a) fun s k =>
    let s := if begins then
        let s := if (s.srcOf k).vat.head?.any fun v => !v.done then s.endFrame k else s
        let s := s.beginFrame k (s.flowFmt a) none
        let s := s.putSrc k ((s.srcOf k).onFrame fun v => { v with epoch := some named })
        s.recordPhase k (some ((named + fm.line) / 189)) true
      else s
    let s := s.putSrc k ((s.srcOf k).onEpoch named fun v => v.addRows fm rows)
    if ends && (s.srcOf k).vat.head?.any fun v => v.epoch == some named && !v.done then (s.endFrame k).startKnown k s.now true else s

/-- ST2110_20_PACKET (R186, R192 to R196, R204 to R207): a frame received on a port with an extended sequence number, RTP
timestamp, marker, field and rows; `narrow` is the spacing check of ST 2110-21, `ok` the header check of the flow's type,
`room` whether its buffer takes the packet. -/
def execSt211020Packet (dt : Nat) (p : Fin 18) (h : FrameHdr) (seq ts : BitVec 32) (marker field narrow ok room : Bool)
    (rows : List RtpRow) (s : State) : Res :=
  onMain dt s fun s => s.media p h [0] ok room fun s f =>
    match fmtOf (s.flowFmt f) with
    | none => s.bump Fld.ETH_FLOW_CNT_MALFORMED f 1
    | some fm =>
      let top := !field && (rows.head?.any fun x => x.line == 0 && x.offset == 0)
      let e := s.seePacket f top
      if !e.1 then e.2
      else
        let s := e.2
        let r := s.flowRx f
        let named := s.rtpNamed ts.toNat fm.period
        let fresh := !field && (r.ts != some ts.toNat)
        let step := fm.period * 90000 / fine (sec 1)
        let s := match r.ts with
          | some t => if fresh && !((ts.toNat + 2 ^ 32 - t) % 2 ^ 32 == step || (ts.toNat + 2 ^ 32 - t) % 2 ^ 32 == step + 1)
              then s.bump Fld.ETH_FLOW_CNT_TS_JUMP f 1 else s
          | none => s
        let s := if fresh then s.measureFrame f named fm.line else s
        let r := s.flowRx f
        let s := s.putFlowRx f { r with ts := if field then r.ts else some ts.toNat, narrow := r.narrow && narrow }
        let u := s.takeSeq f seq.toNat (2 ^ 32)
        if !u.1 then u.2
        else
          let a := u.2.pathA f
          let known := (u.2.flowSlots a).head?.any fun k => (u.2.srcOf k).vat.any fun v => v.epoch == some named
          let begins := !field && !known
          u.2.packetRows a named fm begins (marker && (field || !fm.inter)) rows

/-- A change of a -22 destination that is due takes effect (R241, R252). -/
def State.apply22 (s : State) (d : Nat) : State :=
  ((s.waiting .dst d).filter (s.due (fine s.now) (fine s.now))).foldl (fun s c =>
    let v := s.changeDue d c
    if v = 0 then s.applyDst d c (fine s.now) else s.turnAway d c v) s

/-- ST2110_22_PACKET (R199, R241): forwarded to the -22 destinations whose route it is, the packet after the first marker
of a new source onward; at a marker of a destination's old source, or of any packet of the new one while the old is
BLACK or lost, a due change applies (log entry 42, DEDUCED). -/
def execSt211022Packet (dt : Nat) (p : Fin 18) (h : FrameHdr) (seq : BitVec 16) (ts : BitVec 32) (marker ok : Bool)
    (payload : List Byte) (s : State) : Res :=
  onMain dt s fun s => s.media p h [1] ok true fun s f =>
    let e := s.seePacket f true
    if !e.1 then e.2
    else
      let s := e.2
      let s := s.putFlowRx f { s.flowRx f with ts := some ts.toNat }
      let u := s.takeSeq f seq.toNat (2 ^ 16)
      if !u.1 then u.2
      else
        let slots := u.2.flowSlots (u.2.pathA f)
        let dsts := (u.2.listed Fld.CELL_DST_BIND_EN).filter fun d => u.2.dst22 d && u.2.on Fld.WARP_DST_CFG_EN d
        u.2.each dsts fun s d =>
          let old := s.rd Fld.WARP_DST_ROUTE_SRC d
          let waits := (s.waiting .dst d).any fun c => c.route.any fun v => slots.contains v
          let s := if waits && (old == black || s.srcLost old) then s.apply22 d else s
          if slots.contains (s.rd Fld.WARP_DST_ROUTE_SRC d) then
            let r := s.dstOf d
            let s :=
              if r.skip22 then (if marker then s.putDst d { r with skip22 := false } else s)
              else if s.fenced .dst d then s
              else match s.dstFlow d with
                | none => s
                | some fl =>
                  let s := if s.mediaAt (fine s.now) then
                      s.txPair fl s.up (s.rtpHead fl marker r.rtpSeq ts.toNat ++ payload)
                    else s
                  s.putDst d { r with rtpSeq := (r.rtpSeq + 1) % 65536 }
            if marker && !r.skip22 then s.apply22 d else s
          else s

/-- The sample number that an audio flow's RTP timestamp names, nearest to now (R200; 08_mash R426). -/
def State.rtpSample (s : State) (ts : Nat) : Nat :=
  let c := s.sampleNow
  let d := (ts + 2 ^ 32 - c % 2 ^ 32) % 2 ^ 32
  if d < 2 ^ 31 then c + d else c + d - 2 ^ 32

/-- Route values whose companion group names a flow's positions. -/
def State.flowGroups (s : State) (f : Nat) : List Nat :=
  (s.listed Fld.MASH_SRC_AUDIO_COUNT).filter fun k =>
    let b := s.rd Fld.MASH_SRC_AUDIO_BASE k
    s.flowBase f ≤ b && b < s.flowBase f + s.flowChans f

/-- A flow is refused for its rate, or taken again (08_mash R375). -/
def State.flowRate (s : State) (f : Nat) (bad : Bool) : State :=
  let was := s.mash.rateBad.contains f
  let m := if bad = was then s.mash else
    { s.mash with rateBad := if bad then f :: s.mash.rateBad else s.mash.rateBad.filter (· ≠ f) }
  let s := s.onMash fun _ => m
  let s := s.each (s.flowGroups f) fun s k => s.flag Fld.MASH_SRC_AUDIO_RATE_ERR k bad
  if bad && !was then (s.bump Fld.MASH_CNT_RATE_ERR_CNT 0 1).raise 192 0 0 else s

/-- Samples of a -30 or -31 packet enter the pool's queues and the record by RTP time (R200, R201; 08_mash R375, R426). -/
def State.audioIn (s : State) (f seq ts : Nat) (samples : List (List Int)) : State :=
  let e := s.seePacket f true
  if !e.1 then e.2
  else
    let u := e.2.takeSeq f seq (2 ^ 16)
    if !u.1 then u.2
    else
      let s := u.2
      let a := s.pathA f
      if samples.length ≠ s.flowSamples a then (s.bump Fld.ETH_FLOW_CNT_MALFORMED f 1).flowRate a true
      else
        let s := s.flowRate a false
        let first := s.rtpSample ts
        let old := tget [] s.mash.flowRec a
        let rec' := (samples.zipIdx.foldl (fun l q => tput [] l (first + q.2) q.1) old).filter fun q => first < q.1 + 20480
        let s := s.onMash fun z => { z with flowRec := tput [] s.mash.flowRec a rec' }
        s.each (List.range (s.flowChans a)) fun s c =>
          let pos := s.flowBase a + c
          s.putInq pos (s.inqOf pos ++ samples.map fun l => l.getD c 0)

/-- ST2110_30_PACKET (R200): L24, or L16 extended with zeros; one list of channels for each sample. -/
def execSt211030Packet (dt : Nat) (p : Fin 18) (h : FrameHdr) (seq : BitVec 16) (ts : BitVec 32) (ok l16 : Bool)
    (samples : List (List (BitVec 24))) (s : State) : Res :=
  onMain dt s fun s => s.media p h [2] ok true fun s f =>
    if samples.any fun l => l.length != s.flowChans f then s.bump Fld.ETH_FLOW_CNT_MALFORMED f 1
    else s.audioIn f seq.toNat ts.toNat (samples.map fun l => l.map fun (x : BitVec 24) =>
      if l16 then (x <<< 8).toInt else x.toInt)

/-- ST2110_31_PACKET (R201): the 24 audio bits of each AES3 subframe; V, U and C are ignored. -/
def execSt211031Packet (dt : Nat) (p : Fin 18) (h : FrameHdr) (seq : BitVec 16) (ts : BitVec 32) (ok : Bool)
    (subframes : List (List Aes3)) (s : State) : Res :=
  onMain dt s fun s => s.media p h [3] ok true fun s f =>
    if subframes.any fun l => l.length != s.flowChans f then s.bump Fld.ETH_FLOW_CNT_MALFORMED f 1
    else s.audioIn f seq.toNat ts.toNat (subframes.map fun l => l.map fun x => x.audio.toInt)

/-- The -20 receive flow that a -40 flow is tied to (R203). -/
def State.assocOf (s : State) (f : Nat) : Option Nat :=
  let g := s.rd Fld.ETH_FLOW_MEDIA_RAW f % 4096
  if s.rd Fld.ETH_FLOW_CTL_TYPE g = 0 ∧ s.rd Fld.ETH_FLOW_CTL_DIR g = s.rd Fld.ETH_FLOW_CTL_DIR f then some g else none

/-- ST2110_40_PACKET (R195, R203): the packets of its payload, after the extended sequence number and the length, are treated as ancillary
cells of the slot of the associated -20 flow; `newFrame` marks the first packet of a frame. -/
def execSt211040Packet (dt : Nat) (p : Fin 18) (h : FrameHdr) (seq : BitVec 16) (newFrame ok : Bool)
    (payload : List Byte) (s : State) : Res :=
  onMain dt s fun s => s.media p h [4] ok true fun s f =>
    let e := s.seePacket f newFrame
    if !e.1 then e.2
    else
      let u := e.2.takeSeq f (beAt payload 0 2 * 65536 + seq.toNat) (2 ^ 32)
      if !u.1 then u.2
      else
        let s := u.2
        match s.assocOf (s.pathA f) with
        | some g => s.each (s.flowSlots (s.pathA g)) fun s k =>
            (ancTake [] (payload.drop 4) false).1.foldl (fun s x => s.ancPacket k x) s
        | none => s

/-- The format by which a flow's loss is timed: its own, or that of the -20 flow a -40 flow is tied to (R195). -/
def State.lossFmt (s : State) (f : Nat) : Nat :=
  if s.rd Fld.ETH_FLOW_CTL_TYPE f = 4 then s.flowFmt (s.rd Fld.ETH_FLOW_MEDIA_RAW f % 4096) else s.flowFmt f

/-- FLOW_LOST_TIMEOUT (R195): no packet has matched for 1.25 frame periods. -/
def execFlowLostTimeout (dt : Nat) (f : Fin 4096) (s : State) : Res :=
  onMain dt s fun s =>
    let r := s.flowRx f
    let t := s.rd Fld.ETH_FLOW_CTL_TYPE f
    match fmtOf (s.lossFmt f) with
    | some m => if r.alive && (t == 0 || t == 4) && decide (m.period * 5 / 4 ≤ fine (s.up - r.last)) then
        s.loseFlow f else s
    | none => s

/-- AUDIO_FLOW_LOST_TIMEOUT (R202): no packet has matched for 10 ms. -/
def execAudioFlowLostTimeout (dt : Nat) (f : Fin 4096) (s : State) : Res :=
  onMain dt s fun s =>
    let r := s.flowRx f
    let t := s.rd Fld.ETH_FLOW_CTL_TYPE f
    if r.alive && (t == 2 || t == 3) && decide (r.last + ms 10 ≤ s.up) then s.loseFlow f else s

/-! Links (R173, R195, R213, R214). -/

/-- LOCAL_FAULT, and what the transmitter sends meanwhile (R173). -/
def State.localFault (s : State) (p : Nat) (b : Bool) : State :=
  if s.on Fld.ETH_PORT_STAT_LOCAL_FAULT p = b then s else (s.flag Fld.ETH_PORT_STAT_LOCAL_FAULT p b).emit (.remoteFault p b)

/-- A port's link goes down: its receive flows are lost, its SyncE candidate goes, FS_064 stands. -/
def State.ethDown (s : State) (p : Nat) : State :=
  let was := s.on Fld.ETH_PORT_STAT_LINK_UP p
  let s := (s.flag Fld.ETH_PORT_STAT_LINK_UP p false).flag Fld.ETH_PORT_STAT_ALIGNED p false
  let s := (if was then s.cnt64 Fld.ETH_CNT_LINK_DOWN_CNT p 1 else s).dropEgress p
  let s := s.each ((s.eth.rx.map fun q => q.1).filter fun f =>
    s.rd Fld.ETH_FLOW_CTL_PORT f == p && s.rd Fld.ETH_FLOW_CTL_DIR f == 0) State.loseFlow
  (s.refThere (23 + p) false).raise 64 p 0

/-- ETH_LOSS_OF_SIGNAL (R213). -/
def execEthLossOfSignal (dt : Nat) (p : Fin 18) (s : State) : Res :=
  onMain dt s fun s =>
    if s.on Fld.ETH_PORT_CTL_EN p then (s.localFault p true).ethDown p else s

/-- ETH_LINK_GLITCH (R213): the frames it hit are dropped as bad; the link stays up. -/
def execEthLinkGlitch (dt : Nat) (p : Fin 18) (frames : Nat) (s : State) : Res :=
  onMain dt s fun s =>
    if s.portUp p then
      ((s.cnt64 Fld.ETH_CNT_LINK_GLITCH_CNT p 1).cnt64 Fld.ETH_CNT_RX_BAD_CNT p frames).raise 66 p 0
    else s

/-- ETH_RATE_CHANGE (R213). -/
def execEthRateChange (dt : Nat) (p : Fin 18) (s : State) : Res :=
  onMain dt s fun s => if s.on Fld.ETH_PORT_CTL_EN p then s.ethDown p else s

/-- ETH_LINK_UP (R187, R214): alignment and clock have been held for 1 ms. The port reports its memberships. -/
def execEthLinkUp (dt : Nat) (p : Fin 18) (s : State) : Res :=
  onMain dt s fun s =>
    if s.on Fld.ETH_PORT_CTL_EN p then
      let s := ((s.flag Fld.ETH_PORT_STAT_LINK_UP p true).flag Fld.ETH_PORT_STAT_ALIGNED p true).localFault p false
      ((s.lower 64 p).refThere (23 + p) true).igmpAll p 0
    else s

/-- REMOTE_FAULT_RECEIVED and REMOTE_FAULT_ENDED (R173). -/
def execRemoteFaultReceived (dt : Nat) (p : Fin 18) (s : State) : Res :=
  onMain dt s fun s => if s.on Fld.ETH_PORT_CTL_EN p then
    (s.flag Fld.ETH_PORT_STAT_REMOTE_FAULT p true).dropEgress p else s
def execRemoteFaultEnded (dt : Nat) (p : Fin 18) (s : State) : Res :=
  onMain dt s fun s => s.flag Fld.ETH_PORT_STAT_REMOTE_FAULT p false

end Sys2Proof.Machine
end

