-- ==== Sys2Proof/Machine/Tsvc.lean ====
section
/-! DEFINITION. The time service (12_time_service): PTP master ports and sessions, authentication, client ports, NTP and NTS,
injected frames and the TX timestamp queues. -/

set_option autoImplicit false

namespace Sys2Proof.Machine

def State.tentOf (s : State) (i : Nat) : TEntry := tget {} s.tsvc.sess i
def State.putTent (s : State) (i : Nat) (e : TEntry) : State := s.onTsvc fun t => { t with sess := tput {} t.sess i e }
def State.groupOf (s : State) (n : Nat) : TKey := tget {} s.tsvc.group n
def State.putGroup (s : State) (n : Nat) (k : TKey) : State := s.onTsvc fun t => { t with group := tput {} t.group n k }

/-- Whether the time service runs (R581). -/
def State.tsRun (s : State) : Bool := s.on Fld.KILN_STAT_TIME_VALID 0 && s.mode != .cellar

/-- Role of a PTP port (R579): 0 off, 1 master, 2 client. -/
def State.ptpRole (s : State) (p : Nat) : Nat := s.rd Fld.TSVC_PORT_CFG_ROLE p

/-- The portIdentity of a port: CLOCK_ID and its PTP port number (R578). -/
def State.portIdentity (s : State) (p : Nat) : Nat := s.rd Fld.TSVC_CLOCK_ID_ID 0 * 65536 + (p + 1)

/-! Reservations (R601), in 1/128 packets per second. -/

/-- 2^-log packets per second, in 1/128; twice that for Sync and Delay_Resp. -/
def rateCost (log : Int) (twice : Bool) : Nat :=
  (if 0 ≤ log then 128 / 2 ^ log.toNat else 128 * 2 ^ (-log).toNat) * (if twice then 2 else 1)

def Grant.cost (g : Grant) (twice : Bool) : Nat := if g.on then rateCost g.log twice else 0
def TEntry.cost (e : TEntry) : Nat := e.ann.cost false + e.syn.cost true + e.dr.cost true
def TEntry.anyGrant (e : TEntry) : Bool := e.ann.on || e.syn.on || e.dr.on

/-- What the grants of a port reserve. -/
def State.ptpResv (s : State) (p : Nat) : Nat :=
  (s.tsvc.sess.map fun q => if q.2.port = p then q.2.cost else 0).sum

/-- What all grants reserve. -/
def State.ptpResvAll (s : State) : Nat := (s.tsvc.sess.map fun q => q.2.cost).sum

/-- A reservation as its register shows it. -/
def resvShown (r : Nat) : Nat := if r % 128 = 0 then r / 128 else Config.resvRound r

/-! The packet rate (R605). -/

/-- Count packets outside the grants in the present Kiln second. -/
def State.tload (s : State) (n : Nat) : State :=
  s.onTsvc fun t => if t.sec = s.second then { t with load := t.load + n } else { t with sec := s.second, load := n }

/-- Serve a received request, which counts, and its answer from the capacity that grants do not reserve (log entry 48,
DEDUCED). -/
def State.withinRate (s : State) (p : Nat) (f : State → State) : State :=
  let used := if s.tsvc.sec = s.second then s.tsvc.load else 0
  let s := s.tload 1
  if 20000000 * 128 < (used + 2) * 128 + s.ptpResvAll then (s.bump Fld.TSVC_CNT_OVERLOAD_CNT p 1).raise 322 0 0
  else f (s.tload 1)

/-! Sealing (R608 to R610). -/

/-- A key's next sequenceNo: its number, the key after it, and whether that exhausts it; none for an exhausted key. -/
def TKey.sealNext (k : TKey) : Option ((Nat × Nat) × TKey × Bool) :=
  if k.spent then none
  else if k.tx = 2 ^ 32 - 1 then some ((k.id, k.tx), { k with spent := true }, true)
  else some ((k.id, k.tx), { k with tx := k.tx + 1 }, false)

/-- A key is exhausted (R610). -/
def State.keySpent (s : State) (id : Nat) (spent : Bool) : State :=
  if spent then (s.event 5 0x0501 0 (beBytes 4 id)).raise 323 0 0 else s

/-- Octets of an Ethernet, IPv4 and UDP frame around a message, with the FCS. -/
def udpFrame : Nat := 46

/-- Send a PTP message of `len` octets; an AUTHENTICATION TLV adds 30 (R606). -/
def State.ptpSend (s : State) (p len : Nat) (dest : Option (Nat × Nat × Nat)) (tlv : Option (Nat × Nat)) (m : PtpMsg)
    (mark : TxMark) : State :=
  s.txMarked p (len + udpFrame + (if tlv.isSome then 30 else 0)) (.ptp p dest tlv m) mark

/-- Send a multicast message; with AUTH 1 it is sealed with slot GKEY (R608), and not sent without a key. -/
def State.ptpMulti (s : State) (p len : Nat) (m : PtpMsg) (mark : TxMark := .none) : State :=
  let s := s.tload 1
  if s.on Fld.TSVC_PORT_CFG_AUTH p then
    let n := s.rd Fld.TSVC_PORT_CFG_GKEY p
    if s.on Fld.TSVC_GKEY_STAT_LOADED n then
      match (s.groupOf n).sealNext with
      | some (t, k, spent) => ((s.putGroup n k).ptpSend p len none (some t) m mark).keySpent k.id spent
      | none => s
    else s
  else s.ptpSend p len none none m mark

/-- Send a message to a session's client; with AUTH 1 it is sealed with the key that TX_KEY selects (R609, R612). -/
def State.ptpUni (s : State) (i len : Nat) (m : PtpMsg) (mark : TxMark := .none) : State :=
  let e := s.tentOf i
  let dest := some (e.mac, e.ip, e.udp)
  if e.auth then
    match (if e.txB then e.b else e.a).sealNext with
    | some (t, k, spent) =>
      let s := s.putTent i (if e.txB then { e with b := k } else { e with a := k })
      (s.ptpSend e.port len dest (some t) m mark).keySpent k.id spent
    | none => s
  else s.ptpSend e.port len dest none m mark

/-! Announced quality and the TEB TLV (R589 to R594). -/

/-- A TEB with PORT_UNC added, saturating (R594). -/
def State.tebCarried (s : State) (teb : Nat) : Nat := satTo (2 ^ 32 - 1) (teb + s.rd Fld.TSVC_CFG_PORT_UNC 0)

/-- The TEB TLV (R593). -/
def State.tebTlv (s : State) (teb : Nat) : List Byte :=
  let flags := s.kilnState * 32 + s.rd Fld.KILN_STAT_OSC_XO 0 * 16 + b2n (decide (s.absorbed ≠ 0)) * 8
    + s.rd Fld.KILN_STAT_HO_EXPIRED 0 * 4 + b2n s.traceable * 2 + s.rd Fld.KILN_STAT_TIME_VALID 0
  beBytes 2 3 ++ beBytes 2 18 ++ beBytes 3 (s.rd Fld.TSVC_ORG_ID_ORG_ID 0) ++ beBytes 3 1 ++ beBytes 1 1
    ++ beBytes 1 flags ++ beBytes 1 (s.rd Fld.KILN_STAT_SELECTED 0) ++ beBytes 1 0 ++ beBytes 4 (s.tebCarried teb)
    ++ beBytes 4 (s.rd Fld.KILN_HO_REMAIN_SECONDS 0)

/-- The bounds of clockAccuracy 0x20 to 0x30 in ns (IEEE 1588-2019; log entry 49, PRESUMED). -/
def accuracyBounds : List Nat :=
  [25, 100, 250, 1000, 2500, 10000, 25000, 100000, 250000, 1000000, 2500000, 10000000, 25000000, 100000000, 250000000,
   1000000000, 10000000000]

/-- clockAccuracy of a carried TEB (R590). -/
def accuracyOf (teb : Nat) : Nat :=
  if teb = 2 ^ 32 - 1 then 0xFE else 0x20 + (accuracyBounds.takeWhile fun b => decide (b < teb)).length

/-- clockClass, whether time and frequency are traceable, and timeSource of the device as grandmaster (R589). -/
def State.quality (s : State) : Nat × Bool × Nat :=
  let sel := s.rd Fld.KILN_STAT_SELECTED 0
  if s.kilnState = 1 || !s.traceable then (248, false, 0xA0)
  else if s.on Fld.KILN_STAT_HO_EXPIRED 0 then (s.rd Fld.TSVC_CFG_DEGRADED_CLASS 0, false, 0xA0)
  else if s.kilnState = 2 then (6, true, if sel = 0 then 0x20 else 0x90)
  else (7, true, 0xA0)

/-- Whether the device is in the boundary role (R580). -/
def State.boundaryClock (s : State) : Bool :=
  s.kilnState == 2 && 5 ≤ s.rd Fld.KILN_STAT_SELECTED 0 && s.rd Fld.KILN_STAT_SELECTED 0 ≤ 22

/-- The foreign master that a client port follows. -/
def ClientS.master (c : ClientS) : Option Foreign := c.foreign.find? fun f => c.best == some f.id

/-- What the device announces as grandmaster (R580, R589, R590, R592). -/
def State.ownAnnounce (s : State) : AnnData :=
  let q := s.quality
  { gmId := .ofNat 64 (s.rd Fld.TSVC_CLOCK_ID_ID 0), priority1 := .ofNat 8 (s.rd Fld.TSVC_CFG_PRIORITY1 0),
    clockClass := .ofNat 8 q.1, accuracy := .ofNat 8 (accuracyOf (s.tebCarried s.teb)),
    variance := if q.1 = 6 ∨ q.1 = 7 then 0x4E5D else 0xFFFF,
    priority2 := .ofNat 8 (s.rd Fld.TSVC_CFG_PRIORITY2 0), steps := 0, timeSource := .ofNat 8 q.2.2,
    utcOffset := .ofNat 16 (s.rd Fld.KILN_UTC_UTC_OFFSET 0), leap61 := s.on Fld.KILN_UTC_LEAP61 0,
    leap59 := s.on Fld.KILN_UTC_LEAP59 0, utcValid := true, timeTraceable := q.2.1, freqTraceable := q.2.1 }

/-- What the device announces (R580, R591): in the boundary role the upstream values, one step further. -/
def State.announceData (s : State) : AnnData :=
  if s.boundaryClock && !s.on Fld.KILN_STAT_HO_EXPIRED 0 then
    match (s.clientOf (s.rd Fld.KILN_STAT_SELECTED 0 - 5)).master with
    | some f => { f.data with steps := f.data.steps + 1 }
    | none => s.ownAnnounce
  else s.ownAnnounce

/-! Multicast of master ports (R582, R584). -/

/-- Whether a master port sends multicast. -/
def State.multicasts (s : State) (p : Nat) : Bool :=
  s.tsRun && s.ptpRole p == 1 && s.on Fld.TSVC_PORT_CFG_MCAST p

/-- An interval of 2^log seconds in ns; exact for the intervals of R584 and R600. -/
def logNs (log : Int) : Nat :=
  if 0 ≤ log then 1000000000 * 2 ^ log.toNat else 1000000000 / 2 ^ (-log).toNat

/-- Whether an interval in ns has passed since a time. -/
def State.elapsed (s : State) (since : Option Nat) (n : Nat) : Bool :=
  match since with
  | some t => decide (t + ns n ≤ s.up)
  | none => true

/-- SYNC_TX (R584, R585). -/
def execSyncTx (dt : Nat) (p : Fin 18) (s : State) : Res :=
  onMain dt s fun s =>
    let r := s.tportOf p
    if s.multicasts p && s.elapsed r.syncAt (logNs (-3)) then
      (s.putTport p { r with syncAt := some s.up, syncSeq := (r.syncSeq + 1) % 65536 }).ptpMulti p 44 (.sync r.syncSeq)
        (.sync p r.syncSeq)
    else s

/-- FOLLOW_UP_TX (R588, R593, R594): the Follow_Up of a multicast Sync, or of a session's. -/
def execFollowUpTx (dt : Nat) (p : Fin 18) (sess : Option (Fin 1048576)) (s : State) : Res :=
  onMain dt s fun s =>
    let key := match sess with
      | some i => 32 + i.val
      | none => p.val
    match s.tsvc.sent.find? fun q => q.1 == key with
    | some (_, seq, t, teb) =>
      let s := s.onTsvc fun x => { x with sent := terase x.sent key }
      if s.tsRun && s.ptpRole p == 1 then
        let m : PtpMsg := .followUp seq (t / 65536) (t % 65536) (s.tebTlv teb)
        match sess with
        | some i => if (s.tentOf i).port = p.val then s.ptpUni i 66 m else s
        | none => s.ptpMulti p 66 m
      else s
    | none => s

/-- ANNOUNCE_TX (R584, R592). -/
def execAnnounceTx (dt : Nat) (p : Fin 18) (s : State) : Res :=
  onMain dt s fun s =>
    let r := s.tportOf p
    if s.multicasts p && s.elapsed r.annAt (logNs (-2)) then
      (s.putTport p { r with annAt := some s.up, annSeq := (r.annSeq + 1) % 65536 }).ptpMulti p 86
        (.announce r.annSeq (-2) s.announceData (s.tebTlv s.teb))
    else s

/-- SYNC_METADATA_TX (R582). -/
def execSyncMetadataTx (dt : Nat) (p : Fin 18) (s : State) : Res :=
  onMain dt s fun s =>
    let r := s.tportOf p
    if s.multicasts p && s.elapsed r.metaAt 1000000000 then
      (s.putTport p { r with metaAt := some s.up, metaSeq := (r.metaSeq + 1) % 65536 }).ptpMulti p 100
        (.metadata r.metaSeq (s.rd Fld.KILN_UTC_UTC_OFFSET 0) (s.on Fld.KILN_UTC_LEAP61 0) (s.on Fld.KILN_UTC_LEAP59 0))
    else s

/-! Reception (R581, R583). -/

/-- A message dropped under R583, R618 or R622. -/
def State.ptpFilter (s : State) (p : Nat) : State := s.bump Fld.TSVC_CNT_FILTER_CNT p 1

/-- Whether a port's header checks pass (R583). -/
def State.ptpHeader (s : State) (p : Nat) (h : PtpHdr) : Bool :=
  h.domain.toNat == s.rd Fld.TSVC_PORT_CFG_DOMAIN p && h.version == 2 && h.sdo == 0

/-- A request to a master port. -/
def State.ptpRequest (s : State) (p : Nat) (h : PtpHdr) (f : State → State) : State :=
  s.rxFrame p h.len fun s =>
    if s.ptpRole p ≠ 1 then s
    else if !s.tsRun then (s.tload 1).bump Fld.TSVC_CNT_NOT_RUN_CNT p 1
    else if s.ptpHeader p h then f s
    else (s.tload 1).ptpFilter p

/-- A message to a client port. -/
def State.ptpClient (s : State) (p : Nat) (h : PtpHdr) (f : State → State) : State :=
  s.rxFrame p h.len fun s =>
    if s.ptpRole p ≠ 2 then s
    else
      let s := s.tload 1
      if s.ptpHeader p h then f s else s.ptpFilter p

/-- MANAGEMENT_MESSAGE and PDELAY_MESSAGE are of no supported messageType (R582, R583). -/
def State.ptpUnsupported (s : State) (p len : Nat) : State :=
  s.rxFrame p len fun s => if s.ptpRole p = 0 then s else (s.tload 1).ptpFilter p

def execManagementMessage (dt : Nat) (p : Fin 18) (len : Nat) (s : State) : Res :=
  onMain dt s fun s => s.ptpUnsupported p len

def execPdelayMessage (dt : Nat) (p : Fin 18) (len : Nat) (s : State) : Res :=
  onMain dt s fun s => s.ptpUnsupported p len

/-! Authentication of received messages (R599, R606, R608, R609, R611). -/

/-- A message that fails or lacks its TLV (R609). -/
def State.authFail (s : State) (p : Nat) : State := (s.bump Fld.TSVC_CNT_AUTH_FAIL_CNT p 1).raise 320 0 0

/-- A message whose sequenceNo was passed (R611). -/
def State.replayed (s : State) (p : Nat) : State := (s.bump Fld.TSVC_CNT_REPLAY_CNT p 1).raise 321 0 0

/-- A message of no session (R599, R604). -/
def State.noSession (s : State) (p : Nat) : State := s.bump Fld.TSVC_CNT_NOSESS_CNT p 1

/-- Whether an entry can be a message's, its keys aside (R599). -/
def TEntry.fits (e : TEntry) (p : Nat) (h : PtpHdr) : Bool :=
  e.valid && e.port == p && e.domain == h.domain.toNat && (e.ip == 0 || e.ip == h.sip.toNat)
    && (if e.bind || e.anyGrant then e.portId == h.srcId.toNat else true)

/-- The entry that a unicast message goes to (R599). -/
def State.sessionOf (s : State) (p : Nat) (h : PtpHdr) : Option Nat :=
  match h.auth with
  | some a =>
    let i := a.keyId.toNat % 2 ^ 20
    let e := s.tentOf i
    if a.spp = 0 ∧ e.fits p h = true ∧ (e.a.id = a.keyId.toNat ∨ e.b.id = a.keyId.toNat) then some i else none
  | none => (s.tsvc.sess.find? fun q => !q.2.auth && q.2.bind && q.2.fits p h).map fun q => q.1

/-- A request that is accepted is learnt from (R596, R599). -/
def State.learnClient (s : State) (i : Nat) (h : PtpHdr) : State :=
  let e := s.tentOf i
  s.putTent i { e with portId := if e.bind || e.anyGrant then e.portId else h.srcId.toNat,
                       ip := if e.ip = 0 then h.sip.toNat else e.ip, udp := h.sport.toNat, mac := h.smac.toNat }

/-- Check a unicast message of a session, and go on with its entry (R599, R609, R611). -/
def State.sessionMsg (s : State) (p : Nat) (h : PtpHdr) (f : State → Nat → State) : State :=
  if h.auth.any fun a => decide (2 ≤ a.spp.toNat) then s.authFail p
  else match s.sessionOf p h with
    | none => s.noSession p
    | some i =>
      let e := s.tentOf i
      match h.auth with
      | none => f s i
      | some a =>
        let isB := e.a.id != a.keyId.toNat
        let k := if isB then e.b else e.a
        if !a.formOk || a.key.map BitVec.toNat != some k.key then
          (s.putTent i { e with authFail := satTo 65535 (e.authFail + 1) }).authFail p
        else if a.seqNo.toNat < k.rx then
          (s.putTent i { e with replay := satTo 65535 (e.replay + 1) }).replayed p
        else
          let k := { k with rx := a.seqNo.toNat + 1 }
          f (s.putTent i (if isB then { e with b := k } else { e with a := k })) i

/-- The group slot of a keyID (R608). -/
def State.groupSlot (s : State) (id : Nat) : Option Nat :=
  (List.range 8).find? fun n => s.on Fld.TSVC_GKEY_STAT_LOADED n && (s.groupOf n).id == id

/-- Whether a TLV of SPP 1 verifies (R606 to R608). -/
def State.groupOk (s : State) (a : AuthTlv) : Bool :=
  a.spp == 1 && a.formOk && (s.groupSlot a.keyId.toNat).any fun n => a.key.map BitVec.toNat == some (s.groupOf n).key

/-- Check a message under group keys, where `must` says that it must carry a TLV (R609). -/
def State.groupMsg (s : State) (p : Nat) (h : PtpHdr) (must : Bool) (f : State → State) : State :=
  match h.auth with
  | some a => if s.groupOk a then f s else s.authFail p
  | none => if must then s.authFail p else f s

/-! Delay_Req on a master port (R584, R588, R604). -/

/-- The Delay_Resp to a Delay_Req that has just arrived (R588). -/
def State.delayAnswer (s : State) (p : Nat) (h : PtpHdr) (log : Int) : PtpMsg :=
  let t := (s.rxStamp p).toNat
  .delayResp h.seqId.toNat (t / 65536) (h.corr.toInt - ((t % 65536 : Nat) : Int)) h.srcId.toNat log

/-- DELAY_REQ. -/
def execDelayReq (dt : Nat) (p : Fin 18) (h : PtpHdr) (s : State) : Res :=
  onMain dt s fun s =>
    s.ptpRequest p h fun s =>
      if h.multicast then
        s.groupMsg p h (s.on Fld.TSVC_PORT_CFG_AUTH p) fun s =>
          s.withinRate p fun s =>
            s.ptpSend p 54 (some (h.smac.toNat, h.sip.toNat, h.sport.toNat)) none (s.delayAnswer p h (-3)) .none
      else
        s.sessionMsg p h fun s i =>
          let g := (s.tentOf i).dr
          if g.on then (s.learnClient i h).ptpUni i 54 (s.delayAnswer p h g.log) else s.noSession p

/-! Grants (R600 to R604). -/

/-- A grant of an entry by messageType: 11 Announce, 0 Sync, 9 Delay_Resp. -/
def TEntry.grant (e : TEntry) (kind : Nat) : Grant := if kind = 11 then e.ann else if kind = 0 then e.syn else e.dr
def TEntry.setGrant (e : TEntry) (kind : Nat) (g : Grant) : TEntry :=
  if kind = 11 then { e with ann := g } else if kind = 0 then { e with syn := g } else { e with dr := g }

/-- The range of logInterval that a port grants (R600). -/
def State.grantRange (s : State) (p kind : Nat) : Int × Int :=
  if kind = 11 then (s.srd Fld.TSVC_NEG_CFG_ANN_MIN p, s.srd Fld.TSVC_NEG_CFG_ANN_MAX p)
  else if kind = 0 then (s.srd Fld.TSVC_NEG_CFG_SYNC_MIN p, s.srd Fld.TSVC_NEG_CFG_SYNC_MAX p)
  else (s.srd Fld.TSVC_NEG_CFG_DR_MIN p, s.srd Fld.TSVC_NEG_CFG_DR_MAX p)

/-- One request is granted or denied (R600, R601); the answer is its GRANT TLV. -/
def State.grantOne (s : State) (i : Nat) (q : UniReq) : State × (Nat × Int × Nat) :=
  let e := s.tentOf i
  let p := e.port
  let kind := q.kind.toNat
  let log := q.logInterval.toInt
  let deny := (s.putTent i { e with denied := satTo 65535 (e.denied + 1) }, (kind, log, 0))
  let r := s.grantRange p kind
  if (kind ≠ 11 ∧ kind ≠ 0 ∧ kind ≠ 9) ∨ log < r.1 ∨ r.2 < log ∨ q.duration.toNat < 10 then deny
  else
    let old := e.grant kind
    let twice := kind != 11
    let add := rateCost log twice
    if s.rd Fld.TSVC_NEG_LIM_PPS_LIM p * 1000 * 128 < s.ptpResv p - old.cost twice + add
        ∨ 16000000 * 128 < s.ptpResvAll - old.cost twice + add then deny
    else
      let dur := min q.duration.toNat (s.rd Fld.TSVC_NEG_LIM_MAX_DUR p)
      let expiry := (s.count + dur * 1000000000) % 2 ^ 64
      let first := (s.count + Config.firstDue (logNs log)) % 2 ^ 64
      let due := if old.on && old.log == log then old.due else first
      let g : Grant := ⟨log, true, old.seq, dur, expiry, due⟩
      (s.putTent i (e.setGrant kind g), (kind, log, dur))

/-- Answer requests in order. -/
def grantAll : State → Nat → List UniReq → State × List (Nat × Int × Nat)
  | s, _, [] => (s, [])
  | s, i, q :: qs =>
    let a := s.grantOne i q
    let b := grantAll a.1 i qs
    (b.1, a.2 :: b.2)

/-- REQUEST_UNICAST_TRANSMISSION: the requests of one Signaling message (R599, R600). -/
def execRequestUnicastTransmission (dt : Nat) (p : Fin 18) (h : PtpHdr) (reqs : List UniReq) (s : State) : Res :=
  onMain dt s fun s =>
    s.ptpRequest p h fun s =>
      if !s.on Fld.TSVC_PORT_CFG_UNICAST p then s
      else (s.tload 2).sessionMsg p h fun s i =>
        let r := grantAll (s.learnClient i h) i reqs
        r.1.ptpUni i (44 + 12 * reqs.length) (.grants r.2)

/-- End a grant: its reservation goes with it (R603). -/
def State.endGrant (s : State) (i kind : Nat) : State :=
  let e := s.tentOf i
  s.putTent i (e.setGrant kind { e.grant kind with on := false })

/-- End every grant of an entry without a message. -/
def State.endGrants (s : State) (i : Nat) : State := ((s.endGrant i 11).endGrant i 0).endGrant i 9

/-- CANCEL_UNICAST_TRANSMISSION (R603). -/
def execCancelUnicastTransmission (dt : Nat) (p : Fin 18) (h : PtpHdr) (kinds : List (BitVec 4)) (s : State) : Res :=
  onMain dt s fun s =>
    s.ptpRequest p h fun s =>
      if !s.on Fld.TSVC_PORT_CFG_UNICAST p then s
      else (s.tload 2).sessionMsg p h fun s i =>
        let ks := kinds.map BitVec.toNat
        let s := (s.learnClient i h).each (ks.filter fun k => k == 11 || k == 0 || k == 9) fun s k => s.endGrant i k
        s.ptpUni i (44 + 6 * ks.length) (.cancelAcks ks)

/-- GRANT_EXPIRE (R602). -/
def execGrantExpire (dt : Nat) (i : Fin 1048576) (kind : BitVec 4) (s : State) : Res :=
  onMain dt s fun s =>
    let g := (s.tentOf i).grant kind.toNat
    if g.on && reached s.count g.expiry then s.endGrant i kind.toNat else s

/-- GRANT_DUE (R604): a granted Announce, or with `sync` a granted Sync, is due; the next is due an interval later. -/
def execGrantDue (dt : Nat) (i : Fin 1048576) (sync : Bool) (s : State) : Res :=
  onMain dt s fun s =>
    let kind := if sync then 0 else 11
    let e := s.tentOf i
    let g := e.grant kind
    if g.on && reached s.count g.due then
      let g1 := { g with due := (g.due + logNs g.log) % 2 ^ 64 }
      if s.tsRun && s.ptpRole e.port == 1 then
        let s := s.putTent i (e.setGrant kind { g1 with seq := (g.seq + 1) % 65536 })
        if sync then s.ptpUni i 44 (.sync g.seq) (.sync (32 + i.val) g.seq)
        else s.ptpUni i 86 (.announce g.seq g.log s.announceData (s.tebTlv s.teb))
      else s.putTent i (e.setGrant kind g1)
    else s

/-! The session window (R596 to R598). -/

/-- The 24 bytes of a grant. -/
def Grant.bytes (g : Grant) : List Byte :=
  beBytes 1 (ofInt 8 g.log) ++ beBytes 1 (b2n g.on) ++ beBytes 2 g.seq ++ beBytes 4 g.dur ++ beBytes 8 g.expiry
    ++ beBytes 8 g.due

/-- The 256 bytes of an entry; a key reads as its key check value and zeros (log entry 50, DESIGN CHOICE). -/
def TEntry.bytes (e : TEntry) : List Byte :=
  let key := fun (k : TKey) => beBytes 4 k.id ++ beBytes 3 (Config.kcv k.key) ++ beBytes 29 0 ++ beBytes 4 k.tx
    ++ beBytes 4 k.rx
  beBytes 1 (b2n e.valid * 128 + b2n e.bind * 64 + b2n e.txB * 32 + e.port) ++ beBytes 1 e.domain
    ++ beBytes 1 (b2n e.auth) ++ beBytes 1 0 ++ beBytes 10 e.portId ++ beBytes 2 e.udp ++ beBytes 4 e.ip
    ++ beBytes 6 e.mac ++ beBytes 2 0 ++ key e.a ++ key e.b ++ e.ann.bytes ++ e.syn.bytes ++ e.dr.bytes
    ++ beBytes 2 e.authFail ++ beBytes 2 e.replay ++ beBytes 2 e.denied ++ beBytes 6 0 ++ beBytes 56 e.tag

/-- SESS_CMD.READ. -/
def State.sessRead (s : State) : State :=
  let bs := (s.tentOf (s.rd Fld.TSVC_SESS_SEL_INDEX 0)).bytes
  s.each (List.range 64) fun s w => s.wr Fld.TSVC_SESS_DATA_DATA w (beAt bs (4 * w) 4)

/-- The bytes of the window. -/
def State.sessWindow (s : State) : List Byte :=
  (List.range 64).flatMap fun w => beBytes 4 (s.rd Fld.TSVC_SESS_DATA_DATA w)

/-- SESS_CMD.WRITE with its WR_KEY bits (R597, R598). -/
def State.sessWrite (s : State) (keyA keyB : Bool) : Status × State :=
  let i := s.rd Fld.TSVC_SESS_SEL_INDEX 0
  let e := s.tentOf i
  let w := s.sessWindow
  let b0 := beAt w 0 1
  let key := fun (off : Nat) => ({ id := beAt w off 4, key := beAt w (off + 4) 32 } : TKey)
  let bind := bitOf b0 6
  let n : TEntry := { e with
    valid := bitOf b0 7, bind := bind, txB := bitOf b0 5, port := b0 % 32, domain := beAt w 1 1, auth := bitOf (beAt w 2 1) 0,
    portId := if bind then beAt w 4 10 else e.portId, ip := beAt w 16 4,
    a := if keyA then key 28 else e.a, b := if keyB then key 72 else e.b, tag := beAt w 200 56 }
  if e.anyGrant && ((if e.txB then keyB else keyA) || n.port != e.port || n.domain != e.domain || n.auth != e.auth
      || n.bind != e.bind || (e.bind && n.portId != e.portId)) then (.errBusy, s)
  else (.ok, s.putTent i n)

/-- An entry becomes invalid and its grants end without a message: SESS_CMD.INVALIDATE, and an uncorrectable error of the
entry (06_cask R304). -/
def State.sessInvalidate (s : State) (i : Nat) : State :=
  (s.endGrants i).putTent i { (s.endGrants i).tentOf i with valid := false }

/-! Keys (R613, R625). -/

/-- The staged key, KEY_STAGE_0 to KEY_STAGE_7. -/
def State.keyStaged (s : State) : Nat :=
  beNat ((List.range 8).flatMap fun w => beBytes 4 (s.rd Fld.TSVC_KEY_STAGE_DATA w))

/-- KEY_LOAD.GO (R613). -/
def State.keyLoad (s : State) : Status × State :=
  let slot := s.rd Fld.TSVC_KEY_LOAD_SLOT 0
  let nts := s.on Fld.TSVC_KEY_LOAD_TARGET 0
  let id := s.rd Fld.TSVC_KEY_ID_ID 0
  let key := s.keyStaged
  let clear := fun (s : State) => s.each (List.range 8) fun s w => s.wr Fld.TSVC_KEY_STAGE_DATA w 0
  if nts then
    if 4 ≤ slot then (.errAccess, s)
    else if s.on Fld.TSVC_NTS_MKEY_STAT_ISSUE slot then (.errBusy, s)
    else
      let s := s.onTsvc fun t => { t with nts := tput 0 t.nts slot key }
      (.ok, clear ((s.wr Fld.TSVC_NTS_MKEY_ID_ID slot id).wr Fld.TSVC_NTS_MKEY_STAT_KCV slot (Config.kcv key)))
  else if (List.range 18).any fun p => s.ptpRole p != 0 && s.rd Fld.TSVC_PORT_CFG_GKEY p == slot then (.errBusy, s)
  else
    let s := ((s.putGroup slot { id := id, key := key }).wr Fld.TSVC_GKEY_ID_ID slot id).wr Fld.TSVC_GKEY_STAT_KCV slot
      (Config.kcv key)
    (.ok, clear (s.flag Fld.TSVC_GKEY_STAT_LOADED slot true))

/-- Whether an enabled slot is marked ISSUE. -/
def State.ntsIssue (s : State) : Option Nat :=
  (List.range 4).find? fun m => s.on Fld.TSVC_NTS_MKEY_STAT_EN m && s.on Fld.TSVC_NTS_MKEY_STAT_ISSUE m

/-- A write of NTS_MKEY_STAT (R625): marking a slot ISSUE takes the mark from the others. -/
def State.ntsMkeyWrite (s : State) (m : Nat) (en issue : Bool) : Status × State :=
  let t := (s.flag Fld.TSVC_NTS_MKEY_STAT_EN m en).flag Fld.TSVC_NTS_MKEY_STAT_ISSUE m issue
  let t := if issue && en then
      t.each ((List.range 4).filter fun x => x != m) fun t x => t.flag Fld.TSVC_NTS_MKEY_STAT_ISSUE x false
    else t
  if s.on Fld.TSVC_NTP_CFG_NTS_EN 0 && t.ntsIssue.isNone then (.errAccess, s) else (.ok, t)

/-! Client ports (R615 to R617). -/

/-- A client port's state, PORT_STAT.STATE: 1 LISTENING, 3 UNCALIBRATED, 4 SLAVE; its candidate follows it (10_kiln
R483). -/
def State.clientGo (s : State) (p st : Nat) : State :=
  (s.wr Fld.TSVC_PORT_STAT_STATE p st).refThere (5 + p) (st == 4)

/-- A client port returns to LISTENING (R616). -/
def State.clientListen (s : State) (p : Nat) : State :=
  let c := s.clientOf p
  (s.putClient p { c with best := none, sync := none, cur := none, req := none, delays := [], good := 0 }).clientGo p 1

/-- Lexicographic order of lists of numbers. -/
def lexLess : List Nat → List Nat → Bool
  | a :: as, b :: bs => decide (a < b) || (a == b && lexLess as bs)
  | _, _ => false

/-- Whether one foreign master is better than another: dataset comparison of IEEE 1588-2019, 9.3.4 (log entry 49, PRESUMED). -/
def Foreign.better (f g : Foreign) : Bool :=
  if f.data.gmId = g.data.gmId then lexLess [f.data.steps.toNat, f.id] [g.data.steps.toNat, g.id]
  else
    let key := fun (x : AnnData) => [x.priority1.toNat, x.clockClass.toNat, x.accuracy.toNat, x.variance.toNat,
      x.priority2.toNat, x.gmId.toNat]
    lexLess (key f.data) (key g.data)

/-- The best of the foreign masters. -/
def bestForeign : List Foreign → Option Foreign
  | [] => none
  | f :: fs =>
    match bestForeign fs with
    | some g => if g.better f then some g else some f
    | none => some f

/-- A client port follows the best master (R615, R616). -/
def State.clientChoose (s : State) (p : Nat) : State :=
  let c := s.clientOf p
  match bestForeign c.foreign with
  | none => if c.best.isSome then s.clientListen p else s
  | some f =>
    if c.best = some f.id then s
    else
      let c := { c with best := some f.id, sync := none, cur := none, req := none, delays := [], good := 0, doneAt := s.up }
      (s.putClient p c).clientGo p 3

/-- The checks of a message that reaches a client port (R609, R611): the key's sequenceNo runs for each foreign master. -/
def State.clientMsg (s : State) (p : Nat) (h : PtpHdr) (f : State → State) : State :=
  s.ptpClient p h fun s =>
    s.groupMsg p h (s.on Fld.TSVC_PORT_CFG_AUTH p) fun s =>
      let c := s.clientOf p
      match h.auth, c.foreign.find? fun g => g.id == h.srcId.toNat with
      | some a, some g =>
        if a.seqNo.toNat < g.rx then s.replayed p
        else f (s.putClient p { c with foreign := c.foreign.map fun x =>
          if x.id = g.id then { x with rx := a.seqNo.toNat + 1 } else x })
      | _, _ => f s

/-- ANNOUNCE (R615, R616; 10_kiln R525): `log` is its logMessageInterval. -/
def execAnnounce (dt : Nat) (p : Fin 18) (h : PtpHdr) (log : BitVec 8) (data : AnnData) (s : State) : Res :=
  onMain dt s fun s =>
    if !h.multicast then s.ptpClient p h fun s => s.noSession p
    else s.clientMsg p h fun s =>
      let c := s.clientOf p
      let id := h.srcId.toNat
      let others := c.foreign.filter fun g => g.id != id
      let fit := data.clockClass.toNat ≤ s.rd Fld.TSVC_PORT_CFG_ACC_CLASS p && decide (data.steps.toNat < 255)
        && data.gmId.toNat != s.rd Fld.TSVC_CLOCK_ID_ID 0
      let live := others.filter fun g => c.best == some g.id || decide (s.up < g.at_ + 3 * ns (logNs g.log))
      let rx := match h.auth with
        | some a => a.seqNo.toNat + 1
        | none => 0
      let list := if fit then
          (if live.length < 4 then live ++ [⟨id, data, log.toInt, s.up, rx⟩] else live)
        else others
      let s := (s.putClient p { c with foreign := list }).clientChoose p
      let c := s.clientOf p
      if c.best = some id ∧ s.rd Fld.KILN_STAT_SELECTED 0 = 5 + p.val ∧ data.utcValid then
        (s.onKiln fun k => { k with
          utcPtp := some (data.utcOffset.toNat % 256 + b2n data.leap59 * 256 + b2n data.leap61 * 512) }).utcSettle
      else s

/-- SYNC (R617): `two` says two-step; `seconds` and `nanos` are the originTimestamp. -/
def execSync (dt : Nat) (p : Fin 18) (h : PtpHdr) (two : Bool) (seconds : BitVec 48) (nanos : BitVec 32) (s : State) : Res :=
  onMain dt s fun s =>
    if !h.multicast then s.ptpClient p h fun s => s.noSession p
    else s.clientMsg p h fun s =>
      let c := s.clientOf p
      if c.best ≠ some h.srcId.toNat then s
      else if two then s.putClient p { c with sync := some (h.seqId.toNat, s.rxStamp p, h.corr.toInt) }
      else
        let t1 := ((sec seconds.toNat + ns nanos.toNat : Nat) : Int) + h.corr.toInt
        s.putClient p { c with sync := none, cur := some (t1, s.rxStamp p, none) }

/-- FOLLOW_UP (R617): the preciseOriginTimestamp, and the TEB TLVs that it carries. -/
def execFollowUp (dt : Nat) (p : Fin 18) (h : PtpHdr) (seconds : BitVec 48) (nanos : BitVec 32) (tebs : List TebTlv)
    (s : State) : Res :=
  onMain dt s fun s =>
    if !h.multicast then s.ptpClient p h fun s => s.noSession p
    else s.clientMsg p h fun s =>
      let c := s.clientOf p
      match c.sync with
      | some (seq, t2, corr) =>
        if c.best = some h.srcId.toNat ∧ seq = h.seqId.toNat then
          let t1 := ((sec seconds.toNat + ns nanos.toNat : Nat) : Int) + corr + h.corr.toInt
          let teb := (tebs.find? fun t => t.org.toNat == s.rd Fld.TSVC_ORG_ID_ORG_ID 0).map fun t => t.teb.toNat
          s.putClient p { c with sync := none, cur := some (t1, t2, teb) }
        else s
      | none => s

/-- CLIENT_DELAY_REQ_TX (R616): a Delay_Req whose predecessor is unanswered breaks the row of completed exchanges (log entry
156, DEDUCED). -/
def execClientDelayReqTx (dt : Nat) (p : Fin 18) (s : State) : Res :=
  onMain dt s fun s =>
    let c := s.clientOf p
    if s.ptpRole p == 2 && 3 ≤ s.rd Fld.TSVC_PORT_STAT_STATE p && s.elapsed c.reqAt (logNs c.reqLog) then
      (s.putClient p { c with reqAt := some s.up, reqSeq := (c.reqSeq + 1) % 65536,
                              good := if c.req.isSome then 0 else c.good }).ptpMulti p 44 (.delayReq c.reqSeq)
        (.delayReq c.reqSeq)
    else s

/-- DELAY_RESP (R616, R617): an exchange is completed; the eighth in a row makes the port SLAVE, and in SLAVE its Sync
measures candidate 5 + p. -/
def execDelayResp (dt : Nat) (p : Fin 18) (h : PtpHdr) (log : BitVec 8) (requester : BitVec 80) (seconds : BitVec 48)
    (nanos : BitVec 32) (s : State) : Res :=
  onMain dt s fun s =>
    s.clientMsg p h fun s =>
      let c := s.clientOf p
      let mine := decide (c.best = some h.srcId.toNat) && requester.toNat == s.portIdentity p
      let c := if mine then { c with reqLog := log.toInt } else c
      match c.req, c.cur with
      | some (seq, t3), some (t1, t2, teb) =>
        if mine = true ∧ seq = h.seqId.toNat then
          let t4 := ((sec seconds.toNat + ns nanos.toNat : Nat) : Int) - h.corr.toInt
          let delays := (((t2 - t1) + (t4 - t3)) :: c.delays).take 16
          let good := c.good + 1
          let s := s.putClient p { c with req := none, cur := none, delays := delays, good := good, doneAt := s.up }
          let s := if 8 ≤ good ∧ s.rd Fld.TSVC_PORT_STAT_STATE p = 3 then s.clientGo p 4 else s
          if s.rd Fld.TSVC_PORT_STAT_STATE p = 4 then
            let mean := delays.sum / (2 * (delays.length : Int))
            s.refMeasure (5 + p) (t1 + mean - t2) none (teb.getD (s.rd Fld.KILN_REF_ACC_ACC (5 + p)))
          else s
        else s.putClient p c
      | _, _ => s.putClient p c

/-- ANNOUNCE_RECEIPT_TIMEOUT (R616): its master's record goes with it. -/
def execAnnounceReceiptTimeout (dt : Nat) (p : Fin 18) (s : State) : Res :=
  onMain dt s fun s =>
    let c := s.clientOf p
    match c.master with
    | some f =>
      if f.at_ + 3 * ns (logNs f.log) ≤ s.up then
        (s.putClient p { c with foreign := c.foreign.filter fun g => g.id != f.id }).clientListen p
      else s
    | none => s

/-- EXCHANGE_TIMEOUT (R616). -/
def execExchangeTimeout (dt : Nat) (p : Fin 18) (s : State) : Res :=
  onMain dt s fun s =>
    let c := s.clientOf p
    if 3 ≤ s.rd Fld.TSVC_PORT_STAT_STATE p ∧ c.doneAt + sec 1 ≤ s.up then s.clientListen p else s

/-- A write of PORT_CFG.ROLE (R579, R603, R615). -/
def State.roleWrite (s : State) (p role : Nat) : State :=
  let was := s.ptpRole p
  if was = role then s
  else
    let s := s.wr Fld.TSVC_PORT_CFG_ROLE p role
    let s := if role = 0 then
        s.each ((s.tsvc.sess.filter fun q => q.2.port == p).map fun q => q.1) State.endGrants
      else s
    let s := if was = 2 then
        ((s.putClient p {}).clientGo p 0).igmpSend p ptpGroup 0 false
      else s
    if role = 2 then (s.clientGo p 1).igmpSend p ptpGroup 0 true else s

/-! NTP and NTS (R618 to R624). -/

/-- A Kiln time as an NTP timestamp (R620). -/
def State.ntpTime (s : State) (t : Nat) : Nat :=
  let seconds := (t / sec 1 + 2208988800 + 2 ^ 32 - s.rd Fld.KILN_UTC_UTC_OFFSET 0) % 2 ^ 32
  seconds * 2 ^ 32 + t % sec 1 * 2 ^ 32 / sec 1

/-- Whether the device is unsynchronised to its NTP clients (R618). -/
def State.unsynced (s : State) : Bool := !s.traceable || s.on Fld.KILN_STAT_HO_EXPIRED 0

/-- Four letters as a reference ID. -/
def refText (t : String) : Nat := (t.toList.map Char.toNat).foldl (fun a c => a * 256 + c) 0 * 256 ^ (4 - t.length)

/-- The reference ID (R618). -/
def State.ntpRef (s : State) : Nat :=
  let k := s.rd Fld.KILN_STAT_SELECTED 0
  if s.unsynced then refText "FREE"
  else if s.kilnState = 2 then
    refText (if k = 0 then "GNSS" else if k ≤ 4 then "PPS" else if k ≤ 22 then "PTP" else if k = 43 then "TWIN" else "VREF")
  else refText "HOLD"

/-- The reference timestamp (R618): the rule gives it in LOCKED with a measurement and in HOLDOVER; elsewhere it is a free
value. -/
def State.ntpRefTime (s : State) : Nat × State :=
  match s.kilnState, (s.refOf (s.rd Fld.KILN_STAT_SELECTED 0)).meas with
  | 2, some t => (s.ntpTime t, s)
  | 4, _ => (s.ntpTime s.kiln.enterAt, s)
  | _, _ => let f := s.fresh 2; (f.1 % 2 ^ 64, f.2)

/-- The response to a request that arrived now and is sealed `turn` ticks later (R618, R619). -/
def State.ntpReply (s : State) (p : Nat) (r : NtpReq) (turn : Nat) : NtpReply × State :=
  let u := s.unsynced
  let ref := s.ntpRefTime
  let disp := s.teb + s.rd Fld.TSVC_CFG_PORT_UNC 0 + 20000
  ({ li := if u then 3 else if s.on Fld.KILN_UTC_LEAP61 0 then 1 else if s.on Fld.KILN_UTC_LEAP59 0 then 2 else 0,
     vn := r.version.toNat, stratum := if u then 16 else 1, poll := r.poll.toNat, precision := -31, rootDelay := 0,
     rootDisp := if s.teb = 2 ^ 32 - 1 then 2 ^ 32 - 1
       else satTo (2 ^ 32 - 1) ((disp * 65536 + 999999999) / 1000000000),
     refId := s.ntpRef, refTime := ref.1, origin := r.xmt.toNat, receive := s.ntpTime (s.rxStamp p).toNat,
     transmit := s.ntpTime (s.now + turn) }, ref.2)

/-- A request on a port that serves NTP (R581, R618). -/
def State.ntpRequest (s : State) (p : Nat) (r : NtpReq) (accept : State → Bool) (f : State → State) : State :=
  s.rxFrame p r.len fun s =>
    if !s.tsRun then (s.tload 1).bump Fld.TSVC_CNT_NOT_RUN_CNT p 1
    else if s.on Fld.TSVC_PORT_CFG_NTP_EN p && r.mode == 3 && r.dip.toNat == tget 0 s.eth.ip p && accept s then
      s.withinRate p f
    else (s.tload 1).ptpFilter p

/-- NTP_REQUEST: a request without NTS. -/
def execNtpRequest (dt : Nat) (p : Fin 18) (r : NtpReq) (turn : Nat) (s : State) : Res :=
  onMain dt s fun s =>
    s.ntpRequest p r (fun s => s.on Fld.TSVC_NTP_CFG_PLAIN_EN 0 && (r.version == 3 || r.version == 4)) fun s =>
      let a := s.ntpReply p r turn
      a.2.txFrame p (48 + udpFrame) (.ntp p r.sip.toNat r.sport.toNat a.1)

/-- A length padded to 4 octets. -/
def pad4 (n : Nat) : Nat := (n + 3) / 4 * 4

/-- The octets of an NTS response with `n` cookies, around a Unique Identifier of `u` bytes (R621, R624; the extension
fields of RFC 8915, log entry 49, PRESUMED). -/
def ntsLen (u n : Nat) : Nat := 48 + pad4 (4 + u) + (24 + 16 + 108 * n)

/-- How many cookies a response carries: no more than fit into the request's length (R624). -/
def ntsFit (u limit : Nat) : Nat → Nat
  | 0 => 0
  | n + 1 => if ntsLen u (n + 1) ≤ limit then n + 1 else ntsFit u limit n

/-- Whether the fields of an NTS request are in order (R622). -/
def NtsFields.wf (x : NtsFields) : Bool :=
  x.uids.length == 1 && x.uids.all (fun u => decide (32 ≤ u.length)) && x.cookies.length == 1 && decide (x.placeholders ≤ 7)
    && x.authLast

/-- Whether a request's cookie and Authenticator verify (R623). -/
def State.ntsOk (s : State) (x : NtsFields) (c : NtsCookie) : Bool :=
  ((List.range 4).any fun m => s.on Fld.TSVC_NTS_MKEY_STAT_EN m && s.rd Fld.TSVC_NTS_MKEY_ID_ID m == c.keyId.toNat
    && c.key.map BitVec.toNat == some (tget 0 s.tsvc.nts m))
  && c.aead == 15 && x.authKey == some c.c2s

/-- NTS_REQUEST (R622 to R624). -/
def execNtsRequest (dt : Nat) (p : Fin 18) (r : NtpReq) (x : NtsFields) (turn : Nat) (s : State) : Res :=
  onMain dt s fun s =>
    let ok := fun (s : State) => s.on Fld.TSVC_NTP_CFG_NTS_EN 0 && r.version == 4 && x.wf
    s.ntpRequest p r ok fun s =>
      let a := s.ntpReply p r turn
      let uid := x.uids.headD []
      match x.cookies.head? with
      | none => s
      | some c =>
        if s.ntsOk x c then
          let id := match s.ntsIssue with
            | some m => s.rd Fld.TSVC_NTS_MKEY_ID_ID m
            | none => 0
          let n := ntsFit uid.length (r.len - udpFrame) (1 + x.placeholders)
          let reply := { a.1 with uid := some uid, cookies := List.replicate n id, sealedBy := some c.s2c.toNat }
          a.2.txFrame p (ntsLen uid.length n + udpFrame) (.ntp p r.sip.toNat r.sport.toNat reply)
        else
          let reply := { a.1 with li := 3, stratum := 0, refId := refText "NTSN", uid := some uid }
          (a.2.bump Fld.TSVC_CNT_NTS_NAK_CNT p 1).txFrame p (48 + pad4 (4 + uid.length) + udpFrame)
            (.ntp p r.sip.toNat r.sport.toNat reply)

/-- LEAP_SECOND (R620): at the start of an inserted second the offset in force grows by 1 s and the flags clear. -/
def execLeapSecond (dt : Nat) (s : State) : Res :=
  onKeep dt s fun s =>
    let off := s.rd Fld.KILN_UTC_UTC_OFFSET 0
    if s.on Fld.KILN_STAT_TIME_VALID 0 && s.on Fld.KILN_UTC_LEAP61 0 && (s.second + 86400 - off) % 86400 == 0 then
      let v := (off + 1) % 256
      (s.onKiln fun k =>
        match s.rd Fld.KILN_UTC_SRC 0 with
        | 3 => { k with utcGnss := some v }
        | 2 => { k with utcPtp := some v }
        | 1 => { k with utcHost := some v }
        | _ => { k with utcImage := v }).utcSettle
    else s

/-! Injected frames and the TX timestamp queues (R626 to R629). -/

/-- INJECT_CTL.GO. -/
def State.inject (s : State) : Status × State :=
  if s.tsvc.inj.isSome then (.errBusy, s)
  else
    let j : InjectS := {
      port := s.rd Fld.TSVC_INJECT_CTL_PORT 0, queue := s.rd Fld.TSVC_INJECT_CTL_QUEUE 0, len := s.rd Fld.TSVC_INJECT_CTL_LEN 0,
      ts := s.on Fld.TSVC_INJECT_CTL_TS_REQ 0, id := s.rd Fld.TSVC_INJECT_ID_ID 0, addr := s.rd Fld.TSVC_INJECT_ADDR_ADDR 0 }
    (.ok, (s.onTsvc fun t => { t with inj := some j }).flag Fld.TSVC_INJECT_CTL_GO 0 true)

/-- INJECTED_FRAME_SENT (R626, R627): the frame is taken from region 4 of Cask and leaves its port, or the port cannot send
it. -/
def execInjectedFrameSent (dt : Nat) (s : State) : Res :=
  onMain dt s fun s =>
    match s.tsvc.inj with
    | none => s
    | some j =>
      let s := (s.onTsvc fun t => { t with inj := none }).flag Fld.TSVC_INJECT_CTL_GO 0 false
      s.txMarked j.port (j.len + 4) (.injected j.port j.queue (s.bytesAt (caskAddr j.addr) j.len))
        (if j.ts then .inject j.id else .none)

/-- A read of TXTS_pp_0 (R628): the word it returns, and the time it latches. -/
def State.txtsRead (s : State) (p : Nat) : Nat × State :=
  let r := s.tportOf p
  match r.txts with
  | [] => (2 ^ 31, s)
  | (id, dropped, t) :: rest =>
    let s := s.putTport p { r with txts := rest }
    let s := (s.wr Fld.TSVC_TXTS_1_NS p (t % sec 1 / 65536)).wr Fld.TSVC_TXTS_2_SEC p (t / sec 1)
    (b2n dropped * 2 ^ 30 + id,
      (s.wr Fld.TSVC_TXTS_3_SEC_HI p (t / sec 1 / 2 ^ 32)).wr Fld.TSVC_TXTS_3_FRAC p (t % 65536))

end Sys2Proof.Machine
end

