-- ==== Sys2Proof/Machine/Cask.lean ====
section
/-! DEFINITION. Cask's error handling (06_cask_frame_store R302 to R308): corrected and uncorrectable errors, and page
retirement. -/

set_option autoImplicit false

namespace Sys2Proof.Machine

/-- Whether a page was retired or is being copied. -/
def State.pageGone (s : State) (page : Nat) : Bool :=
  s.cask.retired.any (·.1 == page) || s.cask.copying.any (·.1 == page)

/-- Retire a page while a spare remains (R305, R308): its content is copied, and the word at `word` - 1, if any, becomes
zero. -/
def State.retirePage (s : State) (page word : Nat) : State :=
  if s.pageGone page || s.rd Fld.CASK_SPARE_STAT_SPARES_LEFT 0 ≤ s.cask.copying.length then s
  else s.onCask fun c => { c with copying := c.copying ++ [(page, word)] }

/-- CASK_CORRECTED_ERROR (R302, R303). -/
def execCaskCorrectedError (dt : Nat) (page : Fin 1572864) (s : State) : Res :=
  onMain dt s fun s =>
    let s := (s.onMntl fun z => { z with ce := s.mntl.ce + 1 }).bump Fld.CASK_CNT_CE_CNT 0 1
    let day := 86400 * sec 1
    let l := s.up :: (tget [] s.cask.ce page.val).filter fun t => decide (s.up < t + day)
    let limit := s.rd Fld.CASK_ECC_CTL_CE_LIMIT 0
    let s := s.onCask fun c => { c with ce := tput [] c.ce page.val (l.take 255) }
    if limit ≠ 0 ∧ limit ≤ l.length then s.retirePage page 0 else s

/-- The effect of an uncorrectable error by region (R304). -/
def State.ueEffect (s : State) : UeAt → State
  | .ring k slot field line =>
    let r := s.srcOf k
    s.putSrc k { r with slots := r.slots.map fun q =>
      if q.1 = slot then (q.1, { q.2 with bad := (b2n field * 4096 + line) :: q.2.bad, complete := false }) else q }
  | .proxy k slot line block =>
    let r := s.srcOf k
    s.putSrc k { r with proxies := r.proxies.map fun q =>
      if q.1 = slot then (q.1, { q.2 with bad := (2 ^ 24 + line * 64 + block) :: q.2.bad }) else q }
  | .audio pos first n =>
    let l := (s.histOf pos).zipIdx.map fun q => if first ≤ q.2 && q.2 < first + n then 0 else q.1
    s.onMash fun z => { z with hist := tput [] s.mash.hist pos.val l }
  | .session i => s.sessInvalidate i
  | .surface h off =>
    let o := off.toNat / 64 * 64
    (s.clearBytes (surfAddr h o) 64).event 6 0x0601 0 (beBytes 2 h.val ++ beBytes 4 o)
  | .hopper _ => s
  | .unused => s

/-- CASK_UNCORRECTABLE_ERROR (R304, R308). -/
def execCaskUncorrectableError (dt : Nat) (page : Fin 1572864) (at_ : UeAt) (s : State) : Res :=
  onMain dt s fun s =>
    let s := ((s.ueSeen.bump Fld.CASK_CNT_UE_CNT 0 1).ueEffect at_).raise 128 0 0
    let s := if s.rd Fld.CASK_SPARE_STAT_SPARES_LEFT 0 ≤ s.cask.copying.length && !s.pageGone page then s.raise 131 0 0 else s
    s.retirePage page (match at_ with
      | .hopper a => a / 8 * 8 + 1
      | _ => 0)

/-- PAGE_RETIRE_DONE (R305 to R307). -/
def execPageRetireDone (dt : Nat) (page : Fin 1572864) (s : State) : Res :=
  onMain dt s fun s =>
    match s.cask.copying.find? fun q => q.1 == page.val with
    | none => s
    | some q =>
      let left := s.rd Fld.CASK_SPARE_STAT_SPARES_LEFT 0
      let s := s.onCask fun c => { c with
        copying := c.copying.filter fun x => x.1 != page.val
        retired := tinsert c.retired page.val (16384 - left)
        ce := terase c.ce page.val }
      let s := if q.2 = 0 then s else s.clearBytes (q.2 - 1) 8
      let s := (s.wr Fld.CASK_SPARE_STAT_SPARES_LEFT 0 (left - 1)).bump Fld.CASK_CNT_RETIRED_CNT 0 1
      let s := (s.flag Fld.CASK_SPARE_STAT_LOW 0 (decide (left - 1 < 820))).raise 129 0 0
      s.cond 130 0 (decide (left - 1 < 820))

end Sys2Proof.Machine
end

