-- ==== Sys2Proof/Machine/Ports.lean ====
section
/-! DEFINITION. TDM and MADI audio ports (09_audio_ports R431 to R463): start and stop, frame syncs with slot masks and
samples, follow masters, and faults of their external clocks. -/

set_option autoImplicit false

namespace Sys2Proof.Machine

/-- Slots or channels of a port's frame (R431, R435). -/
def State.portSlots (s : State) (p : Nat) : Nat :=
  if p < 16 then 2 * 2 ^ s.rd Fld.APRT_TDM_FMT_SLOTS p
  else (if s.on Fld.APRT_PORT_CTL_CH64 p then 64 else 56) / (if s.on Fld.MASH_CFG_RATE 0 then 2 else 1)

/-- Whether a port takes an external clock: a slave TDM port or a MADI receiver (R446). -/
def State.portExt (s : State) (p : Nat) : Bool := 16 ≤ p || s.rd Fld.APRT_PORT_CTL_CLK_MODE p == 0

/-- Whether a port drives its own frames: it need not wait for a clock (R453). -/
def State.portMaster (s : State) (p : Nat) : Bool := s.rd Fld.APRT_PORT_CTL_CLK_MODE p != 0

def State.portState (s : State) (p : Nat) : Nat := s.rd Fld.APRT_PORT_STAT_STATE p
def State.putPortState (s : State) (p v : Nat) : State := s.wr Fld.APRT_PORT_STAT_STATE p v

/-- The receive positions of a port deliver zeros. -/
def State.portSilent (s : State) (p : Nat) : State := s.each (s.portChans p) fun s pos => s.putInq pos []

/-- The port begins its pre-roll; a master starts its clocks (R453). -/
def State.portPreroll (s : State) (p : Nat) : State :=
  let r := s.portOf p
  let s := if s.portMaster p then s.emit (.portClock p true) else s
  (s.putPort p { r with frames := 0, again := false, glitch := false, flow := false, slip := none, buf := [], ptr := 0,
                        refill := true, fslip := none }).putPortState p 1

/-- EN is written with 1 (R453, R456). -/
def State.portStart (s : State) (p : Nat) : State :=
  match s.portState p with
  | 0 => s.portPreroll p
  | 3 => s.putPort p { s.portOf p with again := true }
  | _ => s

/-- The port is STOPPED (R454): its staged mask and entries are in force at once (R444, R868); EN written with 1
meanwhile starts it anew (R456). -/
def State.portStopped (s : State) (p : Nat) : State :=
  let r := s.portOf p
  let again := r.again
  let r := { r with frames := 0, again := false, buf := [], flow := false, slip := none, fslip := none }
  let s := if s.portMaster p then s.emit (.portClock p false) else s
  let s := (((s.portSilent p).putPort p r).putPortState p 0).wr Fld.APRT_PORT_STAT_FILL p 0
  let s := ((s.lower 224 p).lower 225 p).takeStopped .aport p
  if again then s.portPreroll p else s

/-- EN is written with 0 (R454, R456, R461): a port that has no frames stops at once. -/
def State.portStop (s : State) (p : Nat) : State :=
  match s.portState p with
  | 0 => s
  | 3 => s.putPort p { s.portOf p with again := false }
  | 4 => s.portStopped p
  | _ => ((s.portSilent p).putPort p { s.portOf p with frames := 0 }).putPortState p 3

/-- PREROLL_DONE (R453): PREROLL_N frames have passed. -/
def execPrerollDone (dt : Nat) (p : Fin 24) (s : State) : Res :=
  onMain dt s fun s =>
    if s.portState p = 1 ∧ s.rd Fld.APRT_PORT_CTL_PREROLL_N p ≤ (s.portOf p).frames then s.putPortState p 2 else s

/-- STOP_DONE (R454): PREROLL_N frames of STOPPING have passed. -/
def execStopDone (dt : Nat) (p : Fin 24) (s : State) : Res :=
  onMain dt s fun s =>
    if s.portState p = 3 ∧ s.rd Fld.APRT_PORT_CTL_PREROLL_N p ≤ (s.portOf p).frames then s.portStopped p else s

/-! Frame syncs. -/

/-- Two bit clocks in ticks: the guard interval of R441. -/
def State.portGuard (s : State) (p : Nat) : Nat :=
  if p < 16 then 2 * sec 1 / (s.portSlots p * 32 * s.fs) else ns 16

/-- The mask and entries that are due at a frame sync take effect (R441, R445). A fence that stood when the guard began
turns an entry away; an all-or-none entry applies (01_architecture R31, R33). -/
def State.portBoundary (s : State) (p : Nat) : State :=
  let g := fine (s.now - s.portGuard p)
  let b := fine s.now
  let s := s.markLate .aport p g b
  let fenced := s.fencedAgo .aport p (s.portGuard p)
  ((s.waiting .aport p).filter (s.due g b)).foldl (fun s c =>
    if c.src.isSome && !c.allOrNone && fenced then s.finish c 3 1 else (s.install c).finish c c.okStatus 0) s

/-- The sample of a received TDM slot: its first 24 bits (R433). -/
def tdmSample (w : BitVec 32) : Int := sval 24 (w.toNat / 256)

/-- Whether the parity of a received MADI subframe, bits 4 to 31, is even, and its audio bits (R436). -/
def madiOk (w : BitVec 32) : Bool := popcount (w.toNat / 16) 28 % 2 == 0
def madiSample (w : BitVec 32) : Int := sval 24 (w.toNat / 16 % 2 ^ 24)

/-- The samples that a port receives: enabled slots in ascending order (R440), a MADI subframe whose parity fails being
zero and counted (R436). -/
def State.portRx (s : State) (p : Nat) (rx : List (BitVec 32)) : State :=
  let slots := (List.range (s.portSlots p)).filter fun i => bitOf (s.portMask p) i
  let bad := if p < 16 then [] else (rx.take (s.portSlots p)).filter fun w => !madiOk w
  let s := if bad.isEmpty then s else (s.bump Fld.APRT_CNT_PARITY_CNT p bad.length).raise 226 p 0
  let row := slots.map fun i =>
    let w := rx.getD i 0
    if p < 16 then tdmSample w else if madiOk w then madiSample w else 0
  let s := s.each (row.zipIdx.map fun q => q.2) fun s i =>
    let pos := s.rd Fld.APRT_BIND_RX_BASE p + i
    s.putInq pos (s.inqOf pos ++ [row.getD i 0])
  s.feed 0 p row

/-- The sample of an enabled slot from the row of enabled slots (R440). -/
def State.slotOf (s : State) (p : Nat) (row : List Int) (i : Nat) : Option Int :=
  if bitOf (s.portMask p) i then some (row.getD (popcount (s.portMask p) i) 0) else none

/-- The bits of DOUT in a frame, slot by slot (R433, R434): a disabled slot is driven as 0, or not at all. -/
def State.tdmBits (s : State) (p : Nat) (row : List Int) : List (Option Bool) :=
  (List.range (s.portSlots p)).flatMap fun i =>
    match s.slotOf p row i with
    | some x => (natBits 32 (ofInt 24 x * 256)).map some
    | none => List.replicate 32 (if s.on Fld.APRT_TDM_FMT_TRISTATE p then none else some false)

/-- A frame of a TDM port (R434): with DELAY 1 the last bit of the frame before is still on the line when frame sync becomes active. -/
def State.tdmFrame (s : State) (p : Nat) (off : Bool) (row : List Int) : Output :=
  let bits := if off then List.replicate (s.portSlots p * 32) none else s.tdmBits p row
  let n := bits.length
  let dout := if s.on Fld.APRT_TDM_FMT_DELAY p then bits.drop (n - 1) ++ bits.take (n - 1) else bits
  let width := if s.on Fld.APRT_TDM_FMT_FS_WIDTH p then n / 2 else 1
  let fs := (List.range n).map fun i => decide (i < width) != s.on Fld.APRT_TDM_FMT_FS_POL p
  .tdmFrame p (if s.portMaster p then some fs else none) dout (s.on Fld.APRT_TDM_FMT_EDGE p)

/-- The 4B5B code of a nibble (AES10; log entry 151, PRESUMED). -/
def code5 (n : Nat) : Nat :=
  [0x1E, 0x09, 0x14, 0x15, 0x0A, 0x0B, 0x0E, 0x0F, 0x12, 0x13, 0x16, 0x17, 0x1A, 0x1B, 0x1C, 0x1D].getD n 0

/-- The line bits of a 32-bit subframe, bit 0 first. -/
def subframeBits (w : Nat) : List Bool :=
  (List.range 8).flatMap fun k => natBits 5 (code5 ((List.range 4).foldl (fun a i => a * 2 + b2n (bitOf w (4 * k + i))) 0))

/-- A transmitted MADI subframe (R437; the places of the bits log entry 151, PRESUMED): frame start on channel 0, the channel-active bit, the
second subframe of a pair, the block start, 24 audio bits, V 0, U 0, channel status, even parity. -/
def State.madiSub (s : State) (p n : Nat) (row : List Int) (i : Nat) : Nat :=
  let x := s.slotOf p row i
  let body := ofInt 24 (x.getD 0) + b2n (chanBit s.fs (n % 192)) * 2 ^ 26
  b2n (i == 0) + b2n x.isSome * 2 + i % 2 * 4 + b2n (n % 192 == 0) * 8 + body * 16 + popcount body 27 % 2 * 2 ^ 31

/-- NRZI: a one changes the level. -/
def nrzi (level : Bool) : List Bool → List Bool
  | [] => []
  | b :: bs => (level != b) :: nrzi (level != b) bs

/-- A MADI port sends a frame (R435, R437): its subframes, and sync symbols in the rest of the sample period. -/
def State.madiFrame (s : State) (p : Nat) (row : List Int) : State :=
  let r := s.portOf p
  let subs := (List.range (s.portSlots p)).flatMap fun i => subframeBits (s.madiSub p r.txn row i)
  let room := r.spare + 125000000 - subs.length * s.fs
  let syncs := (List.range (room / (10 * s.fs))).flatMap fun _ => natBits 10 0x311
  let line := nrzi r.level (subs ++ syncs)
  (s.putPort p { r with txn := (r.txn + 1) % 192, spare := room % (10 * s.fs), level := line.getLastD r.level }).emit (.madiFrame p line)

/-- A port sends a frame with a row of enabled slots' samples; `off` leaves a TDM port's DOUT high-impedance. -/
def State.sendPort (s : State) (p : Nat) (off : Bool) (row : List Int) : State :=
  if p < 16 then s.emit (s.tdmFrame p off row) else s.madiFrame p row

/-- Whether the source of a follow master is lost (R452). -/
def State.followLost (s : State) (p : Nat) : Bool :=
  let i := s.rd Fld.APRT_PORT_CTL_FOLLOW_IDX p
  if s.on Fld.APRT_PORT_CTL_FOLLOW_KIND p then
    s.rd Fld.MASH_SRC_AUDIO_COUNT i == 0 || s.on Fld.MASH_SRC_AUDIO_RATE_ERR i ||
      ((s.srcLane i).isSome && s.srcLost i)
  else i ≥ 24 || s.portState i != 2

/-- Clamp the loop to 1000 ppm (R449), in 10^-15. -/
def clampPpm (v : Int) : Int := max (-1000000000000) (min 1000000000000 v)

/-- One frame of a follow master (R448 to R452): the row it sends, after steering its oscillator by the fill. -/
def State.followFrame (s : State) (p : Nat) : List Int × State :=
  let r := s.portOf p
  let i := s.rd Fld.APRT_PORT_CTL_FOLLOW_IDX p
  let lane := s.on Fld.APRT_PORT_CTL_FOLLOW_KIND p && (s.srcLane i).isSome
  let ln := s.laneOf i
  let fill := if lane then ln.total - r.ptr else r.buf.length
  let zero := List.replicate 64 (0 : Int)
  if s.followLost p then (zero, s.putPort p { r with buf := [], ptr := ln.total, refill := true, fslip := none })
  else if r.refill ∧ fill < 32 then (zero, s)
  else
    let ramp := s.ramp2
    let frac := min 65536 ((s.now - r.lastIn) * s.fs * 65536 / sec 1)
    let err : Int := ((fill : Int) - 32) * 65536 + (if lane then 0 else frac)
    let bw := s.rd Fld.APRT_PORT_CTL_FOLLOW_BW p
    let integ := clampPpm (r.integ + Config.followKi bw * err)
    let ppm := clampPpm (integ + Config.followKp bw * err)
    let slip := match r.fslip with
      | none => if fill ≤ 4 ∨ 60 ≤ fill then some 0 else none
      | some k => if 2 * ramp ≤ k + 1 then none else some (k + 1)
    let move := slip == some ramp
    let buf := if !move then r.buf else if 32 ≤ r.buf.length then r.buf.drop (r.buf.length - 32)
      else List.replicate (32 - r.buf.length) (r.buf.headD zero) ++ r.buf
    let ptr := if move then ln.total - 32 else r.ptr
    let row := if lane then (if ptr < ln.total then ln.recs.getD (ln.total - 1 - ptr) [] else []) else buf.headD []
    let w := match slip with
      | none => ramp
      | some k => if k < ramp then rampDown ramp k 0 else rampUp ramp k ramp
    let s := if move then s.bump Fld.APRT_CNT_SLIP_CNT p 1 else s
    let s := s.putPort p { r with buf := buf.tail, ptr := ptr + 1, refill := false, fslip := slip, integ := integ }
    let s := (s.wr Fld.APRT_PORT_STAT_FILL p (min 63 fill)).wr Fld.APRT_PORT_STAT_PPM p
      (ofInt 20 (rne ppm 10000000))
    (row.map fun x => scaleBy x w ramp, s)

/-- The row that a running port sends: Mash's outputs, a follow master's source, or zeros when fenced or, for a follow
master, in hem state (R440, R448, R457, R680). -/
def State.portTx (s : State) (p : Nat) : List Int × State :=
  let s1 := if s.rd Fld.APRT_PORT_CTL_CLK_MODE p = 2 ∧ p < 16 then s.followFrame p
    else ((List.range (popcount (s.portMask p) 64)).map fun i => s.outAt (s.rd Fld.APRT_BIND_TX_BASE p + i), s)
  if s.fenced .aport p || (s.mode == .hem && s.rd Fld.APRT_PORT_CTL_CLK_MODE p == 2) then ([], s1.2) else s1

/-- Whether a TDM port's DOUT is high-impedance: on a standby with STBY_PORTS 1 (13_mantle_twin R651). -/
def State.portOff (s : State) (p : Nat) : Bool := p < 16 && s.role == .standby && s.on Fld.MNTL_CTL_STBY_PORTS 0

/-- FRAME_SYNC (R431 to R462; 13_mantle_twin R651): a frame sync of a port: a staged mask takes effect, and one frame moves.
`rx` holds the received slots or subframes, `ppm` the external clock's measured rate. A frame of PREROLL, STOPPING or UNLOCKED, or one
discarded for a glitch, carries zeros. -/
def execFrameSync (dt : Nat) (p : Fin 24) (rx : List (BitVec 32)) (ppm : BitVec 20) (s : State) : Res :=
  onMain dt s fun s =>
    let st := s.portState p
    let r := s.portOf p
    if st = 0 ∨ st = 4 ∨ (st = 1 ∧ !s.portMaster p ∧ r.clkOk = false) then s
    else
      let s := s.portBoundary p
      let s := if s.portExt p then s.wr Fld.APRT_PORT_STAT_PPM p ppm.toNat else s
      if st = 2 ∧ r.glitch = false then
        let s := if s.fenced .aport p then s.portSilent p else s.portRx p rx
        let t := s.portTx p
        t.2.sendPort p (t.2.portOff p) t.1
      else
        let frames := if st = 1 ∨ st = 3 then r.frames + 1 else r.frames
        let s := s.putPort p { s.portOf p with glitch := false, frames := frames }
        let s := if st = 2 then s.portRx p [] else s
        s.sendPort p (s.portOff p) []

/-! External clock faults (R459 to R462). -/

/-- PORT_CLOCK_STOP (R459, R461): no edge for 4 bit periods. -/
def execPortClockStop (dt : Nat) (p : Fin 24) (s : State) : Res :=
  onMain dt s fun s =>
    if !s.portExt p then s
    else
      let st := s.portState p
      let s := (s.putPort p { s.portOf p with clkOk := false, frames := 0, glitch := false }).flag
        Fld.APRT_PORT_STAT_CLK_PRESENT p false
      if st = 0 ∨ st = 4 then s
      else if st = 3 then s.portStopped p
      else (((s.portSilent p).putPortState p 4).bump Fld.APRT_CNT_CLK_STOP_CNT p 1).raise 224 p 0

/-- PORT_CLOCK_GLITCH (R459, R462): the frame in progress is discarded, and frame sync realigns to the next. -/
def execPortClockGlitch (dt : Nat) (p : Fin 24) (s : State) : Res :=
  onMain dt s fun s =>
    if s.portExt p && s.portState p != 0 && s.portState p != 4 then
      (s.putPort p { s.portOf p with glitch := true }).bump Fld.APRT_CNT_GLITCH_CNT p 1
    else s

/-- PORT_RATE_CHANGE (R459): the frame rate has left 1000 ppm. -/
def execPortRateChange (dt : Nat) (p : Fin 24) (s : State) : Res :=
  onMain dt s fun s =>
    if !s.portExt p then s
    else
      let st := s.portState p
      let s := s.putPort p { s.portOf p with clkOk := false }
      if st = 1 ∨ st = 2 then
        (((s.portSilent p).putPortState p 5).bump Fld.APRT_CNT_UNLOCK_CNT p 1).raise 225 p 0
      else s

/-- PORT_CLOCK_QUALIFIED (R460): edges and rate have held for 100 ms; a port in CLK_LOST or UNLOCKED starts again. -/
def execPortClockQualified (dt : Nat) (p : Fin 24) (s : State) : Res :=
  onMain dt s fun s =>
    if !s.portExt p then s
    else
      let st := s.portState p
      let s := ((s.flag Fld.APRT_PORT_STAT_CLK_PRESENT p true).lower 224 p).lower 225 p
      let s := if st = 4 ∨ st = 5 then s.portPreroll p else s
      s.putPort p { s.portOf p with clkOk := true }

end Sys2Proof.Machine
end

