-- ==== Sys2Proof/Machine/Mantle.lean ====
section
/-! DEFINITION. The mantle and its twin (13_mantle_twin): the lease, claims and conflicts, time from the holder, planned
handover and reversion, signatures, the lane test, and the health record. -/

set_option autoImplicit false

namespace Sys2Proof.Machine

/-- The lease time L in ticks (R638). -/
def State.leaseL (s : State) : Nat := ms (s.rd Fld.MNTL_LEASE_L_MS 0)

/-- Whether epoch `a` is newer than `b` (03_cells R163). -/
def newerEpoch (a b : Nat) : Bool := 0 < sval 8 (a + 256 - b)

/-- An event of the mantle (15_hcp_control, class 4). -/
def State.mantleEvent (s : State) (code : Nat) (detail : List Byte) : State := s.event 4 code 0 detail

/-- Toggle MANTLE_LEASE_OUT (R634). -/
def State.toggleLease (s : State) : State :=
  let v := !s.mntl.leaseOut
  (s.onMntl fun m => { m with leaseOut := v }).emit (.leaseOut v)

/-- Send the next renewal (R634, R638). -/
def State.sendRenew (s : State) : State :=
  let n := s.mntl.renewN
  ((s.mantle (.renew n)).toggleLease).onMntl fun m => { m with renewN := n + 1, renewAt := s.up }

/-! Roles (R636, R637). -/

/-- Become STANDBY: t_s is now. -/
def State.becomeStandby (s : State) : State :=
  (s.clearHolder.enterRole .standby).onMntl fun m => { m with ts := s.up }

/-- Take a new epoch and the holder flag in every cell, and write the epoch to Ledger (R642, R665, R870). -/
def State.takeEpoch (s : State) (e : Nat) : State :=
  (s.wr Fld.MNTL_STAT_EPOCH 0 e).onMntl fun m => { m with flag := true, ledgerEpoch := e % 256 }

/-- Become HOLDER with an epoch: t_c is now, RENEW 0 is sent, and media flows start (R642, R653, R665). -/
def State.becomeHolder (s : State) (e : Nat) : State :=
  let s := ((s.takeEpoch e).enterRole .holder).onMntl fun m => { m with tc := s.up, renewN := 0, mediaFrom := s.now }
  s.sendRenew

/-- The newest of the epochs that R642 lists: that of the last RENEW seen, Ledger's, and those of the far ends of media
bundles that are up. -/
def State.newestEpoch (s : State) : Nat :=
  let far := ((List.range 32).filter s.linkUp).map fun b => s.rd Fld.CELL_LINK_INFO_FAR_EPOCH b
  (s.mntl.seenEpoch.toList ++ far).foldl (fun a b => if newerEpoch b a then b else a) s.mntl.ledgerEpoch

/-- Whether a unit may claim (R641). -/
def State.mayClaim (s : State) : Bool :=
  s.on Fld.MNTL_CTL_CLAIM_EN 0 && (s.mode == .service || s.mode == .degraded)
    && (!s.on Fld.CTRL_DEV_STATE_TRIAL 0 || s.on Fld.MNTL_CTL_TRIAL_CLAIM 0)
    && (s.role == .standby || s.role == .none || (s.role == .lapsed && s.mantleLink))

/-- Claim the mantle (R642). -/
def State.claim (s : State) : State :=
  if s.mayClaim then
    let e := (s.newestEpoch + 1) % 256
    ((((s.becomeHolder e).bump Fld.MNTL_CNT_CLAIM_CNT 0 1).mantleEvent 0x0401 (beBytes 1 e)).raise 353 0 0)
  else s

/-! Messages: side cells of channel 2 (R633). -/

/-- A received mantle message: code, epoch, number, and the data from byte 18. -/
structure MantleIn where
  code : Nat
  epoch : Nat
  num : Nat
  rest : List Byte
deriving DecidableEq, Repr

/-- A side cell arrives on MANTLE: what the mantle message of a code does that it completes, for a unit of a twin (R633). -/
def State.mantleIn (s : State) (rx : RxCell) (code : Nat) (f : State → MantleIn → State) : State :=
  s.sideIn 32 2 rx fun s d =>
    if beAt d 0 1 = code ∧ s.role ≠ .single then f s ⟨code, beAt d 1 1, beAt d 2 4, d.drop 18⟩ else s

/-! The lease (R635, R638 to R645). -/

/-- How near the two arrivals of one renewal lie: an eighth of the lease (log entry 52, DESIGN CHOICE). -/
def State.pairWindow (s : State) : Nat := s.leaseL / 8

/-- Whether the other path has just brought the renewal that arrives now. -/
def State.pairs (s : State) (cell : Bool) : Bool :=
  match s.mntl.half with
  | some (c, t) => c != cell && decide (s.up ≤ t + s.pairWindow)
  | none => false

/-- A renewal is seen: a unit in NONE or LAPSED becomes STANDBY, and a standby answers with one ACK on both paths (R635,
R636, R643, R645). -/
def State.seeRenewal (s : State) (n : Nat) : State :=
  let s := if s.role = .none ∨ s.role = .lapsed then s.becomeStandby else s
  if s.role = .standby then
    let s := s.onMntl fun m => { m with ts := s.up, seenAt := some s.up, seenN := n }
    (s.mantle (.ack n)).toggleLease
  else s

/-- RENEW_TX (R638): every L/4. -/
def execRenewTx (dt : Nat) (s : State) : Res :=
  onMain dt s fun s =>
    if s.role = .holder ∧ s.mntl.renewAt + s.leaseL / 4 ≤ s.up then s.sendRenew else s

/-- RENEW (R635, R637, R643). -/
def execRenew (dt : Nat) (rx : RxCell) (s : State) : Res :=
  onMain dt s fun s =>
    s.mantleIn rx 1 fun s q =>
      let own := s.epoch
      let s := s.onMntl fun m => { m with seenEpoch := some q.epoch, seenAt := some s.up }
      if s.role = .holder then
        let s := ((s.bump Fld.MNTL_CNT_CONFLICT_CNT 0 1).mantleEvent 0x0402 (beBytes 1 q.epoch)).raise 354 0 0
        if newerEpoch q.epoch own || (q.epoch == own && s.on Fld.MNTL_CTL_UNIT_ID 0) then
          (s.becomeStandby.wr Fld.MNTL_STAT_EPOCH 0 q.epoch).seeRenewal q.num
        else s
      else
        let s := s.wr Fld.MNTL_STAT_EPOCH 0 q.epoch
        if s.pairs true then s.onMntl fun m => { m with half := none, seenN := q.num }
        else (s.seeRenewal q.num).onMntl fun m => { m with half := some (true, s.up) }

/-- The last renewal is confirmed (R638). -/
def State.confirm (s : State) : State :=
  s.onMntl fun m => { m with tc := m.renewAt, ackAt := some s.up }

/-- ACK (R638): it confirms the renewal that it names while no later one was sent. -/
def execAck (dt : Nat) (rx : RxCell) (s : State) : Res :=
  onMain dt s fun s =>
    s.mantleIn rx 2 fun s q =>
      let s := s.onMntl fun m => { m with ackAt := some s.up }
      if s.role = .holder ∧ q.num + 1 = s.mntl.renewN then s.confirm else s

/-- LEASE_IN_EDGE (R634, R635, R638): a level that has held for 50 ns. -/
def execLeaseInEdge (dt : Nat) (s : State) : Res :=
  onMain dt s fun s =>
    match s.role with
    | .single => s
    | .holder => if 0 < s.mntl.renewN then s.confirm else s
    | _ =>
      if s.pairs false then s.onMntl fun m => { m with half := none }
      else (s.seeRenewal (s.mntl.seenN + 1)).onMntl fun m => { m with half := some (false, s.up) }

/-- LEASE_CONFIRM_TIMEOUT (R639). -/
def execLeaseConfirmTimeout (dt : Nat) (s : State) : Res :=
  onMain dt s fun s =>
    if s.role = .holder ∧ s.mntl.tc + s.leaseL - ms 1 ≤ s.up then
      let s := (s.clearHolder.enterRole .lapsed).onMntl fun m => { m with ts := s.up }
      (s.bump Fld.MNTL_CNT_LAPSE_CNT 0 1).raise 352 0 0
    else s

/-- CLAIM_TIMEOUT (R640; a LAPSED unit under R641, log entry 53, DEDUCED). -/
def execClaimTimeout (dt : Nat) (s : State) : Res :=
  onMain dt s fun s =>
    if (s.role = .standby ∨ s.role = .lapsed) ∧ s.mntl.ts + s.leaseL + ms 1 ≤ s.up then s.claim else s

/-- The level of PREF as the pin has it (R645, R666). -/
def State.setPref (s : State) (pref : Bool) : State := s.flag Fld.MNTL_STAT_PREF 0 pref

/-- PREF of the twin's last valid record, if there is one. -/
def State.twinPref (s : State) : Option Bool :=
  if s.mntl.twinAt.isSome then some (bitOf (s.rd Fld.MNTL_HEALTH_TWIN_DATA 0) 20) else none

/-- Whether a unit in NONE takes the shorter wait (R645). -/
def State.shortWait (s : State) : Bool :=
  let pref := s.on Fld.MNTL_STAT_PREF 0
  match s.twinPref with
  | some p => if p = pref then !s.on Fld.MNTL_CTL_UNIT_ID 0 else pref
  | none => pref

/-- NONE_WAIT_TIMEOUT (R645). -/
def execNoneWaitTimeout (dt : Nat) (pref : Bool) (s : State) : Res :=
  onMain dt s fun s =>
    let s := s.setPref pref
    let wait := (if s.shortWait then s.leaseL else 2 * s.leaseL) + ms 1
    if s.role = .none ∧ s.mntl.tn + wait ≤ s.up ∧ 8 ≤ s.rd Fld.BOOT_STAT_STAGE 0 then s.claim else s

/-- RELEASE (R644). -/
def execRelease (dt : Nat) (rx : RxCell) (s : State) : Res :=
  onMain dt s fun s => s.mantleIn rx 3 fun s _ => if s.role = .standby then s.claim else s

/-- A write of MNTL.CTL.EN (R870). -/
def State.mantleEnable (s : State) (en : Bool) : Status × State :=
  let was := s.on Fld.MNTL_CTL_EN 0
  if en = was then (.ok, s)
  else if en then (.ok, ((s.flag Fld.MNTL_CTL_EN 0 true).clearHolder.enterRole .none).onMntl fun m => { m with tn := s.up })
  else
    let heard := fun (t : Option Nat) => t.any fun t => decide (s.up < t + 2 * s.leaseL)
    if s.mantleLink || heard s.mntl.seenAt || heard s.mntl.ackAt then (.errBusy, s)
    else
      let s := (s.flag Fld.MNTL_CTL_EN 0 false).takeEpoch ((s.newestEpoch + 1) % 256)
      let s := (s.enterRole .single).onMntl fun m => { m with mediaFrom := s.now }
      (.ok, if s.mode = .hem then s.clearHolder else s)

/-! Time from the holder (R647 to R650; 10_kiln R476). -/

/-- A measurement of candidate 43 against TIME_LIM (R650): three in a row change the check. -/
def State.timeCheck (s : State) (d : Int) : State :=
  let past := decide (ns (s.rd Fld.MNTL_CTL_TIME_LIM 0) < d.natAbs)
  let m := s.mntl
  let run := if past = m.timeFail then 0 else m.timeRun + 1
  if 3 ≤ run then ((s.onMntl fun m => { m with timeRun := 0, timeFail := past }).sick).cond 356 0 past
  else s.onMntl fun m => { m with timeRun := run }

/-- FAMILY_CELL_RX (R647, R650): a family cell on MANTLE. -/
def execFamilyCellRx (dt : Nat) (rx : RxCell) (s : State) : Res :=
  onMain dt s fun s =>
    s.timeCell 32 1 rx fun s h p =>
      let t1 := kilnOf p 4
      let s := s.onMntl fun m => { m with fam := some (t1, s.now), echoed := false }
      let good := h.holder && bitOf (beAt p 2 2) 0
      let s := s.refThere 43 good
      if good && s.role == .standby && s.on Fld.CELL_LINK_INFO_VALID 32 then
        let s := s.refSettle
        let d : Int := ((t1 + s.rd Fld.CELL_LINK_DELAY_DELAY 32 : Nat) : Int) - (s.now : Int)
        (s.refMeasure 43 d none (beAt p 40 4 + 2)).timeCheck (d + s.srd Fld.KILN_REF_CFG_CAL 43 * 16384)
      else s

/-- ECHO_CELL_TX (R632; 03_cells R151, R154): at most one for a family cell. -/
def execEchoCellTx (dt : Nat) (s : State) : Res :=
  onMain dt s fun s =>
    match s.mntl.fam with
    | some (t1, at_) =>
      if s.mantleLink && !s.mntl.echoed then
        (s.onMntl fun m => { m with echoed := true }).sendCell 32 3 linkSlot 0
          (beBytes 1 3 ++ beBytes 3 0 ++ kilnBytes t1 ++ beBytes 12 0 ++ beBytes 4 (s.now + s.txLead 32 - at_))
      else s
    | none => s

/-! Health (R660 to R662, R671). -/

/-- The NOT_HEALTHY bits (R661). -/
def State.notHealthy (s : State) : Nat :=
  let recent := fun (t : Option Nat) (n : Nat) => t.any fun t => decide (s.up < t + sec n)
  let bits : List Bool := [
    s.mode != .service, s.rd Fld.IZL_LINK_STAT_STATE 32 != 5, !s.on Fld.MNTL_STAT_COMPAT 0,
    s.role == .standby && (s.rd Fld.KILN_STAT_SELECTED 0 != 43 || decide (s.absorbed ≠ 0) || s.mntl.timeFail),
    recent s.mntl.misAt 10, recent s.mntl.ueAt 60, recent s.mntl.laneAt 10,
    s.on Fld.CTRL_DEV_STATE_TRIAL 0 && !s.on Fld.MNTL_CTL_TRIAL_CLAIM 0]
  (bits.zipIdx.map fun q => b2n q.1 * 2 ^ q.2).sum

/-- Whether the unit is healthy. -/
def State.healthy (s : State) : Bool := s.notHealthy == 0

/-- Since when the conditions of R661 that end with time have ended: a standby's slew, and recent errors. -/
def State.timedHealth (s : State) : Nat :=
  let after := fun (t : Option Nat) (n : Nat) => match t with
    | some t => t + sec n
    | none => 0
  let m := s.mntl
  let k := s.kiln
  let slewed := if k.a0 = 0 ∨ s.role ≠ .standby then 0
    else s.up - (s.now - (k.aAt + (k.a0.natAbs * 1000000000 + s.rd Fld.KILN_SLEW_RATE 0 - 1) / max 1 (s.rd Fld.KILN_SLEW_RATE 0)))
  max slewed (max (after m.misAt 10) (max (after m.ueAt 60) (after m.laneAt 10)))

/-- Since when every condition of R661 has had its present answer, for a unit that is healthy. -/
def State.healthySince (s : State) : Nat := max (max s.mntl.sickAt s.mntl.holdAt) s.timedHealth

/-- The 64 bytes of the health record (R660). -/
def State.healthRecord (s : State) : List Byte :=
  let m := s.mntl
  let d43 := if s.rd Fld.KILN_STAT_SELECTED 0 = 43 then (s.refOf 43).delta / 16384 else 0
  let body := beBytes 1 1
    ++ beBytes 1 (s.role.code * 32 + s.rd Fld.MNTL_STAT_PREF 0 * 16 + s.rd Fld.MNTL_CTL_UNIT_ID 0 * 8
      + s.rd Fld.CTRL_DEV_STATE_TRIAL 0 * 4 + b2n s.healthy * 2 + s.rd Fld.MNTL_STAT_COMPAT 0)
    ++ beBytes 1 s.epoch ++ beBytes 1 s.mode.code ++ kilnBytes s.now ++ beBytes 4 m.healthSeq ++ beBytes 4 (ofInt 32 d43)
    ++ beBytes 4 s.teb ++ beBytes 1 (s.rd Fld.MNTL_LEASE_L_MS 0) ++ beBytes 1 (s.rd Fld.BOOT_ACT_VER_PROTO 0)
    ++ beBytes 1 (s.rd Fld.BOOT_ACT_VER_PROTO_LO 0) ++ beBytes 1 (s.rd Fld.BOOT_ACT_VER_PROTO_HI 0)
    ++ beBytes 4 m.cmp ++ beBytes 4 m.mis ++ beBytes 4 m.ce ++ beBytes 4 m.ue ++ beBytes 4 m.laneErr
    ++ beBytes 2 (s.flt.fenced.length) ++ beBytes 2 s.notHealthy ++ beBytes 4 0
  body ++ beBytes 4 (crc32 body)

/-- HEALTH_TX (R660): once per Kiln second. -/
def execHealthTx (dt : Nat) (pref : Bool) (s : State) : Res :=
  onMain dt s fun s =>
    let s := s.setPref pref
    if s.mntl.healthSec = some s.second ∨ s.role = .single then s
    else
      let r := s.healthRecord
      let s := s.onMntl fun m => { m with healthSeq := (m.healthSeq + 1) % 2 ^ 32, healthSec := some s.second, cmp := 0,
                                          mis := 0, ce := 0, ue := 0, laneErr := 0 }
      (s.each (List.range 16) fun s w => s.wr Fld.MNTL_HEALTH_OWN_DATA w (beAt r (4 * w) 4)).mantle (.health r)

/-- Whether the twin's record shows a compatible unit (R671). -/
def State.compatible (s : State) (r : List Byte) : Bool :=
  let ver := beAt r 29 1
  let own := s.rd Fld.BOOT_ACT_VER_PROTO 0
  decide (s.rd Fld.BOOT_ACT_VER_PROTO_LO 0 ≤ ver ∧ ver ≤ s.rd Fld.BOOT_ACT_VER_PROTO_HI 0)
    && decide (beAt r 30 1 ≤ own ∧ own ≤ beAt r 31 1) && beAt r 28 1 == s.rd Fld.MNTL_LEASE_L_MS 0

/-- HEALTH (R660, R662, R671): a record whose CRC fails is discarded. -/
def execHealth (dt : Nat) (rx : RxCell) (s : State) : Res :=
  onMain dt s fun s =>
    s.mantleIn rx 8 fun s q =>
      let r := q.rest.take 64
      if r.length = 64 ∧ crc32 (r.take 60) = beAt r 60 4 then
        let s := s.onMntl fun m => { m with twinAt := some s.up }
        let s := s.each (List.range 16) fun s w => s.wr Fld.MNTL_HEALTH_TWIN_DATA w (beAt r (4 * w) 4)
        let c := s.compatible r
        let s := if c = s.on Fld.MNTL_STAT_COMPAT 0 then s else s.sick
        ((s.flag Fld.MNTL_STAT_TWIN_HEALTHY 0 (bitOf (beAt r 1 1) 1)).flag Fld.MNTL_STAT_COMPAT 0 c).cond 358 0 (!c)
      else s

/-- TWIN_HEALTH_TIMEOUT (R662). -/
def execTwinHealthTimeout (dt : Nat) (s : State) : Res :=
  onMain dt s fun s =>
    match s.mntl.twinAt with
    | some t => if t + sec 3 ≤ s.up then s.flag Fld.MNTL_STAT_TWIN_HEALTHY 0 false else s
    | none => s

/-! Planned handover (R663 to R665). -/

/-- A handover ends with HO_STATE and HO_CAUSE, and the event tells. -/
def State.handoverEnd (s : State) (st cause : Nat) : State :=
  let s := ((s.wr Fld.MNTL_STAT_HO_STATE 0 st).wr Fld.MNTL_STAT_HO_CAUSE 0 cause).flag Fld.MNTL_CTL_HANDOVER 0 false
  let s := s.onMntl fun m => { m with proposed := none, accepted := false, agreed := none }
  s.mantleEvent 0x0403 (beBytes 1 s.epoch ++ beBytes 1 st ++ beBytes 1 cause)

/-- A planned handover starts (R663): T_h is the first whole Kiln millisecond at least 20 ms ahead. -/
def State.handoverStart (s : State) : State :=
  if s.role ≠ .holder then s.handoverEnd 4 4
  else if s.mntl.proposed.isSome then s
  else
    let th := (s.now + ms 20 + ms 1 - 1) / ms 1 * ms 1
    let s := s.onMntl fun m => { m with proposed := some th, accepted := false }
    (((s.wr Fld.MNTL_STAT_HO_STATE 0 1).wr Fld.MNTL_STAT_HO_CAUSE 0 0).flag Fld.MNTL_CTL_HANDOVER 0 true).mantle
      (.propose th)

/-- REQUEST (R663). -/
def execRequest (dt : Nat) (rx : RxCell) (s : State) : Res :=
  onMain dt s fun s => s.mantleIn rx 7 fun s _ => if s.role = .holder then s.handoverStart else s

/-- Why a standby takes no handover, as HO_CAUSE; 0 for none (R664). -/
def State.handoverCause (s : State) : Nat :=
  if !s.on Fld.MNTL_STAT_COMPAT 0 then 2
  else if s.on Fld.CTRL_DEV_STATE_TRIAL 0 && !s.on Fld.MNTL_CTL_TRIAL_CLAIM 0 then 3
  else if s.healthy then 0 else 1

/-- PROPOSE (R664). -/
def execPropose (dt : Nat) (rx : RxCell) (s : State) : Res :=
  onMain dt s fun s =>
    s.mantleIn rx 4 fun s q =>
      if s.role ≠ .standby then s
      else
        let th := kilnOf q.rest 0
        let c := s.handoverCause
        if c = 0 then
          let s := s.onMntl fun m => { m with agreed := some th }
          ((s.wr Fld.MNTL_STAT_HO_STATE 0 2).wr Fld.MNTL_STAT_HO_CAUSE 0 0).mantle (.accept th)
        else if s.now ≤ th - ms 1 then
          let s := s.onMntl fun m => { m with holdAt := s.up }
          (s.handoverEnd 4 c).mantle (.refuse c)
        else s

/-- ACCEPT (R664). -/
def execAccept (dt : Nat) (rx : RxCell) (s : State) : Res :=
  onMain dt s fun s =>
    s.mantleIn rx 5 fun s q =>
      match s.mntl.proposed with
      | some th =>
        if s.role = .holder ∧ kilnOf q.rest 0 = th ∧ s.now ≤ th - ms 10 then
          (s.onMntl fun m => { m with accepted := true }).wr Fld.MNTL_STAT_HO_STATE 0 2
        else s
      | none => s

/-- REFUSE (R664). -/
def execRefuse (dt : Nat) (rx : RxCell) (s : State) : Res :=
  onMain dt s fun s =>
    s.mantleIn rx 6 fun s q =>
      match s.mntl.proposed with
      | some th => if s.role = .holder ∧ s.now < th - ms 1 then s.handoverEnd 4 (q.num % 8) else s
      | none => s

/-- HANDOVER_ACCEPT_DEADLINE (R664). -/
def execHandoverAcceptDeadline (dt : Nat) (s : State) : Res :=
  onMain dt s fun s =>
    match s.mntl.proposed with
    | some th => if s.role = .holder ∧ s.mntl.accepted = false ∧ th - ms 10 ≤ s.now then s.handoverEnd 4 5 else s
    | none => s

/-- HANDOVER_TIME (R653, R665): at T_h both units change roles. -/
def execHandoverTime (dt : Nat) (s : State) : Res :=
  onMain dt s fun s =>
    let done := fun (s : State) => (s.bump Fld.MNTL_CNT_HANDOVER_CNT 0 1).handoverEnd 3 0
    match s.mntl.proposed, s.mntl.agreed with
    | some th, _ => if s.role = .holder ∧ s.mntl.accepted ∧ th ≤ s.now then 
        (done s.becomeStandby).onMntl fun m => { m with mediaTo := th, ts := s.up - (s.now - th) }
      else s
    | none, some th =>
      if s.role = .standby ∧ th ≤ s.now ∧ (s.mode = .service ∨ s.mode = .degraded) then
        (done (s.becomeHolder ((s.mntl.seenEpoch.getD s.epoch + 1) % 256))).onMntl fun m => { m with tc := s.up - (s.now - th) }
      else s
    | none, none => s

/-- Whether a preferred standby counts its hold-off (R666). -/
def State.reverts (s : State) : Bool :=
  s.role == .standby && s.on Fld.MNTL_STAT_PREF 0 && s.on Fld.MNTL_CTL_REVERT_EN 0 && s.twinPref != some true && s.healthy

/-- HOLDOFF_LEFT: seconds of hold-off remaining (R666). -/
def State.holdoffLeft (s : State) : Nat :=
  if s.reverts then
    (s.healthySince + sec (s.rd Fld.MNTL_LEASE_HOLDOFF_S 0) - s.up + sec 1 - 1) / sec 1
  else 0

/-- HOLDOFF_EXPIRE (R666): one REQUEST for each hold-off. -/
def execHoldoffExpire (dt : Nat) (pref : Bool) (s : State) : Res :=
  onMain dt s fun s =>
    let s := s.setPref pref
    if s.reverts ∧ s.mntl.agreed.isNone ∧ s.holdoffLeft = 0 then
      (s.onMntl fun m => { m with holdAt := s.up }).mantle .request
    else s

/-! Signatures (R654 to R657). -/

/-- The signature of the frame that a destination sends (R654; log entry 54, DEDUCED). -/
def State.frameSig (s : State) (d : Nat) (f : Fmt) : Nat :=
  crc32 ((if f.inter then [false, true] else [false]).flatMap fun field =>
    (List.range f.active).flatMap fun line =>
      (s.lineContent d f field line).samples f)

/-- The entry of a destination's frame (R655, R656). -/
def State.sigEntry (s : State) (d : Nat) (f : Fmt) (l : Nat) : SigEntry :=
  let v := s.rd Fld.WARP_DST_ROUTE_SRC d
  let lost := v < 1168 && (s.srcLost v || (s.rd Fld.WARP_DST_CFG_MODE d == 0 && !s.timedFor d v))
  { dst := d, route := v, epoch := (l - fine (ns (s.rd Fld.WARP_DST_TIMING_OFFSET d))) / f.period % 2 ^ 32,
    sig := s.frameSig d f,
    skip := lost || s.on Fld.WARP_DST_STAT_BLACKED d || s.on Fld.CASK_FS_STAT_FROZEN d || s.on Fld.CASK_FS_STAT_BLACK d
      || (s.dstOf d).slipAt == some l }

/-- The 12 bytes of an entry. -/
def SigEntry.bytes (e : SigEntry) : List Byte :=
  beBytes 2 (b2n e.skip * 2 ^ 15 + e.dst) ++ beBytes 2 e.route ++ beBytes 4 e.epoch ++ beBytes 4 e.sig

/-- Compare the entries of one frame (R657). -/
def State.sigCompare (s : State) (a b : SigEntry) : State :=
  let d := a.dst
  let m := s.mntl
  if a.skip || b.skip || a.route != b.route then s
  else if a.sig = b.sig then
    let left := m.reported.filter fun x => x != d
    (s.onMntl fun m => { m with cmp := m.cmp + 1, run := tput 0 m.run d 0, reported := left }).wr
      Fld.MNTL_SIG_STAT_REPORTED 0 left.length
  else
    let n := tget 0 m.run d + 1
    let s := s.onMntl fun m => { m with cmp := m.cmp + 1, mis := m.mis + 1, run := tput 0 m.run d n }
    if s.rd Fld.MNTL_CTL_SIG_N 0 ≤ n ∧ !m.reported.contains d then
      let s := s.onMntl fun m => { m with reported := d :: m.reported, misAt := some s.up }
      let s := (s.wr Fld.MNTL_SIG_STAT_REPORTED 0 (m.reported.length + 1)).wr Fld.MNTL_SIG_STAT_LAST_DST 0 d
      (s.bump Fld.MNTL_CNT_SIG_MISMATCH_CNT 0 1).raise 355 0 0
    else s

/-- Keep an entry among the last 8 of its destination. -/
def keepSig (t : List (Nat × List SigEntry)) (e : SigEntry) : List (Nat × List SigEntry) :=
  tput [] t e.dst ((e :: tget [] t e.dst).take 8)

/-- SIGNATURE_CELL_TX (R654 to R657): one signature cell with the entries of up to 21 destinations, each for its last
launch and within one frame period of it. -/
def execSignatureCellTx (dt : Nat) (dsts : List (Fin 1152)) (s : State) : Res :=
  onMain dt s fun s =>
    let es := ((dsts.map fun d => d.val).eraseDups.take 21).filterMap fun d =>
      match fmtOf (s.rd Fld.WARP_DST_CFG_FMT d), (s.dstOf d).launch with
      | some f, some l =>
        if s.on Fld.WARP_DST_CFG_EN d && !s.dst22 d && (s.dstOf d).sigAt != some l && decide (fine s.now ≤ l + f.period) then
          some (l, s.sigEntry d f l)
        else none
      | _, _ => none
    if es.isEmpty || s.role == .single then s
    else
      let s := s.each (es.map fun q => q.2.dst) fun s d => s.putDst d { s.dstOf d with sigAt := (s.dstOf d).launch }
      let s := es.foldl (fun s q => s.onMntl fun m => { m with own := keepSig m.own q.2 }) s
      let s := es.foldl (fun s q =>
        match (tget [] s.mntl.twin q.2.dst).find? fun e => e.epoch == q.2.epoch with
        | some e => s.sigCompare q.2 e
        | none => s) s
      if s.mantleLink && !s.fenced .bundle 32 then
        s.sendCell 32 5 linkSlot 0 (beBytes 1 0 ++ beBytes 1 es.length ++ beBytes 2 0 ++ es.flatMap fun q => q.2.bytes)
      else s

/-- SIGNATURE_CELL (R655, R657). -/
def execSignatureCell (dt : Nat) (rx : RxCell) (s : State) : Res :=
  onMain dt s fun s =>
    let r := s.takeCell 32 rx
    match r.2.1 with
    | some h =>
      if h.type = 5 then
        let p := payloadOf r.1
        (List.range (min 21 (beAt p 1 1))).foldl (fun s i =>
          let o := 4 + 12 * i
          let w := beAt p o 2
          let e : SigEntry := { dst := bitsOf w 0 11, skip := bitOf w 15, route := bitsOf (beAt p (o + 2) 2) 0 11,
                                epoch := beAt p (o + 4) 4, sig := beAt p (o + 8) 4 }
          let s := s.onMntl fun m => { m with twin := keepSig m.twin e }
          match (tget [] s.mntl.own e.dst).find? fun x => x.epoch == e.epoch with
          | some x => s.sigCompare x e
          | none => s) r.2.2
      else r.2.2
    | none => r.2.2

/-! The lane test (R659). -/

/-- Check bits against the continuation of PRBS31 after the last 31 bits `w` (newest in bit 0): the number of wrong bits
(02_izsar_lanes R102). -/
def prbsWrong : Nat → Nat → List Bool → Nat
  | _, n, [] => n
  | w, n, b :: bs =>
    let x := prbsNext 3 w
    prbsWrong ((w * 2 + b2n x) % 2 ^ 31) (if b = x then n else n + 1) bs

/-- LANE_TEST_CELL (R659): the data continue the sequence of the cell before; the first cell starts it (log entry 55, DEDUCED). -/
def execLaneTestCell (dt : Nat) (rx : RxCell) (s : State) : Res :=
  onMain dt s fun s =>
    let r := s.takeCell 32 rx
    match r.2.1.bind fun h => sideOf h (payloadOf r.1) 3 with
    | none => r.2.2
    | some q =>
      let data := lineBits q.2.2.2.2
      let s := r.2.2
      let wrong := match s.mntl.lfsr with
        | some w => prbsWrong w 0 data
        | none => 0
      let last := data.foldl (fun w b => (w * 2 + b2n b) % 2 ^ 31) (s.mntl.lfsr.getD 0)
      let s := s.onMntl fun m => { m with lfsr := some last, laneErr := m.laneErr + wrong,
                                          laneAt := if wrong = 0 then m.laneAt else some s.up }
      s.bump Fld.MNTL_CNT_LANE_TEST_CNT 0 wrong

/-! Mirroring of RTP sequence numbers (R652). -/

/-- The next RTP sequence number of an enabled transmit flow. -/
def State.flowSeq (s : State) (f : Nat) : Nat :=
  if 2 ≤ s.rd Fld.ETH_FLOW_CTL_TYPE f then tget 0 s.mash.txSeq f
  else match (List.range 1152).find? fun d => s.dstFlow d == some f with
    | some d => (s.dstOf d).rtpSeq
    | none => 0

/-- Take over a sequence number. -/
def State.setFlowSeq (s : State) (f n : Nat) : State :=
  if 2 ≤ s.rd Fld.ETH_FLOW_CTL_TYPE f then
    let m := { s.mash with txSeq := tput 0 s.mash.txSeq f n }
    s.onMash fun _ => m
  else match (List.range 1152).find? fun d => s.dstFlow d == some f with
    | some d => s.putDst d { s.dstOf d with rtpSeq := n }
    | none => s

/-- RTP_SEQ_MIRROR_TX (R652), whether or not operations are mirrored under R667. -/
def execRtpSeqMirrorTx (dt : Nat) (s : State) : Res :=
  onMain dt s fun s =>
    if s.role = .holder then
      let fs := (s.listed Fld.ETH_FLOW_CTL_EN).filter fun f => s.on Fld.ETH_FLOW_CTL_EN f && s.rd Fld.ETH_FLOW_CTL_DIR f == 1
      s.mantle (.mirror (.rtpSeq (fs.map fun f => (f, s.flowSeq f))) s.now .ok)
    else s

end Sys2Proof.Machine
end

