-- ==== Sys2Proof/Machine/FaultCmd.lean ====
section
/-! DEFINITION. Commands of the fault collector (14_faults_hem): clearing a source, fencing and releasing by command, the
FAULT_N pin, the log's acknowledgement and retries, and the faults of the control island. -/

set_option autoImplicit false

namespace Sys2Proof.Machine

/-- A write of 1 to SRC_STAT.STANDING clears an event source (R674, R676); it has no effect on a condition source. -/
def State.clearStanding (s : State) (fs : Nat) : State :=
  match faultInfo fs with
  | some (false, _) =>
    let f := { s.flt with stand := s.flt.stand.filter fun p => p.1 / 8192 != fs }
    s.onFlt fun _ => f
  | _ => s

/-- The log entry of a fence or release by command, and its count (R682). -/
def State.log511 (s : State) (sev : Nat) (k : UKind) (i : Nat) : State :=
  let busy := s.handling
  let e : LogEntry := {
    seq := 0, time := s.now, timeValid := s.on Fld.KILN_STAT_TIME_VALID 0,
    escalated := busy && decide (s.flt.handleSev < sev), nested := busy || s.mode == .hem, replace := false,
    severity := sev, src := 511, kind := k, mode := s.mode.code, inst := i,
    starts := s.rd Fld.BOOT_START_COUNT_COUNT 0 % 65536, detail := 0 }
  ((s.bump Fld.FLT_SRC_STAT_COUNT 511 1).logFault e).ledgerCheck s

/-- FENCE_CMD (R682): OP 0 fences the unit, OP 1 releases it. A kind or index that names no unit is out of range. -/
def State.fenceCmd (s : State) (release : Bool) (kind idx : Nat) : Status × State :=
  let k := UKind.ofCode kind
  if k.count ≤ idx then (.errAccess, s)
  else if release then (.ok, if s.fenced k idx then (s.unfence k idx).log511 0 k idx else s)
  else (.ok, if s.fenced k idx then s else (s.fence k idx).log511 1 k idx)

/-- LOG_ACK (R702): TAIL moves forward by at most the unacknowledged entries. -/
def State.logAck (s : State) (n : Nat) : State :=
  let c := s.rd Fld.FLT_LOG_PTR_COUNT 0
  let m := min n c
  (s.wr Fld.FLT_LOG_PTR_TAIL 0 (s.rd Fld.FLT_LOG_PTR_TAIL 0 + m)).wr Fld.FLT_LOG_PTR_COUNT 0 (c - m)

/-- The 32 bytes of the entry at a place of the log: one whose Ledger write failed is read in control SRAM (R704). -/
def State.logBytes (s : State) (i : Nat) : List Byte :=
  let find := fun (l : List (Nat × LogEntry)) => (l.find? fun p => p.1 == i).map fun p => p.2.bytes
  match find s.flt.retry, find s.flt.log with
  | some b, _ => b
  | none, some b => b
  | none, none => List.replicate 32 0

/-- FAULT_PULSE_END (R690, R691): at least 20 us after the last fault that calls for a pulse. -/
def execFaultPulseEnd (dt : Nat) (s : State) : Res :=
  onMain dt s fun s => if s.flt.pulseEnd ≤ s.up then s.flag Fld.FLT_STAT_PULSE 0 false else s

/-- LOG_RETRY (R704): once per second. `ok` says whether Ledger takes writes from now on (log entry 56, DESIGN CHOICE); then every entry
that control SRAM keeps is written. -/
def execLogRetry (dt : Nat) (ok : Bool) (s : State) : Res :=
  onMain dt s fun s =>
    let f := s.flt
    let f := if ok then
      { f with ledgerOk := true, log := f.retry.foldl (fun l p => tinsert l p.1 p.2) f.log, retry := [] }
      else { f with ledgerOk := false }
    s.onFlt fun _ => f

/-- CONTROL_CORE_WATCHDOG (R674: FS_384). -/
def execControlCoreWatchdog (dt : Nat) (s : State) : Res := onMain dt s fun s => s.raise 384 0 0

/-- CROSSING_FIFO_OVERFLOW (01_architecture R41: FS_385, whose COUNT counts it). -/
def execCrossingFifoOverflow (dt : Nat) (s : State) : Res := onMain dt s fun s => s.raise 385 0 0

end Sys2Proof.Machine
end

