-- ==== Sys2Proof/Machine/Hopper.lean ====
section
/-! DEFINITION. Hopper, the check units and the default error target (16_internal_engines). -/

set_option autoImplicit false

namespace Sys2Proof.Machine

/-! The default error target (R756). -/

/-- Code of a master in CTRL.DEFAULT_ERR. Sessions and the mirror reach registers through the control cores. -/
def Master.code : Master → Nat
  | .core n => n
  | .boot => 6
  | .dbg => 7
  | .sess _ | .mirror => 0

/-- An undecoded access: it is recorded and raises FS_417 with the address; a read returns zero data. -/
def State.defaultAccess (s : State) (master : Nat) (write : Bool) (addr : Nat) : State :=
  let s := ((s.wr Fld.CTRL_DEFAULT_ERR_MASTER 0 master).flag Fld.CTRL_DEFAULT_ERR_WRITE 0 write).wr Fld.CTRL_DEFAULT_ERR_ADDR 0 addr
  s.raise 417 0 (addr % 2 ^ 32)

/-- DEFAULT_TARGET_ACCESS (R756). -/
def execDefaultTargetAccess (dt : Nat) (master : Fin 8) (write : Bool) (addr : BitVec 64) (s : State) : Res :=
  onMain dt s fun s => (s.defaultAccess master write addr.toNat).emit (.result .errAddr (if write then [] else [0]))

/-! Check units (R768 to R772). -/

/-- The low `w` bits of a number in reverse order. -/
def reflectBits : Nat → Nat → Nat
  | 0, _ => 0
  | w + 1, v => v % 2 * 2 ^ w + reflectBits w (v / 2)

/-- One bit of the pseudocode of R768; the register has 64 bits. -/
def crcBit (w poly : Nat) (v : Nat) : Nat :=
  if v / 2 ^ (w - 1) % 2 = 1 then (v * 2 % 2 ^ 64) ^^^ poly else v * 2 % 2 ^ 64

/-- Feed one byte (R768). -/
def crcByte (w poly : Nat) (refin : Bool) (v : Nat) (b : Byte) : Nat :=
  let b := if refin then reflectBits 8 b.toNat else b.toNat
  (List.range 8).foldl (fun v _ => crcBit w poly v) (v ^^^ b * 2 ^ (w - 8)) % 2 ^ w

/-- The result formula (R768). -/
def crcResult (w : Nat) (refout : Bool) (xorout v : Nat) : Nat :=
  (if refout then reflectBits w v else v) ^^^ xorout

/-- Feed bytes to unit `u`. One with EN 0 is stopped and takes none (log entry 160, DEDUCED). -/
def State.crcFeed (s : State) (u : Nat) (bs : List Byte) : State :=
  if s.on Fld.CRC_CTL_EN u then
    s.wr Fld.CRC_VALUE_V u (bs.foldl (crcByte (s.rd Fld.CRC_CFG_WIDTH u) (s.rd Fld.CRC_POLY_V u) (s.on Fld.CRC_CFG_REFIN u))
      (s.rd Fld.CRC_VALUE_V u))
  else s

/-- RESULT of unit `u` (R771). -/
def State.crcShown (s : State) (u : Nat) : Nat :=
  crcResult (s.rd Fld.CRC_CFG_WIDTH u) (s.on Fld.CRC_CFG_REFOUT u) (s.rd Fld.CRC_XOROUT_V u) (s.rd Fld.CRC_VALUE_V u)

/-- Restart a unit that runs and feed a prefix (R770). -/
def State.crcRestart (s : State) (u : Nat) (pre : List Byte) : State :=
  if s.on Fld.CRC_CTL_EN u then (s.wr Fld.CRC_VALUE_V u (s.rd Fld.CRC_INIT_V u)).crcFeed u pre else s

/-- The low PREFIX_LEN bytes of PREFIX, most significant first. -/
def State.crcPrefix (s : State) (u : Nat) : List Byte :=
  let n := match s.rd Fld.CRC_CTL_PREFIX_LEN u with
    | 0 => 0 | 1 => 2 | 2 => 4 | _ => 8
  beBytes n (s.rd Fld.CRC_PREFIX_V u)

/-- A write of CTL.START with 1 (R770). -/
def State.crcStart (s : State) (u : Nat) : State := s.crcRestart u (s.crcPrefix u)

/-- A write of FEED (R771): FEED_BYTES bytes of the word, from bits [31:24] on. -/
def State.crcFeedWord (s : State) (u w : Nat) : State :=
  s.crcFeed u ((beBytes 4 w).take (s.rd Fld.CRC_CTL_FEED_BYTES u + 1))

/-! Hopper addresses (R757). -/

/-- Whether `n` bytes from a Hopper address lie in a permitted range; space 3 only as a destination. -/
def State.hopRange (s : State) (dst : Bool) (a n : Nat) : Bool :=
  let off := a % 2 ^ 62
  match a / 2 ^ 62 with
  | 0 => decide (off < 2 ^ 22 ∧ 0x300000 ≤ off ∧ off + n ≤ 0x400000)
  | 1 =>
    let base := s.rd Fld.CASK_REGION_BASE 4 * 2097152
    decide (off < 2 ^ 37 ∧ base ≤ off ∧ off + n ≤ base + s.rd Fld.CASK_REGION_SIZE 4 * 2097152)
  | 2 =>
    let r := s.surfOf (off / 2 ^ 32)
    decide (off < 2 ^ 44 ∧ r.state ≠ 0 ∧ off % 2 ^ 32 + n ≤ r.blocks * 2097152)
  | 3 => dst && off == 0
  | _ => false

/-- Whether a descriptor may stand at an address (R757, R758). -/
def State.hopDescOk (s : State) (a : Nat) : Bool := a % 32 == 0 && decide (a / 2 ^ 62 ≤ 1) && s.hopRange false a 32

/-! A descriptor's beats (R761). -/

/-- First byte of the transfer after beat `k` of 64 bytes, for an address. -/
def beatEnd (addr count k : Nat) : Nat := min count ((addr / 64 + k + 1) * 64 - addr)
/-- First byte of the transfer in a beat. -/
def beatStart (addr count k : Nat) : Nat := if k = 0 then 0 else beatEnd addr count (k - 1)
/-- Number of beats. -/
def beats (addr count : Nat) : Nat := if count = 0 then 0 else (addr % 64 + count + 63) / 64

/-- How many beats in a row, from the first, a list holds. -/
def runOf (l : List Nat) : Nat → Nat → Nat
  | 0, k => k
  | fuel + 1, k => if l.contains k then runOf l fuel (k + 1) else k

namespace HopCh

/-- Whether the transfer is check-only (R757 space 3). -/
def checkOnly (r : HopCh) : Bool := r.dst / 2 ^ 62 == 3
def crcEn (r : HopCh) : Bool := bitOf r.ctl 23
def unit (r : HopCh) : Nat := bitsOf r.ctl 20 3

/-- Bytes transferred so far: those of the write beats, or for a check-only transfer of the read beats, that are done in a
row from the first (R763, R766). -/
def moved (r : HopCh) : Nat :=
  if r.checkOnly then
    let k := runOf r.got r.got.length 0
    if k = 0 then 0 else beatEnd r.src r.count (k - 1)
  else
    let k := runOf r.ok r.ok.length 0
    if k = 0 then 0 else beatEnd r.dst r.count (k - 1)

/-- Issue the write beats whose bytes have all been read, in order, unless a beat has failed or a stop waits (R761, R767). -/
def issue (r : HopCh) : HopCh :=
  if r.checkOnly || r.fail.isSome || r.stop.isSome then r
  else
    let k := runOf r.got r.got.length 0
    let have_ := if k = 0 then 0 else beatEnd r.src r.count (k - 1)
    let n := if have_ = r.count then beats r.dst r.count else (r.dst % 64 + have_) / 64
    { r with issued := max r.issued n }

/-- Write beats issued that have neither succeeded nor failed for good. -/
def pendingWrites (r : HopCh) : Bool :=
  (List.range r.issued).any fun j => !r.ok.contains j && tget 0 r.tries (2 ^ 32 + j) != 100

end HopCh

/-- The channel rests: IDLE, or HALTED with a cause and FS_416 (R766). -/
def State.hopRest (s : State) (c : Nat) (halt : Option Nat) : State :=
  let s := (s.putHop c {}).flag Fld.HOP_CH_CTL_GO c false
  match halt with
  | some cause => ((s.wr Fld.HOP_CH_STAT_STATE c 2).wr Fld.HOP_CH_STAT_CAUSE c cause).raise 416 c 0
  | none => s.wr Fld.HOP_CH_STAT_STATE c 0

/-- A write of CH_CTL.GO with 1 (R759, R767): a channel at rest that is enabled and not fenced fetches at CH_DESC. -/
def State.hopGo (s : State) (c : Nat) : State :=
  if s.on Fld.HOP_CH_CTL_EN c ∧ (s.hopOf c).phase = .rest ∧ !s.fenced .hopCh c then
    ((s.putHop c { phase := .fetch }).flag Fld.HOP_CH_CTL_GO c true).wr Fld.HOP_CH_STAT_STATE c 1
  else s

/-- The descriptor's checks in their order (R762): 0, or the cause of the failure. A surface that only the safety
controller may write is not open to Hopper (06_cask R301). -/
def State.hopCheck (s : State) (c : Nat) (r : HopCh) : Nat :=
  if !(s.hopRange false r.src r.count && s.hopRange true r.dst r.count) then 3
  else if r.dst / 2 ^ 62 = 2 ∧ s.surfWritable false (bitsOf r.dst 32 12) (r.dst % 2 ^ 32) r.count ≠ .ok then 4
  else if r.crcEn ∧ s.rd Fld.CRC_CTL_OWNER r.unit ≠ c + 1 then 5
  else 0

/-- A raw write of a surface begins or ends (R763; 06_cask R300). -/
def State.hopSurf (s : State) (r : HopCh) (begins : Bool) : State :=
  if r.dst / 2 ^ 62 = 2 then
    let h := bitsOf r.dst 32 12
    let x := s.surfOf h
    s.putSurf h { x with writes := if begins then x.writes + 1 else x.writes - 1 }
  else s

/-- The prefix that CRC_PFX selects (R758). -/
def State.hopPrefix (s : State) (r : HopCh) : List Byte :=
  match bitsOf r.ctl 17 2 with
  | 0 => []
  | 1 => s.crcPrefix r.unit
  | 2 => beBytes 8 r.src
  | _ => beBytes 2 (bitsOf r.ctl 0 16)

/-- DESCRIPTOR_FETCHED (R759, R762, R766). -/
def execDescriptorFetched (dt : Nat) (c : Fin 16) (ok : Bool) (s : State) : Res :=
  onMain dt s fun s =>
    let r := s.hopOf c
    let a := s.rd Fld.HOP_CH_DESC_ADDR c
    if r.phase ≠ .fetch then s
    else if !ok then s.hopRest c (some 1)
    else if !s.hopDescOk a then s.hopRest c (some 3)
    else
      let d := s.bytesAt a 32
      let r := { r with ctl := beAt d 0 4, count := beAt d 4 4, src := beAt d 8 8, dst := beAt d 16 8, next := beAt d 24 8 }
      if bitOf r.ctl 31 = false then s.hopRest c none
      else
        let bad := s.hopCheck c r
        let s := s.wr Fld.HOP_CH_RESID_COUNT c r.count
        match r.stop with
        | some cause => s.putHop c { r with phase := .back, cause := cause }
        | none =>
          if bad ≠ 0 then s.putHop c { r with phase := .back, cause := bad }
          else
            let s := if r.crcEn && bitOf r.ctl 19 then s.crcRestart r.unit (s.hopPrefix r) else s
            (s.hopSurf r true).putHop c { r with phase := .run }

/-- Feed the check unit the bytes that have been transferred in a row (R771). -/
def State.hopFeed (s : State) (c : Nat) (r : HopCh) : State :=
  let n := r.moved
  let bs := (List.range (n - r.fed)).map fun i => tget 0 r.data (r.fed + i)
  (if r.crcEn then s.crcFeed r.unit bs else s).putHop c { r with fed := max r.fed n }

/-- A beat answered with an error (R765, R766): issued again up to RETRY_LIMIT times, or failed from its first byte on. -/
def State.hopErr (s : State) (c : Nat) (r : HopCh) (key start : Nat) (res : BeatRes) : State :=
  let n := tget 0 r.tries key
  let worse := fun (cause : Nat) => match r.fail with
    | some (f, k) => if start < f then some (start, cause) else some (f, k)
    | none => some (start, cause)
  if res = .err ∧ n < s.rd Fld.HOP_CH_CFG_RETRY_LIMIT c then
    (s.bump Fld.HOP_CH_STAT_RETRIES c 1).putHop c { r with tries := tput 0 r.tries key (n + 1) }
  else s.putHop c { r with tries := tput 0 r.tries key 100, fail := worse (if res = .ue then 2 else 1) }

/-- READ_BEAT_RETURN (R761, R765, R766, R771). -/
def execReadBeatReturn (dt : Nat) (c : Fin 16) (beat : Nat) (res : BeatRes) (s : State) : Res :=
  onMain dt s fun s =>
    let r := s.hopOf c
    if r.phase ≠ .run ∨ beats r.src r.count ≤ beat ∨ r.got.contains beat ∨ tget 0 r.tries beat = 100 then s
    else
      let a := beatStart r.src r.count beat
      let e := beatEnd r.src r.count beat
      match res with
      | .ok =>
        let data := tputs 0 r.data ((s.bytesAt (r.src + a) (e - a)).zipIdx.map fun p => (a + p.2, p.1))
        let r := ({ r with got := beat :: r.got, data := data } : HopCh).issue
        let s := s.hopFeed c r
        if r.checkOnly then s.wr Fld.HOP_CH_RESID_COUNT c (r.count - r.moved)
        else s.wr Fld.HOP_CH_RESID_COUNT c (r.count - (if r.issued = 0 then 0 else beatEnd r.dst r.count (r.issued - 1)))
      | res => s.hopErr c r beat a res

/-- WRITE_BEAT_RESPONSE (R763, R765, R766, R771). -/
def execWriteBeatResponse (dt : Nat) (c : Fin 16) (beat : Nat) (res : BeatRes) (s : State) : Res :=
  onMain dt s fun s =>
    let r := s.hopOf c
    if r.phase ≠ .run ∨ r.issued ≤ beat ∨ r.ok.contains beat ∨ tget 0 r.tries (2 ^ 32 + beat) = 100 then s
    else
      let a := beatStart r.dst r.count beat
      let e := beatEnd r.dst r.count beat
      match res with
      | .ok =>
        let s := s.putBytes (r.dst + a) ((List.range (e - a)).map fun i => tget 0 r.data (a + i))
        s.hopFeed c { r with ok := beat :: r.ok }
      | .ue => s.hopErr c r (2 ^ 32 + beat) a .err
      | res => s.hopErr c r (2 ^ 32 + beat) a res

/-- The control word of a write-back (R758, R764, R766). -/
def ctlBack (ctl status cause : Nat) (failed clearStart : Bool) : Nat :=
  let c := setBitTo ctl 31 failed
  let c := if clearStart then setBitTo c 19 false else c
  c / 2 ^ 30 * 2 ^ 30 + status * 2 ^ 28 + cause * 2 ^ 24 + c % 2 ^ 24

/-- DESCRIPTOR_WRITE_BACK (R760, R762, R764, R766, R767). -/
def execDescriptorWriteBack (dt : Nat) (c : Fin 16) (s : State) : Res :=
  onMain dt s fun s =>
    let r := s.hopOf c
    let a := s.rd Fld.HOP_CH_DESC_ADDR c
    let n := r.moved
    match r.phase with
    | .back => (s.putBytes a (beBytes 4 (ctlBack r.ctl 2 r.cause true false))).hopRest c (some r.cause)
    | .run =>
      if n = r.count then
        let s := if r.checkOnly then s.putBytes (a + 16) (beBytes 8 (s.crcShown r.unit)) else s
        let s := (s.putBytes a (beBytes 4 (ctlBack r.ctl 1 0 false false) ++ beBytes 4 0)).bump Fld.HOP_CH_STAT_DESC_DONE c 1
        let s := (s.hopSurf r false).wr Fld.HOP_CH_DESC_ADDR c r.next
        if bitOf r.ctl 30 then s.hopRest c none
        else match r.stop with
          | some cause => s.hopRest c (some cause)
          | none => s.putHop c { phase := .fetch }
      else if (r.fail.isSome || r.stop.isSome) && !r.pendingWrites then
        let cause := match r.fail, r.stop with
          | some (_, k), _ => k
          | none, some k => k
          | none, none => 0
        let dst := if r.checkOnly then r.dst else r.dst + n
        let s := s.putBytes a (beBytes 4 (ctlBack r.ctl 2 cause true (decide (0 < n))) ++ beBytes 4 (r.count - n)
          ++ beBytes 8 (r.src + n) ++ beBytes 8 dst)
        (s.hopSurf r false).hopRest c (some cause)
      else s
    | _ => s

end Sys2Proof.Machine
end

