-- ==== Sys2Proof/Machine/RegNames.lean ====
section
/-! DEFINITION. The directory name of every register array (18_address_map R821): its name without the block prefix and
without instance placeholders. -/

set_option autoImplicit false

namespace Sys2Proof.Machine

/-- Directory name (R821). -/
def Reg.dirName : Reg → String
  | .COM_BLK_ID => "BLK_ID"
  | .COM_BLK_DIR_INFO => "BLK_DIR_INFO"
  | .COM_BLK_FAULT => "BLK_FAULT"
  | .COM_BLK_SCRATCH => "BLK_SCRATCH"
  | .IZL_LINK_CTL => "LINK_CTL"
  | .IZL_LINK_STAT => "LINK_STAT"
  | .IZL_LANE_STAT => "LANE_STAT"
  | .IZL_DEGRADE_SHED_LO => "DEGRADE_SHED_LO"
  | .IZL_DEGRADE_SHED_HI => "DEGRADE_SHED_HI"
  | .IZL_PRBS_CTL => "PRBS_CTL"
  | .IZL_CNT_MARKER_MISS => "CNT_MARKER_MISS"
  | .IZL_CNT_STUFF_VIOL => "CNT_STUFF_VIOL"
  | .IZL_CNT_CLK_GLITCH => "CNT_CLK_GLITCH"
  | .IZL_CNT_LINK_DOWN => "CNT_LINK_DOWN"
  | .IZL_CNT_WAKE_FAIL => "CNT_WAKE_FAIL"
  | .IZL_PRBS_ERR => "PRBS_ERR"
  | .CELL_SRC_BIND => "SRC_BIND"
  | .CELL_DST_BIND => "DST_BIND"
  | .CELL_LINK_DELAY => "LINK_DELAY"
  | .CELL_LINK_INFO => "LINK_INFO"
  | .CELL_SRC_STAT => "SRC_STAT"
  | .CELL_CNT_CRC_ERR => "CNT_CRC_ERR"
  | .CELL_CNT_SEQ_ERR => "CNT_SEQ_ERR"
  | .CELL_CNT_SEQ_LOST => "CNT_SEQ_LOST"
  | .CELL_CNT_MISDIR => "CNT_MISDIR"
  | .CELL_CNT_HDR_ERR => "CNT_HDR_ERR"
  | .CELL_CNT_OVERRUN => "CNT_OVERRUN"
  | .CELL_CNT_FMT_CHANGE => "CNT_FMT_CHANGE"
  | .ETH_PORT_CTL => "PORT_CTL"
  | .ETH_PORT_STAT => "PORT_STAT"
  | .ETH_PORT_TX_RESV => "PORT_TX_RESV"
  | .ETH_FLOW_CTL => "FLOW_CTL"
  | .ETH_FLOW_MEDIA => "FLOW_MEDIA"
  | .ETH_FLOW_DIP => "FLOW_DIP"
  | .ETH_FLOW_SIP => "FLOW_SIP"
  | .ETH_FLOW_UDP => "FLOW_UDP"
  | .ETH_FLOW_SSRC => "FLOW_SSRC"
  | .ETH_FLOW_HDR => "FLOW_HDR"
  | .ETH_FLOW_PT => "FLOW_PT"
  | .ETH_FLOW_DMAC_HI => "FLOW_DMAC_HI"
  | .ETH_FLOW_DMAC_LO => "FLOW_DMAC_LO"
  | .ETH_FLOW_STAT => "FLOW_STAT"
  | .ETH_FLOW_CNT => "FLOW_CNT"
  | .ETH_CNT_RX_OCTETS => "CNT_RX_OCTETS"
  | .ETH_CNT_TX_OCTETS => "CNT_TX_OCTETS"
  | .ETH_CNT_RX_FRAMES => "CNT_RX_FRAMES"
  | .ETH_CNT_TX_FRAMES => "CNT_TX_FRAMES"
  | .ETH_CNT_RX_CRC => "CNT_RX_CRC"
  | .ETH_CNT_RX_SHORT => "CNT_RX_SHORT"
  | .ETH_CNT_RX_LONG => "CNT_RX_LONG"
  | .ETH_CNT_RX_BAD => "CNT_RX_BAD"
  | .ETH_CNT_RX_FULL => "CNT_RX_FULL"
  | .ETH_CNT_RX_NOMATCH => "CNT_RX_NOMATCH"
  | .ETH_CNT_RX_PAUSE => "CNT_RX_PAUSE"
  | .ETH_CNT_PAUSE_WD => "CNT_PAUSE_WD"
  | .ETH_CNT_TX_DISC => "CNT_TX_DISC"
  | .ETH_CNT_FEC_CORR => "CNT_FEC_CORR"
  | .ETH_CNT_FEC_UNCORR => "CNT_FEC_UNCORR"
  | .ETH_CNT_LINK_GLITCH => "CNT_LINK_GLITCH"
  | .ETH_CNT_LINK_DOWN => "CNT_LINK_DOWN"
  | .ETH_MERGE_CTL => "MERGE_CTL"
  | .ETH_QUEUE_PCP => "QUEUE_PCP"
  | .WARP_DST_CFG => "DST_CFG"
  | .WARP_DST_TIMING => "DST_TIMING"
  | .WARP_DST_ROUTE => "DST_ROUTE"
  | .WARP_DST_STAT => "DST_STAT"
  | .WARP_DST_CNT => "DST_CNT"
  | .WARP_SRC_TIME => "SRC_TIME"
  | .WARP_INT_TIME => "INT_TIME"
  | .WARP_CS_STAT => "CS_STAT"
  | .WARP_CS_STORE => "CS_STORE"
  | .WARP_CS_ARM => "CS_ARM"
  | .WARP_CS_PREP => "CS_PREP"
  | .CASK_REGION => "REGION"
  | .CASK_RING => "RING"
  | .CASK_INT_RING => "INT_RING"
  | .CASK_FS_CTL => "FS_CTL"
  | .CASK_FS_STAT => "FS_STAT"
  | .CASK_FS_CNT => "FS_CNT"
  | .CASK_SURF_STAT => "SURF_STAT"
  | .CASK_POOL_STAT => "POOL_STAT"
  | .CASK_SPARE_STAT => "SPARE_STAT"
  | .CASK_ECC_CTL => "ECC_CTL"
  | .CASK_BW_CLASS => "BW_CLASS"
  | .CASK_CNT_CE => "CNT_CE"
  | .CASK_CNT_UE => "CNT_UE"
  | .CASK_CNT_RETIRED => "CNT_RETIRED"
  | .CASK_CNT_PLY_SKIP => "CNT_PLY_SKIP"
  | .CASK_CNT_ANC_TRUNC => "CNT_ANC_TRUNC"
  | .STCH_HEAD_CFG => "HEAD_CFG"
  | .STCH_HEAD_TIMING => "HEAD_TIMING"
  | .STCH_HEAD_BG => "HEAD_BG"
  | .STCH_HEAD_FILL => "HEAD_FILL"
  | .STCH_HEAD_STAT => "HEAD_STAT"
  | .STCH_HEAD_CNT => "HEAD_CNT"
  | .STCH_LAYER_CTL => "LAYER_CTL"
  | .STCH_LAYER_POS => "LAYER_POS"
  | .STCH_LAYER_SIZE => "LAYER_SIZE"
  | .STCH_LAYER_CROP_POS => "LAYER_CROP_POS"
  | .STCH_LAYER_CROP_SIZE => "LAYER_CROP_SIZE"
  | .STCH_LAYER_SRC => "LAYER_SRC"
  | .STCH_LAYER_STRIDE => "LAYER_STRIDE"
  | .STCH_SIG_CTL => "SIG_CTL"
  | .STCH_SIG_STAT => "SIG_STAT"
  | .STCH_SIG_POS => "SIG_POS"
  | .STCH_SIG_SIZE => "SIG_SIZE"
  | .STCH_SIG_EXP => "SIG_EXP"
  | .STCH_SIG_VAL => "SIG_VAL"
  | .STCH_APRON_STAT => "APRON_STAT"
  | .MASH_CFG => "CFG"
  | .MASH_SRC_AUDIO => "SRC_AUDIO"
  | .MASH_DST_AUDIO => "DST_AUDIO"
  | .MASH_ROUTE => "ROUTE"
  | .MASH_OUT_DELAY => "OUT_DELAY"
  | .MASH_ROUTE_CTL => "ROUTE_CTL"
  | .MASH_BUSIN => "BUSIN"
  | .MASH_BUSIN_MAP => "BUSIN_MAP"
  | .MASH_BUS_FADER => "BUS_FADER"
  | .MASH_BUS_DYN_A => "BUS_DYN_A"
  | .MASH_BUS_DYN_B => "BUS_DYN_B"
  | .MASH_BUS_STAT => "BUS_STAT"
  | .MASH_ENG_CTL => "ENG_CTL"
  | .MASH_ENG_STAT => "ENG_STAT"
  | .MASH_CNT_RATE_ERR => "CNT_RATE_ERR"
  | .MASH_CNT_ANC_DROP => "CNT_ANC_DROP"
  | .MASH_CNT_OUT_SAT => "CNT_OUT_SAT"
  | .MASH_CNT_ZC_TIMEOUT => "CNT_ZC_TIMEOUT"
  | .MASH_CNT_BUS_UNLOCK => "CNT_BUS_UNLOCK"
  | .MASH_CNT_XFADE_SHORT => "CNT_XFADE_SHORT"
  | .MASH_CNT_SLIP => "CNT_SLIP"
  | .APRT_PORT_CTL => "PORT_CTL"
  | .APRT_TDM_FMT => "TDM_FMT"
  | .APRT_BIND => "BIND"
  | .APRT_MASK_LO => "MASK_LO"
  | .APRT_MASK_HI => "MASK_HI"
  | .APRT_MASK_STG_LO => "MASK_STG_LO"
  | .APRT_MASK_STG_HI => "MASK_STG_HI"
  | .APRT_PORT_STAT => "PORT_STAT"
  | .APRT_CNT_SLIP => "CNT_SLIP"
  | .APRT_CNT_GLITCH => "CNT_GLITCH"
  | .APRT_CNT_CLK_STOP => "CNT_CLK_STOP"
  | .APRT_CNT_UNLOCK => "CNT_UNLOCK"
  | .APRT_CNT_PARITY => "CNT_PARITY"
  | .KILN_STAT => "STAT"
  | .KILN_TEB => "TEB"
  | .KILN_OFFSET_REM => "OFFSET_REM"
  | .KILN_HO_ELAPSED => "HO_ELAPSED"
  | .KILN_HO_REMAIN => "HO_REMAIN"
  | .KILN_HO_LIMIT => "HO_LIMIT"
  | .KILN_SEL_CTL => "SEL_CTL"
  | .KILN_REF_ORDER_0 => "REF_ORDER_0"
  | .KILN_REF_ORDER_1 => "REF_ORDER_1"
  | .KILN_SLEW => "SLEW"
  | .KILN_LOOP => "LOOP"
  | .KILN_CFG => "CFG"
  | .KILN_CFG_2 => "CFG_2"
  | .KILN_CFG_3 => "CFG_3"
  | .KILN_REF_CFG => "REF_CFG"
  | .KILN_REF_ACC => "REF_ACC"
  | .KILN_REF_STAT => "REF_STAT"
  | .KILN_REF_OFFSET => "REF_OFFSET"
  | .KILN_REF_CNT => "REF_CNT"
  | .KILN_PPS_CFG => "PPS_CFG"
  | .KILN_VREF_CFG => "VREF_CFG"
  | .KILN_VREF_OFS => "VREF_OFS"
  | .KILN_OSC_CFG => "OSC_CFG"
  | .KILN_OSC_DAC => "OSC_DAC"
  | .KILN_OSC_TEMP => "OSC_TEMP"
  | .KILN_MODEL_Y0 => "MODEL_Y0"
  | .KILN_MODEL_AGING => "MODEL_AGING"
  | .KILN_MODEL_TC => "MODEL_TC"
  | .KILN_MODEL_UY => "MODEL_UY"
  | .KILN_MODEL_UD => "MODEL_UD"
  | .KILN_MODEL_UC => "MODEL_UC"
  | .KILN_TOUT_CTL => "TOUT_CTL"
  | .KILN_TOUT_START => "TOUT_START"
  | .KILN_TOUT_PERIOD => "TOUT_PERIOD"
  | .KILN_TOUT_WIDTH => "TOUT_WIDTH"
  | .KILN_CLK_CTL => "CLK_CTL"
  | .KILN_CLK_NUM => "CLK_NUM"
  | .KILN_EVT_CFG => "EVT_CFG"
  | .KILN_EVT_CAP_0 => "EVT_CAP_0"
  | .KILN_EVT_CAP_1 => "EVT_CAP_1"
  | .KILN_EVT_CAP_2 => "EVT_CAP_2"
  | .KILN_EVT_STAT => "EVT_STAT"
  | .KILN_UTC => "UTC"
  | .KILN_SET_CTL => "SET_CTL"
  | .KILN_CNT_EVT_LOST => "CNT_EVT_LOST"
  | .KILN_CNT_OSC_GLITCH => "CNT_OSC_GLITCH"
  | .KILN_NOW_SEC_LO => "NOW_SEC_LO"
  | .KILN_NOW_SEC_HI => "NOW_SEC_HI"
  | .KILN_NOW_NS => "NOW_NS"
  | .KILN_NOW_FRAC => "NOW_FRAC"
  | .KILN_COUNT => "COUNT"
  | .KILN_SET_SEC_LO => "SET_SEC_LO"
  | .KILN_SET_SEC_HI => "SET_SEC_HI"
  | .KILN_SET_NS => "SET_NS"
  | .GNSS_CTL => "CTL"
  | .GNSS_IF_CFG_A => "IF_CFG_A"
  | .GNSS_IF_CFG_B => "IF_CFG_B"
  | .GNSS_STAT => "STAT"
  | .GNSS_TEB => "TEB"
  | .GNSS_TRACK_CFG_A => "TRACK_CFG_A"
  | .GNSS_TRACK_CFG_B => "TRACK_CFG_B"
  | .GNSS_CH_STAT => "CH_STAT"
  | .GNSS_SV_EXCL => "SV_EXCL"
  | .GNSS_SV_EXCL_HI => "SV_EXCL_HI"
  | .GNSS_MEAS_PTR => "MEAS_PTR"
  | .GNSS_POS_X => "POS_X"
  | .GNSS_POS_Y => "POS_Y"
  | .GNSS_POS_Z => "POS_Z"
  | .GNSS_POS_UNC => "POS_UNC"
  | .GNSS_SURVEY => "SURVEY"
  | .GNSS_CFG => "CFG"
  | .GNSS_INTEG_CFG_0 => "INTEG_CFG_0"
  | .GNSS_INTEG_CFG_1 => "INTEG_CFG_1"
  | .GNSS_INTEG_CFG_2 => "INTEG_CFG_2"
  | .GNSS_INTEG_STAT => "INTEG_STAT"
  | .GNSS_CNT_CLK_GLITCH_A => "CNT_CLK_GLITCH_A"
  | .GNSS_CNT_CLK_GLITCH_B => "CNT_CLK_GLITCH_B"
  | .GNSS_CNT_EXCL => "CNT_EXCL"
  | .GNSS_CNT_UNTRUST => "CNT_UNTRUST"
  | .GNSS_CNT_LOCK_LOSS => "CNT_LOCK_LOSS"
  | .TSVC_CFG => "CFG"
  | .TSVC_ORG_ID => "ORG_ID"
  | .TSVC_STAT => "STAT"
  | .TSVC_CLOCK_ID => "CLOCK_ID"
  | .TSVC_PORT_CFG => "PORT_CFG"
  | .TSVC_NEG_CFG => "NEG_CFG"
  | .TSVC_NEG_LIM => "NEG_LIM"
  | .TSVC_PORT_STAT => "PORT_STAT"
  | .TSVC_RESV_TOTAL => "RESV_TOTAL"
  | .TSVC_PORT_CAL => "PORT_CAL"
  | .TSVC_SESS_SEL => "SESS_SEL"
  | .TSVC_SESS_CMD => "SESS_CMD"
  | .TSVC_SESS_DATA => "SESS_DATA"
  | .TSVC_KEY_STAGE => "KEY_STAGE"
  | .TSVC_KEY_ID => "KEY_ID"
  | .TSVC_KEY_LOAD => "KEY_LOAD"
  | .TSVC_GKEY_STAT => "GKEY_STAT"
  | .TSVC_NTS_MKEY_STAT => "NTS_MKEY_STAT"
  | .TSVC_NTP_CFG => "NTP_CFG"
  | .TSVC_GKEY_ID => "GKEY_ID"
  | .TSVC_NTS_MKEY_ID => "NTS_MKEY_ID"
  | .TSVC_INJECT_CTL => "INJECT_CTL"
  | .TSVC_INJECT_ID => "INJECT_ID"
  | .TSVC_TXTS_0 => "TXTS_0"
  | .TSVC_TXTS_1 => "TXTS_1"
  | .TSVC_TXTS_2 => "TXTS_2"
  | .TSVC_TXTS_3 => "TXTS_3"
  | .TSVC_INJECT_ADDR => "INJECT_ADDR"
  | .TSVC_TXTS_STAT => "TXTS_STAT"
  | .TSVC_CNT_NOT_RUN => "CNT_NOT_RUN"
  | .TSVC_CNT_FILTER => "CNT_FILTER"
  | .TSVC_CNT_NOSESS => "CNT_NOSESS"
  | .TSVC_CNT_AUTH_FAIL => "CNT_AUTH_FAIL"
  | .TSVC_CNT_REPLAY => "CNT_REPLAY"
  | .TSVC_CNT_OVERLOAD => "CNT_OVERLOAD"
  | .TSVC_CNT_NTS_NAK => "CNT_NTS_NAK"
  | .TSVC_CNT_TXTS_LOST => "CNT_TXTS_LOST"
  | .MNTL_CTL => "CTL"
  | .MNTL_LEASE => "LEASE"
  | .MNTL_STAT => "STAT"
  | .MNTL_SIG_STAT => "SIG_STAT"
  | .MNTL_HEALTH_OWN => "HEALTH_OWN"
  | .MNTL_HEALTH_TWIN => "HEALTH_TWIN"
  | .MNTL_CNT_CLAIM => "CNT_CLAIM"
  | .MNTL_CNT_LAPSE => "CNT_LAPSE"
  | .MNTL_CNT_CONFLICT => "CNT_CONFLICT"
  | .MNTL_CNT_HANDOVER => "CNT_HANDOVER"
  | .MNTL_CNT_SIG_MISMATCH => "CNT_SIG_MISMATCH"
  | .MNTL_CNT_LANE_TEST => "CNT_LANE_TEST"
  | .FLT_SRC_CFG => "SRC_CFG"
  | .FLT_SRC_STAT => "SRC_STAT"
  | .FLT_STANDING => "STANDING"
  | .FLT_STAT => "STAT"
  | .FLT_PIN_CTL => "PIN_CTL"
  | .FLT_FENCE_CMD => "FENCE_CMD"
  | .FLT_FENCE_STAT => "FENCE_STAT"
  | .FLT_HEM_CFG => "HEM_CFG"
  | .FLT_LOG_PTR => "LOG_PTR"
  | .FLT_LOG_ACK => "LOG_ACK"
  | .FLT_LOG_SEL => "LOG_SEL"
  | .FLT_LOG_DATA => "LOG_DATA"
  | .FLT_CNT_LOG_OVF => "CNT_LOG_OVF"
  | .HCP_CFG => "CFG"
  | .HCP_SLOT_STAT => "SLOT_STAT"
  | .HCP_SLOT_OPENS => "SLOT_OPENS"
  | .HCP_SESS_STAT => "SESS_STAT"
  | .HCP_SESS_ID => "SESS_ID"
  | .HCP_CNT_AUTH_FAIL => "CNT_AUTH_FAIL"
  | .HCP_CNT_SEQ_ERR => "CNT_SEQ_ERR"
  | .HCP_CNT_FORMAT => "CNT_FORMAT"
  | .HCP_CNT_OVERLOAD => "CNT_OVERLOAD"
  | .HCP_CNT_EVT_LOST => "CNT_EVT_LOST"
  | .CTRL_ISLAND_CLK => "ISLAND_CLK"
  | .CTRL_DEV_STATE => "DEV_STATE"
  | .CTRL_DEFAULT_ERR => "DEFAULT_ERR"
  | .CTRL_DEV_ID => "DEV_ID"
  | .HOP_CH_CTL => "CH_CTL"
  | .HOP_CH_CFG => "CH_CFG"
  | .HOP_CH_STAT => "CH_STAT"
  | .HOP_CH_DESC => "CH_DESC"
  | .HOP_CH_RESID => "CH_RESID"
  | .CRC_CFG => "CFG"
  | .CRC_CTL => "CTL"
  | .CRC_POLY => "POLY"
  | .CRC_INIT => "INIT"
  | .CRC_XOROUT => "XOROUT"
  | .CRC_PREFIX => "PREFIX"
  | .CRC_VALUE => "VALUE"
  | .CRC_RESULT => "RESULT"
  | .CRC_FEED => "FEED"
  | .BOOT_STAT => "STAT"
  | .BOOT_STG_STAT => "STG_STAT"
  | .BOOT_TRIAL => "TRIAL"
  | .BOOT_RELAY_CTL => "RELAY_CTL"
  | .BOOT_RELAY_MASK => "RELAY_MASK"
  | .BOOT_ACT_VER => "ACT_VER"
  | .BOOT_ACT_SVN => "ACT_SVN"
  | .BOOT_MIN_SVN => "MIN_SVN"
  | .BOOT_START_COUNT => "START_COUNT"
  | .BOOT_DEV_PUB => "DEV_PUB"
  | .BOOT_OWNER_STAT => "OWNER_STAT"
  | .PWR_CELLAR_CTL => "CELLAR_CTL"
  | .PWR_RAIL_STAT => "RAIL_STAT"
  | .PWR_TEMP => "TEMP"
  | .PWR_TEMP_PEAK => "TEMP_PEAK"
  | .PWR_TSENS_CFG => "TSENS_CFG"
  | .PWR_UART_CTL => "UART_CTL"
  | .PWR_UART_TX => "UART_TX"
  | .PWR_UART_RX => "UART_RX"

/-- The key of a register array's first field, which numbers the array. -/
def Reg.ix (r : Reg) : Nat := (r.fields.map Field.key).headD 1023

/-- The register arrays of a block, the common ones apart. -/
def Block.regs (b : Block) : List Reg := Reg.all.filter fun r => r.block == some b

/-- The block of a code. -/
def Block.ofCode (c : Nat) : Option Block := Block.all.find? fun b => b.code == c

/-- Bytes from one instance to the next (R822, R823). -/
def Reg.stride (r : Reg) : Nat := if r.w64 then 8 else 4

end Sys2Proof.Machine
end

