-- ==== Sys2Proof/Machine/RegRead.lean ====
section
/-! DEFINITION. Reading registers (00_scope R5, R11, R12, R16; 18_address_map; 15_hcp_control R732, R733): where an address
lies, what each field shows, and what a read does. -/

set_option autoImplicit false

namespace Sys2Proof.Machine

/-! Addresses (R818 to R823). -/

/-- What lies at an address: a word of a register instance, or a word of a block's directory. -/
inductive Loc where
  | reg (r : Reg) (i : Nat) (hi : Bool)
  | dir (block word : Nat)
deriving DecidableEq, Repr

/-- Offset of instance 0 in the window. -/
def Reg.offset (r : Reg) : Nat :=
  match r with
  | .COM_BLK_ID => 0
  | .COM_BLK_DIR_INFO => 4
  | .COM_BLK_FAULT => 8
  | .COM_BLK_SCRATCH => 0xC
  | .WARP_DST_ROUTE => 0x8000
  | r => Config.ownOffset r.ix % 2 ^ 20

/-- The address of a word. -/
def Loc.addr : Loc → Nat
  | .reg r i hi =>
    match r.block with
    | some b => b.code * 2 ^ 20 + r.offset + i * r.stride + (if hi then 4 else 0)
    | none => i * 2 ^ 20 + r.offset
  | .dir b w => b * 2 ^ 20 + 0x100 + 4 * w

/-- What lies at an address as a number (R819, R820). -/
def locAt (a : Nat) : Option Loc :=
  match Block.ofCode (a / 2 ^ 20) with
  | some b =>
    let off := a % 2 ^ 20
    if a % 4 ≠ 0 then none
    else if off < 0x10 then (Reg.ofCom[off / 4]?).map fun r => .reg r b.code false
    else if 0x100 ≤ off ∧ off < 0x100 + 12 * b.regs.length then some (.dir b.code ((off - 0x100) / 4))
    else if off < 0x1000 then none
    else
      (b.regs.find? fun r => decide (r.offset ≤ off ∧ off < r.offset + r.count * r.stride)).map fun r =>
        .reg r ((off - r.offset) / r.stride) (r.w64 && (off - r.offset) % 8 == 4)
  | none => none

/-- What a command's address names. -/
def RegAddr.loc : RegAddr → Option Loc
  | .named r i hi =>
    if i < r.count ∧ (hi → r.w64) ∧ (r.block = none → 1 ≤ i) then some (.reg r i hi) else none
  | .raw a => locAt a.toNat

/-- The address as a number; 0 for a name that no register has. -/
def RegAddr.num : RegAddr → Nat
  | .raw a => a.toNat
  | a => (a.loc.map Loc.addr).getD 0

/-- An instance that the configuration rejects answers ERR_ADDR (R824; 08_mash R377). -/
def State.rejected (s : State) : Loc → Bool
  | .reg r i _ => (r == .MASH_ROUTE || r == .MASH_OUT_DELAY) && s.on Fld.MASH_CFG_RATE 0 && decide (16384 ≤ i)
  | .dir _ _ => false

/-- The place of the word `k` words further on (R732). -/
def Loc.plus (l : Loc) (k : Nat) : Option Loc :=
  match l with
  | .reg r i hi =>
    let n := if r.w64 then 2 else 1
    let w := i * n + (if hi then 1 else 0) + k
    if r.block.isSome ∧ w < r.count * n then some (.reg r (w / n) (w % n == 1)) else locAt (l.addr + 4 * k)
  | .dir _ _ => locAt (l.addr + 4 * k)

/-- A word of a block's directory (R821 to R823). -/
def dirWord (b w : Nat) : Nat :=
  match Block.ofCode b with
  | some blk =>
    let regs := blk.regs
    match regs[Config.dirEntry b (w / 3) % regs.length]? with
    | some r =>
      match w % 3 with
      | 0 => crc32 (r.dirName.toList.map fun c => BitVec.ofNat 8 c.toNat)
      | 1 => b2n r.w64 * 2 ^ 31 + r.offset
      | _ => r.count * 65536 + r.stride
    | none => 0
  | none => 0

/-! What fields show. -/

/-- A bit map of 32 sources from `g` * 32 on (14_faults_hem, STANDING). -/
def State.standingWord (s : State) (g : Nat) : Nat :=
  ((List.range 32).map fun b => b2n (s.fsStands (32 * g + b)) * 2 ^ b).sum

/-- The held engine's shadow bank differs from the bank in force (08_mash_audio R411). -/
def State.shadowDirty (s : State) (e : Nat) : Bool :=
  (s.directs .eng e).any fun c => c.items.any fun it =>
    it.reg.fields.any fun f => f.acc == .s &&
      ((s.directs .eng e).flatMap fun c => c.items).foldl
        (fun v x => if x.reg = it.reg ∧ x.inst = it.inst then f.merge v x.val x.mask else v) (s.rd f it.inst) != s.rd f it.inst

/-- Write items that a change set holds (01_architecture R27). -/
def ChangeSet.items (c : ChangeSet) : Nat := (c.entries.map fun e => e.items.length).sum

/-- SELF_OK (17_startup_update R806). -/
def State.selfOk (s : State) : Bool :=
  (s.mode == .service || s.mode == .degraded) && s.on Fld.KILN_STAT_TIME_VALID 0 && !s.boot.bad
    && (!s.on Fld.MNTL_CTL_EN 0 || s.notHealthy / 2 % 64 == 0)

/-- Since when SELF_OK has held, when it holds: the last change of a standing condition, or the end of a recent error. -/
def State.selfSince (s : State) : Nat :=
  if s.on Fld.MNTL_CTL_EN 0 then max s.boot.selfAt (s.timedHealth) else s.boot.selfAt

/-- CTRL.DEV_STATE.TRIAL. -/
def State.trial (s : State) : Bool := s.on Fld.CTRL_DEV_STATE_TRIAL 0

/-- Whole seconds left until a time, rounded up. -/
def State.secondsTo (s : State) (t : Nat) : Nat := (t - s.up + sec 1 - 1) / sec 1

/-- A candidate's REF_STAT.STATE: 0 disabled, 1 unavailable, 2 qualifying, 3 qualified, 4 selected. -/
def State.refState (s : State) (k : Nat) : Nat :=
  let r := s.refOf k
  if !s.on Fld.KILN_REF_CFG_EN k then 0
  else if s.rd Fld.KILN_STAT_SELECTED 0 = k then 4
  else if !s.refAvail k then 1
  else if r.qual then 3 else 2

/-- FREEZE_LEFT (06_cask R283, R284), in ms, rounded up. -/
def State.freezeLeft (s : State) (d : Nat) : Nat :=
  match s.on Fld.CASK_FS_STAT_FROZEN d, (s.dstOf d).frozenAt with
  | true, some t => (t + fine (ms (s.rd Fld.CASK_FS_CTL_FREEZE_MS d)) - fine s.now + fine (ms 1) - 1) / fine (ms 1)
  | _, _ => 0

/-- A 64-bit coordinate as POS_X, POS_Y or POS_Z shows it: in surveyed hold the surveyed one (11_gnss R575). -/
def State.posShown (s : State) (f : Field) (k : Nat) : Nat :=
  match s.gnss.surveyed with
  | some l => if s.rd Fld.GNSS_CTL_POS_MODE 0 = 2 then l.getD k 0 else s.rd f 0
  | none => s.rd f 0

/-- FAULT_N and REPLACE_N (14_faults_hem R690, R692, R694; 17_startup_update R794). -/
def State.faultN (s : State) : Bool :=
  s.mode != .cellar && (s.on Fld.FLT_STAT_PULSE 0 || s.on Fld.FLT_PIN_CTL_FAULT_HOLD 0 || s.flt.startHold)
def State.replaceN (s : State) : Bool := s.mode != .cellar && s.replaceStands

/-- The staged half of an audio port's mask: what a direct write has staged, over what is in force. -/
def State.maskStaged (s : State) (r : Reg) (f : Field) (p : Nat) : Nat :=
  (s.staged.filter fun w => w.reg == r && w.inst == p).foldl (fun v w => f.merge v w.val w.mask) (s.rd f p)

/-- How long a UART byte takes: 10 bits at the rate of BAUD (19_electrical R859). -/
def State.uartByte (s : State) : Nat :=
  sec 10 / (match s.rd Fld.PWR_UART_CTL_BAUD 0 with
    | 0 => 9600 | 1 => 19200 | 2 => 57600 | _ => 115200)

/-- Bytes of the transmit FIFO that have gone out by now. -/
def State.uartSent (s : State) : Nat := min s.pwr.tx.length ((s.up - s.pwr.txAt) / s.uartByte)

/-- Bytes that have gone out leave the FIFO; the model shows them when it next looks (log entry 61, DESIGN CHOICE). -/
def State.uartDrain (s : State) : State :=
  let n := s.uartSent
  let p := { s.pwr with tx := s.pwr.tx.drop n, txAt := s.pwr.txAt + n * s.uartByte }
  (s.onPwr fun _ => p).setOut (s.out ++ (s.pwr.tx.take n).map .uartByte)

/-- Whether no configuration has been applied since reset: the routes, which are BLACK unless the image sets them (05_warp R871), still
read 0 (R826). -/
def State.blank (s : State) : Bool := s.mode == .startUp && decide (s.rd Fld.BOOT_STAT_STAGE 0 ≤ 4)

/-- What a field shows: the value in force, or for a field that follows other state what that state makes it. -/
def State.shown (s : State) (r : Reg) (f : Field) (i : Nat) : Nat :=
  match r with
  | .COM_BLK_ID => if f.lsb = 24 then i else s.rd f i
  | .COM_BLK_DIR_INFO => ((Block.ofCode i).map fun b => b.regs.length).getD 0
  | .COM_BLK_FAULT => match (Block.ofCode i).bind Block.group with
    | some g => s.standingWord g
    | none => 0
  | .IZL_LINK_STAT => if f.lsb = 3 then b2n (s.pos35Off i) else s.rd f i
  | .ETH_PORT_TX_RESV => s.portResv i
  | .WARP_DST_ROUTE =>
    match f.lsb with
    | 31 => b2n ((s.waiting .dst i).any fun c => c.route.isSome)
    | 16 => if s.blank then 0 else s.stagedValue .WARP_DST_ROUTE Fld.WARP_DST_ROUTE_SRC i
    | 0 => if s.blank then 0 else s.rd f i
    | _ => s.rd f i
  | .WARP_DST_STAT =>
    match f.lsb with
    | 30 => if s.blank then s.rd f i else b2n (s.on f i && s.rd Fld.WARP_DST_ROUTE_SRC i != black)
    | 26 => b2n (s.fenced .dst i)
    | _ => s.rd f i
  | .WARP_CS_STAT =>
    let c := s.csOf i
    match f.lsb with
    | 28 => c.state
    | 27 => b2n c.allOrNone
    | 26 => b2n c.auto
    | 25 => b2n c.now
    | 12 => c.entries.length
    | _ => (c.entries.filter fun e => e.status == 0).length
  | .WARP_CS_STORE => 65536 - (s.cs.map fun p => p.2.items).sum
  | .WARP_CS_ARM => (s.csOf i).armReg
  | .WARP_CS_PREP => (s.csOf i).prepReg
  | .CASK_FS_STAT => if f.lsb = 0 then s.freezeLeft i else s.rd f i
  | .CASK_SURF_STAT =>
    let x := s.surfOf i
    match f.lsb with
    | 30 => s.surfState i
    | 29 => b2n x.apron
    | 14 => satTo 255 (s.forceRefs i + s.otherRefs i)
    | _ => x.blocks
  | .CASK_POOL_STAT => if f.lsb = 16 then s.freeBlocks else s.rd f i
  | .CASK_BW_CLASS => Config.classRate i s.up % 65536
  | .STCH_HEAD_STAT => if f.lsb = 25 then b2n (s.fenced .head i) else s.rd f i
  | .MASH_ROUTE => if f.lsb = 30 then b2n (s.followAt i).isSome else s.rd f i
  | .MASH_BUSIN => if s.on Fld.MASH_BUSIN_MAP_ASSIGNED i then s.rd f i else 0
  | .MASH_BUS_STAT => if f.lsb = 30 then b2n (s.fenced .bus i) else s.rd f i
  | .MASH_ENG_STAT =>
    match f.lsb with
    | 31 => b2n (s.shadowDirty i)
    | 30 => b2n ((s.waiting .eng i).any fun c => c.src.isSome)
    | _ => s.rd f i
  | .APRT_MASK_STG_LO => s.maskStaged .APRT_MASK_LO Fld.APRT_MASK_LO_MASK i
  | .APRT_MASK_STG_HI => s.maskStaged .APRT_MASK_HI Fld.APRT_MASK_HI_MASK i
  | .APRT_PORT_STAT => if f.lsb = 27 then b2n (!(s.waiting .aport i).isEmpty) else s.rd f i
  | .KILN_STAT =>
    match f.lsb with
    | 27 => b2n s.traceable
    | 25 => b2n (s.absorbed ≠ 0)
    | _ => s.rd f i
  | .KILN_TEB => s.teb
  | .KILN_OFFSET_REM => ofInt 32 (max (-(2 ^ 31)) (min (2 ^ 31 - 1) (s.absorbed / 65536)))
  | .KILN_COUNT => s.count
  | .KILN_REF_STAT =>
    if f.lsb = 29 then s.refState i
    else match s.refState i, (s.refOf i).since with
      | 2, some t => satTo 255 (s.secondsTo (t + sec (s.rd Fld.KILN_REF_CFG_QUAL_S i)))
      | _, _ => 0
  | .GNSS_POS_X => s.posShown f 0
  | .GNSS_POS_Y => s.posShown f 1
  | .GNSS_POS_Z => s.posShown f 2
  | .GNSS_POS_UNC => s.posShown f 3
  | .TSVC_STAT => b2n s.boundaryClock
  | .TSVC_PORT_STAT =>
    if f.lsb = 0 then resvShown (s.ptpResv i)
    else match s.ptpRole i with
      | 0 => 0
      | 1 => if s.tsRun then 2 else 0
      | _ => s.rd f i
  | .TSVC_RESV_TOTAL => resvShown s.ptpResvAll
  | .MNTL_STAT =>
    match f.lsb with
    | 19 => b2n s.healthy
    | 0 => s.holdoffLeft
    | _ => s.rd f i
  | .FLT_SRC_STAT =>
    match f.lsb with
    | 31 => b2n (s.fsStands i)
    | 30 => b2n ((faultInfo i).any fun p => p.1)
    | _ => s.rd f i
  | .FLT_STANDING => s.standingWord i
  | .FLT_STAT =>
    match f.lsb with
    | 31 => b2n s.faultN
    | 30 => b2n s.replaceN
    | _ => s.rd f i
  | .FLT_FENCE_STAT => s.flt.fenced.length
  | .FLT_LOG_DATA => beAt (s.logBytes (s.rd Fld.FLT_LOG_SEL_INDEX 0)) (4 * i) 4
  | .HCP_SESS_STAT =>
    let x := s.sessOf i
    match f.lsb with
    | 31 => b2n x.active
    | 30 => b2n x.pending
    | 26 => x.slot
    | 25 => b2n x.ctl1
    | _ => x.subs
  | .HCP_SESS_ID => (s.sessOf i).id
  | .CTRL_DEV_STATE => if f.lsb = 8 then satTo 255 s.flt.fenced.length else s.rd f i
  | .CTRL_DEV_ID => if f.lsb = 12 then b2n Config.grade else s.rd f i
  | .CRC_RESULT => s.crcShown i
  | .BOOT_TRIAL =>
    match f.lsb with
    | 29 => b2n s.selfOk
    | 28 => b2n s.boot.run.requireHost
    | 12 => if s.trial then s.secondsTo (s.boot.startAt + sec s.boot.run.confirmS) else 0
    | 0 => if !s.trial then 0
      else if s.selfOk then s.secondsTo (s.selfSince + sec s.boot.run.holdS) else s.boot.run.holdS
    | _ => s.rd f i
  | .BOOT_DEV_PUB => Config.devPub i % 2 ^ 32
  | .BOOT_OWNER_STAT =>
    ((List.range 4).map fun k =>
      match s.boot.fuses.find? fun p => p.1 == k with
      | some p => (if p.2.1.isSome then 2 ^ k else 0) + (if p.2.2 then 2 ^ (4 + k) else 0)
      | none => 0).sum
  | .PWR_UART_TX => if f.lsb = 8 then satTo 255 (256 - (s.pwr.tx.length - s.uartSent)) else s.rd f i
  | .PWR_UART_RX =>
    match f.lsb with
    | 31 => b2n s.pwr.rx.isEmpty
    | 30 => b2n s.pwr.lost
    | _ => (s.pwr.rx.head?.map fun b => b.toNat).getD 0
  | _ => s.rd f i

/-! Islands with an external clock (01_architecture R39, R42, R43). -/

/-- The island with an external clock that a register instance lies in: the receive islands of the bundles, the Ethernet
ports, the GNSS sample clocks and the audio ports (R39; log entry 58, DESIGN CHOICE). -/
def Reg.island (r : Reg) (i : Nat) : Option Nat :=
  let n := match r.block with
    | some .izl => if r.count = 33 then some i else if r.count = 264 then some (i / 8) else none
    | some .eth => if r.count = 18 then some (34 + i) else none
    | some .aprt => some (80 + i)
    | some .gnss => match r with
      | .GNSS_IF_CFG_A => some 76
      | .GNSS_IF_CFG_B => some 77
      | _ => none
    | _ => none
  if Config.inIsland r.ix then n else none

/-- CTRL.ISLAND_CLK: whether the clock of an island is present. -/
def State.clockThere (s : State) (n : Nat) : Bool := bitOf (s.rd Fld.CTRL_ISLAND_CLK_PRESENT (n / 32)) (n % 32)

/-- Whether a field is status or a counter, which the control island mirrors (R41, R43). -/
def Field.mirrored (f : Field) : Bool := f.acc == .ro || f.acc == .rc

/-- The instances of a register array that lie in an island. -/
def Reg.inIslandOf (r : Reg) (n : Nat) : List Nat :=
  ((List.range 8).map (8 * n + ·) ++ [n, n - 34, n - 80, 0]).eraseDups.filter fun i => decide (i < r.count) && r.island i == some n

/-- The mirror keeps what an island's status and counters show now (R43). -/
def State.mirrorIsland (s : State) (n : Nat) : State :=
  if s.clockThere n then
    let seen := Reg.all.flatMap fun r => (r.inIslandOf n).flatMap fun i =>
      (r.fields.filter Field.mirrored).map fun f => (f.at i, s.shown r f i)
    s.setMirror ((n, seen) :: s.mirror.filter fun p => p.1 != n)
  else s

/-- An island's clock is back: its status and counters are read again as they are. -/
def State.dropMirror (s : State) (n : Nat) : State := s.setMirror (s.mirror.filter fun p => p.1 != n)

/-- What a read sees of a field: what it shows, or while its island's clock is gone what it showed last (R43). An island that
has not lost its clock since reset is read as it is (log entry 58, DESIGN CHOICE). -/
def State.seen (s : State) (r : Reg) (f : Field) (i : Nat) : Nat :=
  match s.mirror.find? fun p => r.island i == some p.1 && f.mirrored with
  | some p => tget 0 p.2 (f.at i)
  | none => s.shown r f i

/-- A register's value, 64 bits for a pair: reserved bits read 0 (R12). With `staged` each S field shows its staged value
(R5, R732). -/
def State.regValue (s : State) (r : Reg) (i : Nat) (staged : Bool) : Nat :=
  r.fields.foldl (fun w f =>
    w + (if staged && f.acc == .s then s.stagedValue r f i else s.seen r f i) % 2 ^ f.width * 2 ^ f.lsb) 0

/-! What a read does. -/

/-- A read of an event input's oldest capture (10_kiln R473). -/
def State.evtCapRead (s : State) (n : Nat) : Nat × State :=
  match tget [] s.kiln.evq n with
  | [] => (2 ^ 31, s)
  | (falling, t) :: rest =>
    let s := s.onKiln fun k => { k with evq := tput [] k.evq n rest }
    (b2n falling * 2 ^ 30 + t % 65536,
      (s.wr Fld.KILN_EVT_CAP_1_NS n (t % sec 1 / 65536)).wr Fld.KILN_EVT_CAP_2_SEC n (t / sec 1))

/-- A read of NOW_SEC_LO latches the rest of the time (10_kiln R468). -/
def State.nowRead (s : State) : Nat × State :=
  let sc := s.now / sec 1
  (sc % 2 ^ 32,
    (((s.wr Fld.KILN_NOW_SEC_LO_SEC 0 sc).wr Fld.KILN_NOW_SEC_HI_SEC 0 (sc / 2 ^ 32)).wr Fld.KILN_NOW_NS_NS 0
      (s.now % sec 1 / 65536)).wr Fld.KILN_NOW_FRAC_FRAC 0 (s.now % 65536))

/-- A read of UART_RX removes the oldest byte, and clears OVF (19_electrical). -/
def State.uartRead (s : State) : Nat × State :=
  (s.regValue .PWR_UART_RX 0 false, (s.onPwr fun z => { z with rx := s.pwr.rx.drop 1, lost := false }))

/-- Clear the RC fields of a register (R11). -/
def State.clearRc (s : State) (r : Reg) (i : Nat) : State :=
  (r.fields.filter fun f => f.acc == .rc).foldl (fun s f => s.wr f i 0) s

/-- Read one register whole, with what the read does: an RC field is cleared with the read (R11). -/
def State.readReg (s : State) (r : Reg) (i : Nat) (staged : Bool) : Nat × State :=
  match r with
  | .KILN_EVT_CAP_0 => s.evtCapRead i
  | .KILN_NOW_SEC_LO => s.nowRead
  | .TSVC_TXTS_0 => s.txtsRead i
  | .PWR_UART_RX => s.uartRead
  | .PWR_TEMP_PEAK =>
    (s.regValue r i staged, (s.clearRc r i).onPwr fun z => { z with peakFresh := true })
  | _ => (s.regValue r i staged, s.clearRc r i)

/-- Read one word. Both words of a 64-bit value within one READ are of one moment (R733). -/
def State.readLoc (s : State) (l : Loc) (staged : Bool) : Nat × State :=
  match l with
  | .reg r i hi =>
    let p := s.readReg r i staged
    (if hi then p.1 / 2 ^ 32 else p.1 % 2 ^ 32, p.2)
  | .dir b w => (dirWord b w, s)

/-- Read words in order. -/
def State.readLocs (s : State) (staged : Bool) : List Loc → List Nat × State
  | [] => ([], s)
  | l :: ls =>
    let p := s.readLoc l staged
    let q := p.2.readLocs staged ls
    (p.1 :: q.1, q.2)

/-- The consecutive places of a READ; none when any of them holds no register (R732). -/
def State.range (s : State) (a : RegAddr) (n : Nat) : Option (List Loc) :=
  match a.loc with
  | some l =>
    let ls := (List.range n).map l.plus
    if ls.all (fun x => match x with | some l => !s.rejected l | none => false) then some (ls.filterMap id) else none
  | none => none

/-- A read of one register word by a master. A session's is an HCP READ of one word, whose latch ends with it (R733); any
other master's latch holds the upper word until it is read or latched afresh (R16). -/
def State.masterRead (s : State) (m : Master) (a : RegAddr) : Status × List Nat × State :=
  match s.range a 1, m with
  | some [l], .sess k =>
    if s.rd Fld.HCP_SLOT_STAT_RIGHTS (s.sessOf k).slot % 2 = 0 then (.errAccess, [], s)
    else
      let p := s.readLoc l false
      (.ok, [p.1], p.2)
  | some [.reg r i true], m =>
    match s.latch.find? fun x => x.by_ == m && x.reg == r && x.inst == i with
    | some x => (.ok, [x.hi], (s.setLatch (s.latch.filter fun y => !(y.by_ == m && y.reg == r && y.inst == i))))
    | none =>
      let p := s.readLoc (.reg r i true) false
      (.ok, [p.1], p.2)
  | some [.reg r i false], m =>
    if r.w64 then
      let v := s.regValue r i false
      let rest := s.latch.filter fun y => !(y.by_ == m && y.reg == r && y.inst == i)
      (.ok, [v % 2 ^ 32], (s.setLatch (⟨m, r, i, v / 2 ^ 32⟩ :: rest)))
    else
      let p := s.readLoc (.reg r i false) false
      (.ok, [p.1], p.2)
  | some ls, _ =>
    let p := s.readLocs false ls
    (.ok, p.1, p.2)
  | none, .sess _ => (.errAddr, [], s)
  | none, m => (.errAddr, [0], s.defaultAccess m.code false a.num)

/-- The common part of the register read commands. -/
def readCommand (dt : Nat) (m : Master) (a : RegAddr) (s : State) : Res :=
  onMain dt s fun s =>
    let r := s.masterRead m a
    r.2.2.emit (.result r.1 r.2.1)

/-- RC_COUNTER_READ (R11). -/
def execRcCounterRead (dt : Nat) (m : Master) (a : RegAddr) (s : State) : Res := readCommand dt m a s

/-- LOWER_WORD_READ (R16). -/
def execLowerWordRead (dt : Nat) (m : Master) (a : RegAddr) (s : State) : Res := readCommand dt m a s

/-- NOW_READ (10_kiln R468). -/
def execNowRead (dt : Nat) (m : Master) (s : State) : Res := readCommand dt m (.named .KILN_NOW_SEC_LO 0 false) s

/-- EVT_CAP_READ (10_kiln R473). -/
def execEvtCapRead (dt : Nat) (m : Master) (n : Fin 8) (s : State) : Res := readCommand dt m (.named .KILN_EVT_CAP_0 n false) s

/-- TXTS_READ (12_time R628). -/
def execTxtsRead (dt : Nat) (m : Master) (p : Fin 18) (s : State) : Res := readCommand dt m (.named .TSVC_TXTS_0 p false) s

/-- UART_RX_READ (19_electrical R859). -/
def execUartRxRead (dt : Nat) (m : Master) (s : State) : Res := readCommand dt m (.named .PWR_UART_RX 0 false) s

end Sys2Proof.Machine
end

