-- ==== Sys2Proof/Machine/Life.lean ====
section
/-! DEFINITION. Reset, restart, cellar mode, rails, temperature and the UART (01_architecture R46 to R52; 17_startup_update
R775 to R780; 18_address_map R825, R826; 19_electrical_package R835 to R847, R859, R864). -/

set_option autoImplicit false

namespace Sys2Proof.Machine

/-! Reset (R825, R826). -/

/-- Whether a place of the field store keeps its value through RESET_N: keep-alive registers, fields kept in Ledger, and the
BLK_SCRATCH of keep-alive blocks (R820, R825, R826). -/
def survives (at_ : Nat) : Bool :=
  Reg.all.any fun r => r.fields.any fun f => f.key == at_ % 1024 &&
    (f.form == .kept || r.keepAlive || (r == .COM_BLK_SCRATCH && (Block.ofCode (at_ / 1024)).any keepBlock))

/-- Where the flash's partitions lie in the model's memory: ACTIVE, STAGING and SCRATCH, beyond every Hopper address. -/
def flashAt : Nat := 3 * 2 ^ 62
def activeAt (off : Nat) : Nat := flashAt + off
def stagingAt (off : Nat) : Nat := flashAt + 0x8000000 + off
def scratchAt (off : Nat) : Nat := flashAt + 0x18000000 + off

/-- Condition sources of the keep-alive island and of power, which are evaluated again at start-up (14_faults_hem R693). -/
def keepConds : List Nat := [130, 131, 256, 258, 259, 260, 262, 288, 289, 291, 293, 450]

/-- Everything outside the keep-alive island, Ledger and the flash is lost (01_architecture R36; R35, R721, R825). Direct writes
staged for Kiln's outputs wait in island 75 (R40). -/
def State.resetMain (s : State) : State :=
  { s with
    rv := s.rv.filter fun p => survives p.1
    staged := s.staged.filter fun w => w.reg.keepAlive
    held := [], cs := [], latch := [], parked := [], mirror := []
    mem := s.mem.filter fun p => flashAt ≤ p.1
    flt := { log := s.flt.log, seq := s.flt.seq, ledgerOk := s.flt.ledgerOk }
    bnd := [], txb := [], egr := [], cell := {}, src := [], dst := []
    cask := { retired := s.cask.retired }
    head := [], bound := []
    mntl := { ledgerEpoch := s.mntl.ledgerEpoch }
    mash := {}, aprt := [], eth := {}, tsvc := {}, hcp := {}, hop := [], pwr := {}
    boot := { rec_ := s.boot.rec_, recA := s.boot.recA, recB := s.boot.recB, active := s.boot.active
              staging := s.boot.staging, factory := s.boot.factory,
              fuses := s.boot.fuses, resetPin := s.boot.resetPin, selfAt := s.up,
              conds := (s.flt.stand.map fun p => p.1).filter fun k => keepConds.contains (k / 8192) } }

/-- Candidates that are measured outside the keep-alive island are gone (10_kiln R483). -/
def State.refsLost (s : State) : State :=
  (s.each ((List.range 44).filter fun k => decide (5 ≤ k ∧ k ≤ 40) || k == 43) fun s k =>
    s.putRef k { s.refOf k with there := false }).refSettle

/-- The start-up sequence begins at stage 1 (R792, R795), after a mode (CTRL.DEV_STATE.PREV_MODE, which stays as it is when no mode was
left: after a power loss or a pulse of RESET_N in START_UP) and with FACTORY_N as it was sampled last. Kiln's candidates are followed
afresh (10_kiln R532). -/
def State.beginStart (s : State) (prev : Nat) (factory : Bool) : State :=
  let s := s.resetMain.setMode .startUp
  let s := if prev = 0 then s else s.wr Fld.CTRL_DEV_STATE_PREV_MODE 0 prev
  let s := s.setIso false
  let s := (s.wr Fld.BOOT_START_COUNT_COUNT 0 (s.rd Fld.BOOT_START_COUNT_COUNT 0 + 1)).flag Fld.BOOT_STAT_FACTORY_PIN 0 factory
  let s := s.onBoot fun b => { b with startAt := s.up }
  ((s.toStage 1).onKiln fun k => { k with bare := false, waitFrom := none, pllKiln := false }).refsLost

/-- A restart on a host request, or of a trial (R747, R808): a holder clears its flag and sends RELEASE first (R644). -/
def State.restart (s : State) : State := s.giveUp.beginStart s.mode.code (s.on Fld.BOOT_STAT_FACTORY_PIN 0)

/-- A restart that waits for an answer takes place (15_hcp_control R747). -/
def State.restartIfDue (s : State) : State := if s.boot.due then s.restart else s

/-- RESET_N_ASSERTED (R777, R778): every island outside the keep-alive island is held in reset. -/
def execResetNAsserted (dt : Nat) (s : State) : Res :=
  onKeep dt s fun s =>
    if s.boot.resetPin then s
    else
      let s := s.onBoot fun b => { b with resetPin := true }
      if s.mode = .cellar then s else (s.setIso true).refsLost

/-- A stay in CELLAR ends with a start that has kept time (R46, R52, R526). -/
def State.leaveCellar (s : State) (factory : Bool) : State := s.beginStart 4 factory

/-- RESET_N_DEASSERTED (R46, R48, R778, R780, R825): FACTORY_N and PREF are sampled. -/
def execResetNDeasserted (dt : Nat) (factory pref : Bool) (s : State) : Res :=
  onKeep dt s fun s =>
    if !s.boot.resetPin then s
    else
      let s := s.onBoot fun b => { b with resetPin := false }
      if s.mode = .cellar then
        if s.on Fld.PWR_CELLAR_CTL_CELLAR_PIN 0 then s else (s.leaveCellar factory).setPref pref
      else (s.beginStart s.mode.code factory).setPref pref

/-- KEEP_ALIVE_POR_RELEASE (R776, R837; 10_kiln R533): Kiln starts without kept time; what Ledger holds is there. -/
def execKeepAlivePorRelease (dt : Nat) (s : State) : Res :=
  let s := s.start dt
  .next (if !s.por then s else
    let prev := s.mode.code
    let lost := fun (r : Reg) => match r with
      | .KILN_STAT | .KILN_TEB | .KILN_OFFSET_REM | .KILN_HO_ELAPSED | .KILN_HO_REMAIN | .KILN_NOW_SEC_LO
      | .KILN_NOW_SEC_HI | .KILN_NOW_NS | .KILN_NOW_FRAC | .KILN_COUNT => true
      | _ => false
    let kept := fun (a : Nat) => Reg.all.any fun r => !lost r && r.fields.any fun f => f.key == a % 1024 && f.form == .kept
    let r := s.resetMain
    let r := { r with
      por := false, iso := true, now := 0, rv := r.rv.filter fun p => kept p.1
      kiln := { model := s.kiln.model, locked := s.kiln.locked, ledgerTime := s.kiln.ledgerTime
                cellarCfg := s.kiln.cellarCfg, xoLost := s.kiln.xoLost, xoFrom := s.kiln.xoFrom }
      gnss := { surveyed := s.gnss.surveyed, noise := s.gnss.noise, isb := s.gnss.isb, svc := s.gnss.svc,
                isbN := s.gnss.isbN }
      boot := { r.boot with resetPin := true, conds := r.boot.conds.filter fun k => k / 8192 == 130 || k / 8192 == 131 } }
    let r := (modelFields.zip s.kiln.model).foldl (fun r q => r.wr q.1 0 q.2) r
    let r := r.setMode .startUp
    if prev = 0 then r else r.wr Fld.CTRL_DEV_STATE_PREV_MODE 0 prev)

/-! Cellar mode (R46, R48 to R52). -/

/-- The keep-alive registers take the cellar configuration that Ledger holds, if it holds one (R51, R52). -/
def State.loadCellar (s : State) : State :=
  match s.kiln.cellarCfg with
  | some l =>
    let own := fun (a : Nat) => Reg.all.any fun r => r.keepAlive && r.fields.any fun f => f.key == a % 1024 && f.form == .image
    s.setRv (l.foldl (fun t p => tinsert t p.1 p.2) (s.rv.filter fun p => !own p.1))
  | none => s

/-- Entry into cellar mode (R49, R52, R644; 09_audio_ports R458; 10_kiln R531): the holder flag is cleared, the media stop, Mash is
silenced, the audio ports and CLK_OUT outputs stop, pulse inputs are not monitored (10_kiln R530), and Ledger is written. Before stage 4
the part runs from Ledger's copy, or bare without one. -/
def State.enterCellar (s : State) (byPin : Bool) : State :=
  let s := if s.iso then s else s.giveUp.each ((List.range 33).filter s.linkUp) fun s b => s.txPowerDown b
  let s := if s.configured then s.saveCellar else s.saveModel.loadCellar
  let bare := s.kiln.cellarCfg.isNone
  let s := s.each ((List.range 24).filter fun p => s.portState p != 0) State.portStop
  let m := { s.mash with silentFrom := some s.up }
  let s := ((s.onMash fun _ => m).onKiln fun k => { k with bare := bare }).setMode .cellar
  let s := (s.onGnss fun g => { g with refreshAt := s.up, noSol := 0 }).clocksLow
  let s := s.each ((List.range 44).filter fun k => refKind k == 1) State.refUnseen
  (s.onBoot fun b => { b with cellarByPin := byPin, stageAt := s.up }).refSettle

/-- CELLAR_N_ASSERTED (R46, R49): in any mode but CELLAR. -/
def execCellarNAsserted (dt : Nat) (s : State) : Res :=
  onKeep dt s fun s =>
    let s := s.flag Fld.PWR_CELLAR_CTL_CELLAR_PIN 0 true
    if s.mode = .cellar then s else s.enterCellar true

/-- A write of PWR.CELLAR_CTL.ENTER with 1 (R46): without effect in START_UP. -/
def State.cellarEnter (s : State) : State :=
  match s.mode with
  | .service | .degraded | .hem => (s.flag Fld.PWR_CELLAR_CTL_ENTER 0 true).enterCellar false
  | _ => s

/-- CELLAR_ENTRY_ISOLATED (R49): at most 20 ms after entry; the control island powers down. -/
def execCellarEntryIsolated (dt : Nat) (s : State) : Res :=
  onKeep dt s fun s =>
    if s.mode = .cellar then (s.setIso true).flag Fld.PWR_CELLAR_CTL_ENTER 0 false else s

/-- CELLAR_N_DEASSERTED (R46): a stay entered by CELLAR_N ends while RESET_N is deasserted. -/
def execCellarNDeasserted (dt : Nat) (pref : Bool) (s : State) : Res :=
  onKeep dt s fun s =>
    let s := s.flag Fld.PWR_CELLAR_CTL_CELLAR_PIN 0 false
    if s.mode = .cellar ∧ s.boot.cellarByPin ∧ !s.boot.resetPin then
      (s.leaveCellar (s.on Fld.BOOT_STAT_FACTORY_PIN 0)).setPref pref
    else s

/-! Rails (19_electrical_package R835 to R837). -/

/-- RAIL_OUT_OF_TOLERANCE (R835): `held` when the rail has stayed out for 10 us. -/
def execRailOutOfTolerance (dt : Nat) (rail : Fin 10) (held : Bool) (s : State) : Res :=
  onKeep dt s fun s =>
    let s := s.wr Fld.PWR_RAIL_STAT_OK 0 (setBitTo (s.rd Fld.PWR_RAIL_STAT_OK 0) rail false)
    let s := s.wr Fld.PWR_RAIL_STAT_WAS_OUT 0 (setBitTo (s.rd Fld.PWR_RAIL_STAT_WAS_OUT 0) rail true)
    if held ∧ s.mode ≠ .cellar ∧ !s.iso then s.raise 450 0 0 else s

/-- RAIL_RESTORED (R835): every rail is within tolerance. -/
def execRailRestored (dt : Nat) (s : State) : Res :=
  onKeep dt s fun s => (s.wr Fld.PWR_RAIL_STAT_OK 0 1023).lower 450 0

/-- MAIN_RAIL_COLLAPSE (R836): as if RESET_N had been asserted; in CELLAR the rails may be removed (R838). -/
def execMainRailCollapse (dt : Nat) (sram : Bool) (s : State) : Res :=
  onKeep dt s fun s =>
    let rail := if sram then 1 else 0
    let s := s.wr Fld.PWR_RAIL_STAT_OK 0 (setBitTo (s.rd Fld.PWR_RAIL_STAT_OK 0) rail false)
    let s := s.wr Fld.PWR_RAIL_STAT_WAS_OUT 0 (setBitTo (s.rd Fld.PWR_RAIL_STAT_WAS_OUT 0) rail true)
    if s.mode = .cellar then s
    else ((s.setIso true).onBoot fun b => { b with resetPin := true }).refsLost

/-- KEEP_RAIL_COLLAPSE (R837): the whole device is held in power-on reset. -/
def execKeepRailCollapse (dt : Nat) (s : State) : Res :=
  let s := s.start dt
  .next { s with por := true, iso := true }

/-! Temperature (R864). -/

/-- TEMP_SENSORS_SAMPLE (R864): TEMP shows the highest reading; FS_448 and FS_449 follow it with 2 degC of hysteresis. The
limit is 100 degC, or 105 degC for grade E (00_scope R1), in 0.125 degC. -/
def execTempSensorsSample (dt : Nat) (t : Vector (BitVec 16) 8) (s : State) : Res :=
  onMain dt s fun s =>
    let at_ := fun (k : Nat) => (t.toList.getD k 0).toInt
    let k := (List.range 8).foldl (fun k j => if at_ k < at_ j then j else k) 0
    let r := at_ k
    let lim : Int := if Config.grade then 840 else 800
    let s := (s.wr Fld.PWR_TEMP_TJ 0 (ofInt 16 r)).wr Fld.PWR_TEMP_SENSOR 0 k
    let s := if s.pwr.peakFresh || decide (s.srd Fld.PWR_TEMP_PEAK_TJ 0 < r) then s.wr Fld.PWR_TEMP_PEAK_TJ 0 (ofInt 16 r) else s
    let p := { s.pwr with peakFresh := false }
    let s := s.onPwr fun _ => p
    let s := if lim - 40 ≤ r then s.raise 449 0 0 else if r < lim - 56 then s.lower 449 0 else s
    if lim < r then s.raise 448 0 0 else if r ≤ lim - 16 then s.lower 448 0 else s

/-! The UART (R859). -/

/-- A write of UART_TX.DATA queues a byte; it is refused when the FIFO is full. A stopped UART queues nothing. -/
def State.uartWrite (s : State) (b : Nat) : Status × State :=
  let s := if s.on Fld.PWR_UART_CTL_EN 0 then s.uartDrain else s
  if !s.on Fld.PWR_UART_CTL_EN 0 then (.ok, s.wr Fld.PWR_UART_TX_DATA 0 b)
  else if s.pwr.tx.length ≥ 256 then (.errFull, s)
  else
    let at_ := if s.pwr.tx.isEmpty then s.up else s.pwr.txAt
    let p := { s.pwr with tx := s.pwr.tx ++ [BitVec.ofNat 8 b], txAt := at_ }
    (.ok, (s.onPwr fun _ => p).wr Fld.PWR_UART_TX_DATA 0 b)

/-- EN is written: 0 empties both FIFOs. -/
def State.uartEnable (s : State) (en : Bool) : State :=
  let s := if s.on Fld.PWR_UART_CTL_EN 0 then s.uartDrain else s
  let p := { s.pwr with tx := [], rx := [] }
  let s := s.flag Fld.PWR_UART_CTL_EN 0 en
  if en then s else s.onPwr fun _ => p

/-- UART_BYTE_RECEIVED (R859). -/
def execUartByteReceived (dt : Nat) (b : Byte) (s : State) : Res :=
  onMain dt s fun s =>
    if !s.on Fld.PWR_UART_CTL_EN 0 then s
    else
      let p := if s.pwr.rx.length ≥ 256 then { s.pwr with lost := true } else { s.pwr with rx := s.pwr.rx ++ [b] }
      s.onPwr fun _ => p

/-! Owner fuses (R790). -/

/-- The fuse slot of an owner: its digest when programmed, and whether it is revoked. -/
def State.fuse (s : State) (k : Nat) : Option Nat × Bool := tget (none, false) s.boot.fuses k

/-- OWNER_SLOT_PROGRAM (R790): over JTAG; a fuse once programmed keeps its digest. -/
def execOwnerSlotProgram (dt : Nat) (k : Fin 4) (digest : BitVec 384) (s : State) : Res :=
  onMain dt s fun s =>
    match s.fuse k with
    | (none, r) => s.onBoot fun b => { b with fuses := tput (none, false) b.fuses k (some digest.toNat, r) }
    | _ => s

/-- OWNER_SLOT_REVOKE (R790): the slot stays revoked. -/
def execOwnerSlotRevoke (dt : Nat) (k : Fin 4) (s : State) : Res :=
  onMain dt s fun s => s.onBoot fun b => { b with fuses := tput (none, false) b.fuses k ((s.fuse k).1, true) }

end Sys2Proof.Machine
end

