-- ==== Sys2Proof/Machine/RegCheck.lean ====
section
/-! DEFINITION. The checks of a register write (00_scope R4 to R14, R867; 15_hcp_control R716, R729, R748; and the refusals
of the chapters): which fields a write names, whether their unit is stopped, and whether their values are permitted. -/

set_option autoImplicit false

namespace Sys2Proof.Machine

/-! What a write names. -/

/-- A write of one word: a register instance, its upper word or not, a value and a mask. -/
structure WItem where
  reg : Reg
  inst : Nat
  hi : Bool
  val : Nat
  mask : Nat
deriving DecidableEq, Repr

/-- The write as one of the whole register. -/
def WItem.wide (w : WItem) : CsItem :=
  { reg := w.reg, inst := w.inst, val := if w.hi then w.val * 2 ^ 32 else w.val,
    mask := if w.hi then w.mask * 2 ^ 32 else w.mask }

/-- Whether a write names a field: a bit of its mask lies in the field. -/
def CsItem.hits (it : CsItem) (f : Field) : Bool := f.maskOf it.mask != 0

/-- Whether a write has a 1 for a bit of a field. -/
def CsItem.ones (it : CsItem) (f : Field) : Nat := bitsOf (it.val &&& it.mask) f.lsb f.width

/-- A write without the bits of a field. -/
def CsItem.less (it : CsItem) (f : Field) : CsItem :=
  { it with mask := it.mask - f.maskOf it.mask * 2 ^ f.lsb }

/-- Whether an access class is writable (R13). -/
def Acc.writable : Acc → Bool
  | .l | .s | .h | .w1c | .w1s => true
  | .ro | .rc => false

/-- The writable fields of a register instance (R13): some instances hold none, by their tables and by 08_mash R397,
09_audio_ports, 14_faults_hem R674 and 15_hcp R723. -/
def State.writable (s : State) (r : Reg) (i : Nat) : List Field :=
  let none_ := match r with
    | .FLT_SRC_CFG | .FLT_SRC_STAT => (faultInfo i).isNone
    | .HCP_SLOT_STAT => i == 15
    | .APRT_TDM_FMT => decide (16 ≤ i)
    | .APRT_MASK_HI => decide (i < 16)
    | .MASH_BUSIN => !s.on Fld.MASH_BUSIN_MAP_ASSIGNED i
    | _ => false
  if none_ then [] else r.fields.filter fun f => f.acc.writable

/-- Whether a write is to an apron field (07_stitch R360). -/
def State.apronItem (s : State) (it : CsItem) : Bool :=
  it.reg.isLayer && it.inst % 8 == 7 && s.apronHead (it.inst / 8) && (it.reg.fields.any fun f => it.hits f)

/-! Stopped states (R867). -/

/-- Whether the unit that an H field of a register belongs to runs. A unit with no stopped state named runs from stage 4
on. -/
def State.unitRuns (s : State) (r : Reg) (i : Nat) : Bool :=
  match r with
  | .IZL_LINK_CTL | .IZL_DEGRADE_SHED_LO | .IZL_DEGRADE_SHED_HI | .IZL_PRBS_CTL => s.on Fld.IZL_LINK_CTL_ENABLE i
  | .ETH_PORT_CTL | .ETH_MERGE_CTL | .ETH_QUEUE_PCP => s.on Fld.ETH_PORT_CTL_EN i
  | .ETH_FLOW_CTL | .ETH_FLOW_MEDIA | .ETH_FLOW_DIP | .ETH_FLOW_SIP | .ETH_FLOW_UDP | .ETH_FLOW_SSRC | .ETH_FLOW_HDR
  | .ETH_FLOW_PT | .ETH_FLOW_DMAC_HI | .ETH_FLOW_DMAC_LO => s.on Fld.ETH_FLOW_CTL_EN i
  | .WARP_DST_CFG | .WARP_DST_TIMING | .FLT_HEM_CFG | .MASH_DST_AUDIO => s.on Fld.WARP_DST_CFG_EN i
  | .STCH_HEAD_CFG => !s.unitStopped .head i
  | .APRT_PORT_CTL | .APRT_TDM_FMT => s.portState i != 0
  | .GNSS_CTL | .GNSS_IF_CFG_A | .GNSS_IF_CFG_B => s.on Fld.GNSS_CTL_EN 0
  | .TSVC_PORT_CFG => s.rd Fld.TSVC_PORT_CFG_ROLE i != 0
  | .MNTL_CTL | .MNTL_LEASE => s.on Fld.MNTL_CTL_EN 0
  | .HOP_CH_CFG | .HOP_CH_DESC => s.on Fld.HOP_CH_CTL_EN i
  | .CRC_CFG | .CRC_CTL | .CRC_POLY | .CRC_INIT | .CRC_XOROUT => s.on Fld.CRC_CTL_EN i
  | .PWR_UART_CTL => s.on Fld.PWR_UART_CTL_EN 0
  | _ => s.configured

/-- Whether a write is refused with ERR_BUSY: an H field while its unit runs (R8), a check unit's FEED or VALUE while a
Hopper channel owns it (16_internal_engines R769). -/
def State.busyItem (s : State) (it : CsItem) : Bool :=
  (it.reg.fields.any fun f => f.acc == .h && it.hits f && s.unitRuns it.reg it.inst) ||
  (match it.reg with
   | .CRC_FEED => s.rd Fld.CRC_CTL_OWNER it.inst != 0
   | .CRC_VALUE =>
     let o := s.rd Fld.CRC_CTL_OWNER it.inst
     o != 0 && (s.hopOf (o - 1)).phase != .rest
   | _ => false)

/-! Values. -/

/-- A field as it would stand with items laid over it: over the staged value for an S field. -/
def State.stand (s : State) (all : List CsItem) (r : Reg) (f : Field) (i : Nat) : Nat :=
  fieldUnder (fun f => if f.acc = .s then s.stagedValue r f i else s.rd f i) r f i all

/-- Every field that a write names lies in its permitted range, as the items `all` leave it. -/
def State.rangeOk (s : State) (all : List CsItem) (it : CsItem) : Bool :=
  it.reg.fields.all fun f =>
    let v := s.stand all it.reg f it.inst
    !(f.acc == .l || f.acc == .s || f.acc == .h) || !it.hits f || (decide (f.lo ≤ v) && decide (v ≤ f.hi))

/-- A TIME_OUT program (10_kiln R517); under MODE 0 there is no edge and nothing to check. -/
def toutOk (mode start period width fam div : Nat) : Bool :=
  let below := fun (w : Nat) => decide (8 ≤ width ∧ width < w)
  match mode with
  | 0 => true
  | 1 => decide (8 ≤ width)
  | 2 => decide (16 ≤ period) && below period
  | 3 =>
    let p := div * famPeriod fam
    decide (1 ≤ div ∧ div ≤ 255) && decide (8 ≤ width ∧ fine (ns width) < p) && decide (fine (ns (start + 1)) ≤ p)
  | _ => below 1000000000 && decide (start ≤ 999999999)

/-- A CLK_OUT setting (10_kiln R520, R521): 1 Hz to 250 MHz, a whole number of cycles in an alignment period. -/
def clkSetOk (num den align : Nat) : Bool :=
  let p := if align = 0 then fine (sec 1) else famPeriod (align - 1)
  decide (1 ≤ num ∧ 1 ≤ den ∧ den ≤ num * 1000 ∧ num * 1000 ≤ 250000000 * den) && num * 1000 * p % (den * fine (sec 1)) == 0

/-- OFFSET of a destination or head from 0 to one frame period less 1 ns (05_warp R222, 07_stitch R311). -/
def offsetOk (fmt off : Nat) : Bool :=
  match fmtOf fmt with
  | some f => decide (fine (ns (off + 1)) ≤ f.period)
  | none => true

/-- A flow's direction and type under the slots bound to it (04_ethernet R185, 03_cells R127). -/
def State.flowKindOk (s : State) (f dir type : Nat) : Bool :=
  let dsts := (List.range 1152).any fun d => s.dstFlow d == some f
  ((s.flowSlots f).isEmpty || (dir == 0 && decide (type ≤ 1))) && (!dsts || (dir == 1 && decide (type ≤ 1)))

/-- A bus input entry's new position (08_mash R400, R401). -/
def State.busInOk (s : State) (e pos : Nat) : Bool :=
  let lower := match s.busAt pos with
    | some a => decide (a < s.rd Fld.MASH_BUSIN_MAP_BUS e)
    | none => true
  lower && !s.unlockedAt pos && !s.refusedAt pos

/-- A signature region inside its raster, on even columns (07_stitch R368). -/
def State.regionOk (s : State) (g x y w h : Nat) : Bool :=
  if s.rd Fld.STCH_HEAD_CFG_SAFETY (g / 16) < 2 then true
  else x % 2 == 0 && w % 2 == 0 &&
    (match fmtOf (s.stagedValue .STCH_HEAD_CFG Fld.STCH_HEAD_CFG_FMT (g / 16)) with
     | some f => decide (x + w ≤ f.width ∧ y + h ≤ f.height)
     | none => true)

/-- The checks of values and routes that a chapter gives beside its tables' ranges. -/
def State.valueCheck (s : State) (all : List CsItem) (it : CsItem) : Status :=
  let i := it.inst
  let at_ := fun (r : Reg) (f : Field) => s.stand all r f i
  let bad := fun (b : Bool) => if b then Status.ok else Status.errAccess
  match it.reg with
  | .ETH_FLOW_CTL =>
    bad (!(it.hits Fld.ETH_FLOW_CTL_DIR || it.hits Fld.ETH_FLOW_CTL_TYPE) ||
      s.flowKindOk i (at_ .ETH_FLOW_CTL Fld.ETH_FLOW_CTL_DIR) (at_ .ETH_FLOW_CTL Fld.ETH_FLOW_CTL_TYPE))
  | .ETH_FLOW_MEDIA =>
    let t := s.rd Fld.ETH_FLOW_CTL_TYPE i
    let n := at_ .ETH_FLOW_MEDIA Fld.ETH_FLOW_MEDIA_RAW % 128
    bad (!(t == 2 || t == 3) || (decide (1 ≤ n) && decide (n ≤ 64)))
  | .WARP_DST_TIMING => bad (offsetOk (s.rd Fld.WARP_DST_CFG_FMT i) (at_ .WARP_DST_TIMING Fld.WARP_DST_TIMING_OFFSET))
  | .WARP_DST_ROUTE =>
    if it.hits Fld.WARP_DST_ROUTE_SRC then s.routeCheck i (s.stand [it] .WARP_DST_ROUTE Fld.WARP_DST_ROUTE_SRC i) else .ok
  | .STCH_HEAD_CFG =>
    bad (!it.hits Fld.STCH_HEAD_CFG_FMT ||
      (match fmtOf (at_ .STCH_HEAD_CFG Fld.STCH_HEAD_CFG_FMT) with
       | some f => decide (fine (ns (at_ .STCH_HEAD_TIMING Fld.STCH_HEAD_TIMING_OFFSET)) < f.period)
       | none => false))
  | .STCH_HEAD_TIMING =>
    bad (offsetOk (at_ .STCH_HEAD_CFG Fld.STCH_HEAD_CFG_FMT) (at_ .STCH_HEAD_TIMING Fld.STCH_HEAD_TIMING_OFFSET))
  | .STCH_LAYER_CTL | .STCH_LAYER_POS | .STCH_LAYER_SIZE | .STCH_LAYER_CROP_POS | .STCH_LAYER_CROP_SIZE
  | .STCH_LAYER_SRC | .STCH_LAYER_STRIDE =>
    if it.reg.fields.any fun f => it.hits f then s.layerCheck i (layerFields.map fun p => at_ p.1 p.2) else .ok
  | .STCH_SIG_POS | .STCH_SIG_SIZE =>
    bad (s.regionOk i (at_ .STCH_SIG_POS Fld.STCH_SIG_POS_X) (at_ .STCH_SIG_POS Fld.STCH_SIG_POS_Y)
      (at_ .STCH_SIG_SIZE Fld.STCH_SIG_SIZE_W) (at_ .STCH_SIG_SIZE Fld.STCH_SIG_SIZE_H))
  | .MASH_ROUTE => bad (!(it.hits Fld.MASH_ROUTE_INPUT && (s.followAt i).isSome))
  | .MASH_OUT_DELAY => bad (decide (at_ .MASH_OUT_DELAY Fld.MASH_OUT_DELAY_DELAY ≤ s.rd Fld.MASH_CFG_DELAY_CAP 0))
  | .MASH_BUSIN =>
    let pos := s.stand [it] .MASH_BUSIN Fld.MASH_BUSIN_INPUT i
    if !it.hits Fld.MASH_BUSIN_INPUT || pos == s.stagedValue .MASH_BUSIN Fld.MASH_BUSIN_INPUT i || s.busInOk i pos then .ok
    else .errRefused
  | .MASH_BUS_DYN_A =>
    let r := at_ .MASH_BUS_DYN_A Fld.MASH_BUS_DYN_A_RATIO
    bad (!it.hits Fld.MASH_BUS_DYN_A_RATIO || decide (10 ≤ r ∧ r ≤ 200) || r == 255)
  | .APRT_PORT_CTL =>
    bad (if i < 16 then !(it.hits Fld.APRT_PORT_CTL_CH64 && at_ .APRT_PORT_CTL Fld.APRT_PORT_CTL_CH64 == 1)
      else !(it.hits Fld.APRT_PORT_CTL_CLK_MODE && at_ .APRT_PORT_CTL Fld.APRT_PORT_CTL_CLK_MODE == 0))
  | .APRT_TDM_FMT => bad (!(s.on Fld.MASH_CFG_RATE 0 && at_ .APRT_TDM_FMT Fld.APRT_TDM_FMT_SLOTS == 4))
  | .APRT_MASK_LO => bad (decide (at_ .APRT_MASK_LO Fld.APRT_MASK_LO_MASK < 2 ^ (min 32 (s.portSlots i))))
  | .APRT_MASK_HI => bad (decide (at_ .APRT_MASK_HI Fld.APRT_MASK_HI_MASK < 2 ^ (s.portSlots i - 32)))
  | .KILN_TOUT_CTL | .KILN_TOUT_START | .KILN_TOUT_PERIOD | .KILN_TOUT_WIDTH =>
    bad (toutOk (at_ .KILN_TOUT_CTL Fld.KILN_TOUT_CTL_MODE) (at_ .KILN_TOUT_START Fld.KILN_TOUT_START_START)
      (at_ .KILN_TOUT_PERIOD Fld.KILN_TOUT_PERIOD_PERIOD) (at_ .KILN_TOUT_WIDTH Fld.KILN_TOUT_WIDTH_WIDTH)
      (at_ .KILN_TOUT_CTL Fld.KILN_TOUT_CTL_FAMILY) (at_ .KILN_TOUT_CTL Fld.KILN_TOUT_CTL_DIV))
  | .KILN_CLK_CTL | .KILN_CLK_NUM =>
    bad (clkSetOk (at_ .KILN_CLK_NUM Fld.KILN_CLK_NUM_NUM) (at_ .KILN_CLK_CTL Fld.KILN_CLK_CTL_DEN)
      (at_ .KILN_CLK_CTL Fld.KILN_CLK_CTL_ALIGN))
  | .GNSS_IF_CFG_A =>
    bad (decide ((sval 26 (at_ .GNSS_IF_CFG_A Fld.GNSS_IF_CFG_A_IF_FREQ)).natAbs ≤ 20000000))
  | .GNSS_IF_CFG_B =>
    bad (decide ((sval 26 (at_ .GNSS_IF_CFG_B Fld.GNSS_IF_CFG_B_IF_FREQ)).natAbs ≤ 20000000))
  | .TSVC_CFG =>
    let c := at_ .TSVC_CFG Fld.TSVC_CFG_DEGRADED_CLASS
    bad (!it.hits Fld.TSVC_CFG_DEGRADED_CLASS || c == 52 || c == 187)
  | .TSVC_NTP_CFG => bad (at_ .TSVC_NTP_CFG Fld.TSVC_NTP_CFG_NTS_EN == 0 || s.ntsIssue.isSome)
  | .TSVC_INJECT_CTL =>
    let n := at_ .TSVC_INJECT_CTL Fld.TSVC_INJECT_CTL_LEN
    let cap := s.rd Fld.ETH_PORT_CTL_MAX_FRAME (at_ .TSVC_INJECT_CTL Fld.TSVC_INJECT_CTL_PORT)
    bad (it.ones Fld.TSVC_INJECT_CTL_GO == 0 || (decide (60 ≤ n) && decide (n + 4 ≤ cap)))
  | .FLT_SRC_CFG =>
    bad (!(it.hits Fld.FLT_SRC_CFG_SEVERITY && at_ .FLT_SRC_CFG Fld.FLT_SRC_CFG_SEVERITY == 1 &&
      ((faultInfo i).any fun p => p.2 == .none)))
  | .FLT_HEM_CFG =>
    let h := at_ .FLT_HEM_CFG Fld.FLT_HEM_CFG_HEM_HEAD
    bad (at_ .FLT_HEM_CFG Fld.FLT_HEM_CFG_CONTENT != 2 ||
      (s.apronHead h && s.rd Fld.STCH_HEAD_CFG_FMT h == s.rd Fld.WARP_DST_CFG_FMT i))
  | .BOOT_TRIAL => bad (s.trial || (it.ones Fld.BOOT_TRIAL_CONFIRM == 0 && it.ones Fld.BOOT_TRIAL_REJECT == 0))
  | _ => .ok

/-! Islands whose clock is absent (01_architecture R42, R43). -/

/-- Whether the island of a write has its clock, or is one whose clock is the device's own. -/
def State.islandRuns (s : State) (it : CsItem) : Bool := (it.reg.island it.inst).all s.clockThere

/-! Who may write (R715, R716, R748; 13_mantle_twin R667, R669). -/

/-- Whether the safety controller writes: a session of slot 15. -/
def State.isSafety (s : State) : Master → Bool
  | .sess k => (s.sessOf k).active && (s.sessOf k).slot == 15
  | _ => false

/-- Whether a master's slot grants a right; the other masters need none (R716). -/
def State.hasRight (s : State) (m : Master) (bit : Nat) : Bool :=
  match m with
  | .sess k => (s.sessOf k).active && bitOf (s.rd Fld.HCP_SLOT_STAT_RIGHTS (s.sessOf k).slot) bit
  | _ => true

/-- The registers that a session may write in HEM (R748). -/
def Reg.inHem : Reg → Bool
  | .FLT_PIN_CTL | .FLT_LOG_ACK | .FLT_LOG_SEL | .FLT_SRC_STAT | .PWR_CELLAR_CTL => true
  | _ => false

/-- Whether a write is one that a mirroring holder forwards (13_mantle_twin R667). -/
def CsItem.forwarded (it : CsItem) : Bool :=
  (match it.reg.block with
   | some .warp | some .cask | some .stch | some .mash | some .aprt => true
   | _ => false) &&
  it.reg.fields.any fun f => (f.acc == .l || f.acc == .s) && it.hits f

/-- Whether the mode, the slot's rights and the role let a master make a write. -/
def State.mayWrite (s : State) (m : Master) (it : CsItem) : Bool :=
  let hem := match m with
    | .sess _ => s.mode != .hem || it.reg.inHem
    | _ => true
  s.hasRight m 1 && hem && !(s.role == .standby && s.mirrors && it.forwarded && m != .mirror)

/-- What a write of one word answers before it takes effect, in the order of R729; `all` is what the words of the
request apply, and `ap` what this one applies: a lower word that is only held is judged with its upper word (00_scope R16). A
write to an island without a clock is accepted whatever runs there (01_architecture R43). -/
def State.checkItem (s : State) (m : Master) (safety : Bool) (all : List CsItem) (loc : Option Loc) (w : Item)
    (ap : Option CsItem) : Status :=
  match loc with
  | none => .errAddr
  | some (.dir _ _) => .errAccess
  | some (.reg r i hi) =>
    if s.rejected (.reg r i hi) then .errAddr
    else
      let it := (WItem.mk r i hi w.val.toNat w.mask.toNat).wide
      if (s.writable r i).isEmpty || !s.mayWrite m it then .errAccess
      else if s.apronItem it && !safety then .errProtected
      else if s.busyItem it && s.islandRuns it then .errBusy
      else match ap with
        | some it => if !s.rangeOk [it] it then .errAccess else s.valueCheck all it
        | none => .ok

end Sys2Proof.Machine
end

