-- ==== Sys2Proof/Machine/RegWrite.lean ====
section
/-! DEFINITION. What a register write does (00_scope R4 to R16; 01_architecture R43; 15_hcp_control R734): the plain classes,
the stage of S fields, and the registers whose write commands something. -/

set_option autoImplicit false

namespace Sys2Proof.Machine

/-! The plain classes. -/

/-- L and H fields take the written bits, W1C bits written with 1 are cleared (R4, R14). -/
def State.setPlain (s : State) (it : CsItem) : State :=
  let s := (s.putFields .l it.reg it.inst it.val it.mask).putFields .h it.reg it.inst it.val it.mask
  (it.reg.fields.filter fun f => f.acc == .w1c).foldl (fun s f =>
    s.wr f it.inst (s.rd f it.inst &&& ((2 ^ f.width - 1) ^^^ it.ones f))) s

/-! The stage (R5 to R7). -/

/-- When a staged write counts as complete: while a holder mirrors, 100 us after its acceptance (13_mantle_twin R668), and the
same on the standby; at once for a stopped unit, which has no boundary (R868). -/
def State.stagedAt (s : State) (at_ : Option Nat) (r : Reg) (i : Nat) : Nat :=
  let still := match s.unitOf r i with
    | some (k, j) => s.unitStopped k j
    | none => false
  if still then s.now
  else match at_ with
    | some t => t
    | none => if s.role = .holder && s.mirrors && (r.block == some .warp || r.block == some .cask || r.block == some .stch
        || r.block == some .mash || r.block == some .aprt) then s.now + us 100 else s.now

/-- Stage the S fields that a write names: a field's earlier direct write is discarded (R6), also when it was
staged before a guard that the later write falls into: then nothing of the field applies at that boundary (log entry 126, DEDUCED
from R6 against R24). -/
def State.stageItem (s : State) (at_ : Option Nat) (it : CsItem) : State :=
  let fs := it.reg.fields.filter fun f => f.acc == .s && it.hits f
  let val := (fs.map fun f => f.merge (s.stagedValue it.reg f it.inst) it.val it.mask * 2 ^ f.lsb).sum
  let mask := (fs.map fun f => (2 ^ f.width - 1) * 2 ^ f.lsb).sum
  let rest := s.staged.filterMap fun (w : Staged) =>
    if w.reg = it.reg ∧ w.inst = it.inst then
      let m : Nat := w.mask &&& ((2 ^ 64 - 1) ^^^ mask)
      if m = 0 then none else some { w with mask := m }
    else some w
  let new : Staged := { reg := it.reg, inst := it.inst, val := val, mask := mask, ord := s.ord,
                        at_ := s.stagedAt at_ it.reg it.inst }
  if fs.isEmpty then s else (s.setStaged (rest ++ [new])).setOrd (s.ord + 1)

/-- What follows a staged write: Mash learns of a route (08_mash R418), a stopped unit takes it at once (R868), and a
TIME_OUT output with no edge near takes it at once (10_kiln R518). -/
def State.afterStage (s : State) (r : Reg) (i : Nat) : State :=
  match s.unitOf r i with
  | some (.tout, n) =>
    if s.toutFree n then
      (s.toutApply n (fine s.now) ((s.waiting .tout n).filter fun c => c.src.isNone && s.due (fine s.now) (fine s.now) c)).toutSettle n
    else s
  | some (k, j) =>
    if s.unitStopped k j then s.takeStopped k j
    else if r = .WARP_DST_ROUTE then
      match (s.directs .dst j).getLast? with
      | some c => s.learnChange j c
      | none => s
    else s
  | none => if (r = .GNSS_TRACK_CFG_A ∨ r = .GNSS_TRACK_CFG_B) ∧ !s.on Fld.GNSS_CTL_EN 0 then s.trackApply else s

/-- The plain classes and the stage. -/
def State.putPlain (s : State) (at_ : Option Nat) (it : CsItem) : State :=
  let t := (s.setPlain it).stageItem at_ it
  if it.reg.fields.any fun f => f.acc == .s && it.hits f then t.afterStage it.reg it.inst else t

/-! Units that start and stop. -/

/-- LINK_CTL.ENABLE changes (02_izsar R78, R96, R872). When it is cleared the transmitter goes into deep idle, and nothing that waits
to be sent or received is kept. -/
def State.bundleEnable (s : State) (b : Nat) (en : Bool) : State :=
  if en then
    let s := s.txStart b
    if s.rd Fld.BOOT_STAT_STAGE 0 ≥ 6 || s.mode != .startUp then s.train b else s
  else
    let s := (s.flag Fld.IZL_LINK_CTL_ENABLE b true).txPowerDown b
    let r := s.bndOf b
    let s := (s.flag Fld.IZL_LINK_CTL_ENABLE b false).putBnd b
      { r.onLanes fun x => { x with discard := false, awake := false } with glitch := none, hurt := false }
    let s := s.putTxb b { s.txOf b with late := [], side := [], loop := [], loopWords := [] }
    let s := s.dropSlots b
    let s := (s.wr Fld.IZL_LINK_STAT_STATE b 0).wr Fld.IZL_LINK_STAT_RX_IDLE b 0
    let s := ((s.wr Fld.IZL_LINK_STAT_LANES_OK b 0).flag Fld.IZL_LINK_STAT_TX_7LANE b false).flag Fld.IZL_LINK_CTL_RETRAIN b false
    (((s.lower 1 b).lower 2 b).settleMode).linkChanged b

/-- LINK_CTL.MODE changes (R99, R102, R103): the loops begin empty, the PRBS generators afresh, and no checker is locked. -/
def State.loopMode (s : State) (b : Nat) : State :=
  let s := s.putTxb b { s.txOf b with loop := [], loopWords := [] }
  let s := s.each (List.range 8) fun s l =>
    (s.putTx b l { (s.txOf b).lane l with prbs := 2 ^ 31 - 1 }).putRx b l { (s.bndOf b).rxLane l with prbs := {} }
  s.wr Fld.IZL_PRBS_CTL_CHK_LOCK b 0

/-- PORT_CTL.EN is cleared (04_ethernet R172): the lanes are electrically idle. -/
def State.ethStop (s : State) (p : Nat) : State :=
  let s := (s.flag Fld.ETH_PORT_STAT_LINK_UP p false).flag Fld.ETH_PORT_STAT_ALIGNED p false
  let s := (s.flag Fld.ETH_PORT_STAT_LOCAL_FAULT p false).flag Fld.ETH_PORT_STAT_REMOTE_FAULT p false
  let s := s.dropEgress p
  let s := (s.wr Fld.ETH_PORT_STAT_HELD p 0).wr Fld.ETH_PORT_STAT_IGNORE p 0
  let s := s.each (List.range 4) fun s q => s.putPause p q {}
  let s := s.each ((s.eth.rx.map fun q => q.1).filter fun f =>
    s.rd Fld.ETH_FLOW_CTL_PORT f == p && s.rd Fld.ETH_FLOW_CTL_DIR f == 0) State.loseFlow
  (s.refThere (23 + p) false).lower 64 p

/-- DST_CFG.EN changes (05_warp R222, 01_architecture R868): the Seam starts afresh, and a stopped one takes what waits. -/
def State.dstEnable (s : State) (d : Nat) : State :=
  let s := s.putDst d { rtpSeq := (s.dstOf d).rtpSeq }
  let s := (s.flag Fld.CASK_FS_STAT_FROZEN d false).flag Fld.CASK_FS_STAT_BLACK d false
  let s := if s.on Fld.WARP_DST_CFG_EN d then s else s.takeStopped .dst d
  s.judge d

/-- A session ends (R722): its buffers, subscriptions, events and held words go with it. -/
def State.closeSession (s : State) (k : Nat) : State :=
  let mine := fun (m : Master) => match m with
    | .sess j => j.val == k
    | _ => false
  let h := { s.hcp with snaps := s.hcp.snaps.filter fun p => p.2.owner != k }
  (((s.onHcp fun _ => h).setHeld (s.held.filter fun x => !mine x.by_)).setLatch (s.latch.filter fun x => !mine x.by_)).putSess k {}

/-- SLOT_STAT.EN is cleared (R723). -/
def State.closeSlot (s : State) (slot : Nat) : State :=
  s.each ((List.range 32).filter fun k => (s.sessOf k).active && (s.sessOf k).slot == slot) State.closeSession

/-- A write of SET_CTL.GO with 1 (10_kiln R528, R538). -/
def State.timeSetGo (s : State) : Status × State :=
  let n := s.rd Fld.KILN_SET_NS_NS 0
  if s.on Fld.KILN_STAT_TIME_VALID 0 || decide (999999999 < n) then (.errAccess, s)
  else
    let t := sec (s.rd Fld.KILN_SET_SEC_HI_SEC 0 * 2 ^ 32 + s.rd Fld.KILN_SET_SEC_LO_SEC 0) + ns n
    (.ok, ((s.timeStarts t 1 false).kilnEvent 7 63).refSettle)

/-- A write of BOOT.TRIAL.REJECT with 1 (17_startup_update R808): FS_451, FALLBACK_DUE, and a restart once it is answered. -/
def State.trialReject (s : State) : State :=
  ((s.raise 451 0 0).onRec fun r => { r with fallback := true }).onBoot fun b => { b with due := true }

/-! One register's write. -/

/-- A write of TSVC.SESS_CMD, whose plain fields stand in `t` (12_time_service R596 to R598). -/
def State.sessCmd (s t : State) (it : CsItem) : Status × State :=
  let p := if it.ones Fld.TSVC_SESS_CMD_WRITE = 1 then
      t.sessWrite (t.on Fld.TSVC_SESS_CMD_WR_KEY_A 0) (t.on Fld.TSVC_SESS_CMD_WR_KEY_B 0)
    else (.ok, t)
  if p.1 = .ok then
    let t := if it.ones Fld.TSVC_SESS_CMD_INVALIDATE = 1 then p.2.sessInvalidate (p.2.rd Fld.TSVC_SESS_SEL_INDEX 0) else p.2
    (.ok, if it.ones Fld.TSVC_SESS_CMD_READ = 1 then t.sessRead else t)
  else (p.1, s)

/-- A write of MNTL.CTL, whose plain fields stand in `t` (13_mantle_twin R645, R650). -/
def State.mntlCtl (s t : State) (it : CsItem) : Status × State :=
  let t := if t.on Fld.MNTL_CTL_TRIAL_CLAIM 0 = s.on Fld.MNTL_CTL_TRIAL_CLAIM 0 then t else
    t.onMntl fun m => { m with sickAt := t.up }
  let p := if it.hits Fld.MNTL_CTL_EN then t.mantleEnable (bitOf it.val 31) else (.ok, t)
  (p.1, if p.1 = .ok ∧ it.ones Fld.MNTL_CTL_HANDOVER = 1 then p.2.handoverStart else p.2)

/-! What the write of some registers does beside their fields: `s` is the state before the write, `t` the one after it. -/

/-- LINK_CTL (02_izsar R78, R85, R92, R93, R96, R99). -/
def State.linkCtl (s t : State) (it : CsItem) (i : Nat) : State :=
  let en := t.on Fld.IZL_LINK_CTL_ENABLE i
  let t := if en = s.on Fld.IZL_LINK_CTL_ENABLE i then t else t.bundleEnable i en
  let t := if t.rd Fld.IZL_LINK_CTL_MODE i = s.rd Fld.IZL_LINK_CTL_MODE i then t else t.loopMode i
  let q := t.rd Fld.IZL_LINK_CTL_IDLE_REQ i
  let t := if en && q != s.rd Fld.IZL_LINK_CTL_IDLE_REQ i && q != t.rd Fld.IZL_LINK_STAT_TX_IDLE i then t.txWake i else t
  let go := it.ones Fld.IZL_LINK_CTL_RETRAIN = 1 ∧ en ∧ t.link i ≠ 0
  if go then (t.train i).flag Fld.IZL_LINK_CTL_RETRAIN i true else t

/-- DST_AUDIO.FOLLOW (08_mash R417). -/
def State.followCtl (s t : State) (i : Nat) : State :=
  let on := t.on Fld.MASH_DST_AUDIO_FOLLOW i
  if on = s.on Fld.MASH_DST_AUDIO_FOLLOW i then t
  else
    let route := t.rd Fld.WARP_DST_ROUTE_SRC i
    if on then (t.putFollow i { base := route }).setFollow i route else t.putFollow i {}

/-- ENG_CTL: HOLD ends, or SWAP (08_mash R411 to R413). -/
def State.engCtl (s t : State) (it : CsItem) (i : Nat) : State :=
  let t := if s.on Fld.MASH_ENG_CTL_HOLD i && !t.on Fld.MASH_ENG_CTL_HOLD i && t.shadowDirty i then
      t.setStaged (t.staged.map fun w => if t.unitOf w.reg w.inst = some (.eng, i) then { w with at_ := t.now } else w)
    else t
  if it.ones Fld.MASH_ENG_CTL_SWAP = 1 then
    let m := { t.mash with swapAt := tinsert t.mash.swapAt i t.now }
    (t.onMash fun _ => m).flag Fld.MASH_ENG_CTL_SWAP i true
  else t

/-- MASK_LO of a MADI port waits for MASK_HI (09_audio_ports R435). -/
def State.maskLo (s t : State) (it : CsItem) (i : Nat) : State :=
  if i < 16 then t
  else
    let old := (s.portOf i).lo.getD (s.stagedValue .APRT_MASK_LO Fld.APRT_MASK_LO_MASK i)
    s.putPort i { s.portOf i with lo := some (Fld.APRT_MASK_LO_MASK.merge old it.val it.mask) }

/-- MASK_HI, with the MASK_LO that waits for it. -/
def State.maskHi (s t : State) (at_ : Option Nat) (it : CsItem) (i : Nat) : State :=
  match (s.portOf i).lo with
  | some lo =>
    let s := s.putPort i { s.portOf i with lo := none }
    (s.stageItem at_ ⟨.APRT_MASK_LO, i, lo, 2 ^ 32 - 1⟩).putPlain at_ it
  | none => t

/-- GNSS_CTL (11_gnss). -/
def State.gnssCtl (s t : State) (it : CsItem) : State :=
  let t := if it.hits Fld.GNSS_CTL_POS_MODE then t.posMode (t.rd Fld.GNSS_CTL_POS_MODE 0) else t
  let en := t.on Fld.GNSS_CTL_EN 0
  let t := if en = s.on Fld.GNSS_CTL_EN 0 then t else if en then t.gnssStart else t.gnssStop
  if it.ones Fld.GNSS_CTL_SELFTEST = 1 then t.selfTest else t

/-- A write of a register of MNTL, FLT, HCP, HOP, CRC, BOOT and PWR: `t` is the state after its fields are written. -/
def State.applySys (s t : State) (at_ : Option Nat) (it : CsItem) : Status × State :=
  let i := it.inst
  match it.reg with
  | .MNTL_CTL => s.mntlCtl (s.putPlain at_ (it.less Fld.MNTL_CTL_EN)) it
  | .FLT_SRC_STAT => (.ok, if it.ones Fld.FLT_SRC_STAT_STANDING = 1 then s.clearStanding i else s)
  | .FLT_FENCE_CMD =>
    if it.ones Fld.FLT_FENCE_CMD_GO = 1 then
      t.fenceCmd (t.on Fld.FLT_FENCE_CMD_OP 0) (t.rd Fld.FLT_FENCE_CMD_KIND 0) (t.rd Fld.FLT_FENCE_CMD_INDEX 0)
    else (.ok, t)
  | .FLT_LOG_ACK => (.ok, s.logAck (it.ones Fld.FLT_LOG_ACK_COUNT))
  | .HCP_SLOT_STAT => (.ok, if t.on Fld.HCP_SLOT_STAT_EN i then t else t.closeSlot i)
  | .HOP_CH_CTL =>
    let t := if it.hits Fld.HOP_CH_CTL_EN && !t.on Fld.HOP_CH_CTL_EN i then t.hopStop i 7 else t
    (.ok, if it.ones Fld.HOP_CH_CTL_GO = 1 then t.hopGo i else t)
  | .CRC_CTL => (.ok, if it.ones Fld.CRC_CTL_START = 1 then t.crcStart i else t)
  | .CRC_FEED => (.ok, t.crcFeedWord i (t.rd Fld.CRC_FEED_WORD i))
  | .BOOT_TRIAL =>
    let t := if it.ones Fld.BOOT_TRIAL_CONFIRM = 1 then t.flag Fld.BOOT_TRIAL_CONFIRM 0 true else t
    (.ok, if it.ones Fld.BOOT_TRIAL_REJECT = 1 then t.trialReject else t)
  | .PWR_CELLAR_CTL => (.ok, if it.ones Fld.PWR_CELLAR_CTL_ENTER = 1 then t.cellarEnter else t)
  | .PWR_UART_CTL =>
    let p := s.putPlain at_ (it.less Fld.PWR_UART_CTL_EN)
    (.ok, if it.hits Fld.PWR_UART_CTL_EN then p.uartEnable (bitOf it.val 31) else p)
  | .PWR_UART_TX => if it.hits Fld.PWR_UART_TX_DATA then s.uartWrite (t.rd Fld.PWR_UART_TX_DATA 0) else (.ok, s)
  | _ => (.ok, t)

/-- A write of a register of KILN, GNSS and TSVC, or of the blocks that `applySys` covers. -/
def State.applyTime (s t : State) (at_ : Option Nat) (it : CsItem) : Status × State :=
  let i := it.inst
  match it.reg with
  | .KILN_HO_LIMIT => (.ok, t.hoCheck)
  | .KILN_SEL_CTL | .KILN_REF_ORDER_0 | .KILN_REF_ORDER_1 => (.ok, t.refSelect true)
  | .KILN_REF_CFG | .KILN_PPS_CFG =>
    (.ok, (if it.reg = .KILN_REF_CFG ∧ !t.on Fld.KILN_REF_CFG_EN i ∧ refKind i = 1 then t.refUnseen i else t).refSettle)
  | .KILN_SLEW =>
    let a := s.absorbed
    (.ok, t.onKiln fun k => { k with a0 := a, aAt := s.now })
  | .KILN_UTC =>
    let v := t.rd Fld.KILN_UTC_UTC_OFFSET 0 + t.rd Fld.KILN_UTC_LEAP59 0 * 256 + t.rd Fld.KILN_UTC_LEAP61 0 * 512
    (.ok, (t.onKiln fun k => { k with utcHost := some v }).utcSettle)
  | .KILN_SET_CTL => if it.ones Fld.KILN_SET_CTL_GO = 1 then t.timeSetGo else (.ok, t)
  | .GNSS_CTL => (.ok, s.gnssCtl t it)
  | .GNSS_POS_X | .GNSS_POS_Y | .GNSS_POS_Z | .GNSS_POS_UNC => (.ok, t.posWritten)
  | .TSVC_PORT_CFG =>
    let t := s.putPlain at_ (it.less Fld.TSVC_PORT_CFG_ROLE)
    (.ok, if it.hits Fld.TSVC_PORT_CFG_ROLE then
        t.roleWrite i (Fld.TSVC_PORT_CFG_ROLE.merge (s.rd Fld.TSVC_PORT_CFG_ROLE i) it.val it.mask) else t)
  | .TSVC_SESS_CMD => s.sessCmd t it
  | .TSVC_KEY_LOAD => if it.ones Fld.TSVC_KEY_LOAD_GO = 1 then t.keyLoad else (.ok, t)
  | .TSVC_NTS_MKEY_STAT =>
    s.ntsMkeyWrite i (t.on Fld.TSVC_NTS_MKEY_STAT_EN i) (t.on Fld.TSVC_NTS_MKEY_STAT_ISSUE i)
  | .TSVC_INJECT_CTL => if it.ones Fld.TSVC_INJECT_CTL_GO = 1 then t.inject else (.ok, t)
  | _ => s.applySys t at_ it

/-- A write of one register that passed its checks: `it` is the whole register's value and mask. -/
def State.applyItem (s : State) (at_ : Option Nat) (it : CsItem) : Status × State :=
  let i := it.inst
  let t := s.putPlain at_ it
  match it.reg with
  | .IZL_LINK_CTL => (.ok, s.linkCtl t it i)
  | .ETH_PORT_CTL =>
    (.ok, if s.on Fld.ETH_PORT_CTL_EN i && !t.on Fld.ETH_PORT_CTL_EN i then t.ethStop i else t)
  | .ETH_FLOW_CTL =>
    let t := s.putPlain at_ (it.less Fld.ETH_FLOW_CTL_EN)
    if it.hits Fld.ETH_FLOW_CTL_EN then t.flowEnable i (bitOf it.val 31) else (.ok, t)
  | .WARP_DST_CFG =>
    (.ok, if s.on Fld.WARP_DST_CFG_EN i = t.on Fld.WARP_DST_CFG_EN i then t else t.dstEnable i)
  | .STCH_HEAD_CFG =>
    let en := t.on Fld.STCH_HEAD_CFG_EN i
    if s.on Fld.STCH_HEAD_CFG_EN i = en then (.ok, t)
    else
      let t := if en then t.headOn i else t.headOff0 i
      (.ok, if t.unitStopped .head i then t.takeStopped .head i else t)
  | .STCH_SIG_CTL => (.ok, if it.ones Fld.STCH_SIG_CTL_LEARN = 1 then t.flag Fld.STCH_SIG_CTL_LEARN i true else t)
  | .STCH_LAYER_CTL | .STCH_LAYER_POS | .STCH_LAYER_SIZE | .STCH_LAYER_CROP_POS | .STCH_LAYER_CROP_SIZE
  | .STCH_LAYER_SRC | .STCH_LAYER_STRIDE =>
    (.ok, if s.apronItem it then s.apronWrite it.reg (i / 8) it.val it.mask else t)
  | .MASH_DST_AUDIO => (.ok, s.followCtl t i)
  | .MASH_ENG_CTL => (.ok, s.engCtl t it i)
  | .APRT_PORT_CTL =>
    if it.hits Fld.APRT_PORT_CTL_EN then (.ok, if t.on Fld.APRT_PORT_CTL_EN i then t.portStart i else t.portStop i) else (.ok, t)
  | .APRT_MASK_LO => (.ok, s.maskLo t it i)
  | .APRT_MASK_HI => (.ok, s.maskHi t at_ it i)
  | _ => s.applyTime t at_ it

/-! Islands whose clock is absent (01_architecture R42, R43). -/

/-- ISLAND_CLOCK_LOST (R42, R43): the mirror keeps what the island's status and counters last showed. -/
def execIslandClockLost (dt : Nat) (n : Fin 105) (s : State) : Res :=
  onMain dt s fun s =>
    (s.mirrorIsland n).wr Fld.CTRL_ISLAND_CLK_PRESENT (n / 32) (setBitTo (s.rd Fld.CTRL_ISLAND_CLK_PRESENT (n / 32)) (n % 32) false)

/-- A write without its H fields while their unit runs (R8). -/
def State.lessBusy (s : State) (it : CsItem) : CsItem :=
  (it.reg.fields.filter fun f => f.acc == .h && s.unitRuns it.reg it.inst).foldl CsItem.less it

/-- ISLAND_CLOCK_RETURN (R43): what was written while the clock was absent takes effect, in order; S and H fields follow their
classes from this edge on, so that an H field of a unit that runs keeps its value. -/
def execIslandClockReturn (dt : Nat) (n : Fin 105) (s : State) : Res :=
  onMain dt s fun s =>
    let s := s.wr Fld.CTRL_ISLAND_CLK_PRESENT (n / 32) (setBitTo (s.rd Fld.CTRL_ISLAND_CLK_PRESENT (n / 32)) (n % 32) true)
    let mine := fun (it : CsItem) => it.reg.island it.inst == some n.val
    let s := s.dropMirror n
    (s.parked.filter mine).foldl (fun s it => (s.applyItem none (s.lessBusy it)).2)
      (s.setParked (s.parked.filter fun it => !mine it))

/-! Words, and whole requests (R16, R729, R734). -/

/-- Write one register, or park the write while its island has no clock. -/
def State.putItem (s : State) (at_ : Option Nat) (it : CsItem) : Status × State :=
  match it.reg.island it.inst with
  | some n => if s.clockThere n then s.applyItem at_ it else (.ok, (s.setParked (s.parked ++ [it])))
  | none => s.applyItem at_ it

/-- What the write of one word applies, none for a lower word, and the lower words that are held after it (R16): the lower word
of a pair is held for its master; the upper word applies both, with no lower word held the lower word in force. -/
def State.whole (s : State) (m : Master) (held : List Held) (w : WItem) : Option CsItem × List Held :=
  if !w.reg.w64 then (some w.wide, held)
  else
    let mine := fun (x : Held) => x.by_ == m && x.reg == w.reg && x.inst == w.inst
    let rest := held.filter fun x => !mine x
    match held.find? mine, w.hi with
    | some x, false =>
      let keep := x.mask &&& ((2 ^ 32 - 1) ^^^ w.mask)
      (none, ⟨m, w.reg, w.inst, (x.lo &&& keep) + (w.val &&& w.mask), keep + w.mask⟩ :: rest)
    | none, false => (none, ⟨m, w.reg, w.inst, w.val &&& w.mask, w.mask⟩ :: rest)
    | some x, true => (some ⟨w.reg, w.inst, w.val * 2 ^ 32 + x.lo, w.mask * 2 ^ 32 + x.mask⟩, rest)
    | none, true =>
      (some ⟨w.reg, w.inst, w.val * 2 ^ 32 + s.regValue w.reg w.inst false % 2 ^ 32, w.mask * 2 ^ 32 + (2 ^ 32 - 1)⟩, held)

/-- Write one word (R16). -/
def State.putWord (s : State) (m : Master) (at_ : Option Nat) (w : WItem) : Status × State :=
  let p := s.whole m s.held w
  match p.1 with
  | some it => (s.setHeld p.2).putItem at_ it
  | none => (.ok, s.setHeld p.2)

/-- The writes of whole registers that the words of a request apply, in order, from the lower words held before it. -/
def State.wholes (s : State) (m : Master) : List Held → List Item → List CsItem
  | _, [] => []
  | held, w :: ws =>
    match w.addr.loc with
    | some (.reg r i hi) =>
      let p := s.whole m held ⟨r, i, hi, w.val.toNat, w.mask.toNat⟩
      p.1.toList ++ s.wholes m p.2 ws
    | _ => s.wholes m held ws

/-- The words of a request that name registers, as writes of whole registers. -/
def wideItems (items : List Item) : List CsItem :=
  items.filterMap fun w => match w.addr.loc with
    | some (.reg r i hi) => some (WItem.mk r i hi w.val.toNat w.mask.toNat).wide
    | _ => none

/-- Items in order: each is checked against the state before the request, and takes effect after those before it. The answer
names the first that fails; then nothing of the request takes effect (R729). -/
def State.putItems (s0 : State) (m : Master) (safety : Bool) (at_ : Option Nat) (all : List CsItem) :
    Nat → List Item → State → Status × Nat × State
  | _, [], s => (.ok, 0, s)
  | k, w :: ws, s =>
    let ap := match w.addr.loc with
      | some (.reg r i hi) => (s.whole m s.held ⟨r, i, hi, w.val.toNat, w.mask.toNat⟩).1
      | _ => none
    match s0.checkItem m safety all w.addr.loc w ap, w.addr.loc with
    | .ok, some (.reg r i hi) =>
      match s.putWord m at_ ⟨r, i, hi, w.val.toNat, w.mask.toNat⟩ with
      | (.ok, s1) => s0.putItems m safety at_ all (k + 1) ws s1
      | (e, _) => (e, k, s0)
    | .ok, _ => s0.putItems m safety at_ all (k + 1) ws s
    | e, _ => (e, k, s0)

/-- Layers that a request wrote are bound to the surfaces they name (07_stitch R873). -/
def State.bindItems (s : State) (all : List CsItem) : State :=
  s.each ((all.filter fun it => it.reg.isLayer).map fun it => it.inst).eraseDups fun s g =>
    s.bindLayer g (layerFields.map fun p => s.stagedValue p.1 p.2 g)

/-- A write by a master, whole (R726, R729): the status, the index of the item that failed, and the state. A mirroring holder
forwards what R667 names; an address of no register goes to the default target when no session writes it (R756). -/
def State.regWrite (s : State) (m : Master) (safety : Bool) (at_ : Option Nat) (items : List Item) : Status × Nat × State :=
  let all := s.wholes m s.held items
  match s.putItems m safety at_ all 0 items s with
  | (.ok, _, t) =>
    let t := t.bindItems all
    let fwd := items.filter fun w => (wideItems [w]).any CsItem.forwarded
    (.ok, 0, if s.role = .holder && s.mirrors && m != .mirror && !fwd.isEmpty then t.mantle (.mirror (.write safety fwd) s.now .ok)
      else t)
  | (e, k, _) =>
    match e, m with
    | .errAddr, .sess _ | .errAddr, .mirror => (e, k, s)
    | .errAddr, _ => (e, k, s.defaultAccess m.code true ((items.map fun w => w.addr.num).getD k 0))
    | _, _ => (e, k, s)

end Sys2Proof.Machine
end

