-- ==== Sys2Proof/Machine/RegRows.lean ====
section
/-! DEFINITION. The register write commands: each is a write of the bits it names by a master, checked and applied as any other
(15_hcp_control R729, R734). -/

set_option autoImplicit false

namespace Sys2Proof.Machine

/-- The common part of the register write commands: the bits of a mask in one register, or in the upper word of a pair. -/
def writeCommand (dt : Nat) (m : Master) (r : Reg) (i : Nat) (hi : Bool) (val mask : Nat) (s : State) : Res :=
  onMain dt s fun s =>
    let p := s.regWrite m (s.isSafety m) none [⟨.named r i hi, BitVec.ofNat 32 val, BitVec.ofNat 32 mask⟩]
    (p.2.2.emit (.result p.1 [])).restartIfDue

/-- The registers of a layer (07_stitch). -/
def layerRegs : List Reg :=
  [.STCH_LAYER_CTL, .STCH_LAYER_POS, .STCH_LAYER_SIZE, .STCH_LAYER_CROP_POS, .STCH_LAYER_CROP_SIZE, .STCH_LAYER_SRC,
   .STCH_LAYER_STRIDE]

/-- CELLAR_ENTER (R49: a write of 1 to PWR.CELLAR_CTL.ENTER). -/
def execCellarEnter (dt : Nat) (m : Master) (s : State) : Res :=
  writeCommand dt m .PWR_CELLAR_CTL 0 false 1 1 s

/-- RETRAIN (02_izsar R83: a write of 1 to LINK_CTL.RETRAIN). -/
def execRetrain (dt : Nat) (m : Master) (b : Fin 33) (s : State) : Res :=
  writeCommand dt m .IZL_LINK_CTL b false 0x100 0x100 s

/-- BUNDLE_ENABLE (02_izsar R96: a write of LINK_CTL.ENABLE). -/
def execBundleEnable (dt : Nat) (m : Master) (b : Fin 33) (en : Bool) (s : State) : Res :=
  writeCommand dt m .IZL_LINK_CTL b false (b2n en) 1 s

/-- IDLE_REQ (02_izsar R86: a write of LINK_CTL.IDLE_REQ). -/
def execIdleReq (dt : Nat) (m : Master) (b : Fin 33) (v : BitVec 2) (s : State) : Res :=
  writeCommand dt m .IZL_LINK_CTL b false (v.toNat * 16) 0x30 s

/-- FLOW_ENABLE (04_ethernet R191: a write of FLOW_CTL.EN). -/
def execFlowEnable (dt : Nat) (m : Master) (f : Fin 4096) (en : Bool) (s : State) : Res :=
  writeCommand dt m .ETH_FLOW_CTL f false (b2n en * 2 ^ 31) (2 ^ 31) s

/-- DST_ROUTE_WRITE (05_warp R246: a write of DST_ROUTE.SRC). -/
def execDstRouteWrite (dt : Nat) (m : Master) (d : Fin 1152) (src : BitVec 11) (s : State) : Res :=
  writeCommand dt m .WARP_DST_ROUTE d false src.toNat 0x7FF s

/-- HEAD_ENABLE (07_stitch R315: a write of 1 to HEAD_CFG.EN). -/
def execHeadEnable (dt : Nat) (m : Master) (h : Fin 16) (s : State) : Res :=
  writeCommand dt m .STCH_HEAD_CFG h false (2 ^ 31) (2 ^ 31) s

/-- HEAD_DISABLE (07_stitch R316: a write of 0 to HEAD_CFG.EN). -/
def execHeadDisable (dt : Nat) (m : Master) (h : Fin 16) (s : State) : Res :=
  writeCommand dt m .STCH_HEAD_CFG h false 0 (2 ^ 31) s

/-- SIG_LEARN (07_stitch R371: a write of 1 to SIG_CTL.LEARN). -/
def execSigLearn (dt : Nat) (m : Master) (h : Fin 16) (s : State) : Res :=
  writeCommand dt m .STCH_SIG_CTL h false (2 ^ 20) (2 ^ 20) s

/-- APRON_FIELD_WRITE (07_stitch R360, R362: a write of a register of L7, by its place in `layerRegs`). -/
def execApronFieldWrite (dt : Nat) (m : Master) (h : Fin 16) (k : Fin 7) (val mask : BitVec 32) (s : State) : Res :=
  writeCommand dt m (layerRegs.getD k .STCH_LAYER_CTL) (h.val * 8 + 7) false val.toNat mask.toNat s

/-- ENG_SWAP_REQUEST (08_mash R413: a write of 1 to ENG_CTL.SWAP). -/
def execEngSwapRequest (dt : Nat) (m : Master) (e : Fin 257) (s : State) : Res :=
  writeCommand dt m .MASH_ENG_CTL e false 2 2 s

/-- ENG_HOLD_WRITE (08_mash R413: a write of ENG_CTL.HOLD). -/
def execEngHoldWrite (dt : Nat) (m : Master) (e : Fin 257) (hold : Bool) (s : State) : Res :=
  writeCommand dt m .MASH_ENG_CTL e false (b2n hold) 1 s

/-- PORT_ENABLE (09_audio R453: a write of 1 to PORT_CTL.EN). -/
def execPortEnable (dt : Nat) (m : Master) (p : Fin 24) (s : State) : Res :=
  writeCommand dt m .APRT_PORT_CTL p false (2 ^ 31) (2 ^ 31) s

/-- PORT_DISABLE (09_audio R454: a write of 0 to PORT_CTL.EN). -/
def execPortDisable (dt : Nat) (m : Master) (p : Fin 24) (s : State) : Res :=
  writeCommand dt m .APRT_PORT_CTL p false 0 (2 ^ 31) s

/-- MASK_LO_WRITE (09_audio R442). -/
def execMaskLoWrite (dt : Nat) (m : Master) (p : Fin 24) (v mask : BitVec 32) (s : State) : Res :=
  writeCommand dt m .APRT_MASK_LO p false v.toNat mask.toNat s

/-- MASK_HI_WRITE (09_audio R442). -/
def execMaskHiWrite (dt : Nat) (m : Master) (p : Fin 24) (v mask : BitVec 32) (s : State) : Res :=
  writeCommand dt m .APRT_MASK_HI p false v.toNat mask.toNat s

/-- SEL_CTL_WRITE (10_kiln R486). -/
def execSelCtlWrite (dt : Nat) (m : Master) (v mask : BitVec 32) (s : State) : Res :=
  writeCommand dt m .KILN_SEL_CTL 0 false v.toNat mask.toNat s

/-- REF_ORDER_WRITE (10_kiln R486: REF_ORDER_0, or REF_ORDER_1). -/
def execRefOrderWrite (dt : Nat) (m : Master) (second : Bool) (v mask : BitVec 32) (s : State) : Res :=
  writeCommand dt m (if second then .KILN_REF_ORDER_1 else .KILN_REF_ORDER_0) 0 false v.toNat mask.toNat s

/-- TIME_SET_GO (10_kiln R528). -/
def execTimeSetGo (dt : Nat) (m : Master) (s : State) : Res :=
  writeCommand dt m .KILN_SET_CTL 0 false 1 1 s

/-- POS_MODE_WRITE (11_gnss R563). -/
def execPosModeWrite (dt : Nat) (m : Master) (v : BitVec 2) (s : State) : Res :=
  writeCommand dt m .GNSS_CTL 0 false (v.toNat * 2 ^ 28) (3 * 2 ^ 28) s

/-- SELFTEST (11_gnss R572). -/
def execSelftest (dt : Nat) (m : Master) (s : State) : Res :=
  writeCommand dt m .GNSS_CTL 0 false (2 ^ 30) (2 ^ 30) s

/-- SESS_READ (12_time R597). -/
def execSessRead (dt : Nat) (m : Master) (s : State) : Res :=
  writeCommand dt m .TSVC_SESS_CMD 0 false 1 1 s

/-- SESS_WRITE (12_time R597, R598, with its WR_KEY bits). -/
def execSessWrite (dt : Nat) (m : Master) (keyA keyB : Bool) (s : State) : Res :=
  writeCommand dt m .TSVC_SESS_CMD 0 false (2 + b2n keyA * 8 + b2n keyB * 16) 0x1A s

/-- SESS_INVALIDATE (12_time R597). -/
def execSessInvalidate (dt : Nat) (m : Master) (s : State) : Res :=
  writeCommand dt m .TSVC_SESS_CMD 0 false 4 4 s

/-- KEY_LOAD (12_time R613). -/
def execKeyLoad (dt : Nat) (m : Master) (nts : Bool) (slot : BitVec 3) (s : State) : Res :=
  writeCommand dt m .TSVC_KEY_LOAD 0 false (2 ^ 31 + b2n nts * 256 + slot.toNat) (2 ^ 31 + 0x107) s

/-- NTS_MKEY_WRITE (12_time R625). -/
def execNtsMkeyWrite (dt : Nat) (m : Master) (k : Fin 4) (en issue : Bool) (s : State) : Res :=
  writeCommand dt m .TSVC_NTS_MKEY_STAT k false (b2n en * 2 ^ 31 + b2n issue * 2 ^ 30) (3 * 2 ^ 30) s

/-- PTP_ROLE_WRITE (12_time R603: a write of PORT_CFG.ROLE). -/
def execPtpRoleWrite (dt : Nat) (m : Master) (p : Fin 18) (role : BitVec 2) (s : State) : Res :=
  writeCommand dt m .TSVC_PORT_CFG p false (role.toNat * 2 ^ 30) (3 * 2 ^ 30) s

/-- INJECT (12_time R626: a write of INJECT_CTL with GO, `v` the other bits). -/
def execInject (dt : Nat) (m : Master) (v : BitVec 31) (s : State) : Res :=
  writeCommand dt m .TSVC_INJECT_CTL 0 false (2 ^ 31 + v.toNat) (2 ^ 32 - 1) s

/-- HANDOVER (13_mantle R663). -/
def execHandover (dt : Nat) (m : Master) (s : State) : Res :=
  writeCommand dt m .MNTL_CTL 0 false (2 ^ 26) (2 ^ 26) s

/-- MANTLE_EN_WRITE (13_mantle R870). -/
def execMantleEnWrite (dt : Nat) (m : Master) (en : Bool) (s : State) : Res :=
  writeCommand dt m .MNTL_CTL 0 false (b2n en * 2 ^ 31) (2 ^ 31) s

/-- STANDING_CLEAR (14_faults R676). -/
def execStandingClear (dt : Nat) (m : Master) (fs : Fin 512) (s : State) : Res :=
  writeCommand dt m .FLT_SRC_STAT fs false (2 ^ 31) (2 ^ 31) s

/-- FENCE_CMD_FENCE (14_faults R682). -/
def execFenceCmdFence (dt : Nat) (m : Master) (kind : BitVec 4) (idx : BitVec 12) (s : State) : Res :=
  writeCommand dt m .FLT_FENCE_CMD 0 false (2 ^ 31 + kind.toNat * 65536 + idx.toNat) (3 * 2 ^ 30 + 0xF0FFF) s

/-- FENCE_CMD_RELEASE (14_faults R682). -/
def execFenceCmdRelease (dt : Nat) (m : Master) (kind : BitVec 4) (idx : BitVec 12) (s : State) : Res :=
  writeCommand dt m .FLT_FENCE_CMD 0 false (3 * 2 ^ 30 + kind.toNat * 65536 + idx.toNat) (3 * 2 ^ 30 + 0xF0FFF) s

/-- FAULT_HOLD_WRITE (14_faults R690). -/
def execFaultHoldWrite (dt : Nat) (m : Master) (v : Bool) (s : State) : Res :=
  writeCommand dt m .FLT_PIN_CTL 0 false (b2n v) 1 s

/-- LOG_ACK (14_faults R702). -/
def execLogAck (dt : Nat) (m : Master) (n : BitVec 9) (s : State) : Res :=
  writeCommand dt m .FLT_LOG_ACK 0 false n.toNat 0x1FF s

/-- SLOT_DISABLE (15_hcp R723: a write of 0 to SLOT_STAT.EN). -/
def execSlotDisable (dt : Nat) (m : Master) (k : Fin 16) (s : State) : Res :=
  writeCommand dt m .HCP_SLOT_STAT k false 0 (2 ^ 30) s

/-- TRIAL_CONFIRM_WRITE (17_startup R806, R811). -/
def execTrialConfirmWrite (dt : Nat) (m : Master) (s : State) : Res :=
  writeCommand dt m .BOOT_TRIAL 0 false (2 ^ 31) (2 ^ 31) s

/-- TRIAL_REJECT (17_startup R808, R811). -/
def execTrialReject (dt : Nat) (m : Master) (s : State) : Res :=
  writeCommand dt m .BOOT_TRIAL 0 false (2 ^ 30) (2 ^ 30) s

/-- HOPPER_GO (16_internal R759). -/
def execHopperGo (dt : Nat) (m : Master) (c : Fin 16) (s : State) : Res :=
  writeCommand dt m .HOP_CH_CTL c false (2 ^ 30) (2 ^ 30) s

/-- HOPPER_STOP (16_internal R767: CH_CTL.EN is cleared). -/
def execHopperStop (dt : Nat) (m : Master) (c : Fin 16) (s : State) : Res :=
  writeCommand dt m .HOP_CH_CTL c false 0 (2 ^ 31) s

/-- CRC_START (16_internal R770). -/
def execCrcStart (dt : Nat) (m : Master) (u : Fin 8) (s : State) : Res :=
  writeCommand dt m .CRC_CTL u false (2 ^ 30) (2 ^ 30) s

/-- CRC_FEED (16_internal R771). -/
def execCrcFeed (dt : Nat) (m : Master) (u : Fin 8) (v : BitVec 32) (s : State) : Res :=
  writeCommand dt m .CRC_FEED u false v.toNat (2 ^ 32 - 1) s

/-- UART_TX_WRITE (19_electrical R859). -/
def execUartTxWrite (dt : Nat) (m : Master) (b : Byte) (s : State) : Res :=
  writeCommand dt m .PWR_UART_TX 0 false b.toNat 0xFF s

/-- POS_WRITE (11_gnss R563): a word of POS_X, POS_Y or POS_Z, or POS_UNC. -/
def execPosWrite (dt : Nat) (m : Master) (k : Fin 4) (hi : Bool) (v mask : BitVec 32) (s : State) : Res :=
  match k with
  | 0 => writeCommand dt m .GNSS_POS_X 0 hi v.toNat mask.toNat s
  | 1 => writeCommand dt m .GNSS_POS_Y 0 hi v.toNat mask.toNat s
  | 2 => writeCommand dt m .GNSS_POS_Z 0 hi v.toNat mask.toNat s
  | 3 => writeCommand dt m .GNSS_POS_UNC 0 false v.toNat mask.toNat s

/-- CRC_VALUE_RESTORE (16_internal R772): a write of the upper word of CRC.VALUE, with the lower word held before it. -/
def execCrcValueRestore (dt : Nat) (m : Master) (u : Fin 8) (v : BitVec 32) (s : State) : Res :=
  writeCommand dt m .CRC_VALUE u true v.toNat (2 ^ 32 - 1) s

/-- REGISTER_WRITE (00_scope R4): a write of any register word. -/
def execRegisterWrite (dt : Nat) (m : Master) (a : RegAddr) (val mask : BitVec 32) (s : State) : Res :=
  onMain dt s fun s =>
    let p := s.regWrite m (s.isSafety m) none [⟨a, val, mask⟩]
    (p.2.2.emit (.result p.1 [])).restartIfDue

end Sys2Proof.Machine
end

