-- ==== Sys2Proof/Machine/Hcp.lean ====
section
/-! DEFINITION. The Hasol control protocol (15_hcp_control): what a request passes before it is executed, how it is answered,
sessions, READ and WRITE, surfaces and bulk data, and events. -/

set_option autoImplicit false

namespace Sys2Proof.Machine

/-! Reception and answer (R706 to R712, R716, R724 to R731, R748). -/

/-- The Ethernet port of a request: CTL_0 or CTL_1. -/
def ctlPort (ctl1 : Bool) : Nat := 16 + b2n ctl1

/-- BODY_MAX of a port (R710). -/
def State.bodyMax (s : State) (ctl1 : Bool) : Nat := min 8192 (s.rd Fld.ETH_PORT_CTL_MAX_FRAME (ctlPort ctl1) - 90)

/-- Send an HCP message to where a request came from (R708, R709). -/
def State.answer (s : State) (h : HcpReq) (plain : Bool) (op seq : Nat) (st : Status) (body : List Byte) : State :=
  s.txFrame (ctlPort h.ctl1) (86 + body.length)
    (.hcpResp h.ctl1 h.src h.slot plain op seq h.session.toNat h.reqId.toNat st body)

/-- A message that fails before its tag passes (R727): counted, FS_387, and a PLAIN reply, at most 100 a second. -/
def State.hcpAuthFail (s : State) (h : HcpReq) (op : Nat) : State :=
  let s := (s.bump Fld.HCP_CNT_AUTH_FAIL_CNT 0 1).raise 387 0 0
  let now := s.up / sec 1
  let n := if s.hcp.plainSec = now then s.hcp.plainN else 0
  let q := { s.hcp with plainSec := now, plainN := n + 1 }
  if n < 100 then (s.onHcp fun _ => q).answer h true op h.seq.toNat .errAuth [] else s

/-- The next sequence number of the device's messages in a session (R724). -/
def Session.nextSeq (r : Session) : Nat := 2 ^ 63 + r.devSeq

/-- Answer a request of session `k`, whose record was `was` when the request was accepted, and keep the answer (R725). A
session that the request closed is answered first (R723). -/
def State.respond (s : State) (h : HcpReq) (op k : Nat) (was : Session) (keep : Bool) (st : Status) (body : List Byte) : State :=
  let r := s.sessOf k
  let live := r.active && r.id == was.id
  let seq := if live then r.nextSeq else was.nextSeq
  let a : Reply := { seq := seq, reqId := h.reqId.toNat, op := op, status := st, body := body }
  let kept := if keep then ((h.seq.toNat, a) :: r.kept).take 16 else r.kept
  let s := if live then s.putSess k { r with devSeq := r.devSeq + 1, kept := kept } else s
  s.answer h false op seq st body

/-- What R725 makes of a sequence number: new, executed before with its answer kept, or an error. -/
inductive SeqVerdict where
  | fresh
  | again (a : Reply)
  | bad
deriving DecidableEq, Repr

/-- The check of a sequence number (R724, R725). -/
def Session.seqCheck (r : Session) (seq : Nat) : SeqVerdict :=
  if seq = 0 ∨ 2 ^ 63 ≤ seq then .bad
  else match r.kept.find? fun p => p.1 == seq with
    | some p => .again p.2
    | none =>
      if r.high < seq ∨ (r.high < seq + 64 ∧ !r.accepted.contains seq) then .fresh else .bad

/-- A request's sequence number is accepted (R721, R725): the session is no longer pending, and its messages come from here. -/
def State.acceptSeq (s : State) (h : HcpReq) (k : Nat) : State :=
  let r := s.sessOf k
  let n := h.seq.toNat
  let high := max r.high n
  s.putSess k { r with high := high, accepted := (n :: r.accepted).filter fun x => decide (high < x + 64),
                       ctl1 := h.ctl1, src := h.src, lastAt := s.up }

/-- An active session of a slot with an identifier. -/
def State.findSess (s : State) (slot id : Nat) : Option Nat :=
  (List.range 32).find? fun k => (s.sessOf k).active && (s.sessOf k).slot == slot && (s.sessOf k).id == id

/-- Whether HCP runs: not in CELLAR (01_architecture R45), nor before stage 6 of the start-up (17_startup_update R792). -/
def State.hcpOpen (s : State) : Bool :=
  s.mode != .cellar && !(s.mode == .startUp && decide (s.rd Fld.BOOT_STAT_STAGE 0 < 6))

/-- The checks before a slot's key is used (R174, R707, R710, R731): HCP runs, the frame is good, the message has its format, its body
fits, and the device is not overloaded. -/
def State.hcpIn (s : State) (h : HcpReq) (f : State → State) : State :=
  if !s.hcpOpen then s
  else s.rxFrame (ctlPort h.ctl1) (86 + h.bodyLen) fun s =>
    if !h.fmtOk || decide (s.bodyMax h.ctl1 < h.bodyLen) then s.bump Fld.HCP_CNT_FORMAT_CNT 0 1
    else
      let now := s.up / sec 1
      let n := if s.hcp.reqSec = now then s.hcp.reqN else 0
      if 50000 ≤ n then s.bump Fld.HCP_CNT_OVERLOAD_CNT 0 1
      else
        let q := { s.hcp with reqSec := now, reqN := n + 1 }
        f (s.onHcp fun _ => q)

/-- Whether a slot is enabled: it holds a key and its EN is 1 (R725). -/
def State.slotOn (s : State) (slot : Nat) : Bool := s.on Fld.HCP_SLOT_STAT_LOADED slot && s.on Fld.HCP_SLOT_STAT_EN slot

/-- Whether the mode refuses a request in HEM (R748). -/
def State.hemRefuses (s : State) (inHem : Bool) : Bool := s.mode == .hem && !inHem

/-- What an executed request answers. -/
structure Done where
  status : Status
  body : List Byte
  state : State

/-- A request of a session: everything before its execution, then `run` with the session's number, then the answer. `right` is
the bit of R716 that it needs, `inHem` whether HEM permits it. An answer that would exceed BODY_MAX is a refusal without
effect (R710). -/
def hcpRequest (dt : Nat) (h : HcpReq) (op : Nat) (right : Option Nat) (inHem : Bool) (run : State → Nat → Done) (s : State) : Res :=
  onMain dt s fun s => s.hcpIn h fun s =>
    if !s.slotOn h.slot then s.hcpAuthFail h op
    else match s.findSess h.slot h.session.toNat with
      | none => s.hcpAuthFail h op
      | some k =>
        if !h.tagOk then s.hcpAuthFail h op
        else
          let s := s.putSess k { s.sessOf k with pending := false }
          match (s.sessOf k).seqCheck h.seq.toNat with
          | .again a => s.answer { h with reqId := BitVec.ofNat 32 a.reqId } false a.op a.seq a.status a.body
          | .bad => (s.bump Fld.HCP_CNT_SEQ_ERR_CNT 0 1).respond h op k (s.sessOf k) false .errSeq []
          | .fresh =>
            let s := s.acceptSeq h k
            let was := s.sessOf k
            let denied := h.badOp || h.short || h.resp || s.hemRefuses inHem
              || (right.any fun b => !bitOf (s.rd Fld.HCP_SLOT_STAT_RIGHTS was.slot) b)
            if denied then s.respond h op k was true .errAccess []
            else
              let d := run s k
              if s.bodyMax h.ctl1 < d.body.length then s.respond h op k was true .errAccess []
              else (d.state.respond h op k was true d.status d.body).restartIfDue

/-! Sessions (R717 to R723). -/

/-- The session that an OPEN of a slot takes (R720): two are kept for slot 15. -/
def State.freeSess (s : State) (slot : Nat) : Option Nat :=
  let free := (List.range 32).filter fun k => !(s.sessOf k).active
  let safety := ((List.range 32).filter fun k => (s.sessOf k).active && (s.sessOf k).slot == 15).length
  let keep := if slot = 15 then 0 else 2 - safety
  if keep < free.length then free.head? else none

/-- The body of Kiln time (R711). -/
def State.timeBody (s : State) : List Byte := kilnBytes s.now

/-- Open a session (R718 to R720). -/
def State.openSess (s : State) (h : HcpReq) : Done :=
  let slot := h.slot.val
  let seq := h.seq.toNat
  let opens := tget [] s.hcp.opens slot
  if seq = 0 ∨ 2 ^ 63 ≤ seq ∨ opens.contains seq then ⟨.errSeq, [], s.bump Fld.HCP_CNT_SEQ_ERR_CNT 0 1⟩
  else if h.badOp || h.short || h.resp then ⟨.errAccess, [], s⟩
  else
    let c := s.rd Fld.HCP_SLOT_OPENS_COUNT slot
    match s.freeSess slot with
    | none => ⟨.errFull, [], s⟩
    | some k =>
      if c = 2 ^ 32 - 1 then ⟨.errFull, [], s⟩
      else
        let q := { s.hcp with opens := tput [] s.hcp.opens slot ((seq :: opens).take 1024) }
        let s := (s.onHcp fun _ => q).wr Fld.HCP_SLOT_OPENS_COUNT slot (c + 1)
        let s := s.putSess k { active := true, pending := true, slot := slot, id := c + 1, ctl1 := h.ctl1, src := h.src,
                               openedAt := s.up, lastAt := s.up }
        ⟨.ok, beBytes 4 (c + 1) ++ beBytes 2 (s.bodyMax h.ctl1) ++ s.timeBody, s⟩

/-- OPEN (R717 to R720). Under a session it opens none and is refused (R730). -/
def execHcpOpen (dt : Nat) (h : HcpReq) (s : State) : Res :=
  if h.session ≠ 0 then hcpRequest dt h 0x01 none true (fun s _ => ⟨.errAccess, [], s⟩) s
  else onMain dt s fun s => s.hcpIn h fun s =>
    if !s.slotOn h.slot || !h.tagOk then s.hcpAuthFail h 0x01
    else
      let d := s.openSess h
      d.state.answer h false 0x01 (h.seq.toNat % 2 ^ 63 + 2 ^ 63) d.status d.body

/-- CLOSE (R721). -/
def execHcpClose (dt : Nat) (h : HcpReq) (s : State) : Res :=
  hcpRequest dt h 0x02 none true (fun s k => ⟨.ok, [], s.closeSession k⟩) s

/-- NOP (R731). -/
def execHcpNop (dt : Nat) (h : HcpReq) (s : State) : Res :=
  hcpRequest dt h 0x03 none true (fun s _ => ⟨.ok, s.timeBody, s⟩) s

/-- SESSION_PENDING_TIMEOUT (R721): 10 s after its OPEN. -/
def execSessionPendingTimeout (dt : Nat) (k : Fin 32) (s : State) : Res :=
  onMain dt s fun s =>
    let r := s.sessOf k
    if r.active && r.pending && decide (r.openedAt + sec 10 ≤ s.up) then s.closeSession k else s

/-- SESSION_IDLE_TIMEOUT (R721). -/
def execSessionIdleTimeout (dt : Nat) (k : Fin 32) (s : State) : Res :=
  onMain dt s fun s =>
    let r := s.sessOf k
    if r.active && decide (r.lastAt + sec (s.rd Fld.HCP_CFG_IDLE_S 0) ≤ s.up) then s.closeSession k else s

/-! READ and WRITE (R732 to R734). -/

/-- READ (R710, R732, R733). -/
def execHcpRead (dt : Nat) (h : HcpReq) (addr : RegAddr) (count : BitVec 16) (staged : Bool) (s : State) : Res :=
  hcpRequest dt h 0x10 (some 0) true (fun s _ =>
    let n := count.toNat
    if n = 0 ∨ 2048 < n ∨ s.bodyMax h.ctl1 < 4 * n then ⟨.errAccess, [], s⟩
    else match s.range addr n with
      | none => ⟨.errAddr, [], s⟩
      | some ls =>
        let p := s.readLocs staged ls
        ⟨.ok, p.1.flatMap (beBytes 4), p.2⟩) s

/-- WRITE (R729, R734): 1 to 256 items; a refusal names the item. -/
def execHcpWrite (dt : Nat) (h : HcpReq) (items : List Item) (s : State) : Res :=
  hcpRequest dt h 0x11 none true (fun s k =>
    if hk : k < 32 then
      if items.isEmpty || decide (256 < items.length) then ⟨.errAccess, [], s⟩
      else
        let m := Master.sess ⟨k, hk⟩
        let p := s.regWrite m (s.isSafety m) none items
        ⟨p.1, if p.1 = .ok then [] else beBytes 2 p.2.1, p.2.2⟩
    else ⟨.errAccess, [], s⟩) s

/-! Surfaces and bulk data (R743, R744; 06_cask R269, R296 to R301; 13_mantle R667, R669). -/

/-- A standby that mirrors refuses what its holder forwards (13_mantle R669; R749). -/
def State.mirrorBars (s : State) : Bool := s.role == .standby && s.mirrors

/-- A mirroring holder forwards an operation that it accepted (13_mantle R667). -/
def State.forward (s : State) (op : MirOp) : State :=
  if s.role = .holder && s.mirrors then s.mantle (.mirror op s.now .ok) else s

/-- SURF_ALLOC of a session, or of a mirrored operation. -/
def State.allocSurf (s : State) (size : Nat) (apron safety : Bool) : Done :=
  if size = 0 then ⟨.errAccess, [], s⟩
  else if apron && !safety then ⟨.errProtected, [], s⟩
  else
    let p := s.surfAlloc size apron
    match p.1 with
    | .ok => ⟨.ok, beBytes 2 p.2.1 ++ beBytes 2 (p.2.2.surfOf p.2.1).blocks, p.2.2.forward (.surfAlloc size apron safety)⟩
    | e => ⟨e, [], s⟩

/-- SURF_ALLOC (R743). -/
def execSurfAlloc (dt : Nat) (h : HcpReq) (size : BitVec 32) (apron : Bool) (s : State) : Res :=
  hcpRequest dt h 0x40 (some 2) false (fun s k =>
    if s.mirrorBars then ⟨.errAccess, [], s⟩ else s.allocSurf size.toNat apron ((s.sessOf k).slot == 15)) s

/-- SURF_FREE (R743; 06_cask R298, R299). -/
def execSurfFree (dt : Nat) (h : HcpReq) (surf : BitVec 16) (s : State) : Res :=
  hcpRequest dt h 0x41 (some 2) false (fun s k =>
    if s.mirrorBars then ⟨.errAccess, [], s⟩
    else if hs : surf.toNat < 4096 then
      let safety := (s.sessOf k).slot == 15
      let p := s.surfFree safety surf.toNat
      ⟨p.1, [], if p.1 = .ok then p.2.forward (.surfFree ⟨surf.toNat, hs⟩ safety) else p.2⟩
    else ⟨.errAddr, [], s⟩) s

/-- Whether `n` bytes from an address lie in region 4 of Cask (06_cask R269). -/
def State.inRegion4 (s : State) (a n : Nat) : Bool :=
  let base := s.rd Fld.CASK_REGION_BASE 4 * 2097152
  decide (base ≤ a ∧ a + n ≤ base + s.rd Fld.CASK_REGION_SIZE 4 * 2097152)

/-- A raw write to a surface or to region 4 (R744; 06_cask R298). -/
def State.bulkWrite (s : State) (surface safety : Bool) (addr off : Nat) (data : List Byte) : Done :=
  if surface then
    if 4096 ≤ addr then ⟨.errAddr, [], s⟩
    else match s.surfWritable safety addr off data.length with
      | .ok => ⟨.ok, [], (s.putBytes (surfAddr addr off) data).forward (.bulkWrite true safety addr off data)⟩
      | e => ⟨e, [], s⟩
  else if s.inRegion4 (addr + off) data.length then
    ⟨.ok, [], (s.putBytes (caskAddr (addr + off)) data).forward (.bulkWrite false safety addr off data)⟩
  else ⟨.errAccess, [], s⟩

/-- BULK_WRITE (R744). -/
def execBulkWrite (dt : Nat) (h : HcpReq) (kind : BitVec 8) (addr : BitVec 64) (off : BitVec 32) (data : List Byte) (s : State) :
    Res :=
  hcpRequest dt h 0x42 (some 2) false (fun s k =>
    if s.mirrorBars || decide (1 < kind.toNat) then ⟨.errAccess, [], s⟩
    else s.bulkWrite (kind == 0) ((s.sessOf k).slot == 15) addr.toNat off.toNat data) s

/-- BULK_READ (R744, R710): raw reads are open to every session (06_cask R301). -/
def execBulkRead (dt : Nat) (h : HcpReq) (kind : BitVec 8) (addr : BitVec 64) (off : BitVec 32) (len : BitVec 16) (s : State) :
    Res :=
  hcpRequest dt h 0x43 (some 0) true (fun s _ =>
    let a := addr.toNat
    let n := len.toNat
    if 1 < kind.toNat ∨ s.bodyMax h.ctl1 < n then ⟨.errAccess, [], s⟩
    else if kind = 0 then
      if 4096 ≤ a ∨ (s.surfOf a).state = 0 then ⟨.errAddr, [], s⟩
      else if (s.surfOf a).blocks * 2097152 < off.toNat + n then ⟨.errAccess, [], s⟩
      else ⟨.ok, s.bytesAt (surfAddr a off.toNat) n, s⟩
    else if s.inRegion4 (a + off.toNat) n then ⟨.ok, s.bytesAt (caskAddr (a + off.toNat)) n, s⟩
    else ⟨.errAccess, [], s⟩) s

/-! Events (R745, R746). -/

/-- SUBSCRIBE (R745). -/
def execSubscribe (dt : Nat) (h : HcpReq) (classes : BitVec 16) (s : State) : Res :=
  hcpRequest dt h 0x50 (some 0) true (fun s k => ⟨.ok, [], s.putSess k { s.sessOf k with subs := classes.toNat }⟩) s

/-- EVENT_ACK (R746): every event up to and including the sequence it names, on a counter of 32 bits. -/
def execEventAck (dt : Nat) (h : HcpReq) (n : BitVec 32) (s : State) : Res :=
  hcpRequest dt h 0x52 (some 0) true (fun s k =>
    let r := s.sessOf k
    let upTo := fun (q : QEv) => decide ((n.toNat + 2 ^ 32 - (Config.firstEvent + q.seq) % 2 ^ 32) % 2 ^ 32 < 2 ^ 31)
    ⟨.ok, [], (s.putSess k { r with queue := r.queue.filter fun q => !upTo q }).flush k⟩) s

/-- EVENT_RESEND (R746): events of a session that were sent 200 ms ago and not acknowledged. -/
def execEventResend (dt : Nat) (k : Fin 32) (s : State) : Res :=
  onMain dt s fun s =>
    let r := s.sessOf k
    (s.putSess k { r with queue := r.queue.map fun q =>
      match q.sentAt with
      | some t => if t + ms 200 ≤ s.up then { q with sentAt := none } else q
      | none => q }).flush k

/-! RESTART (R747). -/

/-- RESTART: answered, and then the device restarts. A kind other than 0 is out of range. -/
def execRestart (dt : Nat) (h : HcpReq) (kind : BitVec 8) (s : State) : Res :=
  hcpRequest dt h 0x70 (some 4) true (fun s _ =>
    if kind = 0 then ⟨.ok, [], s.onBoot fun b => { b with due := true }⟩ else ⟨.errAccess, [], s⟩) s

end Sys2Proof.Machine
end

