-- ==== Sys2Proof/Machine/CsOps.lean ====
section
/-! DEFINITION. Change sets as HCP operates them (01_architecture R27 to R35; 05_warp_seam R245 to R260; 15_hcp_control R735 to
R739), and their mirroring on a standby (13_mantle_twin R667 to R670). -/

set_option autoImplicit false

namespace Sys2Proof.Machine

/-! What passes before a set is operated. -/

/-- What stops a change set operation (R29, R669, R749), or none. -/
def State.csGate (s : State) (set : Nat) : Option Status :=
  if s.mode = .startUp then some .errBusy
  else if s.mirrorBars then some .errAccess
  else if 31 < set then some .errAddr
  else none

/-- A change set operation of a session. -/
def csRequest (dt : Nat) (h : HcpReq) (op set : Nat) (run : State → Done) (s : State) : Res :=
  hcpRequest dt h op (some 1) false (fun s _ =>
    match s.csGate set with
    | some e => ⟨e, [], s⟩
    | none => run s) s

/-- CS_OPEN (R735): 0xFF takes the lowest released set. -/
def execCsOpen (dt : Nat) (h : HcpReq) (set : BitVec 8) (s : State) : Res :=
  csRequest dt h 0x20 (if set = 0xFF then 0 else set.toNat) (fun s =>
    let free := fun (n : Nat) => (s.csOf n).state == 0
    if set = 0xFF then
      match (List.range 32).find? free with
      | some n => ⟨.ok, beBytes 1 n, s.csGo n {} 1⟩
      | none => ⟨.errFull, [], s⟩
    else if free set.toNat then ⟨.ok, beBytes 1 set.toNat, s.csGo set.toNat {} 1⟩
    else ⟨.errBusy, [], s⟩) s

/-! STAGE (R27, R245 to R247, R729, R736, R737). -/

/-- The bits of a register's S fields. -/
def Reg.sBits (r : Reg) : Nat := (r.fields.filter fun f => f.acc == .s).foldl (fun m f => m + (2 ^ f.width - 1) * 2 ^ f.lsb) 0

/-- The bits of the S fields that a write names. -/
def CsItem.fieldBits (it : CsItem) : Nat :=
  (it.reg.fields.filter fun f => f.acc == .s && it.hits f).foldl (fun m f => m + (2 ^ f.width - 1) * 2 ^ f.lsb) 0

/-- The bits of the word of its register that an item names: one word of a pair, else the register (R736). -/
def CsItem.wordBits (it : CsItem) : Nat :=
  if it.reg.w64 then (if it.mask % 2 ^ 32 = 0 then (2 ^ 32 - 1) * 2 ^ 32 else 2 ^ 32 - 1) else 2 ^ 64 - 1

/-- Lay an item over those of its entry (R737): for each field the later value replaces the earlier one, and an earlier item
that is left with no field counts no more (R27). The words of a pair are items of their own. -/
def mergeItem (olds : List CsItem) (it : CsItem) : List CsItem :=
  let m := it.mask &&& it.reg.sBits
  let new : CsItem := { it with val := it.val &&& m, mask := m }
  let span := new.fieldBits &&& it.wordBits
  let same := fun (o : CsItem) => o.reg == it.reg && o.inst == it.inst
  let under := (olds.filter same).foldl (fun (n : CsItem) o =>
    let k := (o.mask &&& span) - (o.mask &&& span &&& n.mask)
    { n with val := n.val ||| (o.val &&& k), mask := n.mask ||| k }) new
  let rest := olds.filterMap fun o =>
    if same o then
      let k := o.mask - (o.mask &&& span)
      if k = 0 then none else some { o with val := o.val &&& k, mask := k }
    else some o
  rest ++ [under]

/-- What one item of a STAGE entry answers, in the order of R729: each item names S fields of the entry's unit (R736). The
apron belongs to no change set (07_stitch R360). `all` is the entry as it would stand. -/
def State.stageCheck (s : State) (safety : Bool) (k : TKind) (i : Nat) (all : List CsItem) (w : Item) : Status :=
  match w.addr.loc with
  | none => .errAddr
  | some (.dir _ _) => .errAccess
  | some (.reg r j hi) =>
    if s.rejected (.reg r j hi) then .errAddr
    else
      let it := (WItem.mk r j hi w.val.toNat w.mask.toNat).wide
      let named := (s.writable r j).filter it.hits
      if named.isEmpty || !(named.all fun f => f.acc == .s) || s.unitOf r j != some (k, i) then .errAccess
      else if s.apronItem it then (if safety then .errAccess else .errProtected)
      else if !s.rangeOk all it then .errAccess
      else s.valueCheck all it

/-- Check the items of one entry, the first of them the request's item `n`: the index of the first that fails. -/
def State.stageItems (s : State) (safety : Bool) (k : TKind) (i : Nat) (all : List CsItem) : Nat → List Item → Status × Nat
  | n, [] => (.ok, n)
  | n, w :: ws =>
    match s.stageCheck safety k i all w with
    | .ok => s.stageItems safety k i all (n + 1) ws
    | e => (e, n)

/-- Lay the entries of a STAGE over those of a set; `n` counts items. -/
def State.stageEntries (s : State) (safety : Bool) : Nat → List StageEntry → List CsEntry → Status × Nat × List CsEntry
  | n, [], es => (.ok, n, es)
  | n, e :: rest, es =>
    if e.kind.count ≤ e.inst then (.errAddr, n, es)
    else if e.items.isEmpty || decide (64 < e.items.length) then (.errAccess, n, es)
    else
      let mine := fun (x : CsEntry) => x.kind == e.kind && x.inst == e.inst
      let old := ((es.find? mine).map fun x => x.items).getD []
      let all := (wideItems e.items).foldl mergeItem old
      match s.stageItems safety e.kind e.inst all n e.items with
      | (.ok, n') =>
        let es := if es.any mine then es.map fun x => if mine x then { x with items := all } else x
          else es ++ [{ kind := e.kind, inst := e.inst, items := all }]
        s.stageEntries safety n' rest es
      | (st, k) => (st, k, es)

/-- STAGE on an OPEN set: whole or not at all (R27, R729). Layers that it leaves naming allocated surfaces are bound (R873). -/
def State.stageSet (s : State) (set : Fin 32) (safety : Bool) (entries : List StageEntry) : Done :=
  let n := set.val
  let c := s.csOf n
  if c.state ≠ 1 then ⟨.errAccess, [], s⟩
  else match s.stageEntries safety 0 entries c.entries with
    | (.ok, _, es) =>
      let c' := { c with entries := es }
      let t := s.putCs n c'
      if 2048 < es.length ∨ 65536 < (t.cs.map fun p => p.2.items).sum then ⟨.errFull, [], s⟩
      else
        let touched := es.filter fun x => entries.any fun e => x.kind == e.kind && x.inst == e.inst
        let t := touched.foldl (fun t x =>
          t.each ((x.items.filter fun it => it.reg.isLayer).map fun it => it.inst).eraseDups fun t g =>
            t.bindLayer g (layerFields.map fun p => fieldUnder (fun f => t.stagedValue p.1 f g) p.1 p.2 g x.items)) t
        ⟨.ok, [], t.forward (.stage set entries)⟩
    | (st, k, _) => ⟨st, beBytes 2 k, s⟩

/-- STAGE (R736). A refusal names the item. -/
def execStage (dt : Nat) (h : HcpReq) (set : BitVec 8) (entries : List StageEntry) (s : State) : Res :=
  hcpRequest dt h 0x21 (some 1) false (fun s k =>
    match s.csGate set.toNat with
    | some e => ⟨e, [], s⟩
    | none => if hs : set.toNat < 32 then s.stageSet ⟨set.toNat, hs⟩ ((s.sessOf k).slot == 15) entries else ⟨.errAddr, [], s⟩) s

/-! ARM, PREPARE, COMMIT, CANCEL, CS_RELEASE (R28, R29, R248 to R257, R738). -/

/-- Whether a Kiln count is earlier than a time after an instant in ticks (R249, R469). -/
def earlier (t at_ after : Nat) : Bool :=
  decide (sval 64 (t + (2 ^ 64 - at_ / 65536 % 2 ^ 64)) * 65536 < ((at_ % 65536 + after : Nat) : Int))

/-- ARM of a set, accepted at `at_` (R248, R249; while mirroring 13_mantle_twin R668). -/
def State.armSet (s : State) (set : Fin 32) (allOrNone now auto : Bool) (ta tp at_ : Nat) : Done :=
  let n := set.val
  let c := s.csOf n
  let mirrored := s.mirrors && (s.role == .holder || s.role == .standby)
  if c.state ≠ 1 then ⟨.errAccess, [], s⟩
  else if !now && earlier ta at_ (us (if mirrored then 300 else 200)) then ⟨.errLate, [], s⟩
  else if allOrNone && earlier tp at_ (us 200) then ⟨.errLate, [], s⟩
  else if allOrNone && !now && decide (sval 64 (ta + (2 ^ 64 - tp)) < 1000000) then ⟨.errAccess, [], s⟩
  else
    let count := at_ / 65536 % 2 ^ 64
    let time := if !now then some ta
      else if mirrored && !allOrNone then some ((count + 300000) % 2 ^ 64) else none
    let c' := { c with allOrNone := allOrNone, auto := auto && allOrNone, now := now, ta := time, tp := tp,
                       armReg := if !now then ta else if allOrNone then 0 else count,
                       prepReg := if allOrNone then tp else 0, ord := s.ord }
    let t := (s.setOrd (s.ord + 1)).csGo n c' 2
    ⟨.ok, [], t.forward (.arm set allOrNone now auto ta tp)⟩

/-- ARM (R248): kind 0 split, 1 all-or-none. -/
def execArm (dt : Nat) (h : HcpReq) (set kind : BitVec 8) (now auto : Bool) (ta tp : BitVec 64) (s : State) : Res :=
  csRequest dt h 0x22 set.toNat (fun s =>
    if hs : set.toNat < 32 then
      if 1 < kind.toNat then ⟨.errAccess, [], s⟩
      else s.armSet ⟨set.toNat, hs⟩ (kind == 1) now auto ta.toNat tp.toNat s.now
    else ⟨.errAddr, [], s⟩) s

/-- PREPARE of a set (R254); T_p has not passed. -/
def State.prepareSet (s : State) (set : Fin 32) : Done :=
  let c := s.csOf set
  if c.state ≠ 2 || !c.allOrNone || !s.beforeTp c then ⟨.errAccess, [], s⟩
  else ⟨.ok, [], (s.csGo set { c with prepared := true } 3).forward (.prepare set)⟩

/-- PREPARE (R254). -/
def execPrepare (dt : Nat) (h : HcpReq) (set : BitVec 8) (s : State) : Res :=
  csRequest dt h 0x23 set.toNat (fun s =>
    if hs : set.toNat < 32 then s.prepareSet ⟨set.toNat, hs⟩ else ⟨.errAddr, [], s⟩) s

/-- COMMIT (R256; 13_mantle_twin R670). -/
def execCommit (dt : Nat) (h : HcpReq) (set : BitVec 8) (s : State) : Res :=
  csRequest dt h 0x24 set.toNat (fun s =>
    let c := s.csOf set.toNat
    if c.state = 3 ∧ s.beforeTp c ∧ s.csReady c then ⟨.ok, [], s.commitSet set.toNat s.now⟩ else ⟨.errAccess, [], s⟩) s

/-- Mash forgets the changes of a set that its Seams will not apply (08_mash R421). -/
def State.unlearnSet (s : State) (n : Nat) : State :=
  let c := s.csOf n
  (c.entries.filter fun e => e.kind == .dst && e.status == 0 && e.shadow.isSome).foldl (fun s e => s.unlearn e.inst c.ord) s

/-- CANCEL of a set (R28, R738). -/
def State.cancelSet (s : State) (set : Fin 32) : Done :=
  let c := s.csOf set
  if 2 ≤ c.state ∧ c.state ≤ 5 then ⟨.ok, [], ((s.unlearnSet set).csCancel set).forward (.cancel set)⟩ else ⟨.errAccess, [], s⟩

/-- CANCEL (R738). -/
def execCancel (dt : Nat) (h : HcpReq) (set : BitVec 8) (s : State) : Res :=
  csRequest dt h 0x25 set.toNat (fun s =>
    if hs : set.toNat < 32 then s.cancelSet ⟨set.toNat, hs⟩ else ⟨.errAddr, [], s⟩) s

/-- CS_RELEASE (R738): the set and its entries are discarded. -/
def execCsRelease (dt : Nat) (h : HcpReq) (set : BitVec 8) (s : State) : Res :=
  csRequest dt h 0x26 set.toNat (fun s =>
    let st := (s.csOf set.toNat).state
    if st = 1 ∨ 6 ≤ st then ⟨.ok, [], s.csGo set.toNat {} 0⟩ else ⟨.errAccess, [], s⟩) s

/-- An entry record (R739). -/
def CsEntry.record (e : CsEntry) : List Byte :=
  beBytes 1 e.kind.code ++ beBytes 1 e.status ++ beBytes 2 e.inst ++ beBytes 1 (b2n e.twin * 128 + e.cause) ++ beBytes 3 0

/-- CS_READ (R739): it needs READ, and HEM permits it (R716, R748). -/
def execCsRead (dt : Nat) (h : HcpReq) (set : BitVec 8) (first count : BitVec 16) (s : State) : Res :=
  hcpRequest dt h 0x27 (some 0) true (fun s _ =>
    if 31 < set.toNat then ⟨.errAddr, [], s⟩
    else
      let c := s.csOf set.toNat
      ⟨.ok, beBytes 1 c.state ++ ((c.entries.drop first.toNat).take count.toNat).flatMap CsEntry.record, s⟩) s

/-! Distribution and time (R28, R30, R250, R257, R868). -/

/-- An entry reaches its unit's shadow now. Mash learns of a change whose time is known (08_mash R420), and a stopped unit takes
what its time permits (R868), as does a TIME_OUT output with no edge due (10_kiln R518). -/
def State.inShadow (s : State) (n e : Nat) : State :=
  let c := s.csOf n
  match c.entries[e]? with
  | none => s
  | some x =>
    if x.status ≠ 0 || x.shadow.isSome || decide (c.state < 2 ∨ 5 < c.state) then s
    else
      let s := s.onEntry n e fun x => { x with shadow := some s.now }
      if s.unitStopped x.kind x.inst then s.takeStopped x.kind x.inst
      else if x.kind = .tout then s.toutSettle x.inst
      else if x.kind = .dst ∧ !(c.allOrNone && c.now) then
        match (csWaiting n (s.csOf n) .dst x.inst).find? fun k => k.src == some (n, e) with
        | some k => s.learnChange x.inst k
        | none => s
      else s

/-- CS_ENTRY_IN_SHADOW (R250, R869). -/
def execCsEntryInShadow (dt : Nat) (n : Fin 32) (e : BitVec 12) (s : State) : Res :=
  onMain dt s fun s => s.inShadow n e.toNat

/-- CS_DISTRIBUTION_DONE (R28, R250): every entry has reached its shadow, and a split set is APPLYING. -/
def execCsDistributionDone (dt : Nat) (n : Fin 32) (s : State) : Res :=
  onMain dt s fun s =>
    if (s.csOf n).state ≠ 2 then s
    else
      let s := s.each (List.range (s.csOf n).entries.length) fun s e => s.inShadow n e
      if (s.csOf n).allOrNone then s else (s.csGo n (s.csOf n) 5).csSettle n

/-- ARM_TIME_REACHED (R28, R868): a COMMITTED set is APPLYING, and stopped units take their entries, as do
TIME_OUT outputs with no edge due (10_kiln R518). -/
def execArmTimeReached (dt : Nat) (n : Fin 32) (s : State) : Res :=
  onMain dt s fun s =>
    let c := s.csOf n
    match c.ta with
    | some t =>
      if reached s.count t && decide (2 ≤ c.state ∧ c.state ≤ 5) then
        let s := if c.state = 4 then s.csGo n c 5 else s
        let s := c.entries.foldl (fun s e =>
          if e.kind = .tout then s.toutSettle e.inst
          else if s.unitStopped e.kind e.inst then s.takeStopped e.kind e.inst else s) s
        s.csSettle n
      else s
    | none => s

/-- The cause that an entry of a RETURNED set keeps, and whether the twin found it (R257; 13_mantle_twin R670). -/
def State.returnCause (s : State) (c : ChangeSet) (e : CsEntry) : Nat × Bool :=
  match s.entryCause c e with
  | 0 =>
    if s.role = .holder && s.mirrors then
      match c.twinNot.find? fun p => p.1 == e.kind.code && p.2.1 == e.inst with
      | some p => (p.2.2, true)
      | none => (0, false)
    else (0, false)
  | k => (k, false)

/-- PREPARE_DEADLINE (R257): NO_COMMIT when every unit was ready, or when no PREPARE was accepted. -/
def execPrepareDeadline (dt : Nat) (n : Fin 32) (s : State) : Res :=
  onMain dt s fun s =>
    let c := s.csOf n
    if !c.allOrNone || (c.state != 2 && c.state != 3) || s.beforeTp c then s
    else
      let none_ := !c.prepared || s.csReady c
      let es := c.entries.map fun e =>
        let p := if none_ then (5, false) else s.returnCause c e
        { e.discard with cause := p.1, twin := p.2 }
      (s.unlearnSet n).csGo n { c with entries := es } 7

/-! The standby of a mirroring pair (13_mantle_twin R652, R667, R668, R670). -/

/-- Perform a forwarded operation that its holder accepted at `at_`. A STAGE opens a set that is not in use, as CS_OPEN is not
forwarded. -/
def State.mirrored (s : State) (op : MirOp) (at_ : Nat) : Status × State :=
  let of := fun (d : Done) => (d.status, d.state)
  match op with
  | .write safety items =>
    let p := s.regWrite .mirror safety (some (at_ + us 100)) items
    (p.1, p.2.2)
  | .stage set entries =>
    let st := (s.csOf set).state
    of ((if st = 0 ∨ 6 ≤ st then s.csGo set {} 1 else s).stageSet set false entries)
  | .arm set allOrNone now auto ta tp => of (s.armSet set allOrNone now auto ta tp at_)
  | .prepare set => of (s.prepareSet set)
  | .commit set => if (s.csOf set).state = 3 then (.ok, s.commitSet set at_) else (.errAccess, s)
  | .cancel set => of (s.cancelSet set)
  | .surfAlloc size apron safety => of (s.allocSurf size apron safety)
  | .surfFree hd safety => s.surfFree safety hd
  | .bulkWrite surface safety addr off data => of (s.bulkWrite surface safety addr off data)
  | .rtpSeq seqs => (.ok, seqs.foldl (fun s p => s.setFlowSeq p.1 p.2) s)

/-- Whether a message brings sequence numbers, which R652 sends without the conditions of R667. -/
def MirOp.isSeq (op : MirOp) : Bool :=
  match op with
  | .rtpSeq _ => true
  | _ => false

/-- MIRROR (R652, R667): a result that differs from the holder's raises FS_357. -/
def execMirror (dt : Nat) (op : MirOp) (at_ : Nat) (result : Status) (s : State) : Res :=
  onMain dt s fun s =>
    if s.role = .standby && (s.mirrors || op.isSeq) then
      let p := s.mirrored op at_
      if p.1 = result then p.2 else p.2.raise 357 0 0
    else s

/-- CS_READY (R670): what the standby's copy of a set last reported. -/
def execCsReady (dt : Nat) (n : Fin 32) (ready : Bool) (notReady : List (TKind × BitVec 16 × BitVec 7)) (s : State) : Res :=
  onMain dt s fun s =>
    if s.role = .holder && s.mirrors then
      let c := s.csOf n
      s.putCs n { c with twinReady := ready, twinNot := notReady.map fun p => (p.1.code, p.2.1.toNat, p.2.2.toNat) }
    else s

end Sys2Proof.Machine
end

