-- ==== Sys2Proof/Machine/Snap.lean ====
section
/-! DEFINITION. Snapshots (05_warp_seam R262, R263; 15_hcp_control R740 to R742). -/

set_option autoImplicit false

namespace Sys2Proof.Machine

/-! What a snapshot holds. -/

/-- The instances of a register array that hold S fields of a Mash engine or head; for the route engine positions `first` to
`first` + `count` - 1 (R740). -/
def State.snapInsts (s : State) (k : TKind) (i first count : Nat) (r : Reg) : List Nat :=
  match k, r with
  | .eng, .MASH_ROUTE | .eng, .MASH_OUT_DELAY => if i = 256 then List.range' first count else []
  | .eng, .MASH_BUSIN => (List.range 8192).filter fun e => s.unitOf r e == some (.eng, i)
  | .eng, .MASH_BUS_FADER | .eng, .MASH_BUS_DYN_A | .eng, .MASH_BUS_DYN_B => if i < 256 then [i] else []
  | .head, .STCH_HEAD_CFG | .head, .STCH_HEAD_TIMING | .head, .STCH_HEAD_BG | .head, .STCH_HEAD_FILL | .head, .STCH_SIG_CTL => [i]
  | .head, .STCH_SIG_POS | .head, .STCH_SIG_SIZE | .head, .STCH_SIG_EXP => List.range' (i * 16) 16
  | .head, r => if r.isLayer then List.range' (i * 8) 8 else []
  | _, _ => []

/-- Put a place into a list by its address. -/
def byAddr (x : Reg × Nat) : List (Reg × Nat) → List (Reg × Nat)
  | [] => [x]
  | y :: ys => if (Loc.reg x.1 x.2 false).addr ≤ (Loc.reg y.1 y.2 false).addr then x :: y :: ys else y :: byAddr x ys

/-- Every S-field register of an engine or head in address order: the values in force, then the staged ones. -/
def State.unitDump (s : State) (k : TKind) (i first count : Nat) : List Byte :=
  let rs := (Reg.all.flatMap fun r => (s.snapInsts k i first count r).map fun j => (r, j)).foldr byAddr []
  (rs.flatMap fun p => beBytes 4 (s.regValue p.1 p.2 false)) ++ rs.flatMap fun p => beBytes 4 (s.regValue p.1 p.2 true)

/-- The data of a target other than the Warp (R740). -/
def State.snapData (s : State) (target i first count : Nat) : List Byte :=
  let w := fun (r : Reg) (i : Nat) => beBytes 4 (s.regValue r i false)
  match target with
  | 1 => s.unitDump .eng i first count
  | 2 => s.unitDump .head i first count
  | 3 => ((List.range 16).flatMap fun k => w .FLT_STANDING k) ++ w .FLT_STAT 0 ++ w .FLT_LOG_PTR 0
  | _ => w .KILN_STAT 0 ++ w .KILN_TEB 0 ++ w .KILN_OFFSET_REM 0 ++ beBytes 8 s.count

/-- Whether a snapshot request names what there is (R740, R741). -/
def snapOk (target i first count : Nat) (seam : Bool) : Bool :=
  decide (target ≤ 4) && (!seam || target == 0) &&
  (match target with
   | 0 => decide (1 ≤ count ∧ first + count ≤ 1152)
   | 1 => decide (i < 256) || (i == 256 && decide (1 ≤ count ∧ count ≤ 4096 ∧ first + count ≤ 32768))
   | 2 => decide (i < 16)
   | _ => true)

/-! Capture. -/

/-- A snapshot buffer. -/
def State.snapBuf (s : State) (k : Nat) : Option SnapBuf := (s.hcp.snaps.find? fun p => p.1 == k).map fun p => p.2

/-- Store a snapshot buffer. -/
def State.putSnap (s : State) (k : Nat) (b : SnapBuf) : State :=
  let h := { s.hcp with snaps := tinsert s.hcp.snaps k b }
  s.onHcp fun _ => h

/-- Whether a destination is recorded now in a snapshot with SEAM whose T_s has come: it is stopped or not bound, or its
boundary has not come for one frame period (R263). -/
def State.seamDue (s : State) (b : SnapBuf) (d : Nat) : Bool :=
  let stopped := s.unitStopped .dst d || !s.on Fld.CELL_DST_BIND_EN d
  let wait := if stopped then 0 else ((fmtOf (s.rd Fld.WARP_DST_CFG_FMT d)).map fun f => f.periodNs).getD 0
  reached s.count (b.ts + wait)

/-- Capture a buffer whose T_s is reached, in one step (R262), or with SEAM what is due now (R263). -/
def State.capture (s : State) (k : Nat) : State :=
  match s.snapBuf k with
  | none => s
  | some b =>
    if b.complete || !reached s.count b.ts then s
    else if b.seam then
      s.each ((List.range' b.first b.count).filter (s.seamDue b)) fun s d => s.snapSeam d (fine s.now)
    else
      let recs := if b.target = 0 then (List.range' b.first b.count).map fun d => (d, s.warpRecord d)
        else [(0, s.snapData b.target b.inst b.first b.count)]
      s.putSnap k { b with recs := recs, complete := true }

/-- SNAPSHOT_CAPTURE (R262, R740): T_s of a buffer is reached. -/
def execSnapshotCapture (dt : Nat) (k : Fin 4) (s : State) : Res := onMain dt s fun s => s.capture k

/-- SNAPSHOT (R740, R741): a T_s that is already reached is late (10_kiln R470). -/
def execSnapshot (dt : Nat) (h : HcpReq) (target : BitVec 8) (now seam : Bool) (inst first count : BitVec 16) (ts : BitVec 64)
    (s : State) : Res :=
  hcpRequest dt h 0x30 (some 0) true (fun s k =>
    if !snapOk target.toNat inst.toNat first.toNat count.toNat seam then ⟨.errAccess, [], s⟩
    else match (List.range 4).find? fun n => (s.snapBuf n).isNone with
      | none => ⟨.errFull, [], s⟩
      | some n =>
        let b : SnapBuf := { owner := k, target := target.toNat, seam := seam, inst := inst.toNat, first := first.toNat,
                             count := count.toNat, ts := if now then s.count else ts.toNat,
                             late := !now && reached s.count ts.toNat, complete := false, recs := [] }
        ⟨.ok, beBytes 1 n, (s.putSnap n b).capture n⟩) s

/-! Retrieval (R742). -/

/-- The buffer of a number that belongs to a session. -/
def State.ownSnap (s : State) (k n : Nat) : Option SnapBuf := (s.snapBuf n).filter fun b => b.owner == k

/-- SNAP_READ (R742, R710). -/
def execSnapRead (dt : Nat) (h : HcpReq) (buf : BitVec 8) (off : BitVec 32) (len : BitVec 16) (s : State) : Res :=
  hcpRequest dt h 0x31 (some 0) true (fun s k =>
    match s.ownSnap k buf.toNat with
    | none => ⟨.errAddr, [], s⟩
    | some b =>
      let data := b.recs.flatMap fun p => p.2
      if !b.complete then ⟨.errBusy, [], s⟩
      else if data.length < off.toNat + len.toNat then ⟨.errAccess, [], s⟩
      else ⟨.ok, beBytes 1 (1 + 2 * b2n b.late) ++ (data.drop off.toNat).take len.toNat, s⟩) s

/-- SNAP_FREE (R742). -/
def execSnapFree (dt : Nat) (h : HcpReq) (buf : BitVec 8) (s : State) : Res :=
  hcpRequest dt h 0x32 (some 0) true (fun s k =>
    match s.ownSnap k buf.toNat with
    | none => ⟨.errAddr, [], s⟩
    | some _ =>
      let q := { s.hcp with snaps := s.hcp.snaps.filter fun p => p.1 != buf.toNat }
      ⟨.ok, [], (s.onHcp fun _ => q)⟩) s

end Sys2Proof.Machine
end

