-- ==== Sys2Proof/Machine/Verify.lean ====
section
/-! DEFINITION. What verification asks of an image (17_startup_update R786, R789, R791). -/

set_option autoImplicit false

namespace Sys2Proof.Machine

/-! Configuration records (R786). -/

/-- One value of a configuration record: it sets the fields of its register whose reset value is the image's (R786). -/
def State.imageWord (s : State) (l : Loc) (v : Nat) : State :=
  match l with
  | .reg r i hi =>
    let it := (WItem.mk r i hi v (2 ^ 32 - 1)).wide
    (r.fields.filter fun f => f.form == .image && it.hits f).foldl
      (fun s f => s.wr f i (f.merge (s.rd f i) it.val it.mask)) s
  | .dir _ _ => s

/-- One configuration record. -/
def State.imageRecord (s : State) (c : CfgRec) : State :=
  match c.addr.loc with
  | some l => c.vals.zipIdx.foldl (fun s v => match l.plus v.2 with
      | some x => s.imageWord x v.1.toNat
      | none => s) s
  | none => s

/-- Whether a record names registers with "image" fields, and the values that it has set lie in their fields' ranges (R791). -/
def State.recordOk (s : State) (c : CfgRec) : Bool :=
  match c.addr.loc with
  | none => false
  | some l => (List.range c.vals.length).all fun k => match l.plus k with
    | some (.reg r i _) => r.fields.any (fun f => f.form == .image)
        && r.fields.all fun f => f.form != .image || (decide (f.lo ≤ s.rd f i) && decide (s.rd f i ≤ f.hi))
    | _ => false

/-- The configuration that records give to a state, and whether each record was good. -/
def State.applyRecs (s : State) (recs : List CfgRec) : State × Bool :=
  recs.foldl (fun p c => let t := p.1.imageRecord c; (t, p.2 && t.recordOk c)) (s, true)

/-! The rules whose breach makes an image fail (R791). -/

/-- No value stands twice in a list. -/
def distinct (l : List (Nat × Nat)) : Bool := l.eraseDups.length == l.length

/-- The bindings of slots to lanes and flows (03_cells_slots R127). -/
def State.bindingsOk (s : State) : Bool :=
  let src := (s.listed Fld.CELL_SRC_BIND_EN).filter fun k => s.on Fld.CELL_SRC_BIND_EN k
  let dst := (s.listed Fld.CELL_DST_BIND_EN).filter fun d => s.on Fld.CELL_DST_BIND_EN d
  let place := fun (p : Nat × Nat) => decide (p.1 ≤ 31 ∧ p.2 ≤ 35)
  let video := fun (dir f : Nat) => s.rd Fld.ETH_FLOW_CTL_DIR f == dir && decide (s.rd Fld.ETH_FLOW_CTL_TYPE f ≤ 1)
  distinct (src.filterMap s.srcLane) && distinct (dst.filterMap s.dstLane)
    && (src.filterMap s.srcLane).all place && (dst.filterMap s.dstLane).all place
    && (src.filterMap s.srcFlow).all (video 0) && (dst.filterMap s.dstFlow).all (video 1)

/-- LATENCY of every destination (05_warp_seam R235). -/
def State.latencyOk (s : State) : Bool :=
  (List.range 1152).all fun d =>
    let n := s.rd Fld.WARP_DST_CFG_LATENCY d
    if s.rd Fld.WARP_DST_CFG_MODE d = 1 then decide (1 ≤ n ∧ n ≤ 3) else n == 0

/-- The regions of Cask, in units of 2 MiB: 96 GiB in all, and 256 MiB of spare pages (06_cask R267, R268). -/
def State.regionsOk (s : State) : Bool :=
  let size := s.rd Fld.CASK_REGION_SIZE
  decide (((List.range 7).map size).sum ≤ 49152) && (List.range 7).all (fun r => decide (s.rd Fld.CASK_REGION_BASE r + size r ≤ 49152))
    && (List.range 6).all (fun r => decide (s.rd Fld.CASK_REGION_BASE r + size r ≤ s.rd Fld.CASK_REGION_BASE (r + 1)))
    && decide (128 ≤ size 5)

/-- The entries of the mix buses, and the returns that they name (08_mash R397, R400). -/
def State.busesOk (s : State) : Bool :=
  let own := (List.range 8192).filter fun e => s.on Fld.MASH_BUSIN_MAP_ASSIGNED e
  (List.range 256).all (fun b => decide ((own.filter fun e => s.rd Fld.MASH_BUSIN_MAP_BUS e = b).length ≤ 128))
    && own.all fun e => match s.busAt (s.rd Fld.MASH_BUSIN_INPUT e) with
      | some a => decide (a < s.rd Fld.MASH_BUSIN_MAP_BUS e)
      | none => true

/-- The audio ports (09_audio_ports R432). No field of the image gives a port a rate of its own, so none can break 08_mash R376 (log
entry 161, DEDUCED). -/
def State.audioOk (s : State) : Bool :=
  !s.on Fld.MASH_CFG_RATE 0 || (List.range 16).all fun p => s.rd Fld.APRT_TDM_FMT_SLOTS p != 4

/-- Severities and hem contents (14_faults_hem R677, R689). -/
def State.faultsOk (s : State) : Bool :=
  (List.range 512).all (fun k => decide (s.rd Fld.FLT_SRC_CFG_SEVERITY k ≤ 2) &&
      !(s.rd Fld.FLT_SRC_CFG_SEVERITY k == 1 && (faultInfo k).any fun p => p.2 == .none))
    && (List.range 1152).all fun d => s.rd Fld.FLT_HEM_CFG_CONTENT d != 2 ||
      (s.apronHead (s.rd Fld.FLT_HEM_CFG_HEM_HEAD d)
        && s.rd Fld.STCH_HEAD_CFG_FMT (s.rd Fld.FLT_HEM_CFG_HEM_HEAD d) == s.rd Fld.WARP_DST_CFG_FMT d)

/-- Whether the configuration that records give passes (R791, check CONFIG). Each flow's PORT names a media port by its width
(04_ethernet R185). -/
def State.configOk (s : State) (recs : List CfgRec) : Bool :=
  let p := s.applyRecs recs
  p.2 && p.1.bindingsOk && p.1.latencyOk && p.1.regionsOk && p.1.busesOk && p.1.audioOk && p.1.faultsOk

/-! The checks in their order (R791). -/

/-- The magic, format version and header length are those of the table, and every offset and length lies in the image. -/
def ImgIn.headerOk (m : ImgIn) : Bool :=
  m.magic == 0x5054524E && m.format == 1 && m.hdrLen == 4096 && decide (4096 ≤ m.hdr.len)
    && decide (m.cfgOff + m.cfgLen ≤ m.hdr.len) && decide (m.keyOff + 816 * m.keys.length ≤ m.hdr.len)
    && m.comps.all fun c => decide (c.off + c.len ≤ m.hdr.len)

/-- A signature is the last 96 bytes of `n` bytes from `from_`, covers those before it, and verifies (R789). -/
def Sig.signs (g : Sig) (from_ n : Nat) : Bool :=
  g.ok && decide (96 ≤ n) && g.at_ == from_ + n - 96 && g.first == from_ && g.last + 97 == from_ + n

/-- The version of every component lies in each requirement for its type, and every required type is there. -/
def ImgIn.compatible (m : ImgIn) : Bool :=
  m.comps.all fun c => c.reqs.all fun q => q.type == 0 ||
    ((m.comps.any fun d => d.type == q.type)
      && m.comps.all fun d => d.type != q.type || (decide (q.lo.toNat ≤ d.version.toNat) && decide (d.version.toNat ≤ q.hi.toNat)))

/-- The key record that names this device (R787). -/
def ImgIn.key (m : ImgIn) : Option KeyRec := m.keys.find? fun k => k.mine

/-- Whether the owner key's digest stands in a programmed fuse slot that is not revoked (R790). -/
def State.ownerKnown (s : State) (digest : Nat) : Bool :=
  (List.range 4).any fun k => tget (none, false) s.boot.fuses k == (some digest, false)

/-- Verification of an image: the cause of the first check that fails, 0 for none (R791). -/
def State.imageCause (s : State) (m : ImgIn) : Nat :=
  if !m.readable then 3
  else if !m.headerOk then 1
  else if 0x8000000 < m.hdr.len then 2
  else if !s.ownerKnown m.ownerKey.toNat then 4
  else if !m.ownerSig.signs 0 m.hdr.len then 5
  else if !(m.comps.all fun c => c.sig.signs c.off c.len) then 6
  else if !m.compatible then 7
  else if m.hdr.svn < s.rd Fld.BOOT_MIN_SVN_SVN 0 then 8
  else if !(m.key.any fun k => k.slots.toList.all fun e => !e.loaded || e.ok) then 10
  else if !({ s with rv := [] } : State).configOk m.recs then 9
  else 0

end Sys2Proof.Machine
end

