-- ==== Sys2Proof/Machine/Boot.lean ====
section
/-! DEFINITION. The start-up sequence, the swap and trial state (17_startup_update R780 to R811). The commands that end a verification
bring the image that was read. -/

set_option autoImplicit false

namespace Sys2Proof.Machine

/-! STAGING's state (BOOT.STG_STAT), which the state record holds (R785). -/

/-- STAGING's state: 0 EMPTY, 1 WRITING, 2 VERIFYING, 3 VALID, 4 INVALID, 5 PENDING, 6 PREVIOUS, 7 RECEIVING. -/
def State.stg (s : State) : Nat := s.rd Fld.BOOT_STG_STAT_STATE 0

/-- STAGING enters a state with a cause. -/
def State.setStg (s : State) (st cause : Nat) : State :=
  ((s.wr Fld.BOOT_STG_STAT_STATE 0 st).wr Fld.BOOT_STG_STAT_CAUSE 0 cause).onRec id

/-- STAGING's flash contents are erased, and its image is known no more. -/
def State.eraseStaging (s : State) : State :=
  (s.clearBytes (stagingAt 0) 0x8000000).onBoot fun b => { b with staging := {}, written := 0, writer := none, rx := none }

/-- An IMAGE event: kind, cause and the first 8 bytes of an identifier. -/
def State.imageEvent (s : State) (kind cause id : Nat) : State :=
  s.event 7 0x0701 0 (beBytes 1 kind ++ beBytes 1 cause ++ beBytes 8 (id / 2 ^ 64))

/-! Stages 1 and 2 (R781, R792, R802 to R805, R809, R810). -/

/-- Whether the start-up sequence stands at a stage and goes on. -/
def State.atStage (s : State) (n : Nat) : Bool :=
  s.mode == .startUp && s.rd Fld.BOOT_STAT_STAGE 0 == n && !s.flt.startHold

/-- Start-up fails with cause FLASH: it goes no further, and FAULT_N is asserted (R782, R794, R805). -/
def State.flashFails (s : State) : State :=
  let s := (s.wr Fld.BOOT_STAT_CAUSE 0 3).wr Fld.BOOT_STAT_SOURCE 0 2
  s.onFlt fun z => { z with startHold := true }

/-- The sectors of a swap: the larger image, rounded up to whole sectors of 64 KiB (R803). -/
def State.swapLen (s : State) : Nat := (max s.boot.active.len s.boot.staging.len + 65535) / 65536

/-- Copy `n` bytes of flash. -/
def State.copyBytes (s : State) (src dst n : Nat) : State :=
  let cs := (s.mem.filter fun p => decide (src ≤ p.1 ∧ p.1 < src + n)).map fun p => (p.1 - src + dst, p.2)
  let s := s.clearBytes dst n
  s.setMem (tputs 0 s.mem cs)

/-- The exchange is complete (R805, R810). -/
def State.swapEnd (s : State) : State :=
  let back := s.boot.rec_.fallback
  let s := s.onBoot fun b => { b with active := b.staging, staging := b.active }
  let s := s.onRec fun r => { r with swapping := false, fallback := false, trial := !back, step := 0, len := 0 }
  let s := ((s.wr Fld.BOOT_STG_STAT_RELAYED 0 0).wr Fld.BOOT_STG_STAT_HOPS 0 0).flag Fld.BOOT_STAT_SWAPPED 0 true
  let s := if back then ((s.setStg 4 14).flag Fld.BOOT_STAT_FELL_BACK 0 true).imageEvent 5 14 s.boot.staging.id
    else (s.wr Fld.BOOT_TRIAL_STARTS 0 1).setStg 6 0
  s.toStage 3

/-- A swap begins, or ends at once when there is nothing to exchange. -/
def State.swapBegin (s : State) : State :=
  let s := s.onRec fun r => { r with swapping := true, step := 0, len := s.swapLen }
  if s.boot.rec_.len = 0 then s.swapEnd else s.toStage 2

/-- The copy of the state record in use gives its contents; without one they stay as they are (R785). -/
def State.recLoad (s : State) : State :=
  let c := if s.recAUsed then s.boot.recA else s.boot.recB
  if (recSeq c).isNone then s
  else
    let bit := bitOf (beAt c 5 1)
    let r : StateRec := { seq := beAt c 0 4, swapping := bit 1, fallback := bit 2, trial := bit 3, step := beAt c 8 4, len := beAt c 12 4 }
    ((s.onBoot fun z => { z with rec_ := r }).wr Fld.BOOT_STG_STAT_STATE 0 (beAt c 4 1)).wr Fld.BOOT_TRIAL_STARTS 0 (beAt c 6 1)

/-- What stage 2 does (R780, R802 to R804, R809, R810). -/
def State.stage2 (s : State) : State :=
  let s := s.recLoad
  let st := s.stg
  let s := if st = 1 ∨ st = 2 ∨ st = 7 then s.eraseStaging.setStg 0 0 else s
  if s.on Fld.BOOT_STAT_FACTORY_PIN 0 then s.toStage 3
  else if s.boot.rec_.swapping then s.toStage 2
  else
    let starts := s.rd Fld.BOOT_TRIAL_STARTS 0
    let s := if !s.boot.rec_.trial || s.boot.rec_.fallback then s
      else if 2 ≤ starts then s.onRec fun r => { r with fallback := true }
      else (s.wr Fld.BOOT_TRIAL_STARTS 0 (starts + 1)).onRec id
    if s.boot.rec_.fallback || s.stg == 5 then s.swapBegin else s.toStage 3

/-- Whether XO_IN is absent, or has returned less than 1 ms ago (19_electrical_package R847). -/
def State.xoWaits (s : State) : Bool := s.kiln.xoLost || s.kiln.xoFrom.any fun t => decide (s.up < t + ms 1)

/-- FLASH_INIT_DONE (R781, R782): `ok` says that the flash gives what R782 asks. Stage 1 cannot end before XO_IN has run for 1 ms (R847): the
command then has no effect, and comes again (log entry 162, DESIGN CHOICE). -/
def execFlashInitDone (dt : Nat) (ok : Bool) (s : State) : Res :=
  onMain dt s fun s => if !s.atStage 1 || s.xoWaits then s else if ok then s.stage2 else s.flashFails

/-- SWAP_STEP_DONE (R803 to R805): `ok` is false when three attempts at the step have failed. -/
def execSwapStepDone (dt : Nat) (ok : Bool) (s : State) : Res :=
  onMain dt s fun s =>
    if !s.atStage 2 || !s.boot.rec_.swapping then s
    else if !ok then s.flashFails
    else
      let n := s.boot.rec_.step
      let at_ := n / 3 * 65536
      let s := match n % 3 with
        | 0 => s.copyBytes (activeAt at_) (scratchAt 0) 65536
        | 1 => s.copyBytes (stagingAt at_) (activeAt at_) 65536
        | _ => s.copyBytes (scratchAt 0) (stagingAt at_) 65536
      let s := s.onRec fun r => { r with step := n + 1 }
      if 3 * s.boot.rec_.len ≤ n + 1 then s.swapEnd else s

/-! Stage 3 (R791, R794). -/

/-- START_VERIFY_DONE (R791, R794): verification of ACTIVE or FACTORY ends, of the image that was read there. -/
def execStartVerifyDone (dt : Nat) (img : ImgIn) (s : State) : Res :=
  onMain dt s fun s =>
    if !s.atStage 3 then s
    else
      let factory := s.boot.useFactory || s.on Fld.BOOT_STAT_FACTORY_PIN 0
      let cause := s.imageCause img
      if cause = 0 then
        let hdr := img.hdr
        let s := s.onBoot fun b => if factory then { b with run := hdr, factory := hdr } else { b with run := hdr, active := hdr }
        let s := s.onBoot fun b => { b with img := { recs := img.recs, key := img.key, ip := img.ip.toList } }
        let s := (s.wr Fld.BOOT_STAT_SOURCE 0 (b2n factory)).flag Fld.CTRL_DEV_STATE_TRIAL 0 (s.boot.rec_.trial && !factory)
        s.toStage 4
      else
        let s := s.wr Fld.BOOT_STAT_CAUSE 0 cause
        if factory then (s.wr Fld.BOOT_STAT_SOURCE 0 2).onFlt fun z => { z with startHold := true }
        else s.onBoot fun b => { b with useFactory := true }

/-! Stage 4: the configuration (R713, R786, R787, R817; 14_faults_hem R693). -/

/-- The 97 bytes of the device public key, and the device identifier: the first 8 bytes of its SHA-384 (R787, R817). -/
def devPubBytes : List Byte := ((List.range 25).flatMap fun w => beBytes 4 (Config.devPub w)).take 97
def deviceId : Nat := Config.sha384 devPubBytes / 2 ^ 320

/-- The wrapping key of a key record (R788): HKDF-SHA-384 of the x coordinate of the ECDH product of the device private key and the
ephemeral key, with the ASCII bytes "AKX8200 HCP" and the device identifier as its info. -/
def KeyRec.wrapKey (k : KeyRec) : Nat :=
  Config.hkdf384 (Config.ecdhX k.eph.toNat) (("AKX8200 HCP".toList.map fun c => BitVec.ofNat 8 c.toNat) ++ beBytes 8 deviceId)

/-- The controller keys of a key record, by slot, unwrapped under RFC 3394 (R787, R788). -/
def KeyRec.unwrapped (k : KeyRec) : List (Nat × Nat) :=
  (k.slots.toList.zipIdx.filter fun e => e.1.loaded).map fun e => (e.2, Config.unwrap k.wrapKey e.1.wrapped.toNat)

/-- The controller key slots (R713, R787): rights, EN, LOADED, the key's check value, and the keys, which no operation reads. -/
def State.imageKeys (s : State) (k : KeyRec) : State :=
  let s := k.slots.toList.zipIdx.foldl (fun s e =>
    (((s.wr Fld.HCP_SLOT_STAT_RIGHTS e.2 e.1.rights.toNat).flag Fld.HCP_SLOT_STAT_EN e.2 e.1.en).flag
      Fld.HCP_SLOT_STAT_LOADED e.2 e.1.loaded).wr Fld.HCP_SLOT_STAT_KCV e.2 0) s
  let s := k.unwrapped.foldl (fun s p => s.wr Fld.HCP_SLOT_STAT_KCV p.1 (Config.kcv p.2)) s
  s.onHcp fun z => { z with keys := k.unwrapped }

/-- Whether a place of the field store lies in a register array. -/
def Reg.holds (r : Reg) (at_ : Nat) : Bool := r.fields.any fun f => f.key == at_ % 1024

/-- Kiln outputs whose program the image changed start it now (10_kiln R515, R523). -/
def State.imageOutputs (s old : State) : State :=
  let differs := fun (rs : List Reg) (n : Nat) => rs.any fun r => r.fields.any fun f => s.rd f n != old.rd f n
  let s := s.each ((List.range 16).filter (differs [.KILN_TOUT_CTL, .KILN_TOUT_START, .KILN_TOUT_PERIOD, .KILN_TOUT_WIDTH]))
    fun s n => s.putTout n { s.toutOf n with since := fine s.now, fired := false, skipped := false }
  s.each ((List.range 4).filter fun n => s.on Fld.KILN_CLK_CTL_EN n && !old.on Fld.KILN_CLK_CTL_EN n) fun s n =>
    s.onKiln fun k => { k with clkFrom := tput 0 k.clkFrom n (s.now + us 2) }

/-- Kiln and GNSS follow their configuration (10_kiln R486, R525; 11_gnss R551, R563). -/
def State.imageKeep (s old : State) (utc : Bool) : State :=
  let v := s.rd Fld.KILN_UTC_UTC_OFFSET 0 + s.rd Fld.KILN_UTC_LEAP59 0 * 256 + s.rd Fld.KILN_UTC_LEAP61 0 * 512
  let s := (if utc then s.onKiln fun k => { k with utcImage := v } else s).utcSettle
  let s := ((s.imageOutputs old).refSettle.refSelect true).hoCheck
  let mode := s.rd Fld.GNSS_CTL_POS_MODE 0
  let s := if mode = old.rd Fld.GNSS_CTL_POS_MODE 0 then s else s.posMode mode
  let en := s.on Fld.GNSS_CTL_EN 0
  if en = old.on Fld.GNSS_CTL_EN 0 then s else if en then s.gnssStart else s.gnssStop

/-- The units that the image enables start (04_ethernet R172; 05_warp R222; 07_stitch R315; 08_mash R418; 09_audio_ports R453;
12_time_service R579). -/
def State.imageUnits (s : State) : State :=
  let on := fun (s : State) (f : Field) => (s.listed f).filter fun i => s.on f i
  let s := s.each (on s Fld.WARP_DST_CFG_EN) State.judge
  let s := s.each (on s Fld.MASH_DST_AUDIO_FOLLOW) fun s d =>
    let route := s.rd Fld.WARP_DST_ROUTE_SRC d
    (s.putFollow d { base := route }).setFollow d route
  let s := s.each (on s Fld.STCH_HEAD_CFG_EN) State.headOn
  let s := s.each (on s Fld.APRT_PORT_CTL_EN) State.portStart
  s.each (List.range 18) fun s p =>
    let role := s.rd Fld.TSVC_PORT_CFG_ROLE p
    if role = 0 then s else (s.wr Fld.TSVC_PORT_CFG_ROLE p 0).roleWrite p role

/-- CONFIG_APPLIED (R786 to R788, R817): stage 4 ends with the records of the image that was verified. -/
def execConfigApplied (dt : Nat) (s : State) : Res :=
  onMain dt s fun s =>
    if !s.atStage 4 then s
    else
      let old := s
      let run := s.boot.run
      let img := s.boot.img
      let s := img.recs.foldl State.imageRecord s
      let s := match img.key with
        | some k => s.imageKeys k
        | none => s
      let s := ((s.wr Fld.BOOT_ACT_VER_PROTO 0 run.proto).wr Fld.BOOT_ACT_VER_PROTO_LO 0 run.protoLo).wr
        Fld.BOOT_ACT_VER_PROTO_HI 0 run.protoHi
      let s := s.wr Fld.BOOT_ACT_SVN_SVN 0 run.svn
      let e := { s.eth with ip := (List.range 18).foldl (fun t p => tput 0 t p ((img.ip.getD p 0).toNat)) [] }
      let s := ((s.onEth fun _ => e).onGnss fun g => { g with buildWeek := run.week }).toStage 5
      let utc := img.recs.any fun c => match c.addr.loc with
        | some l => (List.range c.vals.length).any fun k => match l.plus k with
          | some (.reg .KILN_UTC _ _) => true
          | _ => false
        | none => false
      let s := (s.imageKeep old utc).imageUnits
      s.boot.conds.foldl (fun s k => if tget 0 s.flt.stand k = 0 then s.raise (k / 8192) (k % 8192) 0 else s) s

/-! Stages 5 to 9 (R792, R793; 01_architecture R46, R51). -/

/-- HBM_TRAINED: stage 5 ends, and the enabled bundles train (02_izsar R78). -/
def execHbmTrained (dt : Nat) (s : State) : Res :=
  onMain dt s fun s =>
    if !s.atStage 5 then s
    else (s.toStage 6).each ((List.range 33).filter fun b => s.on Fld.IZL_LINK_CTL_ENABLE b) fun s b => (s.txStart b).train b

/-- STAGE_6_END (R793): every enabled bundle and port is up, or 200 ms have passed. -/
def execStage6End (dt : Nat) (s : State) : Res :=
  onMain dt s fun s =>
    let up := ((List.range 33).all fun b => !s.on Fld.IZL_LINK_CTL_ENABLE b || s.linkUp b)
      && (List.range 18).all fun p => !s.on Fld.ETH_PORT_CTL_EN p || s.portUp p
    if !s.atStage 6 || !(up || decide (s.boot.stageAt + ms 200 ≤ s.up)) then s
    else
      let s := s.toStage 7
      let s := if s.on Fld.KILN_STAT_TIME_VALID 0 then s else s.onKiln fun k => { k with waitFrom := some s.up }
      s.timeStage

/-- ENTER_SERVICE (R46): the sequence is complete once the mantle is negotiated. The entry into SERVICE
writes the cellar configuration (R51, R52). -/
def execEnterService (dt : Nat) (s : State) : Res :=
  onMain dt s fun s =>
    if !s.atStage 8 || s.role == .none then s
    else
      (s.toStage 9).setMode (if s.anyFenced || s.any7Lane then .degraded else .service)

/-! Trial state (R806 to R808). -/

/-- Whether the trial image confirms itself now (R806). -/
def State.confirmsNow (s : State) : Bool :=
  s.trial && s.selfOk && decide (s.selfSince + sec s.boot.run.holdS ≤ s.up)
    && (!s.boot.run.requireHost || s.on Fld.BOOT_TRIAL_CONFIRM 0)

/-- The image is confirmed (R807). -/
def State.confirmTrial (s : State) : State :=
  let run := s.boot.run
  let s := (s.flag Fld.CTRL_DEV_STATE_TRIAL 0 false).onRec fun r => { r with trial := false }
  let s := if run.raiseSvn ∧ s.rd Fld.BOOT_MIN_SVN_SVN 0 < run.svn then s.wr Fld.BOOT_MIN_SVN_SVN 0 run.svn else s
  (s.onMntl fun m => { m with sickAt := s.up }).imageEvent 4 0 run.id

/-- TRIAL_CONFIRMED (R806, R807). -/
def execTrialConfirmed (dt : Nat) (s : State) : Res :=
  onMain dt s fun s => if s.confirmsNow then s.confirmTrial else s

/-- TRIAL_WINDOW_EXPIRE (R808): CONFIRM_S after the start began. A confirmation at the same edge governs. -/
def execTrialWindowExpire (dt : Nat) (s : State) : Res :=
  onMain dt s fun s =>
    if !s.trial || decide (s.up < s.boot.startAt + sec s.boot.run.confirmS) then s
    else if s.confirmsNow then s.confirmTrial
    else s.trialReject.restartIfDue

end Sys2Proof.Machine
end

