-- ==== Sys2Proof/Machine/Image.lean ====
section
/-! DEFINITION. Writing STAGING through HCP, and relay (17_startup_update R796 to R802, R812 to R816). -/

set_option autoImplicit false

namespace Sys2Proof.Machine

/-! IMAGE operations (R796 to R801). -/

/-- What names a session as a writer: its slot and its identifier, which no other session of the slot has. -/
def Session.writerId (r : Session) : Nat := r.slot * 2 ^ 32 + r.id

/-- An IMAGE operation of a session. -/
def imageRequest (dt : Nat) (h : HcpReq) (op : Nat) (inHem : Bool) (run : State → Nat → Done) (s : State) : Res :=
  hcpRequest dt h op (some 3) inHem (fun s k => run s (s.sessOf k).writerId) s

/-- IMAGE_WRITE (R796 to R798): `full` says that the buffer ahead of the flash is full. Data past the partition is refused. -/
def execImageWrite (dt : Nat) (h : HcpReq) (off : BitVec 32) (data : List Byte) (full : Bool) (s : State) : Res :=
  imageRequest dt h 0x60 false (fun s w =>
    let o := off.toNat
    let st := s.stg
    let mine := st == 1 && s.boot.writer == some w
    if st = 5 ∨ st = 7 ∨ st = 2 ∨ s.trial then ⟨.errBusy, [], s⟩
    else if o ≠ 0 ∧ st = 1 ∧ !mine then ⟨.errBusy, [], s⟩
    else if o ≠ 0 ∧ (!mine || s.boot.written != o) then ⟨.errAccess, [], s⟩
    else if 0x8000000 < o + data.length then ⟨.errAccess, [], s⟩
    else if full then ⟨.errBusy, [], s⟩
    else
      let s := if o = 0 then
          let s := (s.eraseStaging.setStg 1 0).flag Fld.BOOT_STG_STAT_RELAYED 0 false
          (s.wr Fld.BOOT_STG_STAT_HOPS 0 0).onBoot fun b => { b with writer := some w }
        else s
      ⟨.ok, [], (s.putBytes (stagingAt o) data).onBoot fun b => { b with written := o + data.length }⟩) s

/-- IMAGE_END (R799). -/
def execImageEnd (dt : Nat) (h : HcpReq) (len : BitVec 32) (activate : Bool) (s : State) : Res :=
  imageRequest dt h 0x61 false (fun s w =>
    let written := s.stg = 1 ∧ s.boot.writer = some w ∧ s.boot.written = len.toNat
    let again := activate ∧ len = 0 ∧ (s.stg = 3 ∨ s.stg = 6)
    if written ∨ again then ⟨.ok, [], (s.setStg 2 0).onBoot fun b => { b with activate := activate, writer := none }⟩
    else ⟨.errAccess, [], s⟩) s

/-- What stops an activation (R800), 0 for nothing: 11 TWIN, 12 HOLDER, 13 TWIN_TRIAL. -/
def State.activateCause (s : State) (h : ImgHdr) : Nat :=
  let known := s.mntl.twinAt.isSome
  let w := s.rd Fld.MNTL_HEALTH_TWIN_DATA 7
  let proto := bitsOf w 16 8
  let lo := bitsOf w 8 8
  let hi := bitsOf w 0 8
  let ranges := decide (lo ≤ h.proto ∧ h.proto ≤ hi ∧ h.protoLo ≤ proto ∧ proto ≤ h.protoHi)
  if s.on Fld.MNTL_CTL_EN 0 && known && !ranges then 11
  else if s.role == .holder && s.on Fld.MNTL_STAT_TWIN_HEALTHY 0 then 12
  else if known && bitOf (s.rd Fld.MNTL_HEALTH_TWIN_DATA 0) 18 then 13
  else 0

/-- IMAGE_ABORT (R801). -/
def execImageAbort (dt : Nat) (h : HcpReq) (s : State) : Res :=
  imageRequest dt h 0x62 false (fun s _ =>
    let st := s.stg
    if st = 1 ∨ st = 2 ∨ st = 7 then ⟨.ok, [], s.eraseStaging.setStg 0 0⟩
    else if st = 5 then ⟨.ok, [], s.setStg 3 0⟩
    else ⟨.ok, [], s⟩) s

/-- IMAGE_STATUS (R799). -/
def execImageStatus (dt : Nat) (h : HcpReq) (s : State) : Res :=
  imageRequest dt h 0x63 true (fun s _ =>
    ⟨.ok, beBytes 4 (s.regValue .BOOT_STG_STAT 0 false) ++ beBytes 4 s.boot.written ++ beBytes 16 s.boot.staging.id
      ++ beBytes 16 s.boot.active.id, s⟩) s

/-! Relay (R812 to R816). -/

/-- Send a relay message in one side cell of channel 1 (R812; 03_cells_slots R159). -/
def State.relaySend (s : State) (b code hops id off : Nat) (rest : List Byte) : State :=
  s.sideSend b 1 (beBytes 1 code ++ beBytes 1 hops ++ beBytes 16 id ++ beBytes 4 off ++ rest)

/-- Offer STAGING on each of a list of links that is up (R813, R815). -/
def State.offerOn (s : State) (hops : Nat) (links : List Nat) : State :=
  s.each (links.filter s.linkUp) fun s b => s.relaySend b 1 hops s.boot.staging.id 0 (beBytes 4 s.boot.staging.len)

/-- The links of a mask, with MANTLE. -/
def relayLinks (mask : Nat) (mantle : Bool) : List Nat :=
  ((List.range 32).filter fun b => bitOf mask b) ++ (if mantle then [32] else [])

/-- IMAGE_RELAY (R813): hops from 1 to 64, STAGING VALID or PENDING. -/
def execImageRelay (dt : Nat) (h : HcpReq) (hops : BitVec 8) (mask : BitVec 32) (mantle : Bool) (s : State) : Res :=
  imageRequest dt h 0x64 false (fun s _ =>
    if hops.toNat = 0 ∨ 64 < hops.toNat ∨ (s.stg ≠ 3 ∧ s.stg ≠ 5) then ⟨.errAccess, [], s⟩
    else ⟨.ok, [], s.offerOn hops.toNat (relayLinks mask.toNat mantle)⟩) s

/-- IMAGE_VERIFY_DONE (R791, R799, R800, R815): verification of STAGING ends, of the image that was read there. -/
def execImageVerifyDone (dt : Nat) (img : ImgIn) (s : State) : Res :=
  onMain dt s fun s =>
    if s.stg ≠ 2 then s
    else
      let c := s.imageCause img
      let hdr := img.hdr
      let act := s.boot.activate
      let rx := s.boot.rx
      let s := s.onBoot fun b => { b with staging := hdr, activate := false, rx := none }
      match rx with
      | some r =>
        let s := (s.setStg (if c = 0 then 3 else 4) c).relaySend r.link 5 r.hops r.id r.len (beBytes 1 c)
        let s := s.imageEvent (if c = 0 then 2 else 1) c hdr.id
        if c = 0 ∧ 1 < r.hops ∧ s.on Fld.BOOT_RELAY_CTL_FORWARD 0 then
          s.offerOn (r.hops - 1) ((relayLinks (s.rd Fld.BOOT_RELAY_MASK_BUNDLES 0) (s.on Fld.BOOT_RELAY_CTL_MANTLE 0)).filter
            fun b => b != r.link)
        else s
      | none =>
        if c ≠ 0 then (s.setStg 4 c).imageEvent 1 c hdr.id
        else
          let a := if act then s.activateCause hdr else 0
          (s.setStg (if act ∧ a = 0 then 5 else 3) a).imageEvent 0 a hdr.id

/-- A received relay message (R812). -/
structure RelayIn where
  hops : Nat
  id : Nat
  off : Nat
  rest : List Byte
deriving DecidableEq, Repr

/-- A side cell arrives on a bundle: what the relay message of a code does that it completes (R812). -/
def State.relayIn (s : State) (b : Nat) (rx : RxCell) (code : Nat) (f : State → RelayIn → State) : State :=
  s.sideIn b 1 rx fun s d =>
    if 22 ≤ d.length ∧ beAt d 0 1 = code then f s ⟨beAt d 1 1, beAt d 2 16, beAt d 18 4, d.drop 22⟩ else s

/-- Why an offer is declined (R814), 0 when it is not: 1 duplicate, 2 busy, 3 not accepting. -/
def State.declines (s : State) (id : Nat) : Nat :=
  let st := s.stg
  if id = s.boot.active.id ∨ (st ≠ 0 ∧ id = s.boot.staging.id) then 1
  else if st = 1 ∨ st = 2 ∨ st = 7 ∨ st = 5 ∨ s.trial then 2
  else if s.on Fld.BOOT_RELAY_CTL_ACCEPT 0 then 0 else 3

/-- OFFER (R814). -/
def execRelayOffer (dt : Nat) (b : Fin 33) (rx : RxCell) (s : State) : Res :=
  onMain dt s fun s => s.relayIn b rx 1 fun s q =>
    match s.declines q.id with
    | 0 =>
      let s := (s.eraseStaging.setStg 7 0).flag Fld.BOOT_STG_STAT_RELAYED 0 true
      let s := s.wr Fld.BOOT_STG_STAT_HOPS 0 q.hops
      let r : RelayRx := { link := b, hops := q.hops, id := q.id, len := beAt q.rest 0 4, at_ := s.up }
      (s.onBoot fun x => { x with rx := some r }).relaySend b 2 q.hops q.id 0 []
    | c => s.relaySend b 6 q.hops q.id 0 (beBytes 1 c)

/-- Image bytes in one DATA message (R812). -/
def relayChunk : Nat := 226

/-- Send DATA on a link while it stays within 256 KiB of the last ACK (R813); `n` bounds the messages. -/
def State.relayPump (s : State) (b hops : Nat) : Nat → State
  | 0 => s
  | n + 1 =>
    let r := tget {} s.boot.tx b
    let left := min relayChunk (s.boot.staging.len - r.sent)
    if left = 0 ∨ r.acked + 262144 < r.sent + left then s
    else
      let s := s.relaySend b 3 hops s.boot.staging.id r.sent (s.bytesAt (stagingAt r.sent) left)
      (s.onBoot fun x => { x with tx := tinsert x.tx b { r with sent := r.sent + left } }).relayPump b hops n

/-- The most DATA messages that fit in the window. -/
def relayWindow : Nat := 262144 / 226 + 1

/-- Whether a message is of the image that the device relays. -/
def State.relays (s : State) (id : Nat) : Bool := (s.stg == 3 || s.stg == 5) && id == s.boot.staging.id

/-- WANT (R813): the sender begins at the offset that it names. -/
def execRelayWant (dt : Nat) (b : Fin 33) (rx : RxCell) (s : State) : Res :=
  onMain dt s fun s => s.relayIn b rx 2 fun s q =>
    if s.relays q.id then
      (s.onBoot fun x => { x with tx := tinsert x.tx b { acked := q.off, sent := q.off, at_ := s.up } }).relayPump b q.hops relayWindow
    else s

/-- The relay that the device receives on a link. -/
def State.rxOn (s : State) (b id : Nat) : Option RelayRx :=
  if s.stg = 7 then s.boot.rx.filter fun r => r.link == b && r.id == id else none

/-- DATA (R812 to R814): bytes at the offset that the receiver stands at are stored, with an ACK for each 64 KiB and at the
end; DATA beyond it shows a loss, and WANT names where to resume. -/
def execRelayData (dt : Nat) (b : Fin 33) (rx : RxCell) (s : State) : Res :=
  onMain dt s fun s => s.relayIn b rx 3 fun s q =>
    match s.rxOn b q.id with
    | none => s
    | some r =>
      let r := { r with at_ := s.up }
      if q.off < r.stored then s.onBoot fun x => { x with rx := some r }
      else if r.stored < q.off then
        (s.onBoot fun x => { x with rx := some r }).relaySend b 2 r.hops r.id r.stored []
      else
        let d := q.rest.take (r.len - r.stored)
        let n := r.stored + d.length
        let s := s.putBytes (stagingAt r.stored) (d.take (0x8000000 - r.stored))
        let ack := n / 65536 != r.acked / 65536 || n == r.len
        let r := { r with stored := n, acked := if ack then n else r.acked }
        let s := s.onBoot fun x => { x with rx := some r, written := n }
        let s := if ack then s.relaySend b 4 r.hops r.id n [] else s
        if n = r.len then s.setStg 2 0 else s

/-- RELAY_ACK (R813): the bytes before the offset are stored, and the window opens. -/
def execRelayAck (dt : Nat) (b : Fin 33) (rx : RxCell) (s : State) : Res :=
  onMain dt s fun s => s.relayIn b rx 4 fun s q =>
    match (s.boot.tx.find? fun p => p.1 == b.val) with
    | some (_, r) =>
      if s.relays q.id then
        let r := { r with acked := max r.acked (min q.off r.sent), at_ := s.up }
        (s.onBoot fun x => { x with tx := tinsert x.tx b r }).relayPump b q.hops relayWindow
      else s
    | none => s

/-- A sent relay ends on a link. -/
def State.relayEnds (s : State) (b : Nat) : State := s.onBoot fun x => { x with tx := x.tx.filter fun p => p.1 != b }

/-- DONE (R815): the receiver's result. -/
def execRelayDone (dt : Nat) (b : Fin 33) (rx : RxCell) (s : State) : Res :=
  onMain dt s fun s => s.relayIn b rx 5 fun s q =>
    if s.boot.tx.any fun p => p.1 == b.val then (s.relayEnds b).imageEvent 3 (beAt q.rest 0 1) q.id else s

/-- DECLINE (R814). -/
def execRelayDecline (dt : Nat) (b : Fin 33) (rx : RxCell) (s : State) : Res :=
  onMain dt s fun s => s.relayIn b rx 6 fun s _ => s.relayEnds b

/-- RELAY_TIMEOUT (R816): no message of a transfer for 2 s, received (`rx`) or sent. -/
def execRelayTimeout (dt : Nat) (b : Fin 33) (rx : Bool) (s : State) : Res :=
  onMain dt s fun s =>
    if rx then
      match s.boot.rx with
      | some r => if s.stg = 7 ∧ r.link = b.val ∧ r.at_ + sec 2 ≤ s.up then s.eraseStaging.setStg 0 0 else s
      | none => s
    else match s.boot.tx.find? fun p => p.1 == b.val with
      | some (_, r) => if r.at_ + sec 2 ≤ s.up then s.relayEnds b else s
      | none => s

end Sys2Proof.Machine
end

