-- ==== Sys2Proof/Machine/Dispatch.lean ====
section
/-! DEFINITION. One arm for each command. -/

namespace Sys2Proof.Machine

def exec (i : Instr) (s : State) : Host.Outcome State Fault Refusal :=
  match i with
  | .cellarNAsserted dt => Sys2Proof.Machine.execCellarNAsserted dt s
  | .cellarEnter dt m => Sys2Proof.Machine.execCellarEnter dt m s
  | .cellarEntryIsolated dt => Sys2Proof.Machine.execCellarEntryIsolated dt s
  | .cellarNDeasserted dt pref => Sys2Proof.Machine.execCellarNDeasserted dt pref s
  | .resetNAsserted dt => Sys2Proof.Machine.execResetNAsserted dt s
  | .resetNDeasserted dt factory pref => Sys2Proof.Machine.execResetNDeasserted dt factory pref s
  | .keepAlivePorRelease dt => Sys2Proof.Machine.execKeepAlivePorRelease dt s
  | .flashInitDone dt ok => Sys2Proof.Machine.execFlashInitDone dt ok s
  | .swapStepDone dt ok => Sys2Proof.Machine.execSwapStepDone dt ok s
  | .startVerifyDone dt img => Sys2Proof.Machine.execStartVerifyDone dt img s
  | .configApplied dt => Sys2Proof.Machine.execConfigApplied dt s
  | .hbmTrained dt => Sys2Proof.Machine.execHbmTrained dt s
  | .stage6End dt => Sys2Proof.Machine.execStage6End dt s
  | .enterService dt => Sys2Proof.Machine.execEnterService dt s
  | .hemMashSilent dt => Sys2Proof.Machine.execHemMashSilent dt s
  | .islandClockLost dt n => Sys2Proof.Machine.execIslandClockLost dt n s
  | .islandClockReturn dt n => Sys2Proof.Machine.execIslandClockReturn dt n s
  | .csOpen dt h set => Sys2Proof.Machine.execCsOpen dt h set s
  | .stage dt h set entries => Sys2Proof.Machine.execStage dt h set entries s
  | .arm dt h set kind now auto ta tp => Sys2Proof.Machine.execArm dt h set kind now auto ta tp s
  | .prepare dt h set => Sys2Proof.Machine.execPrepare dt h set s
  | .commit dt h set => Sys2Proof.Machine.execCommit dt h set s
  | .cancel dt h set => Sys2Proof.Machine.execCancel dt h set s
  | .csRelease dt h set => Sys2Proof.Machine.execCsRelease dt h set s
  | .csRead dt h set first count => Sys2Proof.Machine.execCsRead dt h set first count s
  | .csDistributionDone dt n => Sys2Proof.Machine.execCsDistributionDone dt n s
  | .csEntryInShadow dt n e => Sys2Proof.Machine.execCsEntryInShadow dt n e s
  | .armTimeReached dt n => Sys2Proof.Machine.execArmTimeReached dt n s
  | .prepareDeadline dt n => Sys2Proof.Machine.execPrepareDeadline dt n s
  | .clockLaneQualified dt b => Sys2Proof.Machine.execClockLaneQualified dt b s
  | .adaptDone dt b => Sys2Proof.Machine.execAdaptDone dt b s
  | .bitSlipPosition dt b => Sys2Proof.Machine.execBitSlipPosition dt b s
  | .deskewDone dt b arrival => Sys2Proof.Machine.execDeskewDone dt b arrival s
  | .verifyDone dt b => Sys2Proof.Machine.execVerifyDone dt b s
  | .retrain dt m b => Sys2Proof.Machine.execRetrain dt m b s
  | .autoRetrainRetry dt b => Sys2Proof.Machine.execAutoRetrainRetry dt b s
  | .bundleEnable dt m b en => Sys2Proof.Machine.execBundleEnable dt m b en s
  | .txAlignmentMarker dt b => Sys2Proof.Machine.execTxAlignmentMarker dt b s
  | .alignmentMarker dt b l skipped rx => Sys2Proof.Machine.execAlignmentMarker dt b l skipped rx s
  | .markerMissing dt b l => Sys2Proof.Machine.execMarkerMissing dt b l s
  | .interpolatorLimit dt b l late => Sys2Proof.Machine.execInterpolatorLimit dt b l late s
  | .fill dt b l rx => Sys2Proof.Machine.execFill dt b l rx s
  | .lightIdleEntry dt b l rx => Sys2Proof.Machine.execLightIdleEntry dt b l rx s
  | .deepIdleEntry dt b l rx => Sys2Proof.Machine.execDeepIdleEntry dt b l rx s
  | .idleReq dt m b v => Sys2Proof.Machine.execIdleReq dt m b v s
  | .idleAutoTimeout dt b => Sys2Proof.Machine.execIdleAutoTimeout dt b s
  | .txIdleExit dt b => Sys2Proof.Machine.execTxIdleExit dt b s
  | .exitBurstDelimiter dt b l => Sys2Proof.Machine.execExitBurstDelimiter dt b l s
  | .wakeFailure dt b => Sys2Proof.Machine.execWakeFailure dt b s
  | .fwdClockStop dt b => Sys2Proof.Machine.execFwdClockStop dt b s
  | .fwdClockGlitch dt b => Sys2Proof.Machine.execFwdClockGlitch dt b s
  | .fwdClockRateChange dt b => Sys2Proof.Machine.execFwdClockRateChange dt b s
  | .fwdClockRequalified dt b => Sys2Proof.Machine.execFwdClockRequalified dt b s
  | .idleCell dt b cell => Sys2Proof.Machine.execIdleCell dt b cell s
  | .essenceCell dt b cell overrun => Sys2Proof.Machine.execEssenceCell dt b cell overrun s
  | .ancillaryCell dt b cell packets => Sys2Proof.Machine.execAncillaryCell dt b cell packets s
  | .echoCell dt b cell => Sys2Proof.Machine.execEchoCell dt b cell s
  | .stampCell dt b cell => Sys2Proof.Machine.execStampCell dt b cell s
  | .familyCellRx dt cell => Sys2Proof.Machine.execFamilyCellRx dt cell s
  | .managementSideCell dt b cell => Sys2Proof.Machine.execManagementSideCell dt b cell s
  | .laneTestCell dt cell => Sys2Proof.Machine.execLaneTestCell dt cell s
  | .signatureCell dt cell => Sys2Proof.Machine.execSignatureCell dt cell s
  | .sourceLostTimeout dt k => Sys2Proof.Machine.execSourceLostTimeout dt k s
  | .warpCellCheckFail dt d field line offset => Sys2Proof.Machine.execWarpCellCheckFail dt d field line offset s
  | .familyCellTx dt b fam => Sys2Proof.Machine.execFamilyCellTx dt b fam s
  | .launchCellTx dt d => Sys2Proof.Machine.execLaunchCellTx dt d s
  | .echoCellTx dt => Sys2Proof.Machine.execEchoCellTx dt s
  | .signatureCellTx dt dsts => Sys2Proof.Machine.execSignatureCellTx dt dsts s
  | .ethFrameBad dt p cause => Sys2Proof.Machine.execEthFrameBad dt p cause s
  | .unmatchedFrame dt p len query => Sys2Proof.Machine.execUnmatchedFrame dt p len query s
  | .pauseFrame dt p pfc classes quanta => Sys2Proof.Machine.execPauseFrame dt p pfc classes quanta s
  | .pauseExpire dt p q => Sys2Proof.Machine.execPauseExpire dt p q s
  | .pauseWatchdog dt p q => Sys2Proof.Machine.execPauseWatchdog dt p q s
  | .pauseIgnoreEnd dt p q => Sys2Proof.Machine.execPauseIgnoreEnd dt p q s
  | .arpRequest dt p target len => Sys2Proof.Machine.execArpRequest dt p target len s
  | .icmpEchoRequest dt p data len => Sys2Proof.Machine.execIcmpEchoRequest dt p data len s
  | .st211020Packet dt p h seq ts marker field narrow ok room rows => Sys2Proof.Machine.execSt211020Packet dt p h seq ts marker field narrow ok room rows s
  | .st211022Packet dt p h seq ts marker ok payload => Sys2Proof.Machine.execSt211022Packet dt p h seq ts marker ok payload s
  | .st211030Packet dt p h seq ts ok l16 samples => Sys2Proof.Machine.execSt211030Packet dt p h seq ts ok l16 samples s
  | .st211031Packet dt p h seq ts ok subframes => Sys2Proof.Machine.execSt211031Packet dt p h seq ts ok subframes s
  | .st211040Packet dt p h seq newFrame ok packets => Sys2Proof.Machine.execSt211040Packet dt p h seq newFrame ok packets s
  | .flowLostTimeout dt f => Sys2Proof.Machine.execFlowLostTimeout dt f s
  | .audioFlowLostTimeout dt f => Sys2Proof.Machine.execAudioFlowLostTimeout dt f s
  | .flowEnable dt m f en => Sys2Proof.Machine.execFlowEnable dt m f en s
  | .ethLossOfSignal dt p => Sys2Proof.Machine.execEthLossOfSignal dt p s
  | .ethLinkGlitch dt p frames => Sys2Proof.Machine.execEthLinkGlitch dt p frames s
  | .ethRateChange dt p => Sys2Proof.Machine.execEthRateChange dt p s
  | .ethLinkUp dt p => Sys2Proof.Machine.execEthLinkUp dt p s
  | .dstRouteWrite dt m d src => Sys2Proof.Machine.execDstRouteWrite dt m d src s
  | .seamGuardOpen dt d => Sys2Proof.Machine.execSeamGuardOpen dt d s
  | .seamSwitchingInstant dt d second => Sys2Proof.Machine.execSeamSwitchingInstant dt d second s
  | .seamSnapshotTimeout dt buf d => Sys2Proof.Machine.execSeamSnapshotTimeout dt buf d s
  | .dstFrameLaunch dt d => Sys2Proof.Machine.execDstFrameLaunch dt d s
  | .dstLineBoundary dt d field line => Sys2Proof.Machine.execDstLineBoundary dt d field line s
  | .freezeExpire dt d => Sys2Proof.Machine.execFreezeExpire dt d s
  | .plyProxyComplete dt k => Sys2Proof.Machine.execPlyProxyComplete dt k s
  | .caskCorrectedError dt page => Sys2Proof.Machine.execCaskCorrectedError dt page s
  | .caskUncorrectableError dt page at_ => Sys2Proof.Machine.execCaskUncorrectableError dt page at_ s
  | .pageRetireDone dt page => Sys2Proof.Machine.execPageRetireDone dt page s
  | .surfAlloc dt h size apron => Sys2Proof.Machine.execSurfAlloc dt h size apron s
  | .surfFree dt h surf => Sys2Proof.Machine.execSurfFree dt h surf s
  | .bulkWrite dt h kind addr off data => Sys2Proof.Machine.execBulkWrite dt h kind addr off data s
  | .bulkRead dt h kind addr off len => Sys2Proof.Machine.execBulkRead dt h kind addr off len s
  | .headEnable dt m h => Sys2Proof.Machine.execHeadEnable dt m h s
  | .headDisable dt m h => Sys2Proof.Machine.execHeadDisable dt m h s
  | .headGuardOpen dt h => Sys2Proof.Machine.execHeadGuardOpen dt h s
  | .headFrameStart dt h => Sys2Proof.Machine.execHeadFrameStart dt h s
  | .transitionFrameEnd dt h => Sys2Proof.Machine.execTransitionFrameEnd dt h s
  | .headUnderrun dt h e x => Sys2Proof.Machine.execHeadUnderrun dt h e x s
  | .apronUnderrun dt h e x => Sys2Proof.Machine.execApronUnderrun dt h e x s
  | .headFrameEnd dt h => Sys2Proof.Machine.execHeadFrameEnd dt h s
  | .sigLearn dt m h => Sys2Proof.Machine.execSigLearn dt m h s
  | .apronFieldWrite dt m h k val mask => Sys2Proof.Machine.execApronFieldWrite dt m h k val mask s
  | .apronFieldApply dt h => Sys2Proof.Machine.execApronFieldApply dt h s
  | .apronNAsserted dt g => Sys2Proof.Machine.execApronNAsserted dt g s
  | .apronForceBegin dt g => Sys2Proof.Machine.execApronForceBegin dt g s
  | .apronNDeasserted dt g => Sys2Proof.Machine.execApronNDeasserted dt g s
  | .mashSampleInstant dt => Sys2Proof.Machine.execMashSampleInstant dt s
  | .engSwapRequest dt m e => Sys2Proof.Machine.execEngSwapRequest dt m e s
  | .engHoldWrite dt m e hold => Sys2Proof.Machine.execEngHoldWrite dt m e hold s
  | .zcTimeout dt bus ix => Sys2Proof.Machine.execZcTimeout dt bus ix s
  | .faderRampEnd dt b => Sys2Proof.Machine.execFaderRampEnd dt b s
  | .unlockHoldExpire dt k => Sys2Proof.Machine.execUnlockHoldExpire dt k s
  | .portEnable dt m p => Sys2Proof.Machine.execPortEnable dt m p s
  | .portDisable dt m p => Sys2Proof.Machine.execPortDisable dt m p s
  | .prerollDone dt p => Sys2Proof.Machine.execPrerollDone dt p s
  | .stopDone dt p => Sys2Proof.Machine.execStopDone dt p s
  | .frameSync dt p rx ppm => Sys2Proof.Machine.execFrameSync dt p rx ppm s
  | .maskLoWrite dt m p v mask => Sys2Proof.Machine.execMaskLoWrite dt m p v mask s
  | .maskHiWrite dt m p v mask => Sys2Proof.Machine.execMaskHiWrite dt m p v mask s
  | .portClockStop dt p => Sys2Proof.Machine.execPortClockStop dt p s
  | .portClockGlitch dt p => Sys2Proof.Machine.execPortClockGlitch dt p s
  | .portRateChange dt p => Sys2Proof.Machine.execPortRateChange dt p s
  | .portClockQualified dt p => Sys2Proof.Machine.execPortClockQualified dt p s
  | .frameEpoch dt fam => Sys2Proof.Machine.execFrameEpoch dt fam s
  | .kilnSecond dt => Sys2Proof.Machine.execKilnSecond dt s
  | .evtInEdge dt n falling short => Sys2Proof.Machine.execEvtInEdge dt n falling short s
  | .evtCapRead dt m n => Sys2Proof.Machine.execEvtCapRead dt m n s
  | .nowRead dt m => Sys2Proof.Machine.execNowRead dt m s
  | .lowerWordRead dt m a => Sys2Proof.Machine.execLowerWordRead dt m a s
  | .ppsInPulse dt n falling short => Sys2Proof.Machine.execPpsInPulse dt n falling short s
  | .vrefInPulse dt n falling short => Sys2Proof.Machine.execVrefInPulse dt n falling short s
  | .pulseTimeout dt k => Sys2Proof.Machine.execPulseTimeout dt k s
  | .freqInGlitch dt n => Sys2Proof.Machine.execFreqInGlitch dt n s
  | .freqInStop dt n => Sys2Proof.Machine.execFreqInStop dt n s
  | .freqInRateChange dt n => Sys2Proof.Machine.execFreqInRateChange dt n s
  | .refQualified dt k => Sys2Proof.Machine.execRefQualified dt k s
  | .selCtlWrite dt m v mask => Sys2Proof.Machine.execSelCtlWrite dt m v mask s
  | .refOrderWrite dt m second v mask => Sys2Proof.Machine.execRefOrderWrite dt m second v mask s
  | .kilnStep dt => Sys2Proof.Machine.execKilnStep dt s
  | .kilnTimeSet dt => Sys2Proof.Machine.execKilnTimeSet dt s
  | .slewDone dt => Sys2Proof.Machine.execSlewDone dt s
  | .dacUpdate dt => Sys2Proof.Machine.execDacUpdate dt s
  | .tempRead dt temp => Sys2Proof.Machine.execTempRead dt temp s
  | .tempSensorTimeout dt => Sys2Proof.Machine.execTempSensorTimeout dt s
  | .modelSave dt => Sys2Proof.Machine.execModelSave dt s
  | .modelValid dt => Sys2Proof.Machine.execModelValid dt s
  | .oscGlitch dt => Sys2Proof.Machine.execOscGlitch dt s
  | .oscStop dt => Sys2Proof.Machine.execOscStop dt s
  | .oscRateChange dt => Sys2Proof.Machine.execOscRateChange dt s
  | .oscDrift dt => Sys2Proof.Machine.execOscDrift dt s
  | .oscRestore dt => Sys2Proof.Machine.execOscRestore dt s
  | .xoInStop dt => Sys2Proof.Machine.execXoInStop dt s
  | .timeOutPulse dt n => Sys2Proof.Machine.execTimeOutPulse dt n s
  | .timeOutPulseEnd dt n => Sys2Proof.Machine.execTimeOutPulseEnd dt n s
  | .clkOutAlign dt n => Sys2Proof.Machine.execClkOutAlign dt n s
  | .timeSetGo dt m => Sys2Proof.Machine.execTimeSetGo dt m s
  | .startWaitExpire dt => Sys2Proof.Machine.execStartWaitExpire dt s
  | .gnssClockStop dt ix => Sys2Proof.Machine.execGnssClockStop dt ix s
  | .gnssClockGlitch dt ix => Sys2Proof.Machine.execGnssClockGlitch dt ix s
  | .gnssClockRateChange dt ix => Sys2Proof.Machine.execGnssClockRateChange dt ix s
  | .gnssClockRequalified dt ix => Sys2Proof.Machine.execGnssClockRequalified dt ix s
  | .gnssSearchPass dt sig sweep found => Sys2Proof.Machine.execGnssSearchPass dt sig sweep found s
  | .hotSearchTimeout dt c => Sys2Proof.Machine.execHotSearchTimeout dt c s
  | .channelLockLoss dt c code => Sys2Proof.Machine.execChannelLockLoss dt c code s
  | .navDataDecoded dt c almanac utc week => Sys2Proof.Machine.execNavDataDecoded dt c almanac utc week s
  | .measurementEpoch dt channels => Sys2Proof.Machine.execMeasurementEpoch dt channels s
  | .gnssSolution dt m => Sys2Proof.Machine.execGnssSolution dt m s
  | .posWrite dt m k hi v mask => Sys2Proof.Machine.execPosWrite dt m k hi v mask s
  | .posModeWrite dt m v => Sys2Proof.Machine.execPosModeWrite dt m v s
  | .baselineLearnt dt b => Sys2Proof.Machine.execBaselineLearnt dt b s
  | .selftest dt m => Sys2Proof.Machine.execSelftest dt m s
  | .selftestDone dt u ok last => Sys2Proof.Machine.execSelftestDone dt u ok last s
  | .gnssBurst dt channels m => Sys2Proof.Machine.execGnssBurst dt channels m s
  | .gnssNavRefresh dt => Sys2Proof.Machine.execGnssNavRefresh dt s
  | .syncTx dt p => Sys2Proof.Machine.execSyncTx dt p s
  | .followUpTx dt p sess => Sys2Proof.Machine.execFollowUpTx dt p sess s
  | .announceTx dt p => Sys2Proof.Machine.execAnnounceTx dt p s
  | .syncMetadataTx dt p => Sys2Proof.Machine.execSyncMetadataTx dt p s
  | .grantDue dt ix sync => Sys2Proof.Machine.execGrantDue dt ix sync s
  | .grantExpire dt ix kind => Sys2Proof.Machine.execGrantExpire dt ix kind s
  | .delayReq dt p h => Sys2Proof.Machine.execDelayReq dt p h s
  | .sync dt p h two seconds nanos => Sys2Proof.Machine.execSync dt p h two seconds nanos s
  | .followUp dt p h seconds nanos tebs => Sys2Proof.Machine.execFollowUp dt p h seconds nanos tebs s
  | .delayResp dt p h log requester seconds nanos => Sys2Proof.Machine.execDelayResp dt p h log requester seconds nanos s
  | .announce dt p h log data => Sys2Proof.Machine.execAnnounce dt p h log data s
  | .clientDelayReqTx dt p => Sys2Proof.Machine.execClientDelayReqTx dt p s
  | .announceReceiptTimeout dt p => Sys2Proof.Machine.execAnnounceReceiptTimeout dt p s
  | .exchangeTimeout dt p => Sys2Proof.Machine.execExchangeTimeout dt p s
  | .requestUnicastTransmission dt p h reqs => Sys2Proof.Machine.execRequestUnicastTransmission dt p h reqs s
  | .cancelUnicastTransmission dt p h kinds => Sys2Proof.Machine.execCancelUnicastTransmission dt p h kinds s
  | .managementMessage dt p len => Sys2Proof.Machine.execManagementMessage dt p len s
  | .pdelayMessage dt p len => Sys2Proof.Machine.execPdelayMessage dt p len s
  | .ntpRequest dt p r turn => Sys2Proof.Machine.execNtpRequest dt p r turn s
  | .ntsRequest dt p r x turn => Sys2Proof.Machine.execNtsRequest dt p r x turn s
  | .leapSecond dt => Sys2Proof.Machine.execLeapSecond dt s
  | .sessRead dt m => Sys2Proof.Machine.execSessRead dt m s
  | .sessWrite dt m keyA keyB => Sys2Proof.Machine.execSessWrite dt m keyA keyB s
  | .sessInvalidate dt m => Sys2Proof.Machine.execSessInvalidate dt m s
  | .keyLoad dt m nts slot => Sys2Proof.Machine.execKeyLoad dt m nts slot s
  | .ntsMkeyWrite dt m k en issue => Sys2Proof.Machine.execNtsMkeyWrite dt m k en issue s
  | .ptpRoleWrite dt m p role => Sys2Proof.Machine.execPtpRoleWrite dt m p role s
  | .inject dt m v => Sys2Proof.Machine.execInject dt m v s
  | .injectedFrameSent dt => Sys2Proof.Machine.execInjectedFrameSent dt s
  | .txtsRead dt m p => Sys2Proof.Machine.execTxtsRead dt m p s
  | .renewTx dt => Sys2Proof.Machine.execRenewTx dt s
  | .renew dt cell => Sys2Proof.Machine.execRenew dt cell s
  | .ack dt cell => Sys2Proof.Machine.execAck dt cell s
  | .leaseInEdge dt => Sys2Proof.Machine.execLeaseInEdge dt s
  | .leaseConfirmTimeout dt => Sys2Proof.Machine.execLeaseConfirmTimeout dt s
  | .claimTimeout dt => Sys2Proof.Machine.execClaimTimeout dt s
  | .noneWaitTimeout dt pref => Sys2Proof.Machine.execNoneWaitTimeout dt pref s
  | .release dt cell => Sys2Proof.Machine.execRelease dt cell s
  | .handover dt m => Sys2Proof.Machine.execHandover dt m s
  | .request dt cell => Sys2Proof.Machine.execRequest dt cell s
  | .propose dt cell => Sys2Proof.Machine.execPropose dt cell s
  | .accept dt cell => Sys2Proof.Machine.execAccept dt cell s
  | .refuse dt cell => Sys2Proof.Machine.execRefuse dt cell s
  | .handoverAcceptDeadline dt => Sys2Proof.Machine.execHandoverAcceptDeadline dt s
  | .handoverTime dt => Sys2Proof.Machine.execHandoverTime dt s
  | .holdoffExpire dt pref => Sys2Proof.Machine.execHoldoffExpire dt pref s
  | .healthTx dt pref => Sys2Proof.Machine.execHealthTx dt pref s
  | .health dt cell => Sys2Proof.Machine.execHealth dt cell s
  | .twinHealthTimeout dt => Sys2Proof.Machine.execTwinHealthTimeout dt s
  | .mirror dt op at_ result => Sys2Proof.Machine.execMirror dt op at_ result s
  | .rtpSeqMirrorTx dt => Sys2Proof.Machine.execRtpSeqMirrorTx dt s
  | .csReady dt n ready notReady => Sys2Proof.Machine.execCsReady dt n ready notReady s
  | .mantleEnWrite dt m en => Sys2Proof.Machine.execMantleEnWrite dt m en s
  | .standingClear dt m fs => Sys2Proof.Machine.execStandingClear dt m fs s
  | .fenceCmdFence dt m kind idx => Sys2Proof.Machine.execFenceCmdFence dt m kind idx s
  | .fenceCmdRelease dt m kind idx => Sys2Proof.Machine.execFenceCmdRelease dt m kind idx s
  | .faultPulseEnd dt => Sys2Proof.Machine.execFaultPulseEnd dt s
  | .faultHoldWrite dt m v => Sys2Proof.Machine.execFaultHoldWrite dt m v s
  | .logAck dt m n => Sys2Proof.Machine.execLogAck dt m n s
  | .logRetry dt ok => Sys2Proof.Machine.execLogRetry dt ok s
  | .hcpOpen dt h => Sys2Proof.Machine.execHcpOpen dt h s
  | .hcpClose dt h => Sys2Proof.Machine.execHcpClose dt h s
  | .hcpNop dt h => Sys2Proof.Machine.execHcpNop dt h s
  | .hcpRead dt h addr count staged => Sys2Proof.Machine.execHcpRead dt h addr count staged s
  | .hcpWrite dt h items => Sys2Proof.Machine.execHcpWrite dt h items s
  | .registerWrite dt m a val mask => Sys2Proof.Machine.execRegisterWrite dt m a val mask s
  | .rcCounterRead dt m a => Sys2Proof.Machine.execRcCounterRead dt m a s
  | .snapshot dt h target now seam inst first count ts => Sys2Proof.Machine.execSnapshot dt h target now seam inst first count ts s
  | .snapshotCapture dt k => Sys2Proof.Machine.execSnapshotCapture dt k s
  | .snapRead dt h buf off len => Sys2Proof.Machine.execSnapRead dt h buf off len s
  | .snapFree dt h buf => Sys2Proof.Machine.execSnapFree dt h buf s
  | .subscribe dt h classes => Sys2Proof.Machine.execSubscribe dt h classes s
  | .eventAck dt h n => Sys2Proof.Machine.execEventAck dt h n s
  | .eventResend dt k => Sys2Proof.Machine.execEventResend dt k s
  | .restart dt h kind => Sys2Proof.Machine.execRestart dt h kind s
  | .sessionPendingTimeout dt k => Sys2Proof.Machine.execSessionPendingTimeout dt k s
  | .sessionIdleTimeout dt k => Sys2Proof.Machine.execSessionIdleTimeout dt k s
  | .slotDisable dt m k => Sys2Proof.Machine.execSlotDisable dt m k s
  | .imageWrite dt h off data full => Sys2Proof.Machine.execImageWrite dt h off data full s
  | .imageEnd dt h len activate => Sys2Proof.Machine.execImageEnd dt h len activate s
  | .imageVerifyDone dt img => Sys2Proof.Machine.execImageVerifyDone dt img s
  | .imageAbort dt h => Sys2Proof.Machine.execImageAbort dt h s
  | .imageStatus dt h => Sys2Proof.Machine.execImageStatus dt h s
  | .imageRelay dt h hops mask mantle => Sys2Proof.Machine.execImageRelay dt h hops mask mantle s
  | .relayOffer dt b cell => Sys2Proof.Machine.execRelayOffer dt b cell s
  | .relayWant dt b cell => Sys2Proof.Machine.execRelayWant dt b cell s
  | .relayData dt b cell => Sys2Proof.Machine.execRelayData dt b cell s
  | .relayAck dt b cell => Sys2Proof.Machine.execRelayAck dt b cell s
  | .relayDone dt b cell => Sys2Proof.Machine.execRelayDone dt b cell s
  | .relayDecline dt b cell => Sys2Proof.Machine.execRelayDecline dt b cell s
  | .relayTimeout dt b rx => Sys2Proof.Machine.execRelayTimeout dt b rx s
  | .trialConfirmWrite dt m => Sys2Proof.Machine.execTrialConfirmWrite dt m s
  | .trialConfirmed dt => Sys2Proof.Machine.execTrialConfirmed dt s
  | .trialReject dt m => Sys2Proof.Machine.execTrialReject dt m s
  | .trialWindowExpire dt => Sys2Proof.Machine.execTrialWindowExpire dt s
  | .hopperGo dt m c => Sys2Proof.Machine.execHopperGo dt m c s
  | .hopperStop dt m c => Sys2Proof.Machine.execHopperStop dt m c s
  | .descriptorFetched dt c ok => Sys2Proof.Machine.execDescriptorFetched dt c ok s
  | .readBeatReturn dt c beat res => Sys2Proof.Machine.execReadBeatReturn dt c beat res s
  | .writeBeatResponse dt c beat res => Sys2Proof.Machine.execWriteBeatResponse dt c beat res s
  | .descriptorWriteBack dt c => Sys2Proof.Machine.execDescriptorWriteBack dt c s
  | .defaultTargetAccess dt master write addr => Sys2Proof.Machine.execDefaultTargetAccess dt master write addr s
  | .crcStart dt m u => Sys2Proof.Machine.execCrcStart dt m u s
  | .crcFeed dt m u v => Sys2Proof.Machine.execCrcFeed dt m u v s
  | .crcValueRestore dt m u v => Sys2Proof.Machine.execCrcValueRestore dt m u v s
  | .railOutOfTolerance dt rail held => Sys2Proof.Machine.execRailOutOfTolerance dt rail held s
  | .railRestored dt => Sys2Proof.Machine.execRailRestored dt s
  | .mainRailCollapse dt sram => Sys2Proof.Machine.execMainRailCollapse dt sram s
  | .keepRailCollapse dt => Sys2Proof.Machine.execKeepRailCollapse dt s
  | .tempSensorsSample dt t => Sys2Proof.Machine.execTempSensorsSample dt t s
  | .uartTxWrite dt m b => Sys2Proof.Machine.execUartTxWrite dt m b s
  | .uartRxRead dt m => Sys2Proof.Machine.execUartRxRead dt m s
  | .uartByteReceived dt b => Sys2Proof.Machine.execUartByteReceived dt b s
  | .prbsCheckerLock dt b l rx => Sys2Proof.Machine.execPrbsCheckerLock dt b l rx s
  | .prbsCheckerReseed dt b l errs => Sys2Proof.Machine.execPrbsCheckerReseed dt b l errs s
  | .remoteFaultReceived dt p => Sys2Proof.Machine.execRemoteFaultReceived dt p s
  | .remoteFaultEnded dt p => Sys2Proof.Machine.execRemoteFaultEnded dt p s
  | .hemLayerDrop dt => Sys2Proof.Machine.execHemLayerDrop dt s
  | .xoInReturn dt => Sys2Proof.Machine.execXoInReturn dt s
  | .freqInReturn dt n => Sys2Proof.Machine.execFreqInReturn dt n s
  | .channelLockAcquired dt c sig prn cn0 sync => Sys2Proof.Machine.execChannelLockAcquired dt c sig prn cn0 sync s
  | .vatCorrectedError dt sparesLow => Sys2Proof.Machine.execVatCorrectedError dt sparesLow s
  | .vatUncorrectableError dt => Sys2Proof.Machine.execVatUncorrectableError dt s
  | .mashParityFault dt b => Sys2Proof.Machine.execMashParityFault dt b s
  | .controlCoreWatchdog dt => Sys2Proof.Machine.execControlCoreWatchdog dt s
  | .crossingFifoOverflow dt => Sys2Proof.Machine.execCrossingFifoOverflow dt s
  | .ownerSlotProgram dt k digest => Sys2Proof.Machine.execOwnerSlotProgram dt k digest s
  | .ownerSlotRevoke dt k => Sys2Proof.Machine.execOwnerSlotRevoke dt k s

end Sys2Proof.Machine
end

