-- ==== Sys2Proof/Safety.lean ====
section
/-! DEFINITION. What claims about the block are stated in: a command completes, the canonical form of memory, and what a command
leaves alone. -/

set_option autoImplicit false

namespace Sys2Proof.Machine

/-- A command completes: it answers a next state, of which `P` holds. -/
def Completes (c : Instr) (s : State) (P : State → Prop) : Prop := ∃ t, exec c s = .next t ∧ P t

/-- Memory is in its canonical form: addresses strictly rising, and no entry equal to what an unlisted address reads as. -/
def Memory.wf (m : List Host.Cell) : Bool := twf 0 m

/-- What a saturating counter reads when it has counted `n` more. -/
def State.counted (s : State) (f : Field) (i n : Nat) : Nat := satTo (2 ^ f.width - 1) (s.rd f i + n)

/-- The islands outside the keep-alive island run. -/
def State.runs (s : State) : Prop := s.iso = false

/-- A bundle that is up and not fenced receives the bytes of a cell with header `h`, which passes the checks of its header and its slot
(02_izsar_lanes R59; 03_cells_slots R123, R124, R126, R128). -/
abbrev State.arrives (s : State) (b : Nat) (rx : RxCell) (cell : List Byte) (h : Hdr) : Prop :=
  (s.cellIn b rx).1 = cell ∧ cell ≠ [] ∧ Hdr.ofBytes cell = h ∧ s.linkUp b = true ∧ s.fenced .bundle b = false ∧
  h.good (b == 32) = true ∧ s.slotGood b h = true

/-- The number that a stream expects, or the cell's own while the stream is not synchronised (03_cells_slots R132). -/
abbrev State.expects (s : State) (b : Nat) (h : Hdr) : Nat :=
  if tget 0 s.cell.rx (streamKey b h.slot h.type) = 0 then h.seq else tget 0 s.cell.rx (streamKey b h.slot h.type) - 1

/-- A cell of a stream passes its receiver's checks (03_cells_slots R128, R132): the CRC holds for the number expected. -/
abbrev State.takes (s : State) (b : Nat) (rx : RxCell) (cell : List Byte) (h : Hdr) : Prop :=
  s.arrives b rx cell h ∧ h.type ≠ 0 ∧ cellCrc h.slot (s.expects b h) (cell.take 268) = beAt cell 268 4

/-- A side cell carries the whole message `d` of a channel (03_cells_slots R159). -/
abbrev wholeSide (cell : List Byte) (h : Hdr) (chan : Nat) (d : List Byte) : Prop :=
  sideOf h (payloadOf cell) chan = some (true, true, beAt (payloadOf cell) 2 2, 0, d)

/-- A unit of a twin takes a whole mantle message `d` of a code in a side cell on MANTLE (13_mantle_twin R633). -/
abbrev State.hears (s : State) (rx : RxCell) (cell : List Byte) (h : Hdr) (d : List Byte) (code : Nat) : Prop :=
  s.takes 32 rx cell h ∧ s.role ≠ .single ∧ wholeSide cell h 2 d ∧ beAt d 0 1 = code

/-- A device takes a whole relay message `d` of a code in a side cell on a bundle (17_startup_update R812). -/
abbrev State.relayed (s : State) (b : Nat) (rx : RxCell) (cell : List Byte) (h : Hdr) (d : List Byte) (code : Nat) : Prop :=
  s.takes b rx cell h ∧ wholeSide cell h 1 d ∧ 22 ≤ d.length ∧ beAt d 0 1 = code

/-- A bundle sends a cell of its own at once (02_izsar_lanes R72, R99): it is enabled and sends neither a pattern nor what it receives,
and the marker period has room. -/
abbrev State.sendsCell (s : State) (b : Nat) : Prop :=
  s.on Fld.IZL_LINK_CTL_ENABLE b = true ∧ s.rd Fld.IZL_LINK_CTL_MODE b < 3 ∧ (s.txOf b).cells < periodCells (s.txLanes b).length

/-- A bundle sends a side cell at once (03_cells_slots R160). -/
abbrev State.sendsSide (s : State) (b : Nat) : Prop := s.sendsCell b ∧ (s.txOf b).sideN < s.sideRoom b

/-- The data of a side cell (03_cells_slots R159). -/
abbrev sideData (cell : List Byte) : List Byte := (cell.drop 20).take (beAt cell 18 2)

/-- A relay message with these contents goes out on a bundle (17_startup_update R812). -/
def Output.relays (o : Output) (b code hops id off : Nat) (rest : List Byte) : Bool :=
  match o with
  | .cell b' _ c => b' == b && sideData c == beBytes 1 code ++ beBytes 1 hops ++ beBytes 16 id ++ beBytes 4 off ++ rest
  | _ => false

/-- No fault source has the severity HEM. -/
abbrev State.mild (s : State) : Prop := ((List.range 512).all fun fs => s.rd Fld.FLT_SRC_CFG_SEVERITY fs != 2) = true

/-- One register word under a value and a mask. -/
abbrev wordOf (r : Reg) (i : Nat) (hi : Bool) (v mask : Nat) : Item := ⟨.named r i hi, BitVec.ofNat 32 v, BitVec.ofNat 32 mask⟩

/-- A write of one register word by a master passes its checks (15_hcp_control R729), and no restart waits. -/
abbrev State.writes (s : State) (m : Master) (r : Reg) (i : Nat) (hi : Bool) (v mask : Nat) : Prop :=
  s.boot.due = false ∧
  s.checkItem m (s.isSafety m) (s.wholes m s.held [wordOf r i hi v mask]) (RegAddr.named r i hi).loc (wordOf r i hi v mask)
    (s.whole m s.held ⟨r, i, hi, (BitVec.ofNat 32 v).toNat, (BitVec.ofNat 32 mask).toNat⟩).1 = .ok

/-- A master may read registers: a session needs the right of its slot (15_hcp_control R716). -/
abbrev State.mayRead (s : State) (m : Master) : Prop :=
  ∀ k : Fin 32, m = .sess k → s.rd Fld.HCP_SLOT_STAT_RIGHTS (s.sessOf k).slot % 2 = 1

/-- A port sends a frame of a queue at once: it is enabled, its link is up, it has no fault (04_ethernet R173), and the queue is not held
(R179). -/
abbrev State.sends (s : State) (p q : Nat) : Prop := s.portSends p = true ∧ s.queueHeld p q = false

/-- The frame in which something that is no media leaves a port, with the PCP of its queue (04_ethernet R209). -/
abbrev State.framed (s : State) (p : Nat) (o : Output) : Output := .frame p o.queue (s.txPcp p ⟨o.queue, 0, none, .none, 0, o⟩) o

/-- A message of HCP arrives whole (04_ethernet R174; 15_hcp_control R707, R710, R731): HCP runs, the frame is good, the message has
its format, its body fits, and the device is not overloaded. -/
abbrev State.gets (s : State) (h : HcpReq) : Prop :=
  s.hcpOpen = true ∧ s.sends (ctlPort h.ctl1) 3 ∧ 86 + h.bodyLen ≤ s.rd Fld.ETH_PORT_CTL_MAX_FRAME (ctlPort h.ctl1) ∧
  h.fmtOk = true ∧ h.bodyLen ≤ s.bodyMax h.ctl1 ∧ (s.hcp.reqSec = s.up / sec 1 → s.hcp.reqN < 50000) ∧ s.boot.due = false

/-- A request passes the checks of R725 for session `k`: its slot is enabled, the session is known, the tag holds under the slot's
key, and the sequence number is new. -/
abbrev State.knows (s : State) (h : HcpReq) (k : Nat) : Prop :=
  s.gets h ∧ s.slotOn h.slot = true ∧ s.findSess h.slot h.session.toNat = some k ∧ h.tagOk = true ∧
  (s.sessOf k).seqCheck h.seq.toNat = .fresh

/-- A request of session `k` is executed (R716, R725, R730, R748): it passes those checks, its opcode and body are good, its slot has
the right that it needs, and the mode permits it. -/
abbrev State.asks (s : State) (h : HcpReq) (right : Option Nat) (inHem : Bool) (k : Nat) : Prop :=
  s.knows h k ∧ h.badOp = false ∧ h.short = false ∧ h.resp = false ∧ (s.mode = .hem → inHem = true) ∧
  (∀ b ∈ right, bitOf (s.rd Fld.HCP_SLOT_STAT_RIGHTS (s.sessOf k).slot) b = true)

/-- The answer to a request that session `k` of `s` gets as the device's next message of that session (R708, R724). -/
abbrev State.reply (s : State) (h : HcpReq) (k op : Nat) (st : Status) (body : List Byte) : Output :=
  s.framed (ctlPort h.ctl1) (.hcpResp h.ctl1 h.src h.slot false op (s.sessOf k).nextSeq h.session.toNat h.reqId.toNat st body)

/-- A message of HCP answers a request with a status and a body, whatever its sequence number: an event that the request sends first
takes a number of the session before it (R724). -/
def Output.answers (o : Output) (h : HcpReq) (op : Nat) (st : Status) (body : List Byte) : Bool :=
  match o with
  | .frame _ _ _ (.hcpResp c src _ plain op' _ sess rid st' b) =>
    c == h.ctl1 && src == h.src && !plain && op' == op && sess == h.session.toNat && rid == h.reqId.toNat && st' == st && b == body
  | _ => false

/-- A request has been answered with a status and a body. -/
abbrev State.told (t : State) (h : HcpReq) (op : Nat) (st : Status) (body : List Byte) : Prop :=
  ∃ o ∈ t.out, o.answers h op st body = true

/-- A change set may be operated (R749; 05_warp_seam R29; 13_mantle_twin R669): the start-up is over, and the device is no standby
that mirrors. -/
abbrev State.opens (s : State) : Prop := s.mode ≠ .startUp ∧ s.mirrorBars = false

/-- No change set is PREPARING, so that following the change sets does nothing (05_warp_seam R255, R256). -/
abbrev State.quiet (s : State) : Prop := (s.cs.all fun p => p.2.state != 3) = true

/-- The counters that an event or a frame may move, whether a bundle rests, and Mash's count of late crossfades. After every command
of the main islands the PREPARING change sets are followed (05_warp_seam R255, R256), which may send events and messages and let Mash
learn of changes. -/
def settleFields : List Field :=
  [Fld.ETH_CNT_TX_DISC_CNT, Fld.ETH_CNT_TX_FRAMES_CNT, Fld.ETH_CNT_TX_OCTETS_CNT, Fld.ETH_FLOW_CNT_PKT,
  Fld.HCP_CNT_EVT_LOST_CNT, Fld.IZL_LINK_STAT_TX_IDLE, Fld.MASH_CNT_XFADE_SHORT_CNT]

/-- The fields that raising a fault may write (14_faults_hem): its counter and log, the FAULT_N pin, and what fencing a unit and
entry into HEM change (R679, R680, R684). -/
def faultFields : List Field :=
  [Fld.CASK_FS_STAT_CAUSE, Fld.CELL_SRC_STAT_LOST, Fld.CTRL_DEV_STATE_MODE, Fld.ETH_CNT_TX_DISC_CNT,
  Fld.ETH_CNT_TX_FRAMES_CNT, Fld.ETH_CNT_TX_OCTETS_CNT, Fld.ETH_FLOW_CNT_PKT, Fld.ETH_FLOW_STAT_LOST,
  Fld.ETH_FLOW_STAT_PATH_A, Fld.ETH_FLOW_STAT_PATH_B, Fld.FLT_CNT_LOG_OVF_CNT, Fld.FLT_LOG_PTR_COUNT, Fld.FLT_LOG_PTR_HEAD,
  Fld.FLT_PIN_CTL_FAULT_HOLD, Fld.FLT_SRC_STAT_COUNT, Fld.FLT_STAT_HEM_SRC, Fld.FLT_STAT_PULSE, Fld.GNSS_CH_STAT_EXCLUDED,
  Fld.GNSS_CH_STAT_PRN, Fld.GNSS_CH_STAT_SIG, Fld.GNSS_CH_STAT_STATE, Fld.GNSS_STAT_LOCKED, Fld.GNSS_STAT_STATE,
  Fld.HCP_CNT_EVT_LOST_CNT, Fld.IZL_LINK_STAT_TX_IDLE, Fld.KILN_STAT_STEP_PENDING, Fld.MNTL_CTL_HANDOVER, Fld.MNTL_STAT_ROLE,
  Fld.STCH_HEAD_STAT_RUNNING, Fld.WARP_DST_CNT_UNTIMED, Fld.WARP_DST_STAT_BLACKED, Fld.WARP_DST_STAT_SRC_LOST,
  Fld.WARP_DST_STAT_TIMED]

/-- The fields that Kiln's reference selection writes beside those (10_kiln R486, R506). -/
def refFields : List Field :=
  [Fld.KILN_HO_ELAPSED_SECONDS, Fld.KILN_HO_REMAIN_SECONDS, Fld.KILN_REF_CNT_DISQUAL, Fld.KILN_STAT_HO_EXPIRED,
  Fld.KILN_STAT_SELECTED, Fld.KILN_STAT_STATE]

/-- The fields of a bundle that goes DOWN, beside those of a fault (02_izsar_lanes R81). -/
def linkDownFields : List Field :=
  [Fld.IZL_CNT_LINK_DOWN_CNT, Fld.IZL_LINK_CTL_RETRAIN, Fld.IZL_LINK_STAT_RX_IDLE, Fld.IZL_LINK_STAT_STATE]

/-- The fields that the checks of a cell write, beside those of a fault (03_cells_slots R128, R132). -/
def cellFields : List Field :=
  [Fld.CELL_CNT_CRC_ERR_CNT, Fld.CELL_CNT_HDR_ERR_CNT, Fld.CELL_CNT_MISDIR_CNT, Fld.CELL_CNT_SEQ_ERR_CNT,
  Fld.CELL_CNT_SEQ_LOST_CNT, Fld.CELL_LINK_INFO_FAR_EPOCH]

/-- A field is none of a list's. -/
def Field.off (f : Field) (l : List Field) : Prop := ∀ g ∈ l, g.key % 1024 ≠ f.key % 1024

/-- Outside the places `ps` and the counters of `settleFields`, every register field of every instance reads in `t` as in `s`. -/
def RegsKept (s t : State) (ps : List (Field × Nat)) : Prop :=
  ∀ (f : Field) (i : Nat), f.off settleFields → (∀ p ∈ ps, p.1.at p.2 ≠ f.at i) → t.rd f i = s.rd f i

/-- The parts of the state beside the queue, each under its field's name, with HCP's sessions, Mash's follow groups and the owner fuses
as parts of their own. -/
inductive Part where
  | out | now | up | freeCtr | iso | por | rv | staged | ord | held | cs | mem | flt | bnd | txb | cell | src | dst | cask
  | head | bound | mntl | mash | aprt | eth | kiln | gnss | tsvc | hcp | hop | boot | fuses | pwr | latch | parked | mirror
  | egr
  | sess | follow
deriving DecidableEq, Repr

/-- The state without some of its parts. -/
def State.but (s : State) (k : List Part) : State :=
  { s with
    out := if .out ∈ k then [] else s.out
    now := if .now ∈ k then 0 else s.now
    up := if .up ∈ k then 0 else s.up
    freeCtr := if .freeCtr ∈ k then 0 else s.freeCtr
    iso := if .iso ∈ k then false else s.iso
    por := if .por ∈ k then false else s.por
    rv := if .rv ∈ k then [] else s.rv
    staged := if .staged ∈ k then [] else s.staged
    ord := if .ord ∈ k then 0 else s.ord
    held := if .held ∈ k then [] else s.held
    cs := if .cs ∈ k then [] else s.cs
    mem := if .mem ∈ k then [] else s.mem
    flt := if .flt ∈ k then {} else s.flt
    bnd := if .bnd ∈ k then [] else s.bnd
    txb := if .txb ∈ k then [] else s.txb
    cell := if .cell ∈ k then {} else s.cell
    src := if .src ∈ k then [] else s.src
    dst := if .dst ∈ k then [] else s.dst
    cask := if .cask ∈ k then {} else s.cask
    head := if .head ∈ k then [] else s.head
    bound := if .bound ∈ k then [] else s.bound
    mntl := if .mntl ∈ k then {} else s.mntl
    mash := if .mash ∈ k then {} else if .follow ∈ k then { s.mash with follow := [] } else s.mash
    aprt := if .aprt ∈ k then [] else s.aprt
    eth := if .eth ∈ k then {} else s.eth
    kiln := if .kiln ∈ k then {} else s.kiln
    gnss := if .gnss ∈ k then {} else s.gnss
    tsvc := if .tsvc ∈ k then {} else s.tsvc
    hcp := if .hcp ∈ k then {} else if .sess ∈ k then { s.hcp with sess := [] } else s.hcp
    hop := if .hop ∈ k then [] else s.hop
    boot := { (if .boot ∈ k then {} else s.boot) with fuses := if .fuses ∈ k then [] else s.boot.fuses }
    pwr := if .pwr ∈ k then {} else s.pwr
    latch := if .latch ∈ k then [] else s.latch
    parked := if .parked ∈ k then [] else s.parked
    mirror := if .mirror ∈ k then [] else s.mirror
    egr := if .egr ∈ k then [] else s.egr }

/-- What passes with time: Kiln's counter, the model's clock and what the last command sent. -/
def timeParts : List Part := [.out, .now, .up]

/-- What every command of the main islands may change: time, and what following the change sets may do. -/
def mainParts : List Part := timeParts ++ [.rv, .cs, .txb, .egr, .sess, .follow]

/-- The frame of a command that took `dt`: time has passed, and apart from the register fields at `ps`, the parts `k` and what
following the change sets may do, nothing is changed: queue, memory and every other part are equal. -/
def Framed (dt : Nat) (s t : State) (ps : List (Field × Nat)) (k : List Part) : Prop :=
  t.up = s.up + dt ∧ t.now = (if s.rd Fld.KILN_STAT_STATE 0 = 0 then s.now else s.now + dt) ∧
  t.but (mainParts ++ k) = s.but (mainParts ++ k) ∧ RegsKept s t ps

/-- What raising a fault may change. -/
def faultParts : List Part :=
  [.out, .freeCtr, .rv, .cs, .flt, .txb, .dst, .mntl, .eth, .kiln, .gnss, .hop, .boot, .egr, .sess]

/-- What a request of a session, or a register write, may change beside its own effect: the restart that an earlier one asked for
follows its answer (17_startup_update R792). -/
def requestParts : List Part :=
  [.out, .now, .up, .freeCtr, .iso, .rv, .staged, .held, .cs, .mem, .flt, .bnd, .txb, .cell, .src, .dst, .cask, .head, .bound,
  .mntl, .mash, .aprt, .eth, .kiln, .gnss, .tsvc, .hcp, .hop, .boot, .pwr, .latch, .parked, .mirror, .egr, .sess, .follow]

/-- Every part but the owner fuses. -/
def allParts : List Part := requestParts ++ [.por, .ord]

end Sys2Proof.Machine

namespace Sys2Proof

open Sys2Proof.Machine

/-- The parts of the state that a command may change. -/
def Instr.parts (c : Instr) : List Part :=
  match c with
  | .cellarNAsserted .. | .mashSampleInstant .. | .frameSync .. | .portClockStop .. =>
      mainParts ++ faultParts ++ [.staged, .mash, .aprt]
  | .cellarEnter .. | .arm .. | .retrain .. | .bundleEnable .. | .idleReq .. | .flowEnable .. | .dstRouteWrite ..
    | .headEnable .. | .headDisable .. | .sigLearn .. | .apronFieldWrite .. | .engSwapRequest .. | .engHoldWrite ..
    | .portEnable .. | .portDisable .. | .maskLoWrite .. | .maskHiWrite .. | .selCtlWrite .. | .refOrderWrite ..
    | .timeSetGo .. | .posWrite .. | .posModeWrite .. | .selftest .. | .sessRead .. | .sessWrite ..
    | .sessInvalidate .. | .keyLoad .. | .ntsMkeyWrite .. | .ptpRoleWrite .. | .inject .. | .handover ..
    | .mantleEnWrite .. | .standingClear .. | .fenceCmdFence .. | .fenceCmdRelease .. | .faultHoldWrite ..
    | .logAck .. | .hcpWrite .. | .registerWrite .. | .slotDisable .. | .trialConfirmWrite .. | .trialReject ..
    | .hopperGo .. | .hopperStop .. | .crcStart .. | .crcFeed .. | .crcValueRestore .. | .uartTxWrite .. =>
      requestParts ++ [.ord]
  | .cellarEntryIsolated .. => timeParts ++ [.iso, .rv]
  | .cellarNDeasserted .. | .resetNDeasserted .. | .csOpen .. | .stage .. | .prepare .. | .commit .. | .cancel ..
    | .csRelease .. | .csRead .. | .surfAlloc .. | .surfFree .. | .bulkWrite .. | .bulkRead .. | .hcpOpen ..
    | .hcpClose .. | .hcpNop .. | .hcpRead .. | .snapshot .. | .snapRead .. | .snapFree .. | .subscribe ..
    | .eventAck .. | .restart .. | .imageWrite .. | .imageEnd .. | .imageAbort .. | .imageStatus .. | .imageRelay ..
    | .trialWindowExpire .. => requestParts
  | .resetNAsserted .. | .mainRailCollapse .. => timeParts ++ faultParts ++ [.iso]
  | .keepAlivePorRelease .. => allParts
  | .flashInitDone .. | .swapStepDone .. => mainParts ++ [.mem, .flt, .boot]
  | .startVerifyDone .. => mainParts ++ [.flt, .boot]
  | .configApplied .. => mainParts ++ faultParts ++ [.staged, .head, .aprt, .tsvc, .hcp]
  | .hbmTrained .. | .bitSlipPosition .. | .deskewDone .. | .verifyDone .. | .autoRetrainRetry ..
    | .alignmentMarker .. | .markerMissing .. | .interpolatorLimit .. | .fill .. | .lightIdleEntry ..
    | .deepIdleEntry .. | .wakeFailure .. | .fwdClockStop .. | .fwdClockRateChange .. | .idleCell .. | .echoCell ..
    | .familyCellRx .. | .managementSideCell .. | .laneTestCell .. | .signatureCell .. | .renew .. | .ack ..
    | .release .. | .request .. | .propose .. | .accept .. | .refuse .. | .health .. | .relayWant .. | .relayAck ..
    | .relayDone .. | .relayDecline .. => mainParts ++ faultParts ++ [.bnd, .cell]
  | .stage6End .. | .warpCellCheckFail .. | .signatureCellTx .. | .ethFrameBad .. | .ethLinkGlitch .. | .ethLinkUp ..
    | .dstFrameLaunch .. | .leaseInEdge .. | .leaseConfirmTimeout .. | .claimTimeout .. | .noneWaitTimeout ..
    | .handoverTime .. | .defaultTargetAccess .. | .vatCorrectedError .. | .vatUncorrectableError ..
    | .controlCoreWatchdog .. | .crossingFifoOverflow .. => mainParts ++ faultParts
  | .enterService .. | .txAlignmentMarker .. => mainParts ++ [.mntl, .kiln, .boot]
  | .hemMashSilent .. | .zcTimeout .. | .faderRampEnd .. | .unlockHoldExpire .. => mainParts ++ [.mash]
  | .islandClockLost .. => mainParts ++ [.mirror]
  | .islandClockReturn .. =>
      mainParts ++ faultParts ++ [.staged, .ord, .held, .bnd, .cell, .head, .mash, .aprt, .tsvc, .hcp, .pwr, .latch,
      .parked, .mirror]
  | .csDistributionDone .. | .csEntryInShadow .. | .armTimeReached .. => mainParts ++ [.staged, .dst, .kiln]
  | .prepareDeadline .. | .idleAutoTimeout .. | .txIdleExit .. | .unmatchedFrame .. | .pauseIgnoreEnd ..
    | .arpRequest .. | .icmpEchoRequest .. | .prerollDone .. | .twinHealthTimeout .. | .rtpSeqMirrorTx ..
    | .csReady .. | .faultPulseEnd .. | .eventResend .. | .remoteFaultEnded .. => mainParts
  | .clockLaneQualified .. | .adaptDone .. | .exitBurstDelimiter .. | .fwdClockRequalified .. | .prbsCheckerLock ..
    | .prbsCheckerReseed .. => mainParts ++ [.bnd]
  | .fwdClockGlitch .. => mainParts ++ faultParts ++ [.bnd]
  | .essenceCell .. | .ancillaryCell .. => mainParts ++ faultParts ++ [.bnd, .cell, .src, .mash]
  | .stampCell .. => mainParts ++ faultParts ++ [.bnd, .cell, .src]
  | .sourceLostTimeout .. | .launchCellTx .. | .freezeExpire .. => mainParts ++ [.dst]
  | .familyCellTx .. => mainParts ++ [.cell]
  | .echoCellTx .. | .renewTx .. | .handoverAcceptDeadline .. | .holdoffExpire .. | .healthTx .. => mainParts ++ [.mntl]
  | .pauseFrame .. | .pauseExpire .. | .pauseWatchdog .. | .ethLossOfSignal .. | .ethRateChange .. | .syncTx ..
    | .followUpTx .. | .announceTx .. | .syncMetadataTx .. | .grantDue .. | .delayReq .. | .sync .. | .followUp ..
    | .delayResp .. | .announce .. | .clientDelayReqTx .. | .announceReceiptTimeout .. | .exchangeTimeout ..
    | .requestUnicastTransmission .. | .cancelUnicastTransmission .. | .ntpRequest .. | .ntsRequest ..
    | .injectedFrameSent .. | .remoteFaultReceived .. => mainParts ++ faultParts ++ [.tsvc]
  | .st211020Packet .. | .st211040Packet .. => mainParts ++ faultParts ++ [.src, .mash]
  | .st211022Packet .. => mainParts ++ [.staged, .dst, .eth]
  | .st211030Packet .. | .st211031Packet .. | .mashParityFault .. => mainParts ++ faultParts ++ [.mash]
  | .flowLostTimeout .. | .audioFlowLostTimeout .. => mainParts ++ [.dst, .eth]
  | .seamGuardOpen .. | .headGuardOpen .. => mainParts ++ [.staged]
  | .seamSwitchingInstant .. => mainParts ++ [.staged, .dst, .hcp]
  | .seamSnapshotTimeout .. | .snapshotCapture .. => mainParts ++ [.hcp]
  | .dstLineBoundary .. => mainParts ++ [.dst, .mash]
  | .plyProxyComplete .. => mainParts ++ [.src]
  | .caskCorrectedError .. => mainParts ++ [.cask, .mntl]
  | .caskUncorrectableError .. => mainParts ++ faultParts ++ [.mem, .src, .cask, .mash, .tsvc]
  | .pageRetireDone .. | .descriptorWriteBack .. => mainParts ++ faultParts ++ [.mem, .cask]
  | .headFrameStart .. => mainParts ++ faultParts ++ [.staged, .mem, .src, .cask, .head, .bound, .mash]
  | .transitionFrameEnd .. => mainParts ++ [.staged, .dst, .head, .kiln]
  | .headUnderrun .. | .apronUnderrun .. => mainParts ++ faultParts ++ [.head]
  | .headFrameEnd .. => mainParts ++ faultParts ++ [.src, .head]
  | .apronFieldApply .. | .apronNAsserted .. | .apronForceBegin .. | .apronNDeasserted .. | .hemLayerDrop .. =>
      mainParts ++ [.head]
  | .stopDone .. => mainParts ++ [.staged, .flt, .dst, .mash, .aprt, .kiln, .boot]
  | .portClockGlitch .. => mainParts ++ [.aprt]
  | .portRateChange .. => mainParts ++ faultParts ++ [.mash, .aprt]
  | .portClockQualified .. => mainParts ++ [.flt, .aprt, .boot]
  | .frameEpoch .. => timeParts
  | .kilnSecond .. | .kilnStep .. => timeParts ++ faultParts ++ [.staged]
  | .evtInEdge .. | .slewDone .. | .leapSecond .. => timeParts ++ [.rv, .kiln]
  | .evtCapRead .. | .nowRead .. | .lowerWordRead .. | .txtsRead .. | .rcCounterRead .. | .uartRxRead .. =>
      mainParts ++ faultParts ++ [.tsvc, .pwr, .latch]
  | .ppsInPulse .. | .vrefInPulse .. | .pulseTimeout .. | .freqInStop .. | .freqInRateChange .. | .refQualified ..
    | .kilnTimeSet .. | .dacUpdate .. | .tempSensorTimeout .. | .oscGlitch .. | .oscStop .. | .oscRateChange ..
    | .oscDrift .. | .oscRestore .. | .xoInStop .. | .startWaitExpire .. | .gnssClockStop .. | .gnssClockGlitch ..
    | .gnssClockRateChange .. | .gnssSolution .. | .selftestDone .. | .railOutOfTolerance .. | .freqInReturn .. =>
      timeParts ++ faultParts
  | .freqInGlitch .. | .modelValid .. => timeParts ++ [.rv]
  | .tempRead .. => timeParts ++ [.rv, .flt, .kiln, .boot]
  | .modelSave .. | .timeOutPulseEnd .. => timeParts ++ [.kiln]
  | .timeOutPulse .. | .clkOutAlign .. => timeParts ++ [.rv, .staged, .cs, .kiln, .egr, .sess]
  | .gnssClockRequalified .. | .railRestored .. => timeParts ++ [.rv, .flt, .boot]
  | .gnssSearchPass .. | .hotSearchTimeout .. | .channelLockLoss .. | .channelLockAcquired .. =>
      timeParts ++ [.rv, .gnss]
  | .navDataDecoded .. => timeParts ++ [.rv, .kiln, .gnss]
  | .measurementEpoch .. => timeParts ++ [.rv, .mem, .gnss]
  | .baselineLearnt .. | .gnssNavRefresh .. => timeParts ++ [.gnss]
  | .gnssBurst .. => timeParts ++ faultParts ++ [.mem]
  | .grantExpire .. | .managementMessage .. | .pdelayMessage .. => mainParts ++ [.tsvc]
  | .mirror .. =>
      mainParts ++ faultParts ++ [.staged, .ord, .held, .mem, .bnd, .cell, .cask, .head, .bound, .mash, .aprt, .tsvc,
      .hcp, .pwr, .latch, .parked]
  | .logRetry .. => mainParts ++ [.flt]
  | .sessionPendingTimeout .. | .sessionIdleTimeout .. => mainParts ++ [.held, .hcp, .latch]
  | .imageVerifyDone .. => mainParts ++ [.boot]
  | .relayOffer .. | .relayData .. => mainParts ++ faultParts ++ [.mem, .bnd, .cell]
  | .relayTimeout .. => mainParts ++ [.mem, .boot]
  | .trialConfirmed .. => mainParts ++ [.mntl, .boot]
  | .descriptorFetched .. => mainParts ++ faultParts ++ [.cask]
  | .readBeatReturn .. => mainParts ++ [.hop]
  | .writeBeatResponse .. => mainParts ++ [.mem, .hop]
  | .keepRailCollapse .. => timeParts ++ [.iso, .por]
  | .tempSensorsSample .. => mainParts ++ faultParts ++ [.pwr]
  | .uartByteReceived .. => mainParts ++ [.pwr]
  | .xoInReturn .. => timeParts ++ [.flt, .kiln, .boot]
  | .ownerSlotProgram .. | .ownerSlotRevoke .. => mainParts ++ [.boot, .fuses]

/-- The register fields that a command may write, beside the counters of `settleFields`; none for a command that writes a register
of the sender's choice, applies what waits at a boundary, or starts the device anew. -/
def Instr.fields (c : Instr) : Option (List Field) :=
  match c with
  | .cellarNAsserted .. | .cellarEnter .. | .cellarNDeasserted .. | .resetNDeasserted .. | .keepAlivePorRelease ..
    | .configApplied .. | .islandClockReturn .. | .csOpen .. | .stage .. | .arm .. | .prepare .. | .commit ..
    | .cancel .. | .csRelease .. | .csRead .. | .csDistributionDone .. | .csEntryInShadow .. | .armTimeReached ..
    | .retrain .. | .bundleEnable .. | .idleReq .. | .st211022Packet .. | .flowEnable .. | .dstRouteWrite ..
    | .seamSwitchingInstant .. | .surfAlloc .. | .surfFree .. | .bulkWrite .. | .bulkRead .. | .headEnable ..
    | .headDisable .. | .headFrameStart .. | .transitionFrameEnd .. | .sigLearn .. | .apronFieldWrite ..
    | .mashSampleInstant .. | .engSwapRequest .. | .engHoldWrite .. | .portEnable .. | .portDisable .. | .stopDone ..
    | .frameSync .. | .maskLoWrite .. | .maskHiWrite .. | .portClockStop .. | .kilnSecond .. | .evtCapRead ..
    | .nowRead .. | .lowerWordRead .. | .selCtlWrite .. | .refOrderWrite .. | .timeOutPulse .. | .clkOutAlign ..
    | .timeSetGo .. | .posWrite .. | .posModeWrite .. | .selftest .. | .sessRead .. | .sessWrite ..
    | .sessInvalidate .. | .keyLoad .. | .ntsMkeyWrite .. | .ptpRoleWrite .. | .inject .. | .txtsRead ..
    | .handover .. | .mirror .. | .mantleEnWrite .. | .standingClear .. | .fenceCmdFence .. | .fenceCmdRelease ..
    | .faultHoldWrite .. | .logAck .. | .hcpOpen .. | .hcpClose .. | .hcpNop .. | .hcpRead .. | .hcpWrite ..
    | .registerWrite .. | .rcCounterRead .. | .snapshot .. | .snapRead .. | .snapFree .. | .subscribe ..
    | .eventAck .. | .restart .. | .slotDisable .. | .imageWrite .. | .imageEnd .. | .imageAbort .. | .imageStatus ..
    | .imageRelay .. | .trialConfirmWrite .. | .trialReject .. | .trialWindowExpire .. | .hopperGo .. | .hopperStop ..
    | .crcStart .. | .crcFeed .. | .crcValueRestore .. | .uartTxWrite .. | .uartRxRead .. => none
  | .cellarEntryIsolated .. => some [Fld.PWR_CELLAR_CTL_ENTER]
  | .resetNAsserted .. | .pulseTimeout .. | .freqInStop .. | .freqInRateChange .. | .leaseInEdge .. | .freqInReturn .. =>
      some (faultFields ++ refFields)
  | .flashInitDone .. | .swapStepDone .. =>
      some [Fld.BOOT_STAT_CAUSE, Fld.BOOT_STAT_FELL_BACK, Fld.BOOT_STAT_SOURCE, Fld.BOOT_STAT_STAGE,
      Fld.BOOT_STAT_SWAPPED, Fld.BOOT_STG_STAT_CAUSE, Fld.BOOT_STG_STAT_HOPS, Fld.BOOT_STG_STAT_RELAYED,
      Fld.BOOT_STG_STAT_STATE, Fld.BOOT_TRIAL_STARTS]
  | .startVerifyDone .. =>
      some [Fld.BOOT_STAT_CAUSE, Fld.BOOT_STAT_SOURCE, Fld.BOOT_STAT_STAGE, Fld.CTRL_DEV_STATE_TRIAL]
  | .hbmTrained .. =>
      some (faultFields ++ refFields ++ [Fld.BOOT_STAT_STAGE, Fld.IZL_LANE_STAT_DESKEW, Fld.IZL_LANE_STAT_FAILED,
      Fld.IZL_LANE_STAT_LOCK, Fld.IZL_LINK_STAT_LANES_OK, Fld.IZL_LINK_STAT_MISWIRE, Fld.IZL_LINK_STAT_RX_IDLE,
      Fld.IZL_LINK_STAT_RX_OMIT, Fld.IZL_LINK_STAT_STATE, Fld.IZL_LINK_STAT_TX_7LANE, Fld.IZL_LINK_STAT_TX_OMIT])
  | .stage6End .. => some (faultFields ++ refFields ++ [Fld.BOOT_STAT_STAGE])
  | .enterService .. => some [Fld.BOOT_STAT_STAGE, Fld.CTRL_DEV_STATE_MODE, Fld.KILN_STAT_STEP_PENDING]
  | .hemMashSilent .. | .prepareDeadline .. | .idleAutoTimeout .. | .txIdleExit .. | .fwdClockRequalified ..
    | .familyCellTx .. | .launchCellTx .. | .echoCellTx .. | .seamSnapshotTimeout .. | .dstLineBoundary ..
    | .headGuardOpen .. | .frameEpoch .. | .modelSave .. | .timeOutPulseEnd .. | .baselineLearnt ..
    | .gnssNavRefresh .. | .grantExpire .. | .renewTx .. | .rtpSeqMirrorTx .. | .csReady .. | .logRetry ..
    | .snapshotCapture .. | .eventResend .. | .sessionPendingTimeout .. | .sessionIdleTimeout ..
    | .keepRailCollapse .. | .uartByteReceived .. | .hemLayerDrop .. | .xoInReturn .. | .ownerSlotProgram ..
    | .ownerSlotRevoke .. => some []
  | .islandClockLost .. => some [Fld.CTRL_ISLAND_CLK_PRESENT]
  | .clockLaneQualified .. => some [Fld.IZL_LINK_STAT_STATE]
  | .adaptDone .. => some [Fld.IZL_LANE_STAT_PHASE, Fld.IZL_LANE_STAT_SEEN, Fld.IZL_LINK_STAT_STATE]
  | .bitSlipPosition .. =>
      some (faultFields ++ refFields ++ linkDownFields ++ [Fld.IZL_LANE_STAT_FAILED, Fld.IZL_LANE_STAT_LOCK,
      Fld.IZL_LANE_STAT_SEEN, Fld.IZL_LANE_STAT_SLIP, Fld.IZL_LINK_STAT_LANES_OK])
  | .deskewDone .. =>
      some (faultFields ++ refFields ++ linkDownFields ++ [Fld.IZL_LANE_STAT_DESKEW, Fld.IZL_LANE_STAT_FAILED,
      Fld.IZL_LANE_STAT_LOCK, Fld.IZL_LINK_STAT_LANES_OK])
  | .verifyDone .. =>
      some (faultFields ++ refFields ++ linkDownFields ++ [Fld.CELL_LINK_DELAY_DELAY, Fld.CELL_LINK_INFO_VALID,
      Fld.IZL_LANE_STAT_FAILED, Fld.IZL_LANE_STAT_LOCK, Fld.IZL_LINK_STAT_LANES_OK, Fld.IZL_LINK_STAT_RX_OMIT])
  | .autoRetrainRetry .. =>
      some (faultFields ++ refFields ++ [Fld.IZL_LANE_STAT_DESKEW, Fld.IZL_LANE_STAT_FAILED, Fld.IZL_LANE_STAT_LOCK,
      Fld.IZL_LINK_STAT_LANES_OK, Fld.IZL_LINK_STAT_MISWIRE, Fld.IZL_LINK_STAT_RX_IDLE, Fld.IZL_LINK_STAT_RX_OMIT,
      Fld.IZL_LINK_STAT_STATE, Fld.IZL_LINK_STAT_TX_7LANE, Fld.IZL_LINK_STAT_TX_OMIT])
  | .txAlignmentMarker .. =>
      some [Fld.CTRL_DEV_STATE_MODE, Fld.IZL_LINK_STAT_TX_7LANE, Fld.IZL_LINK_STAT_TX_OMIT, Fld.KILN_STAT_STEP_PENDING]
  | .alignmentMarker .. =>
      some (faultFields ++ refFields ++ linkDownFields ++ [Fld.IZL_CNT_MARKER_MISS_CNT, Fld.IZL_CNT_STUFF_VIOL_CNT,
      Fld.IZL_LANE_STAT_FAILED, Fld.IZL_LANE_STAT_LOCK, Fld.IZL_LANE_STAT_PHASE, Fld.IZL_LANE_STAT_SEEN,
      Fld.IZL_LINK_STAT_FAR_MAP, Fld.IZL_LINK_STAT_LANES_OK, Fld.IZL_LINK_STAT_MISWIRE, Fld.IZL_LINK_STAT_RX_OMIT])
  | .markerMissing .. =>
      some (faultFields ++ refFields ++ linkDownFields ++ [Fld.IZL_CNT_MARKER_MISS_CNT, Fld.IZL_LANE_STAT_FAILED,
      Fld.IZL_LANE_STAT_LOCK, Fld.IZL_LINK_STAT_LANES_OK])
  | .interpolatorLimit .. =>
      some (faultFields ++ refFields ++ linkDownFields ++ [Fld.IZL_LANE_STAT_FAILED, Fld.IZL_LANE_STAT_LOCK,
      Fld.IZL_LANE_STAT_PHASE, Fld.IZL_LINK_STAT_LANES_OK])
  | .fill .. | .lightIdleEntry .. | .deepIdleEntry .. =>
      some (faultFields ++ refFields ++ linkDownFields ++ [Fld.IZL_CNT_STUFF_VIOL_CNT, Fld.IZL_LANE_STAT_FAILED,
      Fld.IZL_LANE_STAT_LOCK, Fld.IZL_LINK_STAT_LANES_OK, Fld.IZL_LINK_STAT_MISWIRE])
  | .exitBurstDelimiter .. => some [Fld.IZL_LINK_STAT_RX_IDLE]
  | .wakeFailure .. => some (faultFields ++ refFields ++ linkDownFields ++ [Fld.IZL_CNT_WAKE_FAIL_CNT])
  | .fwdClockStop .. | .fwdClockRateChange .. =>
      some (faultFields ++ refFields ++ linkDownFields ++ [Fld.IZL_LANE_STAT_FAILED, Fld.IZL_LINK_STAT_LANES_OK])
  | .fwdClockGlitch .. =>
      some (faultFields ++ [Fld.IZL_CNT_CLK_GLITCH_CNT, Fld.IZL_LANE_STAT_FAILED, Fld.IZL_LINK_STAT_LANES_OK])
  | .idleCell .. | .managementSideCell .. | .ack .. | .relayWant .. | .relayAck .. | .relayDone .. | .relayDecline .. =>
      some (faultFields ++ cellFields ++ [Fld.IZL_CNT_STUFF_VIOL_CNT])
  | .essenceCell .. =>
      some (faultFields ++ cellFields ++ [Fld.CASK_INT_RING_EFF_DEPTH, Fld.CASK_INT_RING_OVERSIZE,
      Fld.CASK_RING_EFF_DEPTH, Fld.CASK_RING_OVERSIZE, Fld.CELL_CNT_FMT_CHANGE_CNT, Fld.CELL_CNT_OVERRUN_CNT,
      Fld.CELL_SRC_STAT_FMT, Fld.CELL_SRC_STAT_NOSIG, Fld.IZL_CNT_STUFF_VIOL_CNT, Fld.WARP_INT_TIME_PHASE,
      Fld.WARP_INT_TIME_STABLE, Fld.WARP_INT_TIME_VALID, Fld.WARP_INT_TIME_WHOLE_FRAME, Fld.WARP_SRC_TIME_PHASE,
      Fld.WARP_SRC_TIME_STABLE, Fld.WARP_SRC_TIME_VALID, Fld.WARP_SRC_TIME_WHOLE_FRAME])
  | .ancillaryCell .. =>
      some (faultFields ++ cellFields ++ [Fld.CASK_CNT_ANC_TRUNC_CNT, Fld.CELL_CNT_OVERRUN_CNT,
      Fld.IZL_CNT_STUFF_VIOL_CNT, Fld.MASH_CNT_ANC_DROP_CNT, Fld.MASH_CNT_RATE_ERR_CNT, Fld.MASH_SRC_AUDIO_RATE_ERR])
  | .echoCell .. =>
      some (faultFields ++ cellFields ++ [Fld.CELL_LINK_DELAY_DELAY, Fld.CELL_LINK_INFO_VALID,
      Fld.IZL_CNT_STUFF_VIOL_CNT])
  | .stampCell .. =>
      some (faultFields ++ cellFields ++ [Fld.CASK_INT_RING_EFF_DEPTH, Fld.CASK_RING_EFF_DEPTH,
      Fld.IZL_CNT_STUFF_VIOL_CNT, Fld.WARP_INT_TIME_PHASE, Fld.WARP_INT_TIME_STABLE, Fld.WARP_INT_TIME_VALID,
      Fld.WARP_INT_TIME_WHOLE_FRAME, Fld.WARP_SRC_TIME_PHASE, Fld.WARP_SRC_TIME_STABLE, Fld.WARP_SRC_TIME_VALID,
      Fld.WARP_SRC_TIME_WHOLE_FRAME])
  | .familyCellRx .. =>
      some (faultFields ++ refFields ++ cellFields ++ [Fld.IZL_CNT_STUFF_VIOL_CNT, Fld.KILN_LOOP_ERR,
      Fld.KILN_REF_OFFSET_DELTA])
  | .laneTestCell .. => some (faultFields ++ cellFields ++ [Fld.IZL_CNT_STUFF_VIOL_CNT, Fld.MNTL_CNT_LANE_TEST_CNT])
  | .signatureCell .. =>
      some (faultFields ++ cellFields ++ [Fld.IZL_CNT_STUFF_VIOL_CNT, Fld.MNTL_CNT_SIG_MISMATCH_CNT,
      Fld.MNTL_SIG_STAT_LAST_DST, Fld.MNTL_SIG_STAT_REPORTED])
  | .sourceLostTimeout .. =>
      some [Fld.CASK_FS_STAT_CAUSE, Fld.CELL_SRC_STAT_LOST, Fld.WARP_DST_CNT_UNTIMED, Fld.WARP_DST_STAT_BLACKED,
      Fld.WARP_DST_STAT_SRC_LOST, Fld.WARP_DST_STAT_TIMED]
  | .warpCellCheckFail .. | .tempSensorTimeout .. | .oscDrift .. | .xoInStop .. | .vatCorrectedError ..
    | .vatUncorrectableError .. | .mashParityFault .. | .controlCoreWatchdog .. | .crossingFifoOverflow .. =>
      some faultFields
  | .signatureCellTx .. =>
      some (faultFields ++ [Fld.MNTL_CNT_SIG_MISMATCH_CNT, Fld.MNTL_SIG_STAT_LAST_DST, Fld.MNTL_SIG_STAT_REPORTED])
  | .ethFrameBad .. =>
      some (faultFields ++ [Fld.ETH_CNT_FEC_CORR_CNT, Fld.ETH_CNT_FEC_UNCORR_CNT, Fld.ETH_CNT_RX_BAD_CNT,
      Fld.ETH_CNT_RX_CRC_CNT, Fld.ETH_CNT_RX_FULL_CNT, Fld.ETH_CNT_RX_LONG_CNT, Fld.ETH_CNT_RX_SHORT_CNT])
  | .unmatchedFrame .. => some [Fld.ETH_CNT_RX_LONG_CNT, Fld.ETH_CNT_RX_NOMATCH_CNT, Fld.ETH_CNT_RX_SHORT_CNT]
  | .pauseFrame .. =>
      some (faultFields ++ [Fld.ETH_CNT_RX_PAUSE_CNT, Fld.ETH_PORT_STAT_HELD, Fld.TSVC_CNT_TXTS_LOST_CNT,
      Fld.TSVC_TXTS_STAT_OVF])
  | .pauseExpire .. =>
      some (faultFields ++ [Fld.ETH_PORT_STAT_HELD, Fld.TSVC_CNT_TXTS_LOST_CNT, Fld.TSVC_TXTS_STAT_OVF])
  | .pauseWatchdog .. =>
      some (faultFields ++ [Fld.ETH_CNT_PAUSE_WD_CNT, Fld.ETH_PORT_STAT_HELD, Fld.ETH_PORT_STAT_IGNORE,
      Fld.TSVC_CNT_TXTS_LOST_CNT, Fld.TSVC_TXTS_STAT_OVF])
  | .pauseIgnoreEnd .. => some [Fld.ETH_PORT_STAT_IGNORE]
  | .arpRequest .. | .icmpEchoRequest .. =>
      some [Fld.ETH_CNT_RX_FRAMES_CNT, Fld.ETH_CNT_RX_LONG_CNT, Fld.ETH_CNT_RX_NOMATCH_CNT, Fld.ETH_CNT_RX_OCTETS_CNT,
      Fld.ETH_CNT_RX_SHORT_CNT]
  | .st211020Packet .. =>
      some (faultFields ++ [Fld.CASK_INT_RING_EFF_DEPTH, Fld.CASK_INT_RING_OVERSIZE, Fld.CASK_RING_EFF_DEPTH,
      Fld.CASK_RING_OVERSIZE, Fld.ETH_CNT_RX_FRAMES_CNT, Fld.ETH_CNT_RX_LONG_CNT, Fld.ETH_CNT_RX_NOMATCH_CNT,
      Fld.ETH_CNT_RX_OCTETS_CNT, Fld.ETH_CNT_RX_SHORT_CNT, Fld.ETH_FLOW_CNT_A_LOSS, Fld.ETH_FLOW_CNT_B_LOSS,
      Fld.ETH_FLOW_CNT_LATE, Fld.ETH_FLOW_CNT_MALFORMED, Fld.ETH_FLOW_CNT_OVERRUN, Fld.ETH_FLOW_CNT_SEQ_GAP,
      Fld.ETH_FLOW_CNT_TS_JUMP, Fld.ETH_FLOW_STAT_JITTER, Fld.ETH_FLOW_STAT_N_OK, Fld.TSVC_CNT_FILTER_CNT,
      Fld.WARP_INT_TIME_PHASE, Fld.WARP_INT_TIME_STABLE, Fld.WARP_INT_TIME_VALID, Fld.WARP_INT_TIME_WHOLE_FRAME,
      Fld.WARP_SRC_TIME_PHASE, Fld.WARP_SRC_TIME_STABLE, Fld.WARP_SRC_TIME_VALID, Fld.WARP_SRC_TIME_WHOLE_FRAME])
  | .st211030Packet .. | .st211031Packet .. =>
      some (faultFields ++ [Fld.ETH_CNT_RX_FRAMES_CNT, Fld.ETH_CNT_RX_LONG_CNT, Fld.ETH_CNT_RX_NOMATCH_CNT,
      Fld.ETH_CNT_RX_OCTETS_CNT, Fld.ETH_CNT_RX_SHORT_CNT, Fld.ETH_FLOW_CNT_A_LOSS, Fld.ETH_FLOW_CNT_B_LOSS,
      Fld.ETH_FLOW_CNT_LATE, Fld.ETH_FLOW_CNT_MALFORMED, Fld.ETH_FLOW_CNT_OVERRUN, Fld.ETH_FLOW_CNT_SEQ_GAP,
      Fld.MASH_CNT_RATE_ERR_CNT, Fld.MASH_SRC_AUDIO_RATE_ERR, Fld.TSVC_CNT_FILTER_CNT])
  | .st211040Packet .. =>
      some (faultFields ++ [Fld.CASK_CNT_ANC_TRUNC_CNT, Fld.ETH_CNT_RX_FRAMES_CNT, Fld.ETH_CNT_RX_LONG_CNT,
      Fld.ETH_CNT_RX_NOMATCH_CNT, Fld.ETH_CNT_RX_OCTETS_CNT, Fld.ETH_CNT_RX_SHORT_CNT, Fld.ETH_FLOW_CNT_A_LOSS,
      Fld.ETH_FLOW_CNT_B_LOSS, Fld.ETH_FLOW_CNT_LATE, Fld.ETH_FLOW_CNT_MALFORMED, Fld.ETH_FLOW_CNT_OVERRUN,
      Fld.ETH_FLOW_CNT_SEQ_GAP, Fld.MASH_CNT_ANC_DROP_CNT, Fld.MASH_CNT_RATE_ERR_CNT, Fld.MASH_SRC_AUDIO_RATE_ERR,
      Fld.TSVC_CNT_FILTER_CNT])
  | .flowLostTimeout .. | .audioFlowLostTimeout .. =>
      some [Fld.CASK_FS_STAT_CAUSE, Fld.CELL_SRC_STAT_LOST, Fld.ETH_FLOW_STAT_LOST, Fld.ETH_FLOW_STAT_PATH_A,
      Fld.ETH_FLOW_STAT_PATH_B, Fld.WARP_DST_CNT_UNTIMED, Fld.WARP_DST_STAT_BLACKED, Fld.WARP_DST_STAT_SRC_LOST,
      Fld.WARP_DST_STAT_TIMED]
  | .ethLossOfSignal .. =>
      some (faultFields ++ refFields ++ [Fld.ETH_CNT_LINK_DOWN_CNT, Fld.ETH_PORT_STAT_ALIGNED,
      Fld.ETH_PORT_STAT_LINK_UP, Fld.ETH_PORT_STAT_LOCAL_FAULT, Fld.TSVC_CNT_TXTS_LOST_CNT, Fld.TSVC_TXTS_STAT_OVF])
  | .ethLinkGlitch .. => some (faultFields ++ [Fld.ETH_CNT_LINK_GLITCH_CNT, Fld.ETH_CNT_RX_BAD_CNT])
  | .ethRateChange .. =>
      some (faultFields ++ refFields ++ [Fld.ETH_CNT_LINK_DOWN_CNT, Fld.ETH_PORT_STAT_ALIGNED,
      Fld.ETH_PORT_STAT_LINK_UP, Fld.TSVC_CNT_TXTS_LOST_CNT, Fld.TSVC_TXTS_STAT_OVF])
  | .ethLinkUp .. =>
      some (faultFields ++ refFields ++ [Fld.ETH_PORT_STAT_ALIGNED, Fld.ETH_PORT_STAT_LINK_UP,
      Fld.ETH_PORT_STAT_LOCAL_FAULT])
  | .seamGuardOpen .. => some [Fld.WARP_DST_CNT_REFUSED, Fld.WARP_DST_STAT_REFUSED]
  | .dstFrameLaunch .. =>
      some (faultFields ++ [Fld.CASK_FS_CNT_DROP, Fld.CASK_FS_CNT_REPEAT, Fld.CASK_FS_STAT_BLACK,
      Fld.CASK_FS_STAT_FROZEN, Fld.MASH_CNT_SLIP_CNT, Fld.WARP_DST_STAT_LATENCY])
  | .freezeExpire .. => some [Fld.CASK_FS_STAT_BLACK, Fld.CASK_FS_STAT_FROZEN]
  | .plyProxyComplete .. => some [Fld.CASK_CNT_PLY_SKIP_CNT]
  | .caskCorrectedError .. => some [Fld.CASK_CNT_CE_CNT]
  | .caskUncorrectableError .. => some (faultFields ++ [Fld.CASK_CNT_UE_CNT])
  | .pageRetireDone .. =>
      some (faultFields ++ [Fld.CASK_CNT_RETIRED_CNT, Fld.CASK_SPARE_STAT_LOW, Fld.CASK_SPARE_STAT_SPARES_LEFT])
  | .headUnderrun .. => some (faultFields ++ [Fld.STCH_HEAD_CNT_UNDERRUN, Fld.STCH_HEAD_STAT_ABORTED])
  | .apronUnderrun .. =>
      some (faultFields ++ [Fld.STCH_HEAD_CNT_APRON_UNDERRUN, Fld.STCH_HEAD_CNT_UNDERRUN, Fld.STCH_HEAD_STAT_ABORTED])
  | .headFrameEnd .. =>
      some (faultFields ++ [Fld.STCH_HEAD_CNT_SIG_MISMATCH, Fld.STCH_HEAD_STAT_FETCH, Fld.STCH_HEAD_STAT_SIG_FAIL,
      Fld.STCH_SIG_CTL_LEARN, Fld.STCH_SIG_EXP_EXP, Fld.STCH_SIG_STAT_MISMATCH, Fld.STCH_SIG_VAL_VAL])
  | .apronFieldApply .. => some [Fld.STCH_HEAD_STAT_APRON_SHOWN]
  | .apronNAsserted .. | .apronNDeasserted .. => some [Fld.STCH_APRON_STAT_ASSERTED]
  | .apronForceBegin .. => some [Fld.STCH_HEAD_STAT_APRON_FORCED, Fld.STCH_HEAD_STAT_APRON_SHOWN]
  | .zcTimeout .. => some [Fld.MASH_CNT_ZC_TIMEOUT_CNT]
  | .faderRampEnd .. => some [Fld.MASH_BUS_STAT_LEVEL, Fld.MASH_BUS_STAT_RAMPING]
  | .unlockHoldExpire .. => some [Fld.MASH_SRC_AUDIO_UNLOCKED]
  | .prerollDone .. => some [Fld.APRT_PORT_STAT_STATE]
  | .portClockGlitch .. => some [Fld.APRT_CNT_GLITCH_CNT]
  | .portRateChange .. => some (faultFields ++ [Fld.APRT_CNT_UNLOCK_CNT, Fld.APRT_PORT_STAT_STATE])
  | .portClockQualified .. => some [Fld.APRT_PORT_STAT_CLK_PRESENT, Fld.APRT_PORT_STAT_STATE]
  | .evtInEdge .. => some [Fld.KILN_CNT_EVT_LOST_CNT, Fld.KILN_EVT_STAT_OVF]
  | .ppsInPulse .. | .vrefInPulse .. =>
      some (faultFields ++ refFields ++ [Fld.KILN_LOOP_ERR, Fld.KILN_REF_CNT_REJECT, Fld.KILN_REF_OFFSET_DELTA])
  | .freqInGlitch .. => some [Fld.KILN_REF_CNT_REJECT]
  | .refQualified .. =>
      some (faultFields ++ [Fld.KILN_HO_ELAPSED_SECONDS, Fld.KILN_HO_REMAIN_SECONDS, Fld.KILN_STAT_HO_EXPIRED,
      Fld.KILN_STAT_SELECTED, Fld.KILN_STAT_STATE])
  | .kilnStep .. => some (faultFields ++ [Fld.KILN_STAT_HO_EXPIRED, Fld.KILN_STAT_TRACEABLE])
  | .kilnTimeSet .. | .startWaitExpire .. =>
      some (faultFields ++ refFields ++ [Fld.BOOT_STAT_STAGE, Fld.KILN_STAT_TIME_VALID, Fld.KILN_STAT_TRACEABLE])
  | .slewDone .. => some [Fld.KILN_STAT_SLEWING]
  | .dacUpdate .. => some (faultFields ++ [Fld.KILN_OSC_DAC_VALUE])
  | .tempRead .. => some [Fld.KILN_OSC_TEMP_TEMP]
  | .modelValid .. => some [Fld.KILN_STAT_MODEL_VALID]
  | .oscGlitch .. => some (faultFields ++ [Fld.KILN_CNT_OSC_GLITCH_CNT, Fld.KILN_STAT_HO_EXPIRED, Fld.KILN_STAT_OSC_XO])
  | .oscStop .. | .oscRateChange .. | .oscRestore .. =>
      some (faultFields ++ [Fld.KILN_STAT_HO_EXPIRED, Fld.KILN_STAT_OSC_XO])
  | .gnssClockStop .. | .gnssClockRateChange .. =>
      some (faultFields ++ [Fld.GNSS_CNT_LOCK_LOSS_CNT, Fld.GNSS_IF_CFG_A_CLK_OK, Fld.GNSS_IF_CFG_B_CLK_OK])
  | .gnssClockGlitch .. => some (faultFields ++ [Fld.GNSS_CNT_CLK_GLITCH_A_CNT, Fld.GNSS_CNT_CLK_GLITCH_B_CNT])
  | .gnssClockRequalified .. => some [Fld.GNSS_IF_CFG_A_CLK_OK, Fld.GNSS_IF_CFG_B_CLK_OK]
  | .gnssSearchPass .. | .hotSearchTimeout .. =>
      some [Fld.GNSS_CH_STAT_EXCLUDED, Fld.GNSS_CH_STAT_PRN, Fld.GNSS_CH_STAT_SIG, Fld.GNSS_CH_STAT_STATE,
      Fld.GNSS_STAT_LOCKED, Fld.GNSS_STAT_STATE]
  | .channelLockLoss .. =>
      some [Fld.GNSS_CH_STAT_EXCLUDED, Fld.GNSS_CH_STAT_PRN, Fld.GNSS_CH_STAT_SIG, Fld.GNSS_CH_STAT_STATE,
      Fld.GNSS_CNT_LOCK_LOSS_CNT, Fld.GNSS_STAT_LOCKED, Fld.GNSS_STAT_STATE]
  | .navDataDecoded .. | .leapSecond .. =>
      some [Fld.KILN_UTC_LEAP59, Fld.KILN_UTC_LEAP61, Fld.KILN_UTC_SRC, Fld.KILN_UTC_UTC_OFFSET]
  | .measurementEpoch .. => some [Fld.GNSS_CH_STAT_CN0, Fld.GNSS_MEAS_PTR_NEWEST]
  | .gnssSolution .. =>
      some (faultFields ++ refFields ++ [Fld.GNSS_CNT_EXCL_CNT, Fld.GNSS_CNT_UNTRUST_CNT, Fld.GNSS_CTL_POS_MODE,
      Fld.GNSS_INTEG_STAT_CAUSE, Fld.GNSS_INTEG_STAT_FAILING, Fld.GNSS_INTEG_STAT_SKIPPED, Fld.GNSS_STAT_DUAL,
      Fld.GNSS_STAT_SOL_VALID, Fld.GNSS_STAT_SURVEYED, Fld.GNSS_STAT_TRUSTED, Fld.GNSS_STAT_TRUST_LEFT,
      Fld.GNSS_STAT_USED, Fld.GNSS_TEB_TEB_G, Fld.KILN_LOOP_ERR, Fld.KILN_REF_OFFSET_DELTA, Fld.KILN_UTC_LEAP59,
      Fld.KILN_UTC_LEAP61, Fld.KILN_UTC_SRC, Fld.KILN_UTC_UTC_OFFSET])
  | .selftestDone .. => some (faultFields ++ [Fld.GNSS_CH_STAT_FAULTY, Fld.GNSS_CTL_SELFTEST])
  | .gnssBurst .. =>
      some (faultFields ++ refFields ++ [Fld.GNSS_CH_STAT_CN0, Fld.GNSS_CNT_EXCL_CNT, Fld.GNSS_CNT_UNTRUST_CNT,
      Fld.GNSS_CTL_POS_MODE, Fld.GNSS_INTEG_STAT_CAUSE, Fld.GNSS_INTEG_STAT_FAILING, Fld.GNSS_INTEG_STAT_SKIPPED,
      Fld.GNSS_MEAS_PTR_NEWEST, Fld.GNSS_STAT_DUAL, Fld.GNSS_STAT_SOL_VALID, Fld.GNSS_STAT_SURVEYED,
      Fld.GNSS_STAT_TRUSTED, Fld.GNSS_STAT_TRUST_LEFT, Fld.GNSS_STAT_USED, Fld.GNSS_TEB_TEB_G, Fld.KILN_LOOP_ERR,
      Fld.KILN_REF_OFFSET_DELTA, Fld.KILN_UTC_LEAP59, Fld.KILN_UTC_LEAP61, Fld.KILN_UTC_SRC, Fld.KILN_UTC_UTC_OFFSET])
  | .syncTx .. | .followUpTx .. | .announceTx .. | .syncMetadataTx .. | .grantDue .. | .clientDelayReqTx .. =>
      some (faultFields ++ [Fld.TSVC_CNT_TXTS_LOST_CNT, Fld.TSVC_TXTS_STAT_OVF])
  | .delayReq .. =>
      some (faultFields ++ [Fld.ETH_CNT_RX_FRAMES_CNT, Fld.ETH_CNT_RX_LONG_CNT, Fld.ETH_CNT_RX_OCTETS_CNT,
      Fld.ETH_CNT_RX_SHORT_CNT, Fld.TSVC_CNT_AUTH_FAIL_CNT, Fld.TSVC_CNT_FILTER_CNT, Fld.TSVC_CNT_NOSESS_CNT,
      Fld.TSVC_CNT_NOT_RUN_CNT, Fld.TSVC_CNT_OVERLOAD_CNT, Fld.TSVC_CNT_REPLAY_CNT, Fld.TSVC_CNT_TXTS_LOST_CNT,
      Fld.TSVC_TXTS_STAT_OVF])
  | .sync .. | .followUp .. =>
      some (faultFields ++ [Fld.ETH_CNT_RX_FRAMES_CNT, Fld.ETH_CNT_RX_LONG_CNT, Fld.ETH_CNT_RX_OCTETS_CNT,
      Fld.ETH_CNT_RX_SHORT_CNT, Fld.TSVC_CNT_AUTH_FAIL_CNT, Fld.TSVC_CNT_FILTER_CNT, Fld.TSVC_CNT_NOSESS_CNT,
      Fld.TSVC_CNT_REPLAY_CNT])
  | .delayResp .. =>
      some (faultFields ++ refFields ++ [Fld.ETH_CNT_RX_FRAMES_CNT, Fld.ETH_CNT_RX_LONG_CNT, Fld.ETH_CNT_RX_OCTETS_CNT,
      Fld.ETH_CNT_RX_SHORT_CNT, Fld.KILN_LOOP_ERR, Fld.KILN_REF_OFFSET_DELTA, Fld.TSVC_CNT_AUTH_FAIL_CNT,
      Fld.TSVC_CNT_FILTER_CNT, Fld.TSVC_CNT_REPLAY_CNT, Fld.TSVC_PORT_STAT_STATE])
  | .announce .. =>
      some (faultFields ++ refFields ++ [Fld.ETH_CNT_RX_FRAMES_CNT, Fld.ETH_CNT_RX_LONG_CNT, Fld.ETH_CNT_RX_OCTETS_CNT,
      Fld.ETH_CNT_RX_SHORT_CNT, Fld.KILN_UTC_LEAP59, Fld.KILN_UTC_LEAP61, Fld.KILN_UTC_SRC, Fld.KILN_UTC_UTC_OFFSET,
      Fld.TSVC_CNT_AUTH_FAIL_CNT, Fld.TSVC_CNT_FILTER_CNT, Fld.TSVC_CNT_NOSESS_CNT, Fld.TSVC_CNT_REPLAY_CNT,
      Fld.TSVC_PORT_STAT_STATE])
  | .announceReceiptTimeout .. | .exchangeTimeout .. => some (faultFields ++ refFields ++ [Fld.TSVC_PORT_STAT_STATE])
  | .requestUnicastTransmission .. | .cancelUnicastTransmission .. =>
      some (faultFields ++ [Fld.ETH_CNT_RX_FRAMES_CNT, Fld.ETH_CNT_RX_LONG_CNT, Fld.ETH_CNT_RX_OCTETS_CNT,
      Fld.ETH_CNT_RX_SHORT_CNT, Fld.TSVC_CNT_AUTH_FAIL_CNT, Fld.TSVC_CNT_FILTER_CNT, Fld.TSVC_CNT_NOSESS_CNT,
      Fld.TSVC_CNT_NOT_RUN_CNT, Fld.TSVC_CNT_REPLAY_CNT, Fld.TSVC_CNT_TXTS_LOST_CNT, Fld.TSVC_TXTS_STAT_OVF])
  | .managementMessage .. | .pdelayMessage .. =>
      some [Fld.ETH_CNT_RX_FRAMES_CNT, Fld.ETH_CNT_RX_LONG_CNT, Fld.ETH_CNT_RX_OCTETS_CNT, Fld.ETH_CNT_RX_SHORT_CNT,
      Fld.TSVC_CNT_FILTER_CNT]
  | .ntpRequest .. =>
      some (faultFields ++ [Fld.ETH_CNT_RX_FRAMES_CNT, Fld.ETH_CNT_RX_LONG_CNT, Fld.ETH_CNT_RX_OCTETS_CNT,
      Fld.ETH_CNT_RX_SHORT_CNT, Fld.TSVC_CNT_FILTER_CNT, Fld.TSVC_CNT_NOT_RUN_CNT, Fld.TSVC_CNT_OVERLOAD_CNT])
  | .ntsRequest .. =>
      some (faultFields ++ [Fld.ETH_CNT_RX_FRAMES_CNT, Fld.ETH_CNT_RX_LONG_CNT, Fld.ETH_CNT_RX_OCTETS_CNT,
      Fld.ETH_CNT_RX_SHORT_CNT, Fld.TSVC_CNT_FILTER_CNT, Fld.TSVC_CNT_NOT_RUN_CNT, Fld.TSVC_CNT_NTS_NAK_CNT,
      Fld.TSVC_CNT_OVERLOAD_CNT])
  | .injectedFrameSent .. =>
      some (faultFields ++ [Fld.TSVC_CNT_TXTS_LOST_CNT, Fld.TSVC_INJECT_CTL_GO, Fld.TSVC_TXTS_STAT_OVF])
  | .renew .. =>
      some (faultFields ++ refFields ++ cellFields ++ [Fld.IZL_CNT_STUFF_VIOL_CNT, Fld.MNTL_CNT_CONFLICT_CNT,
      Fld.MNTL_STAT_EPOCH])
  | .leaseConfirmTimeout .. => some (faultFields ++ refFields ++ [Fld.MNTL_CNT_LAPSE_CNT])
  | .claimTimeout .. => some (faultFields ++ refFields ++ [Fld.MNTL_CNT_CLAIM_CNT, Fld.MNTL_STAT_EPOCH])
  | .noneWaitTimeout .. =>
      some (faultFields ++ refFields ++ [Fld.MNTL_CNT_CLAIM_CNT, Fld.MNTL_STAT_EPOCH, Fld.MNTL_STAT_PREF])
  | .release .. =>
      some (faultFields ++ refFields ++ cellFields ++ [Fld.IZL_CNT_STUFF_VIOL_CNT, Fld.MNTL_CNT_CLAIM_CNT,
      Fld.MNTL_STAT_EPOCH])
  | .request .. | .propose .. | .refuse .. =>
      some (faultFields ++ cellFields ++ [Fld.IZL_CNT_STUFF_VIOL_CNT, Fld.MNTL_STAT_HO_CAUSE, Fld.MNTL_STAT_HO_STATE])
  | .accept .. => some (faultFields ++ cellFields ++ [Fld.IZL_CNT_STUFF_VIOL_CNT, Fld.MNTL_STAT_HO_STATE])
  | .handoverAcceptDeadline .. => some [Fld.MNTL_CTL_HANDOVER, Fld.MNTL_STAT_HO_CAUSE, Fld.MNTL_STAT_HO_STATE]
  | .handoverTime .. =>
      some (faultFields ++ refFields ++ [Fld.MNTL_CNT_HANDOVER_CNT, Fld.MNTL_STAT_EPOCH, Fld.MNTL_STAT_HO_CAUSE,
      Fld.MNTL_STAT_HO_STATE])
  | .holdoffExpire .. => some [Fld.MNTL_STAT_PREF]
  | .healthTx .. => some [Fld.MNTL_HEALTH_OWN_DATA, Fld.MNTL_STAT_PREF]
  | .health .. =>
      some (faultFields ++ cellFields ++ [Fld.IZL_CNT_STUFF_VIOL_CNT, Fld.MNTL_HEALTH_TWIN_DATA, Fld.MNTL_STAT_COMPAT,
      Fld.MNTL_STAT_TWIN_HEALTHY])
  | .twinHealthTimeout .. => some [Fld.MNTL_STAT_TWIN_HEALTHY]
  | .faultPulseEnd .. => some [Fld.FLT_STAT_PULSE]
  | .imageVerifyDone .. | .relayTimeout .. => some [Fld.BOOT_STG_STAT_CAUSE, Fld.BOOT_STG_STAT_STATE]
  | .relayOffer .. =>
      some (faultFields ++ cellFields ++ [Fld.BOOT_STG_STAT_CAUSE, Fld.BOOT_STG_STAT_HOPS, Fld.BOOT_STG_STAT_RELAYED,
      Fld.BOOT_STG_STAT_STATE, Fld.IZL_CNT_STUFF_VIOL_CNT])
  | .relayData .. =>
      some (faultFields ++ cellFields ++ [Fld.BOOT_STG_STAT_CAUSE, Fld.BOOT_STG_STAT_STATE, Fld.IZL_CNT_STUFF_VIOL_CNT])
  | .trialConfirmed .. => some [Fld.BOOT_MIN_SVN_SVN, Fld.CTRL_DEV_STATE_TRIAL]
  | .descriptorFetched .. =>
      some (faultFields ++ [Fld.CRC_VALUE_V, Fld.HOP_CH_CTL_GO, Fld.HOP_CH_RESID_COUNT, Fld.HOP_CH_STAT_CAUSE,
      Fld.HOP_CH_STAT_STATE])
  | .readBeatReturn .. => some [Fld.CRC_VALUE_V, Fld.HOP_CH_RESID_COUNT, Fld.HOP_CH_STAT_RETRIES]
  | .writeBeatResponse .. => some [Fld.CRC_VALUE_V, Fld.HOP_CH_STAT_RETRIES]
  | .descriptorWriteBack .. =>
      some (faultFields ++ [Fld.HOP_CH_CTL_GO, Fld.HOP_CH_DESC_ADDR, Fld.HOP_CH_STAT_CAUSE, Fld.HOP_CH_STAT_DESC_DONE,
      Fld.HOP_CH_STAT_STATE])
  | .defaultTargetAccess .. =>
      some (faultFields ++ [Fld.CTRL_DEFAULT_ERR_ADDR, Fld.CTRL_DEFAULT_ERR_MASTER, Fld.CTRL_DEFAULT_ERR_WRITE])
  | .railOutOfTolerance .. => some (faultFields ++ [Fld.PWR_RAIL_STAT_OK, Fld.PWR_RAIL_STAT_WAS_OUT])
  | .railRestored .. => some [Fld.PWR_RAIL_STAT_OK]
  | .mainRailCollapse .. => some (faultFields ++ refFields ++ [Fld.PWR_RAIL_STAT_OK, Fld.PWR_RAIL_STAT_WAS_OUT])
  | .tempSensorsSample .. => some (faultFields ++ [Fld.PWR_TEMP_PEAK_TJ, Fld.PWR_TEMP_SENSOR, Fld.PWR_TEMP_TJ])
  | .prbsCheckerLock .. | .prbsCheckerReseed .. => some [Fld.IZL_PRBS_CTL_CHK_LOCK, Fld.IZL_PRBS_ERR_CNT]
  | .remoteFaultReceived .. =>
      some (faultFields ++ [Fld.ETH_PORT_STAT_REMOTE_FAULT, Fld.TSVC_CNT_TXTS_LOST_CNT, Fld.TSVC_TXTS_STAT_OVF])
  | .remoteFaultEnded .. => some [Fld.ETH_PORT_STAT_REMOTE_FAULT]
  | .channelLockAcquired .. =>
      some [Fld.GNSS_CH_STAT_CN0, Fld.GNSS_CH_STAT_EXCLUDED, Fld.GNSS_CH_STAT_PRN, Fld.GNSS_CH_STAT_SIG,
      Fld.GNSS_CH_STAT_STATE, Fld.GNSS_STAT_LOCKED, Fld.GNSS_STAT_STATE]

/-- The time that a command takes: what has passed since the command before it (log entry 1, DESIGN CHOICE). -/
def Instr.dt (c : Instr) : Nat :=
  match c with
  | .cellarNAsserted dt .. | .cellarEnter dt .. | .cellarEntryIsolated dt .. | .cellarNDeasserted dt ..
    | .resetNAsserted dt .. | .resetNDeasserted dt .. | .keepAlivePorRelease dt .. | .flashInitDone dt ..
    | .swapStepDone dt .. | .startVerifyDone dt .. | .configApplied dt .. | .hbmTrained dt .. | .stage6End dt ..
    | .enterService dt .. | .hemMashSilent dt .. | .islandClockLost dt .. | .islandClockReturn dt .. | .csOpen dt ..
    | .stage dt .. | .arm dt .. | .prepare dt .. | .commit dt .. | .cancel dt .. | .csRelease dt .. | .csRead dt ..
    | .csDistributionDone dt .. | .csEntryInShadow dt .. | .armTimeReached dt .. | .prepareDeadline dt ..
    | .clockLaneQualified dt .. | .adaptDone dt .. | .bitSlipPosition dt .. | .deskewDone dt .. | .verifyDone dt ..
    | .retrain dt .. | .autoRetrainRetry dt .. | .bundleEnable dt .. | .txAlignmentMarker dt .. | .alignmentMarker dt ..
    | .markerMissing dt .. | .interpolatorLimit dt .. | .fill dt .. | .lightIdleEntry dt .. | .deepIdleEntry dt ..
    | .idleReq dt .. | .idleAutoTimeout dt .. | .txIdleExit dt .. | .exitBurstDelimiter dt .. | .wakeFailure dt ..
    | .fwdClockStop dt .. | .fwdClockGlitch dt .. | .fwdClockRateChange dt .. | .fwdClockRequalified dt ..
    | .idleCell dt .. | .essenceCell dt .. | .ancillaryCell dt .. | .echoCell dt .. | .stampCell dt ..
    | .familyCellRx dt .. | .managementSideCell dt .. | .laneTestCell dt .. | .signatureCell dt ..
    | .sourceLostTimeout dt .. | .warpCellCheckFail dt .. | .familyCellTx dt .. | .launchCellTx dt .. | .echoCellTx dt ..
    | .signatureCellTx dt .. | .ethFrameBad dt .. | .unmatchedFrame dt .. | .pauseFrame dt .. | .pauseExpire dt ..
    | .pauseWatchdog dt .. | .pauseIgnoreEnd dt .. | .arpRequest dt .. | .icmpEchoRequest dt .. | .st211020Packet dt ..
    | .st211022Packet dt .. | .st211030Packet dt .. | .st211031Packet dt .. | .st211040Packet dt ..
    | .flowLostTimeout dt .. | .audioFlowLostTimeout dt .. | .flowEnable dt .. | .ethLossOfSignal dt ..
    | .ethLinkGlitch dt .. | .ethRateChange dt .. | .ethLinkUp dt .. | .dstRouteWrite dt .. | .seamGuardOpen dt ..
    | .seamSwitchingInstant dt .. | .seamSnapshotTimeout dt .. | .dstFrameLaunch dt .. | .dstLineBoundary dt ..
    | .freezeExpire dt .. | .plyProxyComplete dt .. | .caskCorrectedError dt .. | .caskUncorrectableError dt ..
    | .pageRetireDone dt .. | .surfAlloc dt .. | .surfFree dt .. | .bulkWrite dt .. | .bulkRead dt .. | .headEnable dt ..
    | .headDisable dt .. | .headGuardOpen dt .. | .headFrameStart dt .. | .transitionFrameEnd dt .. | .headUnderrun dt ..
    | .apronUnderrun dt .. | .headFrameEnd dt .. | .sigLearn dt .. | .apronFieldWrite dt .. | .apronFieldApply dt ..
    | .apronNAsserted dt .. | .apronForceBegin dt .. | .apronNDeasserted dt .. | .mashSampleInstant dt ..
    | .engSwapRequest dt .. | .engHoldWrite dt .. | .zcTimeout dt .. | .faderRampEnd dt .. | .unlockHoldExpire dt ..
    | .portEnable dt .. | .portDisable dt .. | .prerollDone dt .. | .stopDone dt .. | .frameSync dt .. | .maskLoWrite dt ..
    | .maskHiWrite dt .. | .portClockStop dt .. | .portClockGlitch dt .. | .portRateChange dt ..
    | .portClockQualified dt .. | .frameEpoch dt .. | .kilnSecond dt .. | .evtInEdge dt .. | .evtCapRead dt ..
    | .nowRead dt .. | .lowerWordRead dt .. | .ppsInPulse dt .. | .vrefInPulse dt .. | .pulseTimeout dt ..
    | .freqInGlitch dt .. | .freqInStop dt .. | .freqInRateChange dt .. | .refQualified dt .. | .selCtlWrite dt ..
    | .refOrderWrite dt .. | .kilnStep dt .. | .kilnTimeSet dt .. | .slewDone dt .. | .dacUpdate dt .. | .tempRead dt ..
    | .tempSensorTimeout dt .. | .modelSave dt .. | .modelValid dt .. | .oscGlitch dt .. | .oscStop dt ..
    | .oscRateChange dt .. | .oscDrift dt .. | .oscRestore dt .. | .xoInStop dt .. | .timeOutPulse dt ..
    | .timeOutPulseEnd dt .. | .clkOutAlign dt .. | .timeSetGo dt .. | .startWaitExpire dt .. | .gnssClockStop dt ..
    | .gnssClockGlitch dt .. | .gnssClockRateChange dt .. | .gnssClockRequalified dt .. | .gnssSearchPass dt ..
    | .hotSearchTimeout dt .. | .channelLockLoss dt .. | .navDataDecoded dt .. | .measurementEpoch dt ..
    | .gnssSolution dt .. | .posWrite dt .. | .posModeWrite dt .. | .baselineLearnt dt .. | .selftest dt ..
    | .selftestDone dt .. | .gnssBurst dt .. | .gnssNavRefresh dt .. | .syncTx dt .. | .followUpTx dt ..
    | .announceTx dt .. | .syncMetadataTx dt .. | .grantDue dt .. | .grantExpire dt .. | .delayReq dt .. | .sync dt ..
    | .followUp dt .. | .delayResp dt .. | .announce dt .. | .clientDelayReqTx dt .. | .announceReceiptTimeout dt ..
    | .exchangeTimeout dt .. | .requestUnicastTransmission dt .. | .cancelUnicastTransmission dt ..
    | .managementMessage dt .. | .pdelayMessage dt .. | .ntpRequest dt .. | .ntsRequest dt .. | .leapSecond dt ..
    | .sessRead dt .. | .sessWrite dt .. | .sessInvalidate dt .. | .keyLoad dt .. | .ntsMkeyWrite dt ..
    | .ptpRoleWrite dt .. | .inject dt .. | .injectedFrameSent dt .. | .txtsRead dt .. | .renewTx dt .. | .renew dt ..
    | .ack dt .. | .leaseInEdge dt .. | .leaseConfirmTimeout dt .. | .claimTimeout dt .. | .noneWaitTimeout dt ..
    | .release dt .. | .handover dt .. | .request dt .. | .propose dt .. | .accept dt .. | .refuse dt ..
    | .handoverAcceptDeadline dt .. | .handoverTime dt .. | .holdoffExpire dt .. | .healthTx dt .. | .health dt ..
    | .twinHealthTimeout dt .. | .mirror dt .. | .rtpSeqMirrorTx dt .. | .csReady dt .. | .mantleEnWrite dt ..
    | .standingClear dt .. | .fenceCmdFence dt .. | .fenceCmdRelease dt .. | .faultPulseEnd dt .. | .faultHoldWrite dt ..
    | .logAck dt .. | .logRetry dt .. | .hcpOpen dt .. | .hcpClose dt .. | .hcpNop dt .. | .hcpRead dt .. | .hcpWrite dt ..
    | .registerWrite dt .. | .rcCounterRead dt .. | .snapshot dt .. | .snapshotCapture dt .. | .snapRead dt ..
    | .snapFree dt .. | .subscribe dt .. | .eventAck dt .. | .eventResend dt .. | .restart dt ..
    | .sessionPendingTimeout dt .. | .sessionIdleTimeout dt .. | .slotDisable dt .. | .imageWrite dt .. | .imageEnd dt ..
    | .imageVerifyDone dt .. | .imageAbort dt .. | .imageStatus dt .. | .imageRelay dt .. | .relayOffer dt ..
    | .relayWant dt .. | .relayData dt .. | .relayAck dt .. | .relayDone dt .. | .relayDecline dt .. | .relayTimeout dt ..
    | .trialConfirmWrite dt .. | .trialConfirmed dt .. | .trialReject dt .. | .trialWindowExpire dt .. | .hopperGo dt ..
    | .hopperStop dt .. | .descriptorFetched dt .. | .readBeatReturn dt .. | .writeBeatResponse dt ..
    | .descriptorWriteBack dt .. | .defaultTargetAccess dt .. | .crcStart dt .. | .crcFeed dt .. | .crcValueRestore dt ..
    | .railOutOfTolerance dt .. | .railRestored dt .. | .mainRailCollapse dt .. | .keepRailCollapse dt ..
    | .tempSensorsSample dt .. | .uartTxWrite dt .. | .uartRxRead dt .. | .uartByteReceived dt .. | .prbsCheckerLock dt ..
    | .prbsCheckerReseed dt .. | .remoteFaultReceived dt .. | .remoteFaultEnded dt .. | .hemLayerDrop dt ..
    | .xoInReturn dt .. | .freqInReturn dt .. | .channelLockAcquired dt .. | .vatCorrectedError dt ..
    | .vatUncorrectableError dt .. | .mashParityFault dt .. | .controlCoreWatchdog dt .. | .crossingFifoOverflow dt ..
    | .ownerSlotProgram dt .. | .ownerSlotRevoke dt .. => dt

/-- Whether a command is one of the keep-alive island (01_architecture R36, R40), which goes on while the other islands are held in reset. -/
def Instr.inKeep (c : Instr) : Bool :=
  match c with
  | .baselineLearnt .. | .cellarEntryIsolated .. | .cellarNAsserted .. | .cellarNDeasserted .. | .channelLockAcquired ..
    | .channelLockLoss .. | .clkOutAlign .. | .dacUpdate .. | .evtInEdge .. | .frameEpoch .. | .freqInGlitch ..
    | .freqInRateChange .. | .freqInReturn .. | .freqInStop .. | .gnssBurst .. | .gnssClockGlitch ..
    | .gnssClockRateChange .. | .gnssClockRequalified .. | .gnssClockStop .. | .gnssNavRefresh .. | .gnssSearchPass ..
    | .gnssSolution .. | .hotSearchTimeout .. | .kilnSecond .. | .kilnStep .. | .kilnTimeSet .. | .leapSecond ..
    | .mainRailCollapse .. | .measurementEpoch .. | .modelSave .. | .modelValid .. | .navDataDecoded .. | .oscDrift ..
    | .oscGlitch .. | .oscRateChange .. | .oscRestore .. | .oscStop .. | .ppsInPulse .. | .pulseTimeout ..
    | .railOutOfTolerance .. | .railRestored .. | .refQualified .. | .resetNAsserted .. | .resetNDeasserted ..
    | .selftestDone .. | .slewDone .. | .startWaitExpire .. | .tempRead .. | .tempSensorTimeout .. | .timeOutPulse ..
    | .timeOutPulseEnd .. | .vrefInPulse .. | .xoInReturn .. | .xoInStop .. | .keepAlivePorRelease ..
    | .keepRailCollapse .. => true
  | .cellarEnter .. | .flashInitDone .. | .swapStepDone .. | .startVerifyDone .. | .configApplied .. | .hbmTrained ..
    | .stage6End .. | .enterService .. | .hemMashSilent .. | .islandClockLost .. | .islandClockReturn .. | .csOpen ..
    | .stage .. | .arm .. | .prepare .. | .commit .. | .cancel .. | .csRelease .. | .csRead .. | .csDistributionDone ..
    | .csEntryInShadow .. | .armTimeReached .. | .prepareDeadline .. | .clockLaneQualified .. | .adaptDone ..
    | .bitSlipPosition .. | .deskewDone .. | .verifyDone .. | .retrain .. | .autoRetrainRetry .. | .bundleEnable ..
    | .txAlignmentMarker .. | .alignmentMarker .. | .markerMissing .. | .interpolatorLimit .. | .fill ..
    | .lightIdleEntry .. | .deepIdleEntry .. | .idleReq .. | .idleAutoTimeout .. | .txIdleExit .. | .exitBurstDelimiter ..
    | .wakeFailure .. | .fwdClockStop .. | .fwdClockGlitch .. | .fwdClockRateChange .. | .fwdClockRequalified ..
    | .idleCell .. | .essenceCell .. | .ancillaryCell .. | .echoCell .. | .stampCell .. | .familyCellRx ..
    | .managementSideCell .. | .laneTestCell .. | .signatureCell .. | .sourceLostTimeout .. | .warpCellCheckFail ..
    | .familyCellTx .. | .launchCellTx .. | .echoCellTx .. | .signatureCellTx .. | .ethFrameBad .. | .unmatchedFrame ..
    | .pauseFrame .. | .pauseExpire .. | .pauseWatchdog .. | .pauseIgnoreEnd .. | .arpRequest .. | .icmpEchoRequest ..
    | .st211020Packet .. | .st211022Packet .. | .st211030Packet .. | .st211031Packet .. | .st211040Packet ..
    | .flowLostTimeout .. | .audioFlowLostTimeout .. | .flowEnable .. | .ethLossOfSignal .. | .ethLinkGlitch ..
    | .ethRateChange .. | .ethLinkUp .. | .dstRouteWrite .. | .seamGuardOpen .. | .seamSwitchingInstant ..
    | .seamSnapshotTimeout .. | .dstFrameLaunch .. | .dstLineBoundary .. | .freezeExpire .. | .plyProxyComplete ..
    | .caskCorrectedError .. | .caskUncorrectableError .. | .pageRetireDone .. | .surfAlloc .. | .surfFree ..
    | .bulkWrite .. | .bulkRead .. | .headEnable .. | .headDisable .. | .headGuardOpen .. | .headFrameStart ..
    | .transitionFrameEnd .. | .headUnderrun .. | .apronUnderrun .. | .headFrameEnd .. | .sigLearn .. | .apronFieldWrite ..
    | .apronFieldApply .. | .apronNAsserted .. | .apronForceBegin .. | .apronNDeasserted .. | .mashSampleInstant ..
    | .engSwapRequest .. | .engHoldWrite .. | .zcTimeout .. | .faderRampEnd .. | .unlockHoldExpire .. | .portEnable ..
    | .portDisable .. | .prerollDone .. | .stopDone .. | .frameSync .. | .maskLoWrite .. | .maskHiWrite ..
    | .portClockStop .. | .portClockGlitch .. | .portRateChange .. | .portClockQualified .. | .evtCapRead .. | .nowRead ..
    | .lowerWordRead .. | .selCtlWrite .. | .refOrderWrite .. | .timeSetGo .. | .posWrite .. | .posModeWrite ..
    | .selftest .. | .syncTx .. | .followUpTx .. | .announceTx .. | .syncMetadataTx .. | .grantDue .. | .grantExpire ..
    | .delayReq .. | .sync .. | .followUp .. | .delayResp .. | .announce .. | .clientDelayReqTx ..
    | .announceReceiptTimeout .. | .exchangeTimeout .. | .requestUnicastTransmission .. | .cancelUnicastTransmission ..
    | .managementMessage .. | .pdelayMessage .. | .ntpRequest .. | .ntsRequest .. | .sessRead .. | .sessWrite ..
    | .sessInvalidate .. | .keyLoad .. | .ntsMkeyWrite .. | .ptpRoleWrite .. | .inject .. | .injectedFrameSent ..
    | .txtsRead .. | .renewTx .. | .renew .. | .ack .. | .leaseInEdge .. | .leaseConfirmTimeout .. | .claimTimeout ..
    | .noneWaitTimeout .. | .release .. | .handover .. | .request .. | .propose .. | .accept .. | .refuse ..
    | .handoverAcceptDeadline .. | .handoverTime .. | .holdoffExpire .. | .healthTx .. | .health .. | .twinHealthTimeout ..
    | .mirror .. | .rtpSeqMirrorTx .. | .csReady .. | .mantleEnWrite .. | .standingClear .. | .fenceCmdFence ..
    | .fenceCmdRelease .. | .faultPulseEnd .. | .faultHoldWrite .. | .logAck .. | .logRetry .. | .hcpOpen .. | .hcpClose ..
    | .hcpNop .. | .hcpRead .. | .hcpWrite .. | .registerWrite .. | .rcCounterRead .. | .snapshot .. | .snapshotCapture ..
    | .snapRead .. | .snapFree .. | .subscribe .. | .eventAck .. | .eventResend .. | .restart ..
    | .sessionPendingTimeout .. | .sessionIdleTimeout .. | .slotDisable .. | .imageWrite .. | .imageEnd ..
    | .imageVerifyDone .. | .imageAbort .. | .imageStatus .. | .imageRelay .. | .relayOffer .. | .relayWant ..
    | .relayData .. | .relayAck .. | .relayDone .. | .relayDecline .. | .relayTimeout .. | .trialConfirmWrite ..
    | .trialConfirmed .. | .trialReject .. | .trialWindowExpire .. | .hopperGo .. | .hopperStop .. | .descriptorFetched ..
    | .readBeatReturn .. | .writeBeatResponse .. | .descriptorWriteBack .. | .defaultTargetAccess .. | .crcStart ..
    | .crcFeed .. | .crcValueRestore .. | .tempSensorsSample .. | .uartTxWrite .. | .uartRxRead .. | .uartByteReceived ..
    | .prbsCheckerLock .. | .prbsCheckerReseed .. | .remoteFaultReceived .. | .remoteFaultEnded .. | .hemLayerDrop ..
    | .vatCorrectedError .. | .vatUncorrectableError .. | .mashParityFault .. | .controlCoreWatchdog ..
    | .crossingFifoOverflow .. | .ownerSlotProgram .. | .ownerSlotRevoke .. => false

end Sys2Proof
end

