-- ==== Sys2Proof/Certificates/Slice0/Obligations.lean ====
section
/-! DEFINITION. The statements for the provers. A statement about a command says that it completes: exec answers a next
state, of which the clause's facts hold. -/

set_option autoImplicit false

open Sys2Proof Sys2Proof.Machine

/-- A step takes the command at the front of the queue and runs it with the queue's rest, and on an empty queue it changes
nothing. That the block idles on an empty queue is the model's choice (log entry 3). -/
def Obligations.StepRunsFront : Prop :=
  (∀ (s : State) (c : Instr) (rest : List Instr), step { s with pending := c :: rest } = exec c { s with pending := rest }) ∧
  (∀ s : State, s.pending = [] → step s = .next s)

/-- Every field reads its reset value in the reset state, and every image field 0, but for the stage and the count of starts.
Where the spec gives a field no reset value, that it is 0 is the model's choice (log entry 62). -/
def Obligations.ResetValues : Prop :=
  (∀ (f : Field) (i : Nat), f.at i ≠ Fld.BOOT_STAT_STAGE.at 0 → f.at i ≠ Fld.BOOT_START_COUNT_COUNT.at 0 →
    State.reset.rd f i = f.init) ∧
  ((Reg.all.flatMap fun r => r.fields).all fun f => f.form != .image || f.init == 0) = true ∧
  State.reset.mode = .startUp ∧ State.reset.rd Fld.BOOT_STAT_STAGE 0 = 1 ∧ State.reset.rd Fld.KILN_STAT_STATE 0 = 0 ∧
  State.reset.pending = [] ∧ State.reset.mem = []

/-- Memory has its canonical form right after reset. -/
def Obligations.MemoryFormAtReset : Prop :=
  Memory.wf State.reset.mem = true

/-- From every state whose memory has its canonical form, a step that answers a next state leaves it in that form, so that equal
memories stay equal data. -/
def Obligations.StepKeepsMemoryForm : Prop :=
  ∀ s t : State, Memory.wf s.mem = true → step s = .next t → Memory.wf t.mem = true

/-- Every command answers a next state from every state. It leaves the queue alone, and every part of the state that is not on its
list is as it was: memory, the records of each unit, change sets, sessions, faults and the keep-alive island's power-on reset
among them. -/
def Obligations.CommandFrames : Prop :=
  ∀ (c : Instr) (s : State), ∃ t, exec c s = .next t ∧ t.pending = s.pending ∧ t.but c.parts = s.but c.parts

/-- Where a command has a list of the register fields it may write, every field off the list, and off the counters that following
the change sets may move, reads in every instance as before. -/
def Obligations.RegisterFrames : Prop :=
  ∀ (c : Instr) (s t : State) (l : List Field) (f : Field) (i : Nat),
    exec c s = .next t → c.fields = some l → f.off (l ++ settleFields) → t.rd f i = s.rd f i

/-- While the islands outside the keep-alive island are isolated or held in reset, their commands only let time pass; so do those
of the keep-alive island during its power-on reset, but for the two that begin and end it. -/
def Obligations.IslandsHeld : Prop :=
  ∀ (c : Instr) (s : State),
    (s.iso = true → c.inKeep = false → exec c s = .next (s.start c.dt)) ∧
    (s.por = true → c.inKeep = true → c ≠ .keepAlivePorRelease c.dt → c ≠ .keepRailCollapse c.dt →
      exec c s = .next (s.start c.dt))

/-- Every command but the two that stand for JTAG leaves the owner fuses as they are. Programming gives a slot that holds no
digest its digest, revoking sets its revoke bit, and a revoked slot stays revoked. -/
def Obligations.OwnerFuses : Prop :=
  (∀ (c : Instr) (s t : State), exec c s = .next t → (∀ dt k d, c ≠ .ownerSlotProgram dt k d) →
    (∀ dt k, c ≠ .ownerSlotRevoke dt k) → t.boot.fuses = s.boot.fuses) ∧
  (∀ (c : Instr) (s t : State) (k : Nat), exec c s = .next t → (s.fuse k).2 = true → (t.fuse k).2 = true) ∧
  (∀ (s : State) (dt : Nat) (k : Fin 4) (d : BitVec 384), s.runs → (s.fuse k).1 = none →
    Completes (.ownerSlotProgram dt k d) s fun t => t.fuse k = (some d.toNat, (s.fuse k).2)) ∧
  (∀ (s : State) (dt : Nat) (k : Fin 4), s.runs →
    Completes (.ownerSlotRevoke dt k) s fun t => t.fuse k = ((s.fuse k).1, true))

/-- A WRITE to a register with no writable field is refused with ERR_ACCESS and changes nothing. Time and what is sent are the
model's (log entries 1 and 2). -/
def Obligations.NoWritableField : Prop :=
  ∀ (s : State) (dt : Nat) (h : HcpReq) (k : Nat) (r : Reg) (i : Nat) (hi : Bool) (v mask : Nat), s.runs → (s.start dt).asks h
    none true k ∧ (RegAddr.named r i hi).loc = some (.reg r i hi) ∧ s.rejected (.reg r i hi) = false → (r.fields.all fun f =>
    f.acc == .ro || f.acc == .rc) = true →
      Completes (.hcpWrite dt h [wordOf r i hi v mask]) s fun t =>
        s.reply h k 0x11 .errAccess (beBytes 2 0) ∈ t.out ∧
        Framed dt s t [(Fld.ETH_CNT_RX_FRAMES_CNT, ctlPort h.ctl1), (Fld.ETH_CNT_RX_OCTETS_CNT, ctlPort h.ctl1)] [.hcp]

/-- OPEN counts the slot's sessions and answers with the new count as the identifier; at the counter's end it is refused. Time and
what is sent are the model's (log entries 1 and 2). -/
def Obligations.SessionCounter : Prop :=
  (∀ (s : State) (dt : Nat) (h : HcpReq) (k : Nat), s.runs → h.session = 0 ∧ (s.start dt).gets h ∧ s.slotOn h.slot = true ∧
     h.tagOk = true → 0 < h.seq.toNat ∧ h.seq.toNat < 2 ^ 63 ∧ h.seq.toNat ∉ tget [] s.hcp.opens h.slot.val → h.badOp = false
     ∧ h.short = false ∧ h.resp = false → s.freeSess h.slot = some k ∧ s.rd Fld.HCP_SLOT_OPENS_COUNT h.slot < 2 ^ 32 - 1 →
       let n := s.rd Fld.HCP_SLOT_OPENS_COUNT h.slot + 1
       Completes (.hcpOpen dt h) s fun t =>
         (t.sessOf k).active = true ∧ (t.sessOf k).pending = true ∧ (t.sessOf k).slot = h.slot ∧ (t.sessOf k).id = n ∧
         (t.sessOf k).subs = 0 ∧ (t.sessOf k).openedAt = s.up + dt ∧
         t.rd Fld.HCP_SLOT_OPENS_COUNT h.slot = n ∧
         tget [] t.hcp.opens h.slot.val = (h.seq.toNat :: tget [] s.hcp.opens h.slot.val).take 1024 ∧
         s.framed (ctlPort h.ctl1) (.hcpResp h.ctl1 h.src h.slot.val false 1 (h.seq.toNat + 2 ^ 63) h.session.toNat h.reqId.toNat .ok
           (beBytes 4 n ++ beBytes 2 (s.bodyMax h.ctl1) ++ kilnBytes (s.start dt).now)) ∈ t.out) ∧
  (∀ (s : State) (dt : Nat) (h : HcpReq), s.runs → h.session = 0 ∧ (s.start dt).gets h ∧ s.slotOn h.slot = true ∧ h.tagOk =
     true → 0 < h.seq.toNat ∧ h.seq.toNat < 2 ^ 63 ∧ h.seq.toNat ∉ tget [] s.hcp.opens h.slot.val → h.badOp = false ∧ h.short
     = false ∧ h.resp = false → s.rd Fld.HCP_SLOT_OPENS_COUNT h.slot = 2 ^ 32 - 1 →
       Completes (.hcpOpen dt h) s fun t =>
         t.rd Fld.HCP_SLOT_OPENS_COUNT h.slot = 2 ^ 32 - 1 ∧
         s.framed (ctlPort h.ctl1) (.hcpResp h.ctl1 h.src h.slot.val false 1 (h.seq.toNat + 2 ^ 63) h.session.toNat h.reqId.toNat
           .errFull []) ∈ t.out)

/-- From equal states of the two ends, a destuffer takes the line bits that a stuffer makes of any bits back to those bits, finds
no stuff violation and ends in the stuffer's state, and a descrambler undoes a scrambler and ends in its state. A descrambler
takes up any history within 58 bits. -/
def Obligations.LineCode : Prop :=
  (∀ (n run : Nat) (last : Bool) (bits : List Bool),
    destuff n false run last (stuff n run last bits).1 =
      ((bits, 0), (false, (stuff n run last bits).2.1, (stuff n run last bits).2.2))) ∧
  (∀ (h : Nat) (bits : List Bool), descramble h (scramble h bits).1 = (bits, (scramble h bits).2)) ∧
  (∀ (h g : Nat) (bits : List Bool), (descramble g (scramble h bits).1).1.drop 58 = bits.drop 58)

/-- Training a bundle: clock, adaptation, bit slip, deskew and verification. Time, what is sent, and other choices of the model:
log entries 1, 2, 24, 128 and 129. -/
def Obligations.LaneTraining : Prop :=
  (∀ (s : State) (dt : Nat) (b : Fin 33), s.runs → s.link b = 1 → (s.bndOf b).rateHold = false →
       Completes (.clockLaneQualified dt b) s fun t =>
         t.link b = 2 ∧
         (t.bndOf b).clkOk = true ∧
         Framed dt s t [(Fld.IZL_LINK_STAT_STATE, b)] [.bnd]) ∧
  (∀ (s : State) (dt : Nat) (b : Fin 33), s.runs → s.link b = 2 →
       Completes (.adaptDone dt b) s fun t =>
         t.link b = 3 ∧
         (t.bndOf b).pos = 0 ∧ (t.bndOf b).found = [] ∧ (t.bndOf b).posAt = s.up + dt ∧
         (∀ l : Fin 8, t.rd Fld.IZL_LANE_STAT_SEEN (laneIx b l) = 0 ∧ t.rd Fld.IZL_LANE_STAT_PHASE (laneIx b l) = 0)) ∧
  (∀ (s : State) (dt : Nat) (b : Fin 33), s.runs → s.link b = 3 → (s.bndOf b).posAt + us 11 ≤ s.up + dt → (s.bndOf b).found =
     [] → (∀ l : Fin 8, s.on Fld.IZL_LANE_STAT_SEEN (laneIx b l) = true ∧ s.on Fld.IZL_LANE_STAT_FAILED (laneIx b l) = false)
     →
       Completes (.bitSlipPosition dt b) s fun t =>
         t.link b = 4 ∧
         (∀ l : Fin 8, t.laneOk b l = true)) ∧
  (∀ (s : State) (dt : Nat) (b : Fin 33) (l : Fin 8), s.runs → s.link b = 3 → (s.bndOf b).posAt + us 11 ≤ s.up + dt → (s.bndOf
     b).pos < 63 → (s.bndOf b).found = [] → s.on Fld.IZL_LANE_STAT_SEEN (laneIx b l) = false →
       Completes (.bitSlipPosition dt b) s fun t =>
         t.link b = 3 ∧
         t.rd Fld.IZL_LANE_STAT_SLIP (laneIx b l) = (s.rd Fld.IZL_LANE_STAT_SLIP (laneIx b l) + 1) % 64 ∧
         (t.bndOf b).pos = (s.bndOf b).pos + 1) ∧
  (∀ (s : State) (dt : Nat) (b : Fin 33) (arrival : Vector Nat 8) (last : Nat), s.runs → s.link b = 4 → (s.bndOf b).deskewed =
     false ∧ (s.bndOf b).posAt + 2 * markerPeriod ≤ s.up + dt → (∀ l : Fin 8, s.laneOk b l = true) → (∀ l : Fin 8,
     arrival.toList.getD l 0 ≤ last ∧ last ≤ arrival.toList.getD l 0 + 15) → (∃ l : Fin 8, arrival.toList.getD l 0 = last) →
       Completes (.deskewDone dt b arrival) s fun t =>
         (t.bndOf b).deskewed = true ∧
         (∀ l : Fin 8, t.rd Fld.IZL_LANE_STAT_DESKEW (laneIx b l) = last - arrival.toList.getD l 0)) ∧
  (∀ (s : State) (dt : Nat) (b : Fin 33), s.runs → s.link b = 4 → (s.bndOf b).deskewed = true ∧ (s.bndOf b).posAt + 4 *
     markerPeriod ≤ s.up + dt → (∀ l : Fin 8, s.laneOk b l = true ∧ 4 ≤ ((s.bndOf b).rxLane l).hits) →
       Completes (.verifyDone dt b) s fun t =>
         t.link b = 5 ∧
         t.stands 1 b = false ∧
         t.rd Fld.IZL_LINK_CTL_RETRAIN b = 0 ∧
         t.rd Fld.CELL_LINK_INFO_VALID b = 0 ∧ t.rd Fld.CELL_LINK_DELAY_DELAY b = 0) ∧
  (∀ (s : State) (dt : Nat) (b : Fin 33), s.runs → s.link b = 7 → s.on Fld.IZL_LINK_CTL_AUTO_RETRAIN b = true → s.on
     Fld.IZL_LINK_CTL_ENABLE b = true → (s.bndOf b).clkOk = true → (s.bndOf b).retryAt ≤ s.up + dt →
       Completes (.autoRetrainRetry dt b) s fun t =>
         t.link b = 1 ∧
         t.rd Fld.IZL_LINK_STAT_LANES_OK b = 0 ∧
         (∀ l : Fin 8, t.rd Fld.IZL_LANE_STAT_FAILED (laneIx b l) = 0 ∧ t.rd Fld.IZL_LANE_STAT_DESKEW (laneIx b l) = 0) ∧
         (t.bndOf b).retryAt = s.up + dt + ms 10)

/-- Alignment markers, missing markers, interpolator limits and fill words. Time, what is sent, and other choices of the model:
log entries 1, 2, 127, 128, 132 and 133. -/
def Obligations.LaneMarkers : Prop :=
  (∀ (s : State) (dt : Nat) (b : Fin 33), s.runs → s.txRuns b = true → s.on Fld.IZL_LINK_STAT_TX_7LANE b = false ∧ (s.txOf
     b).seven = none →
       Completes (.txAlignmentMarker dt b) s fun t =>
         (t.txOf b).count = ((s.txOf b).count + 1) % 16 ∧
         (∀ l : Fin 8, Output.laneWord b l (controlWord b 0 l (s.rd Fld.IZL_LINK_STAT_LANES_OK b) (s.txOf b).count) ∈ t.out) ∧
         Framed dt s t [] []) ∧
  (∀ (s : State) (dt : Nat) (b : Fin 33) (l : Fin 8), s.runs → s.txRuns b = true → s.on Fld.IZL_LINK_STAT_TX_7LANE b = false ∧
     (s.txOf b).seven = some l.val →
       Completes (.txAlignmentMarker dt b) s fun t =>
         t.rd Fld.IZL_LINK_STAT_TX_7LANE b = 1 ∧ t.rd Fld.IZL_LINK_STAT_TX_OMIT b = l ∧
         Output.laneIdle b l ∈ t.out ∧
         (∀ i : Fin 8, i ≠ l → Output.laneWord b i (controlWord b 0 i (s.rd Fld.IZL_LINK_STAT_LANES_OK b) (128 + 16 * l.val + (s.txOf
           b).count)) ∈ t.out)) ∧
  (∀ (s : State) (dt : Nat) (b : Fin 33) (l : Fin 8) (skipped : Nat) (rx : RxWord) (w : List Byte), s.runs → (s.wordIn b l 0
     rx).1 = some w ∧ beAt w 4 1 = b.val ∧ beAt w 5 1 % 16 = l.val → s.link b = 3 → (((s.wordIn b l 0 rx).2.bndOf b).rxLane
     l).viol < 64 →
       Completes (.alignmentMarker dt b l skipped rx) s fun t =>
         t.rd Fld.IZL_LANE_STAT_SEEN (laneIx b l) = 1 ∧
         Framed dt s t [(Fld.IZL_LANE_STAT_SEEN, laneIx b l), (Fld.IZL_CNT_STUFF_VIOL_CNT, b)] [.bnd]) ∧
  (∀ (s : State) (dt : Nat) (b : Fin 33) (l : Fin 8) (skipped : Nat) (rx : RxWord) (w : List Byte) (x : LaneRx), s.runs →
     (s.wordIn b l 0 rx).1 = some w ∧ beAt w 4 1 = b.val ∧ beAt w 5 1 % 16 = l.val → ((s.wordIn b l 0 rx).2.bndOf b).rxLane l
     = x ∧ x.viol < 64 → s.linkUp b = true ∧ s.laneOk b l = true ∧ beAt w 7 1 < 128 → x.got + 8 * skipped = periodBytes ∧
     x.next.all (fun n => n == beAt w 7 1 % 16) = true →
       Completes (.alignmentMarker dt b l skipped rx) s fun t =>
         ((t.bndOf b).rxLane l).next = some ((beAt w 7 1 + 1) % 16) ∧ ((t.bndOf b).rxLane l).miss = 0 ∧ ((t.bndOf b).rxLane l).hits =
           x.hits + 1 ∧ ((t.bndOf b).rxLane l).awake = false ∧ ((t.bndOf b).rxLane l).got = 0 ∧
         t.rd Fld.IZL_LINK_STAT_FAR_MAP b = beAt w 6 1 ∧ (1 ≤ x.hits → t.rd Fld.IZL_LANE_STAT_LOCK (laneIx b l) = 1) ∧
         (t.rd Fld.IZL_LANE_STAT_PHASE (laneIx b l) < 256 ∨ 768 < t.rd Fld.IZL_LANE_STAT_PHASE (laneIx b l)) ∧
         Framed dt s t [(Fld.IZL_LINK_STAT_FAR_MAP, b), (Fld.IZL_LANE_STAT_LOCK, laneIx b l), (Fld.IZL_LANE_STAT_PHASE, laneIx b l),
           (Fld.IZL_CNT_STUFF_VIOL_CNT, b)] [.bnd, .freeCtr]) ∧
  (∀ (s : State) (dt : Nat) (b : Fin 33) (l : Fin 8) (x : LaneRx), s.runs → (s.bndOf b).rxLane l = x ∧ x.discard = false ∧
     x.awake = false ∧ x.viol < 64 ∧ x.miss < 2 → s.linkUp b = true → s.laneOk b l = true → (s.bndOf b).glitch = none →
       Completes (.markerMissing dt b l) s fun t =>
         ((t.bndOf b).rxLane l).miss = x.miss + 1 ∧ ((t.bndOf b).rxLane l).hits = 0 ∧ ((t.bndOf b).rxLane l).got = 0 ∧
         t.rd Fld.IZL_CNT_MARKER_MISS_CNT b = s.counted Fld.IZL_CNT_MARKER_MISS_CNT b 1 ∧
         t.rd Fld.IZL_LANE_STAT_LOCK (laneIx b l) = 0 ∧
         Framed dt s t [(Fld.IZL_CNT_MARKER_MISS_CNT, b), (Fld.IZL_LANE_STAT_LOCK, laneIx b l)] [.bnd]) ∧
  (∀ (s : State) (dt : Nat) (b : Fin 33) (l : Fin 8) (late : Bool), s.runs → s.link b ≠ 0 → s.on Fld.IZL_LANE_STAT_FAILED
     (laneIx b l) = false → (s.bndOf b).clkFaultAt = none →
       Completes (.interpolatorLimit dt b l late) s fun t =>
         (t.rd Fld.IZL_LANE_STAT_PHASE (laneIx b l) = if late then 256 else 768) ∧
         t.rd Fld.IZL_LANE_STAT_FAILED (laneIx b l) = 1 ∧
         t.laneOk b l = false) ∧
  (∀ (s : State) (dt : Nat) (b : Fin 33) (l : Fin 8) (rx : RxWord) (w : List Byte), s.runs → (s.wordIn b l 3 rx).1 = some w ∧
     beAt w 4 1 = b.val ∧ beAt w 5 1 % 16 = l.val →
       Completes (.fill dt b l rx) s fun t =>
         Framed dt s t [(Fld.IZL_CNT_STUFF_VIOL_CNT, b)] [.bnd]) ∧
  (∀ (s : State) (dt : Nat) (b : Fin 33) (l : Fin 8) (rx : RxWord) (w : List Byte), s.runs → (s.wordIn b l 3 rx).1 = some w ∧
     (beAt w 4 1 ≠ b.val ∨ beAt w 5 1 % 16 ≠ l.val) →
       Completes (.fill dt b l rx) s fun t =>
         t.rd Fld.IZL_LINK_STAT_MISWIRE b = 1 ∧
         t.stands 6 b = true)

/-- Electrical idle: entry words, exit bursts, the delimiter and a failed wake. Time, what is sent, and other choices of the
model: log entries 1, 2 and 128. -/
def Obligations.LaneIdle : Prop :=
  (∀ (s : State) (dt : Nat) (b : Fin 33) (l : Fin 8) (rx : RxWord) (w : List Byte), s.runs → (s.wordIn b l 1 rx).1 = some w ∧
     beAt w 4 1 = b.val ∧ beAt w 5 1 % 16 = l.val →
       Completes (.lightIdleEntry dt b l rx) s fun t =>
         ((t.bndOf b).rxLane l).discard = true ∧
         t.rd Fld.IZL_LINK_STAT_RX_IDLE b = 1 ∧
         Framed dt s t [(Fld.IZL_LINK_STAT_RX_IDLE, b), (Fld.IZL_CNT_STUFF_VIOL_CNT, b)] [.bnd]) ∧
  (∀ (s : State) (dt : Nat) (b : Fin 33) (l : Fin 8) (rx : RxWord) (w : List Byte), s.runs → (s.wordIn b l 2 rx).1 = some w ∧
     beAt w 4 1 = b.val ∧ beAt w 5 1 % 16 = l.val →
       Completes (.deepIdleEntry dt b l rx) s fun t =>
         ((t.bndOf b).rxLane l).discard = true ∧
         t.rd Fld.IZL_LINK_STAT_RX_IDLE b = 2 ∧
         Framed dt s t [(Fld.IZL_LINK_STAT_RX_IDLE, b), (Fld.IZL_CNT_STUFF_VIOL_CNT, b)] [.bnd]) ∧
  (∀ (s : State) (dt : Nat) (b : Fin 33), s.runs → s.txRuns b = true → (s.txOf b).lastTx.all (fun t => decide (t + us 1 ≤ s.up
     + dt)) = true → s.on Fld.IZL_LINK_CTL_IDLE_AUTO b = true → s.rd Fld.IZL_LINK_CTL_IDLE_REQ b = 0 →
       Completes (.idleAutoTimeout dt b) s fun t =>
         ((t.txOf b).idleFrom = some (s.up + dt - us 1) ∨ (b = 32 ∧ (t.txOf b).lastTx = some (s.up + dt))) ∧
         Framed dt s t [] []) ∧
  (∀ (s : State) (dt : Nat) (b : Fin 33), s.runs → s.rd Fld.IZL_LINK_STAT_TX_IDLE b ≠ 0 → s.on Fld.IZL_LINK_CTL_ENABLE b =
     true →
       Completes (.txIdleExit dt b) s fun t =>
         t.rd Fld.IZL_LINK_STAT_TX_IDLE b = 0 ∧
         (∀ l ∈ s.txLanes b, Output.lineBits b l (exitBurst (if s.rd Fld.IZL_LINK_STAT_TX_IDLE b = 1 then 120 else 56312)) ∈ t.out) ∧
         (s.rd Fld.IZL_LINK_STAT_TX_IDLE b = 1 ∨ Output.clockLane b true 0 ∈ t.out) ∧
         Framed dt s t [] []) ∧
  (∀ (s : State) (dt : Nat) (b : Fin 33) (l : Fin 8), s.runs → ((s.bndOf b).rxLane l).discard = true →
       Completes (.exitBurstDelimiter dt b l) s fun t =>
         ((t.bndOf b).rxLane l).discard = false ∧ ((t.bndOf b).rxLane l).awake = true ∧
         (t.rd Fld.IZL_LINK_STAT_RX_IDLE b = if ((t.bndOf b).rx.any fun p => p.2.discard) then s.rd Fld.IZL_LINK_STAT_RX_IDLE b else 0) ∧
         Framed dt s t [(Fld.IZL_LINK_STAT_RX_IDLE, b)] [.bnd]) ∧
  (∀ (s : State) (dt : Nat) (b : Fin 33), s.runs → ((s.bndOf b).rx.any fun p => p.2.discard) = true → s.link b ≠ 7 ∧ s.link b
     ≠ 0 →
       Completes (.wakeFailure dt b) s fun t =>
         t.link b = 7 ∧
         t.stands 5 b = true ∧
         t.rd Fld.IZL_CNT_WAKE_FAIL_CNT b = s.counted Fld.IZL_CNT_WAKE_FAIL_CNT b 1)

/-- The forwarded clock's faults, its requalification, and the PRBS checkers. Time, what is sent, and other choices of the model:
log entries 1, 2, 130 and 134. -/
def Obligations.LaneClocks : Prop :=
  (∀ (s : State) (dt : Nat) (b : Fin 33), s.runs → s.link b ≠ 0 ∧ s.link b ≠ 7 → s.rd Fld.IZL_LINK_STAT_RX_IDLE b ≠ 2 ∧
     s.looped b = false →
       Completes (.fwdClockStop dt b) s fun t =>
         t.link b = 7 ∧
         (t.bndOf b).clkOk = false ∧
         t.stands 4 b = true) ∧
  (∀ (s : State) (dt : Nat) (b : Fin 33), s.runs → (s.rd Fld.IZL_LINK_STAT_RX_IDLE b = 2 ∨ s.looped b = true) →
       Completes (.fwdClockStop dt b) s fun t =>
         Framed dt s t [] []) ∧
  (∀ (s : State) (dt : Nat) (b : Fin 33), s.runs → s.link b ≠ 0 ∧ s.looped b = false →
       Completes (.fwdClockGlitch dt b) s fun t =>
         (t.bndOf b).glitch = some 0 ∧ (t.bndOf b).hurt = true ∧
         t.stands 3 b = true ∧
         t.link b = s.link b ∧
         t.rd Fld.IZL_CNT_CLK_GLITCH_CNT b = s.counted Fld.IZL_CNT_CLK_GLITCH_CNT b 1) ∧
  (∀ (s : State) (dt : Nat) (b : Fin 33), s.runs → s.link b ≠ 0 ∧ s.link b ≠ 7 → s.looped b = false →
       Completes (.fwdClockRateChange dt b) s fun t =>
         t.link b = 7 ∧
         (t.bndOf b).rateHold = true ∧ (t.bndOf b).clkOk = false ∧
         t.stands 4 b = true) ∧
  (∀ (s : State) (dt : Nat) (b : Fin 33), s.runs →
       Completes (.fwdClockRequalified dt b) s fun t =>
         (t.bndOf b).rateHold = false ∧ (t.bndOf b).clkOk = true ∧
         Framed dt s t [] [.bnd]) ∧
  (∀ (s : State) (dt : Nat) (b : Fin 33) (l : Fin 8) (rx : List Bool) (p : Bool × Nat × PrbsS), s.runs → s.rd
     Fld.IZL_LINK_CTL_MODE b = 4 ∧ s.on Fld.IZL_LINK_CTL_ENABLE b = true → ((s.bndOf b).rxLane l).prbs.bits (s.rd
     Fld.IZL_PRBS_CTL_POLY b) (bitOf (s.rd Fld.IZL_PRBS_CTL_CHK_LOCK b) l) (rx.map fun y => y ^^ s.on Fld.IZL_PRBS_CTL_INVERT
     b) = p →
       Completes (.prbsCheckerLock dt b l rx) s fun t =>
         bitOf (t.rd Fld.IZL_PRBS_CTL_CHK_LOCK b) l = p.1 ∧
         t.rd Fld.IZL_PRBS_ERR_CNT (laneIx b l) = s.counted Fld.IZL_PRBS_ERR_CNT (laneIx b l) p.2.1 ∧
         Output.lineBits b l ((prbsBits (s.rd Fld.IZL_PRBS_CTL_POLY b) ((s.txOf b).lane l).prbs rx.length).1.map fun y => y ^^ s.on
           Fld.IZL_PRBS_CTL_INVERT b) ∈ t.out ∧
         Framed dt s t [(Fld.IZL_PRBS_CTL_CHK_LOCK, b), (Fld.IZL_PRBS_ERR_CNT, laneIx b l)] [.bnd]) ∧
  (∀ (s : State) (dt : Nat) (b : Fin 33) (l : Fin 8) (rx : List Bool) (p : Bool × Nat × PrbsS), s.runs → s.rd
     Fld.IZL_LINK_CTL_MODE b = 4 ∧ s.on Fld.IZL_LINK_CTL_ENABLE b = true → ((s.bndOf b).rxLane l).prbs.bits (s.rd
     Fld.IZL_PRBS_CTL_POLY b) (bitOf (s.rd Fld.IZL_PRBS_CTL_CHK_LOCK b) l) (rx.map fun y => y ^^ s.on Fld.IZL_PRBS_CTL_INVERT
     b) = p →
       Completes (.prbsCheckerReseed dt b l rx) s fun t =>
         bitOf (t.rd Fld.IZL_PRBS_CTL_CHK_LOCK b) l = p.1 ∧
         t.rd Fld.IZL_PRBS_ERR_CNT (laneIx b l) = s.counted Fld.IZL_PRBS_ERR_CNT (laneIx b l) p.2.1 ∧
         Framed dt s t [(Fld.IZL_PRBS_CTL_CHK_LOCK, b), (Fld.IZL_PRBS_ERR_CNT, laneIx b l)] [.bnd])

/-- Cells on a bundle: idle, essence, echo, stamp and management cells, and those that fail a check. Time, what is sent, and other
choices of the model: log entries 1, 2, 26, 76, 128, 136, 137, 139 and 140. -/
def Obligations.CellReception : Prop :=
  (∀ (s : State) (dt : Nat) (b : Fin 33) (rx : RxCell) (cell : List Byte) (h : Hdr), s.runs → s.arrives b rx cell h ∧ h.type =
     0 ∧ cellCrc h.slot 0 (cell.take 268) = beAt cell 268 4 →
       Completes (.idleCell dt b rx) s fun t =>
         t.rd Fld.CELL_LINK_INFO_FAR_EPOCH b = h.epoch % 256 ∧
         Framed dt s t [(Fld.CELL_LINK_INFO_FAR_EPOCH, b), (Fld.IZL_CNT_STUFF_VIOL_CNT, b)] [.bnd]) ∧
  (∀ (s : State) (dt : Nat) (b : Fin 33) (rx : RxCell) (cell : List Byte) (h : Hdr), s.runs → s.arrives b rx cell h ∧ h.type ≠
     0 → cellCrc h.slot (s.expects b h) (cell.take 268) ≠ beAt cell 268 4 → cellCrc h.slot h.seq (cell.take 268) ≠ beAt cell
     268 4 →
       Completes (.idleCell dt b rx) s fun t =>
         t.rd Fld.CELL_CNT_CRC_ERR_CNT b = s.counted Fld.CELL_CNT_CRC_ERR_CNT b 1 ∧
         t.stands 32 b = true ∧
         t.cell = s.cell) ∧
  (∀ (s : State) (dt : Nat) (b : Fin 33) (rx : RxCell) (cell : List Byte) (h : Hdr), s.runs → s.arrives b rx cell h ∧ h.type ≠
     0 → cellCrc h.slot (s.expects b h) (cell.take 268) ≠ beAt cell 268 4 → cellCrc h.slot h.seq (cell.take 268) = beAt cell
     268 4 →
       Completes (.idleCell dt b rx) s fun t =>
         t.rd Fld.CELL_CNT_SEQ_ERR_CNT b = s.counted Fld.CELL_CNT_SEQ_ERR_CNT b 1 ∧
         t.rd Fld.CELL_CNT_SEQ_LOST_CNT b = s.counted Fld.CELL_CNT_SEQ_LOST_CNT b ((h.seq + 65536 - s.expects b h) % 65536) ∧
         t.stands 33 b = true ∧
         tget 0 t.cell.rx (streamKey b h.slot h.type) = (h.seq + 1) % 65536 + 1) ∧
  (∀ (s : State) (dt : Nat) (b : Fin 33) (rx : RxCell) (cell : List Byte) (h : Hdr), s.runs → s.takes b rx cell h ∧ h.type = 1
     → ((s.srcLane h.slot).any fun p => s.carries b p.2) = true →
       Completes (.essenceCell dt b rx false) s fun t =>
         tget 0 t.cell.rx (streamKey b h.slot 1) = (s.expects b h + 1) % 65536 + 1 ∧
         t.rd Fld.CELL_SRC_STAT_FMT h.slot = h.fmt % 64 ∧
         t.rd Fld.CELL_SRC_STAT_NOSIG h.slot = b2n h.nosig ∧
         (t.srcOf h.slot).lastEss = some (s.up + dt)) ∧
  (∀ (s : State) (dt : Nat) (b : Fin 33) (rx : RxCell) (cell : List Byte) (h : Hdr), s.runs → s.takes b rx cell h ∧ h.type = 1
     → ((s.srcLane h.slot).any fun p => s.carries b p.2) = true →
       Completes (.essenceCell dt b rx true) s fun t =>
         t.rd Fld.CELL_CNT_OVERRUN_CNT b = s.counted Fld.CELL_CNT_OVERRUN_CNT b 1 ∧
         t.stands 35 b = true ∧
         t.srcOf h.slot = s.srcOf h.slot) ∧
  (∀ (s : State) (dt : Nat) (b : Fin 33) (rx : RxCell) (cell : List Byte) (h : Hdr) (v : Frame), s.runs → s.takes b rx cell h
     ∧ h.type = 1 ∧ h.nosig = false ∧ h.sof = false ∧ h.eof = false → ((s.srcLane h.slot).any fun p => s.carries b p.2) = true
     → s.on Fld.CELL_SRC_STAT_LOST h.slot = false → (s.srcOf h.slot).vat = [v] ∧ v.fmt = h.fmt ∧ v.done = false → (cell.drop
     12).take h.valid ≠ [] →
       Completes (.essenceCell dt b rx false) s fun t =>
         (t.srcOf h.slot).vat.map (fun w => tget [] w.cells (cellKey h.field h.line h.offset)) = [(cell.drop 12).take h.valid]) ∧
  (∀ (s : State) (dt : Nat) (b : Fin 33) (rx : RxCell) (cell p : List Byte) (h : Hdr), s.runs → s.takes b rx cell h ∧ h.type =
     3 ∧ h.slot = linkSlot → payloadOf cell = p ∧ beAt p 0 1 = 3 →
       Completes (.echoCell dt b rx) s fun t =>
         t.rd Fld.CELL_LINK_DELAY_DELAY b = satTo (2 ^ 32 - 1) ((t.now - kilnOf p 4 - beAt p 28 4) / 2) ∧
         t.rd Fld.CELL_LINK_INFO_VALID b = 1 ∧
         Framed dt s t [(Fld.CELL_LINK_DELAY_DELAY, b), (Fld.CELL_LINK_INFO_VALID, b), (Fld.CELL_LINK_INFO_FAR_EPOCH, b),
           (Fld.IZL_CNT_STUFF_VIOL_CNT, b)] [.cell, .bnd]) ∧
  (∀ (s : State) (dt : Nat) (b : Fin 33) (rx : RxCell) (cell p : List Byte) (h : Hdr), s.runs → s.takes b rx cell h ∧ h.type =
     3 ∧ h.slot ≠ linkSlot → payloadOf cell = p ∧ beAt p 0 1 = 4 → ((s.srcLane h.slot).any fun p => s.carries b p.2) = true →
     s.on Fld.KILN_STAT_TIME_VALID 0 = true →
       Completes (.stampCell dt b rx) s fun t =>
         ((t.srcOf h.slot).stamp = if bitOf (beAt p 2 2) 0 then some (kilnOf p 4) else none)) ∧
  (∀ (s : State) (dt : Nat) (b : Fin 33) (rx : RxCell) (cell d : List Byte) (h : Hdr), s.runs → s.takes b rx cell h ∧
     wholeSide cell h 0 d →
       Completes (.managementSideCell dt b rx) s fun t =>
         Output.management b d ∈ t.out ∧
         Framed dt s t [(Fld.CELL_LINK_INFO_FAR_EPOCH, b), (Fld.IZL_CNT_STUFF_VIOL_CNT, b)] [.cell, .bnd])

/-- Lost sources, the check of Warp's queues, Vat's errors, and the time cells that the device sends. Time, what is sent, and
other choices of the model: log entries 1, 2, 5, 44 and 141. -/
def Obligations.CellLayer : Prop :=
  (∀ (s : State) (dt : Nat) (k : Fin 1152), s.runs → (s.srcLane k).isSome = true → s.on Fld.CELL_SRC_STAT_LOST k = false →
     fmtOf (s.rd Fld.CELL_SRC_STAT_FMT k) = none → (s.srcOf k).lastEss = none → ms 50 ≤ s.up + dt →
       Completes (.sourceLostTimeout dt k) s fun t =>
         t.rd Fld.CELL_SRC_STAT_LOST k = 1) ∧
  (∀ (s : State) (dt : Nat) (k : Fin 1152) (f : Fmt) (last : Nat), s.runs → (s.srcLane k).isSome = true → s.on
     Fld.CELL_SRC_STAT_LOST k = false → fmtOf (s.rd Fld.CELL_SRC_STAT_FMT k) = some f → (s.srcOf k).lastEss = some last →
     f.period * 5 / 4 ≤ fine (s.up + dt - last) →
       Completes (.sourceLostTimeout dt k) s fun t =>
         t.rd Fld.CELL_SRC_STAT_LOST k = 1) ∧
  (∀ (s : State) (dt : Nat) (d : Fin 1152) (field : Bool) (line offset : BitVec 12), s.runs →
       Completes (.warpCellCheckFail dt d field line offset) s fun t =>
         t.stands 96 d = true ∧
         (t.dstOf d).gone = cellKey field line.toNat offset.toNat :: (s.dstOf d).gone) ∧
  (∀ (s : State) (dt : Nat) (low : Bool), s.runs →
       Completes (.vatCorrectedError dt low) s fun t =>
         t.mntl.ce = s.mntl.ce + 1 ∧
         t.stands 97 0 = true ∧
         t.stands 99 0 = low) ∧
  (∀ (s : State) (dt : Nat), s.runs →
       Completes (.vatUncorrectableError dt) s fun t =>
         t.mntl.ue = s.mntl.ue + 1 ∧ t.mntl.ueAt = some (s.up + dt) ∧
         t.stands 98 0 = true) ∧
  (∀ (s : State) (dt : Nat) (b : Fin 33) (fam : Fin 5) (n : Nat), s.runs → fine (s.start dt).now / famPeriod fam + 1 = n →
     s.linkUp b = true ∧ s.sendsCell b → fine ((s.start dt).now + ms 1) ≤ n * famPeriod fam → tget 0 s.cell.famSent (b * 8 +
     fam) ≠ n →
       let lead := (s.start dt).txLead b
       Completes (.familyCellTx dt b fam) s fun t =>
         tget 0 t.cell.famSent (b * 8 + fam) = n ∧
         Output.cell b lead (cellOf (s.txHdr 3 linkSlot (tget 0 (s.txOf b).seq (linkSlot * 16 + 3)) 44 0) (beBytes 1 1 ++ beBytes 1 fam
           ++ beBytes 2 (s.rd Fld.KILN_STAT_TIME_VALID 0) ++ kilnBytes (t.now + lead) ++ kilnBytes (n * famPeriod fam / 189)
           ++ beBytes 8 n ++ beBytes 4 (s.rd Fld.CELL_LINK_DELAY_DELAY b) ++ beBytes 4 (s.start dt).teb)) ∈ t.out ∧
         Framed dt s t [] [.cell]) ∧
  (∀ (s : State) (dt : Nat) (d : Fin 1152) (b p : Nat) (f : Fmt) (l : Nat), s.runs → s.dstLane d = some (b, p) → fmtOf (s.rd
     Fld.WARP_DST_CFG_FMT d) = some f → launchAfter f (s.rd Fld.WARP_DST_TIMING_OFFSET d) (fine ((s.start dt).now + ms 1)) = l
     → s.linkUp b = true ∧ s.txCarries b p = true ∧ s.on Fld.WARP_DST_CFG_EN d = true ∧ (s.dstOf d).lcell ≠ some l →
     s.sendsCell b →
       let lead := (s.start dt).txLead b
       Completes (.launchCellTx dt d) s fun t =>
         (t.dstOf d).lcell = some l ∧ (t.dstOf d).lcount = ((s.dstOf d).lcount + 1) % 2 ^ 32 ∧
         Output.cell b lead (cellOf (s.txHdr 3 d (tget 0 (s.txOf b).seq (d * 16 + 3)) 40 (s.rd Fld.WARP_DST_CFG_FMT d)) (beBytes 1 2 ++
           beBytes 1 f.fam ++ beBytes 2 (s.rd Fld.KILN_STAT_TIME_VALID 0) ++ kilnBytes (t.now + lead) ++ kilnBytes (l / 189)
           ++ beBytes 4 (s.dstOf d).lcount ++ List.replicate 4 0 ++ beBytes 4 (s.rd Fld.CELL_LINK_DELAY_DELAY b))) ∈ t.out ∧
         Framed dt s t [] [.dst])

/-- A Seam puts a waiting route in force at its switching instant; a destination launches, repeats, freezes, goes black and sends
its lines. Time, what is sent, and other choices of the model: log entries 1, 2, 27, 42 and 147. -/
def Obligations.SeamFrames : Prop :=
  (∀ (s : State) (dt : Nat) (d : Fin 1152) (f : Fmt) (c : Change) (b : Nat), s.runs → fmtOf (s.rd Fld.WARP_DST_CFG_FMT d) =
     some f → s.unitStopped .dst d = false ∧ s.dst22 d = false → (s.start dt).nextBound d f (fine (s.start dt).now) = b → b ≤
     fine (s.start dt).now + 2 * f.line → s.waiting .dst d = [c] → c.src = none ∧ c.allOrNone = false ∧ s.due (b - 2 * f.line)
     b c = true → s.changeDue d c = 2 →
       Completes (.seamGuardOpen dt d) s fun t =>
         t.rd Fld.WARP_DST_STAT_REFUSED d = 1 ∧
         t.rd Fld.WARP_DST_CNT_REFUSED d = s.counted Fld.WARP_DST_CNT_REFUSED d 1 ∧
         t.rd Fld.WARP_DST_ROUTE_SRC d = s.rd Fld.WARP_DST_ROUTE_SRC d ∧
         (t.staged = s.staged.filter fun w => w.ord != c.ord)) ∧
  (∀ (s : State) (dt : Nat) (d : Fin 1152) (f : Fmt) (c : Change) (b : Nat), s.runs → fmtOf (s.rd Fld.WARP_DST_CFG_FMT d) =
     some f → s.unitStopped .dst d = false ∧ s.dst22 d = false → (s.start dt).nextBound d f (fine (s.start dt).now) = b → b ≤
     fine (s.start dt).now + 2 * f.line → s.waiting .dst d = [c] → c.src = none ∧ c.allOrNone = false ∧ s.due (b - 2 * f.line)
     b c = true → s.changeDue d c = 0 →
       Completes (.seamGuardOpen dt d) s fun t =>
         (t.staged = s.staged.map fun w => if w.ord = c.ord then { w with verdict := some 0 } else w) ∧
         Framed dt s t [] [.staged]) ∧
  (∀ (s : State) (dt : Nat) (d : Fin 1152) (f : Fmt) (c : Change) (second : Bool) (b o r : Nat), s.runs → fmtOf (s.rd
     Fld.WARP_DST_CFG_FMT d) = some f → s.unitStopped .dst d = false ∧ s.dst22 d = false → (s.boundOffsets d f)[b2n second]? =
     some o → instantBefore f.period (fine (ns (s.rd Fld.WARP_DST_TIMING_OFFSET d)) + o) (fine (s.start dt).now) = some b →
     s.waiting .dst d = [c] → c.src = none ∧ c.allOrNone = false ∧ s.due (b - 2 * f.line) b c = true → c.verdict.getD
     (s.changeDue d c) = 0 → c.items = [⟨.WARP_DST_ROUTE, d, r, 2047⟩] ∧ r < 2048 →
       Completes (.seamSwitchingInstant dt d second) s fun t =>
         t.rd Fld.WARP_DST_ROUTE_SRC d = r ∧
         t.rd Fld.WARP_DST_ROUTE_DIRECT d = 1 ∧
         t.rd Fld.WARP_DST_STAT_REFUSED d = 0 ∧
         (s.rd Fld.WARP_DST_ROUTE_SRC d ≠ r → t.rd Fld.WARP_DST_CNT_SWITCH d = s.counted Fld.WARP_DST_CNT_SWITCH d 1) ∧
         (t.staged = s.staged.filter fun w => w.ord != c.ord)) ∧
  (∀ (s : State) (dt : Nat) (buf : Fin 4) (d : Fin 1152) (b : SnapBuf), s.runs → s.hcp.snaps = [(buf.val, b)] → b.target = 0 ∧
     b.seam = true ∧ b.complete = false → b.first ≤ d.val ∧ d.val < b.first + b.count → reached (s.start dt).count b.ts = true
     → (b.recs.any fun p => p.1 == d.val) = false → s.on Fld.CELL_DST_BIND_EN d = false →
       Completes (.seamSnapshotTimeout dt buf d) s fun t =>
         t.hcp.snaps.map (fun p => p.2.recs) = [tinsert b.recs d ((s.start dt).warpRecord d)]) ∧
  (∀ (s : State) (dt : Nat) (d : Fin 1152) (f : Fmt) (l : Nat), s.runs → fmtOf (s.rd Fld.WARP_DST_CFG_FMT d) = some f →
     (s.start dt).launchNow d f = some l → s.unitStopped .dst d = false ∧ s.dst22 d = false ∧ (s.dstOf d).launch ≠ some l →
     s.fenced .dst d = false ∧ s.rd Fld.WARP_DST_ROUTE_SRC d < 1168 ∧ s.rd Fld.WARP_DST_CFG_MODE d = 0 →
       Completes (.dstFrameLaunch dt d) s fun t =>
         (t.dstOf d).launch = some l ∧
         (t.dstOf d).content = .live (s.rd Fld.WARP_DST_ROUTE_SRC d)) ∧
  (∀ (s : State) (dt : Nat) (d : Fin 1152) (f : Fmt) (l : Nat), s.runs → fmtOf (s.rd Fld.WARP_DST_CFG_FMT d) = some f →
     (s.start dt).launchNow d f = some l → s.unitStopped .dst d = false ∧ s.dst22 d = false ∧ (s.dstOf d).launch ≠ some l →
     s.fenced .dst d = false ∧ s.rd Fld.WARP_DST_ROUTE_SRC d < 1168 ∧ s.rd Fld.WARP_DST_CFG_MODE d = 1 → s.lostCause d (s.rd
     Fld.WARP_DST_ROUTE_SRC d) ≠ 0 → s.rd Fld.CASK_FS_CTL_FREEZE_MS d = 0 →
       Completes (.dstFrameLaunch dt d) s fun t =>
         (t.dstOf d).content = .black ∧
         t.rd Fld.CASK_FS_STAT_BLACK d = 1 ∧ t.rd Fld.CASK_FS_STAT_FROZEN d = 0 ∧
         t.rd Fld.CASK_FS_STAT_CAUSE d = s.lostCause d (s.rd Fld.WARP_DST_ROUTE_SRC d)) ∧
  (∀ (s : State) (dt : Nat) (d : Fin 1152) (f : Fmt) (l : Nat) (u : FrameRef), s.runs → fmtOf (s.rd Fld.WARP_DST_CFG_FMT d) =
     some f → (s.start dt).launchNow d f = some l → s.unitStopped .dst d = false ∧ s.dst22 d = false ∧ (s.dstOf d).launch ≠
     some l → s.fenced .dst d = false ∧ s.rd Fld.WARP_DST_ROUTE_SRC d < 1168 ∧ s.rd Fld.WARP_DST_CFG_MODE d = 1 → s.lostCause
     d (s.rd Fld.WARP_DST_ROUTE_SRC d) = 0 ∧ (s.dstOf d).lost = false → (s.dstOf d).used = some u → (ringFrames (s.rd
     Fld.WARP_DST_ROUTE_SRC d) (s.rd Fld.WARP_DST_CFG_FMT d) (s.srcOf (s.rd Fld.WARP_DST_ROUTE_SRC d))).find? (fun x =>
     x.count == (u.count + 1) % 2 ^ 32) = none →
       Completes (.dstFrameLaunch dt d) s fun t =>
         (t.dstOf d).content = .stored u ∧ (t.dstOf d).slipAt = some l ∧
         t.rd Fld.CASK_FS_CNT_REPEAT d = s.counted Fld.CASK_FS_CNT_REPEAT d 1 ∧
         t.stands 194 0 = true) ∧
  (∀ (s : State) (dt : Nat) (d : Fin 1152) (f : Fmt) (l t0 : Nat), s.runs → fmtOf (s.rd Fld.WARP_DST_CFG_FMT d) = some f →
     (s.start dt).launchNow d f = some l → (s.dstOf d).frozenAt = some t0 ∧ s.mode ≠ .hem ∧ s.on Fld.CASK_FS_STAT_FROZEN d =
     true → t0 + fine (ms (s.rd Fld.CASK_FS_CTL_FREEZE_MS d)) ≤ l →
       Completes (.freezeExpire dt d) s fun t =>
         (t.dstOf d).content = .black ∧
         t.rd Fld.CASK_FS_STAT_FROZEN d = 0 ∧ t.rd Fld.CASK_FS_STAT_BLACK d = 1 ∧
         Framed dt s t [(Fld.CASK_FS_STAT_FROZEN, d), (Fld.CASK_FS_STAT_BLACK, d)] [.dst]) ∧
  (∀ (s : State) (dt : Nat) (d : Fin 1152) (f : Fmt) (field : Bool) (line b p l : Nat) (c : LineOut), s.runs → s.dstLane d =
     some (b, p) ∧ fmtOf (s.rd Fld.WARP_DST_CFG_FMT d) = some f ∧ (s.dstOf d).launch = some l → s.unitStopped .dst d = false ∧
     line < f.active ∧ (field = true → f.inter = true) ∧ s.mode ≠ .cellar → s.linkUp b = true ∧ s.txCarries b p = true ∧
     s.fenced .bundle b = false ∧ (s.start dt).lineDue d l f field line = true → s.sendsCell b ∧ (s.txOf b).cells + f.cells ≤
     periodCells (s.txLanes b).length → (s.start dt).lineContent d f field line = c → (s.start dt).lineAnc d f field line = []
     ∧ (s.start dt).lastAnc d f field line = [] ∧ s.rd Fld.MASH_DST_AUDIO_COUNT d = 0 →
       let q := tget 0 (s.txOf b).seq (d * 16 + 1)
       let hd := s.txHdr 1 d 0 0 (s.rd Fld.WARP_DST_CFG_FMT d)
       Completes (.dstLineBoundary dt d field line) s fun t =>
         (∀ i, i < f.cells → Output.cell b (max (f.cellAfter i) ((s.start dt).txLead b)) (cellOf
           { hd with seq := (q + i) % 65536, line := line, offset := 102 * i, sof := line == 0 && i == 0, eol := i + 1 == f.cells, eof := line + 1 == f.active && i + 1 == f.cells, field := field, valid := (((c.samples f).drop (255 * i)).take (f.cellBytes i)).length }
           (((c.samples f).drop (255 * i)).take (f.cellBytes i))) ∈ t.out) ∧
         Framed dt s t [] [.dst])

/-- A head starts its frames, stops, applies what is due, latches a new timing mode and finishes its frames. Time, what is sent,
and other choices of the model: log entries 1, 2, 31, 32 and 125. -/
def Obligations.HeadFrames : Prop :=
  (∀ (s : State) (dt : Nat) (h : Fin 16) (f : Fmt) (F : Nat), s.runs → s.headFmt h = some f ∧ (s.start dt).headStartNow h f =
     some F → s.unitStopped .head h = false ∧ s.fenced .head h = false ∧ s.on Fld.STCH_HEAD_STAT_TRANSITION h = false →
     (s.headOf h).frameAt ≠ some F ∧ (s.headOf h).startFrom = none ∧ (s.headOf h).stopping = false → s.waiting .head h = [] →
       Completes (.headFrameStart dt h) s fun t =>
         (t.headOf h).frameAt = some F ∧
         t.rd Fld.STCH_HEAD_STAT_RUNNING h = 1 ∧ t.rd Fld.STCH_HEAD_STAT_ABORTED h = 0 ∧ t.rd Fld.STCH_HEAD_STAT_TRANSITION h = 0 ∧
         (t.srcOf (1152 + h)).count = ((s.srcOf (1152 + h)).count + 1) % 2 ^ 32 ∧
         ((t.srcOf (1152 + h)).vat.head?.bind fun v => v.s) = some (F / 189)) ∧
  (∀ (s : State) (dt : Nat) (h : Fin 16) (f : Fmt) (F : Nat), s.runs → s.headFmt h = some f ∧ (s.start dt).headStartNow h f =
     some F → s.unitStopped .head h = false ∧ s.on Fld.STCH_HEAD_STAT_TRANSITION h = false → (s.headOf h).frameAt ≠ some F ∧
     (s.headOf h).startFrom = none ∧ (s.headOf h).stopping = true → s.waiting .head h = [] →
       Completes (.headFrameStart dt h) s fun t =>
         (t.headOf h).frameAt = some F ∧ (t.headOf h).stopping = false ∧
         t.rd Fld.STCH_HEAD_STAT_RUNNING h = 0) ∧
  (∀ (s : State) (dt : Nat) (h : Fin 16) (f : Fmt) (F v mask ord at_ : Nat) (c : Change), s.runs → s.headFmt h = some f ∧
     (s.start dt).headStartNow h f = some F → s.unitStopped .head h = false ∧ s.fenced .head h = false ∧ s.on
     Fld.STCH_HEAD_STAT_TRANSITION h = false → (s.headOf h).frameAt ≠ some F ∧ (s.headOf h).startFrom = none ∧ (s.headOf
     h).stopping = false → s.staged = [⟨.STCH_HEAD_BG, h, v, mask, ord, at_, none⟩] → s.waiting .head h = [c] → fine at_ ≤ F -
     16 * f.line →
       Completes (.headFrameStart dt h) s fun t =>
         t.rd Fld.STCH_HEAD_BG_Y h = Fld.STCH_HEAD_BG_Y.merge (s.rd Fld.STCH_HEAD_BG_Y h) v mask % 1024 ∧
         t.staged = []) ∧
  (∀ (s : State) (dt : Nat) (h : Fin 16) (f : Fmt) (b : Nat) (n e : Nat) (c : Change), s.runs → s.headFmt h = some f ∧
     s.unitStopped .head h = false ∧ s.fenced .head h = true → (s.start dt).headStartAfter h f (fine (s.start dt).now) = b ∧ b
     ≤ fine (s.start dt).now + 16 * f.line → s.waiting .head h = [c] ∧ c.src = some (n, e) → c.allOrNone = false ∧ s.due (b -
     16 * f.line) b c = true →
       Completes (.headGuardOpen dt h) s fun t =>
         ((t.csOf n).entries[e]?.map fun x => (x.status, x.cause)) = ((s.csOf n).entries[e]?.map fun _ => (3, 1))) ∧
  (∀ (s : State) (dt : Nat) (h : Fin 16) (f : Fmt) (F v mask ord at_ : Nat), s.runs → s.headFmt h = some f ∧ (s.headOf
     h).frameAt = some F → s.on Fld.STCH_HEAD_STAT_TRANSITION h = true ∧ (s.headOf h).waiting = false → F + f.period ≤ fine
     (s.start dt).now → s.staged = [⟨.STCH_HEAD_TIMING, h, v, mask, ord, at_, none⟩] →
       Completes (.transitionFrameEnd dt h) s fun t =>
         t.rd Fld.STCH_HEAD_TIMING_OFFSET h = Fld.STCH_HEAD_TIMING_OFFSET.merge (s.rd Fld.STCH_HEAD_TIMING_OFFSET h) v mask % 2 ^ 26 ∧
         t.staged = [] ∧
         t.rd Fld.STCH_HEAD_CNT_MODE_CHANGE h = s.counted Fld.STCH_HEAD_CNT_MODE_CHANGE h 1 ∧
         t.rd Fld.STCH_HEAD_STAT_RUNNING h = 0 ∧
         (t.headOf h).waiting = true ∧ (t.headOf h).startFrom = some (F + f.period)) ∧
  (∀ (s : State) (dt : Nat) (h : Fin 16) (f : Fmt) (v : Frame) (rest : List Frame), s.runs → s.headFmt h = some f ∧ (s.srcOf
     (1152 + h)).vat = v :: rest → s.emitting h = true ∧ v.done = false → s.rd Fld.STCH_HEAD_CFG_SAFETY h < 2 →
       Completes (.headFrameEnd dt h) s fun t =>
         (t.srcOf (1152 + h)).vat = { v with cells := (s.start dt).headCells h f, complete := true, done := true } :: rest ∧
         t.rd Fld.STCH_HEAD_STAT_FETCH h = satTo 65535 (loadRate f (s.fetchLoad h f).1)) ∧
  (∀ (s : State) (dt : Nat) (h i : Fin 16) (f : Fmt) (v : Frame) (rest : List Frame), s.runs → s.headFmt h = some f ∧ (s.srcOf
     (1152 + h)).vat = v :: rest → s.emitting h = true ∧ v.done = false → 2 ≤ s.rd Fld.STCH_HEAD_CFG_SAFETY h ∧ s.on
     Fld.STCH_SIG_CTL_LEARN h = true → (∀ j : Fin 16, bitOf (s.rd Fld.STCH_SIG_CTL_EN h) j = (j == i)) →
       Completes (.headFrameEnd dt h) s fun t =>
         t.rd Fld.STCH_SIG_EXP_EXP (h * 16 + i) = t.rd Fld.STCH_SIG_VAL_VAL (h * 16 + i) ∧
         bitOf (t.rd Fld.STCH_SIG_STAT_MISMATCH h) i = false ∧ t.rd Fld.STCH_SIG_CTL_LEARN h = 0 ∧
         t.rd Fld.STCH_HEAD_STAT_SIG_FAIL h = b2n (t.rd Fld.STCH_SIG_STAT_MISMATCH h != 0)) ∧
  (∀ (s : State) (dt : Nat) (h i : Fin 16) (f : Fmt) (v : Frame) (rest : List Frame), s.runs → s.headFmt h = some f ∧ (s.srcOf
     (1152 + h)).vat = v :: rest → s.emitting h = true ∧ v.done = false → 2 ≤ s.rd Fld.STCH_HEAD_CFG_SAFETY h ∧ s.on
     Fld.STCH_SIG_CTL_LEARN h = false → (∀ j : Fin 16, bitOf (s.rd Fld.STCH_SIG_CTL_EN h) j = (j == i)) → tget 0 (s.headOf
     h).bad i + 1 = s.rd Fld.STCH_SIG_CTL_MISMATCH_N h →
       Completes (.headFrameEnd dt h) s fun t =>
         (t.rd Fld.STCH_SIG_VAL_VAL (h * 16 + i) ≠ s.rd Fld.STCH_SIG_EXP_EXP (h * 16 + i) → bitOf (t.rd Fld.STCH_SIG_STAT_MISMATCH h) i
           = true ∧ t.stands 162 h = true ∧ t.rd Fld.STCH_HEAD_CNT_SIG_MISMATCH h = s.counted Fld.STCH_HEAD_CNT_SIG_MISMATCH h
           1))

/-- Underruns, aprons and their pins, dropped layers and proxies. Time, what is sent, and other choices of the model: log entries
1 and 2. -/
def Obligations.HeadAprons : Prop :=
  (∀ (s : State) (dt : Nat) (h : Fin 16) (f : Fmt) (e x : Nat), s.runs → s.headFmt h = some f ∧ s.emitting h = true →
     (s.headOf h).abort = none ∧ (s.headOf h).apronAbort = none → overShare f (s.fetchLoad h f).1 = true →
       Completes (.headUnderrun dt h e x) s fun t =>
         (t.headOf h).abort = some (e, x) ∧
         t.rd Fld.STCH_HEAD_CNT_UNDERRUN h = s.counted Fld.STCH_HEAD_CNT_UNDERRUN h 1 ∧
         t.rd Fld.STCH_HEAD_STAT_ABORTED h = 1 ∧ t.stands 160 h = true) ∧
  (∀ (s : State) (dt : Nat) (h : Fin 16) (f : Fmt) (e x : Nat), s.runs → s.headFmt h = some f ∧ s.emitting h = true ∧
     s.apronHead h = true → (s.headOf h).abort = none ∧ (s.headOf h).apronAbort = none → overShare f (s.fetchLoad h f).1 =
     true →
       Completes (.apronUnderrun dt h e x) s fun t =>
         (t.headOf h).apronAbort = some (e, x) ∧
         t.rd Fld.STCH_HEAD_CNT_UNDERRUN h = s.counted Fld.STCH_HEAD_CNT_UNDERRUN h 1 ∧
         t.rd Fld.STCH_HEAD_CNT_APRON_UNDERRUN h = s.counted Fld.STCH_HEAD_CNT_APRON_UNDERRUN h 1 ∧
         t.rd Fld.STCH_HEAD_STAT_ABORTED h = 1 ∧ t.stands 161 h = true) ∧
  (∀ (s : State) (dt : Nat) (h : Fin 16) (t0 : Nat) (v : List Nat) (rest : List (Nat × List Nat)), s.runs → (s.headOf
     h).apronDue = (t0, v) :: rest → t0 ≤ fine (s.start dt).now →
       Completes (.apronFieldApply dt h) s fun t =>
         (t.headOf h).apron = ((s.lineFrom h t0).getD 100000, v) :: (s.headOf h).apron ∧ (t.headOf h).apronDue = rest ∧
         Framed dt s t [(Fld.STCH_HEAD_STAT_APRON_SHOWN, h)] [.head]) ∧
  (∀ (s : State) (dt : Nat) (g : Fin 4) (h : Fin 16) (f : Fmt), s.runs → h.val / 4 = g.val → s.headFmt h = some f →
       Completes (.apronNAsserted dt g) s fun t =>
         bitOf (t.rd Fld.STCH_APRON_STAT_ASSERTED 0) g = true ∧
         (t.headOf h).forceDue = some (fine (s.start dt).now + 2 * f.line) ∧
         Framed dt s t [(Fld.STCH_APRON_STAT_ASSERTED, 0)] [.head]) ∧
  (∀ (s : State) (dt : Nat) (g : Fin 4) (h : Fin 16) (t0 : Nat), s.runs → h.val / 4 = g.val ∧ bitOf (s.rd
     Fld.STCH_APRON_STAT_ASSERTED 0) g = true → s.apronHead h = true ∧ s.emitting h = true → (s.headOf h).forceDue = some t0 ∧
     (s.headOf h).force = none → t0 ≤ fine (s.start dt).now →
       Completes (.apronForceBegin dt g) s fun t =>
         (t.headOf h).force = some ((s.lineFrom h t0).getD 100000) ∧
         t.rd Fld.STCH_HEAD_STAT_APRON_FORCED h = 1) ∧
  (∀ (s : State) (dt : Nat) (g : Fin 4) (h : Fin 16), s.runs → h.val / 4 = g.val →
       Completes (.apronNDeasserted dt g) s fun t =>
         bitOf (t.rd Fld.STCH_APRON_STAT_ASSERTED 0) g = false ∧
         (t.headOf h).forceDue = none ∧
         Framed dt s t [(Fld.STCH_APRON_STAT_ASSERTED, 0)] [.head]) ∧
  (∀ (s : State) (dt : Nat) (h : Fin 16) (due : Nat), s.runs → s.mode = .hem ∧ (s.start dt).hemDue h = some due → (s.headOf
     h).dropFrom = none ∧ s.emitting h = true → due ≤ fine (s.start dt).now →
       Completes (.hemLayerDrop dt) s fun t =>
         (t.headOf h).dropFrom = s.lineFrom h due ∧
         Framed dt s t [] [.head]) ∧
  (∀ (s : State) (dt : Nat) (k : Fin 1168) (fr : Frame) (x : Nat), s.runs → (s.srcOf k).vat.find? (fun f => f.done) = some fr
     ∧ s.ringEn k = true → ((s.srcOf k).proxies.any fun p => p.2.count == fr.count && p.2.firstAt == fr.firstAt) = false →
     ([0, 1, 2].map fun i => ((s.srcOf k).proxyNext + i) % 3).find? (fun x => !(s.proxyHeld k).contains x) = some x →
       Completes (.plyProxyComplete dt k) s fun t =>
         (t.srcOf k).proxyNew = some x ∧ tget {} (t.srcOf k).proxies x = fr ∧
         Framed dt s t [] [.src]) ∧
  (∀ (s : State) (dt : Nat) (k : Fin 1168) (fr : Frame), s.runs → (s.srcOf k).vat.find? (fun f => f.done) = some fr ∧ s.ringEn
     k = true → ((s.srcOf k).proxies.any fun p => p.2.count == fr.count && p.2.firstAt == fr.firstAt) = false → (∀ x : Fin 3,
     (s.proxyHeld k).contains x.val = true) →
       Completes (.plyProxyComplete dt k) s fun t =>
         t.rd Fld.CASK_CNT_PLY_SKIP_CNT 0 = s.counted Fld.CASK_CNT_PLY_SKIP_CNT 0 1 ∧
         Framed dt s t [(Fld.CASK_CNT_PLY_SKIP_CNT, 0)] [])

/-- References of Kiln: qualification and selection, pulses accepted and rejected, and clocks that fail and return. Time, what is
sent, and other choices of the model: log entries 1, 2, 35, 66, 152 and 154. -/
def Obligations.KilnReferences : Prop :=
  (∀ (s : State) (dt : Nat) (k : Fin 44) (t0 best : Nat), s.por = false → (s.refOf k).since = some t0 ∧ (s.refOf k).qual =
     false ∧ s.refAvail k = true → t0 + sec (s.rd Fld.KILN_REF_CFG_QUAL_S k) ≤ s.up + dt → s.on Fld.KILN_SEL_CTL_REVERT 0 =
     true → (s.putRef k { s.refOf k with qual := true }).refBest = best →
       Completes (.refQualified dt k) s fun t =>
         (t.refOf k).qual = true ∧
         t.rd Fld.KILN_STAT_SELECTED 0 = best) ∧
  (∀ (s : State) (dt : Nat) (n : Fin 4) (falling : Bool), s.por = false → falling = s.on Fld.KILN_PPS_CFG_EDGE n → s.on
     Fld.KILN_REF_CFG_EN (1 + n) = true ∧ s.mode ≠ .cellar → (s.refOf (1 + n)).pulse = none → s.on Fld.KILN_STAT_TIME_VALID 0
     = true →
       Completes (.ppsInPulse dt n falling false) s fun t =>
         (t.refOf (1 + n)).pulse = some (s.start dt).now ∧ (t.refOf (1 + n)).bad = 0 ∧ (t.refOf (1 + n)).there = true ∧
         t.rd Fld.KILN_REF_OFFSET_DELTA (1 + n) = sat32 (reducePhase (-(nearest (fine (s.start dt).now) 0 (fine (sec 1))) / 189 + s.srd
           Fld.KILN_REF_CFG_CAL (1 + n) * 16384) (fine (sec 1) / 189) / 65536)) ∧
  (∀ (s : State) (dt : Nat) (n : Fin 4) (falling : Bool) (q : Nat), s.por = false → falling = s.on Fld.KILN_PPS_CFG_EDGE n →
     s.on Fld.KILN_REF_CFG_EN (1 + n) = true ∧ s.mode ≠ .cellar → (s.refOf (1 + n)).pulse = some q ∧ (s.refOf (1 + n)).bad < 2
     → fine (ns (s.rd Fld.KILN_PPS_CFG_WIN n)) < (nearest (fine (s.start dt).now) (fine q) (fine (sec 1))).natAbs →
       Completes (.ppsInPulse dt n falling false) s fun t =>
         t.rd Fld.KILN_REF_CNT_REJECT (1 + n) = s.counted Fld.KILN_REF_CNT_REJECT (1 + n) 1 ∧
         (t.refOf (1 + n)).bad = (s.refOf (1 + n)).bad + 1 ∧ (t.refOf (1 + n)).pulse = some q ∧
         Framed dt s t [(Fld.KILN_REF_CNT_REJECT, 1 + n)] [.kiln]) ∧
  (∀ (s : State) (dt : Nat) (n : Fin 4) (falling : Bool) (q : Nat), s.por = false → falling = s.on Fld.KILN_PPS_CFG_EDGE n →
     s.on Fld.KILN_REF_CFG_EN (1 + n) = true ∧ s.mode ≠ .cellar → (s.refOf (1 + n)).pulse = some q ∧ 2 ≤ (s.refOf (1 + n)).bad
     → fine (ns (s.rd Fld.KILN_PPS_CFG_WIN n)) < (nearest (fine (s.start dt).now) (fine q) (fine (sec 1))).natAbs →
       Completes (.ppsInPulse dt n falling false) s fun t =>
         t.rd Fld.KILN_REF_CNT_REJECT (1 + n) = s.counted Fld.KILN_REF_CNT_REJECT (1 + n) 1 ∧
         (t.refOf (1 + n)).there = false ∧ (t.refOf (1 + n)).pulse = none ∧ (t.refOf (1 + n)).bad = 0) ∧
  (∀ (s : State) (dt : Nat) (n : Fin 2) (falling : Bool), s.por = false → falling = s.on Fld.KILN_VREF_CFG_EDGE n → s.on
     Fld.KILN_REF_CFG_EN (41 + n) = true ∧ s.mode ≠ .cellar → (s.refOf (41 + n)).pulse = none →
       Completes (.vrefInPulse dt n falling false) s fun t =>
         (t.refOf (41 + n)).pulse = some (s.start dt).now ∧ (t.refOf (41 + n)).bad = 0 ∧ (t.refOf (41 + n)).there = true) ∧
  (∀ (s : State) (dt : Nat) (n : Fin 4) (falling short : Bool), s.por = false → (short = true ∨ falling ≠ s.on
     Fld.KILN_PPS_CFG_EDGE n) →
       Completes (.ppsInPulse dt n falling short) s fun t =>
         Framed dt s t [] []) ∧
  (∀ (s : State) (dt : Nat) (n : Fin 2) (falling short : Bool), s.por = false → (short = true ∨ falling ≠ s.on
     Fld.KILN_VREF_CFG_EDGE n) →
       Completes (.vrefInPulse dt n falling short) s fun t =>
         Framed dt s t [] []) ∧
  (∀ (s : State) (dt : Nat) (k : Fin 44) (q : Nat), s.por = false → refKind k = 1 ∧ (s.refOf k).pulse = some q → 3 *
     s.pulsePeriod k ≤ 2 * fine ((s.start dt).now - q) →
       Completes (.pulseTimeout dt k) s fun t =>
         (t.refOf k).pulse = none ∧ (t.refOf k).there = false) ∧
  (∀ (s : State) (dt : Nat) (n : Fin 4), s.por = false → s.freqWatched n = true →
       Completes (.freqInGlitch dt n) s fun t =>
         t.rd Fld.KILN_REF_CNT_REJECT (1 + n) = s.counted Fld.KILN_REF_CNT_REJECT (1 + n) 1 ∧
         Framed dt s t [(Fld.KILN_REF_CNT_REJECT, 1 + n)] []) ∧
  (∀ (s : State) (dt : Nat) (n : Fin 4), s.por = false → s.freqWatched n = true →
       Completes (.freqInStop dt n) s fun t =>
         (t.refOf (1 + n)).freqBad = true) ∧
  (∀ (s : State) (dt : Nat) (n : Fin 4), s.por = false → s.freqWatched n = true →
       Completes (.freqInRateChange dt n) s fun t =>
         (t.refOf (1 + n)).freqBad = true) ∧
  (∀ (s : State) (dt : Nat) (n : Fin 4), s.por = false → s.freqWatched n = true →
       Completes (.freqInReturn dt n) s fun t =>
         (t.refOf (1 + n)).freqBad = false)

/-- Kiln's time: set from a reference, started after the wait, stepped, slewed, and followed each second. Time, what is sent, and
other choices of the model: log entries 1, 2 and 33. -/
def Obligations.KilnTimeSets : Prop :=
  (∀ (s : State) (dt : Nat) (t0 u : Nat), s.por = false → s.kiln.setRef = some (t0, u) ∧ s.on Fld.KILN_STAT_TIME_VALID 0 =
     false → (t0 / sec 1 + 1) * sec 1 ≤ t0 + (s.up + dt - u) →
       Completes (.kilnTimeSet dt) s fun t =>
         t.now = t0 + (s.up + dt - u) ∧
         t.rd Fld.KILN_STAT_TIME_VALID 0 = 1 ∧ t.kiln.setRef = none) ∧
  (∀ (s : State) (dt : Nat) (t0 : Nat), s.por = false → s.kiln.waitFrom = some t0 ∧ s.kilnState = 0 → (s.rd
     Fld.KILN_STAT_SELECTED 0 = 63 ∨ refKind (s.rd Fld.KILN_STAT_SELECTED 0) ≠ 0) → t0 + sec (s.rd Fld.KILN_CFG_START_WAIT 0)
     ≤ s.up + dt →
       Completes (.startWaitExpire dt) s fun t =>
         t.now = s.kiln.ledgerTime ∧
         t.rd Fld.KILN_STAT_TIME_VALID 0 = 1 ∧ t.kiln.waitFrom = none) ∧
  (∀ (s : State) (dt : Nat) (b : Nat), s.por = false → s.kiln.stepAt = some b ∧ b ≤ (s.start dt).now →
       Completes (.kilnStep dt) s fun t =>
         t.now = (((s.start dt).now : Int) + s.kiln.stepBy).toNat ∧
         t.kiln.stepAt = none ∧ t.kiln.a0 = 0 ∧
         t.rd Fld.KILN_STAT_STEP_PENDING 0 = 0) ∧
  (∀ (s : State) (dt : Nat), s.por = false → (s.start dt).absorbed = 0 →
       Completes (.slewDone dt) s fun t =>
         t.rd Fld.KILN_STAT_SLEWING 0 = 0 ∧ t.kiln.a0 = 0 ∧
         Framed dt s t [(Fld.KILN_STAT_SLEWING, 0)] [.kiln]) ∧
  (∀ (s : State) (dt : Nat), s.por = false → s.kiln.second < (s.start dt).now / sec 1 → s.kilnState = 2 ∧ s.on
     Fld.KILN_STAT_OSC_XO 0 = false ∧ s.kiln.bare = false →
       Completes (.kilnSecond dt) s fun t =>
         t.kiln.second = (s.start dt).now / sec 1 ∧
         t.kiln.locked = s.kiln.locked + sec 1) ∧
  (∀ (s : State) (dt : Nat), s.por = false → s.kiln.second < (s.start dt).now / sec 1 → s.kilnState = 4 →
       Completes (.kilnSecond dt) s fun t =>
         t.kiln.second = (s.start dt).now / sec 1 ∧ t.kiln.locked = s.kiln.locked ∧
         t.rd Fld.KILN_HO_ELAPSED_SECONDS 0 = (((s.start dt).now - s.kiln.enterAt) / sec 1) % 2 ^ 32) ∧
  (∀ (s : State) (dt : Nat) (fam : Fin 5), s.por = false →
       Completes (.frameEpoch dt fam) s fun t =>
         Framed dt s t [] []) ∧
  (∀ (s : State) (dt : Nat), s.por = false → s.on Fld.KILN_STAT_TIME_VALID 0 = true ∧ s.on Fld.KILN_UTC_LEAP61 0 = true →
     ((s.start dt).second + 86400 - s.rd Fld.KILN_UTC_UTC_OFFSET 0) % 86400 = 0 → s.on Fld.GNSS_STAT_TRUSTED 0 = false ∧
     s.kiln.utcPtp = none ∧ s.rd Fld.KILN_UTC_SRC 0 = 1 →
       Completes (.leapSecond dt) s fun t =>
         t.rd Fld.KILN_UTC_UTC_OFFSET 0 = (s.rd Fld.KILN_UTC_UTC_OFFSET 0 + 1) % 256 ∧
         t.rd Fld.KILN_UTC_LEAP61 0 = 0 ∧ t.rd Fld.KILN_UTC_LEAP59 0 = 0 ∧ t.rd Fld.KILN_UTC_SRC 0 = 1)

/-- Kiln's oscillator: the DAC, the temperature sensor, the model, and its stops and returns. Time, what is sent, and other
choices of the model: log entries 1, 2, 33, 34, 64, 81 and 153. -/
def Obligations.KilnOscillator : Prop :=
  (∀ (s : State) (dt : Nat), s.por = false → 2 ≤ s.kilnState ∧ s.on Fld.KILN_STAT_OSC_XO 0 = false ∧ s.kiln.bare = false ∧
     s.kiln.dacAt = none → s.rd Fld.KILN_OSC_CFG_DAC_BITS 0 ≤ 24 →
       Completes (.dacUpdate dt) s fun t =>
         t.rd Fld.KILN_OSC_DAC_VALUE 0 < 2 ^ s.rd Fld.KILN_OSC_CFG_DAC_BITS 0 ∧
         Output.dac (t.rd Fld.KILN_OSC_DAC_VALUE 0) ∈ t.out ∧
         t.kiln.dacAt = some (s.up + dt) ∧
         t.stands 258 0 = (t.rd Fld.KILN_OSC_DAC_VALUE 0 == 0 || t.rd Fld.KILN_OSC_DAC_VALUE 0 + 1 == 2 ^ s.rd
           Fld.KILN_OSC_CFG_DAC_BITS 0)) ∧
  (∀ (s : State) (dt : Nat) (temp : BitVec 16), s.por = false →
       Completes (.tempRead dt temp) s fun t =>
         t.rd Fld.KILN_OSC_TEMP_TEMP 0 = temp.toNat ∧
         t.kiln.tempLost = false ∧ t.kiln.tempAt = s.up + dt ∧ t.stands 259 0 = false ∧
         Framed dt s t [(Fld.KILN_OSC_TEMP_TEMP, 0)] [.kiln, .flt, .boot]) ∧
  (∀ (s : State) (dt : Nat), s.por = false → s.kiln.tempAt + sec 10 ≤ s.up + dt →
       Completes (.tempSensorTimeout dt) s fun t =>
         t.kiln.tempLost = true ∧ t.stands 259 0 = true) ∧
  (∀ (s : State) (dt : Nat), s.por = false →
       Completes (.modelSave dt) s fun t =>
         (t.kiln.model = modelFields.map fun f => s.rd f 0) ∧
         (t.kiln.ledgerTime = if s.on Fld.KILN_STAT_TIME_VALID 0 then (s.start dt).now else s.kiln.ledgerTime) ∧
         Framed dt s t [] [.kiln]) ∧
  (∀ (s : State) (dt : Nat), s.por = false → sec 86400 ≤ s.kiln.locked →
       Completes (.modelValid dt) s fun t =>
         t.rd Fld.KILN_STAT_MODEL_VALID 0 = 1 ∧
         Framed dt s t [(Fld.KILN_STAT_MODEL_VALID, 0)] []) ∧
  (∀ (s : State) (dt : Nat) (g : List Nat), s.por = false → s.kiln.glitches.filter (fun t => decide (s.up + dt < t + ms 1)) =
     g ∧ g.length < 8 →
       Completes (.oscGlitch dt) s fun t =>
         t.rd Fld.KILN_CNT_OSC_GLITCH_CNT 0 = s.counted Fld.KILN_CNT_OSC_GLITCH_CNT 0 1 ∧
         t.kiln.glitches = (s.up + dt) :: g ∧
         Framed dt s t [(Fld.KILN_CNT_OSC_GLITCH_CNT, 0)] [.kiln]) ∧
  (∀ (s : State) (dt : Nat) (g : List Nat), s.por = false → s.kiln.glitches.filter (fun t => decide (s.up + dt < t + ms 1)) =
     g ∧ 8 ≤ g.length ∧ s.on Fld.KILN_STAT_OSC_XO 0 = false →
       Completes (.oscGlitch dt) s fun t =>
         t.rd Fld.KILN_CNT_OSC_GLITCH_CNT 0 = s.counted Fld.KILN_CNT_OSC_GLITCH_CNT 0 1 ∧
         t.rd Fld.KILN_STAT_OSC_XO 0 = 1 ∧ t.stands 256 0 = true) ∧
  (∀ (s : State) (dt : Nat), s.por = false → s.on Fld.KILN_STAT_OSC_XO 0 = false →
       Completes (.oscStop dt) s fun t =>
         t.rd Fld.KILN_STAT_OSC_XO 0 = 1 ∧ t.stands 256 0 = true) ∧
  (∀ (s : State) (dt : Nat), s.por = false → s.on Fld.KILN_STAT_OSC_XO 0 = false →
       Completes (.oscRateChange dt) s fun t =>
         t.rd Fld.KILN_STAT_OSC_XO 0 = 1 ∧ t.stands 256 0 = true) ∧
  (∀ (s : State) (dt : Nat), s.por = false → s.kilnState = 2 ∧ s.on Fld.KILN_STAT_OSC_XO 0 = false →
       Completes (.oscDrift dt) s fun t =>
         t.stands 257 0 = true) ∧
  (∀ (s : State) (dt : Nat), s.por = false → s.on Fld.KILN_STAT_OSC_XO 0 = true →
       Completes (.oscRestore dt) s fun t =>
         t.rd Fld.KILN_STAT_OSC_XO 0 = 0 ∧ t.stands 256 0 = false) ∧
  (∀ (s : State) (dt : Nat), s.por = false →
       Completes (.xoInStop dt) s fun t =>
         t.stands 260 0 = true) ∧
  (∀ (s : State) (dt : Nat), s.por = false →
       Completes (.xoInReturn dt) s fun t =>
         t.stands 260 0 = false ∧
         Framed dt s t [] [.flt, .kiln])

/-- Event capture, TIME_OUT pulses and CLK_OUT clocks. Time, what is sent, and other choices of the model: log entries 1, 2, 65
and 165. -/
def Obligations.KilnPins : Prop :=
  (∀ (s : State) (dt : Nat) (n : Fin 8) (falling : Bool), s.por = false → (s.rd Fld.KILN_EVT_CFG_EDGE n = 3 ∨ s.rd
     Fld.KILN_EVT_CFG_EDGE n = 1 + b2n falling) → (tget [] s.kiln.evq n).length < 16 →
       Completes (.evtInEdge dt n falling false) s fun t =>
         tget [] t.kiln.evq n = tget [] s.kiln.evq n ++ [(falling, ((((s.start dt).now / 16384 : Nat) : Int) - s.srd
           Fld.KILN_EVT_CFG_CAL n).toNat * 16384)] ∧
         Framed dt s t [] [.kiln]) ∧
  (∀ (s : State) (dt : Nat) (n : Fin 8) (falling : Bool), s.por = false → (s.rd Fld.KILN_EVT_CFG_EDGE n = 3 ∨ s.rd
     Fld.KILN_EVT_CFG_EDGE n = 1 + b2n falling) → 16 ≤ (tget [] s.kiln.evq n).length →
       Completes (.evtInEdge dt n falling false) s fun t =>
         bitOf (t.rd Fld.KILN_EVT_STAT_OVF 0) n = true ∧
         t.rd Fld.KILN_CNT_EVT_LOST_CNT 0 = s.counted Fld.KILN_CNT_EVT_LOST_CNT 0 1 ∧
         Framed dt s t [(Fld.KILN_EVT_STAT_OVF, 0), (Fld.KILN_CNT_EVT_LOST_CNT, 0)] []) ∧
  (∀ (s : State) (dt : Nat) (n : Fin 8) (falling : Bool), s.por = false →
       Completes (.evtInEdge dt n falling true) s fun t =>
         Framed dt s t [] []) ∧
  (∀ (s : State) (dt : Nat) (n : Fin 16) (e : Nat), s.por = false → (s.start dt).toutEdge n = some e ∧ s.waiting .tout n = []
     → s.rd Fld.KILN_TOUT_CTL_MODE n ≠ 0 →
       Completes (.timeOutPulse dt n) s fun t =>
         (t.toutOf n).last = some e ∧
         (t.toutOf n).high = some (e + fine (ns (s.rd Fld.KILN_TOUT_WIDTH_WIDTH n))) ∧
         Output.timeOut n true (e / 189) ∈ t.out ∧
         (s.rd Fld.KILN_TOUT_CTL_MODE n = 1 → (t.toutOf n).fired = true ∧ t.rd Fld.KILN_TOUT_CTL_LATE n = b2n (decide (e < (s.toutOf
           n).since) || (s.toutOf n).skipped)) ∧
         Framed dt s t [(Fld.KILN_TOUT_CTL_LATE, n)] [.kiln]) ∧
  (∀ (s : State) (dt : Nat) (n : Fin 16) (e v mask ord at_ : Nat) (c : Change), s.por = false → (s.start dt).toutEdge n = some
     e ∧ s.rd Fld.KILN_TOUT_CTL_MODE n = 4 → s.staged = [⟨.KILN_TOUT_WIDTH, n, v, mask, ord, at_, none⟩] ∧ s.waiting .tout n =
     [c] → fine at_ ≤ e - fine (us 2) →
       Completes (.timeOutPulse dt n) s fun t =>
         t.rd Fld.KILN_TOUT_WIDTH_WIDTH n = Fld.KILN_TOUT_WIDTH_WIDTH.merge (s.rd Fld.KILN_TOUT_WIDTH_WIDTH n) v mask % 2 ^ 32 ∧
         t.staged = [] ∧ (t.toutOf n).since = e) ∧
  (∀ (s : State) (dt : Nat) (n : Fin 16) (e : Nat), s.por = false → (s.toutOf n).high = some e ∧ e ≤ fine (s.start dt).now →
       Completes (.timeOutPulseEnd dt n) s fun t =>
         (t.toutOf n).high = none ∧ Output.timeOut n false (e / 189) ∈ t.out ∧
         Framed dt s t [] [.kiln]) ∧
  (∀ (s : State) (dt : Nat) (n : Fin 4) (b : Nat), s.por = false → instantBefore (alignPeriod (s.rd Fld.KILN_CLK_CTL_ALIGN n))
     0 (fine (s.start dt).now) = some b → s.waiting .clk n = [] ∧ s.on Fld.KILN_CLK_CTL_EN n = true ∧ s.mode ≠ .cellar → fine
     (tget 0 s.kiln.clkFrom n) ≤ b ∧ tget false s.kiln.clkRun n = false →
       Completes (.clkOutAlign dt n) s fun t =>
         tget false t.kiln.clkRun n = true ∧ Output.clkOut n true ∈ t.out ∧
         Framed dt s t [] [.kiln])

/-- At a sample instant Mash takes the instant, installs what waits for its engine, and keeps routes that are off at silence.
Time, what is sent, and other choices of the model: log entries 1, 2, 36, 37, 39, 67 and 71. -/
def Obligations.MashInstant : Prop :=
  (∀ (s : State) (dt : Nat), s.runs → s.configured = true ∧ s.mash.n ≠ some (s.start dt).sampleNow →
       Completes (.mashSampleInstant dt) s fun t =>
         t.mash.n = some (s.start dt).sampleNow) ∧
  (∀ (s : State) (dt : Nat) (pos : Nat), s.runs → s.configured = true ∧ s.mash.n ≠ some (s.start dt).sampleNow → s.on
     Fld.MASH_ROUTE_EN pos = false ∧ s.routeRec pos = {} ∧ s.followAt pos = none → s.staged = [] ∧ s.cs = [] →
       Completes (.mashSampleInstant dt) s fun t =>
         t.outAt pos = 0) ∧
  (∀ (s : State) (dt : Nat) (pos v mask ord at_ : Nat), s.runs → s.configured = true ∧ s.mash.n ≠ some (s.start dt).sampleNow
     → s.staged = [⟨.MASH_ROUTE, pos, v, mask, ord, at_, none⟩] ∧ s.cs = [] ∧ s.mash.swapAt = [] → s.on Fld.MASH_ENG_CTL_HOLD
     256 = false → fine at_ ≤ (s.start dt).sampleNow * s.samplePeriod - 2 * s.samplePeriod →
       Completes (.mashSampleInstant dt) s fun t =>
         t.rd Fld.MASH_ROUTE_GAIN pos = Fld.MASH_ROUTE_GAIN.merge (s.rd Fld.MASH_ROUTE_GAIN pos) v mask % 2048 ∧
         t.rd Fld.MASH_ENG_STAT_SWAPS 256 = (s.rd Fld.MASH_ENG_STAT_SWAPS 256 + 1) % 2 ^ 30 ∧
         t.staged = [])

/-- Mash: timeouts of gain changes, ends of fader ramps, locks, ancillary packets, parity and silence in HEM. Time, what is sent,
and other choices of the model: log entries 1, 2, 68, 69, 70 and 135. -/
def Obligations.MashEvents : Prop :=
  (∀ (s : State) (dt : Nat) (i : Fin 32768) (g n : Nat), s.runs → (s.routeRec i).wait = some (g, n) ∧ n ≤ (s.start
     dt).sampleNow →
       Completes (.zcTimeout dt false i) s fun t =>
         (t.routeRec i).wait = none ∧ (t.routeRec i).code = none ∧
         t.rd Fld.MASH_CNT_ZC_TIMEOUT_CNT 0 = s.counted Fld.MASH_CNT_ZC_TIMEOUT_CNT 0 1 ∧
         Framed dt s t [(Fld.MASH_CNT_ZC_TIMEOUT_CNT, 0)] [.mash]) ∧
  (∀ (s : State) (dt : Nat) (i : Fin 32768) (g n : Nat), s.runs → (s.entryRec i).wait = some (g, n) ∧ n ≤ (s.start
     dt).sampleNow →
       Completes (.zcTimeout dt true i) s fun t =>
         (t.entryRec i).wait = none ∧ (t.entryRec i).code = none ∧
         t.rd Fld.MASH_CNT_ZC_TIMEOUT_CNT 0 = s.counted Fld.MASH_CNT_ZC_TIMEOUT_CNT 0 1 ∧
         Framed dt s t [(Fld.MASH_CNT_ZC_TIMEOUT_CNT, 0)] [.mash]) ∧
  (∀ (s : State) (dt : Nat) (b : Fin 256), s.runs → (s.busRec b).len ≠ 0 → (s.busRec b).start + (s.busRec b).len ≤ (s.start
     dt).sampleNow + 1 →
       Completes (.faderRampEnd dt b) s fun t =>
         (t.busRec b).len = 0 ∧
         t.rd Fld.MASH_BUS_STAT_RAMPING b = 0 ∧
         t.rd Fld.MASH_BUS_STAT_LEVEL b = s.rd Fld.MASH_BUS_FADER_TARGET b % 2048 ∧
         Framed dt s t [(Fld.MASH_BUS_STAT_RAMPING, b), (Fld.MASH_BUS_STAT_LEVEL, b)] [.mash]) ∧
  (∀ (s : State) (dt : Nat) (k : Fin 1152), s.runs → s.audioLanes.contains k.val = true ∧ s.lockable k = true → s.on
     Fld.MASH_SRC_AUDIO_UNLOCKED k = true → (s.laneOf k).hold.all (fun e => e ≤ s.up + dt) = true →
       Completes (.unlockHoldExpire dt k) s fun t =>
         t.rd Fld.MASH_SRC_AUDIO_UNLOCKED k = 0 ∧
         (t.laneOf k).hold = none ∧
         Framed dt s t [(Fld.MASH_SRC_AUDIO_UNLOCKED, k)] [.mash]) ∧
  (∀ (s : State) (dt : Nat) (b : Fin 256), s.runs →
       Completes (.mashParityFault dt b) s fun t =>
         t.stands 196 b = true) ∧
  (∀ (s : State) (dt : Nat), s.runs → (s.start dt).silence = 0 →
       Completes (.hemMashSilent dt) s fun t =>
         t.mash.out = [] ∧
         Framed dt s t [] [.mash]) ∧
  (∀ (s : State) (dt : Nat) (b : Fin 33) (rx : RxCell) (cell : List Byte) (h : Hdr) (p : List Byte) (v : Frame) (rest : List
     Frame), s.runs → s.takes b rx cell h ∧ h.type = 2 → ((s.srcLane h.slot).any fun p => s.carries b p.2) = true → ancTake
     (tget [] s.cell.anc (streamKey b h.slot 2)) ((payloadOf cell).take h.valid) h.cont = ([p], []) → ancKind p = .other ∧
     (s.srcOf h.slot).vat = v :: rest ∧ v.anc = [] → (s.srcOf h.slot).ancPlace (fmtOf (s.srcFmt h.slot)) (ancLine p) = 1 →
       Completes (.ancillaryCell dt b rx false) s fun t =>
         (t.srcOf h.slot).vat = { v with anc := [p] } :: rest) ∧
  (∀ (s : State) (dt : Nat) (b : Fin 33) (rx : RxCell) (cell : List Byte) (h : Hdr) (p : List Byte) (g : Nat), s.runs →
     s.takes b rx cell h ∧ h.type = 2 → ((s.srcLane h.slot).any fun p => s.carries b p.2) = true → ancTake (tget [] s.cell.anc
     (streamKey b h.slot 2)) ((payloadOf cell).take h.valid) h.cont = ([p], []) → ancKind p = .audio g ∧ 5 ≤ g ∧ s.srcFmt
     h.slot < 22 →
       Completes (.ancillaryCell dt b rx false) s fun t =>
         t.rd Fld.MASH_CNT_ANC_DROP_CNT 0 = s.counted Fld.MASH_CNT_ANC_DROP_CNT 0 1 ∧
         t.mash.lane = s.mash.lane) ∧
  (∀ (s : State) (dt : Nat) (b : Fin 33) (rx : RxCell) (cell : List Byte) (h : Hdr), s.runs → s.takes b rx cell h ∧ h.type = 2
     → ((s.srcLane h.slot).any fun p => s.carries b p.2) = true →
       Completes (.ancillaryCell dt b rx true) s fun t =>
         t.rd Fld.CELL_CNT_OVERRUN_CNT b = s.counted Fld.CELL_CNT_OVERRUN_CNT b 1 ∧
         t.stands 35 b = true ∧
         t.mash = s.mash)

/-- Frames at an Ethernet port: dropped and counted, unmatched, ARP and echo requests, and its link and fault states. Time, what
is sent, and other choices of the model: log entries 1, 2, 16, 17, 38, 74, 144, 145, 146 and 150. -/
def Obligations.EthFrames : Prop :=
  (∀ (s : State) (dt : Nat) (p : Fin 18), s.runs → s.portUp p = true →
       Completes (.ethFrameBad dt p .crc) s fun t =>
         t.rd Fld.ETH_CNT_RX_CRC_CNT p = (s.rd Fld.ETH_CNT_RX_CRC_CNT p + 1) % 2 ^ 64 ∧
         Framed dt s t [(Fld.ETH_CNT_RX_CRC_CNT, p)] []) ∧
  (∀ (s : State) (dt : Nat) (p : Fin 18) (c u : Nat), s.runs → s.portUp p = true →
       Completes (.ethFrameBad dt p (.fec c u)) s fun t =>
         t.rd Fld.ETH_CNT_RX_BAD_CNT p = (s.rd Fld.ETH_CNT_RX_BAD_CNT p + 1) % 2 ^ 64 ∧
         t.rd Fld.ETH_CNT_FEC_CORR_CNT p = (s.rd Fld.ETH_CNT_FEC_CORR_CNT p + c) % 2 ^ 64 ∧
         t.rd Fld.ETH_CNT_FEC_UNCORR_CNT p = (s.rd Fld.ETH_CNT_FEC_UNCORR_CNT p + u) % 2 ^ 64) ∧
  (∀ (s : State) (dt : Nat) (p : Fin 18) (media : Bool) (m n o : Nat), s.runs → s.portUp p = true ∧ bufferFull media m n o =
     true →
       Completes (.ethFrameBad dt p (.full media m n o)) s fun t =>
         t.rd Fld.ETH_CNT_RX_FULL_CNT p = (s.rd Fld.ETH_CNT_RX_FULL_CNT p + 1) % 2 ^ 64 ∧
         t.stands 67 p = true) ∧
  (∀ (s : State) (dt : Nat) (p : Fin 18) (len : Nat), s.runs → s.portUp p = true ∧ 64 ≤ len ∧ len ≤ s.rd
     Fld.ETH_PORT_CTL_MAX_FRAME p →
       Completes (.unmatchedFrame dt p len none) s fun t =>
         t.rd Fld.ETH_CNT_RX_NOMATCH_CNT p = (s.rd Fld.ETH_CNT_RX_NOMATCH_CNT p + 1) % 2 ^ 64 ∧
         Framed dt s t [(Fld.ETH_CNT_RX_NOMATCH_CNT, p)] []) ∧
  (∀ (s : State) (dt : Nat) (p : Fin 18) (len : Nat) (query : Option (BitVec 32)), s.runs → s.portUp p = true ∧ s.rd
     Fld.ETH_PORT_CTL_MAX_FRAME p < len ∧ 64 ≤ len →
       Completes (.unmatchedFrame dt p len query) s fun t =>
         t.rd Fld.ETH_CNT_RX_LONG_CNT p = (s.rd Fld.ETH_CNT_RX_LONG_CNT p + 1) % 2 ^ 64 ∧
         Framed dt s t [(Fld.ETH_CNT_RX_LONG_CNT, p)] []) ∧
  (∀ (s : State) (dt : Nat) (p : Fin 18) (f : Fin 4096) (len : Nat) (g : BitVec 32), s.runs → s.portUp p = true ∧ 64 ≤ len ∧
     len ≤ s.rd Fld.ETH_PORT_CTL_MAX_FRAME p ∧ s.sends p 3 → s.on Fld.ETH_FLOW_CTL_EN f = true ∧ s.rd Fld.ETH_FLOW_CTL_PORT f
     = p ∧ s.rd Fld.ETH_FLOW_CTL_DIR f = 0 → s.rd Fld.ETH_FLOW_DIP_DIP f = g.toNat ∧ g.toNat / 2 ^ 28 = 14 →
       Completes (.unmatchedFrame dt p len (some g)) s fun t =>
         s.framed p (.igmp p g.toNat (s.rd Fld.ETH_FLOW_SIP_SIP f) true) ∈ t.out) ∧
  (∀ (s : State) (dt : Nat) (p : Fin 18) (target : BitVec 32) (len : Nat), s.runs → s.portUp p = true ∧ 64 ≤ len ∧ len ≤ s.rd
     Fld.ETH_PORT_CTL_MAX_FRAME p → tget 0 s.eth.ip p.val = target.toNat ∧ target ≠ 0 → s.sends p 3 →
       Completes (.arpRequest dt p target len) s fun t =>
         s.framed p (.arpReply p) ∈ t.out ∧
         t.rd Fld.ETH_CNT_RX_FRAMES_CNT p = (s.rd Fld.ETH_CNT_RX_FRAMES_CNT p + 1) % 2 ^ 64 ∧
         t.rd Fld.ETH_CNT_RX_OCTETS_CNT p = (s.rd Fld.ETH_CNT_RX_OCTETS_CNT p + len) % 2 ^ 64) ∧
  (∀ (s : State) (dt : Nat) (p : Fin 18) (target : BitVec 32) (len : Nat), s.runs → s.portUp p = true ∧ 64 ≤ len ∧ len ≤ s.rd
     Fld.ETH_PORT_CTL_MAX_FRAME p → tget 0 s.eth.ip p.val ≠ target.toNat →
       Completes (.arpRequest dt p target len) s fun t =>
         t.rd Fld.ETH_CNT_RX_NOMATCH_CNT p = (s.rd Fld.ETH_CNT_RX_NOMATCH_CNT p + 1) % 2 ^ 64 ∧
         Framed dt s t [(Fld.ETH_CNT_RX_NOMATCH_CNT, p)] []) ∧
  (∀ (s : State) (dt : Nat) (p : Fin 18) (data : List Byte) (len : Nat), s.runs → s.portUp p = true ∧ 64 ≤ len ∧ len ≤ s.rd
     Fld.ETH_PORT_CTL_MAX_FRAME p ∧ 16 ≤ p.val → s.sends p 3 →
       Completes (.icmpEchoRequest dt p data len) s fun t =>
         s.framed p (.echoReply p data) ∈ t.out) ∧
  (∀ (s : State) (dt : Nat) (p : Fin 18), s.runs → s.on Fld.ETH_PORT_CTL_EN p = true ∧ s.on Fld.ETH_PORT_STAT_LINK_UP p = true
     →
       Completes (.ethLossOfSignal dt p) s fun t =>
         t.rd Fld.ETH_PORT_STAT_LINK_UP p = 0 ∧ t.rd Fld.ETH_PORT_STAT_LOCAL_FAULT p = 1 ∧ t.egress p = [] ∧
         t.rd Fld.ETH_CNT_LINK_DOWN_CNT p = (s.rd Fld.ETH_CNT_LINK_DOWN_CNT p + 1) % 2 ^ 64 ∧
         t.stands 64 p = true ∧ (t.refOf (23 + p)).there = false) ∧
  (∀ (s : State) (dt : Nat) (p : Fin 18) (frames : Nat), s.runs → s.portUp p = true →
       Completes (.ethLinkGlitch dt p frames) s fun t =>
         t.rd Fld.ETH_CNT_LINK_GLITCH_CNT p = (s.rd Fld.ETH_CNT_LINK_GLITCH_CNT p + 1) % 2 ^ 64 ∧
         t.rd Fld.ETH_CNT_RX_BAD_CNT p = (s.rd Fld.ETH_CNT_RX_BAD_CNT p + frames) % 2 ^ 64 ∧
         t.rd Fld.ETH_PORT_STAT_LINK_UP p = 1 ∧ t.stands 66 p = true) ∧
  (∀ (s : State) (dt : Nat) (p : Fin 18), s.runs → s.portUp p = true →
       Completes (.ethRateChange dt p) s fun t =>
         t.rd Fld.ETH_PORT_STAT_LINK_UP p = 0 ∧ t.rd Fld.ETH_PORT_STAT_ALIGNED p = 0 ∧
         t.stands 64 p = true ∧ (t.refOf (23 + p)).there = false) ∧
  (∀ (s : State) (dt : Nat) (p : Fin 18), s.runs → s.on Fld.ETH_PORT_CTL_EN p = true →
       Completes (.ethLinkUp dt p) s fun t =>
         t.rd Fld.ETH_PORT_STAT_LINK_UP p = 1 ∧ t.rd Fld.ETH_PORT_STAT_ALIGNED p = 1 ∧ t.rd Fld.ETH_PORT_STAT_LOCAL_FAULT p = 0 ∧
         t.stands 64 p = false ∧ (t.refOf (23 + p)).there = true) ∧
  (∀ (s : State) (dt : Nat) (p : Fin 18), s.runs → s.on Fld.ETH_PORT_CTL_EN p = true ∧ s.egress p = [] →
       Completes (.remoteFaultReceived dt p) s fun t =>
         t.rd Fld.ETH_PORT_STAT_REMOTE_FAULT p = 1 ∧
         Framed dt s t [(Fld.ETH_PORT_STAT_REMOTE_FAULT, p)] []) ∧
  (∀ (s : State) (dt : Nat) (p : Fin 18), s.runs →
       Completes (.remoteFaultEnded dt p) s fun t =>
         t.rd Fld.ETH_PORT_STAT_REMOTE_FAULT p = 0 ∧
         Framed dt s t [(Fld.ETH_PORT_STAT_REMOTE_FAULT, p)] [])

/-- Pause: queues held by 802.3 pause and by priority pause, their expiry, and the watchdog. Time, what is sent, and other choices
of the model: log entries 1, 2, 17 and 146. -/
def Obligations.EthPause : Prop :=
  (∀ (s : State) (dt : Nat) (p : Fin 18) (q : Fin 4) (classes : BitVec 8) (quanta : Vector (BitVec 16) 8), s.runs → s.portUp p
     = true ∧ s.on Fld.ETH_PORT_CTL_PAUSE_EN p = true ∧ s.queueIgnores p q = false → quanta.toList.getD 0 0 ≠ 0 ∧ s.egress p =
     [] →
       Completes (.pauseFrame dt p false classes quanta) s fun t =>
         t.queueHeld p q = true ∧
         (t.pauseOf p q).mac = s.up + dt + (quanta.toList.getD 0 0).toNat * 33554432 / 100 ∧
         t.rd Fld.ETH_CNT_RX_PAUSE_CNT p = (s.rd Fld.ETH_CNT_RX_PAUSE_CNT p + 1) % 2 ^ 64 ∧
         Framed dt s t [(Fld.ETH_PORT_STAT_HELD, p), (Fld.ETH_CNT_RX_PAUSE_CNT, p)] [.eth]) ∧
  (∀ (s : State) (dt : Nat) (p : Fin 18) (q : Fin 4) (c : Nat) (classes : BitVec 8) (quanta : Vector (BitVec 16) 8), s.runs →
     s.portUp p = true ∧ s.on Fld.ETH_PORT_CTL_PFC_EN p = true ∧ s.queueIgnores p q = false → c < 8 ∧ classes.getLsbD c = true
     ∧ s.queuePcp p q c = true ∧ quanta.toList.getD c 0 ≠ 0 ∧ s.egress p = [] →
       Completes (.pauseFrame dt p true classes quanta) s fun t =>
         t.queueHeld p q = true ∧
         tget 0 (t.pauseOf p q).pfc c = s.up + dt + (quanta.toList.getD c 0).toNat * 33554432 / 100 ∧
         Framed dt s t [(Fld.ETH_PORT_STAT_HELD, p), (Fld.ETH_CNT_RX_PAUSE_CNT, p)] [.eth]) ∧
  (∀ (s : State) (dt : Nat) (p : Fin 18) (q : Fin 4), s.runs → s.queueHeld p q = true ∧ (s.pauseOf p q).end_ ≤ s.up + dt ∧
     s.egress p = [] →
       Completes (.pauseExpire dt p q) s fun t =>
         t.queueHeld p q = false ∧
         Framed dt s t [(Fld.ETH_PORT_STAT_HELD, p)] []) ∧
  (∀ (s : State) (dt : Nat) (p : Fin 18) (q : Fin 4) (x : TxItem), s.runs → s.queueHeld p q = true ∧ (s.pauseOf p q).end_ ≤
     s.up + dt ∧ s.portSends p = true → s.egress p = [x] ∧ x.queue = q ∧ x.flow = none →
       Completes (.pauseExpire dt p q) s fun t =>
         t.egress p = [] ∧
         Output.frame p q (s.txPcp p x) ((s.start dt).txOut x) ∈ t.out) ∧
  (∀ (s : State) (dt : Nat) (p : Fin 18) (q : Fin 4), s.runs → s.queueHeld p q = true ∧ (s.pauseOf p q).since + ms (s.rd
     Fld.ETH_PORT_CTL_PAUSE_WD p) ≤ s.up + dt →
       Completes (.pauseWatchdog dt p q) s fun t =>
         t.queueHeld p q = false ∧ t.queueIgnores p q = true ∧
         (t.pauseOf p q).ignore = s.up + dt + ms (s.rd Fld.ETH_PORT_CTL_PAUSE_WD p) ∧
         t.rd Fld.ETH_CNT_PAUSE_WD_CNT p = (s.rd Fld.ETH_CNT_PAUSE_WD_CNT p + 1) % 2 ^ 64 ∧
         t.stands 65 p = true) ∧
  (∀ (s : State) (dt : Nat) (p : Fin 18) (q : Fin 4), s.runs → s.queueIgnores p q = true ∧ (s.pauseOf p q).ignore ≤ s.up + dt
     →
       Completes (.pauseIgnoreEnd dt p q) s fun t =>
         t.queueIgnores p q = false ∧
         Framed dt s t [(Fld.ETH_PORT_STAT_IGNORE, p)] [])

/-- Media packets: rows of a frame, packets forwarded, samples of flows, ancillary packets, and flows that are lost. Time, what is
sent, and other choices of the model: log entries 1, 2, 41, 42, 77, 83, 147, 148 and 149. -/
def Obligations.EthMedia : Prop :=
  (∀ (s : State) (dt : Nat) (p : Fin 18) (h : FrameHdr) (f : Fin 4096) (fm : Fmt) (seq ts : BitVec 32) (narrow : Bool) (rows :
     List RtpRow) (k : Nat) (v : Frame), s.runs → s.portUp p = true ∧ s.matchFlow p h = some f.val ∧ 64 ≤ h.len ∧ h.len ≤ s.rd
     Fld.ETH_PORT_CTL_MAX_FRAME p ∧ h.dport.toNat ∉ [123, 319, 320] → s.rd Fld.ETH_FLOW_CTL_TYPE f = 0 ∧ s.pairOf f = none ∧
     (s.flowRx f).alive = true → s.fenced .flow f = false ∧ s.fenced .port (s.rd Fld.ETH_FLOW_CTL_PORT f) = false → fmtOf
     (s.flowFmt f) = some fm ∧ s.flowSlots f = [k] → (s.srcOf k).vat = [v] ∧ v.done = false ∧ v.epoch = some ((s.start
     dt).rtpNamed ts.toNat fm.period) →
       Completes (.st211020Packet dt p h seq ts false true narrow true true rows) s fun t =>
         (t.srcOf k).vat = [{ v with segs := rows.foldl (fun l x => tput [] l (cellKey x.field x.line x.offset) x.data) v.segs }] ∧
         t.rd Fld.ETH_FLOW_CNT_PKT f = s.counted Fld.ETH_FLOW_CNT_PKT f 1 ∧ (t.flowRx f).last = s.up + dt) ∧
  (∀ (s : State) (dt : Nat) (p : Fin 18) (h : FrameHdr) (f : Fin 4096) (seq ts : BitVec 32) (marker field narrow room : Bool)
     (rows : List RtpRow), s.runs → s.portUp p = true ∧ s.matchFlow p h = some f.val ∧ 64 ≤ h.len ∧ h.len ≤ s.rd
     Fld.ETH_PORT_CTL_MAX_FRAME p ∧ h.dport.toNat ∉ [123, 319, 320] →
       Completes (.st211020Packet dt p h seq ts marker field narrow false room rows) s fun t =>
         t.rd Fld.ETH_FLOW_CNT_MALFORMED f = s.counted Fld.ETH_FLOW_CNT_MALFORMED f 1 ∧
         Framed dt s t [(Fld.ETH_FLOW_CNT_MALFORMED, f), (Fld.ETH_CNT_RX_FRAMES_CNT, p), (Fld.ETH_CNT_RX_OCTETS_CNT, p)] []) ∧
  (∀ (s : State) (dt : Nat) (p : Fin 18) (h : FrameHdr) (f : Fin 4096) (seq : BitVec 16) (ts : BitVec 32) (payload : List
     Byte) (k d fl : Nat), s.runs → s.portUp p = true ∧ s.matchFlow p h = some f.val ∧ 64 ≤ h.len ∧ h.len ≤ s.rd
     Fld.ETH_PORT_CTL_MAX_FRAME p ∧ h.dport.toNat ∉ [123, 319, 320] → s.rd Fld.ETH_FLOW_CTL_TYPE f = 1 ∧ s.pairOf f = none ∧
     (s.flowRx f).alive = true → s.fenced .flow f = false ∧ s.fenced .port (s.rd Fld.ETH_FLOW_CTL_PORT f) = false →
     s.flowSlots f = [k] ∧ (s.listed Fld.CELL_DST_BIND_EN).filter (fun d => s.dst22 d && s.on Fld.WARP_DST_CFG_EN d) = [d] →
     s.waiting .dst d = [] ∧ s.rd Fld.WARP_DST_ROUTE_SRC d = k ∧ (s.dstOf d).skip22 = false ∧ s.fenced .dst d = false →
     s.dstFlow d = some fl ∧ s.on Fld.ETH_FLOW_CTL_PAIR_EN fl = false ∧ s.on Fld.ETH_FLOW_CTL_EN fl = true ∧ s.fenced .flow fl
     = false → s.mode = .service ∧ (s.start dt).mediaAt (fine (s.start dt).now) = true ∧ s.fenced .port (s.rd
     Fld.ETH_FLOW_CTL_PORT fl) = false → s.sends (s.rd Fld.ETH_FLOW_CTL_PORT fl) 1 →
       Completes (.st211022Packet dt p h seq ts false true payload) s fun t =>
         Output.frame (s.rd Fld.ETH_FLOW_CTL_PORT fl) 1 (some (s.rd Fld.ETH_FLOW_HDR_PCP fl)) (.media 0 fl (s.flowFrame fl (s.rtpHead
           fl false (s.dstOf d).rtpSeq ts.toNat ++ payload))) ∈ t.out ∧
         (t.dstOf d).rtpSeq = ((s.dstOf d).rtpSeq + 1) % 65536) ∧
  (∀ (s : State) (dt : Nat) (p : Fin 18) (h : FrameHdr) (f : Fin 4096) (seq : BitVec 16) (ts : BitVec 32) (l16 : Bool)
     (samples : List (List (BitVec 24))) (c : Nat), s.runs → s.portUp p = true ∧ s.matchFlow p h = some f.val ∧ 64 ≤ h.len ∧
     h.len ≤ s.rd Fld.ETH_PORT_CTL_MAX_FRAME p ∧ h.dport.toNat ∉ [123, 319, 320] → s.rd Fld.ETH_FLOW_CTL_TYPE f = 2 ∧ s.pairOf
     f = none ∧ (s.flowRx f).alive = true → s.fenced .flow f = false ∧ s.fenced .port (s.rd Fld.ETH_FLOW_CTL_PORT f) = false →
     samples.length = s.flowSamples f ∧ ((samples.any fun l => l.length != s.flowChans f) = false) → s.mash.rateBad = [] ∧ c <
     s.flowChans f →
       Completes (.st211030Packet dt p h seq ts true l16 samples) s fun t =>
         (t.inqOf (s.flowBase f + c) = s.inqOf (s.flowBase f + c) ++ samples.map fun l => (l.map fun (x : BitVec 24) => if l16 then (x
           <<< 8).toInt else x.toInt).getD c 0) ∧
         t.rd Fld.ETH_FLOW_CNT_PKT f = s.counted Fld.ETH_FLOW_CNT_PKT f 1 ∧ (t.flowRx f).last = s.up + dt) ∧
  (∀ (s : State) (dt : Nat) (p : Fin 18) (h : FrameHdr) (f : Fin 4096) (seq : BitVec 16) (ts : BitVec 32) (subframes : List
     (List Aes3)) (c : Nat), s.runs → s.portUp p = true ∧ s.matchFlow p h = some f.val ∧ 64 ≤ h.len ∧ h.len ≤ s.rd
     Fld.ETH_PORT_CTL_MAX_FRAME p ∧ h.dport.toNat ∉ [123, 319, 320] → s.rd Fld.ETH_FLOW_CTL_TYPE f = 3 ∧ s.pairOf f = none ∧
     (s.flowRx f).alive = true → s.fenced .flow f = false ∧ s.fenced .port (s.rd Fld.ETH_FLOW_CTL_PORT f) = false →
     subframes.length = s.flowSamples f ∧ ((subframes.any fun l => l.length != s.flowChans f) = false) → s.mash.rateBad = [] ∧
     c < s.flowChans f →
       Completes (.st211031Packet dt p h seq ts true subframes) s fun t =>
         (t.inqOf (s.flowBase f + c) = s.inqOf (s.flowBase f + c) ++ subframes.map fun l => (l.map fun x => x.audio.toInt).getD c 0) ∧
         t.rd Fld.ETH_FLOW_CNT_PKT f = s.counted Fld.ETH_FLOW_CNT_PKT f 1 ∧ (t.flowRx f).last = s.up + dt) ∧
  (∀ (s : State) (dt : Nat) (p : Fin 18) (h : FrameHdr) (f : Fin 4096) (seq : BitVec 16) (newFrame : Bool) (payload p' : List
     Byte) (g k : Nat) (v : Frame) (rest : List Frame), s.runs → s.portUp p = true ∧ s.matchFlow p h = some f.val ∧ 64 ≤ h.len
     ∧ h.len ≤ s.rd Fld.ETH_PORT_CTL_MAX_FRAME p ∧ h.dport.toNat ∉ [123, 319, 320] → s.rd Fld.ETH_FLOW_CTL_TYPE f = 4 ∧
     s.pairOf f = none ∧ (s.flowRx f).alive = true → s.fenced .flow f = false ∧ s.fenced .port (s.rd Fld.ETH_FLOW_CTL_PORT f)
     = false → s.assocOf f = some g ∧ s.flowSlots (s.pathA g) = [k] ∧ (ancTake [] (payload.drop 4) false).1 = [p'] → ancKind
     p' = .other ∧ (s.srcOf k).vat = v :: rest ∧ v.anc = [] → (s.srcOf k).ancPlace (fmtOf (s.srcFmt k)) (ancLine p') = 1 →
       Completes (.st211040Packet dt p h seq newFrame true payload) s fun t =>
         (t.srcOf k).vat = { v with anc := [p'] } :: rest ∧
         t.rd Fld.ETH_FLOW_CNT_PKT f = s.counted Fld.ETH_FLOW_CNT_PKT f 1) ∧
  (∀ (s : State) (dt : Nat) (f : Fin 4096) (m : Fmt), s.runs → fmtOf (s.lossFmt f) = some m ∧ (s.flowRx f).alive = true ∧
     s.pairOf f = none → (s.rd Fld.ETH_FLOW_CTL_TYPE f = 0 ∨ s.rd Fld.ETH_FLOW_CTL_TYPE f = 4) → m.period * 5 / 4 ≤ fine (s.up
     + dt - (s.flowRx f).last) →
       Completes (.flowLostTimeout dt f) s fun t =>
         (t.flowRx f).alive = false ∧ t.rd Fld.ETH_FLOW_STAT_LOST f = 1) ∧
  (∀ (s : State) (dt : Nat) (f : Fin 4096), s.runs → (s.flowRx f).alive = true ∧ s.pairOf f = none → (s.rd
     Fld.ETH_FLOW_CTL_TYPE f = 2 ∨ s.rd Fld.ETH_FLOW_CTL_TYPE f = 3) → (s.flowRx f).last + ms 10 ≤ s.up + dt →
       Completes (.audioFlowLostTimeout dt f) s fun t =>
         (t.flowRx f).alive = false ∧ t.rd Fld.ETH_FLOW_STAT_LOST f = 1)

/-- A master port: Sync, Follow_Up, Announce and metadata, messages of no supported type, and the answer to a Delay_Req. Time,
what is sent, and other choices of the model: log entries 1, 2, 47, 48, 49 and 146. -/
def Obligations.TimeMaster : Prop :=
  (∀ (s : State) (dt : Nat) (p : Fin 18), s.runs → s.multicasts p = true ∧ s.on Fld.TSVC_PORT_CFG_AUTH p = false → (s.tportOf
     p).syncAt.all (fun b => b + ns 125000000 ≤ s.up + dt) = true ∧ s.tsvc.sent = [] → s.sends p 0 →
       Completes (.syncTx dt p) s fun t =>
         s.framed p (.ptp p none none (.sync (s.tportOf p).syncSeq)) ∈ t.out ∧
         (t.tportOf p).syncSeq = ((s.tportOf p).syncSeq + 1) % 65536 ∧ (t.tportOf p).syncAt = some (s.up + dt) ∧
         t.tsvc.sent = [(p.val, (s.tportOf p).syncSeq, ((s.start dt).txStamp p).toNat, (s.start dt).teb)]) ∧
  (∀ (s : State) (dt : Nat) (p : Fin 18) (seq b teb : Nat), s.runs → s.tsvc.sent.find? (fun q => q.1 == p.val) = some (p.val,
     seq, b, teb) → s.tsRun = true ∧ s.ptpRole p = 1 ∧ s.on Fld.TSVC_PORT_CFG_AUTH p = false → s.sends p 2 →
       Completes (.followUpTx dt p none) s fun t =>
         s.framed p (.ptp p none none (.followUp seq (b / 65536) (b % 65536) ((s.start dt).tebTlv teb))) ∈ t.out ∧
         t.tsvc.sent = terase s.tsvc.sent p) ∧
  (∀ (s : State) (dt : Nat) (p : Fin 18) (i : Fin 1048576) (seq b teb : Nat), s.runs → s.tsvc.sent.find? (fun q => q.1 == 32 +
     i.val) = some (32 + i.val, seq, b, teb) → s.tsRun = true ∧ s.ptpRole p = 1 ∧ (s.tentOf i).auth = false ∧ (s.tentOf
     i).port = p.val → s.sends p 2 →
       Completes (.followUpTx dt p (some i)) s fun t =>
         s.framed p (.ptp p (some ((s.tentOf i).mac, (s.tentOf i).ip, (s.tentOf i).udp)) none (.followUp seq (b / 65536) (b % 65536)
           ((s.start dt).tebTlv teb))) ∈ t.out) ∧
  (∀ (s : State) (dt : Nat) (p : Fin 18), s.runs → s.multicasts p = true ∧ s.on Fld.TSVC_PORT_CFG_AUTH p = false ∧ (s.tportOf
     p).annAt = none → s.sends p 2 →
       Completes (.announceTx dt p) s fun t =>
         s.framed p (.ptp p none none (.announce (s.tportOf p).annSeq (-2) (s.start dt).announceData ((s.start dt).tebTlv (s.start
           dt).teb))) ∈ t.out ∧
         (t.tportOf p).annSeq = ((s.tportOf p).annSeq + 1) % 65536 ∧ (t.tportOf p).annAt = some (s.up + dt)) ∧
  (∀ (s : State) (dt : Nat) (p : Fin 18), s.runs → s.multicasts p = true ∧ s.on Fld.TSVC_PORT_CFG_AUTH p = false ∧ (s.tportOf
     p).metaAt = none → s.sends p 2 →
       Completes (.syncMetadataTx dt p) s fun t =>
         s.framed p (.ptp p none none (.metadata (s.tportOf p).metaSeq (s.rd Fld.KILN_UTC_UTC_OFFSET 0) (s.on Fld.KILN_UTC_LEAP61 0)
           (s.on Fld.KILN_UTC_LEAP59 0))) ∈ t.out ∧
         (t.tportOf p).metaSeq = ((s.tportOf p).metaSeq + 1) % 65536 ∧ (t.tportOf p).metaAt = some (s.up + dt)) ∧
  (∀ (s : State) (dt : Nat) (p : Fin 18) (len : Nat), s.runs → s.portUp p = true ∧ 64 ≤ len ∧ len ≤ s.rd
     Fld.ETH_PORT_CTL_MAX_FRAME p ∧ s.ptpRole p ≠ 0 →
       Completes (.managementMessage dt p len) s fun t =>
         t.rd Fld.TSVC_CNT_FILTER_CNT p = s.counted Fld.TSVC_CNT_FILTER_CNT p 1 ∧
         Framed dt s t [(Fld.TSVC_CNT_FILTER_CNT, p), (Fld.ETH_CNT_RX_FRAMES_CNT, p), (Fld.ETH_CNT_RX_OCTETS_CNT, p)] [.tsvc]) ∧
  (∀ (s : State) (dt : Nat) (p : Fin 18) (len : Nat), s.runs → s.portUp p = true ∧ 64 ≤ len ∧ len ≤ s.rd
     Fld.ETH_PORT_CTL_MAX_FRAME p ∧ s.ptpRole p ≠ 0 →
       Completes (.pdelayMessage dt p len) s fun t =>
         t.rd Fld.TSVC_CNT_FILTER_CNT p = s.counted Fld.TSVC_CNT_FILTER_CNT p 1 ∧
         Framed dt s t [(Fld.TSVC_CNT_FILTER_CNT, p), (Fld.ETH_CNT_RX_FRAMES_CNT, p), (Fld.ETH_CNT_RX_OCTETS_CNT, p)] [.tsvc]) ∧
  (∀ (s : State) (dt : Nat) (p : Fin 18) (h : PtpHdr), s.runs → s.sends p 2 → 64 ≤ h.len ∧ h.len ≤ s.rd
     Fld.ETH_PORT_CTL_MAX_FRAME p → h.version = 2 ∧ h.sdo = 0 ∧ h.domain.toNat = s.rd Fld.TSVC_PORT_CFG_DOMAIN p ∧ h.auth =
     none → s.ptpRole p = 1 ∧ s.tsRun = true ∧ s.on Fld.TSVC_PORT_CFG_AUTH p = false → h.multicast = true ∧ (s.tsvc.load + 2)
     * 128 + s.ptpResvAll ≤ 20000000 * 128 →
       Completes (.delayReq dt p h) s fun t =>
         s.framed p (.ptp p (some (h.smac.toNat, h.sip.toNat, h.sport.toNat)) none ((s.start dt).delayAnswer p h (-3))) ∈ t.out ∧
         Framed dt s t [(Fld.ETH_CNT_RX_FRAMES_CNT, p), (Fld.ETH_CNT_RX_OCTETS_CNT, p)] [.tsvc])

/-- Unicast grants: requested, cancelled, expired, and what is due under them. Time, what is sent, and other choices of the model:
log entries 1, 2, 45 and 46. -/
def Obligations.TimeGrants : Prop :=
  (∀ (s : State) (dt : Nat) (p : Fin 18) (h : PtpHdr) (i : Nat) (q : UniReq), s.runs → s.sends p 2 → 64 ≤ h.len ∧ h.len ≤ s.rd
     Fld.ETH_PORT_CTL_MAX_FRAME p → h.version = 2 ∧ h.sdo = 0 ∧ h.domain.toNat = s.rd Fld.TSVC_PORT_CFG_DOMAIN p ∧ h.auth =
     none → s.ptpRole p = 1 ∧ s.tsRun = true ∧ s.on Fld.TSVC_PORT_CFG_AUTH p = false → s.on Fld.TSVC_PORT_CFG_UNICAST p = true
     ∧ s.sessionOf p h = some i → (q.kind = 11 ∨ q.kind = 0 ∨ q.kind = 9) → (s.grantRange p q.kind.toNat).1 ≤
     q.logInterval.toInt ∧ q.logInterval.toInt ≤ (s.grantRange p q.kind.toNat).2 ∧ 10 ≤ q.duration.toNat → s.ptpResv p +
     rateCost q.logInterval.toInt (q.kind != 11) ≤ s.rd Fld.TSVC_NEG_LIM_PPS_LIM p * 1000 * 128 → s.ptpResvAll + rateCost
     q.logInterval.toInt (q.kind != 11) ≤ 16000000 * 128 →
       Completes (.requestUnicastTransmission dt p h [q]) s fun t =>
         ((t.tentOf i).grant q.kind.toNat).on = true ∧ ((t.tentOf i).grant q.kind.toNat).log = q.logInterval.toInt ∧
         ((t.tentOf i).grant q.kind.toNat).dur = min q.duration.toNat (s.rd Fld.TSVC_NEG_LIM_MAX_DUR p) ∧
         ((t.tentOf i).grant q.kind.toNat).expiry = ((s.start dt).count + min q.duration.toNat (s.rd Fld.TSVC_NEG_LIM_MAX_DUR p) *
           1000000000) % 2 ^ 64 ∧
         s.framed p (.ptp p (some (h.smac.toNat, (if (s.tentOf i).ip = 0 then h.sip.toNat else (s.tentOf i).ip), h.sport.toNat)) none
           (.grants [(q.kind.toNat, q.logInterval.toInt, min q.duration.toNat (s.rd Fld.TSVC_NEG_LIM_MAX_DUR p))])) ∈ t.out) ∧
  (∀ (s : State) (dt : Nat) (p : Fin 18) (h : PtpHdr) (i : Nat) (k : BitVec 4), s.runs → s.sends p 2 → 64 ≤ h.len ∧ h.len ≤
     s.rd Fld.ETH_PORT_CTL_MAX_FRAME p → h.version = 2 ∧ h.sdo = 0 ∧ h.domain.toNat = s.rd Fld.TSVC_PORT_CFG_DOMAIN p ∧ h.auth
     = none → s.ptpRole p = 1 ∧ s.tsRun = true ∧ s.on Fld.TSVC_PORT_CFG_AUTH p = false → s.on Fld.TSVC_PORT_CFG_UNICAST p =
     true ∧ s.sessionOf p h = some i → (k = 11 ∨ k = 0 ∨ k = 9) →
       Completes (.cancelUnicastTransmission dt p h [k]) s fun t =>
         ((t.tentOf i).grant k.toNat).on = false ∧
         s.framed p (.ptp p (some (h.smac.toNat, (if (s.tentOf i).ip = 0 then h.sip.toNat else (s.tentOf i).ip), h.sport.toNat)) none
           (.cancelAcks [k.toNat])) ∈ t.out) ∧
  (∀ (s : State) (dt : Nat) (i : Fin 1048576) (kind : BitVec 4), s.runs → ((s.tentOf i).grant kind.toNat).on = true ∧ reached
     (s.start dt).count ((s.tentOf i).grant kind.toNat).expiry = true →
       Completes (.grantExpire dt i kind) s fun t =>
         ((t.tentOf i).grant kind.toNat) = { (s.tentOf i).grant kind.toNat with on := false } ∧
         Framed dt s t [] [.tsvc]) ∧
  (∀ (s : State) (dt : Nat) (i : Fin 1048576) (p : Fin 18), s.runs → (s.tentOf i).ann.on = true ∧ reached (s.start dt).count
     (s.tentOf i).ann.due = true → s.tsRun = true ∧ s.ptpRole p = 1 ∧ (s.tentOf i).port = p.val ∧ (s.tentOf i).auth = false →
     s.sends p 2 →
       Completes (.grantDue dt i false) s fun t =>
         (t.tentOf i).ann.due = ((s.tentOf i).ann.due + logNs (s.tentOf i).ann.log) % 2 ^ 64 ∧
         (t.tentOf i).ann.seq = ((s.tentOf i).ann.seq + 1) % 65536 ∧
         s.framed p (.ptp p (some ((s.tentOf i).mac, (s.tentOf i).ip, (s.tentOf i).udp)) none (.announce (s.tentOf i).ann.seq (s.tentOf
           i).ann.log (s.start dt).announceData ((s.start dt).tebTlv (s.start dt).teb))) ∈ t.out) ∧
  (∀ (s : State) (dt : Nat) (i : Fin 1048576) (p : Fin 18), s.runs → (s.tentOf i).syn.on = true ∧ reached (s.start dt).count
     (s.tentOf i).syn.due = true → s.tsRun = true ∧ s.ptpRole p = 1 ∧ (s.tentOf i).port = p.val ∧ (s.tentOf i).auth = false ∧
     s.tsvc.sent = [] → s.sends p 0 →
       Completes (.grantDue dt i true) s fun t =>
         (t.tentOf i).syn.due = ((s.tentOf i).syn.due + logNs (s.tentOf i).syn.log) % 2 ^ 64 ∧
         s.framed p (.ptp p (some ((s.tentOf i).mac, (s.tentOf i).ip, (s.tentOf i).udp)) none (.sync (s.tentOf i).syn.seq)) ∈ t.out ∧
         t.tsvc.sent = [(32 + i.val, (s.tentOf i).syn.seq, ((s.start dt).txStamp p).toNat, (s.start dt).teb)])

/-- A client port: the master it follows, Sync and Follow_Up, its Delay_Req and the answer, and its timeouts. Time, what is sent,
and other choices of the model: log entries 1, 2, 49, 66, 88 and 156. -/
def Obligations.TimeClient : Prop :=
  (∀ (s : State) (dt : Nat) (p : Fin 18) (h : PtpHdr) (log : BitVec 8) (data : AnnData), s.runs → 64 ≤ h.len ∧ h.len ≤ s.rd
     Fld.ETH_PORT_CTL_MAX_FRAME p → h.version = 2 ∧ h.sdo = 0 ∧ h.domain.toNat = s.rd Fld.TSVC_PORT_CFG_DOMAIN p ∧ h.auth =
     none → h.multicast = true ∧ s.ptpRole p = 2 ∧ s.on Fld.TSVC_PORT_CFG_AUTH p = false ∧ s.portUp p = true → (s.clientOf
     p).foreign = [] ∧ (s.clientOf p).best = none → data.clockClass.toNat ≤ s.rd Fld.TSVC_PORT_CFG_ACC_CLASS p ∧
     data.steps.toNat < 255 ∧ data.gmId.toNat ≠ s.rd Fld.TSVC_CLOCK_ID_ID 0 →
       Completes (.announce dt p h log data) s fun t =>
         (t.clientOf p).best = some h.srcId.toNat ∧
         (t.clientOf p).foreign = [⟨h.srcId.toNat, data, log.toInt, s.up + dt, 0⟩] ∧
         t.rd Fld.TSVC_PORT_STAT_STATE p = 3) ∧
  (∀ (s : State) (dt : Nat) (p : Fin 18) (h : PtpHdr) (seconds : BitVec 48) (nanos : BitVec 32), s.runs → 64 ≤ h.len ∧ h.len ≤
     s.rd Fld.ETH_PORT_CTL_MAX_FRAME p → h.version = 2 ∧ h.sdo = 0 ∧ h.domain.toNat = s.rd Fld.TSVC_PORT_CFG_DOMAIN p ∧ h.auth
     = none → h.multicast = true ∧ s.ptpRole p = 2 ∧ s.on Fld.TSVC_PORT_CFG_AUTH p = false ∧ s.portUp p = true → (s.clientOf
     p).best = some h.srcId.toNat →
       Completes (.sync dt p h true seconds nanos) s fun t =>
         (t.clientOf p).sync = some (h.seqId.toNat, (s.start dt).rxStamp p, h.corr.toInt) ∧
         Framed dt s t [(Fld.ETH_CNT_RX_FRAMES_CNT, p), (Fld.ETH_CNT_RX_OCTETS_CNT, p)] [.tsvc]) ∧
  (∀ (s : State) (dt : Nat) (p : Fin 18) (h : PtpHdr) (seconds : BitVec 48) (nanos : BitVec 32), s.runs → 64 ≤ h.len ∧ h.len ≤
     s.rd Fld.ETH_PORT_CTL_MAX_FRAME p → h.version = 2 ∧ h.sdo = 0 ∧ h.domain.toNat = s.rd Fld.TSVC_PORT_CFG_DOMAIN p ∧ h.auth
     = none → h.multicast = true ∧ s.ptpRole p = 2 ∧ s.on Fld.TSVC_PORT_CFG_AUTH p = false ∧ s.portUp p = true → (s.clientOf
     p).best = some h.srcId.toNat →
       Completes (.sync dt p h false seconds nanos) s fun t =>
         (t.clientOf p).sync = none ∧ (t.clientOf p).cur = some (((sec seconds.toNat + ns nanos.toNat : Nat) : Int) + h.corr.toInt,
           (s.start dt).rxStamp p, none)) ∧
  (∀ (s : State) (dt : Nat) (p : Fin 18) (h : PtpHdr) (seconds : BitVec 48) (nanos : BitVec 32) (tebs : List TebTlv) (t2 corr
     : Int), s.runs → 64 ≤ h.len ∧ h.len ≤ s.rd Fld.ETH_PORT_CTL_MAX_FRAME p → h.version = 2 ∧ h.sdo = 0 ∧ h.domain.toNat =
     s.rd Fld.TSVC_PORT_CFG_DOMAIN p ∧ h.auth = none → h.multicast = true ∧ s.ptpRole p = 2 ∧ s.on Fld.TSVC_PORT_CFG_AUTH p =
     false ∧ s.portUp p = true → (s.clientOf p).best = some h.srcId.toNat ∧ (s.clientOf p).sync = some (h.seqId.toNat, t2,
     corr) →
       Completes (.followUp dt p h seconds nanos tebs) s fun t =>
         (t.clientOf p).sync = none ∧ (t.clientOf p).cur = some (((sec seconds.toNat + ns nanos.toNat : Nat) : Int) + corr +
           h.corr.toInt, t2, (tebs.find? fun b => b.org.toNat == s.rd Fld.TSVC_ORG_ID_ORG_ID 0).map fun b => b.teb.toNat)) ∧
  (∀ (s : State) (dt : Nat) (p : Fin 18), s.runs → s.ptpRole p = 2 ∧ 3 ≤ s.rd Fld.TSVC_PORT_STAT_STATE p ∧ (s.clientOf
     p).reqAt = none ∧ s.on Fld.TSVC_PORT_CFG_AUTH p = false → s.sends p 0 →
       Completes (.clientDelayReqTx dt p) s fun t =>
         s.framed p (.ptp p none none (.delayReq (s.clientOf p).reqSeq)) ∈ t.out ∧
         (t.clientOf p).req = some ((s.clientOf p).reqSeq, (s.start dt).txStamp p) ∧ (t.clientOf p).reqSeq = ((s.clientOf p).reqSeq +
           1) % 65536) ∧
  (∀ (s : State) (dt : Nat) (p : Fin 18) (h : PtpHdr) (log : BitVec 8) (seconds : BitVec 48) (nanos : BitVec 32) (t1 t2 t3 :
     Int) (teb : Option Nat), s.runs → 64 ≤ h.len ∧ h.len ≤ s.rd Fld.ETH_PORT_CTL_MAX_FRAME p → h.version = 2 ∧ h.sdo = 0 ∧
     h.domain.toNat = s.rd Fld.TSVC_PORT_CFG_DOMAIN p ∧ h.auth = none → h.multicast = true ∧ s.ptpRole p = 2 ∧ s.on
     Fld.TSVC_PORT_CFG_AUTH p = false ∧ s.portUp p = true → (s.clientOf p).best = some h.srcId.toNat ∧ (s.clientOf p).req =
     some (h.seqId.toNat, t3) ∧ (s.clientOf p).cur = some (t1, t2, teb) → s.portIdentity p < 2 ^ 80 ∧ s.rd
     Fld.TSVC_PORT_STAT_STATE p = 3 ∧ (s.clientOf p).good = 7 →
       Completes (.delayResp dt p h log (BitVec.ofNat 80 (s.portIdentity p)) seconds nanos) s fun t =>
         (t.clientOf p).good = 8 ∧ (t.clientOf p).req = none ∧ (t.clientOf p).cur = none ∧ (t.clientOf p).reqLog = log.toInt ∧
         (t.clientOf p).delays = (((t2 - t1) + (((sec seconds.toNat + ns nanos.toNat : Nat) : Int) - h.corr.toInt - t3)) :: (s.clientOf
           p).delays).take 16 ∧
         t.rd Fld.TSVC_PORT_STAT_STATE p = 4 ∧ (t.refOf (5 + p)).there = true) ∧
  (∀ (s : State) (dt : Nat) (p : Fin 18) (f : Foreign), s.runs → (s.clientOf p).master = some f ∧ f.at_ + 3 * ns (logNs f.log)
     ≤ s.up + dt →
       Completes (.announceReceiptTimeout dt p) s fun t =>
         ((t.clientOf p).best = none ∧ (t.clientOf p).foreign = (s.clientOf p).foreign.filter fun g => g.id != f.id) ∧
         t.rd Fld.TSVC_PORT_STAT_STATE p = 1 ∧ (t.refOf (5 + p)).there = false) ∧
  (∀ (s : State) (dt : Nat) (p : Fin 18), s.runs → 3 ≤ s.rd Fld.TSVC_PORT_STAT_STATE p ∧ (s.clientOf p).doneAt + sec 1 ≤ s.up
     + dt →
       Completes (.exchangeTimeout dt p) s fun t =>
         (t.clientOf p).best = none ∧ (t.clientOf p).good = 0 ∧ (t.clientOf p).foreign = (s.clientOf p).foreign ∧
         t.rd Fld.TSVC_PORT_STAT_STATE p = 1 ∧ (t.refOf (5 + p)).there = false)

/-- NTP and NTS requests answered and refused, and an injected frame that is sent. Time, what is sent, and other choices of the
model: log entries 1, 2, 47, 48, 49 and 157. -/
def Obligations.TimeNtp : Prop :=
  (∀ (s : State) (dt : Nat) (p : Fin 18) (r : NtpReq) (turn : Nat), s.runs → s.sends p 2 → 64 ≤ r.len ∧ r.len ≤ s.rd
     Fld.ETH_PORT_CTL_MAX_FRAME p ∧ s.tsRun = true ∧ s.on Fld.TSVC_PORT_CFG_NTP_EN p = true → r.mode = 3 ∧ r.dip.toNat = tget
     0 s.eth.ip p.val ∧ s.on Fld.TSVC_NTP_CFG_PLAIN_EN 0 = true ∧ r.version = 4 → (s.tsvc.load + 2) * 128 + s.ptpResvAll ≤
     20000000 * 128 →
       Completes (.ntpRequest dt p r turn) s fun t =>
         s.framed p (.ntp p r.sip.toNat r.sport.toNat ((s.start dt).ntpReply p r turn).1) ∈ t.out ∧
         (((s.start dt).ntpReply p r turn).1.origin = r.xmt.toNat ∧ ((s.start dt).ntpReply p r turn).1.stratum = if s.unsynced then 16
           else 1)) ∧
  (∀ (s : State) (dt : Nat) (p : Fin 18) (r : NtpReq) (turn : Nat), s.runs → s.portUp p = true → 64 ≤ r.len ∧ r.len ≤ s.rd
     Fld.ETH_PORT_CTL_MAX_FRAME p ∧ s.tsRun = true → s.on Fld.TSVC_PORT_CFG_NTP_EN p = false →
       Completes (.ntpRequest dt p r turn) s fun t =>
         t.rd Fld.TSVC_CNT_FILTER_CNT p = s.counted Fld.TSVC_CNT_FILTER_CNT p 1 ∧
         Framed dt s t [(Fld.TSVC_CNT_FILTER_CNT, p), (Fld.ETH_CNT_RX_FRAMES_CNT, p), (Fld.ETH_CNT_RX_OCTETS_CNT, p)] [.tsvc]) ∧
  (∀ (s : State) (dt : Nat) (p : Fin 18) (r : NtpReq) (uid : List Byte) (c : NtsCookie) (turn n : Nat), s.runs → s.sends p 2 →
     64 ≤ r.len ∧ r.len ≤ s.rd Fld.ETH_PORT_CTL_MAX_FRAME p ∧ s.tsRun = true ∧ s.on Fld.TSVC_PORT_CFG_NTP_EN p = true → r.mode
     = 3 ∧ r.dip.toNat = tget 0 s.eth.ip p.val ∧ s.on Fld.TSVC_NTP_CFG_NTS_EN 0 = true ∧ r.version = 4 → (s.tsvc.load + 2) *
     128 + s.ptpResvAll ≤ 20000000 * 128 → 32 ≤ uid.length ∧ n ≤ 7 → s.ntsOk ⟨[uid], [c], n, true, some c.c2s⟩ c = false →
       Completes (.ntsRequest dt p r ⟨[uid], [c], n, true, some c.c2s⟩ turn) s fun t =>
         t.rd Fld.TSVC_CNT_NTS_NAK_CNT p = s.counted Fld.TSVC_CNT_NTS_NAK_CNT p 1 ∧
         s.framed p (.ntp p r.sip.toNat r.sport.toNat
           { ((s.start dt).ntpReply p r turn).1 with li := 3, stratum := 0, refId := refText "NTSN", uid := some uid }) ∈
           t.out) ∧
  (∀ (s : State) (dt : Nat) (p : Fin 18) (r : NtpReq) (uid : List Byte) (c : NtsCookie) (turn m : Nat), s.runs → s.sends p 2 →
     64 ≤ r.len ∧ r.len ≤ s.rd Fld.ETH_PORT_CTL_MAX_FRAME p ∧ s.tsRun = true ∧ s.on Fld.TSVC_PORT_CFG_NTP_EN p = true → r.mode
     = 3 ∧ r.dip.toNat = tget 0 s.eth.ip p.val ∧ s.on Fld.TSVC_NTP_CFG_NTS_EN 0 = true ∧ r.version = 4 → (s.tsvc.load + 2) *
     128 + s.ptpResvAll ≤ 20000000 * 128 → 32 ≤ uid.length ∧ s.ntsIssue = some m ∧ ntsLen uid.length 1 + udpFrame ≤ r.len →
     s.ntsOk ⟨[uid], [c], 0, true, some c.c2s⟩ c = true →
       Completes (.ntsRequest dt p r ⟨[uid], [c], 0, true, some c.c2s⟩ turn) s fun t =>
         s.framed p (.ntp p r.sip.toNat r.sport.toNat
           { ((s.start dt).ntpReply p r turn).1 with uid := some uid, cookies := [s.rd Fld.TSVC_NTS_MKEY_ID_ID m], sealedBy := some c.s2c.toNat })
           ∈ t.out) ∧
  (∀ (s : State) (dt : Nat) (p : Fin 18) (j : InjectS), s.runs → s.tsvc.inj = some j ∧ j.port = p.val ∧ j.ts = true ∧
     (s.tportOf p).txts.length < 64 → s.sends p j.queue →
       Completes (.injectedFrameSent dt) s fun t =>
         s.framed p (.injected p j.queue (s.bytesAt (caskAddr j.addr) j.len)) ∈ t.out ∧
         t.tsvc.inj = none ∧ t.rd Fld.TSVC_INJECT_CTL_GO 0 = 0 ∧
         (t.tportOf p).txts = (s.tportOf p).txts ++ [(j.id, false, ((s.start dt).txStamp p).toNat)] ∧
         Framed dt s t [(Fld.TSVC_INJECT_CTL_GO, 0)] [.tsvc]) ∧
  (∀ (s : State) (dt : Nat) (p : Fin 18) (j : InjectS), s.runs → s.tsvc.inj = some j ∧ j.port = p.val ∧ j.ts = true ∧ 64 ≤
     (s.tportOf p).txts.length →
       Completes (.injectedFrameSent dt) s fun t =>
         bitOf (t.rd Fld.TSVC_TXTS_STAT_OVF 0) p = true ∧ t.stands 324 0 = true ∧
         t.rd Fld.TSVC_CNT_TXTS_LOST_CNT p = s.counted Fld.TSVC_CNT_TXTS_LOST_CNT p 1)

/-- Audio ports: pre-roll and stop, frames sent and received, masks at a frame sync, and faults of external clocks. Time, what is
sent, and other choices of the model: log entries 1, 2, 40, 73, 75, 82 and 151. -/
def Obligations.AudioPorts : Prop :=
  (∀ (s : State) (dt : Nat) (p : Fin 24), s.runs → s.portState p = 1 ∧ s.rd Fld.APRT_PORT_CTL_PREROLL_N p ≤ (s.portOf
     p).frames →
       Completes (.prerollDone dt p) s fun t =>
         t.portState p = 2 ∧
         Framed dt s t [(Fld.APRT_PORT_STAT_STATE, p)] []) ∧
  (∀ (s : State) (dt : Nat) (p : Fin 24), s.runs → s.portState p = 3 ∧ s.rd Fld.APRT_PORT_CTL_PREROLL_N p ≤ (s.portOf
     p).frames →
       Completes (.stopDone dt p) s fun t =>
         (t.portState p = if (s.portOf p).again then 1 else 0) ∧
         t.stands 224 p = false ∧ t.stands 225 p = false) ∧
  (∀ (s : State) (dt : Nat) (p : Fin 24) (rx : List (BitVec 32)) (ppm : BitVec 20), s.runs → p.val < 16 ∧ s.portState p = 1 ∧
     s.portMaster p = true ∧ s.waiting .aport p = [] →
       Completes (.frameSync dt p rx ppm) s fun t =>
         (t.portOf p).frames = (s.portOf p).frames + 1 ∧
         s.tdmFrame p (s.portOff p) [] ∈ t.out) ∧
  (∀ (s : State) (dt : Nat) (p : Fin 24) (rx : List (BitVec 32)) (ppm : BitVec 20) (i j : Nat), s.runs → p.val < 16 ∧
     s.portState p = 2 ∧ s.rd Fld.APRT_PORT_CTL_CLK_MODE p = 1 ∧ (s.portOf p).glitch = false → s.waiting .aport p = [] ∧
     s.fenced .aport p = false → ((List.range (s.portSlots p)).filter fun x => bitOf (s.portMask p) x)[i]? = some j →
       Completes (.frameSync dt p rx ppm) s fun t =>
         t.inqOf (s.rd Fld.APRT_BIND_RX_BASE p + i) = s.inqOf (s.rd Fld.APRT_BIND_RX_BASE p + i) ++ [tdmSample (rx.getD j 0)] ∧
         s.tdmFrame p (s.portOff p) ((List.range (popcount (s.portMask p) 64)).map fun x => s.outAt (s.rd Fld.APRT_BIND_TX_BASE p + x))
           ∈ t.out) ∧
  (∀ (s : State) (dt : Nat) (p : Fin 24) (rx : List (BitVec 32)) (ppm : BitVec 20), s.runs → 16 ≤ p.val ∧ s.portState p = 2 ∧
     (s.portOf p).glitch = false ∧ s.waiting .aport p = [] ∧ s.fenced .aport p = false → ((rx.take (s.portSlots p)).filter fun
     w => !madiOk w) ≠ [] →
       let bad := ((rx.take (s.portSlots p)).filter fun w => !madiOk w).length
       Completes (.frameSync dt p rx ppm) s fun t =>
         t.rd Fld.APRT_CNT_PARITY_CNT p = s.counted Fld.APRT_CNT_PARITY_CNT p bad ∧
         t.stands 226 p = true ∧
         t.rd Fld.APRT_PORT_STAT_PPM p = ppm.toNat ∧
         (t.portOf p).txn = ((s.portOf p).txn + 1) % 192) ∧
  (∀ (s : State) (dt : Nat) (p : Fin 24) (rx : List (BitVec 32)) (ppm : BitVec 20) (v mask ord at_ : Nat) (c : Change), s.runs
     → s.portState p = 1 ∧ s.portMaster p = true → s.staged = [⟨.APRT_MASK_LO, p, v, mask, ord, at_, none⟩] ∧ s.waiting .aport
     p = [c] → fine at_ ≤ fine ((s.start dt).now - s.portGuard p) →
       Completes (.frameSync dt p rx ppm) s fun t =>
         t.rd Fld.APRT_MASK_LO_MASK p = Fld.APRT_MASK_LO_MASK.merge (s.rd Fld.APRT_MASK_LO_MASK p) v mask % 2 ^ 32 ∧
         t.staged = []) ∧
  (∀ (s : State) (dt : Nat) (p : Fin 24), s.runs → s.portExt p = true ∧ (s.portState p = 1 ∨ s.portState p = 2 ∨ s.portState p
     = 5) →
       Completes (.portClockStop dt p) s fun t =>
         t.portState p = 4 ∧ t.rd Fld.APRT_PORT_STAT_CLK_PRESENT p = 0 ∧ (t.portOf p).clkOk = false ∧
         t.rd Fld.APRT_CNT_CLK_STOP_CNT p = s.counted Fld.APRT_CNT_CLK_STOP_CNT p 1 ∧
         t.stands 224 p = true) ∧
  (∀ (s : State) (dt : Nat) (p : Fin 24), s.runs → s.portExt p = true ∧ s.portState p ≠ 0 ∧ s.portState p ≠ 4 →
       Completes (.portClockGlitch dt p) s fun t =>
         (t.portOf p).glitch = true ∧
         t.rd Fld.APRT_CNT_GLITCH_CNT p = s.counted Fld.APRT_CNT_GLITCH_CNT p 1 ∧
         Framed dt s t [(Fld.APRT_CNT_GLITCH_CNT, p)] [.aprt]) ∧
  (∀ (s : State) (dt : Nat) (p : Fin 24), s.runs → s.portExt p = true ∧ (s.portState p = 1 ∨ s.portState p = 2) →
       Completes (.portRateChange dt p) s fun t =>
         t.portState p = 5 ∧ (t.portOf p).clkOk = false ∧
         t.rd Fld.APRT_CNT_UNLOCK_CNT p = s.counted Fld.APRT_CNT_UNLOCK_CNT p 1 ∧
         t.stands 225 p = true) ∧
  (∀ (s : State) (dt : Nat) (p : Fin 24), s.runs → s.portExt p = true ∧ (s.portState p = 4 ∨ s.portState p = 5) →
       Completes (.portClockQualified dt p) s fun t =>
         t.portState p = 1 ∧ (t.portOf p).clkOk = true ∧ (t.portOf p).frames = 0 ∧
         t.rd Fld.APRT_PORT_STAT_CLK_PRESENT p = 1 ∧
         t.stands 224 p = false ∧ t.stands 225 p = false)

/-- Cask's memory errors: corrected errors, what an uncorrectable one hit, and pages retired. Time, what is sent, and other
choices of the model: log entries 1, 2 and 114. -/
def Obligations.CaskErrors : Prop :=
  (∀ (s : State) (dt : Nat) (page : Fin 1572864), s.runs →
       Completes (.caskCorrectedError dt page) s fun t =>
         t.rd Fld.CASK_CNT_CE_CNT 0 = s.counted Fld.CASK_CNT_CE_CNT 0 1 ∧
         t.mntl.ce = s.mntl.ce + 1 ∧
         Framed dt s t [(Fld.CASK_CNT_CE_CNT, 0)] [.mntl, .cask]) ∧
  (∀ (s : State) (dt : Nat) (page : Fin 1572864), s.runs → s.rd Fld.CASK_ECC_CTL_CE_LIMIT 0 = 1 ∧ s.pageGone page = false →
     s.cask.copying.length < s.rd Fld.CASK_SPARE_STAT_SPARES_LEFT 0 →
       Completes (.caskCorrectedError dt page) s fun t =>
         t.cask.copying = s.cask.copying ++ [(page.val, 0)]) ∧
  (∀ (s : State) (dt : Nat) (page : Fin 1572864) (h : Fin 4096) (off : BitVec 32), s.runs →
       Completes (.caskUncorrectableError dt page (.surface h off)) s fun t =>
         t.rd Fld.CASK_CNT_UE_CNT 0 = s.counted Fld.CASK_CNT_UE_CNT 0 1 ∧
         t.mntl.ue = s.mntl.ue + 1 ∧ t.stands 128 0 = true ∧
         (∀ i : Fin 64, t.byteAt (surfAddr h (off.toNat / 64 * 64 + i)) = 0) ∧
         (∀ a : Nat, a < surfAddr h (off.toNat / 64 * 64) ∨ surfAddr h (off.toNat / 64 * 64) + 64 ≤ a → t.byteAt a = s.byteAt a)) ∧
  (∀ (s : State) (dt : Nat) (page : Fin 1572864) (k : Fin 1168) (slot line : Nat) (field : Bool) (fr : Frame), s.runs →
     (s.srcOf k).slots = [(slot, fr)] →
       Completes (.caskUncorrectableError dt page (.ring k slot field line)) s fun t =>
         (t.srcOf k).slots = [(slot, { fr with bad := (b2n field * 4096 + line) :: fr.bad, complete := false })] ∧
         t.stands 128 0 = true) ∧
  (∀ (s : State) (dt : Nat) (page : Fin 1572864) (i : Fin 1048576), s.runs →
       Completes (.caskUncorrectableError dt page (.session i)) s fun t =>
         (t.tentOf i).valid = false ∧ (t.tentOf i).anyGrant = false ∧
         t.stands 128 0 = true) ∧
  (∀ (s : State) (dt : Nat) (page : Fin 1572864) (at_ : UeAt), s.runs → s.pageGone page = false ∧ s.rd
     Fld.CASK_SPARE_STAT_SPARES_LEFT 0 ≤ s.cask.copying.length →
       Completes (.caskUncorrectableError dt page at_) s fun t =>
         t.stands 131 0 = true ∧
         t.cask.copying = s.cask.copying) ∧
  (∀ (s : State) (dt : Nat) (page : Fin 1572864), s.runs → s.cask.copying.find? (fun q => q.1 == page.val) = some (page.val,
     0) →
       Completes (.pageRetireDone dt page) s fun t =>
         (t.cask.copying = s.cask.copying.filter fun x => x.1 != page.val) ∧
         t.cask.retired = tinsert s.cask.retired page.val (16384 - s.rd Fld.CASK_SPARE_STAT_SPARES_LEFT 0) ∧
         t.rd Fld.CASK_CNT_RETIRED_CNT 0 = s.counted Fld.CASK_CNT_RETIRED_CNT 0 1 ∧
         t.stands 129 0 = true ∧ t.stands 130 0 = decide (s.rd Fld.CASK_SPARE_STAT_SPARES_LEFT 0 - 1 < 820) ∧
         (∀ a : Nat, t.byteAt a = s.byteAt a))

/-- The lease: renewals, acknowledgements, the lease pin, the lapse, claims and releases. Time, what is sent, and other choices of
the model: log entries 1, 2, 20, 52, 53, 138, 143 and 158. -/
def Obligations.MantleLease : Prop :=
  (∀ (s : State) (dt : Nat), s.runs → s.role = .holder ∧ s.mantleLink = true ∧ s.mntl.renewAt + s.leaseL / 4 ≤ s.up + dt →
       Completes (.renewTx dt) s fun t =>
         Output.mantle s.epoch (.renew s.mntl.renewN) ∈ t.out ∧ Output.leaseOut (!s.mntl.leaseOut) ∈ t.out ∧
         t.mntl.renewN = s.mntl.renewN + 1 ∧ t.mntl.renewAt = s.up + dt ∧ t.mntl.leaseOut = !s.mntl.leaseOut ∧
         Framed dt s t [] [.mntl]) ∧
  (∀ (s : State) (dt : Nat) (rx : RxCell) (cell d : List Byte) (h : Hdr), s.runs → s.hears rx cell h d 1 ∧ s.role = .standby ∧
     s.mntl.half = none →
       Completes (.renew dt rx) s fun t =>
         t.rd Fld.MNTL_STAT_EPOCH 0 = beAt d 1 1 ∧ t.mntl.ts = s.up + dt ∧ t.role = .standby ∧
         Output.mantle (beAt d 1 1) (.ack (beAt d 2 4)) ∈ t.out ∧
         Output.leaseOut (!s.mntl.leaseOut) ∈ t.out ∧
         Framed dt s t [(Fld.CELL_LINK_INFO_FAR_EPOCH, 32), (Fld.IZL_CNT_STUFF_VIOL_CNT, 32), (Fld.MNTL_STAT_EPOCH, 0)] [.cell, .bnd,
           .mntl]) ∧
  (∀ (s : State) (dt : Nat) (rx : RxCell) (cell d : List Byte) (h : Hdr), s.runs → s.hears rx cell h d 1 ∧ s.role = .holder →
     newerEpoch (beAt d 1 1) s.epoch = true →
       Completes (.renew dt rx) s fun t =>
         t.role = .standby ∧ t.mntl.flag = false ∧ t.rd Fld.MNTL_STAT_EPOCH 0 = beAt d 1 1 ∧
         t.rd Fld.MNTL_CNT_CONFLICT_CNT 0 = s.counted Fld.MNTL_CNT_CONFLICT_CNT 0 1 ∧
         t.stands 354 0 = true) ∧
  (∀ (s : State) (dt : Nat) (rx : RxCell) (cell d : List Byte) (h : Hdr), s.runs → s.hears rx cell h d 2 ∧ s.role = .holder →
     beAt d 2 4 + 1 = s.mntl.renewN →
       Completes (.ack dt rx) s fun t =>
         t.mntl.tc = s.mntl.renewAt ∧ t.mntl.ackAt = some (s.up + dt) ∧
         Framed dt s t [(Fld.CELL_LINK_INFO_FAR_EPOCH, 32), (Fld.IZL_CNT_STUFF_VIOL_CNT, 32)] [.cell, .bnd, .mntl]) ∧
  (∀ (s : State) (dt : Nat), s.runs → s.role = .holder ∧ 0 < s.mntl.renewN →
       Completes (.leaseInEdge dt) s fun t =>
         t.mntl.tc = s.mntl.renewAt ∧ t.mntl.ackAt = some (s.up + dt) ∧
         Framed dt s t [] [.mntl]) ∧
  (∀ (s : State) (dt : Nat), s.runs → s.role = .standby ∧ s.mntl.half = none ∧ s.mantleLink = true →
       Completes (.leaseInEdge dt) s fun t =>
         t.mntl.ts = s.up + dt ∧ t.mntl.seenN = s.mntl.seenN + 1 ∧
         Output.mantle s.epoch (.ack (s.mntl.seenN + 1)) ∈ t.out ∧
         Framed dt s t [] [.mntl]) ∧
  (∀ (s : State) (dt : Nat), s.runs → s.role = .holder ∧ s.mntl.tc + s.leaseL - ms 1 ≤ s.up + dt → s.mild →
       Completes (.leaseConfirmTimeout dt) s fun t =>
         t.role = .lapsed ∧ t.mntl.flag = false ∧ t.stands 352 0 = true ∧
         t.rd Fld.MNTL_CNT_LAPSE_CNT 0 = s.counted Fld.MNTL_CNT_LAPSE_CNT 0 1) ∧
  (∀ (s : State) (dt : Nat), s.runs → s.role = .standby ∧ s.mntl.ts + s.leaseL + ms 1 ≤ s.up + dt → s.mayClaim = true ∧ s.mild
     →
       Completes (.claimTimeout dt) s fun t =>
         t.role = .holder ∧ t.mntl.flag = true ∧ t.epoch = (s.newestEpoch + 1) % 256 ∧ t.mntl.ledgerEpoch = t.epoch ∧
         t.mntl.tc = s.up + dt ∧ t.mntl.renewN = 1 ∧ t.stands 353 0 = true ∧
         t.rd Fld.MNTL_CNT_CLAIM_CNT 0 = s.counted Fld.MNTL_CNT_CLAIM_CNT 0 1) ∧
  (∀ (s : State) (dt : Nat) (pref : Bool), s.runs → s.role = .none ∧ s.mntl.tn + (if (s.setPref pref).shortWait then s.leaseL
     else 2 * s.leaseL) + ms 1 ≤ s.up + dt → 8 ≤ s.rd Fld.BOOT_STAT_STAGE 0 ∧ s.mayClaim = true ∧ s.mild →
       Completes (.noneWaitTimeout dt pref) s fun t =>
         t.role = .holder ∧ t.mntl.flag = true ∧ t.epoch = (s.newestEpoch + 1) % 256 ∧ t.mntl.ledgerEpoch = t.epoch ∧
         t.rd Fld.MNTL_STAT_PREF 0 = b2n pref ∧ t.stands 353 0 = true ∧
         t.rd Fld.MNTL_CNT_CLAIM_CNT 0 = s.counted Fld.MNTL_CNT_CLAIM_CNT 0 1) ∧
  (∀ (s : State) (dt : Nat) (rx : RxCell) (cell d : List Byte) (h : Hdr), s.runs → s.hears rx cell h d 3 ∧ s.role = .standby →
     s.mayClaim = true ∧ s.mild →
       let e := (((s.wr Fld.CELL_LINK_INFO_FAR_EPOCH 32 h.epoch).newestEpoch + 1) % 256 : Nat)
       Completes (.release dt rx) s fun t =>
         t.role = .holder ∧ t.mntl.flag = true ∧ t.epoch = e ∧ t.mntl.ledgerEpoch = e ∧
         t.rd Fld.MNTL_CNT_CLAIM_CNT 0 = s.counted Fld.MNTL_CNT_CLAIM_CNT 0 1)

/-- Planned handover and reversion: request, proposal, answer, deadline, the handover itself, and the hold-off. Time, what is
sent, and other choices of the model: log entries 1, 2, 20, 87 and 143. -/
def Obligations.MantleHandover : Prop :=
  (∀ (s : State) (dt : Nat) (rx : RxCell) (cell d : List Byte) (h : Hdr) (th : Nat), s.runs → s.hears rx cell h d 7 ∧ s.role =
     .holder ∧ s.mntl.proposed = none → th = ((s.start dt).now + ms 21 - 1) / ms 1 * ms 1 →
       Completes (.request dt rx) s fun t =>
         Output.mantle s.epoch (.propose th) ∈ t.out ∧ t.mntl.proposed = some th ∧ t.mntl.accepted = false ∧
         t.rd Fld.MNTL_STAT_HO_STATE 0 = 1 ∧ t.rd Fld.MNTL_STAT_HO_CAUSE 0 = 0 ∧
         Framed dt s t [(Fld.CELL_LINK_INFO_FAR_EPOCH, 32), (Fld.IZL_CNT_STUFF_VIOL_CNT, 32), (Fld.MNTL_STAT_HO_STATE, 0),
           (Fld.MNTL_STAT_HO_CAUSE, 0), (Fld.MNTL_CTL_HANDOVER, 0)] [.cell, .bnd, .mntl]) ∧
  (∀ (s : State) (dt : Nat) (rx : RxCell) (cell d : List Byte) (h : Hdr) (th : Nat), s.runs → s.hears rx cell h d 4 ∧ s.role =
     .standby ∧ kilnOf (d.drop 18) 0 = th → (s.start dt).handoverCause = 0 →
       Completes (.propose dt rx) s fun t =>
         Output.mantle s.epoch (.accept th) ∈ t.out ∧ t.mntl.agreed = some th ∧
         t.rd Fld.MNTL_STAT_HO_STATE 0 = 2 ∧ t.rd Fld.MNTL_STAT_HO_CAUSE 0 = 0 ∧
         Framed dt s t [(Fld.CELL_LINK_INFO_FAR_EPOCH, 32), (Fld.IZL_CNT_STUFF_VIOL_CNT, 32), (Fld.MNTL_STAT_HO_STATE, 0),
           (Fld.MNTL_STAT_HO_CAUSE, 0)] [.cell, .bnd, .mntl]) ∧
  (∀ (s : State) (dt : Nat) (rx : RxCell) (cell d : List Byte) (h : Hdr) (th c : Nat), s.runs → s.hears rx cell h d 4 ∧ s.role
     = .standby ∧ kilnOf (d.drop 18) 0 = th → (s.start dt).handoverCause = c ∧ c ≠ 0 ∧ (s.start dt).now ≤ th - ms 1 →
       Completes (.propose dt rx) s fun t =>
         Output.mantle s.epoch (.refuse c) ∈ t.out ∧ t.mntl.agreed = none ∧ t.mntl.holdAt = s.up + dt ∧
         t.rd Fld.MNTL_STAT_HO_STATE 0 = 4 ∧ t.rd Fld.MNTL_STAT_HO_CAUSE 0 = c) ∧
  (∀ (s : State) (dt : Nat) (rx : RxCell) (cell d : List Byte) (h : Hdr) (th : Nat), s.runs → s.hears rx cell h d 5 ∧ s.role =
     .holder ∧ s.mntl.proposed = some th → kilnOf (d.drop 18) 0 = th ∧ (s.start dt).now ≤ th - ms 10 →
       Completes (.accept dt rx) s fun t =>
         t.mntl.accepted = true ∧ t.mntl.proposed = some th ∧ t.rd Fld.MNTL_STAT_HO_STATE 0 = 2 ∧
         Framed dt s t [(Fld.CELL_LINK_INFO_FAR_EPOCH, 32), (Fld.IZL_CNT_STUFF_VIOL_CNT, 32), (Fld.MNTL_STAT_HO_STATE, 0)] [.cell,
           .bnd, .mntl]) ∧
  (∀ (s : State) (dt : Nat) (rx : RxCell) (cell d : List Byte) (h : Hdr) (th : Nat), s.runs → s.hears rx cell h d 6 ∧ s.role =
     .holder ∧ s.mntl.proposed = some th → (s.start dt).now < th - ms 1 →
       Completes (.refuse dt rx) s fun t =>
         t.mntl.proposed = none ∧ t.role = .holder ∧
         t.rd Fld.MNTL_STAT_HO_STATE 0 = 4 ∧ t.rd Fld.MNTL_STAT_HO_CAUSE 0 = beAt d 2 4 % 8 ∧
         Framed dt s t [(Fld.CELL_LINK_INFO_FAR_EPOCH, 32), (Fld.IZL_CNT_STUFF_VIOL_CNT, 32), (Fld.MNTL_STAT_HO_STATE, 0),
           (Fld.MNTL_STAT_HO_CAUSE, 0), (Fld.MNTL_CTL_HANDOVER, 0)] [.cell, .bnd, .mntl]) ∧
  (∀ (s : State) (dt : Nat) (th : Nat), s.runs → s.role = .holder ∧ s.mntl.proposed = some th ∧ s.mntl.accepted = false ∧ th -
     ms 10 ≤ (s.start dt).now →
       Completes (.handoverAcceptDeadline dt) s fun t =>
         t.mntl.proposed = none ∧ t.role = .holder ∧
         t.rd Fld.MNTL_STAT_HO_STATE 0 = 4 ∧ t.rd Fld.MNTL_STAT_HO_CAUSE 0 = 5 ∧
         Framed dt s t [(Fld.MNTL_STAT_HO_STATE, 0), (Fld.MNTL_STAT_HO_CAUSE, 0), (Fld.MNTL_CTL_HANDOVER, 0)] [.mntl]) ∧
  (∀ (s : State) (dt : Nat) (th : Nat), s.runs → s.role = .holder ∧ s.mntl.proposed = some th ∧ s.mntl.accepted = true ∧ th ≤
     (s.start dt).now →
       Completes (.handoverTime dt) s fun t =>
         t.role = .standby ∧ t.mntl.flag = false ∧ t.mntl.ts = s.up + dt - ((s.start dt).now - th) ∧ t.rd Fld.MNTL_STAT_HO_STATE 0 = 3 ∧
         t.rd Fld.MNTL_CNT_HANDOVER_CNT 0 = s.counted Fld.MNTL_CNT_HANDOVER_CNT 0 1) ∧
  (∀ (s : State) (dt : Nat) (th : Nat), s.runs → s.role = .standby ∧ s.mntl.proposed = none ∧ s.mntl.agreed = some th ∧ th ≤
     (s.start dt).now → s.mode = .service ∧ s.mild →
       Completes (.handoverTime dt) s fun t =>
         t.role = .holder ∧ t.mntl.flag = true ∧ t.mntl.tc = s.up + dt - ((s.start dt).now - th) ∧ t.rd Fld.MNTL_STAT_HO_STATE 0 = 3 ∧
         t.epoch = (s.mntl.seenEpoch.getD s.epoch + 1) % 256 ∧ t.mntl.ledgerEpoch = t.epoch ∧
         t.rd Fld.MNTL_CNT_HANDOVER_CNT 0 = s.counted Fld.MNTL_CNT_HANDOVER_CNT 0 1) ∧
  (∀ (s : State) (dt : Nat) (pref : Bool), s.runs → ((s.start dt).setPref pref).reverts = true ∧ ((s.start dt).setPref
     pref).holdoffLeft = 0 → s.mntl.agreed = none ∧ s.mantleLink = true →
       Completes (.holdoffExpire dt pref) s fun t =>
         Output.mantle s.epoch .request ∈ t.out ∧ t.mntl.holdAt = s.up + dt ∧
         Framed dt s t [(Fld.MNTL_STAT_PREF, 0)] [.mntl])

/-- Time from the holder, echo cells, health records, signatures, the lane test and mirrored sequence numbers. Time, what is sent,
and other choices of the model: log entries 1, 2, 54, 55, 92, 143 and 163. -/
def Obligations.MantleTwin : Prop :=
  (∀ (s : State) (dt : Nat) (rx : RxCell) (cell : List Byte) (h : Hdr), s.runs → s.takes 32 rx cell h ∧ h.type = 3 ∧ h.slot =
     linkSlot ∧ beAt (payloadOf cell) 0 1 = 1 →
       Completes (.familyCellRx dt rx) s fun t =>
         t.mntl.fam = some (kilnOf (payloadOf cell) 4, (s.start dt).now) ∧ t.mntl.echoed = false ∧
         t.rd Fld.CELL_LINK_INFO_FAR_EPOCH 32 = h.epoch % 256) ∧
  (∀ (s : State) (dt : Nat) (t1 a : Nat), s.runs → s.mntl.fam = some (t1, a) ∧ s.mntl.echoed = false ∧ s.mantleLink = true ∧
     s.sendsCell 32 →
       Completes (.echoCellTx dt) s fun t =>
         t.mntl.echoed = true ∧
         Output.cell 32 ((s.start dt).txLead 32) (cellOf (s.txHdr 3 linkSlot (tget 0 (s.txOf 32).seq (linkSlot * 16 + 3)) 32 0)
           (beBytes 1 3 ++ beBytes 3 0 ++ kilnBytes t1 ++ beBytes 12 0 ++ beBytes 4 ((s.start dt).now + (s.start dt).txLead 32
           - a))) ∈ t.out ∧
         Framed dt s t [] [.mntl]) ∧
  (∀ (s : State) (dt : Nat) (pref : Bool) (w : Fin 16) (r : List Byte), s.runs → s.role ≠ .single ∧ s.mntl.healthSec ≠ some
     (s.start dt).second ∧ s.mantleLink = true → ((s.start dt).setPref pref).healthRecord = r →
       Completes (.healthTx dt pref) s fun t =>
         Output.mantle s.epoch (.health r) ∈ t.out ∧
         t.rd Fld.MNTL_HEALTH_OWN_DATA w = beAt r (4 * w) 4 ∧ t.mntl.healthSec = some (s.start dt).second ∧
         t.mntl.cmp = 0 ∧ t.mntl.mis = 0 ∧ t.mntl.ce = 0 ∧ t.mntl.ue = 0 ∧ t.mntl.laneErr = 0) ∧
  (∀ (s : State) (dt : Nat) (rx : RxCell) (cell d : List Byte) (h : Hdr) (w : Fin 16) (r : List Byte), s.runs → s.hears rx
     cell h d 8 ∧ (d.drop 18).take 64 = r → r.length = 64 ∧ crc32 (r.take 60) = beAt r 60 4 →
       Completes (.health dt rx) s fun t =>
         t.rd Fld.MNTL_HEALTH_TWIN_DATA w = beAt r (4 * w) 4 ∧ t.mntl.twinAt = some (s.up + dt) ∧
         t.rd Fld.MNTL_STAT_TWIN_HEALTHY 0 = b2n (bitOf (beAt r 1 1) 1) ∧ t.rd Fld.MNTL_STAT_COMPAT 0 = b2n (s.compatible r)) ∧
  (∀ (s : State) (dt : Nat) (a : Nat), s.runs → s.mntl.twinAt = some a ∧ a + sec 3 ≤ s.up + dt →
       Completes (.twinHealthTimeout dt) s fun t =>
         t.rd Fld.MNTL_STAT_TWIN_HEALTHY 0 = 0 ∧
         Framed dt s t [(Fld.MNTL_STAT_TWIN_HEALTHY, 0)] []) ∧
  (∀ (s : State) (dt : Nat) (rx : RxCell) (cell d : List Byte) (h : Hdr) (l : Nat), s.runs → s.takes 32 rx cell h ∧ (sideOf h
     (payloadOf cell) 3).map (fun q => q.2.2.2.2) = some d ∧ s.mntl.lfsr = some l →
       let n := prbsWrong l 0 (lineBits d)
       Completes (.laneTestCell dt rx) s fun t =>
         t.mntl.laneErr = s.mntl.laneErr + n ∧
         t.rd Fld.MNTL_CNT_LANE_TEST_CNT 0 = s.counted Fld.MNTL_CNT_LANE_TEST_CNT 0 n ∧
         Framed dt s t [(Fld.CELL_LINK_INFO_FAR_EPOCH, 32), (Fld.IZL_CNT_STUFF_VIOL_CNT, 32), (Fld.MNTL_CNT_LANE_TEST_CNT, 0)] [.cell,
           .bnd, .mntl]) ∧
  (∀ (s : State) (dt : Nat) (rx : RxCell) (cell : List Byte) (h : Hdr) (d : Nat) (e : SigEntry), s.runs → s.takes 32 rx cell h
     ∧ h.type = 5 ∧ beAt (payloadOf cell) 1 1 = 1 → beAt (payloadOf cell) 4 2 = d ∧ d < 1152 → e =
     { dst := d, skip := false, route := bitsOf (beAt (payloadOf cell) 6 2) 0 11, epoch := beAt (payloadOf cell) 8 4, sig := beAt (payloadOf cell) 12 4 }
     →
       Completes (.signatureCell dt rx) s fun t =>
         tget [] t.mntl.twin d = (e :: tget [] s.mntl.twin d).take 8) ∧
  (∀ (s : State) (dt : Nat) (rx : RxCell) (cell : List Byte) (h : Hdr) (d : Nat) (x : SigEntry), s.runs → s.takes 32 rx cell h
     ∧ h.type = 5 ∧ beAt (payloadOf cell) 1 1 = 1 → beAt (payloadOf cell) 4 2 = d ∧ d < 1152 ∧ tget [] s.mntl.own d = [x] ∧
     x.dst = d → x.skip = false ∧ x.route = bitsOf (beAt (payloadOf cell) 6 2) 0 11 ∧ x.epoch = beAt (payloadOf cell) 8 4 ∧
     x.sig ≠ beAt (payloadOf cell) 12 4 → s.rd Fld.MNTL_CTL_SIG_N 0 ≤ tget 0 s.mntl.run d + 1 ∧ s.mntl.reported.contains d =
     false →
       Completes (.signatureCell dt rx) s fun t =>
         t.rd Fld.MNTL_SIG_STAT_LAST_DST 0 = d ∧ t.stands 355 0 = true ∧
         t.rd Fld.MNTL_CNT_SIG_MISMATCH_CNT 0 = s.counted Fld.MNTL_CNT_SIG_MISMATCH_CNT 0 1 ∧
         t.mntl.mis = s.mntl.mis + 1 ∧ t.mntl.misAt = some (s.up + dt)) ∧
  (∀ (s : State) (dt : Nat) (d : Fin 1152) (f : Fmt) (l : Nat), s.runs → fmtOf (s.rd Fld.WARP_DST_CFG_FMT d) = some f ∧
     (s.dstOf d).launch = some l → s.on Fld.WARP_DST_CFG_EN d = true ∧ s.dst22 d = false ∧ (s.dstOf d).sigAt ≠ some l → fine
     (s.start dt).now ≤ l + f.period ∧ s.role ≠ .single →
       Completes (.signatureCellTx dt [d]) s fun t =>
         (t.dstOf d).sigAt = some l ∧
         tget [] t.mntl.own d = ((s.start dt).sigEntry d f l :: tget [] s.mntl.own d).take 8) ∧
  (∀ (s : State) (dt : Nat), s.runs → s.role = .holder ∧ s.mantleLink = true →
       let fs := (s.listed Fld.ETH_FLOW_CTL_EN).filter fun f => s.on Fld.ETH_FLOW_CTL_EN f && s.rd Fld.ETH_FLOW_CTL_DIR f == 1
       Completes (.rtpSeqMirrorTx dt) s fun t =>
         Output.mantle s.epoch (.mirror (.rtpSeq (fs.map fun f => (f, s.flowSeq f))) (s.start dt).now .ok) ∈ t.out ∧
         Framed dt s t [] [])

/-- Hopper: a fetched descriptor, read and write beats, their retries, and the bytes that a write beat stores. Time, what is sent,
and other choices of the model: log entries 1, 2, 108, 109 and 160. -/
def Obligations.HopperBeats : Prop :=
  (∀ (s : State) (dt : Nat) (c : Fin 16) (d : List Byte) (r : HopCh), s.runs → (s.hopOf c).phase = .fetch ∧ (s.hopOf c).stop =
     none ∧ s.hopDescOk (s.rd Fld.HOP_CH_DESC_ADDR c) = true → s.bytesAt (s.rd Fld.HOP_CH_DESC_ADDR c) 32 = d ∧ bitOf (beAt d
     0 4) 31 = true ∧ bitOf (beAt d 0 4) 23 = false → r =
     { s.hopOf c with ctl := beAt d 0 4, count := beAt d 4 4, src := beAt d 8 8, dst := beAt d 16 8, next := beAt d 24 8 } →
     s.hopCheck c r = 0 →
       Completes (.descriptorFetched dt c true) s fun t =>
         t.hopOf c = { r with phase := .run } ∧
         t.rd Fld.HOP_CH_RESID_COUNT c = beAt d 4 4 ∧
         Framed dt s t [(Fld.HOP_CH_RESID_COUNT, c)] [.hop, .cask]) ∧
  (∀ (s : State) (dt : Nat) (c : Fin 16), s.runs → (s.hopOf c).phase = .fetch →
       Completes (.descriptorFetched dt c false) s fun t =>
         t.hopOf c = {} ∧ t.rd Fld.HOP_CH_STAT_STATE c = 2 ∧ t.rd Fld.HOP_CH_STAT_CAUSE c = 1 ∧
         t.rd Fld.HOP_CH_CTL_GO c = 0 ∧ t.stands 416 c = true) ∧
  (∀ (s : State) (dt : Nat) (c : Fin 16) (k a e i : Nat) (r : HopCh), s.runs → s.hopOf c = r ∧ r.phase = .run ∧ k < beats
     r.src r.count ∧ r.got.contains k = false ∧ tget 0 r.tries k ≠ 100 → beatStart r.src r.count k = a ∧ beatEnd r.src r.count
     k = e ∧ i < e - a ∧ r.crcEn = false →
       Completes (.readBeatReturn dt c k .ok) s fun t =>
         (t.hopOf c).got = k :: r.got ∧
         tget 0 (t.hopOf c).data (a + i) = s.byteAt (r.src + a + i) ∧
         Framed dt s t [(Fld.HOP_CH_RESID_COUNT, c)] [.hop]) ∧
  (∀ (s : State) (dt : Nat) (c : Fin 16) (k n : Nat) (r : HopCh), s.runs → s.hopOf c = r ∧ r.phase = .run ∧ k < beats r.src
     r.count ∧ r.got.contains k = false ∧ tget 0 r.tries k = n → n ≠ 100 ∧ n < s.rd Fld.HOP_CH_CFG_RETRY_LIMIT c →
       Completes (.readBeatReturn dt c k .err) s fun t =>
         t.hopOf c = { r with tries := tput 0 r.tries k (n + 1) } ∧
         t.rd Fld.HOP_CH_STAT_RETRIES c = s.counted Fld.HOP_CH_STAT_RETRIES c 1 ∧
         Framed dt s t [(Fld.HOP_CH_STAT_RETRIES, c)] [.hop]) ∧
  (∀ (s : State) (dt : Nat) (c : Fin 16) (k a e i : Nat) (r : HopCh), s.runs → s.hopOf c = r ∧ r.phase = .run ∧ k < r.issued ∧
     r.ok.contains k = false ∧ tget 0 r.tries (2 ^ 32 + k) ≠ 100 → beatStart r.dst r.count k = a ∧ beatEnd r.dst r.count k = e
     ∧ i < e - a →
       Completes (.writeBeatResponse dt c k .ok) s fun t =>
         t.byteAt (r.dst + a + i) = tget 0 r.data (a + i) ∧ (t.hopOf c).ok = k :: r.ok) ∧
  (∀ (s : State) (dt : Nat) (c : Fin 16) (k a e x : Nat) (r : HopCh), s.runs → s.hopOf c = r ∧ r.phase = .run ∧ k < r.issued ∧
     r.ok.contains k = false ∧ tget 0 r.tries (2 ^ 32 + k) ≠ 100 → beatStart r.dst r.count k = a ∧ beatEnd r.dst r.count k = e
     ∧ (x < r.dst + a ∨ r.dst + e ≤ x) →
       Completes (.writeBeatResponse dt c k .ok) s fun t =>
         t.byteAt x = s.byteAt x) ∧
  (∀ (s : State) (dt : Nat) (c : Fin 16) (k n : Nat) (r : HopCh), s.runs → s.hopOf c = r ∧ r.phase = .run ∧ k < r.issued ∧
     r.ok.contains k = false ∧ tget 0 r.tries (2 ^ 32 + k) = n → n ≠ 100 ∧ n < s.rd Fld.HOP_CH_CFG_RETRY_LIMIT c →
       Completes (.writeBeatResponse dt c k .err) s fun t =>
         t.hopOf c = { r with tries := tput 0 r.tries (2 ^ 32 + k) (n + 1) } ∧ t.mem = s.mem ∧
         t.rd Fld.HOP_CH_STAT_RETRIES c = s.counted Fld.HOP_CH_STAT_RETRIES c 1 ∧
         Framed dt s t [(Fld.HOP_CH_STAT_RETRIES, c)] [.hop])

/-- Hopper's descriptor write-back, complete or stopped, with its bytes, and the default error target. Time, what is sent, and
other choices of the model: log entries 1, 2, 110 and 114. -/
def Obligations.HopperEnds : Prop :=
  (∀ (s : State) (dt : Nat) (c : Fin 16) (r : HopCh) (a : Nat), s.runs → s.hopOf c = r ∧ r.phase = .back ∧ s.rd
     Fld.HOP_CH_DESC_ADDR c = a →
       Completes (.descriptorWriteBack dt c) s fun t =>
         t.bytesAt a 4 = beBytes 4 (ctlBack r.ctl 2 r.cause true false) ∧ t.hopOf c = {} ∧
         t.rd Fld.HOP_CH_STAT_STATE c = 2 ∧ t.rd Fld.HOP_CH_STAT_CAUSE c = r.cause % 16 ∧ t.stands 416 c = true) ∧
  (∀ (s : State) (dt : Nat) (c : Fin 16) (r : HopCh) (a x : Nat), s.runs → s.hopOf c = r ∧ r.phase = .back ∧ s.rd
     Fld.HOP_CH_DESC_ADDR c = a ∧ (x < a ∨ a + 4 ≤ x) →
       Completes (.descriptorWriteBack dt c) s fun t =>
         t.byteAt x = s.byteAt x) ∧
  (∀ (s : State) (dt : Nat) (c : Fin 16) (r : HopCh) (a x : Nat), s.runs → s.hopOf c = r ∧ r.phase = .run ∧ s.rd
     Fld.HOP_CH_DESC_ADDR c = a ∧ r.moved = r.count ∧ r.checkOnly = false → bitOf r.ctl 30 = false ∧ r.stop = none ∧ (x < a ∨
     a + 8 ≤ x) →
       Completes (.descriptorWriteBack dt c) s fun t =>
         t.bytesAt a 8 = beBytes 4 (ctlBack r.ctl 1 0 false false) ++ beBytes 4 0 ∧ t.byteAt x = s.byteAt x ∧
         t.hopOf c = { phase := .fetch } ∧ t.rd Fld.HOP_CH_DESC_ADDR c = r.next % 2 ^ 64 ∧
         t.rd Fld.HOP_CH_STAT_DESC_DONE c = s.counted Fld.HOP_CH_STAT_DESC_DONE c 1) ∧
  (∀ (s : State) (dt : Nat) (c : Fin 16) (r : HopCh) (a : Nat), s.runs → s.hopOf c = r ∧ r.phase = .run ∧ s.rd
     Fld.HOP_CH_DESC_ADDR c = a ∧ r.moved = r.count ∧ r.checkOnly = true → bitOf r.ctl 30 = true →
       Completes (.descriptorWriteBack dt c) s fun t =>
         t.bytesAt (a + 16) 8 = beBytes 8 (s.crcShown r.unit) ∧ t.hopOf c = {} ∧ t.rd Fld.HOP_CH_STAT_STATE c = 0 ∧
         t.bytesAt a 4 = beBytes 4 (ctlBack r.ctl 1 0 false false) ∧ t.rd Fld.HOP_CH_CTL_GO c = 0) ∧
  (∀ (s : State) (dt : Nat) (c : Fin 16) (r : HopCh) (a f k n x : Nat), s.runs → s.hopOf c = r ∧ r.phase = .run ∧ s.rd
     Fld.HOP_CH_DESC_ADDR c = a ∧ r.fail = some (f, k) ∧ r.moved = n ∧ n ≠ r.count → r.pendingWrites = false ∧ r.checkOnly =
     false ∧ (x < a ∨ a + 24 ≤ x) →
       Completes (.descriptorWriteBack dt c) s fun t =>
         t.bytesAt a 24 = beBytes 4 (ctlBack r.ctl 2 k true (decide (0 < n))) ++ beBytes 4 (r.count - n) ++ beBytes 8 (r.src + n) ++
           beBytes 8 (r.dst + n) ∧
         t.byteAt x = s.byteAt x ∧ t.hopOf c = {} ∧ t.rd Fld.HOP_CH_STAT_STATE c = 2 ∧ t.rd Fld.HOP_CH_STAT_CAUSE c = k % 16 ∧
         t.stands 416 c = true) ∧
  (∀ (s : State) (dt : Nat) (m : Fin 8) (w : Bool) (a : BitVec 64), s.runs →
       Completes (.defaultTargetAccess dt m w a) s fun t =>
         t.rd Fld.CTRL_DEFAULT_ERR_MASTER 0 = m ∧ t.rd Fld.CTRL_DEFAULT_ERR_WRITE 0 = b2n w ∧
         t.rd Fld.CTRL_DEFAULT_ERR_ADDR 0 = a.toNat % 2 ^ Fld.CTRL_DEFAULT_ERR_ADDR.width ∧
         t.stands 417 0 = true ∧ Output.result .errAddr (if w then [] else [0]) ∈ t.out)

/-- GNSS: sample clocks, search, acquisition, loss of lock, navigation data and self-test of the channels. Time, what is sent, and
other choices of the model: log entries 1, 2, 78, 80 and 155. -/
def Obligations.GnssChannels : Prop :=
  (∀ (s : State) (dt : Nat) (i : Fin 2), s.por = false → s.on Fld.GNSS_CTL_EN 0 = true →
       Completes (.gnssClockStop dt i) s fun t =>
         t.ifOk i = false ∧ t.stands (288 + i) 0 = true) ∧
  (∀ (s : State) (dt : Nat) (i : Fin 2) (c : Fin 96), s.por = false → s.on Fld.GNSS_CTL_EN 0 = true ∧ 2 ≤ s.chState c ∧
     sigInput (s.rd Fld.GNSS_CH_STAT_SIG c) = i →
       Completes (.gnssClockRateChange dt i) s fun t =>
         t.ifOk i = false ∧ t.stands (288 + i) 0 = true ∧ t.chState c = 1 ∧ t.gnss.slip.contains c.val = true) ∧
  (∀ (s : State) (dt : Nat) (i : Fin 2), s.por = false → s.on Fld.GNSS_CTL_EN 0 = true ∧ s.ifOk i = true →
       let f := if i = 0 then Fld.GNSS_CNT_CLK_GLITCH_A_CNT else Fld.GNSS_CNT_CLK_GLITCH_B_CNT
       Completes (.gnssClockGlitch dt i) s fun t =>
         t.rd f 0 = s.counted f 0 1 ∧ t.stands 290 0 = true) ∧
  (∀ (s : State) (dt : Nat) (i : Fin 2), s.por = false →
       Completes (.gnssClockRequalified dt i) s fun t =>
         t.ifOk i = true ∧ t.stands (288 + i) 0 = false ∧
         Framed dt s t [(Fld.GNSS_IF_CFG_A_CLK_OK, 0), (Fld.GNSS_IF_CFG_B_CLK_OK, 0)] [.flt, .boot]) ∧
  (∀ (s : State) (dt : Nat) (c : Fin 96) (prn : Fin 64) (sig : Fin 3) (sweep : Bool), s.por = false → s.on Fld.GNSS_CTL_EN 0 =
     true ∧ s.ifOk 0 = true ∧ s.on Fld.KILN_STAT_TIME_VALID 0 = true → s.chOk c = true ∧ s.chState c = 0 ∧ s.svOk sig prn =
     true →
       Completes (.gnssSearchPass dt sig sweep [(c, prn)]) s fun t =>
         t.chState c = 1 ∧ t.rd Fld.GNSS_CH_STAT_SIG c = sig ∧ t.rd Fld.GNSS_CH_STAT_PRN c = prn ∧
         tget 0 t.gnss.since c = s.up + dt ∧ sigKey sig prn ∉ t.gnss.bank ∧
         Framed dt s t [(Fld.GNSS_CH_STAT_STATE, c), (Fld.GNSS_CH_STAT_SIG, c), (Fld.GNSS_CH_STAT_PRN, c), (Fld.GNSS_STAT_LOCKED, 0),
           (Fld.GNSS_STAT_STATE, 0)] [.gnss]) ∧
  (∀ (s : State) (dt : Nat) (c : Fin 96) (k : Nat), s.por = false → s.chState c = 1 ∧ tget 0 s.gnss.since c.val + sec 2 ≤ s.up
     + dt → sigKey (s.rd Fld.GNSS_CH_STAT_SIG c) (s.rd Fld.GNSS_CH_STAT_PRN c) = k →
       Completes (.hotSearchTimeout dt c) s fun t =>
         t.chState c = 0 ∧ t.gnss.bank = k :: s.gnss.bank.filter (· ≠ k) ∧
         t.rd Fld.GNSS_CH_STAT_SIG c = 0 ∧ t.rd Fld.GNSS_CH_STAT_PRN c = 0) ∧
  (∀ (s : State) (dt : Nat) (c : Fin 96) (code : Bool), s.por = false → s.chState c = 3 →
       Completes (.channelLockLoss dt c code) s fun t =>
         t.chState c = (if code then 1 else 2) ∧ t.gnss.slip.contains c.val = true ∧
         t.rd Fld.GNSS_CNT_LOCK_LOSS_CNT 0 = s.counted Fld.GNSS_CNT_LOCK_LOSS_CNT 0 1 ∧
         Framed dt s t [(Fld.GNSS_CH_STAT_STATE, c), (Fld.GNSS_CNT_LOCK_LOSS_CNT, 0), (Fld.GNSS_STAT_LOCKED, 0), (Fld.GNSS_STAT_STATE,
           0)] [.gnss]) ∧
  (∀ (s : State) (dt : Nat) (c : Fin 96) (sig : Fin 6) (prn : Fin 64) (cn0 : BitVec 16) (sync : Bool), s.por = false → s.on
     Fld.GNSS_CTL_EN 0 = true ∧ s.chOk c = true ∧ s.chState c = 0 ∧ s.svOk sig prn = true → s.ifOk (sigInput sig) = true ∧
     sig.val < 3 →
       Completes (.channelLockAcquired dt c sig prn cn0 sync) s fun t =>
         t.chState c = 3 ∧ t.rd Fld.GNSS_CH_STAT_SIG c = sig ∧ t.rd Fld.GNSS_CH_STAT_PRN c = prn ∧
         t.rd Fld.GNSS_CH_STAT_CN0 c = cn0.toNat ∧ tget 0 t.gnss.lock c = s.up + dt ∧ t.gnss.sync.contains c.val = sync ∧
         Framed dt s t [(Fld.GNSS_CH_STAT_STATE, c), (Fld.GNSS_CH_STAT_SIG, c), (Fld.GNSS_CH_STAT_PRN, c), (Fld.GNSS_CH_STAT_CN0, c),
           (Fld.GNSS_STAT_LOCKED, 0), (Fld.GNSS_STAT_STATE, 0)] [.gnss]) ∧
  (∀ (s : State) (dt : Nat) (c : Fin 96) (utc week : Option (BitVec 10)) (alm : Bool) (sig prn : Nat), s.por = false → 2 ≤
     s.chState c ∧ s.mode ≠ .cellar ∧ s.rd Fld.GNSS_CH_STAT_SIG c = sig ∧ sig < 3 → s.rd Fld.GNSS_CH_STAT_PRN c = prn →
       Completes (.navDataDecoded dt c alm utc week) s fun t =>
         tget 0 t.gnss.eph (sigKey sig prn) = (s.start dt).now ∧
         t.gnss.alm = (if alm then some (s.start dt).now else s.gnss.alm) ∧
         t.kiln.utcGnss = (match utc with | some u => some u.toNat | none => s.kiln.utcGnss)) ∧
  (∀ (s : State) (dt : Nat) (u : Fin 112) (last : Bool), s.por = false → s.gnss.testing = true ∧ (96 ≤ u.val ∨ s.chState u =
     0) →
       Completes (.selftestDone dt u true last) s fun t =>
         tget 0 t.gnss.tests u = 0 ∧ t.gnss.testing = !last ∧
         Framed dt s t [(Fld.GNSS_CTL_SELFTEST, 0), (Fld.GNSS_STAT_LOCKED, 0), (Fld.GNSS_STAT_STATE, 0)] [.gnss]) ∧
  (∀ (s : State) (dt : Nat) (u : Fin 112) (last : Bool), s.por = false → s.gnss.testing = true ∧ s.chState u = 0 ∧ u.val < 96
     →
       Completes (.selftestDone dt u false last) s fun t =>
         tget 0 t.gnss.tests u = tget 0 s.gnss.tests u + 1 ∧ t.on Fld.GNSS_CH_STAT_FAULTY u = true ∧ t.stands 292 u = true)

/-- Measurement records and solutions. The place of the ring in control SRAM is `Config.measRing` (assumption log 43). Time and
what is sent are the model's (log entries 1 and 2). -/
def Obligations.GnssSolutions : Prop :=
  (∀ (s : State) (dt : Nat) (gs : List GMeas) (k slot e : Nat), s.por = false → s.on Fld.GNSS_CTL_EN 0 = true ∧ s.gnss.testing
     = false ∧ s.mode ≠ .cellar → (s.start dt).now / ms s.measMs * ms s.measMs = e ∧ s.gnss.epoch ≠ some e ∧ (s.rd
     Fld.GNSS_MEAS_PTR_NEWEST 0 + 1) % 16 = slot →
       let a := 0x300000 + Config.measRing % 0xF0000 + slot * 3104
       Completes (.measurementEpoch dt gs) s fun t =>
         t.bytesAt a 16 = kilnBytes e ++ beBytes 4 s.gnss.seq ∧
         t.byteAt (a + 3104 + k) = s.byteAt (a + 3104 + k) ∧ t.byteAt (a - 1 - k) = s.byteAt (a - 1 - k) ∧
         t.rd Fld.GNSS_MEAS_PTR_NEWEST 0 = slot ∧ t.gnss.seq = (s.gnss.seq + 1) % 2 ^ 32 ∧ t.gnss.epoch = some e) ∧
  (∀ (s : State) (dt : Nat) (m : GSol), s.por = false → s.on Fld.GNSS_CTL_EN 0 = true ∧ s.gnss.testing = false ∧ s.mode ≠
     .cellar → s.gnss.second ≠ some (s.start dt).second ∧ s.ifOk 0 = false →
       Completes (.gnssSolution dt m) s fun t =>
         t.rd Fld.GNSS_STAT_SOL_VALID 0 = 0 ∧ t.gnss.noSol = s.gnss.noSol + 1 ∧ t.gnss.trustRun = 0 ∧ t.gnss.delta = none ∧
         t.gnss.second = some (s.start dt).second) ∧
  (∀ (s : State) (dt : Nat) (m : GSol) (p : GPass) (w : GSat), s.por = false → s.on Fld.GNSS_CTL_EN 0 = true ∧ s.gnss.testing
     = false ∧ s.mode ≠ .cellar → s.gnss.second ≠ some (s.start dt).second ∧ s.ifOk 0 = true → m =
     { passes := [p], cn0 := [], cn0Max := 0, noise := [], doppler := [], isb := [], predicted := 0, freq := 0, mean := .replicate 3 0, meanSd := 0 }
     → p.sats = List.replicate 8 w ∧ w.residual ≤ s.rd Fld.GNSS_INTEG_CFG_0_RES_LIM 0 ∧ s.rd Fld.GNSS_INTEG_CFG_0_MIN_SV 0 ≤ 8
     →
       Completes (.gnssSolution dt m) s fun t =>
         t.rd Fld.GNSS_STAT_SOL_VALID 0 = 1 ∧ t.rd Fld.GNSS_STAT_USED 0 = 8 ∧ t.rd Fld.GNSS_STAT_DUAL 0 = b2n (p.dual && s.ifOk 1) ∧
         t.rd Fld.GNSS_TEB_TEB_G 0 = s.tebG (s.usable p) ∧ t.gnss.second = some (s.start dt).second ∧ t.gnss.noSol = 0 ∧
         t.gnss.delta = some ((p.time + sec (if s.rd Fld.GNSS_CTL_TIMESCALE 0 = 2 then 33 else 19) - ((s.start dt).now : Int)) / 256)) ∧
  (∀ (s : State) (dt : Nat) (i : Fin 2) (p a : Int), s.por = false → s.mode ≠ .cellar ∧ 3600 ≤ s.gnss.svc →
       Completes (.baselineLearnt dt (.noise i p a)) s fun t =>
         t.gnss.noise = tinsert s.gnss.noise i.val (p, a) ∧
         Framed dt s t [] [.gnss]) ∧
  (∀ (s : State) (dt : Nat) (c : Fin 3) (v : Int), s.por = false → s.mode ≠ .cellar ∧ 86400 ≤ s.gnss.isbN →
       Completes (.baselineLearnt dt (.isb c v)) s fun t =>
         t.gnss.isb = tinsert s.gnss.isb c.val v ∧
         Framed dt s t [] [.gnss]) ∧
  (∀ (s : State) (dt : Nat) (m : GSol) (gs : List GMeas) (slot k : Nat), s.por = false → s.on Fld.GNSS_CTL_EN 0 = true ∧
     s.mode = .cellar ∧ s.kiln.bare = false ∧ s.gnss.noSol < 60 → s.gnss.second ≠ some (s.start dt).second ∧ (s.rd
     Fld.GNSS_MEAS_PTR_NEWEST 0 + 1) % 16 = slot →
       let a := 0x300000 + Config.measRing % 0xF0000 + slot * 3104
       Completes (.gnssBurst dt gs m) s fun t =>
         t.bytesAt a 16 = kilnBytes ((s.start dt).second * sec 1 + ms 60) ++ beBytes 4 s.gnss.seq ∧
         t.byteAt (a + 3104 + k) = s.byteAt (a + 3104 + k) ∧ t.byteAt (a - 1 - k) = s.byteAt (a - 1 - k) ∧
         t.rd Fld.GNSS_MEAS_PTR_NEWEST 0 = slot ∧ t.gnss.seq = (s.gnss.seq + 1) % 2 ^ 32 ∧
         t.gnss.second = some (s.start dt).second) ∧
  (∀ (s : State) (dt : Nat), s.por = false → s.on Fld.GNSS_CTL_EN 0 = true ∧ s.mode = .cellar → s.gnss.refreshAt + sec (3600 *
     s.rd Fld.GNSS_CFG_CELLAR_NAV_H 0) ≤ s.up + dt →
       Completes (.gnssNavRefresh dt) s fun t =>
         t.gnss = { s.gnss with refreshAt := s.up + dt, navUntil := s.up + dt + sec 36, noSol := 0 } ∧
         Framed dt s t [] [.gnss])

/-- RESET_N, the power-on reset of the keep-alive island, and the rails. Time, what is sent, and other choices of the model: log
entries 1, 2, 21, 112 and 113. -/
def Obligations.LifeResets : Prop :=
  (∀ (s : State) (dt : Nat), s.por = false → s.boot.resetPin = false ∧ s.mode ≠ .cellar →
       Completes (.resetNAsserted dt) s fun t =>
         t.iso = true ∧ t.boot.resetPin = true ∧ t.mem = s.mem) ∧
  (∀ (s : State) (dt : Nat), s.por = false → s.boot.resetPin = false ∧ s.mode = .cellar →
       Completes (.resetNAsserted dt) s fun t =>
         t.iso = s.iso ∧ t.boot = { s.boot with resetPin := true } ∧
         Framed dt s t [] [.boot]) ∧
  (∀ (s : State) (dt : Nat) (factory pref : Bool), s.por = false → s.boot.resetPin = true ∧ s.mode ≠ .cellar →
       Completes (.resetNDeasserted dt factory pref) s fun t =>
         t.boot.resetPin = false ∧ t.iso = false ∧ t.mode = .startUp ∧ t.rd Fld.BOOT_STAT_STAGE 0 = 1 ∧
         t.rd Fld.CTRL_DEV_STATE_PREV_MODE 0 = s.mode.code ∧ t.rd Fld.BOOT_STAT_FACTORY_PIN 0 = b2n factory ∧
         t.rd Fld.MNTL_STAT_PREF 0 = b2n pref ∧ t.boot.startAt = s.up + dt ∧
         t.rd Fld.BOOT_START_COUNT_COUNT 0 = (s.rd Fld.BOOT_START_COUNT_COUNT 0 + 1) % 2 ^ Fld.BOOT_START_COUNT_COUNT.width ∧
         t.cs = [] ∧ t.held = [] ∧ t.staged = [] ∧ t.hcp = {} ∧ t.boot.fuses = s.boot.fuses ∧ t.boot.rec_ = s.boot.rec_) ∧
  (∀ (s : State) (dt : Nat) (factory pref : Bool) (f : Field) (i : Nat), s.por = false → s.boot.resetPin = true ∧ s.mode ≠
     .cellar ∧ survives (f.at i) = false → (∀ g ∈ faultFields ++ [Fld.BOOT_STAT_STAGE, Fld.BOOT_STAT_FACTORY_PIN,
     Fld.BOOT_START_COUNT_COUNT, Fld.CTRL_DEV_STATE_PREV_MODE, Fld.MNTL_STAT_PREF], g.key % 1024 ≠ f.key % 1024) →
       Completes (.resetNDeasserted dt factory pref) s fun t =>
         t.rd f i = f.init) ∧
  (∀ (s : State) (dt : Nat), s.por = true →
       Completes (.keepAlivePorRelease dt) s fun t =>
         t.por = false ∧ t.iso = true ∧ t.now = 0 ∧ t.boot.resetPin = true ∧ t.mode = .startUp ∧
         t.rd Fld.CTRL_DEV_STATE_PREV_MODE 0 = s.mode.code ∧ t.boot.fuses = s.boot.fuses ∧ t.boot.rec_ = s.boot.rec_ ∧
         t.kiln.model = s.kiln.model ∧ t.kiln.ledgerTime = s.kiln.ledgerTime ∧ t.kiln.cellarCfg = s.kiln.cellarCfg ∧
         t.rd Fld.KILN_STAT_STATE 0 = 0) ∧
  (∀ (s : State) (dt : Nat),
       Completes (.keepRailCollapse dt) s fun t =>
         t = { s.start dt with por := true, iso := true }) ∧
  (∀ (s : State) (dt : Nat) (r : Fin 10) (held : Bool), s.por = false →
       Completes (.railOutOfTolerance dt r held) s fun t =>
         bitOf (t.rd Fld.PWR_RAIL_STAT_OK 0) r = false ∧ bitOf (t.rd Fld.PWR_RAIL_STAT_WAS_OUT 0) r = true) ∧
  (∀ (s : State) (dt : Nat) (r : Fin 10), s.por = false → s.mode ≠ .cellar ∧ s.iso = false →
       Completes (.railOutOfTolerance dt r true) s fun t =>
         t.stands 450 0 = true) ∧
  (∀ (s : State) (dt : Nat), s.por = false →
       Completes (.railRestored dt) s fun t =>
         t.rd Fld.PWR_RAIL_STAT_OK 0 = 1023 ∧ t.stands 450 0 = false ∧
         Framed dt s t [(Fld.PWR_RAIL_STAT_OK, 0)] [.flt, .boot]) ∧
  (∀ (s : State) (dt : Nat) (sram : Bool), s.por = false → s.mode ≠ .cellar →
       Completes (.mainRailCollapse dt sram) s fun t =>
         t.iso = true ∧ t.boot.resetPin = true ∧
         bitOf (t.rd Fld.PWR_RAIL_STAT_OK 0) (b2n sram) = false ∧ bitOf (t.rd Fld.PWR_RAIL_STAT_WAS_OUT 0) (b2n sram) = true)

/-- Cellar mode: entry by CELLAR_N, isolation, and the end of the stay. Time, what is sent, and other choices of the model: log
entries 1, 2, 20, 62, 72 and 84. -/
def Obligations.LifeCellar : Prop :=
  (∀ (s : State) (dt : Nat), s.por = false → s.mode ≠ .cellar →
       Completes (.cellarNAsserted dt) s fun t =>
         t.mode = .cellar ∧ t.boot.cellarByPin = true ∧ t.rd Fld.PWR_CELLAR_CTL_CELLAR_PIN 0 = 1 ∧
         t.mash.silentFrom = some (s.up + dt) ∧ t.mem = s.mem) ∧
  (∀ (s : State) (dt : Nat), s.por = false → s.mode ≠ .cellar ∧ s.iso = false ∧ s.role = .holder ∧ s.mantleLink = true →
       Completes (.cellarNAsserted dt) s fun t =>
         t.mode = .cellar ∧ t.role = .standby ∧ t.mntl.flag = false ∧ Output.mantle s.epoch .release ∈ t.out) ∧
  (∀ (s : State) (dt : Nat), s.por = false → s.mode = .cellar →
       Completes (.cellarEntryIsolated dt) s fun t =>
         t.iso = true ∧ t.rd Fld.PWR_CELLAR_CTL_ENTER 0 = 0 ∧ t.mode = .cellar ∧
         Framed dt s t [(Fld.PWR_CELLAR_CTL_ENTER, 0)] [.iso]) ∧
  (∀ (s : State) (dt : Nat) (pref : Bool), s.por = false → s.mode = .cellar ∧ s.boot.cellarByPin = true ∧ s.boot.resetPin =
     false →
       Completes (.cellarNDeasserted dt pref) s fun t =>
         t.mode = .startUp ∧ t.iso = false ∧ t.rd Fld.BOOT_STAT_STAGE 0 = 1 ∧ t.rd Fld.CTRL_DEV_STATE_PREV_MODE 0 = 4 ∧
         t.rd Fld.PWR_CELLAR_CTL_CELLAR_PIN 0 = 0 ∧ t.rd Fld.MNTL_STAT_PREF 0 = b2n pref ∧ t.now = (s.start dt).now) ∧
  (∀ (s : State) (dt : Nat) (pref : Bool), s.por = false → s.mode ≠ .cellar →
       Completes (.cellarNDeasserted dt pref) s fun t =>
         t.rd Fld.PWR_CELLAR_CTL_CELLAR_PIN 0 = 0 ∧
         Framed dt s t [(Fld.PWR_CELLAR_CTL_CELLAR_PIN, 0)] [])

/-- Temperature sensors, UART bytes, island clocks, the owner fuses, the FAULT_N pulse, the log, and faults of the control island.
Time, what is sent, and other choices of the model: log entries 1, 2, 56, 58, 61, 90 and 159. -/
def Obligations.BoardInputs : Prop :=
  (∀ (s : State) (dt : Nat) (v : Vector (BitVec 16) 8) (k : Fin 8), s.runs → (∀ j : Fin 8, v[j].toInt ≤ v[k].toInt ∧ (j < k →
     v[j].toInt < v[k].toInt)) →
       Completes (.tempSensorsSample dt v) s fun t =>
         t.rd Fld.PWR_TEMP_TJ 0 = v[k].toNat ∧ t.rd Fld.PWR_TEMP_SENSOR 0 = k ∧
         t.pwr.peakFresh = false) ∧
  (∀ (s : State) (dt : Nat) (v : Vector (BitVec 16) 8) (k : Fin 8), s.runs → 840 < v[k].toInt →
       Completes (.tempSensorsSample dt v) s fun t =>
         t.stands 448 0 = true ∧ t.stands 449 0 = true) ∧
  (∀ (s : State) (dt : Nat) (b : Byte), s.runs → s.on Fld.PWR_UART_CTL_EN 0 = true ∧ s.pwr.rx.length < 256 →
       Completes (.uartByteReceived dt b) s fun t =>
         t.pwr = { s.pwr with rx := s.pwr.rx ++ [b] } ∧
         Framed dt s t [] [.pwr]) ∧
  (∀ (s : State) (dt : Nat) (b : Byte), s.runs → s.on Fld.PWR_UART_CTL_EN 0 = true ∧ 256 ≤ s.pwr.rx.length →
       Completes (.uartByteReceived dt b) s fun t =>
         t.pwr = { s.pwr with lost := true } ∧
         Framed dt s t [] [.pwr]) ∧
  (∀ (s : State) (dt : Nat) (n : Fin 105), s.runs →
       Completes (.islandClockLost dt n) s fun t =>
         t.rd Fld.CTRL_ISLAND_CLK_PRESENT (n / 32) = setBitTo (s.rd Fld.CTRL_ISLAND_CLK_PRESENT (n / 32)) (n % 32) false % 2 ^ 32 ∧
         Framed dt s t [(Fld.CTRL_ISLAND_CLK_PRESENT, n / 32)] []) ∧
  (∀ (s : State) (dt : Nat) (n : Fin 105), s.runs → s.parked = [] →
       Completes (.islandClockReturn dt n) s fun t =>
         t.rd Fld.CTRL_ISLAND_CLK_PRESENT (n / 32) = setBitTo (s.rd Fld.CTRL_ISLAND_CLK_PRESENT (n / 32)) (n % 32) true % 2 ^ 32 ∧
         Framed dt s t [(Fld.CTRL_ISLAND_CLK_PRESENT, n / 32)] []) ∧
  (∀ (s : State) (dt : Nat) (k : Fin 4) (d : BitVec 384), s.runs → (s.fuse k).1 = none →
       Completes (.ownerSlotProgram dt k d) s fun t =>
         t.fuse k = (some d.toNat, (s.fuse k).2) ∧
         Framed dt s t [] [.fuses]) ∧
  (∀ (s : State) (dt : Nat) (k : Fin 4) (d : BitVec 384) (e : Nat), s.runs → (s.fuse k).1 = some e →
       Completes (.ownerSlotProgram dt k d) s fun t =>
         t.boot.fuses = s.boot.fuses ∧
         Framed dt s t [] []) ∧
  (∀ (s : State) (dt : Nat) (k : Fin 4), s.runs →
       Completes (.ownerSlotRevoke dt k) s fun t =>
         t.fuse k = ((s.fuse k).1, true) ∧
         Framed dt s t [] [.fuses]) ∧
  (∀ (s : State) (dt : Nat), s.runs → s.flt.pulseEnd ≤ s.up + dt →
       Completes (.faultPulseEnd dt) s fun t =>
         t.rd Fld.FLT_STAT_PULSE 0 = 0 ∧
         Framed dt s t [(Fld.FLT_STAT_PULSE, 0)] []) ∧
  (∀ (s : State) (dt : Nat) (i : Nat) (e : LogEntry), s.runs → s.flt.retry = [(i, e)] →
       Completes (.logRetry dt true) s fun t =>
         t.flt.retry = [] ∧ t.flt.ledgerOk = true ∧ t.flt.log = tinsert s.flt.log i e ∧
         Framed dt s t [] [.flt]) ∧
  (∀ (s : State) (dt : Nat), s.runs →
       Completes (.logRetry dt false) s fun t =>
         t.flt = { s.flt with ledgerOk := false } ∧
         Framed dt s t [] [.flt]) ∧
  (∀ (s : State) (dt : Nat), s.runs →
       Completes (.controlCoreWatchdog dt) s fun t =>
         t.stands 384 0 = true) ∧
  (∀ (s : State) (dt : Nat), s.runs →
       Completes (.crossingFifoOverflow dt) s fun t =>
         t.stands 385 0 = true)

/-- Writes that command bundles, flows, routes, audio ports and cellar entry. Time, what is sent, and other choices of the model:
log entries 1, 2, 10, 16, 24 and 82. -/
def Obligations.RegsLinks : Prop :=
  (∀ (s : State) (dt : Nat) (m : Master), s.runs → (s.start dt).writes m .PWR_CELLAR_CTL 0 false 1 1 → s.mode ≠ .startUp ∧
     s.mode ≠ .cellar →
       Completes (.cellarEnter dt m) s fun t =>
         t.mode = .cellar ∧ t.boot.cellarByPin = false ∧ t.rd Fld.PWR_CELLAR_CTL_ENTER 0 = 1 ∧ Output.result .ok [] ∈ t.out) ∧
  (∀ (s : State) (dt : Nat) (m : Master) (b : Fin 33), s.runs → (s.start dt).writes m .IZL_LINK_CTL b false 0x100 0x100 ∧
     s.clockThere b = true → s.on Fld.IZL_LINK_CTL_ENABLE b = true ∧ s.link b ≠ 0 →
       Completes (.retrain dt m b) s fun t =>
         t.link b = 1 ∧ t.rd Fld.IZL_LINK_CTL_RETRAIN b = 1 ∧ t.rd Fld.IZL_LINK_STAT_LANES_OK b = 0 ∧ Output.result .ok [] ∈ t.out) ∧
  (∀ (s : State) (dt : Nat) (m : Master) (b : Fin 33), s.runs → (s.start dt).writes m .IZL_LINK_CTL b false 1 1 ∧ s.clockThere
     b = true → s.on Fld.IZL_LINK_CTL_ENABLE b = false ∧ s.mode ≠ .startUp →
       Completes (.bundleEnable dt m b true) s fun t =>
         t.rd Fld.IZL_LINK_CTL_ENABLE b = 1 ∧ t.link b = 1 ∧ Output.result .ok [] ∈ t.out) ∧
  (∀ (s : State) (dt : Nat) (m : Master) (b : Fin 33), s.runs → (s.start dt).writes m .IZL_LINK_CTL b false 0 1 ∧ s.clockThere
     b = true → s.on Fld.IZL_LINK_CTL_ENABLE b = true →
       Completes (.bundleEnable dt m b false) s fun t =>
         t.rd Fld.IZL_LINK_CTL_ENABLE b = 0 ∧ t.link b = 0 ∧ t.rd Fld.IZL_LINK_STAT_LANES_OK b = 0 ∧ t.rd Fld.IZL_LINK_STAT_TX_IDLE b =
           2 ∧ t.stands 1 b = false ∧
         Output.result .ok [] ∈ t.out) ∧
  (∀ (s : State) (dt : Nat) (m : Master) (b : Fin 33) (v : BitVec 2), s.runs → (s.start dt).writes m .IZL_LINK_CTL b false
     (v.toNat * 16) 0x30 ∧ s.clockThere b = true →
       Completes (.idleReq dt m b v) s fun t =>
         t.rd Fld.IZL_LINK_CTL_IDLE_REQ b = v.toNat ∧ Output.result .ok [] ∈ t.out) ∧
  (∀ (s : State) (dt : Nat) (m : Master) (f : Fin 4096), s.runs → (s.start dt).writes m .ETH_FLOW_CTL f false (2 ^ 31) (2 ^
     31) → (s.rd Fld.ETH_FLOW_CTL_DIR f = 1 → s.portResv (s.rd Fld.ETH_FLOW_CTL_PORT f) + s.flowResv f ≤ 95000) →
       Completes (.flowEnable dt m f true) s fun t =>
         t.rd Fld.ETH_FLOW_CTL_EN f = 1 ∧ Output.result .ok [] ∈ t.out) ∧
  (∀ (s : State) (dt : Nat) (m : Master) (f : Fin 4096), s.runs → (s.start dt).writes m .ETH_FLOW_CTL f false (2 ^ 31) (2 ^
     31) ∧ s.on Fld.ETH_FLOW_CTL_EN f = false → s.rd Fld.ETH_FLOW_CTL_DIR f = 1 ∧ 95000 < s.portResv (s.rd
     Fld.ETH_FLOW_CTL_PORT f) + s.flowResv f →
       Completes (.flowEnable dt m f true) s fun t =>
         t.rd Fld.ETH_FLOW_CTL_EN f = 0 ∧ Output.result .errFull [] ∈ t.out ∧
         Framed dt s t [] []) ∧
  (∀ (s : State) (dt : Nat) (m : Master) (f : Fin 4096), s.runs → (s.start dt).writes m .ETH_FLOW_CTL f false 0 (2 ^ 31) →
       Completes (.flowEnable dt m f false) s fun t =>
         t.rd Fld.ETH_FLOW_CTL_EN f = 0 ∧ Output.result .ok [] ∈ t.out) ∧
  (∀ (s : State) (dt : Nat) (m : Master) (d : Fin 1152) (v : BitVec 11), s.runs → (s.start dt).writes m .WARP_DST_ROUTE d
     false v.toNat 0x7FF → s.on Fld.WARP_DST_CFG_EN d = true →
       Completes (.dstRouteWrite dt m d v) s fun t =>
         t.staged.getLast?.map (fun w => (w.reg, w.inst, w.val, w.mask, w.ord)) = some (.WARP_DST_ROUTE, d.val, v.toNat, 2047, s.ord) ∧
         t.rd Fld.WARP_DST_ROUTE_SRC d = s.rd Fld.WARP_DST_ROUTE_SRC d ∧ t.ord = s.ord + 1 ∧ Output.result .ok [] ∈ t.out) ∧
  (∀ (s : State) (dt : Nat) (m : Master) (d : Fin 1152) (v : BitVec 11), s.runs → (s.start dt).writes m .WARP_DST_ROUTE d
     false v.toNat 0x7FF → s.on Fld.WARP_DST_CFG_EN d = false ∧ s.staged = [] ∧ s.cs = [] →
       Completes (.dstRouteWrite dt m d v) s fun t =>
         t.staged = [] ∧ t.rd Fld.WARP_DST_ROUTE_SRC d = v.toNat ∧ Output.result .ok [] ∈ t.out) ∧
  (∀ (s : State) (dt : Nat) (m : Master) (p : Fin 24), s.runs → (s.start dt).writes m .APRT_PORT_CTL p false (2 ^ 31) (2 ^ 31)
     ∧ s.clockThere (80 + p) = true → s.portState p = 0 →
       Completes (.portEnable dt m p) s fun t =>
         t.rd Fld.APRT_PORT_CTL_EN p = 1 ∧ t.portState p = 1 ∧ (t.portOf p).frames = 0 ∧ Output.result .ok [] ∈ t.out) ∧
  (∀ (s : State) (dt : Nat) (m : Master) (p : Fin 24), s.runs → (s.start dt).writes m .APRT_PORT_CTL p false 0 (2 ^ 31) ∧
     s.clockThere (80 + p) = true → s.portState p = 2 →
       Completes (.portDisable dt m p) s fun t =>
         t.rd Fld.APRT_PORT_CTL_EN p = 0 ∧ t.portState p = 3 ∧ Output.result .ok [] ∈ t.out) ∧
  (∀ (s : State) (dt : Nat) (m : Master) (p : Fin 24) (v : BitVec 32), s.runs → (s.start dt).writes m .APRT_MASK_LO p false
     v.toNat (2 ^ 32 - 1) ∧ s.clockThere (80 + p) = true → p.val < 16 ∧ s.portState p ≠ 0 →
       Completes (.maskLoWrite dt m p v (2 ^ 32 - 1)) s fun t =>
         t.staged.getLast?.map (fun w => (w.reg, w.inst, w.val, w.mask, w.ord)) = some (.APRT_MASK_LO, p.val, v.toNat, 2 ^ 32 - 1,
           s.ord) ∧
         Output.result .ok [] ∈ t.out) ∧
  (∀ (s : State) (dt : Nat) (m : Master) (p : Fin 24) (v : BitVec 32), s.runs → (s.start dt).writes m .APRT_MASK_LO p false
     v.toNat (2 ^ 32 - 1) ∧ s.clockThere (80 + p) = true → 16 ≤ p.val →
       Completes (.maskLoWrite dt m p v (2 ^ 32 - 1)) s fun t =>
         (t.portOf p).lo = some v.toNat ∧ t.staged = s.staged ∧ Output.result .ok [] ∈ t.out) ∧
  (∀ (s : State) (dt : Nat) (m : Master) (p : Fin 24) (v : BitVec 32) (lo : Nat), s.runs → (s.start dt).writes m .APRT_MASK_HI
     p false v.toNat (2 ^ 32 - 1) ∧ s.clockThere (80 + p) = true → s.portState p ≠ 0 ∧ (s.portOf p).lo = some lo ∧ lo < 2 ^ 32
     ∧ s.staged = [] →
       Completes (.maskHiWrite dt m p v (2 ^ 32 - 1)) s fun t =>
         t.staged.map (fun w => (w.reg, w.inst, w.val, w.mask)) = [(.APRT_MASK_LO, p.val, lo, 2 ^ 32 - 1), (.APRT_MASK_HI, p.val,
           v.toNat, 2 ^ 32 - 1)] ∧
         (t.portOf p).lo = none ∧ Output.result .ok [] ∈ t.out)

/-- Writes that command heads, aprons and Mash engines. Time, what is sent, and other choices of the model: log entries 1, 2, 10,
82 and 126. -/
def Obligations.RegsHeads : Prop :=
  (∀ (s : State) (dt : Nat) (m : Master) (h : Fin 16) (f : Fmt), s.runs → (s.start dt).writes m .STCH_HEAD_CFG h false (2 ^
     31) (2 ^ 31) → s.on Fld.STCH_HEAD_CFG_EN h = false ∧ s.on Fld.STCH_HEAD_STAT_RUNNING h = false ∧ s.headFmt h = some f ∧
     (s.headOf h).waiting = false →
       Completes (.headEnable dt m h) s fun t =>
         t.rd Fld.STCH_HEAD_CFG_EN h = 1 ∧ (t.headOf h).startFrom = some (fine (s.start dt).now + 16 * f.line) ∧
         Output.result .ok [] ∈ t.out) ∧
  (∀ (s : State) (dt : Nat) (m : Master) (h : Fin 16), s.runs → (s.start dt).writes m .STCH_HEAD_CFG h false 0 (2 ^ 31) → s.on
     Fld.STCH_HEAD_CFG_EN h = true ∧ s.on Fld.STCH_HEAD_STAT_RUNNING h = true →
       Completes (.headDisable dt m h) s fun t =>
         t.rd Fld.STCH_HEAD_CFG_EN h = 0 ∧ (t.headOf h).stopping = true ∧ (t.headOf h).startFrom = none ∧
         (t.headOf h).fillFrom.isSome = true ∧ Output.result .ok [] ∈ t.out) ∧
  (∀ (s : State) (dt : Nat) (m : Master) (h : Fin 16), s.runs → (s.start dt).writes m .STCH_SIG_CTL h false (2 ^ 20) (2 ^ 20)
     →
       Completes (.sigLearn dt m h) s fun t =>
         t.rd Fld.STCH_SIG_CTL_LEARN h = 1 ∧ Output.result .ok [] ∈ t.out) ∧
  (∀ (s : State) (dt : Nat) (m : Master) (h : Fin 16) (v mask : BitVec 32), s.runs → (s.start dt).writes m .STCH_LAYER_POS (h
     * 8 + 7) false v.toNat mask.toNat → s.apronHead h = true ∧ s.isSafety m = true ∧ mask ≠ 0 →
       let g := h.val * 8 + 7
       Completes (.apronFieldWrite dt m h 1 v mask) s fun t =>
         t.rd Fld.STCH_LAYER_POS_X g = Fld.STCH_LAYER_POS_X.merge (s.rd Fld.STCH_LAYER_POS_X g) v.toNat mask.toNat % 65536 ∧
         t.rd Fld.STCH_LAYER_POS_Y g = Fld.STCH_LAYER_POS_Y.merge (s.rd Fld.STCH_LAYER_POS_Y g) v.toNat mask.toNat % 65536 ∧
         t.staged = s.staged ∧ Output.result .ok [] ∈ t.out) ∧
  (∀ (s : State) (dt : Nat) (m : Master) (h : Fin 16) (k : Fin 7) (v mask : BitVec 32), s.runs → s.boot.due = false ∧
     s.apronHead h = true ∧ s.isSafety m = false ∧ mask = 2 ^ 32 - 1 → (s.start dt).mayWrite m (WItem.mk (layerRegs.getD k
     .STCH_LAYER_CTL) (h.val * 8 + 7) false v.toNat mask.toNat).wide = true →
       Completes (.apronFieldWrite dt m h k v mask) s fun t =>
         Output.result .errProtected [] ∈ t.out ∧
         Framed dt s t [] []) ∧
  (∀ (s : State) (dt : Nat) (m : Master) (e : Fin 257), s.runs → (s.start dt).writes m .MASH_ENG_CTL e false 2 2 →
       Completes (.engSwapRequest dt m e) s fun t =>
         t.rd Fld.MASH_ENG_CTL_SWAP e = 1 ∧ tget 0 t.mash.swapAt e = (s.start dt).now ∧ Output.result .ok [] ∈ t.out) ∧
  (∀ (s : State) (dt : Nat) (m : Master) (e : Fin 257) (hold : Bool), s.runs → (s.start dt).writes m .MASH_ENG_CTL e false
     (b2n hold) 1 →
       Completes (.engHoldWrite dt m e hold) s fun t =>
         t.rd Fld.MASH_ENG_CTL_HOLD e = b2n hold ∧ Output.result .ok [] ∈ t.out)

/-- Writes that command Kiln, GNSS and the time service. Time, what is sent, and other choices of the model: log entries 1, 2, 10,
11 and 23. -/
def Obligations.RegsTime : Prop :=
  (∀ (s : State) (dt : Nat) (m : Master) (v mask : BitVec 32) (f : Field), s.runs → (s.start dt).writes m .KILN_SEL_CTL 0
     false v.toNat mask.toNat → f ∈ Reg.KILN_SEL_CTL.fields ∧ f.acc = .l →
       Completes (.selCtlWrite dt m v mask) s fun t =>
         t.rd f 0 = f.merge (s.rd f 0) v.toNat mask.toNat % 2 ^ f.width ∧ Output.result .ok [] ∈ t.out) ∧
  (∀ (s : State) (dt : Nat) (m : Master) (second : Bool) (v mask : BitVec 32) (f : Field) (r : Reg), s.runs → r = (if second
     then .KILN_REF_ORDER_1 else .KILN_REF_ORDER_0) ∧ f ∈ r.fields ∧ f.acc = .l → (s.start dt).writes m r 0 false v.toNat
     mask.toNat →
       Completes (.refOrderWrite dt m second v mask) s fun t =>
         t.rd f 0 = f.merge (s.rd f 0) v.toNat mask.toNat % 2 ^ f.width ∧ Output.result .ok [] ∈ t.out) ∧
  (∀ (s : State) (dt : Nat) (m : Master) (n : Nat), s.runs → (s.start dt).writes m .KILN_SET_CTL 0 false 1 1 → s.on
     Fld.KILN_STAT_TIME_VALID 0 = false ∧ s.rd Fld.KILN_SET_NS_NS 0 = n ∧ n ≤ 999999999 → 44 ≤ s.rd Fld.KILN_STAT_SELECTED 0 ∧
     s.kiln.refs = [] →
       Completes (.timeSetGo dt m) s fun t =>
         t.now = sec (s.rd Fld.KILN_SET_SEC_HI_SEC 0 * 2 ^ 32 + s.rd Fld.KILN_SET_SEC_LO_SEC 0) + ns n ∧
         t.rd Fld.KILN_STAT_TIME_VALID 0 = 1 ∧ t.rd Fld.KILN_STAT_STATE 0 = 1 ∧ t.kiln.a0 = 0 ∧ Output.result .ok [] ∈ t.out) ∧
  (∀ (s : State) (dt : Nat) (m : Master), s.runs → (s.start dt).writes m .KILN_SET_CTL 0 false 1 1 → s.on
     Fld.KILN_STAT_TIME_VALID 0 = true →
       Completes (.timeSetGo dt m) s fun t =>
         Output.result .errAccess [] ∈ t.out ∧
         Framed dt s t [] []) ∧
  (∀ (s : State) (dt : Nat) (m : Master) (v : BitVec 32), s.runs → (s.start dt).writes m .GNSS_POS_UNC 0 false v.toNat (2 ^ 32
     - 1) →
       Completes (.posWrite dt m 3 false v (2 ^ 32 - 1)) s fun t =>
         t.rd Fld.GNSS_POS_UNC_UNC 0 = v.toNat ∧ t.gnss.posDirty = true ∧ Output.result .ok [] ∈ t.out) ∧
  (∀ (s : State) (dt : Nat) (m : Master) (v : BitVec 32), s.runs → (s.start dt).writes m .GNSS_POS_X 0 false v.toNat (2 ^ 32 -
     1) ∧ s.held = [] →
       Completes (.posWrite dt m 0 false v (2 ^ 32 - 1)) s fun t =>
         t.held = [⟨m, .GNSS_POS_X, 0, v.toNat, 2 ^ 32 - 1⟩] ∧ t.rd Fld.GNSS_POS_X_POS 0 = s.rd Fld.GNSS_POS_X_POS 0 ∧
         Output.result .ok [] ∈ t.out) ∧
  (∀ (s : State) (dt : Nat) (m : Master) (v : BitVec 32) (k : Fin 3) (r : Reg) (f : Field) (lo : Nat), s.runs → r =
     [.GNSS_POS_X, .GNSS_POS_Y, .GNSS_POS_Z].getD k .GNSS_POS_X ∧ f = [Fld.GNSS_POS_X_POS, Fld.GNSS_POS_Y_POS,
     Fld.GNSS_POS_Z_POS].getD k Fld.GNSS_POS_X_POS → (s.start dt).writes m r 0 true v.toNat (2 ^ 32 - 1) ∧ s.held = [⟨m, r, 0,
     lo, 2 ^ 32 - 1⟩] ∧ lo < 2 ^ 32 →
       Completes (.posWrite dt m (k.castSucc) true v (2 ^ 32 - 1)) s fun t =>
         t.held = [] ∧ t.rd f 0 = v.toNat * 2 ^ 32 + lo ∧ t.gnss.posDirty = true ∧ Output.result .ok [] ∈ t.out) ∧
  (∀ (s : State) (dt : Nat) (m : Master) (v : BitVec 2), s.runs → (s.start dt).writes m .GNSS_CTL 0 false (v.toNat * 2 ^ 28)
     (3 * 2 ^ 28) →
       Completes (.posModeWrite dt m v) s fun t =>
         t.rd Fld.GNSS_CTL_POS_MODE 0 = v.toNat ∧ Output.result .ok [] ∈ t.out) ∧
  (∀ (s : State) (dt : Nat) (m : Master), s.runs → (s.start dt).writes m .GNSS_CTL 0 false 0 (3 * 2 ^ 28) →
       Completes (.posModeWrite dt m 0) s fun t =>
         t.gnss.surveyed = none ∧ t.gnss.surveyN = 0 ∧ t.rd Fld.GNSS_STAT_SURVEYED 0 = 0) ∧
  (∀ (s : State) (dt : Nat) (m : Master), s.runs → (s.start dt).writes m .GNSS_CTL 0 false (2 ^ 30) (2 ^ 30) →
       Completes (.selftest dt m) s fun t =>
         t.gnss.testing = true ∧ t.rd Fld.GNSS_CTL_SELFTEST 0 = 1 ∧ t.rd Fld.GNSS_STAT_STATE 0 = 4 ∧ Output.result .ok [] ∈ t.out) ∧
  (∀ (s : State) (dt : Nat) (m : Master) (w : Fin 64), s.runs → (s.start dt).writes m .TSVC_SESS_CMD 0 false 1 1 →
       Completes (.sessRead dt m) s fun t =>
         t.rd Fld.TSVC_SESS_DATA_DATA w = beAt (s.tentOf (s.rd Fld.TSVC_SESS_SEL_INDEX 0)).bytes (4 * w) 4 ∧
         Output.result .ok [] ∈ t.out) ∧
  (∀ (s : State) (dt : Nat) (m : Master) (keyA keyB : Bool) (e : TEntry) (i : Nat), s.runs → (s.start dt).writes m
     .TSVC_SESS_CMD 0 false (2 + b2n keyA * 8 + b2n keyB * 16) 0x1A → s.rd Fld.TSVC_SESS_SEL_INDEX 0 = i ∧ s.tentOf i = e ∧
     e.anyGrant = false →
       let w := s.sessWindow
       Completes (.sessWrite dt m keyA keyB) s fun t =>
         (t.tentOf i).valid = bitOf (beAt w 0 1) 7 ∧ (t.tentOf i).bind = bitOf (beAt w 0 1) 6 ∧
         (t.tentOf i).port = beAt w 0 1 % 32 ∧ (t.tentOf i).domain = beAt w 1 1 ∧
         (t.tentOf i).a = (if keyA then { id := beAt w 28 4, key := beAt w 32 32 } else e.a) ∧
         (t.tentOf i).b = (if keyB then { id := beAt w 72 4, key := beAt w 76 32 } else e.b) ∧
         Output.result .ok [] ∈ t.out) ∧
  (∀ (s : State) (dt : Nat) (m : Master), s.runs → (s.start dt).writes m .TSVC_SESS_CMD 0 false 4 4 →
       let i := s.rd Fld.TSVC_SESS_SEL_INDEX 0
       Completes (.sessInvalidate dt m) s fun t =>
         (t.tentOf i).valid = false ∧ (t.tentOf i).anyGrant = false ∧ Output.result .ok [] ∈ t.out) ∧
  (∀ (s : State) (dt : Nat) (m : Master) (slot : BitVec 3) (w : Fin 8), s.runs → (s.start dt).writes m .TSVC_KEY_LOAD 0 false
     (2 ^ 31 + slot.toNat) (2 ^ 31 + 0x107) → (∀ p : Fin 18, s.ptpRole p = 0 ∨ s.rd Fld.TSVC_PORT_CFG_GKEY p ≠ slot.toNat) →
       Completes (.keyLoad dt m false slot) s fun t =>
         t.groupOf slot.toNat = { id := s.rd Fld.TSVC_KEY_ID_ID 0, key := s.keyStaged } ∧
         t.rd Fld.TSVC_GKEY_STAT_LOADED slot.toNat = 1 ∧ t.rd Fld.TSVC_GKEY_ID_ID slot.toNat = s.rd Fld.TSVC_KEY_ID_ID 0 % 2 ^ 32 ∧
         t.rd Fld.TSVC_KEY_STAGE_DATA w = 0 ∧ Output.result .ok [] ∈ t.out) ∧
  (∀ (s : State) (dt : Nat) (m : Master) (slot : BitVec 3) (w : Fin 8), s.runs → (s.start dt).writes m .TSVC_KEY_LOAD 0 false
     (2 ^ 31 + 256 + slot.toNat) (2 ^ 31 + 0x107) → slot.toNat < 4 ∧ s.on Fld.TSVC_NTS_MKEY_STAT_ISSUE slot.toNat = false →
       Completes (.keyLoad dt m true slot) s fun t =>
         tget 0 t.tsvc.nts slot.toNat = s.keyStaged ∧ t.rd Fld.TSVC_NTS_MKEY_ID_ID slot.toNat = s.rd Fld.TSVC_KEY_ID_ID 0 % 2 ^ 32 ∧
         t.rd Fld.TSVC_KEY_STAGE_DATA w = 0 ∧ Output.result .ok [] ∈ t.out) ∧
  (∀ (s : State) (dt : Nat) (m : Master) (k j : Fin 4), s.runs → (s.start dt).writes m .TSVC_NTS_MKEY_STAT k false (2 ^ 31 + 2
     ^ 30) (3 * 2 ^ 30) → j ≠ k →
       Completes (.ntsMkeyWrite dt m k true true) s fun t =>
         t.rd Fld.TSVC_NTS_MKEY_STAT_EN k = 1 ∧ t.rd Fld.TSVC_NTS_MKEY_STAT_ISSUE k = 1 ∧ t.rd Fld.TSVC_NTS_MKEY_STAT_ISSUE j = 0 ∧
         Output.result .ok [] ∈ t.out) ∧
  (∀ (s : State) (dt : Nat) (m : Master) (p : Fin 18) (role : BitVec 2), s.runs → (s.start dt).writes m .TSVC_PORT_CFG p false
     (role.toNat * 2 ^ 30) (3 * 2 ^ 30) →
       Completes (.ptpRoleWrite dt m p role) s fun t =>
         t.ptpRole p = role.toNat ∧ Output.result .ok [] ∈ t.out) ∧
  (∀ (s : State) (dt : Nat) (m : Master) (v : BitVec 31), s.runs → (s.start dt).writes m .TSVC_INJECT_CTL 0 false (2 ^ 31 +
     v.toNat) (2 ^ 32 - 1) ∧ s.tsvc.inj = none →
       Completes (.inject dt m v) s fun t =>
         t.rd Fld.TSVC_INJECT_CTL_GO 0 = 1 ∧ Output.result .ok [] ∈ t.out ∧
         t.tsvc.inj = some
           { port := bitsOf v.toNat 23 5, queue := bitsOf v.toNat 28 2, len := bitsOf v.toNat 0 14, ts := bitOf v.toNat 30, id := s.rd Fld.TSVC_INJECT_ID_ID 0, addr := s.rd Fld.TSVC_INJECT_ADDR_ADDR 0 }) ∧
  (∀ (s : State) (dt : Nat) (m : Master) (v : BitVec 31), s.runs → (s.start dt).writes m .TSVC_INJECT_CTL 0 false (2 ^ 31 +
     v.toNat) (2 ^ 32 - 1) ∧ s.tsvc.inj.isSome = true →
       Completes (.inject dt m v) s fun t =>
         Output.result .errBusy [] ∈ t.out ∧ t.tsvc = s.tsvc ∧
         Framed dt s t [] [])

/-- Writes that command the mantle, faults, HCP slots, trial state, Hopper, the check units and the UART. Time, what is sent, and
other choices of the model: log entries 1, 2, 10, 56, 61 and 160. -/
def Obligations.RegsSystem : Prop :=
  (∀ (s : State) (dt : Nat) (m : Master) (th : Nat), s.runs → (s.start dt).writes m .MNTL_CTL 0 false (2 ^ 26) (2 ^ 26) ∧
     s.role = .holder ∧ s.mntl.proposed = none → th = ((s.start dt).now + ms 21 - 1) / ms 1 * ms 1 →
       Completes (.handover dt m) s fun t =>
         t.mntl.proposed = some th ∧ t.rd Fld.MNTL_STAT_HO_STATE 0 = 1 ∧ t.rd Fld.MNTL_STAT_HO_CAUSE 0 = 0 ∧
         t.rd Fld.MNTL_CTL_HANDOVER 0 = 1 ∧ Output.result .ok [] ∈ t.out) ∧
  (∀ (s : State) (dt : Nat) (m : Master), s.runs → (s.start dt).writes m .MNTL_CTL 0 false (2 ^ 26) (2 ^ 26) ∧ s.role ≠
     .holder →
       Completes (.handover dt m) s fun t =>
         t.rd Fld.MNTL_STAT_HO_STATE 0 = 4 ∧ t.rd Fld.MNTL_STAT_HO_CAUSE 0 = 4 ∧ t.role = s.role ∧ Output.result .ok [] ∈ t.out) ∧
  (∀ (s : State) (dt : Nat) (m : Master), s.runs → (s.start dt).writes m .MNTL_CTL 0 false (2 ^ 31) (2 ^ 31) ∧ s.on
     Fld.MNTL_CTL_EN 0 = false → s.mild →
       Completes (.mantleEnWrite dt m true) s fun t =>
         t.rd Fld.MNTL_CTL_EN 0 = 1 ∧ t.role = .none ∧ t.mntl.flag = false ∧ t.mntl.tn = s.up + dt ∧ Output.result .ok [] ∈ t.out) ∧
  (∀ (s : State) (dt : Nat) (m : Master), s.runs → (s.start dt).writes m .MNTL_CTL 0 false 0 (2 ^ 31) ∧ s.on Fld.MNTL_CTL_EN 0
     = true → s.mantleLink = true →
       Completes (.mantleEnWrite dt m false) s fun t =>
         t.rd Fld.MNTL_CTL_EN 0 = 1 ∧ t.role = s.role ∧ Output.result .errBusy [] ∈ t.out ∧
         Framed dt s t [] []) ∧
  (∀ (s : State) (dt : Nat) (m : Master) (fs : Fin 512) (k : UKind), s.runs → (s.start dt).writes m .FLT_SRC_STAT fs false (2
     ^ 31) (2 ^ 31) ∧ faultInfo fs = some (false, k) →
       Completes (.standingClear dt m fs) s fun t =>
         t.fsStands fs = false ∧ Output.result .ok [] ∈ t.out) ∧
  (∀ (s : State) (dt : Nat) (m : Master) (fs : Fin 512) (k : UKind), s.runs → (s.start dt).writes m .FLT_SRC_STAT fs false (2
     ^ 31) (2 ^ 31) ∧ faultInfo fs = some (true, k) →
       Completes (.standingClear dt m fs) s fun t =>
         t.flt = s.flt ∧ Output.result .ok [] ∈ t.out) ∧
  (∀ (s : State) (dt : Nat) (m : Master) (kind : BitVec 4) (idx : BitVec 12) (k : UKind), s.runs → (s.start dt).writes m
     .FLT_FENCE_CMD 0 false (2 ^ 31 + kind.toNat * 65536 + idx.toNat) (3 * 2 ^ 30 + 0xF0FFF) → UKind.ofCode kind.toNat = k ∧
     idx.toNat < k.count →
       Completes (.fenceCmdFence dt m kind idx) s fun t =>
         t.fenced k idx.toNat = true ∧ Output.result .ok [] ∈ t.out) ∧
  (∀ (s : State) (dt : Nat) (m : Master) (kind : BitVec 4) (idx : BitVec 12) (k : UKind), s.runs → (s.start dt).writes m
     .FLT_FENCE_CMD 0 false (3 * 2 ^ 30 + kind.toNat * 65536 + idx.toNat) (3 * 2 ^ 30 + 0xF0FFF) → UKind.ofCode kind.toNat = k
     ∧ idx.toNat < k.count ∧ k ≠ .dst →
       Completes (.fenceCmdRelease dt m kind idx) s fun t =>
         t.fenced k idx.toNat = false ∧ Output.result .ok [] ∈ t.out) ∧
  (∀ (s : State) (dt : Nat) (m : Master) (v : Bool), s.runs → (s.start dt).writes m .FLT_PIN_CTL 0 false (b2n v) 1 →
       Completes (.faultHoldWrite dt m v) s fun t =>
         t.rd Fld.FLT_PIN_CTL_FAULT_HOLD 0 = b2n v ∧ Output.result .ok [] ∈ t.out) ∧
  (∀ (s : State) (dt : Nat) (m : Master) (n : BitVec 9), s.runs → (s.start dt).writes m .FLT_LOG_ACK 0 false n.toNat 0x1FF →
       let k := min n.toNat (s.rd Fld.FLT_LOG_PTR_COUNT 0)
       Completes (.logAck dt m n) s fun t =>
         t.rd Fld.FLT_LOG_PTR_TAIL 0 = (s.rd Fld.FLT_LOG_PTR_TAIL 0 + k) % 256 ∧
         t.rd Fld.FLT_LOG_PTR_COUNT 0 = (s.rd Fld.FLT_LOG_PTR_COUNT 0 - k) % 512 ∧ Output.result .ok [] ∈ t.out) ∧
  (∀ (s : State) (dt : Nat) (m : Master) (k : Fin 16) (j : Fin 32), s.runs → (s.start dt).writes m .HCP_SLOT_STAT k false 0 (2
     ^ 30) → (s.sessOf j).active = true ∧ (s.sessOf j).slot = k.val →
       Completes (.slotDisable dt m k) s fun t =>
         t.rd Fld.HCP_SLOT_STAT_EN k = 0 ∧ t.sessOf j = {} ∧ Output.result .ok [] ∈ t.out) ∧
  (∀ (s : State) (dt : Nat) (m : Master), s.runs → (s.start dt).writes m .BOOT_TRIAL 0 false (2 ^ 31) (2 ^ 31) →
       Completes (.trialConfirmWrite dt m) s fun t =>
         t.rd Fld.BOOT_TRIAL_CONFIRM 0 = 1 ∧ Output.result .ok [] ∈ t.out) ∧
  (∀ (s : State) (dt : Nat) (m : Master), s.runs → (s.start dt).writes m .BOOT_TRIAL 0 false (2 ^ 30) (2 ^ 30) →
       Completes (.trialReject dt m) s fun t =>
         t.boot.rec_.fallback = true ∧ t.mode = .startUp ∧ t.rd Fld.BOOT_STAT_STAGE 0 = 1 ∧ t.boot.due = false ∧
         Output.result .ok [] ∈ t.out) ∧
  (∀ (s : State) (dt : Nat) (m : Master) (c : Fin 16), s.runs → (s.start dt).writes m .HOP_CH_CTL c false (2 ^ 30) (2 ^ 30) →
     s.on Fld.HOP_CH_CTL_EN c = true ∧ (s.hopOf c).phase = .rest ∧ s.fenced .hopCh c = false →
       Completes (.hopperGo dt m c) s fun t =>
         t.hopOf c = { phase := .fetch } ∧ t.rd Fld.HOP_CH_CTL_GO c = 1 ∧ t.rd Fld.HOP_CH_STAT_STATE c = 1 ∧ Output.result .ok [] ∈
           t.out) ∧
  (∀ (s : State) (dt : Nat) (m : Master) (c : Fin 16), s.runs → (s.start dt).writes m .HOP_CH_CTL c false 0 (2 ^ 31) →
     (s.hopOf c).phase = .run ∧ (s.hopOf c).stop = none →
       Completes (.hopperStop dt m c) s fun t =>
         t.hopOf c = { s.hopOf c with stop := some 7 } ∧ t.rd Fld.HOP_CH_CTL_EN c = 0 ∧ Output.result .ok [] ∈ t.out) ∧
  (∀ (s : State) (dt : Nat) (m : Master) (u : Fin 8), s.runs → (s.start dt).writes m .CRC_CTL u false (2 ^ 30) (2 ^ 30) ∧ s.on
     Fld.CRC_CTL_EN u = true →
       let f := crcByte (s.rd Fld.CRC_CFG_WIDTH u) (s.rd Fld.CRC_POLY_V u) (s.on Fld.CRC_CFG_REFIN u)
       Completes (.crcStart dt m u) s fun t =>
         t.rd Fld.CRC_VALUE_V u = ((s.crcPrefix u).foldl f (s.rd Fld.CRC_INIT_V u % 2 ^ 64)) % 2 ^ 64 ∧ Output.result .ok [] ∈ t.out) ∧
  (∀ (s : State) (dt : Nat) (m : Master) (u : Fin 8) (v : BitVec 32), s.runs → (s.start dt).writes m .CRC_FEED u false v.toNat
     (2 ^ 32 - 1) ∧ s.on Fld.CRC_CTL_EN u = true →
       let f := crcByte (s.rd Fld.CRC_CFG_WIDTH u) (s.rd Fld.CRC_POLY_V u) (s.on Fld.CRC_CFG_REFIN u)
       Completes (.crcFeed dt m u v) s fun t =>
         t.rd Fld.CRC_VALUE_V u = ((beBytes 4 v.toNat).take (s.rd Fld.CRC_CTL_FEED_BYTES u + 1)).foldl f (s.rd Fld.CRC_VALUE_V u) % 2 ^
           64 ∧
         Output.result .ok [] ∈ t.out) ∧
  (∀ (s : State) (dt : Nat) (m : Master) (u : Fin 8) (v : BitVec 32) (lo : Nat), s.runs → (s.start dt).writes m .CRC_VALUE u
     true v.toNat (2 ^ 32 - 1) ∧ s.held = [⟨m, .CRC_VALUE, u, lo, 2 ^ 32 - 1⟩] ∧ lo < 2 ^ 32 →
       Completes (.crcValueRestore dt m u v) s fun t =>
         t.rd Fld.CRC_VALUE_V u = v.toNat * 2 ^ 32 + lo ∧ t.held = [] ∧ Output.result .ok [] ∈ t.out) ∧
  (∀ (s : State) (dt : Nat) (m : Master) (b : Byte), s.runs → (s.start dt).writes m .PWR_UART_TX 0 false b.toNat 0xFF ∧ s.on
     Fld.PWR_UART_CTL_EN 0 = true → ((s.start dt).uartDrain).pwr.tx.length < 256 →
       Completes (.uartTxWrite dt m b) s fun t =>
         t.pwr.tx = (s.start dt).uartDrain.pwr.tx ++ [b] ∧ Output.result .ok [] ∈ t.out) ∧
  (∀ (s : State) (dt : Nat) (m : Master) (b : Byte), s.runs → (s.start dt).writes m .PWR_UART_TX 0 false b.toNat 0xFF ∧ s.on
     Fld.PWR_UART_CTL_EN 0 = true → 256 ≤ ((s.start dt).uartDrain).pwr.tx.length →
       Completes (.uartTxWrite dt m b) s fun t =>
         t.pwr = s.pwr ∧ Output.result .errFull [] ∈ t.out)

/-- A write and a read of any register word: plain fields, refusals, parked writes, and what a read clears or latches. Time, what
is sent, and other choices of the model: log entries 1, 2, 23, 57, 89 and 111. -/
def Obligations.RegsWords : Prop :=
  (∀ (s : State) (dt : Nat) (m : Master) (p : Fin 18) (v mask : BitVec 32) (f : Field), s.runs → (s.start dt).writes m
     .TSVC_NEG_CFG p false v.toNat mask.toNat ∧ f ∈ Reg.TSVC_NEG_CFG.fields ∧ f.acc = .l →
       Completes (.registerWrite dt m (.named .TSVC_NEG_CFG p false) v mask) s fun t =>
         t.rd f p = f.merge (s.rd f p) v.toNat mask.toNat % 2 ^ f.width ∧ Output.result .ok [] ∈ t.out) ∧
  (∀ (s : State) (dt : Nat) (m : Master) (a : RegAddr) (r : Reg) (i : Nat) (hi : Bool) (v mask : BitVec 32) (e : Status),
     s.runs → s.boot.due = false ∧ e ≠ .ok ∧ e ≠ .errAddr ∧ a.loc = some (.reg r i hi) → (s.start dt).checkItem m (s.isSafety
     m) ((s.start dt).wholes m s.held [⟨a, v, mask⟩]) a.loc ⟨a, v, mask⟩ ((s.start dt).whole m s.held ⟨r, i, hi, v.toNat,
     mask.toNat⟩).1 = e →
       Completes (.registerWrite dt m a v mask) s fun t =>
         Output.result e [] ∈ t.out ∧
         Framed dt s t [] []) ∧
  (∀ (s : State) (dt : Nat) (m : Fin 4) (a : RegAddr) (v mask : BitVec 32), s.runs → s.boot.due = false ∧ a.loc = none →
       Completes (.registerWrite dt (.core m) a v mask) s fun t =>
         Output.result .errAddr [] ∈ t.out ∧ t.rd Fld.CTRL_DEFAULT_ERR_MASTER 0 = m ∧ t.rd Fld.CTRL_DEFAULT_ERR_WRITE 0 = 1 ∧
         t.rd Fld.CTRL_DEFAULT_ERR_ADDR 0 = a.num % 2 ^ Fld.CTRL_DEFAULT_ERR_ADDR.width ∧ t.stands 417 0 = true) ∧
  (∀ (s : State) (dt : Nat) (m : Master) (b : Fin 33) (v mask : BitVec 32), s.runs → (s.start dt).writes m .IZL_PRBS_CTL b
     false v.toNat mask.toNat ∧ s.clockThere b = false →
       Completes (.registerWrite dt m (.named .IZL_PRBS_CTL b false) v mask) s fun t =>
         Output.result .ok [] ∈ t.out ∧
         (if Config.inIsland Reg.IZL_PRBS_CTL.ix then t.parked = s.parked ++ [⟨.IZL_PRBS_CTL, b, v.toNat, mask.toNat⟩] ∧ t.rd
           Fld.IZL_PRBS_CTL_POLY b = s.rd Fld.IZL_PRBS_CTL_POLY b else t.parked = s.parked)) ∧
  (∀ (s : State) (dt : Nat) (m : Master) (b : Fin 33) (n : Nat), s.runs → s.mayRead m ∧ s.rd Fld.CELL_CNT_CRC_ERR_CNT b = n ∧
     n < 2 ^ 32 →
       Completes (.rcCounterRead dt m (.named .CELL_CNT_CRC_ERR b false)) s fun t =>
         Output.result .ok [n] ∈ t.out ∧ t.rd Fld.CELL_CNT_CRC_ERR_CNT b = 0 ∧
         Framed dt s t [(Fld.CELL_CNT_CRC_ERR_CNT, b)] []) ∧
  (∀ (s : State) (dt : Nat) (m : Fin 4) (p : Fin 18) (n : Nat), s.runs → s.rd Fld.ETH_CNT_RX_OCTETS_CNT p = n ∧ n < 2 ^ 64 ∧
     s.latch = [] →
       Completes (.lowerWordRead dt (.core m) (.named .ETH_CNT_RX_OCTETS p false)) s fun t =>
         Output.result .ok [n % 2 ^ 32] ∈ t.out ∧ t.latch = [⟨.core m, .ETH_CNT_RX_OCTETS, p, n / 2 ^ 32⟩] ∧
         Framed dt s t [] [.latch]) ∧
  (∀ (s : State) (dt : Nat) (m : Fin 4) (p : Fin 18) (n : Nat), s.runs → s.latch = [⟨.core m, .ETH_CNT_RX_OCTETS, p, n⟩] →
       Completes (.rcCounterRead dt (.core m) (.named .ETH_CNT_RX_OCTETS p true)) s fun t =>
         Output.result .ok [n] ∈ t.out ∧ t.latch = [] ∧
         Framed dt s t [] [.latch]) ∧
  (∀ (s : State) (dt : Nat) (k : Fin 32) (a : RegAddr), s.runs → s.rd Fld.HCP_SLOT_STAT_RIGHTS (s.sessOf k).slot % 2 = 0 ∧
     (s.range a 1).isSome = true →
       Completes (.rcCounterRead dt (.sess k) a) s fun t =>
         Output.result .errAccess [] ∈ t.out ∧
         Framed dt s t [] []) ∧
  (∀ (s : State) (dt : Nat) (m : Master) (x : Nat), s.runs → s.mayRead m ∧ (s.start dt).now = x ∧ x < sec (2 ^ 48) →
       Completes (.nowRead dt m) s fun t =>
         Output.result .ok [x / sec 1 % 2 ^ 32] ∈ t.out ∧ t.rd Fld.KILN_NOW_SEC_HI_SEC 0 = x / sec (2 ^ 32) ∧
         t.rd Fld.KILN_NOW_NS_NS 0 = x % sec 1 / 65536 ∧ t.rd Fld.KILN_NOW_FRAC_FRAC 0 = x % 65536) ∧
  (∀ (s : State) (dt : Nat) (m : Master) (n : Fin 8) (falling : Bool) (x : Nat) (rest : List (Bool × Nat)), s.runs → s.mayRead
     m ∧ tget [] s.kiln.evq n = (falling, x) :: rest ∧ x < sec (2 ^ 32) →
       Completes (.evtCapRead dt m n) s fun t =>
         Output.result .ok [b2n falling * 2 ^ 30 + x % 65536] ∈ t.out ∧ tget [] t.kiln.evq n = rest ∧
         t.rd Fld.KILN_EVT_CAP_1_NS n = x % sec 1 / 65536 ∧ t.rd Fld.KILN_EVT_CAP_2_SEC n = x / sec 1) ∧
  (∀ (s : State) (dt : Nat) (m : Master) (n : Fin 8), s.runs → s.mayRead m ∧ tget [] s.kiln.evq n = [] →
       Completes (.evtCapRead dt m n) s fun t =>
         Output.result .ok [2 ^ 31] ∈ t.out ∧
         Framed dt s t [] []) ∧
  (∀ (s : State) (dt : Nat) (m : Master) (p : Fin 18) (k x : Nat) (d : Bool) (rest : List (Nat × Bool × Nat)), s.runs →
     s.mayRead m ∧ (s.tportOf p).txts = (k, d, x) :: rest ∧ k < 65536 ∧ x < sec (2 ^ 48) →
       Completes (.txtsRead dt m p) s fun t =>
         Output.result .ok [b2n d * 2 ^ 30 + k] ∈ t.out ∧ (t.tportOf p).txts = rest ∧
         t.rd Fld.TSVC_TXTS_1_NS p = x % sec 1 / 65536 ∧ t.rd Fld.TSVC_TXTS_2_SEC p = x / sec 1 % 2 ^ 32 ∧
         t.rd Fld.TSVC_TXTS_3_SEC_HI p = x / sec (2 ^ 32) ∧ t.rd Fld.TSVC_TXTS_3_FRAC p = x % 65536) ∧
  (∀ (s : State) (dt : Nat) (m : Master) (b : Byte) (rest : List Byte), s.runs → s.mayRead m ∧ s.pwr.rx = b :: rest →
       Completes (.uartRxRead dt m) s fun t =>
         Output.result .ok [b2n s.pwr.lost * 2 ^ 30 + b.toNat] ∈ t.out ∧ t.pwr = { s.pwr with rx := rest, lost := false } ∧
         Framed dt s t [] [.pwr]) ∧
  (∀ (s : State) (dt : Nat) (m : Master), s.runs → s.mayRead m ∧ s.pwr.rx = [] →
       Completes (.uartRxRead dt m) s fun t =>
         Output.result .ok [2 ^ 31 + b2n s.pwr.lost * 2 ^ 30] ∈ t.out ∧ t.pwr = { s.pwr with lost := false })

/-- HCP sessions: OPEN, CLOSE, NOP, their timeouts, and what fails before execution. Time, what is sent, and other choices of the
model: log entries 1, 2, 8 and 9. -/
def Obligations.HcpSessions : Prop :=
  (∀ (s : State) (dt : Nat) (h : HcpReq), s.runs → h.session = 0 ∧ (s.start dt).gets h ∧ s.slotOn h.slot = true ∧ h.tagOk =
     true → h.seq.toNat ∈ tget [] s.hcp.opens h.slot.val →
       Completes (.hcpOpen dt h) s fun t =>
         t.rd Fld.HCP_CNT_SEQ_ERR_CNT 0 = s.counted Fld.HCP_CNT_SEQ_ERR_CNT 0 1 ∧ t.hcp.opens = s.hcp.opens ∧
         s.framed (ctlPort h.ctl1) (.hcpResp h.ctl1 h.src h.slot.val false 1 (h.seq.toNat % 2 ^ 63 + 2 ^ 63) h.session.toNat
           h.reqId.toNat .errSeq []) ∈ t.out) ∧
  (∀ (s : State) (dt : Nat) (h : HcpReq), s.runs → h.session = 0 ∧ (s.start dt).gets h ∧ s.slotOn h.slot = true ∧ h.tagOk =
     true → 0 < h.seq.toNat ∧ h.seq.toNat < 2 ^ 63 ∧ h.seq.toNat ∉ tget [] s.hcp.opens h.slot.val → h.badOp = false ∧ h.short
     = false ∧ h.resp = false → s.freeSess h.slot = none →
       Completes (.hcpOpen dt h) s fun t =>
         t.hcp.opens = s.hcp.opens ∧ t.rd Fld.HCP_SLOT_OPENS_COUNT h.slot = s.rd Fld.HCP_SLOT_OPENS_COUNT h.slot ∧
         s.framed (ctlPort h.ctl1) (.hcpResp h.ctl1 h.src h.slot.val false 1 (h.seq.toNat + 2 ^ 63) h.session.toNat h.reqId.toNat
           .errFull []) ∈ t.out) ∧
  (∀ (s : State) (dt : Nat) (h : HcpReq) (k : Nat), s.runs → (s.start dt).asks h none true k →
       Completes (.hcpClose dt h) s fun t =>
         (t.sessOf k).active = false ∧ (t.sessOf k).subs = 0 ∧ (t.sessOf k).queue = [] ∧
         (t.hcp.snaps = s.hcp.snaps.filter fun p => p.2.owner != k) ∧
         s.reply h k 2 .ok [] ∈ t.out) ∧
  (∀ (s : State) (dt : Nat) (h : HcpReq) (k : Nat), s.runs → (s.start dt).asks h none true k →
       Completes (.hcpNop dt h) s fun t =>
         (t.sessOf k).active = true ∧ (t.sessOf k).pending = false ∧ (t.sessOf k).high = max (s.sessOf k).high h.seq.toNat ∧ (t.sessOf
           k).lastAt = s.up + dt ∧
         s.reply h k 3 .ok (kilnBytes (s.start dt).now) ∈ t.out) ∧
  (∀ (s : State) (dt : Nat) (h : HcpReq), s.runs → (s.start dt).gets h ∧ (s.slotOn h.slot = false ∨ s.findSess h.slot
     h.session.toNat = none ∨ h.tagOk = false) → s.mild ∧ (s.hcp.plainSec = (s.up + dt) / sec 1 → s.hcp.plainN < 100) →
       Completes (.hcpNop dt h) s fun t =>
         t.rd Fld.HCP_CNT_AUTH_FAIL_CNT 0 = s.counted Fld.HCP_CNT_AUTH_FAIL_CNT 0 1 ∧
         (∀ k, (t.sessOf k).high = (s.sessOf k).high) ∧
         s.framed (ctlPort h.ctl1) (.hcpResp h.ctl1 h.src h.slot.val true 3 h.seq.toNat h.session.toNat h.reqId.toNat .errAuth []) ∈
           t.out) ∧
  (∀ (s : State) (dt : Nat) (h : HcpReq) (k : Nat) (a : Reply), s.runs → (s.start dt).gets h ∧ s.slotOn h.slot = true ∧
     s.findSess h.slot h.session.toNat = some k ∧ h.tagOk = true → (s.sessOf k).seqCheck h.seq.toNat = .again a ∧ a.reqId < 2
     ^ 32 →
       Completes (.hcpNop dt h) s fun t =>
         (t.sessOf k).high = (s.sessOf k).high ∧ (t.sessOf k).kept = (s.sessOf k).kept ∧
         s.framed (ctlPort h.ctl1) (.hcpResp h.ctl1 h.src h.slot.val false a.op a.seq h.session.toNat a.reqId a.status a.body) ∈ t.out) ∧
  (∀ (s : State) (dt : Nat) (h : HcpReq) (k : Nat), s.runs → (s.start dt).gets h ∧ s.slotOn h.slot = true ∧ s.findSess h.slot
     h.session.toNat = some k ∧ h.tagOk = true → (s.sessOf k).seqCheck h.seq.toNat = .bad →
       Completes (.hcpNop dt h) s fun t =>
         t.rd Fld.HCP_CNT_SEQ_ERR_CNT 0 = s.counted Fld.HCP_CNT_SEQ_ERR_CNT 0 1 ∧ (t.sessOf k).high = (s.sessOf k).high ∧
         s.reply h k 3 .errSeq [] ∈ t.out) ∧
  (∀ (s : State) (dt : Nat) (h : HcpReq) (k : Nat) (addr : RegAddr) (count : BitVec 16) (b : Bool), s.runs → (s.start
     dt).knows h k ∧ (h.badOp = true ∨ h.short = true ∨ h.resp = true ∨ bitOf (s.rd Fld.HCP_SLOT_STAT_RIGHTS (s.sessOf
     k).slot) 0 = false) →
       Completes (.hcpRead dt h addr count b) s fun t =>
         (t.sessOf k).high = max (s.sessOf k).high h.seq.toNat ∧ s.reply h k 0x10 .errAccess [] ∈ t.out) ∧
  (∀ (s : State) (dt : Nat) (h : HcpReq) (k : Nat) (kind : BitVec 8), s.runs → (s.start dt).knows h k ∧ bitOf (s.rd
     Fld.HCP_SLOT_STAT_RIGHTS (s.sessOf k).slot) 4 = false →
       Completes (.restart dt h kind) s fun t =>
         t.mode = s.mode ∧ t.boot.due = false ∧ s.reply h k 0x70 .errAccess [] ∈ t.out) ∧
  (∀ (s : State) (dt : Nat) (k : Fin 32), s.runs → (s.sessOf k).active = true ∧ (s.sessOf k).pending = true ∧ (s.sessOf
     k).openedAt + sec 10 ≤ s.up + dt →
       Completes (.sessionPendingTimeout dt k) s fun t =>
         (t.sessOf k).active = false ∧
         (t.hcp.snaps = s.hcp.snaps.filter fun p => p.2.owner != k.val)) ∧
  (∀ (s : State) (dt : Nat) (k : Fin 32), s.runs → (s.sessOf k).active = true ∧ (s.sessOf k).lastAt + sec (s.rd
     Fld.HCP_CFG_IDLE_S 0) ≤ s.up + dt →
       Completes (.sessionIdleTimeout dt k) s fun t =>
         (t.sessOf k).active = false ∧
         (t.hcp.snaps = s.hcp.snaps.filter fun p => p.2.owner != k.val))

/-- HCP requests: READ, WRITE, events, and RESTART once it is answered. Time, what is sent, and other choices of the model: log
entries 1, 2, 13, 14, 15, 25 and 112. -/
def Obligations.HcpRequests : Prop :=
  (∀ (s : State) (dt : Nat) (h : HcpReq) (k : Nat) (addr : RegAddr) (count : BitVec 16) (b : Bool) (ls : List Loc), s.runs →
     (s.start dt).asks h (some 0) true k ∧ 1 ≤ count.toNat ∧ count.toNat ≤ 2048 ∧ 4 * count.toNat ≤ s.bodyMax h.ctl1 → s.range
     addr count.toNat = some [.reg .WARP_DST_ROUTE 5 false] ∧ ls = [.reg .WARP_DST_ROUTE 5 false] →
       Completes (.hcpRead dt h addr count b) s fun t =>
         t.staged = s.staged ∧ t.held = s.held ∧
         s.reply h k 0x10 .ok (beBytes 4 (s.regValue .WARP_DST_ROUTE 5 b)) ∈ t.out) ∧
  (∀ (s : State) (dt : Nat) (h : HcpReq) (k : Nat) (addr : RegAddr) (count : BitVec 16) (b : Bool), s.runs → (s.start dt).asks
     h (some 0) true k ∧ 1 ≤ count.toNat ∧ count.toNat ≤ 2048 ∧ 4 * count.toNat ≤ s.bodyMax h.ctl1 → s.range addr count.toNat
     = none →
       Completes (.hcpRead dt h addr count b) s fun t =>
         s.reply h k 0x10 .errAddr [] ∈ t.out ∧ t.latch = s.latch) ∧
  (∀ (s : State) (dt : Nat) (h : HcpReq) (k : Nat) (addr : RegAddr) (count : BitVec 16) (b : Bool), s.runs → (s.start dt).asks
     h (some 0) true k ∧ (count.toNat = 0 ∨ 2048 < count.toNat ∨ s.bodyMax h.ctl1 < 4 * count.toNat) →
       Completes (.hcpRead dt h addr count b) s fun t =>
         s.reply h k 0x10 .errAccess [] ∈ t.out) ∧
  (∀ (s : State) (dt : Nat) (h : HcpReq) (k : Fin 32) (v mask : Nat), s.runs → (s.start dt).asks h none true k ∧ s.mode ≠ .hem
     → (s.start dt).writes (.sess k) .HCP_CFG 0 false v mask →
       Completes (.hcpWrite dt h [wordOf .HCP_CFG 0 false v mask]) s fun t =>
         t.rd Fld.HCP_CFG_IDLE_S 0 = Fld.HCP_CFG_IDLE_S.merge (s.rd Fld.HCP_CFG_IDLE_S 0) (v % 2 ^ 32) (mask % 2 ^ 32) % 2 ^ 10 ∧
         s.reply h k 0x11 .ok [] ∈ t.out) ∧
  (∀ (s : State) (dt : Nat) (h : HcpReq) (k : Nat) (items : List Item), s.runs → (s.start dt).asks h none true k ∧ (items = []
     ∨ 256 < items.length) →
       Completes (.hcpWrite dt h items) s fun t =>
         s.reply h k 0x11 .errAccess [] ∈ t.out ∧ t.held = s.held) ∧
  (∀ (s : State) (dt : Nat) (h : HcpReq) (k : Nat) (classes : BitVec 16), s.runs → (s.start dt).asks h (some 0) true k →
       Completes (.subscribe dt h classes) s fun t =>
         (t.sessOf k).subs = classes.toNat ∧
         s.reply h k 0x50 .ok [] ∈ t.out) ∧
  (∀ (s : State) (dt : Nat) (h : HcpReq) (k : Nat) (n : BitVec 32), s.runs → (s.start dt).asks h (some 0) true k ∧ (s.sessOf
     k).queue = [] →
       Completes (.eventAck dt h n) s fun t =>
         s.reply h k 0x52 .ok [] ∈ t.out) ∧
  (∀ (s : State) (dt : Nat) (h : HcpReq) (k : Nat) (n : BitVec 32) (q : QEv), s.runs → (s.start dt).asks h (some 0) true k ∧
     s.quiet ∧ (s.sessOf k).queue = [q] → q.sentAt ≠ none → n.toNat = (Config.firstEvent + q.seq) % 2 ^ 32 →
       Completes (.eventAck dt h n) s fun t =>
         (t.sessOf k).queue = [] ∧ s.reply h k 0x52 .ok [] ∈ t.out) ∧
  (∀ (s : State) (dt : Nat) (k : Fin 32) (q : QEv) (at_ : Nat), s.runs → s.quiet ∧ (s.sessOf k).active = true ∧ (s.sessOf
     k).queue = [q] ∧ q.sentAt = some at_ ∧ at_ + ms 200 ≤ s.up + dt → s.sends (ctlPort (s.sessOf k).ctl1) 3 →
       let r := s.sessOf k
       Completes (.eventResend dt k) s fun t =>
         s.framed (ctlPort r.ctl1) (.hcpEvent r.ctl1 r.src r.slot r.id r.devSeq (eventBody q.seq q.ev)) ∈ t.out ∧
         (t.sessOf k).devSeq = r.devSeq + 1 ∧ (t.sessOf k).queue = [{ q with sentAt := some (s.up + dt) }]) ∧
  (∀ (s : State) (dt : Nat) (k : Fin 32) (q : QEv) (at_ : Nat), s.runs → s.quiet ∧ (s.sessOf k).queue = [q] ∧ q.sentAt = some
     at_ ∧ s.up + dt < at_ + ms 200 →
       Completes (.eventResend dt k) s fun t =>
         (t.sessOf k).queue = [q] ∧ t.out = []) ∧
  (∀ (s : State) (dt : Nat) (h : HcpReq) (k : Nat), s.runs → (s.start dt).asks h (some 4) true k →
       Completes (.restart dt h 0) s fun t =>
         t.mode = .startUp ∧ t.rd Fld.BOOT_STAT_STAGE 0 = 1 ∧ t.rd Fld.BOOT_START_COUNT_COUNT 0 = (s.rd Fld.BOOT_START_COUNT_COUNT 0 +
           1) % 2 ^ 32 ∧
         t.staged = [] ∧ t.cs = [] ∧ t.hcp.sess = [] ∧
         t.told h 0x70 .ok []) ∧
  (∀ (s : State) (dt : Nat) (h : HcpReq) (k : Nat) (kind : BitVec 8), s.runs → (s.start dt).asks h (some 4) true k ∧ kind ≠ 0
     →
       Completes (.restart dt h kind) s fun t =>
         t.mode = s.mode ∧ t.boot.due = false ∧
         s.reply h k 0x70 .errAccess [] ∈ t.out)

/-- Surfaces and bulk data: allocation, freeing, raw writes and reads, byte by byte. Time, what is sent, and other choices of the
model: log entries 1, 2 and 6. -/
def Obligations.HcpSurfaces : Prop :=
  (∀ (s : State) (dt : Nat) (h : HcpReq) (k : Nat) (size : BitVec 32) (apron : Bool) (g : Nat), s.runs → (s.start dt).asks h
     (some 2) false k ∧ s.mirrorBars = false ∧ s.mirrors = false → size.toNat ≠ 0 ∧ (apron = true → (s.sessOf k).slot = 15) →
     s.freeHandle = some g ∧ (size.toNat + 2097151) / 2097152 ≤ s.freeBlocks →
       let n := (size.toNat + 2097151) / 2097152
       Completes (.surfAlloc dt h size apron) s fun t =>
         t.surfOf g = { state := 1, apron := apron, blocks := n, writes := 0 } ∧
         (∀ a, a < 2 ^ 32 → t.byteAt (surfAddr g a) = 0) ∧
         (∀ a, (a < surfAddr g 0 ∨ surfAddr g 0 + 2 ^ 32 ≤ a) → t.byteAt a = s.byteAt a) ∧
         s.reply h k 0x40 .ok (beBytes 2 g ++ beBytes 2 n) ∈ t.out) ∧
  (∀ (s : State) (dt : Nat) (h : HcpReq) (k : Nat) (size : BitVec 32), s.runs → (s.start dt).asks h (some 2) false k ∧
     s.mirrorBars = false ∧ size.toNat ≠ 0 ∧ (s.sessOf k).slot ≠ 15 →
       Completes (.surfAlloc dt h size true) s fun t =>
         t.cask = s.cask ∧ t.mem = s.mem ∧ s.reply h k 0x40 .errProtected [] ∈ t.out) ∧
  (∀ (s : State) (dt : Nat) (h : HcpReq) (k : Nat) (g : BitVec 16), s.runs → (s.start dt).asks h (some 2) false k ∧
     s.mirrorBars = false ∧ s.mirrors = false ∧ g.toNat < 4096 → (s.surfOf g.toNat).state ≠ 0 ∧ (s.surfOf g.toNat).state ≠ 3 ∧
     ((s.surfOf g.toNat).apron = true → (s.sessOf k).slot = 15) → s.otherRefs g.toNat = 0 ∧ s.forceRefs g.toNat = 0 →
       Completes (.surfFree dt h g) s fun t =>
         (t.surfOf g.toNat).state = 0 ∧
         (∀ a, (a < surfAddr g.toNat 0 ∨ surfAddr g.toNat 0 + 2 ^ 32 ≤ a) → t.byteAt a = s.byteAt a) ∧
         s.reply h k 0x41 .ok [] ∈ t.out) ∧
  (∀ (s : State) (dt : Nat) (h : HcpReq) (k : Nat) (g : BitVec 16), s.runs → (s.start dt).asks h (some 2) false k ∧
     s.mirrorBars = false ∧ s.mirrors = false ∧ g.toNat < 4096 → (s.surfOf g.toNat).state ≠ 0 ∧ (s.surfOf g.toNat).state ≠ 3 ∧
     ((s.surfOf g.toNat).apron = true → (s.sessOf k).slot = 15) → s.otherRefs g.toNat ≠ 0 →
       Completes (.surfFree dt h g) s fun t =>
         t.surfOf g.toNat = s.surfOf g.toNat ∧ t.mem = s.mem ∧ s.reply h k 0x41 .errBusy [] ∈ t.out) ∧
  (∀ (s : State) (dt : Nat) (h : HcpReq) (k : Nat) (g : BitVec 16), s.runs → (s.start dt).asks h (some 2) false k ∧
     s.mirrorBars = false ∧ g.toNat < 4096 ∧ (s.surfOf g.toNat).state = 0 →
       Completes (.surfFree dt h g) s fun t =>
         t.mem = s.mem ∧ s.reply h k 0x41 .errAddr [] ∈ t.out) ∧
  (∀ (s : State) (dt : Nat) (h : HcpReq) (k : Nat) (addr : BitVec 64) (off : BitVec 32) (data : List Byte), s.runs → (s.start
     dt).asks h (some 2) false k ∧ s.mirrorBars = false ∧ s.mirrors = false ∧ addr.toNat < 4096 → s.surfWritable ((s.sessOf
     k).slot == 15) addr.toNat off.toNat data.length = .ok →
       let a := surfAddr addr.toNat off.toNat
       Completes (.bulkWrite dt h 0 addr off data) s fun t =>
         t.bytesAt a data.length = data ∧
         (∀ x, (x < a ∨ a + data.length ≤ x) → t.byteAt x = s.byteAt x) ∧
         t.cask = s.cask ∧ s.reply h k 0x42 .ok [] ∈ t.out) ∧
  (∀ (s : State) (dt : Nat) (h : HcpReq) (k : Nat) (addr : BitVec 64) (off : BitVec 32) (data : List Byte) (e : Status),
     s.runs → (s.start dt).asks h (some 2) false k ∧ s.mirrorBars = false ∧ addr.toNat < 4096 → s.surfWritable ((s.sessOf
     k).slot == 15) addr.toNat off.toNat data.length = e ∧ e ≠ .ok →
       Completes (.bulkWrite dt h 0 addr off data) s fun t =>
         t.mem = s.mem ∧ s.reply h k 0x42 e [] ∈ t.out) ∧
  (∀ (s : State) (dt : Nat) (h : HcpReq) (k : Nat) (addr : BitVec 64) (off : BitVec 32) (data : List Byte), s.runs → (s.start
     dt).asks h (some 2) false k ∧ s.mirrorBars = false ∧ s.mirrors = false → s.inRegion4 (addr.toNat + off.toNat) data.length
     = true →
       let a := caskAddr (addr.toNat + off.toNat)
       Completes (.bulkWrite dt h 1 addr off data) s fun t =>
         t.bytesAt a data.length = data ∧
         (∀ x, (x < a ∨ a + data.length ≤ x) → t.byteAt x = s.byteAt x) ∧
         s.reply h k 0x42 .ok [] ∈ t.out) ∧
  (∀ (s : State) (dt : Nat) (h : HcpReq) (k : Nat) (addr : BitVec 64) (off : BitVec 32) (data : List Byte), s.runs → (s.start
     dt).asks h (some 2) false k ∧ s.mirrorBars = false → s.inRegion4 (addr.toNat + off.toNat) data.length = false →
       Completes (.bulkWrite dt h 1 addr off data) s fun t =>
         t.mem = s.mem ∧ s.reply h k 0x42 .errAccess [] ∈ t.out) ∧
  (∀ (s : State) (dt : Nat) (h : HcpReq) (k : Nat) (addr : BitVec 64) (off : BitVec 32) (n : BitVec 16), s.runs → (s.start
     dt).asks h (some 0) true k ∧ addr.toNat < 4096 ∧ n.toNat ≤ s.bodyMax h.ctl1 → (s.surfOf addr.toNat).state ≠ 0 ∧ off.toNat
     + n.toNat ≤ (s.surfOf addr.toNat).blocks * 2097152 →
       Completes (.bulkRead dt h 0 addr off n) s fun t =>
         t.mem = s.mem ∧ s.reply h k 0x43 .ok (s.bytesAt (surfAddr addr.toNat off.toNat) n.toNat) ∈ t.out) ∧
  (∀ (s : State) (dt : Nat) (h : HcpReq) (k : Nat) (addr : BitVec 64) (off : BitVec 32) (n : BitVec 16), s.runs → (s.start
     dt).asks h (some 0) true k ∧ n.toNat ≤ s.bodyMax h.ctl1 ∧ s.inRegion4 (addr.toNat + off.toNat) n.toNat = true →
       Completes (.bulkRead dt h 1 addr off n) s fun t =>
         t.mem = s.mem ∧ s.reply h k 0x43 .ok (s.bytesAt (caskAddr (addr.toNat + off.toNat)) n.toNat) ∈ t.out)

/-- Change sets: opening, staging, arming, preparing, committing, cancelling, releasing and reading. Time, what is sent, and other
choices of the model: log entries 1, 2, 91, 93, 94, 122 and 163. -/
def Obligations.ChangeSetOps : Prop :=
  (∀ (s : State) (dt : Nat) (h : HcpReq) (k : Nat) (n : BitVec 8), s.runs → (s.start dt).asks h (some 1) false k ∧ s.opens ∧
     n.toNat < 32 ∧ (s.csOf n.toNat).state = 0 →
       Completes (.csOpen dt h n) s fun t =>
         t.csOf n.toNat = { state := 1 } ∧ t.told h 0x20 .ok (beBytes 1 n.toNat)) ∧
  (∀ (s : State) (dt : Nat) (h : HcpReq) (k n : Nat), s.runs → (s.start dt).asks h (some 1) false k ∧ s.opens → (List.range
     32).find? (fun n => (s.csOf n).state == 0) = some n →
       Completes (.csOpen dt h 0xFF) s fun t =>
         t.csOf n = { state := 1 } ∧ t.told h 0x20 .ok (beBytes 1 n)) ∧
  (∀ (s : State) (dt : Nat) (h : HcpReq) (k : Nat) (n : BitVec 8), s.runs → (s.start dt).asks h (some 1) false k ∧ s.mode =
     .startUp →
       Completes (.csOpen dt h n) s fun t =>
         s.reply h k 0x20 .errBusy [] ∈ t.out) ∧
  (∀ (s : State) (dt : Nat) (h : HcpReq) (k : Nat) (n : BitVec 8), s.runs → (s.start dt).asks h (some 1) false k ∧ s.mode ≠
     .startUp ∧ s.mirrorBars = true →
       Completes (.csOpen dt h n) s fun t =>
         s.reply h k 0x20 .errAccess [] ∈ t.out) ∧
  (∀ (s : State) (dt : Nat) (h : HcpReq) (k : Nat) (n : BitVec 8) (es : List StageEntry) (m : Nat) (out : List CsEntry),
     s.runs → (s.start dt).asks h (some 1) false k ∧ s.opens ∧ s.mirrors = false ∧ n.toNat < 32 ∧ (s.csOf n.toNat).state = 1 →
     (s.start dt).stageEntries ((s.sessOf k).slot == 15) 0 es (s.csOf n.toNat).entries = (.ok, m, out) → out.length ≤ 2048 ∧
     (((s.putCs n.toNat { s.csOf n.toNat with entries := out }).cs.map fun p => p.2.items).sum) ≤ 65536 →
       Completes (.stage dt h n es) s fun t =>
         t.csOf n.toNat = { s.csOf n.toNat with entries := out } ∧
         s.reply h k 0x21 .ok [] ∈ t.out) ∧
  (∀ (s : State) (dt : Nat) (h : HcpReq) (k : Nat) (n : BitVec 8) (es : List StageEntry) (m : Nat) (out : List CsEntry) (e :
     Status), s.runs → (s.start dt).asks h (some 1) false k ∧ s.opens ∧ n.toNat < 32 ∧ (s.csOf n.toNat).state = 1 → (s.start
     dt).stageEntries ((s.sessOf k).slot == 15) 0 es (s.csOf n.toNat).entries = (e, m, out) ∧ e ≠ .ok →
       Completes (.stage dt h n es) s fun t =>
         t.csOf n.toNat = s.csOf n.toNat ∧ s.reply h k 0x21 e (beBytes 2 m) ∈ t.out) ∧
  (∀ (s : State) (dt : Nat) (h : HcpReq) (k : Nat) (n : BitVec 8) (es : List StageEntry), s.runs → (s.start dt).asks h (some
     1) false k ∧ s.opens ∧ n.toNat < 32 ∧ (s.csOf n.toNat).state ≠ 1 →
       Completes (.stage dt h n es) s fun t =>
         s.reply h k 0x21 .errAccess [] ∈ t.out) ∧
  (∀ (s : State) (dt : Nat) (h : HcpReq) (k : Nat) (n : BitVec 8) (a : Bool) (ta tp : BitVec 64), s.runs → (s.start dt).asks h
     (some 1) false k ∧ s.opens ∧ s.mirrors = false ∧ n.toNat < 32 ∧ (s.csOf n.toNat).state = 1 → earlier ta.toNat (s.start
     dt).now (us 200) = false →
       Completes (.arm dt h n 0 false a ta tp) s fun t =>
         (t.csOf n.toNat).state = 2 ∧ (t.csOf n.toNat).allOrNone = false ∧ (t.csOf n.toNat).now = false ∧ (t.csOf n.toNat).auto = false
           ∧ (t.csOf n.toNat).ta = some ta.toNat ∧ (t.csOf n.toNat).armReg = ta.toNat ∧ (t.csOf n.toNat).ord = s.ord ∧
         (t.csOf n.toNat).entries = (s.csOf n.toNat).entries ∧ t.ord = s.ord + 1 ∧ t.told h 0x22 .ok []) ∧
  (∀ (s : State) (dt : Nat) (h : HcpReq) (k : Nat) (n : BitVec 8) (a : Bool) (ta tp : BitVec 64), s.runs → (s.start dt).asks h
     (some 1) false k ∧ s.opens ∧ s.mirrors = false ∧ n.toNat < 32 ∧ (s.csOf n.toNat).state = 1 → earlier ta.toNat (s.start
     dt).now (us 200) = true →
       Completes (.arm dt h n 0 false a ta tp) s fun t =>
         t.csOf n.toNat = s.csOf n.toNat ∧ s.reply h k 0x22 .errLate [] ∈ t.out) ∧
  (∀ (s : State) (dt : Nat) (h : HcpReq) (k : Nat) (n : BitVec 8) (a : Bool) (ta tp : BitVec 64), s.runs → (s.start dt).asks h
     (some 1) false k ∧ s.opens ∧ s.mirrors = false ∧ n.toNat < 32 ∧ (s.csOf n.toNat).state = 1 →
       Completes (.arm dt h n 0 true a ta tp) s fun t =>
         (t.csOf n.toNat).state = 2 ∧ (t.csOf n.toNat).allOrNone = false ∧ (t.csOf n.toNat).now = true ∧ (t.csOf n.toNat).ta = none ∧
           (t.csOf n.toNat).armReg = (s.start dt).now / 65536 % 2 ^ 64 ∧ t.told h 0x22 .ok []) ∧
  (∀ (s : State) (dt : Nat) (h : HcpReq) (k : Nat) (n : BitVec 8) (a : Bool) (ta tp : BitVec 64), s.runs → (s.start dt).asks h
     (some 1) false k ∧ s.opens ∧ s.mirrors = false ∧ n.toNat < 32 ∧ (s.csOf n.toNat).state = 1 → earlier ta.toNat (s.start
     dt).now (us 200) = false ∧ earlier tp.toNat (s.start dt).now (us 200) = false → 1000000 ≤ sval 64 (ta.toNat + (2 ^ 64 -
     tp.toNat)) →
       Completes (.arm dt h n 1 false a ta tp) s fun t =>
         (t.csOf n.toNat).state = 2 ∧ (t.csOf n.toNat).allOrNone = true ∧ (t.csOf n.toNat).auto = a ∧ (t.csOf n.toNat).ta = some
           ta.toNat ∧ (t.csOf n.toNat).tp = tp.toNat ∧ (t.csOf n.toNat).armReg = ta.toNat ∧ (t.csOf n.toNat).prepReg =
           tp.toNat ∧ t.told h 0x22 .ok []) ∧
  (∀ (s : State) (dt : Nat) (h : HcpReq) (k : Nat) (n : BitVec 8) (a : Bool) (ta tp : BitVec 64), s.runs → (s.start dt).asks h
     (some 1) false k ∧ s.opens ∧ s.mirrors = false ∧ n.toNat < 32 ∧ (s.csOf n.toNat).state = 1 → earlier ta.toNat (s.start
     dt).now (us 200) = false ∧ earlier tp.toNat (s.start dt).now (us 200) = false → sval 64 (ta.toNat + (2 ^ 64 - tp.toNat))
     < 1000000 →
       Completes (.arm dt h n 1 false a ta tp) s fun t =>
         t.csOf n.toNat = s.csOf n.toNat ∧ s.reply h k 0x22 .errAccess [] ∈ t.out) ∧
  (∀ (s : State) (dt : Nat) (h : HcpReq) (k : Nat) (n : BitVec 8), s.runs → (s.start dt).asks h (some 1) false k ∧ s.opens ∧
     s.mirrors = false ∧ n.toNat < 32 → (s.csOf n.toNat).state = 2 ∧ (s.csOf n.toNat).allOrNone = true ∧ (s.csOf n.toNat).auto
     = false ∧ (s.start dt).beforeTp (s.csOf n.toNat) = true →
       Completes (.prepare dt h n) s fun t =>
         t.csOf n.toNat = { s.csOf n.toNat with prepared := true, state := 3 } ∧ t.told h 0x23 .ok []) ∧
  (∀ (s : State) (dt : Nat) (h : HcpReq) (k : Nat) (n : BitVec 8), s.runs → (s.start dt).asks h (some 1) false k ∧ s.opens ∧
     s.mirrors = false ∧ n.toNat < 32 ∧ (s.csOf n.toNat).now = false → (s.csOf n.toNat).state = 2 ∧ (s.csOf n.toNat).allOrNone
     = true ∧ (s.csOf n.toNat).auto = true ∧ (s.start dt).beforeTp (s.csOf n.toNat) = true → (s.csOf n.toNat).entries = [] →
       Completes (.prepare dt h n) s fun t =>
         t.csOf n.toNat = { s.csOf n.toNat with prepared := true, state := 4 } ∧ t.told h 0x23 .ok []) ∧
  (∀ (s : State) (dt : Nat) (h : HcpReq) (k : Nat) (n : BitVec 8), s.runs → (s.start dt).asks h (some 1) false k ∧ s.opens ∧
     n.toNat < 32 → (s.csOf n.toNat).state = 2 ∧ ((s.csOf n.toNat).allOrNone = false ∨ (s.start dt).beforeTp (s.csOf n.toNat)
     = false) →
       Completes (.prepare dt h n) s fun t =>
         t.csOf n.toNat = s.csOf n.toNat ∧ s.reply h k 0x23 .errAccess [] ∈ t.out) ∧
  (∀ (s : State) (dt : Nat) (h : HcpReq) (k : Nat) (n : BitVec 8), s.runs → (s.start dt).asks h (some 1) false k ∧ s.opens ∧
     n.toNat < 32 ∧ (s.csOf n.toNat).now = false → (s.csOf n.toNat).state = 3 ∧ (s.start dt).beforeTp (s.csOf n.toNat) = true
     ∧ (s.start dt).csReady (s.csOf n.toNat) = true →
       Completes (.commit dt h n) s fun t =>
         t.csOf n.toNat = { s.csOf n.toNat with state := 4 } ∧ t.told h 0x24 .ok []) ∧
  (∀ (s : State) (dt : Nat) (h : HcpReq) (k : Nat) (n : BitVec 8), s.runs → (s.start dt).asks h (some 1) false k ∧ s.opens ∧
     n.toNat < 32 ∧ (s.csOf n.toNat).now = true → (s.csOf n.toNat).state = 3 ∧ (s.start dt).beforeTp (s.csOf n.toNat) = true ∧
     (s.start dt).csReady (s.csOf n.toNat) = true →
       let v := ((s.start dt).now / 65536 + 1000000) % 2 ^ 64
       Completes (.commit dt h n) s fun t =>
         (t.csOf n.toNat).state = 4 ∧ (t.csOf n.toNat).ta = some v ∧ (t.csOf n.toNat).armReg = v ∧ t.told h 0x24 .ok []) ∧
  (∀ (s : State) (dt : Nat) (h : HcpReq) (k : Nat) (n : BitVec 8), s.runs → (s.start dt).asks h (some 1) false k ∧ s.opens ∧
     n.toNat < 32 ∧ s.role ≠ .standby → (s.csOf n.toNat).state = 3 ∧ (s.start dt).csReady (s.csOf n.toNat) = false →
       Completes (.commit dt h n) s fun t =>
         t.csOf n.toNat = s.csOf n.toNat ∧ s.reply h k 0x24 .errAccess [] ∈ t.out) ∧
  (∀ (s : State) (dt : Nat) (h : HcpReq) (k : Nat) (n : BitVec 8), s.runs → (s.start dt).asks h (some 1) false k ∧ s.opens ∧
     s.mirrors = false ∧ n.toNat < 32 ∧ 2 ≤ (s.csOf n.toNat).state ∧ (s.csOf n.toNat).state ≤ 5 →
       Completes (.cancel dt h n) s fun t =>
         t.csOf n.toNat = { s.csOf n.toNat with entries := (s.csOf n.toNat).entries.map CsEntry.discard, state := 8 } ∧
         t.told h 0x25 .ok []) ∧
  (∀ (s : State) (dt : Nat) (h : HcpReq) (k : Nat) (n : BitVec 8), s.runs → (s.start dt).asks h (some 1) false k ∧ s.opens ∧
     n.toNat < 32 ∧ ((s.csOf n.toNat).state < 2 ∨ 5 < (s.csOf n.toNat).state) →
       Completes (.cancel dt h n) s fun t =>
         t.csOf n.toNat = s.csOf n.toNat ∧ s.reply h k 0x25 .errAccess [] ∈ t.out) ∧
  (∀ (s : State) (dt : Nat) (h : HcpReq) (k : Nat) (n : BitVec 8), s.runs → (s.start dt).asks h (some 1) false k ∧ s.opens ∧
     n.toNat < 32 ∧ ((s.csOf n.toNat).state = 1 ∨ 6 ≤ (s.csOf n.toNat).state) →
       Completes (.csRelease dt h n) s fun t =>
         t.csOf n.toNat = {} ∧ t.told h 0x26 .ok []) ∧
  (∀ (s : State) (dt : Nat) (h : HcpReq) (k : Nat) (n : BitVec 8), s.runs → (s.start dt).asks h (some 1) false k ∧ s.opens ∧
     n.toNat < 32 ∧ 2 ≤ (s.csOf n.toNat).state ∧ (s.csOf n.toNat).state ≤ 5 →
       Completes (.csRelease dt h n) s fun t =>
         s.reply h k 0x26 .errAccess [] ∈ t.out) ∧
  (∀ (s : State) (dt : Nat) (h : HcpReq) (k : Nat) (n : BitVec 8) (i m : BitVec 16), s.runs → (s.start dt).asks h (some 0)
     true k ∧ n.toNat < 32 → ((((s.csOf n.toNat).entries.drop i.toNat).take m.toNat).flatMap CsEntry.record).length <
     s.bodyMax h.ctl1 →
       let b := beBytes 1 (s.csOf n.toNat).state ++ (((s.csOf n.toNat).entries.drop i.toNat).take m.toNat).flatMap CsEntry.record
       Completes (.csRead dt h n i m) s fun t =>
         s.reply h k 0x27 .ok b ∈ t.out)

/-- Change sets in time: distribution, the arm time and the prepare deadline. Time, what is sent, and other choices of the model:
log entries 1, 2, 91, 95 and 116. -/
def Obligations.ChangeSetTimes : Prop :=
  (∀ (s : State) (dt : Nat) (n : Fin 32) (e : BitVec 12) (x : CsEntry), s.runs → (s.csOf n).entries[e.toNat]? = some x ∧
     x.status = 0 ∧ x.shadow = none ∧ (s.csOf n).state = 2 → s.unitStopped x.kind x.inst = false ∧ x.kind ≠ .tout →
       Completes (.csEntryInShadow dt n e) s fun t =>
         (t.csOf n).entries[e.toNat]? = some { x with shadow := some (s.start dt).now } ∧ (t.csOf n).state = 2 ∧ t.staged = s.staged) ∧
  (∀ (s : State) (dt : Nat) (n : Fin 32) (e : BitVec 12) (x : CsEntry), s.runs → (s.csOf n).entries[e.toNat]? = some x ∧
     x.shadow ≠ none ∧ (s.csOf n).state ≠ 3 →
       Completes (.csEntryInShadow dt n e) s fun t =>
         (t.csOf n) = s.csOf n) ∧
  (∀ (s : State) (dt : Nat) (n : Fin 32) (x : CsEntry), s.runs → (s.csOf n).entries = [x] ∧ x.status = 0 ∧ (s.csOf n).state =
     2 ∧ (s.csOf n).allOrNone = false → s.unitStopped x.kind x.inst = false ∧ x.kind ≠ .tout →
       Completes (.csDistributionDone dt n) s fun t =>
         (t.csOf n).state = 5 ∧ (t.csOf n).entries = [{ x with shadow := x.shadow <|> some (s.start dt).now }]) ∧
  (∀ (s : State) (dt : Nat) (n : Fin 32) (x : CsEntry), s.runs → (s.csOf n).entries = [x] ∧ x.status = 0 ∧ (s.csOf n).state =
     2 ∧ (s.csOf n).allOrNone = true → s.unitStopped x.kind x.inst = false ∧ x.kind ≠ .tout →
       Completes (.csDistributionDone dt n) s fun t =>
         (t.csOf n).state = 2 ∧ (t.csOf n).entries = [{ x with shadow := x.shadow <|> some (s.start dt).now }]) ∧
  (∀ (s : State) (dt : Nat) (n : Fin 32) (v : Nat) (x : CsEntry), s.runs → (s.csOf n).state = 4 ∧ (s.csOf n).ta = some v ∧
     reached (s.start dt).count v = true ∧ (s.csOf n).entries = [x] ∧ x.status = 0 → s.unitStopped x.kind x.inst = false →
       Completes (.armTimeReached dt n) s fun t =>
         t.csOf n = { s.csOf n with state := 5 }) ∧
  (∀ (s : State) (dt : Nat) (n : Fin 32) (v : Nat), s.runs → (s.csOf n).state = 4 ∧ (s.csOf n).ta = some v ∧ reached (s.start
     dt).count v = false →
       Completes (.armTimeReached dt n) s fun t =>
         t.csOf n = s.csOf n) ∧
  (∀ (s : State) (dt : Nat) (n : Fin 32), s.runs → (s.csOf n).allOrNone = true ∧ (s.csOf n).state = 2 ∧ (s.csOf n).prepared =
     false ∧ (s.start dt).beforeTp (s.csOf n) = false →
       Completes (.prepareDeadline dt n) s fun t =>
         ((t.csOf n).state = 7 ∧ (t.csOf n).entries = (s.csOf n).entries.map fun e => { e.discard with cause := 5, twin := false })) ∧
  (∀ (s : State) (dt : Nat) (n : Fin 32), s.runs → (s.csOf n).allOrNone = true ∧ (s.csOf n).state = 3 ∧ (s.start dt).beforeTp
     (s.csOf n) = false → (s.csOf n).prepared = true ∧ (s.start dt).csReady (s.csOf n) = false ∧ s.mirrors = false →
       Completes (.prepareDeadline dt n) s fun t =>
         ((t.csOf n).state = 7 ∧ (t.csOf n).entries = (s.csOf n).entries.map fun e =>
           { e.discard with cause := (s.start dt).entryCause (s.csOf n) e, twin := false })) ∧
  (∀ (s : State) (dt : Nat) (set : Fin 32) (at_ : Nat), s.runs → s.role = .standby ∧ s.mirrors = true ∧ 2 ≤ (s.csOf set).state
     ∧ (s.csOf set).state ≤ 5 →
       Completes (.mirror dt (.cancel set) at_ .ok) s fun t =>
         t.csOf set = { s.csOf set with entries := (s.csOf set).entries.map CsEntry.discard, state := 8 } ∧ t.stands 357 0 = s.stands
           357 0) ∧
  (∀ (s : State) (dt : Nat) (size : Nat) (apron safety : Bool) (at_ : Nat), s.runs → s.role = .standby ∧ s.mirrors = true ∧
     size ≠ 0 ∧ (apron = false ∨ safety = true) ∧ s.freeHandle = none → s.mild →
       Completes (.mirror dt (.surfAlloc size apron safety) at_ .ok) s fun t =>
         t.rd Fld.FLT_SRC_STAT_COUNT 357 = s.counted Fld.FLT_SRC_STAT_COUNT 357 1 ∧ t.cask = s.cask ∧ t.mem = s.mem) ∧
  (∀ (s : State) (dt : Nat) (at_ : Nat) (r : Status) (op : MirOp), s.runs → (s.role ≠ .standby ∨ (s.mirrors = false ∧ op.isSeq
     = false)) →
       Completes (.mirror dt op at_ r) s fun t =>
         Framed dt s t [] []) ∧
  (∀ (s : State) (dt : Nat) (at_ f n : Nat), s.runs → s.role = .standby ∧ 2 ≤ s.rd Fld.ETH_FLOW_CTL_TYPE f →
       Completes (.mirror dt (.rtpSeq [(f, n)]) at_ .ok) s fun t =>
         t.flowSeq f = n ∧
         Framed dt s t [] [.mash]) ∧
  (∀ (s : State) (dt : Nat) (n : Fin 32) (r : Bool) (l : List (TKind × BitVec 16 × BitVec 7)), s.runs → s.role = .holder ∧
     s.mirrors = true ∧ (s.csOf n).state ≠ 3 →
       Completes (.csReady dt n r l) s fun t =>
         t.csOf n = { s.csOf n with twinReady := r, twinNot := l.map fun p => (p.1.code, p.2.1.toNat, p.2.2.toNat) })

/-- Snapshots: reserving a buffer, its capture, retrieval and freeing. Time, what is sent, and other choices of the model: log
entries 1, 2, 96 and 97. -/
def Obligations.Snapshots : Prop :=
  (∀ (s : State) (dt : Nat) (h : HcpReq) (k n : Nat) (target : BitVec 8) (i first count : BitVec 16) (ts : BitVec 64), s.runs
     → (s.start dt).asks h (some 0) true k → snapOk target.toNat i.toNat first.toNat count.toNat false = true ∧ target.toNat ≠
     0 → (List.range 4).find? (fun n => (s.snapBuf n).isNone) = some n →
       Completes (.snapshot dt h target true false i first count ts) s fun t =>
         t.snapBuf n = some
           { owner := k, target := target.toNat, seam := false, inst := i.toNat, first := first.toNat, count := count.toNat, ts := (s.start dt).count, late := false, complete := true, recs := [(0, (s.start dt).snapData target.toNat i.toNat first.toNat count.toNat)] } ∧
         s.reply h k 0x30 .ok (beBytes 1 n) ∈ t.out) ∧
  (∀ (s : State) (dt : Nat) (h : HcpReq) (k n : Nat) (i first count : BitVec 16) (ts : BitVec 64), s.runs → (s.start dt).asks
     h (some 0) true k → snapOk 0 i.toNat first.toNat count.toNat false = true ∧ reached (s.start dt).count ts.toNat = false →
     (List.range 4).find? (fun n => (s.snapBuf n).isNone) = some n →
       Completes (.snapshot dt h 0 false false i first count ts) s fun t =>
         t.snapBuf n = some
           { owner := k, target := 0, seam := false, inst := i.toNat, first := first.toNat, count := count.toNat, ts := ts.toNat, late := false, complete := false, recs := [] } ∧
         s.reply h k 0x30 .ok (beBytes 1 n) ∈ t.out) ∧
  (∀ (s : State) (dt : Nat) (h : HcpReq) (k n : Nat) (first count : BitVec 16) (ts : BitVec 64), s.runs → (s.start dt).asks h
     (some 0) true k → snapOk 0 0 first.toNat count.toNat false = true ∧ reached (s.start dt).count ts.toNat = true →
     (List.range 4).find? (fun n => (s.snapBuf n).isNone) = some n →
       Completes (.snapshot dt h 0 false false 0 first count ts) s fun t =>
         ((t.snapBuf n).map fun b => (b.late, b.complete, b.recs.map fun p => p.1)) = some (true, true, List.range' first.toNat
           count.toNat) ∧
         s.reply h k 0x30 .ok (beBytes 1 n) ∈ t.out) ∧
  (∀ (s : State) (dt : Nat) (h : HcpReq) (k : Nat) (target : BitVec 8) (now seam : Bool) (i first count : BitVec 16) (ts :
     BitVec 64), s.runs → (s.start dt).asks h (some 0) true k ∧ snapOk target.toNat i.toNat first.toNat count.toNat seam =
     false →
       Completes (.snapshot dt h target now seam i first count ts) s fun t =>
         t.hcp.snaps = s.hcp.snaps ∧ s.reply h k 0x30 .errAccess [] ∈ t.out) ∧
  (∀ (s : State) (dt : Nat) (h : HcpReq) (k : Nat) (target : BitVec 8) (now seam : Bool) (i first count : BitVec 16) (ts :
     BitVec 64), s.runs → (s.start dt).asks h (some 0) true k ∧ snapOk target.toNat i.toNat first.toNat count.toNat seam =
     true → (List.range 4).find? (fun n => (s.snapBuf n).isNone) = none →
       Completes (.snapshot dt h target now seam i first count ts) s fun t =>
         t.hcp.snaps = s.hcp.snaps ∧ s.reply h k 0x30 .errFull [] ∈ t.out) ∧
  (∀ (s : State) (dt : Nat) (k : Fin 4) (b : SnapBuf), s.runs → s.snapBuf k = some b ∧ b.complete = false ∧ b.seam = false ∧
     b.target = 0 ∧ reached (s.start dt).count b.ts = true →
       Completes (.snapshotCapture dt k) s fun t =>
         t.snapBuf k = some
           { b with recs := (List.range' b.first b.count).map (fun d => (d, (s.start dt).warpRecord d)), complete := true } ∧
         Framed dt s t [] [.hcp]) ∧
  (∀ (s : State) (dt : Nat) (k : Fin 4) (b : SnapBuf), s.runs → s.snapBuf k = some b ∧ reached (s.start dt).count b.ts = false
     →
       Completes (.snapshotCapture dt k) s fun t =>
         t.snapBuf k = some b ∧ Framed dt s t [] []) ∧
  (∀ (s : State) (dt : Nat) (h : HcpReq) (k : Nat) (n : BitVec 8) (off : BitVec 32) (len : BitVec 16) (b : SnapBuf), s.runs →
     (s.start dt).asks h (some 0) true k ∧ s.ownSnap k n.toNat = some b ∧ b.complete = true → off.toNat + len.toNat ≤
     (b.recs.flatMap fun p => p.2).length ∧ len.toNat < s.bodyMax h.ctl1 →
       let d := b.recs.flatMap fun p => p.2
       Completes (.snapRead dt h n off len) s fun t =>
         s.reply h k 0x31 .ok (beBytes 1 (1 + 2 * b2n b.late) ++ (d.drop off.toNat).take len.toNat) ∈ t.out ∧ t.hcp.snaps = s.hcp.snaps) ∧
  (∀ (s : State) (dt : Nat) (h : HcpReq) (k : Nat) (n : BitVec 8) (off : BitVec 32) (len : BitVec 16) (b : SnapBuf), s.runs →
     (s.start dt).asks h (some 0) true k ∧ s.ownSnap k n.toNat = some b ∧ b.complete = false →
       Completes (.snapRead dt h n off len) s fun t =>
         s.reply h k 0x31 .errBusy [] ∈ t.out) ∧
  (∀ (s : State) (dt : Nat) (h : HcpReq) (k : Nat) (n : BitVec 8) (off : BitVec 32) (len : BitVec 16), s.runs → (s.start
     dt).asks h (some 0) true k ∧ s.ownSnap k n.toNat = none →
       Completes (.snapRead dt h n off len) s fun t =>
         s.reply h k 0x31 .errAddr [] ∈ t.out) ∧
  (∀ (s : State) (dt : Nat) (h : HcpReq) (k : Nat) (n : BitVec 8), s.runs → (s.start dt).asks h (some 0) true k ∧ s.ownSnap k
     n.toNat ≠ none →
       Completes (.snapFree dt h n) s fun t =>
         (t.hcp.snaps = s.hcp.snaps.filter fun p => p.1 != n.toNat) ∧
         t.snapBuf n.toNat = none ∧ s.reply h k 0x32 .ok [] ∈ t.out) ∧
  (∀ (s : State) (dt : Nat) (h : HcpReq) (k : Nat) (n : BitVec 8), s.runs → (s.start dt).asks h (some 0) true k ∧ s.ownSnap k
     n.toNat = none →
       Completes (.snapFree dt h n) s fun t =>
         t.hcp.snaps = s.hcp.snaps ∧ s.reply h k 0x32 .errAddr [] ∈ t.out)

/-- The start-up sequence: flash, the swap, verification, the configuration, training and entry into SERVICE. Time, what is sent,
and other choices of the model: log entries 1, 2, 18, 44, 83, 98, 99, 100, 101, 115 and 162. -/
def Obligations.StartUpStages : Prop :=
  (∀ (s : State) (dt : Nat), s.runs → s.atStage 1 = true →
       Completes (.flashInitDone dt false) s fun t =>
         t.rd Fld.BOOT_STAT_CAUSE 0 = 3 ∧ t.rd Fld.BOOT_STAT_STAGE 0 = 1 ∧ t.flt.startHold = true ∧ t.atStage 1 = false) ∧
  (∀ (s : State) (dt : Nat), s.runs → s.atStage 1 = true ∧ s.on Fld.BOOT_STAT_FACTORY_PIN 0 = true →
       Completes (.flashInitDone dt true) s fun t =>
         t.rd Fld.BOOT_STAT_STAGE 0 = 3 ∧ t.boot.stageAt = s.up + dt ∧ t.boot.active = s.boot.active) ∧
  (∀ (s : State) (dt : Nat), s.runs → s.atStage 1 = true ∧ s.on Fld.BOOT_STAT_FACTORY_PIN 0 = false ∧ s.boot.rec_.swapping =
     false ∧ s.boot.rec_.trial = false → s.boot.rec_.fallback = false ∧ (s.stg = 0 ∨ s.stg = 3 ∨ s.stg = 4 ∨ s.stg = 6) →
       Completes (.flashInitDone dt true) s fun t =>
         t.rd Fld.BOOT_STAT_STAGE 0 = 3 ∧ t.stg = s.stg ∧ t.mem = s.mem) ∧
  (∀ (s : State) (dt : Nat), s.runs → s.atStage 1 = true ∧ s.on Fld.BOOT_STAT_FACTORY_PIN 0 = false ∧ s.boot.rec_.swapping =
     false ∧ s.boot.rec_.trial = false → s.stg = 5 ∧ 0 < s.swapLen →
       Completes (.flashInitDone dt true) s fun t =>
         t.rd Fld.BOOT_STAT_STAGE 0 = 2 ∧ t.boot.rec_.swapping = true ∧ t.boot.rec_.step = 0 ∧ t.boot.rec_.len = s.swapLen ∧ t.stg = 5) ∧
  (∀ (s : State) (dt : Nat), s.runs → s.atStage 1 = true ∧ s.on Fld.BOOT_STAT_FACTORY_PIN 0 = false ∧ s.boot.rec_.swapping =
     false ∧ s.boot.rec_.trial = true → s.boot.rec_.fallback = false ∧ s.rd Fld.BOOT_TRIAL_STARTS 0 = 1 ∧ s.stg = 6 →
       Completes (.flashInitDone dt true) s fun t =>
         t.rd Fld.BOOT_STAT_STAGE 0 = 3 ∧ t.rd Fld.BOOT_TRIAL_STARTS 0 = 2 ∧ t.boot.rec_.fallback = false) ∧
  (∀ (s : State) (dt : Nat), s.runs → s.atStage 1 = true ∧ s.on Fld.BOOT_STAT_FACTORY_PIN 0 = false ∧ (s.stg = 1 ∨ s.stg = 2 ∨
     s.stg = 7) →
       Completes (.flashInitDone dt true) s fun t =>
         t.stg = 0 ∧ t.boot.written = 0 ∧
         (∀ a, a < 0x8000000 → t.byteAt (stagingAt a) = 0)) ∧
  (∀ (s : State) (dt : Nat), s.runs → Memory.wf s.mem = true → s.atStage 2 = true ∧ s.boot.rec_.swapping = true ∧
     s.boot.rec_.step % 3 = 0 ∧ s.boot.rec_.step + 1 < 3 * s.boot.rec_.len →
       let x := s.boot.rec_.step / 3 * 65536
       Completes (.swapStepDone dt true) s fun t =>
         (∀ i, i < 65536 → t.byteAt (scratchAt i) = s.byteAt (activeAt (x + i))) ∧
         (∀ a, (a < scratchAt 0 ∨ scratchAt 65536 ≤ a) → t.byteAt a = s.byteAt a) ∧
         t.boot.rec_.step = s.boot.rec_.step + 1 ∧ t.rd Fld.BOOT_STAT_STAGE 0 = 2) ∧
  (∀ (s : State) (dt : Nat), s.runs → Memory.wf s.mem = true → s.atStage 2 = true ∧ s.boot.rec_.swapping = true ∧
     s.boot.rec_.step % 3 = 1 ∧ s.boot.rec_.step + 1 < 3 * s.boot.rec_.len → s.boot.rec_.step / 3 < 2048 →
       let x := s.boot.rec_.step / 3 * 65536
       Completes (.swapStepDone dt true) s fun t =>
         (∀ i, i < 65536 → t.byteAt (activeAt (x + i)) = s.byteAt (stagingAt (x + i))) ∧
         (∀ a, (a < activeAt x ∨ activeAt (x + 65536) ≤ a) → t.byteAt a = s.byteAt a) ∧
         t.boot.rec_.step = s.boot.rec_.step + 1) ∧
  (∀ (s : State) (dt : Nat), s.runs → Memory.wf s.mem = true → s.atStage 2 = true ∧ s.boot.rec_.swapping = true ∧
     s.boot.rec_.step % 3 = 2 ∧ s.boot.rec_.step + 1 < 3 * s.boot.rec_.len → s.boot.rec_.step / 3 < 2048 →
       let x := s.boot.rec_.step / 3 * 65536
       Completes (.swapStepDone dt true) s fun t =>
         (∀ i, i < 65536 → t.byteAt (stagingAt (x + i)) = s.byteAt (scratchAt i)) ∧
         (∀ a, (a < stagingAt x ∨ stagingAt (x + 65536) ≤ a) → t.byteAt a = s.byteAt a) ∧
         t.boot.rec_.step = s.boot.rec_.step + 1) ∧
  (∀ (s : State) (dt : Nat), s.runs → s.atStage 2 = true ∧ s.boot.rec_.swapping = true ∧ s.boot.rec_.fallback = false ∧ 3 *
     s.boot.rec_.len ≤ s.boot.rec_.step + 1 →
       Completes (.swapStepDone dt true) s fun t =>
         t.rd Fld.BOOT_STAT_STAGE 0 = 3 ∧ t.boot.active = s.boot.staging ∧ t.boot.staging = s.boot.active ∧ t.boot.rec_.swapping =
           false ∧
         t.boot.rec_.trial = true ∧ t.stg = 6 ∧ t.rd Fld.BOOT_TRIAL_STARTS 0 = 1 ∧ t.rd Fld.BOOT_STAT_SWAPPED 0 = 1) ∧
  (∀ (s : State) (dt : Nat), s.runs → s.atStage 2 = true ∧ s.boot.rec_.swapping = true →
       Completes (.swapStepDone dt false) s fun t =>
         t.rd Fld.BOOT_STAT_CAUSE 0 = 3 ∧ t.flt.startHold = true ∧ t.boot.rec_ = s.boot.rec_ ∧ t.mem = s.mem) ∧
  (∀ (s : State) (dt : Nat) (img : ImgIn) (fac : Bool), s.runs → s.atStage 3 = true ∧ s.boot.useFactory = fac ∧ s.on
     Fld.BOOT_STAT_FACTORY_PIN 0 = false ∧ s.imageCause img = 0 →
       Completes (.startVerifyDone dt img) s fun t =>
         t.rd Fld.BOOT_STAT_STAGE 0 = 4 ∧ t.boot.run = img.hdr ∧ t.rd Fld.BOOT_STAT_SOURCE 0 = b2n fac ∧ t.trial = (s.boot.rec_.trial
           && !fac) ∧
         (if fac then t.boot.factory else t.boot.active) = img.hdr ∧
         t.boot.img = { recs := img.recs, key := img.key, ip := img.ip.toList }) ∧
  (∀ (s : State) (dt : Nat) (img : ImgIn), s.runs → s.atStage 3 = true ∧ s.imageCause img ≠ 0 ∧ s.boot.useFactory = false ∧
     s.on Fld.BOOT_STAT_FACTORY_PIN 0 = false →
       Completes (.startVerifyDone dt img) s fun t =>
         t.rd Fld.BOOT_STAT_CAUSE 0 = s.imageCause img ∧ t.boot.useFactory = true ∧ t.atStage 3 = true) ∧
  (∀ (s : State) (dt : Nat) (img : ImgIn), s.runs → s.atStage 3 = true ∧ s.imageCause img ≠ 0 ∧ s.boot.useFactory = true →
       Completes (.startVerifyDone dt img) s fun t =>
         t.rd Fld.BOOT_STAT_CAUSE 0 = s.imageCause img ∧ t.rd Fld.BOOT_STAT_SOURCE 0 = 2 ∧ t.flt.startHold = true ∧ t.rd
           Fld.BOOT_STAT_STAGE 0 = 3) ∧
  (∀ (s : State) (dt : Nat) (r : KeyRec) (k : Fin 16), s.runs → s.atStage 4 = true ∧ s.boot.conds = [] ∧ s.boot.img.key = some
     r →
       Completes (.configApplied dt) s fun t =>
         t.rd Fld.HCP_SLOT_STAT_RIGHTS k = (r.slots.get k).rights.toNat ∧ t.rd Fld.HCP_SLOT_STAT_EN k = b2n (r.slots.get k).en ∧ t.rd
           Fld.HCP_SLOT_STAT_LOADED k = b2n (r.slots.get k).loaded ∧
         ((t.hcp.keys.find? fun p => p.1 == k.val) = if (r.slots.get k).loaded then some (k.val, Config.unwrap r.wrapKey (r.slots.get
           k).wrapped.toNat) else none) ∧
         t.rd Fld.HCP_SLOT_STAT_KCV k = (if (r.slots.get k).loaded then Config.kcv (Config.unwrap r.wrapKey (r.slots.get
           k).wrapped.toNat) else 0) % 2 ^ 24 ∧
         t.rd Fld.BOOT_STAT_STAGE 0 = 5 ∧ t.rd Fld.BOOT_ACT_SVN_SVN 0 = s.boot.run.svn % 2 ^ Fld.BOOT_ACT_SVN_SVN.width) ∧
  (∀ (s : State) (dt : Nat) (v : BitVec 32), s.runs → s.atStage 4 = true ∧ s.boot.conds = [] ∧ s.boot.img.recs = [⟨.named
     .HCP_CFG 0 false, [v]⟩] →
       Completes (.configApplied dt) s fun t =>
         t.rd Fld.HCP_CFG_IDLE_S 0 = v.toNat / 2 ^ Fld.HCP_CFG_IDLE_S.lsb % 2 ^ 10) ∧
  (∀ (s : State) (dt : Nat) (b : Fin 33), s.runs → s.atStage 5 = true ∧ s.on Fld.IZL_LINK_CTL_ENABLE b = true →
       Completes (.hbmTrained dt) s fun t =>
         t.rd Fld.BOOT_STAT_STAGE 0 = 6 ∧ t.rd Fld.IZL_LINK_STAT_STATE b = 1 ∧ t.rd Fld.IZL_LINK_STAT_LANES_OK b = 0) ∧
  (∀ (s : State) (dt : Nat), s.runs → s.atStage 6 = true ∧ s.boot.stageAt + ms 200 ≤ s.up + dt ∧ s.on Fld.KILN_STAT_TIME_VALID
     0 = false →
       Completes (.stage6End dt) s fun t =>
         t.rd Fld.BOOT_STAT_STAGE 0 = 7 ∧ t.kiln.waitFrom = some (s.up + dt) ∧ t.mode = .startUp) ∧
  (∀ (s : State) (dt : Nat), s.runs → s.atStage 6 = true ∧ s.boot.stageAt + ms 200 ≤ s.up + dt ∧ s.on Fld.KILN_STAT_TIME_VALID
     0 = true ∧ s.on Fld.MNTL_CTL_EN 0 = false →
       Completes (.stage6End dt) s fun t =>
         t.rd Fld.BOOT_STAT_STAGE 0 = 8 ∧ t.role = .single ∧ t.mntl.flag = true) ∧
  (∀ (s : State) (dt : Nat) (b : Fin 33), s.runs → s.atStage 6 = true ∧ s.up + dt < s.boot.stageAt + ms 200 ∧ s.on
     Fld.IZL_LINK_CTL_ENABLE b = true ∧ s.linkUp b = false →
       Completes (.stage6End dt) s fun t =>
         t.rd Fld.BOOT_STAT_STAGE 0 = 6) ∧
  (∀ (s : State) (dt : Nat), s.runs → s.atStage 8 = true ∧ s.role ≠ .none →
       Completes (.enterService dt) s fun t =>
         (t.rd Fld.BOOT_STAT_STAGE 0 = 9 ∧ t.mode = if s.anyFenced || s.any7Lane then .degraded else .service) ∧
         (s.mode = .startUp ∧ (s.anyFenced || s.any7Lane) = false → t.kiln.cellarCfg.isSome = true)) ∧
  (∀ (s : State) (dt : Nat), s.runs → s.atStage 8 = true ∧ s.role = .none →
       Completes (.enterService dt) s fun t =>
         t.rd Fld.BOOT_STAT_STAGE 0 = 8 ∧ t.mode = .startUp ∧ Framed dt s t [] [])

/-- A trial image is confirmed or falls back. Time, what is sent, and other choices of the model: log entries 1, 2, 102 and 112. -/
def Obligations.TrialState : Prop :=
  (∀ (s : State) (dt : Nat), s.runs → (s.start dt).confirmsNow = true →
       Completes (.trialConfirmed dt) s fun t =>
         t.trial = false ∧ t.boot.rec_.trial = false ∧
         (t.rd Fld.BOOT_MIN_SVN_SVN 0 = if s.boot.run.raiseSvn ∧ s.rd Fld.BOOT_MIN_SVN_SVN 0 < s.boot.run.svn then s.boot.run.svn % 2 ^
           Fld.BOOT_MIN_SVN_SVN.width else s.rd Fld.BOOT_MIN_SVN_SVN 0)) ∧
  (∀ (s : State) (dt : Nat), s.runs → (s.start dt).confirmsNow = false →
       Completes (.trialConfirmed dt) s fun t =>
         Framed dt s t [] []) ∧
  (∀ (s : State) (dt : Nat), s.runs → s.trial = true ∧ s.boot.startAt + sec s.boot.run.confirmS ≤ s.up + dt ∧ (s.start
     dt).confirmsNow = false ∧ s.mild →
       Completes (.trialWindowExpire dt) s fun t =>
         t.mode = .startUp ∧ t.rd Fld.BOOT_STAT_STAGE 0 = 1 ∧ t.boot.rec_.fallback = true) ∧
  (∀ (s : State) (dt : Nat), s.runs → s.trial = true ∧ s.boot.startAt + sec s.boot.run.confirmS ≤ s.up + dt ∧ (s.start
     dt).confirmsNow = true →
       Completes (.trialWindowExpire dt) s fun t =>
         t.trial = false ∧ t.boot.rec_.trial = false ∧ t.mode = s.mode) ∧
  (∀ (s : State) (dt : Nat), s.runs → s.trial = true ∧ s.up + dt < s.boot.startAt + sec s.boot.run.confirmS →
       Completes (.trialWindowExpire dt) s fun t =>
         Framed dt s t [] [])

/-- Writing STAGING through HCP: the order of writes, the end, verification, activation, aborting and status. Time, what is sent,
and other choices of the model: log entries 1, 2, 44, 99, 106 and 107. -/
def Obligations.ImageOps : Prop :=
  (∀ (s : State) (dt : Nat) (h : HcpReq) (k : Nat) (data : List Byte), s.runs → (s.start dt).asks h (some 3) false k ∧ (s.stg
     = 0 ∨ s.stg = 3 ∨ s.stg = 4 ∨ s.stg = 6) ∧ s.trial = false ∧ data.length ≤ 8192 →
       Completes (.imageWrite dt h 0 data false) s fun t =>
         t.stg = 1 ∧ t.boot.writer = some (s.sessOf k).writerId ∧ t.boot.written = data.length ∧ t.rd Fld.BOOT_STG_STAT_RELAYED 0 = 0 ∧
         t.bytesAt (stagingAt 0) data.length = data ∧ s.reply h k 0x60 .ok [] ∈ t.out ∧
         (∀ a, (data.length ≤ a → a < 0x8000000 → t.byteAt (stagingAt a) = 0) ∧ ((a < stagingAt 0 ∨ stagingAt 0x8000000 ≤ a) → t.byteAt
           a = s.byteAt a))) ∧
  (∀ (s : State) (dt : Nat) (h : HcpReq) (k : Nat) (off : BitVec 32) (data : List Byte), s.runs → (s.start dt).asks h (some 3)
     false k ∧ s.stg = 1 ∧ s.trial = false → s.boot.writer = some (s.sessOf k).writerId ∧ s.boot.written = off.toNat ∧ off ≠ 0
     ∧ off.toNat + data.length ≤ 0x8000000 →
       let a := stagingAt off.toNat
       Completes (.imageWrite dt h off data false) s fun t =>
         t.stg = 1 ∧ t.boot.written = off.toNat + data.length ∧ t.bytesAt a data.length = data ∧ s.reply h k 0x60 .ok [] ∈ t.out ∧
         (∀ x, (x < a ∨ a + data.length ≤ x) → t.byteAt x = s.byteAt x)) ∧
  (∀ (s : State) (dt : Nat) (h : HcpReq) (k : Nat) (off : BitVec 32) (data : List Byte), s.runs → (s.start dt).asks h (some 3)
     false k ∧ s.stg = 1 ∧ s.trial = false → s.boot.writer = some (s.sessOf k).writerId ∧ s.boot.written ≠ off.toNat ∧ off ≠ 0
     →
       Completes (.imageWrite dt h off data false) s fun t =>
         t.mem = s.mem ∧ t.boot.written = s.boot.written ∧ s.reply h k 0x60 .errAccess [] ∈ t.out) ∧
  (∀ (s : State) (dt : Nat) (h : HcpReq) (k : Nat) (off : BitVec 32) (data : List Byte) (full : Bool), s.runs → (s.start
     dt).asks h (some 3) false k ∧ (s.stg = 5 ∨ s.stg = 7 ∨ s.stg = 2 ∨ s.trial = true ∨ (full = true ∧ off = 0 ∧ data.length
     ≤ 8192)) →
       Completes (.imageWrite dt h off data full) s fun t =>
         t.mem = s.mem ∧ t.stg = s.stg ∧ s.reply h k 0x60 .errBusy [] ∈ t.out) ∧
  (∀ (s : State) (dt : Nat) (h : HcpReq) (k : Nat) (len : BitVec 32) (act : Bool), s.runs → (s.start dt).asks h (some 3) false
     k ∧ s.stg = 1 ∧ s.boot.writer = some (s.sessOf k).writerId ∧ s.boot.written = len.toNat →
       Completes (.imageEnd dt h len act) s fun t =>
         t.stg = 2 ∧ t.boot.activate = act ∧ t.boot.writer = none ∧ t.mem = s.mem ∧ s.reply h k 0x61 .ok [] ∈ t.out) ∧
  (∀ (s : State) (dt : Nat) (h : HcpReq) (k : Nat), s.runs → (s.start dt).asks h (some 3) false k ∧ (s.stg = 3 ∨ s.stg = 6) →
       Completes (.imageEnd dt h 0 true) s fun t =>
         t.stg = 2 ∧ t.boot.activate = true ∧ s.reply h k 0x61 .ok [] ∈ t.out) ∧
  (∀ (s : State) (dt : Nat) (h : HcpReq) (k : Nat) (len : BitVec 32) (act : Bool), s.runs → (s.start dt).asks h (some 3) false
     k ∧ s.stg = 1 ∧ (s.boot.writer ≠ some (s.sessOf k).writerId ∨ s.boot.written ≠ len.toNat) →
       Completes (.imageEnd dt h len act) s fun t =>
         t.stg = 1 ∧ s.reply h k 0x61 .errAccess [] ∈ t.out) ∧
  (∀ (s : State) (dt : Nat) (h : HcpReq) (k : Nat), s.runs → (s.start dt).asks h (some 3) false k ∧ (s.stg = 1 ∨ s.stg = 2 ∨
     s.stg = 7) →
       Completes (.imageAbort dt h) s fun t =>
         t.stg = 0 ∧ t.rd Fld.BOOT_STG_STAT_CAUSE 0 = 0 ∧ t.boot.rx = none ∧ s.reply h k 0x62 .ok [] ∈ t.out ∧
         (∀ a, (a < 0x8000000 → t.byteAt (stagingAt a) = 0) ∧ ((a < stagingAt 0 ∨ stagingAt 0x8000000 ≤ a) → t.byteAt a = s.byteAt a))) ∧
  (∀ (s : State) (dt : Nat) (h : HcpReq) (k : Nat), s.runs → (s.start dt).asks h (some 3) false k ∧ s.stg = 5 →
       Completes (.imageAbort dt h) s fun t =>
         t.stg = 3 ∧ t.mem = s.mem ∧ s.reply h k 0x62 .ok [] ∈ t.out) ∧
  (∀ (s : State) (dt : Nat) (h : HcpReq) (k : Nat), s.runs → (s.start dt).asks h (some 3) true k ∧ 40 ≤ s.bodyMax h.ctl1 →
       Completes (.imageStatus dt h) s fun t =>
         s.reply h k 0x63 .ok (beBytes 4 (s.regValue .BOOT_STG_STAT 0 false) ++ beBytes 4 s.boot.written ++ beBytes 16
           s.boot.staging.id ++ beBytes 16 s.boot.active.id) ∈ t.out ∧
         t.mem = s.mem ∧ t.stg = s.stg) ∧
  (∀ (s : State) (dt : Nat) (h : HcpReq) (k : Nat) (hops : BitVec 8) (b : Fin 32), s.runs → (s.start dt).asks h (some 3) false
     k ∧ 1 ≤ hops.toNat ∧ hops.toNat ≤ 64 ∧ (s.stg = 3 ∨ s.stg = 5) → s.linkUp b = true ∧ s.sendsSide b →
       Completes (.imageRelay dt h hops (BitVec.ofNat 32 (2 ^ b.val)) false) s fun t =>
         (t.out.any fun o => o.relays b 1 hops.toNat s.boot.staging.id 0 (beBytes 4 s.boot.staging.len)) = true ∧
         s.reply h k 0x64 .ok [] ∈ t.out) ∧
  (∀ (s : State) (dt : Nat) (h : HcpReq) (k : Nat) (hops : BitVec 8) (mask : BitVec 32) (m : Bool), s.runs → (s.start dt).asks
     h (some 3) false k ∧ (hops.toNat = 0 ∨ 64 < hops.toNat ∨ (s.stg ≠ 3 ∧ s.stg ≠ 5)) →
       Completes (.imageRelay dt h hops mask m) s fun t =>
         t.cell = s.cell ∧ s.reply h k 0x64 .errAccess [] ∈ t.out) ∧
  (∀ (s : State) (dt : Nat) (img : ImgIn), s.runs → s.stg = 2 ∧ s.boot.rx = none ∧ s.imageCause img ≠ 0 →
       Completes (.imageVerifyDone dt img) s fun t =>
         t.stg = 4 ∧ t.rd Fld.BOOT_STG_STAT_CAUSE 0 = s.imageCause img ∧ t.boot.staging = img.hdr ∧ t.boot.activate = false) ∧
  (∀ (s : State) (dt : Nat) (img : ImgIn) (c : Nat), s.runs → s.stg = 2 ∧ s.boot.rx = none ∧ s.imageCause img = 0 ∧ (if
     s.boot.activate then s.activateCause img.hdr else 0) = c →
       Completes (.imageVerifyDone dt img) s fun t =>
         t.stg = (if s.boot.activate ∧ c = 0 then 5 else 3) ∧ t.rd Fld.BOOT_STG_STAT_CAUSE 0 = c ∧ t.boot.staging = img.hdr ∧ t.mem =
           s.mem) ∧
  (∀ (s : State) (dt : Nat) (img : ImgIn) (r : RelayRx), s.runs → s.stg = 2 ∧ s.boot.rx = some r ∧ s.on
     Fld.BOOT_RELAY_CTL_FORWARD 0 = false ∧ s.sendsSide r.link →
       Completes (.imageVerifyDone dt img) s fun t =>
         t.stg = (if s.imageCause img = 0 then 3 else 4) ∧ t.boot.rx = none ∧
         (t.out.any fun o => o.relays r.link 5 r.hops r.id r.len (beBytes 1 (s.imageCause img))) = true)

/-- Relay: offers taken or declined, data stored in order, acknowledged and completed, and timeouts. Time, what is sent, and other
choices of the model: log entries 1, 2, 103, 104, 105 and 139. -/
def Obligations.RelayCells : Prop :=
  (∀ (s : State) (dt : Nat) (b : Fin 33) (rx : RxCell) (cell d : List Byte) (h : Hdr), s.runs → s.relayed b rx cell h d 1 ∧
     s.declines (beAt d 2 16) = 0 ∧ s.sendsSide b →
       Completes (.relayOffer dt b rx) s fun t =>
         t.stg = 7 ∧ t.rd Fld.BOOT_STG_STAT_RELAYED 0 = 1 ∧ t.rd Fld.BOOT_STG_STAT_HOPS 0 = beAt d 1 1 % 2 ^
           Fld.BOOT_STG_STAT_HOPS.width ∧
         t.boot.rx = some { link := b, hops := beAt d 1 1, id := beAt d 2 16, len := beAt d 22 4, at_ := s.up + dt } ∧
         (t.out.any fun o => o.relays b 2 (beAt d 1 1) (beAt d 2 16) 0 []) = true) ∧
  (∀ (s : State) (dt : Nat) (b : Fin 33) (rx : RxCell) (cell d : List Byte) (h : Hdr) (c : Nat), s.runs → s.relayed b rx cell
     h d 1 ∧ s.declines (beAt d 2 16) = c ∧ c ≠ 0 ∧ s.sendsSide b →
       Completes (.relayOffer dt b rx) s fun t =>
         t.stg = s.stg ∧ t.mem = s.mem ∧
         (t.out.any fun o => o.relays b 6 (beAt d 1 1) (beAt d 2 16) 0 (beBytes 1 c)) = true) ∧
  (∀ (s : State) (dt : Nat) (b : Fin 33) (rx : RxCell) (cell d : List Byte) (h : Hdr), s.runs → s.relayed b rx cell h d 2 ∧
     (s.stg = 3 ∨ s.stg = 5) ∧ beAt d 2 16 = s.boot.staging.id ∧ s.sendsSide b → s.boot.staging.len = beAt d 18 4 + 2 →
       Completes (.relayWant dt b rx) s fun t =>
         (t.boot.tx.find? fun p => p.1 == b.val) = some (b.val, { acked := beAt d 18 4, sent := s.boot.staging.len, at_ := s.up + dt }) ∧
         (t.out.any fun o => o.relays b 3 (beAt d 1 1) s.boot.staging.id (beAt d 18 4) (s.bytesAt (stagingAt (beAt d 18 4)) 2)) = true) ∧
  (∀ (s : State) (dt : Nat) (b : Fin 33) (rx : RxCell) (cell d : List Byte) (h : Hdr) (r : RelayRx) (e : List Byte), s.runs →
     s.relayed b rx cell h d 3 ∧ s.rxOn b (beAt d 2 16) = some r ∧ beAt d 18 4 = r.stored → e = d.drop 22 ∧ r.stored +
     e.length < r.len ∧ r.len ≤ 0x8000000 ∧ (r.stored + e.length) / 65536 = r.acked / 65536 →
       let a := stagingAt r.stored
       Completes (.relayData dt b rx) s fun t =>
         t.stg = 7 ∧ t.boot.rx = some { r with stored := r.stored + e.length, at_ := s.up + dt } ∧ t.bytesAt a e.length = e ∧
         (∀ x, (x < a ∨ a + e.length ≤ x) → t.byteAt x = s.byteAt x)) ∧
  (∀ (s : State) (dt : Nat) (b : Fin 33) (rx : RxCell) (cell d : List Byte) (h : Hdr) (r : RelayRx) (e : List Byte), s.runs →
     s.relayed b rx cell h d 3 ∧ s.rxOn b (beAt d 2 16) = some r ∧ beAt d 18 4 = r.stored → e = d.drop 22 ∧ r.stored +
     e.length = r.len ∧ r.len ≤ 0x8000000 ∧ s.sendsSide b →
       let a := stagingAt r.stored
       Completes (.relayData dt b rx) s fun t =>
         t.stg = 2 ∧ t.bytesAt a e.length = e ∧ t.boot.written = r.len ∧
         (∀ x, (x < a ∨ a + e.length ≤ x) → t.byteAt x = s.byteAt x) ∧
         (t.out.any fun o => o.relays b 4 r.hops r.id r.len []) = true) ∧
  (∀ (s : State) (dt : Nat) (b : Fin 33) (rx : RxCell) (cell d : List Byte) (h : Hdr) (r : RelayRx), s.runs → s.relayed b rx
     cell h d 3 ∧ s.rxOn b (beAt d 2 16) = some r ∧ r.stored < beAt d 18 4 ∧ s.sendsSide b →
       Completes (.relayData dt b rx) s fun t =>
         t.stg = 7 ∧ t.boot.rx = some { r with at_ := s.up + dt } ∧ t.mem = s.mem ∧
         (t.out.any fun o => o.relays b 2 r.hops r.id r.stored []) = true) ∧
  (∀ (s : State) (dt : Nat) (b : Fin 33) (rx : RxCell) (cell d : List Byte) (h : Hdr) (r : RelayTx), s.runs → s.relayed b rx
     cell h d 4 ∧ (s.stg = 3 ∨ s.stg = 5) ∧ beAt d 2 16 = s.boot.staging.id → (s.boot.tx.find? fun p => p.1 == b.val) = some
     (b.val, r) ∧ r.sent = s.boot.staging.len →
       Completes (.relayAck dt b rx) s fun t =>
         (t.boot.tx.find? fun p => p.1 == b.val) = some (b.val,
           { acked := max r.acked (min (beAt d 18 4) r.sent), sent := r.sent, at_ := s.up + dt }) ∧
         t.mem = s.mem ∧ t.stg = s.stg) ∧
  (∀ (s : State) (dt : Nat) (b : Fin 33) (rx : RxCell) (cell d : List Byte) (h : Hdr), s.runs → s.relayed b rx cell h d 5 →
       Completes (.relayDone dt b rx) s fun t =>
         (t.boot.tx.any fun p => p.1 == b.val) = false ∧ t.stg = s.stg ∧ t.mem = s.mem) ∧
  (∀ (s : State) (dt : Nat) (b : Fin 33) (rx : RxCell) (cell d : List Byte) (h : Hdr), s.runs → s.relayed b rx cell h d 6 →
       Completes (.relayDecline dt b rx) s fun t =>
         (t.boot.tx.any fun p => p.1 == b.val) = false ∧ t.stg = s.stg ∧ t.mem = s.mem) ∧
  (∀ (s : State) (dt : Nat) (b : Fin 33) (r : RelayRx), s.runs → s.stg = 7 ∧ s.boot.rx = some r ∧ r.link = b.val ∧ r.at_ + sec
     2 ≤ s.up + dt →
       Completes (.relayTimeout dt b true) s fun t =>
         t.stg = 0 ∧ t.boot.rx = none ∧ t.boot.written = 0 ∧
         (∀ a, a < 0x8000000 → t.byteAt (stagingAt a) = 0)) ∧
  (∀ (s : State) (dt : Nat) (b : Fin 33) (r : RelayTx), s.runs → (s.boot.tx.find? fun p => p.1 == b.val) = some (b.val, r) ∧
     r.at_ + sec 2 ≤ s.up + dt →
       Completes (.relayTimeout dt b false) s fun t =>
         (t.boot.tx.any fun p => p.1 == b.val) = false ∧ t.stg = s.stg)
end

