-- ==== Sys2Proof/Laws/Core.lean ====
section
/-! SUPPORT. What one step of a loop leaves, the loop leaves. -/

set_option autoImplicit false

namespace Sys2Proof.Machine

theorem foldl_keep {α β γ : Type} (m : β → γ) (f : β → α → β) (h : ∀ b a, m (f b a) = m b) (l : List α) (b : β) :
    m (l.foldl f b) = m b := by
  induction l generalizing b with
  | nil => rfl
  | cons x l ih => rw [List.foldl_cons, ih, h]

end Sys2Proof.Machine
end

