-- ==== Sys2Proof/Laws/Store.lean ====
section
/-! SUPPORT. The laws of the sparse store: a read after a write, every other key unchanged, and the canonical
form kept. -/

namespace Sys2Proof.Machine

@[simp] theorem tget_nil {α : Type} (d : α) (k : Nat) : tget d [] k = d := rfl

theorem tget_terase_same {α : Type} (d : α) (t : List (Nat × α)) (k : Nat) : tget d (terase t k) k = d := by
  induction t with
  | nil => rfl
  | cons p t ih =>
    unfold terase
    split
    · exact ih
    · rename_i h
      simp only [tget, h, if_false, ih]

theorem tget_terase_other {α : Type} (d : α) (t : List (Nat × α)) (k j : Nat) (h : j ≠ k) :
    tget d (terase t k) j = tget d t j := by
  induction t with
  | nil => rfl
  | cons p t ih =>
    unfold terase
    split
    · rename_i hp
      have : p.1 ≠ j := fun e => h (e ▸ hp ▸ rfl)
      simp only [tget, this, if_false, ih]
    · simp only [tget, ih]

theorem tget_tinsert_same {α : Type} (d : α) (t : List (Nat × α)) (k : Nat) (v : α) :
    tget d (tinsert t k v) k = v := by
  induction t with
  | nil => simp [tinsert, tget]
  | cons p t ih =>
    unfold tinsert
    split
    · simp [tget]
    · split
      · simp [tget]
      · rename_i h
        simp only [tget, h, if_false, ih]

theorem tget_tinsert_other {α : Type} (d : α) (t : List (Nat × α)) (k j : Nat) (v : α) (h : j ≠ k) :
    tget d (tinsert t k v) j = tget d t j := by
  have hk : k ≠ j := fun e => h e.symm
  induction t with
  | nil => simp [tinsert, tget, hk]
  | cons p t ih =>
    unfold tinsert
    split
    · simp [tget, hk]
    · split
      · rename_i hp
        have : p.1 ≠ j := fun e => h (e ▸ hp ▸ rfl)
        simp [tget, hk, this]
      · simp only [tget, ih]

/-- A read after a write of the same key gives the value written. -/
@[simp] theorem tget_tput_same {α : Type} [DecidableEq α] (d : α) (t : List (Nat × α)) (k : Nat) (v : α) :
    tget d (tput d t k v) k = v := by
  unfold tput
  split
  · rename_i h; rw [tget_terase_same, h]
  · exact tget_tinsert_same d t k v

/-- A write leaves every other key alone. -/
theorem tget_tput_other {α : Type} [DecidableEq α] (d : α) (t : List (Nat × α)) (k j : Nat) (v : α)
    (h : j ≠ k) : tget d (tput d t k v) j = tget d t j := by
  unfold tput
  split
  · exact tget_terase_other d t k j h
  · exact tget_tinsert_other d t k j v h

theorem twf_cons {α : Type} [DecidableEq α] (d : α) (p : Nat × α) (t : List (Nat × α)) :
    twf d (p :: t) = true ↔ p.2 ≠ d ∧ (∀ q ∈ t.head?, p.1 < q.1) ∧ twf d t = true := by
  cases t with
  | nil => simp [twf]
  | cons q t => simp [twf, and_assoc]

theorem twf_tail {α : Type} [DecidableEq α] {d : α} {p : Nat × α} {t : List (Nat × α)}
    (h : twf d (p :: t) = true) : twf d t = true := ((twf_cons d p t).1 h).2.2

theorem twf_lt {α : Type} [DecidableEq α] {d : α} {p : Nat × α} {t : List (Nat × α)}
    (h : twf d (p :: t) = true) : ∀ q ∈ t, p.1 < q.1 := by
  induction t generalizing p with
  | nil => intro q hq; cases hq
  | cons r t ih =>
    intro q hq
    have h2 := (twf_cons d p (r :: t)).1 h
    have hr : p.1 < r.1 := h2.2.1 r (by simp)
    rcases List.mem_cons.1 hq with rfl | hq
    · exact hr
    · exact Nat.lt_trans hr (ih h2.2.2 q hq)

theorem mem_terase {α : Type} {t : List (Nat × α)} {k : Nat} {q : Nat × α} (h : q ∈ terase t k) : q ∈ t := by
  induction t with
  | nil => exact h
  | cons p t ih =>
    unfold terase at h
    split at h
    · exact List.mem_cons_of_mem _ (ih h)
    · rcases List.mem_cons.1 h with rfl | h
      · exact List.mem_cons_self
      · exact List.mem_cons_of_mem _ (ih h)

theorem twf_terase {α : Type} [DecidableEq α] {d : α} {t : List (Nat × α)} (k : Nat) (h : twf d t = true) :
    twf d (terase t k) = true := by
  induction t with
  | nil => rfl
  | cons p t ih =>
    unfold terase
    split
    · exact ih (twf_tail h)
    · refine (twf_cons d p _).2 ⟨((twf_cons d p t).1 h).1, ?_, ih (twf_tail h)⟩
      intro q hq
      have hm : q ∈ terase t k := List.mem_of_mem_head? hq
      exact twf_lt h q (mem_terase hm)

theorem head_tinsert {α : Type} {t : List (Nat × α)} {k : Nat} {v : α} {q : Nat × α}
    (h : q ∈ (tinsert t k v).head?) : q.1 = k ∨ q ∈ t.head? := by
  cases t with
  | nil => simp [tinsert] at h; left; rw [← h]
  | cons p t =>
    unfold tinsert at h
    split at h
    · simp at h; left; rw [← h]
    · split at h
      · simp at h; left; rw [← h]
      · right; simpa using h

theorem twf_tinsert {α : Type} [DecidableEq α] {d : α} {t : List (Nat × α)} (k : Nat) {v : α} (hv : v ≠ d)
    (h : twf d t = true) : twf d (tinsert t k v) = true := by
  induction t with
  | nil => simp [tinsert, twf, hv]
  | cons p t ih =>
    unfold tinsert
    split
    · rename_i hk
      exact (twf_cons d _ _).2 ⟨hv, by intro q hq; simp at hq; rw [← hq]; exact hk, h⟩
    · split
      · rename_i hp
        have h2 := (twf_cons d p t).1 h
        exact (twf_cons d _ _).2 ⟨hv, by intro q hq; rw [← hp]; exact h2.2.1 q hq, h2.2.2⟩
      · rename_i h1 h3
        have h2 := (twf_cons d p t).1 h
        refine (twf_cons d _ _).2 ⟨h2.1, ?_, ih h2.2.2⟩
        intro q hq
        rcases head_tinsert hq with e | hq
        · omega
        · exact h2.2.1 q hq

/-- A write keeps the canonical form. -/
theorem twf_tput {α : Type} [DecidableEq α] {d : α} {t : List (Nat × α)} (k : Nat) (v : α)
    (h : twf d t = true) : twf d (tput d t k v) = true := by
  unfold tput
  split
  · exact twf_terase k h
  · rename_i hv; exact twf_tinsert k hv h

theorem twf_tputs {α : Type} [DecidableEq α] {d : α} (ps : List (Nat × α)) {t : List (Nat × α)}
    (h : twf d t = true) : twf d (tputs d t ps) = true := by
  induction ps generalizing t with
  | nil => exact h
  | cons p ps ih => exact ih (twf_tput p.1 p.2 h)

end Sys2Proof.Machine
end

