-- ==== Sys2Proof/Laws/Regs.lean ====
section
/-! SUPPORT. Reading a register field after an update: the field written, another instance, another field. -/

set_option autoImplicit false

namespace Sys2Proof.Machine

@[simp] theorem Field.off_nil (f : Field) : f.off [] := by simp [Field.off]

@[simp] theorem Field.off_cons (f g : Field) (l : List Field) : f.off (g :: l) ↔ g.key % 1024 ≠ f.key % 1024 ∧ f.off l := by
  simp [Field.off]

@[simp] theorem Field.off_append (f : Field) (a b : List Field) : f.off (a ++ b) ↔ f.off a ∧ f.off b := by
  simp [Field.off, or_imp, forall_and]

theorem Field.at_ne {f g : Field} (h : g.key % 1024 ≠ f.key % 1024) (i j : Nat) : f.at i ≠ g.at j := by
  unfold Field.at
  omega

theorem Field.at_inj {f : Field} {i j : Nat} (h : i ≠ j) : f.at i ≠ f.at j := by
  unfold Field.at
  omega

theorem tget_terase_any {α : Type} (d : α) (t : List (Nat × α)) (k j : Nat) (h : j ≠ k) :
    tget d (terase t k) j = tget d t j := tget_terase_other d t k j h

theorem tget_tput_any {α : Type} [DecidableEq α] (d e : α) (t : List (Nat × α)) (k j : Nat) (v : α) (h : j ≠ k) :
    tget e (tput d t k v) j = tget e t j := by
  unfold tput
  split
  · exact tget_terase_other e t k j h
  · exact tget_tinsert_other e t k j v h

theorem State.rd_of_rv {s t : State} (h : s.rv = t.rv) (f : Field) (i : Nat) : s.rd f i = t.rd f i := by
  unfold State.rd
  rw [h]

@[simp] theorem State.rd_wr_same (s : State) (f : Field) (i v : Nat) : (s.wr f i v).rd f i = v % 2 ^ f.width :=
  tget_tput_same ..

theorem State.rd_wr_inst (s : State) (f : Field) (i j v : Nat) (h : j ≠ i) : (s.wr f i v).rd f j = s.rd f j :=
  tget_tput_any _ _ _ _ _ _ (Field.at_inj h)

theorem State.rd_wr (s : State) (f : Field) (i j v : Nat) :
    (s.wr f i v).rd f j = if j = i then v % 2 ^ f.width else s.rd f j := by
  split
  · rename_i h; rw [h, State.rd_wr_same]
  · rename_i h; exact State.rd_wr_inst s f i j v h

@[simp] theorem State.wr_rd (s : State) (g : Field) (j v : Nat) (f : Field) (i : Nat) (h : g.key % 1024 ≠ f.key % 1024) :
    (s.wr g j v).rd f i = s.rd f i := tget_tput_any _ _ _ _ _ _ (Field.at_ne h i j)

@[simp] theorem State.flag_rd (s : State) (g : Field) (j : Nat) (b : Bool) (f : Field) (i : Nat)
    (h : g.key % 1024 ≠ f.key % 1024) : (s.flag g j b).rd f i = s.rd f i := State.wr_rd s g j _ f i h

@[simp] theorem State.bump_rd (s : State) (g : Field) (j n : Nat) (f : Field) (i : Nat) (h : g.key % 1024 ≠ f.key % 1024) :
    (s.bump g j n).rd f i = s.rd f i := State.wr_rd s g j _ f i h

@[simp] theorem State.cnt64_rd (s : State) (g : Field) (j n : Nat) (f : Field) (i : Nat) (h : g.key % 1024 ≠ f.key % 1024) :
    (s.cnt64 g j n).rd f i = s.rd f i := State.wr_rd s g j _ f i h

@[simp] theorem rd_ite (c : Prop) [Decidable c] (a b : State) (f : Field) (i : Nat) :
    (if c then a else b).rd f i = if c then a.rd f i else b.rd f i := by split <;> rfl

@[simp] theorem foldl_rd {α : Type} (g : State → α → State) (f : Field) (i : Nat) (h : ∀ s a, (g s a).rd f i = s.rd f i)
    (l : List α) (s : State) : (l.foldl g s).rd f i = s.rd f i := foldl_keep (fun s => s.rd f i) g h l s

@[simp] theorem foldl_snd_rd {α β : Type} (g : β × State → α → β × State) (f : Field) (i : Nat)
    (h : ∀ p a, (g p a).2.rd f i = p.2.rd f i) (l : List α) (p : β × State) : (l.foldl g p).2.rd f i = p.2.rd f i :=
  foldl_keep (fun p => p.2.rd f i) g h l p

theorem foldl_rd_snd {α β : Type} (g : β × State → α → β × State) (f : Field) (i : Nat)
    (h : ∀ p a, (g p a).2.rd f i = p.2.rd f i) (l : List α) (p : β × State) : (l.foldl g p).2.rd f i = p.2.rd f i :=
  foldl_keep (fun p => p.2.rd f i) g h l p

@[simp] theorem rd_ite_fst {α : Type} (c : Prop) [Decidable c] (a b : State × α) (f : Field) (i : Nat) :
    (if c then a else b).1.rd f i = if c then a.1.rd f i else b.1.rd f i := by split <;> rfl

@[simp] theorem rd_ite_snd {α : Type} (c : Prop) [Decidable c] (a b : α × State) (f : Field) (i : Nat) :
    (if c then a else b).2.rd f i = if c then a.2.rd f i else b.2.rd f i := by split <;> rfl

@[simp] theorem each_rd (s : State) (l : List Nat) (g : State → Nat → State) (f : Field) (i : Nat)
    (h : ∀ s a, (g s a).rd f i = s.rd f i) : (s.each l g).rd f i = s.rd f i := foldl_rd g f i h l s

end Sys2Proof.Machine
end

