-- ==== Sys2Proof/Laws/Fields.lean ====
section
/-! SUPPORT. Which register fields each operation may change: every other field reads as before. -/

set_option autoImplicit false
set_option linter.unusedSimpArgs false

namespace Sys2Proof.Machine

@[simp] theorem Field.off_faultFields (f : Field) : f.off faultFields ↔ Fld.CASK_FS_STAT_CAUSE.key % 1024 ≠ f.key % 1024 ∧
    Fld.CELL_SRC_STAT_LOST.key % 1024 ≠ f.key % 1024 ∧ Fld.CTRL_DEV_STATE_MODE.key % 1024 ≠ f.key % 1024 ∧
    Fld.ETH_CNT_TX_DISC_CNT.key % 1024 ≠ f.key % 1024 ∧ Fld.ETH_CNT_TX_FRAMES_CNT.key % 1024 ≠ f.key % 1024 ∧
    Fld.ETH_CNT_TX_OCTETS_CNT.key % 1024 ≠ f.key % 1024 ∧ Fld.ETH_FLOW_CNT_PKT.key % 1024 ≠ f.key % 1024 ∧
    Fld.ETH_FLOW_STAT_LOST.key % 1024 ≠ f.key % 1024 ∧ Fld.ETH_FLOW_STAT_PATH_A.key % 1024 ≠ f.key % 1024 ∧
    Fld.ETH_FLOW_STAT_PATH_B.key % 1024 ≠ f.key % 1024 ∧ Fld.FLT_CNT_LOG_OVF_CNT.key % 1024 ≠ f.key % 1024 ∧
    Fld.FLT_LOG_PTR_COUNT.key % 1024 ≠ f.key % 1024 ∧ Fld.FLT_LOG_PTR_HEAD.key % 1024 ≠ f.key % 1024 ∧
    Fld.FLT_PIN_CTL_FAULT_HOLD.key % 1024 ≠ f.key % 1024 ∧ Fld.FLT_SRC_STAT_COUNT.key % 1024 ≠ f.key % 1024 ∧
    Fld.FLT_STAT_HEM_SRC.key % 1024 ≠ f.key % 1024 ∧ Fld.FLT_STAT_PULSE.key % 1024 ≠ f.key % 1024 ∧
    Fld.GNSS_CH_STAT_EXCLUDED.key % 1024 ≠ f.key % 1024 ∧ Fld.GNSS_CH_STAT_PRN.key % 1024 ≠ f.key % 1024 ∧
    Fld.GNSS_CH_STAT_SIG.key % 1024 ≠ f.key % 1024 ∧ Fld.GNSS_CH_STAT_STATE.key % 1024 ≠ f.key % 1024 ∧
    Fld.GNSS_STAT_LOCKED.key % 1024 ≠ f.key % 1024 ∧ Fld.GNSS_STAT_STATE.key % 1024 ≠ f.key % 1024 ∧
    Fld.HCP_CNT_EVT_LOST_CNT.key % 1024 ≠ f.key % 1024 ∧ Fld.IZL_LINK_STAT_TX_IDLE.key % 1024 ≠ f.key % 1024 ∧
    Fld.KILN_STAT_STEP_PENDING.key % 1024 ≠ f.key % 1024 ∧ Fld.MNTL_CTL_HANDOVER.key % 1024 ≠ f.key % 1024 ∧
    Fld.MNTL_STAT_ROLE.key % 1024 ≠ f.key % 1024 ∧ Fld.STCH_HEAD_STAT_RUNNING.key % 1024 ≠ f.key % 1024 ∧
    Fld.WARP_DST_CNT_UNTIMED.key % 1024 ≠ f.key % 1024 ∧ Fld.WARP_DST_STAT_BLACKED.key % 1024 ≠ f.key % 1024 ∧
    Fld.WARP_DST_STAT_SRC_LOST.key % 1024 ≠ f.key % 1024 ∧ Fld.WARP_DST_STAT_TIMED.key % 1024 ≠ f.key % 1024 := by
  simp only [faultFields, Field.off_cons, Field.off_nil, and_true]
@[simp] theorem Field.off_refFields (f : Field) : f.off refFields ↔ Fld.KILN_HO_ELAPSED_SECONDS.key % 1024 ≠ f.key % 1024 ∧
    Fld.KILN_HO_REMAIN_SECONDS.key % 1024 ≠ f.key % 1024 ∧ Fld.KILN_REF_CNT_DISQUAL.key % 1024 ≠ f.key % 1024 ∧
    Fld.KILN_STAT_HO_EXPIRED.key % 1024 ≠ f.key % 1024 ∧ Fld.KILN_STAT_SELECTED.key % 1024 ≠ f.key % 1024 ∧
    Fld.KILN_STAT_STATE.key % 1024 ≠ f.key % 1024 := by
  simp only [refFields, Field.off_cons, Field.off_nil, and_true]
@[simp] theorem Field.off_linkDownFields (f : Field) : f.off linkDownFields ↔ Fld.IZL_CNT_LINK_DOWN_CNT.key % 1024 ≠ f.key %
    1024 ∧ Fld.IZL_LINK_CTL_RETRAIN.key % 1024 ≠ f.key % 1024 ∧ Fld.IZL_LINK_STAT_RX_IDLE.key % 1024 ≠ f.key % 1024 ∧
    Fld.IZL_LINK_STAT_STATE.key % 1024 ≠ f.key % 1024 := by
  simp only [linkDownFields, Field.off_cons, Field.off_nil, and_true]
@[simp] theorem Field.off_cellFields (f : Field) : f.off cellFields ↔ Fld.CELL_CNT_CRC_ERR_CNT.key % 1024 ≠ f.key % 1024 ∧
    Fld.CELL_CNT_HDR_ERR_CNT.key % 1024 ≠ f.key % 1024 ∧ Fld.CELL_CNT_MISDIR_CNT.key % 1024 ≠ f.key % 1024 ∧
    Fld.CELL_CNT_SEQ_ERR_CNT.key % 1024 ≠ f.key % 1024 ∧ Fld.CELL_CNT_SEQ_LOST_CNT.key % 1024 ≠ f.key % 1024 ∧
    Fld.CELL_LINK_INFO_FAR_EPOCH.key % 1024 ≠ f.key % 1024 := by
  simp only [cellFields, Field.off_cons, Field.off_nil, and_true]
@[simp] theorem State.putSess_rd (s : State) (n : Nat) (r : Session) (f : Field) (i : Nat) : (s.putSess n r).rd f i = s.rd f i :=
  State.rd_of_rv rfl f i
@[simp] theorem State.putFollow_rd (s : State) (n : Nat) (r : FollowS) (f : Field) (i : Nat) :
    (s.putFollow n r).rd f i = s.rd f i := State.rd_of_rv rfl f i
@[simp] theorem State.start_rd (s : State) (dt : Nat) (f : Field) (i : Nat) : (s.start dt).rd f i = s.rd f i := State.rd_of_rv rfl f i
@[simp] theorem State.onBoot_rd (s : State) (a1 : BootS → BootS) (f : Field) (i : Nat) :
    (State.onBoot s a1).rd f i = s.rd f i := State.rd_of_rv rfl f i
@[simp] theorem State.onRec_rd (s : State) (a1 : StateRec → StateRec) (f : Field) (i : Nat) :
    (State.onRec s a1).rd f i = s.rd f i := by
  simp [State.onRec]
@[simp] theorem State.setStg_rd (s : State) (a1 : Nat) (a2 : Nat) (f : Field) (i : Nat) (h : f.off ([Fld.BOOT_STG_STAT_CAUSE,
    Fld.BOOT_STG_STAT_STATE])) :
    (State.setStg s a1 a2).rd f i = s.rd f i := by
  simp only [Field.off_faultFields, Field.off_refFields, Field.off_linkDownFields, Field.off_cellFields,
    Field.off_append, Field.off_cons, Field.off_nil, and_true] at h
  simp [State.setStg, h]
@[simp] theorem State.setMem_rd (s : State) (a1 : List Host.Cell) (f : Field) (i : Nat) :
    (State.setMem s a1).rd f i = s.rd f i := State.rd_of_rv rfl f i
@[simp] theorem State.clearBytes_rd (s : State) (a1 : Nat) (a2 : Nat) (f : Field) (i : Nat) :
    (State.clearBytes s a1 a2).rd f i = s.rd f i := by
  simp [State.clearBytes]
@[simp] theorem State.eraseStaging_rd (s : State) (f : Field) (i : Nat) :
    (State.eraseStaging s).rd f i = s.rd f i := by
  simp [State.eraseStaging]
@[simp] theorem State.putEgress_rd (s : State) (a1 : Nat) (a2 : List TxItem) (f : Field) (i : Nat) :
    (State.putEgress s a1 a2).rd f i = s.rd f i := State.rd_of_rv rfl f i
@[simp] theorem State.setOut_rd (s : State) (a1 : List Output) (f : Field) (i : Nat) :
    (State.setOut s a1).rd f i = s.rd f i := State.rd_of_rv rfl f i
@[simp] theorem State.emit_rd (s : State) (a1 : Output) (f : Field) (i : Nat) :
    (State.emit s a1).rd f i = s.rd f i := by
  simp [State.emit]
@[simp] theorem State.txLeave_rd (s : State) (a1 : Nat) (a2 : TxItem) (f : Field) (i : Nat) (h : f.off
    ([Fld.ETH_CNT_TX_FRAMES_CNT, Fld.ETH_CNT_TX_OCTETS_CNT, Fld.ETH_FLOW_CNT_PKT])) :
    (State.txLeave s a1 a2).rd f i = s.rd f i := by
  simp only [Field.off_faultFields, Field.off_refFields, Field.off_linkDownFields, Field.off_cellFields,
    Field.off_append, Field.off_cons, Field.off_nil, and_true] at h
  unfold State.txLeave
  repeat' (first | (simp [h]; done) | split)
@[simp] theorem State.txItem_rd (s : State) (a1 : Nat) (a2 : TxItem) (f : Field) (i : Nat) (h : f.off
    ([Fld.ETH_CNT_TX_DISC_CNT, Fld.ETH_CNT_TX_FRAMES_CNT, Fld.ETH_CNT_TX_OCTETS_CNT, Fld.ETH_FLOW_CNT_PKT])) :
    (State.txItem s a1 a2).rd f i = s.rd f i := by
  simp only [Field.off_faultFields, Field.off_refFields, Field.off_linkDownFields, Field.off_cellFields,
    Field.off_append, Field.off_cons, Field.off_nil, and_true] at h
  simp [State.txItem, h]
@[simp] theorem State.txFrame_rd (s : State) (a1 : Nat) (a2 : Nat) (a3 : Output) (a4 : optParam TxMark TxMark.none) (f :
    Field) (i : Nat) (h : f.off ([Fld.ETH_CNT_TX_DISC_CNT, Fld.ETH_CNT_TX_FRAMES_CNT, Fld.ETH_CNT_TX_OCTETS_CNT,
    Fld.ETH_FLOW_CNT_PKT])) :
    (State.txFrame s a1 a2 a3 a4).rd f i = s.rd f i := by
  simp only [Field.off_faultFields, Field.off_refFields, Field.off_linkDownFields, Field.off_cellFields,
    Field.off_append, Field.off_cons, Field.off_nil, and_true] at h
  simp [State.txFrame, h]
@[simp] theorem State.flush_rd (s : State) (a1 : Nat) (f : Field) (i : Nat) (h : f.off ([Fld.ETH_CNT_TX_DISC_CNT,
    Fld.ETH_CNT_TX_FRAMES_CNT, Fld.ETH_CNT_TX_OCTETS_CNT, Fld.ETH_FLOW_CNT_PKT])) :
    (State.flush s a1).rd f i = s.rd f i := by
  simp only [Field.off_faultFields, Field.off_refFields, Field.off_linkDownFields, Field.off_cellFields,
    Field.off_append, Field.off_cons, Field.off_nil, and_true] at h
  unfold State.flush
  dsimp only
  repeat' (first | (simp [h]; done) | (refine (each_rd _ _ _ _ _ ?_).trans ?_) | (refine (foldl_rd _ _ _ ?_ _ _).trans ?_) | (refine (foldl_rd_snd _ _ _ ?_ _ _).trans ?_) | (intro _ _) | split | (dsimp only))
@[simp] theorem State.event_rd (s : State) (a1 : Nat) (a2 : Nat) (a3 : Nat) (a4 : List Byte) (f : Field) (i : Nat) (h : f.off
    ([Fld.ETH_CNT_TX_DISC_CNT, Fld.ETH_CNT_TX_FRAMES_CNT, Fld.ETH_CNT_TX_OCTETS_CNT, Fld.ETH_FLOW_CNT_PKT,
    Fld.HCP_CNT_EVT_LOST_CNT])) :
    (State.event s a1 a2 a3 a4).rd f i = s.rd f i := by
  simp only [Field.off_faultFields, Field.off_refFields, Field.off_linkDownFields, Field.off_cellFields,
    Field.off_append, Field.off_cons, Field.off_nil, and_true] at h
  simp [State.event, h]
@[simp] theorem State.imageEvent_rd (s : State) (a1 : Nat) (a2 : Nat) (a3 : Nat) (f : Field) (i : Nat) (h : f.off
    ([Fld.ETH_CNT_TX_DISC_CNT, Fld.ETH_CNT_TX_FRAMES_CNT, Fld.ETH_CNT_TX_OCTETS_CNT, Fld.ETH_FLOW_CNT_PKT,
    Fld.HCP_CNT_EVT_LOST_CNT])) :
    (State.imageEvent s a1 a2 a3).rd f i = s.rd f i := by
  simp only [Field.off_faultFields, Field.off_refFields, Field.off_linkDownFields, Field.off_cellFields,
    Field.off_append, Field.off_cons, Field.off_nil, and_true] at h
  simp [State.imageEvent, h]
@[simp] theorem State.onFlt_rd (s : State) (a1 : FltS → FltS) (f : Field) (i : Nat) :
    (State.onFlt s a1).rd f i = s.rd f i := State.rd_of_rv rfl f i
@[simp] theorem State.flashFails_rd (s : State) (f : Field) (i : Nat) (h : f.off ([Fld.BOOT_STAT_CAUSE,
    Fld.BOOT_STAT_SOURCE])) :
    (State.flashFails s).rd f i = s.rd f i := by
  simp only [Field.off_faultFields, Field.off_refFields, Field.off_linkDownFields, Field.off_cellFields,
    Field.off_append, Field.off_cons, Field.off_nil, and_true] at h
  simp [State.flashFails, h]
@[simp] theorem State.copyBytes_rd (s : State) (a1 : Nat) (a2 : Nat) (a3 : Nat) (f : Field) (i : Nat) :
    (State.copyBytes s a1 a2 a3).rd f i = s.rd f i := by
  simp [State.copyBytes]
@[simp] theorem State.toStage_rd (s : State) (a1 : Nat) (f : Field) (i : Nat) (h : f.off ([Fld.BOOT_STAT_STAGE])) :
    (State.toStage s a1).rd f i = s.rd f i := by
  simp only [Field.off_faultFields, Field.off_refFields, Field.off_linkDownFields, Field.off_cellFields,
    Field.off_append, Field.off_cons, Field.off_nil, and_true] at h
  simp [State.toStage, h]
@[simp] theorem State.swapEnd_rd (s : State) (f : Field) (i : Nat) (h : f.off ([Fld.BOOT_STAT_FELL_BACK, Fld.BOOT_STAT_STAGE,
    Fld.BOOT_STAT_SWAPPED, Fld.BOOT_STG_STAT_CAUSE, Fld.BOOT_STG_STAT_HOPS, Fld.BOOT_STG_STAT_RELAYED,
    Fld.BOOT_STG_STAT_STATE, Fld.BOOT_TRIAL_STARTS, Fld.ETH_CNT_TX_DISC_CNT, Fld.ETH_CNT_TX_FRAMES_CNT,
    Fld.ETH_CNT_TX_OCTETS_CNT, Fld.ETH_FLOW_CNT_PKT, Fld.HCP_CNT_EVT_LOST_CNT])) :
    (State.swapEnd s).rd f i = s.rd f i := by
  simp only [Field.off_faultFields, Field.off_refFields, Field.off_linkDownFields, Field.off_cellFields,
    Field.off_append, Field.off_cons, Field.off_nil, and_true] at h
  simp [State.swapEnd, h]
@[simp] theorem State.swapBegin_rd (s : State) (f : Field) (i : Nat) (h : f.off ([Fld.BOOT_STAT_FELL_BACK,
    Fld.BOOT_STAT_STAGE, Fld.BOOT_STAT_SWAPPED, Fld.BOOT_STG_STAT_CAUSE, Fld.BOOT_STG_STAT_HOPS, Fld.BOOT_STG_STAT_RELAYED,
    Fld.BOOT_STG_STAT_STATE, Fld.BOOT_TRIAL_STARTS, Fld.ETH_CNT_TX_DISC_CNT, Fld.ETH_CNT_TX_FRAMES_CNT,
    Fld.ETH_CNT_TX_OCTETS_CNT, Fld.ETH_FLOW_CNT_PKT, Fld.HCP_CNT_EVT_LOST_CNT])) :
    (State.swapBegin s).rd f i = s.rd f i := by
  simp only [Field.off_faultFields, Field.off_refFields, Field.off_linkDownFields, Field.off_cellFields,
    Field.off_append, Field.off_cons, Field.off_nil, and_true] at h
  simp [State.swapBegin, h]
@[simp] theorem State.recLoad_rd (s : State) (f : Field) (i : Nat) (h : f.off ([Fld.BOOT_STG_STAT_STATE,
    Fld.BOOT_TRIAL_STARTS])) :
    (State.recLoad s).rd f i = s.rd f i := by
  simp only [Field.off_faultFields, Field.off_refFields, Field.off_linkDownFields, Field.off_cellFields,
    Field.off_append, Field.off_cons, Field.off_nil, and_true] at h
  simp [State.recLoad, h]
@[simp] theorem State.stage2_rd (s : State) (f : Field) (i : Nat) (h : f.off ([Fld.BOOT_STAT_FELL_BACK, Fld.BOOT_STAT_STAGE,
    Fld.BOOT_STAT_SWAPPED, Fld.BOOT_STG_STAT_CAUSE, Fld.BOOT_STG_STAT_HOPS, Fld.BOOT_STG_STAT_RELAYED,
    Fld.BOOT_STG_STAT_STATE, Fld.BOOT_TRIAL_STARTS, Fld.ETH_CNT_TX_DISC_CNT, Fld.ETH_CNT_TX_FRAMES_CNT,
    Fld.ETH_CNT_TX_OCTETS_CNT, Fld.ETH_FLOW_CNT_PKT, Fld.HCP_CNT_EVT_LOST_CNT])) :
    (State.stage2 s).rd f i = s.rd f i := by
  simp only [Field.off_faultFields, Field.off_refFields, Field.off_linkDownFields, Field.off_cellFields,
    Field.off_append, Field.off_cons, Field.off_nil, and_true] at h
  simp [State.stage2, h]
@[simp] theorem State.onHcp_rd (s : State) (a1 : HcpS → HcpS) (f : Field) (i : Nat) :
    (State.onHcp s a1).rd f i = s.rd f i := State.rd_of_rv rfl f i
@[simp] theorem State.imageKeys_rd (s : State) (a1 : KeyRec) (f : Field) (i : Nat) (h : f.off ([Fld.HCP_SLOT_STAT_EN,
    Fld.HCP_SLOT_STAT_KCV, Fld.HCP_SLOT_STAT_LOADED, Fld.HCP_SLOT_STAT_RIGHTS])) :
    (State.imageKeys s a1).rd f i = s.rd f i := by
  simp only [Field.off_faultFields, Field.off_refFields, Field.off_linkDownFields, Field.off_cellFields,
    Field.off_append, Field.off_cons, Field.off_nil, and_true] at h
  simp [State.imageKeys, h]
@[simp] theorem State.onKiln_rd (s : State) (a1 : KilnS → KilnS) (f : Field) (i : Nat) :
    (State.onKiln s a1).rd f i = s.rd f i := State.rd_of_rv rfl f i
@[simp] theorem State.putTout_rd (s : State) (a1 : Nat) (a2 : ToutS) (f : Field) (i : Nat) :
    (State.putTout s a1 a2).rd f i = s.rd f i := by
  simp [State.putTout]
@[simp] theorem State.imageOutputs_rd (s : State) (a1 : State) (f : Field) (i : Nat) :
    (State.imageOutputs s a1).rd f i = s.rd f i := by
  simp [State.imageOutputs]
@[simp] theorem State.utcSettle_rd (s : State) (f : Field) (i : Nat) (h : f.off ([Fld.KILN_UTC_LEAP59, Fld.KILN_UTC_LEAP61,
    Fld.KILN_UTC_SRC, Fld.KILN_UTC_UTC_OFFSET])) :
    (State.utcSettle s).rd f i = s.rd f i := by
  simp only [Field.off_faultFields, Field.off_refFields, Field.off_linkDownFields, Field.off_cellFields,
    Field.off_append, Field.off_cons, Field.off_nil, and_true] at h
  simp [State.utcSettle, h]
@[simp] theorem State.countFree_rd (s : State) (f : Field) (i : Nat) :
    (State.countFree s).rd f i = s.rd f i := State.rd_of_rv rfl f i
@[simp] theorem State.handle_rd (s : State) (a1 : Nat) (f : Field) (i : Nat) :
    (State.handle s a1).rd f i = s.rd f i := by
  simp [State.handle]
@[simp] theorem State.logFault_rd (s : State) (a1 : LogEntry) (f : Field) (i : Nat) (h : f.off ([Fld.ETH_CNT_TX_DISC_CNT,
    Fld.ETH_CNT_TX_FRAMES_CNT, Fld.ETH_CNT_TX_OCTETS_CNT, Fld.ETH_FLOW_CNT_PKT, Fld.FLT_CNT_LOG_OVF_CNT,
    Fld.FLT_LOG_PTR_COUNT, Fld.FLT_LOG_PTR_HEAD, Fld.HCP_CNT_EVT_LOST_CNT])) :
    (State.logFault s a1).rd f i = s.rd f i := by
  simp only [Field.off_faultFields, Field.off_refFields, Field.off_linkDownFields, Field.off_cellFields,
    Field.off_append, Field.off_cons, Field.off_nil, and_true] at h
  simp [State.logFault, h]
@[simp] theorem State.pulse_rd (s : State) (f : Field) (i : Nat) (h : f.off ([Fld.FLT_PIN_CTL_FAULT_HOLD,
    Fld.FLT_STAT_PULSE])) :
    (State.pulse s).rd f i = s.rd f i := by
  simp only [Field.off_faultFields, Field.off_refFields, Field.off_linkDownFields, Field.off_cellFields,
    Field.off_append, Field.off_cons, Field.off_nil, and_true] at h
  simp [State.pulse, h]
@[simp] theorem State.putFence_rd (s : State) (a1 : UKind) (a2 : Nat) (a3 : Nat) (f : Field) (i : Nat) :
    (State.putFence s a1 a2 a3).rd f i = s.rd f i := by
  simp [State.putFence]
@[simp] theorem State.ownFence_rd (s : State) (a1 : UKind) (a2 : Nat) (a3 : Nat) (f : Field) (i : Nat) :
    (State.ownFence s a1 a2 a3).rd f i = s.rd f i := by
  simp [State.ownFence]
@[simp] theorem State.putDst_rd (s : State) (a1 : Nat) (a2 : DstS) (f : Field) (i : Nat) :
    (State.putDst s a1 a2).rd f i = s.rd f i := State.rd_of_rv rfl f i
@[simp] theorem State.judge_rd (s : State) (a1 : Nat) (f : Field) (i : Nat) (h : f.off ([Fld.CASK_FS_STAT_CAUSE,
    Fld.WARP_DST_CNT_UNTIMED, Fld.WARP_DST_STAT_BLACKED, Fld.WARP_DST_STAT_SRC_LOST, Fld.WARP_DST_STAT_TIMED])) :
    (State.judge s a1).rd f i = s.rd f i := by
  simp only [Field.off_faultFields, Field.off_refFields, Field.off_linkDownFields, Field.off_cellFields,
    Field.off_append, Field.off_cons, Field.off_nil, and_true] at h
  simp [State.judge, h]
@[simp] theorem State.judgeAll_rd (s : State) (a1 : Nat) (f : Field) (i : Nat) (h : f.off ([Fld.CASK_FS_STAT_CAUSE,
    Fld.WARP_DST_CNT_UNTIMED, Fld.WARP_DST_STAT_BLACKED, Fld.WARP_DST_STAT_SRC_LOST, Fld.WARP_DST_STAT_TIMED])) :
    (State.judgeAll s a1).rd f i = s.rd f i := by
  simp only [Field.off_faultFields, Field.off_refFields, Field.off_linkDownFields, Field.off_cellFields,
    Field.off_append, Field.off_cons, Field.off_nil, and_true] at h
  simp [State.judgeAll, h]
@[simp] theorem State.loseSlot_rd (s : State) (a1 : Nat) (f : Field) (i : Nat) (h : f.off ([Fld.CASK_FS_STAT_CAUSE,
    Fld.CELL_SRC_STAT_LOST, Fld.WARP_DST_CNT_UNTIMED, Fld.WARP_DST_STAT_BLACKED, Fld.WARP_DST_STAT_SRC_LOST,
    Fld.WARP_DST_STAT_TIMED])) :
    (State.loseSlot s a1).rd f i = s.rd f i := by
  simp only [Field.off_faultFields, Field.off_refFields, Field.off_linkDownFields, Field.off_cellFields,
    Field.off_append, Field.off_cons, Field.off_nil, and_true] at h
  simp [State.loseSlot, h]
@[simp] theorem State.onEth_rd (s : State) (a1 : EthS → EthS) (f : Field) (i : Nat) :
    (State.onEth s a1).rd f i = s.rd f i := State.rd_of_rv rfl f i
@[simp] theorem State.putFlowRx_rd (s : State) (a1 : Nat) (a2 : FlowRx) (f : Field) (i : Nat) :
    (State.putFlowRx s a1 a2).rd f i = s.rd f i := by
  simp [State.putFlowRx]
@[simp] theorem State.settleFlow_rd (s : State) (a1 : Nat) (f : Field) (i : Nat) (h : f.off ([Fld.CASK_FS_STAT_CAUSE,
    Fld.CELL_SRC_STAT_LOST, Fld.ETH_FLOW_STAT_LOST, Fld.ETH_FLOW_STAT_PATH_A, Fld.ETH_FLOW_STAT_PATH_B,
    Fld.WARP_DST_CNT_UNTIMED, Fld.WARP_DST_STAT_BLACKED, Fld.WARP_DST_STAT_SRC_LOST, Fld.WARP_DST_STAT_TIMED])) :
    (State.settleFlow s a1).rd f i = s.rd f i := by
  simp only [Field.off_faultFields, Field.off_refFields, Field.off_linkDownFields, Field.off_cellFields,
    Field.off_append, Field.off_cons, Field.off_nil, and_true] at h
  simp only [State.settleFlow]
  repeat' (first | (simp [h]; done) | split)
@[simp] theorem State.loseFlow_rd (s : State) (a1 : Nat) (f : Field) (i : Nat) (h : f.off ([Fld.CASK_FS_STAT_CAUSE,
    Fld.CELL_SRC_STAT_LOST, Fld.ETH_FLOW_STAT_LOST, Fld.ETH_FLOW_STAT_PATH_A, Fld.ETH_FLOW_STAT_PATH_B,
    Fld.WARP_DST_CNT_UNTIMED, Fld.WARP_DST_STAT_BLACKED, Fld.WARP_DST_STAT_SRC_LOST, Fld.WARP_DST_STAT_TIMED])) :
    (State.loseFlow s a1).rd f i = s.rd f i := by
  simp only [Field.off_faultFields, Field.off_refFields, Field.off_linkDownFields, Field.off_cellFields,
    Field.off_append, Field.off_cons, Field.off_nil, and_true] at h
  simp [State.loseFlow, h]
@[simp] theorem State.onGnss_rd (s : State) (a1 : GnssS → GnssS) (f : Field) (i : Nat) :
    (State.onGnss s a1).rd f i = s.rd f i := State.rd_of_rv rfl f i
@[simp] theorem State.cohSettle_rd (s : State) (f : Field) (i : Nat) :
    (State.cohSettle s).rd f i = s.rd f i := by
  simp [State.cohSettle]
@[simp] theorem State.gnssSettle_rd (s : State) (f : Field) (i : Nat) (h : f.off ([Fld.GNSS_STAT_LOCKED,
    Fld.GNSS_STAT_STATE])) :
    (State.gnssSettle s).rd f i = s.rd f i := by
  simp only [Field.off_faultFields, Field.off_refFields, Field.off_linkDownFields, Field.off_cellFields,
    Field.off_append, Field.off_cons, Field.off_nil, and_true] at h
  simp [State.gnssSettle, h]
@[simp] theorem State.setCh_rd (s : State) (a1 : Nat) (a2 : Nat) (f : Field) (i : Nat) (h : f.off ([Fld.GNSS_CH_STAT_EXCLUDED,
    Fld.GNSS_CH_STAT_PRN, Fld.GNSS_CH_STAT_SIG, Fld.GNSS_CH_STAT_STATE])) :
    (State.setCh s a1 a2).rd f i = s.rd f i := by
  simp only [Field.off_faultFields, Field.off_refFields, Field.off_linkDownFields, Field.off_cellFields,
    Field.off_append, Field.off_cons, Field.off_nil, and_true] at h
  simp [State.setCh, h]
@[simp] theorem State.putHop_rd (s : State) (a1 : Nat) (a2 : HopCh) (f : Field) (i : Nat) :
    (State.putHop s a1 a2).rd f i = s.rd f i := State.rd_of_rv rfl f i
@[simp] theorem State.hopStop_rd (s : State) (a1 : Nat) (a2 : Nat) (f : Field) (i : Nat) :
    (State.hopStop s a1 a2).rd f i = s.rd f i := by
  simp [State.hopStop]
@[simp] theorem State.onMntl_rd (s : State) (a1 : MntlS → MntlS) (f : Field) (i : Nat) :
    (State.onMntl s a1).rd f i = s.rd f i := State.rd_of_rv rfl f i
@[simp] theorem State.sick_rd (s : State) (f : Field) (i : Nat) :
    (State.sick s).rd f i = s.rd f i := by
  simp [State.sick]
@[simp] theorem State.saveModel_rd (s : State) (f : Field) (i : Nat) :
    (State.saveModel s).rd f i = s.rd f i := by
  simp [State.saveModel]
@[simp] theorem State.saveCellar_rd (s : State) (f : Field) (i : Nat) :
    (State.saveCellar s).rd f i = s.rd f i := by
  simp [State.saveCellar]
@[simp] theorem State.setMode_rd (s : State) (a1 : Mode) (f : Field) (i : Nat) (h : f.off ([Fld.CTRL_DEV_STATE_MODE,
    Fld.KILN_STAT_STEP_PENDING])) :
    (State.setMode s a1).rd f i = s.rd f i := by
  simp only [Field.off_faultFields, Field.off_refFields, Field.off_linkDownFields, Field.off_cellFields,
    Field.off_append, Field.off_cons, Field.off_nil, and_true] at h
  simp [State.setMode, h]
@[simp] theorem State.settleMode_rd (s : State) (f : Field) (i : Nat) (h : f.off ([Fld.CTRL_DEV_STATE_MODE,
    Fld.KILN_STAT_STEP_PENDING])) :
    (State.settleMode s).rd f i = s.rd f i := by
  simp only [Field.off_faultFields, Field.off_refFields, Field.off_linkDownFields, Field.off_cellFields,
    Field.off_append, Field.off_cons, Field.off_nil, and_true] at h
  unfold State.settleMode
  repeat' (first | (simp [h]; done) | split)
@[simp] theorem State.fence_rd (s : State) (a1 : UKind) (a2 : Nat) (f : Field) (i : Nat) (h : f.off ([Fld.CASK_FS_STAT_CAUSE,
    Fld.CELL_SRC_STAT_LOST, Fld.CTRL_DEV_STATE_MODE, Fld.ETH_FLOW_STAT_LOST, Fld.ETH_FLOW_STAT_PATH_A,
    Fld.ETH_FLOW_STAT_PATH_B, Fld.GNSS_CH_STAT_EXCLUDED, Fld.GNSS_CH_STAT_PRN, Fld.GNSS_CH_STAT_SIG, Fld.GNSS_CH_STAT_STATE,
    Fld.GNSS_STAT_LOCKED, Fld.GNSS_STAT_STATE, Fld.KILN_STAT_STEP_PENDING, Fld.STCH_HEAD_STAT_RUNNING,
    Fld.WARP_DST_CNT_UNTIMED, Fld.WARP_DST_STAT_BLACKED, Fld.WARP_DST_STAT_SRC_LOST, Fld.WARP_DST_STAT_TIMED])) :
    (State.fence s a1 a2).rd f i = s.rd f i := by
  simp only [Field.off_faultFields, Field.off_refFields, Field.off_linkDownFields, Field.off_cellFields,
    Field.off_append, Field.off_cons, Field.off_nil, and_true] at h
  unfold State.fence
  repeat' (first | (simp [h]; done) | split)
@[simp] theorem State.hemHold_rd (s : State) (f : Field) (i : Nat) :
    (State.hemHold s).rd f i = s.rd f i := by
  simp [State.hemHold]
@[simp] theorem State.putCs_rd (s : State) (a1 : Nat) (a2 : ChangeSet) (f : Field) (i : Nat) :
    (State.putCs s a1 a2).rd f i = s.rd f i := State.rd_of_rv rfl f i
@[simp] theorem State.csGo_rd (s : State) (a1 : Nat) (a2 : ChangeSet) (a3 : Nat) (f : Field) (i : Nat) (h : f.off
    ([Fld.ETH_CNT_TX_DISC_CNT, Fld.ETH_CNT_TX_FRAMES_CNT, Fld.ETH_CNT_TX_OCTETS_CNT, Fld.ETH_FLOW_CNT_PKT,
    Fld.HCP_CNT_EVT_LOST_CNT])) :
    (State.csGo s a1 a2 a3).rd f i = s.rd f i := by
  simp only [Field.off_faultFields, Field.off_refFields, Field.off_linkDownFields, Field.off_cellFields,
    Field.off_append, Field.off_cons, Field.off_nil, and_true] at h
  simp [State.csGo, h]
@[simp] theorem State.csCancel_rd (s : State) (a1 : Nat) (f : Field) (i : Nat) (h : f.off ([Fld.ETH_CNT_TX_DISC_CNT,
    Fld.ETH_CNT_TX_FRAMES_CNT, Fld.ETH_CNT_TX_OCTETS_CNT, Fld.ETH_FLOW_CNT_PKT, Fld.HCP_CNT_EVT_LOST_CNT])) :
    (State.csCancel s a1).rd f i = s.rd f i := by
  simp only [Field.off_faultFields, Field.off_refFields, Field.off_linkDownFields, Field.off_cellFields,
    Field.off_append, Field.off_cons, Field.off_nil, and_true] at h
  simp [State.csCancel, h]
@[simp] theorem State.hemCancel_rd (s : State) (f : Field) (i : Nat) (h : f.off ([Fld.ETH_CNT_TX_DISC_CNT,
    Fld.ETH_CNT_TX_FRAMES_CNT, Fld.ETH_CNT_TX_OCTETS_CNT, Fld.ETH_FLOW_CNT_PKT, Fld.HCP_CNT_EVT_LOST_CNT])) :
    (State.hemCancel s).rd f i = s.rd f i := by
  simp only [Field.off_faultFields, Field.off_refFields, Field.off_linkDownFields, Field.off_cellFields,
    Field.off_append, Field.off_cons, Field.off_nil, and_true] at h
  simp [State.hemCancel, h]
@[simp] theorem State.setRole_rd (s : State) (a1 : Role) (f : Field) (i : Nat) (h : f.off ([Fld.MNTL_STAT_ROLE])) :
    (State.setRole s a1).rd f i = s.rd f i := by
  simp only [Field.off_faultFields, Field.off_refFields, Field.off_linkDownFields, Field.off_cellFields,
    Field.off_append, Field.off_cons, Field.off_nil, and_true] at h
  simp [State.setRole, h]
@[simp] theorem State.putTxb_rd (s : State) (a1 : Nat) (a2 : TxS) (f : Field) (i : Nat) :
    (State.putTxb s a1 a2).rd f i = s.rd f i := State.rd_of_rv rfl f i
@[simp] theorem State.txWake_rd (s : State) (a1 : Nat) (f : Field) (i : Nat) (h : f.off ([Fld.IZL_LINK_STAT_TX_IDLE])) :
    (State.txWake s a1).rd f i = s.rd f i := by
  simp only [Field.off_faultFields, Field.off_refFields, Field.off_linkDownFields, Field.off_cellFields,
    Field.off_append, Field.off_cons, Field.off_nil, and_true] at h
  simp [State.txWake, h]
@[simp] theorem State.putTx_rd (s : State) (a1 : Nat) (a2 : Nat) (a3 : LaneTx) (f : Field) (i : Nat) :
    (State.putTx s a1 a2 a3).rd f i = s.rd f i := by
  simp [State.putTx]
@[simp] theorem State.laneSend_rd (s : State) (a1 : Nat) (a2 : Nat) (a3 : List Byte) (f : Field) (i : Nat) :
    (State.laneSend s a1 a2 a3).rd f i = s.rd f i := by
  simp [State.laneSend]
@[simp] theorem State.sendWord_rd (s : State) (a1 : Nat) (a2 : Nat) (a3 : List Byte) (f : Field) (i : Nat) :
    (State.sendWord s a1 a2 a3).rd f i = s.rd f i := by
  simp [State.sendWord]
@[simp] theorem State.dataWord_rd (s : State) (a1 : Nat) (a2 : Nat) (a3 : List Byte) (f : Field) (i : Nat) :
    (State.dataWord s a1 a2 a3).rd f i = s.rd f i := by
  simp [State.dataWord]
@[simp] theorem State.drainLane_rd (s : State) (a1 : Nat) (a2 : Nat) (a3 : Nat) (f : Field) (i : Nat) :
    (State.drainLane s a1 a2 a3).rd f i = s.rd f i := by
  induction a3 generalizing s with
  | zero => rfl
  | succ n ih =>
    simp only [State.drainLane]
    split <;> simp [ih]
@[simp] theorem State.rawCell_rd (s : State) (a1 : Nat) (a2 : Nat) (a3 : List Byte) (f : Field) (i : Nat) :
    (State.rawCell s a1 a2 a3).rd f i = s.rd f i := by
  simp [State.rawCell]
@[simp] theorem State.sendBytes_rd (s : State) (a1 : Nat) (a2 : Nat) (a3 : List Byte) (f : Field) (i : Nat) (h : f.off
    ([Fld.IZL_LINK_STAT_TX_IDLE])) :
    (State.sendBytes s a1 a2 a3).rd f i = s.rd f i := by
  simp only [Field.off_faultFields, Field.off_refFields, Field.off_linkDownFields, Field.off_cellFields,
    Field.off_append, Field.off_cons, Field.off_nil, and_true] at h
  simp [State.sendBytes, h]
@[simp] theorem State.sendHdr_rd (s : State) (a1 : Nat) (a2 : Nat) (a3 : Hdr) (a4 : List Byte) (f : Field) (i : Nat) (h :
    f.off ([Fld.IZL_LINK_STAT_TX_IDLE])) :
    (State.sendHdr s a1 a2 a3 a4).rd f i = s.rd f i := by
  simp only [Field.off_faultFields, Field.off_refFields, Field.off_linkDownFields, Field.off_cellFields,
    Field.off_append, Field.off_cons, Field.off_nil, and_true] at h
  simp [State.sendHdr, h]
@[simp] theorem State.sendCell_rd (s : State) (a1 : Nat) (a2 : Nat) (a3 : Nat) (a4 : Nat) (a5 : List Byte) (f : Field) (i :
    Nat) (h : f.off ([Fld.IZL_LINK_STAT_TX_IDLE])) :
    (State.sendCell s a1 a2 a3 a4 a5).rd f i = s.rd f i := by
  simp only [Field.off_faultFields, Field.off_refFields, Field.off_linkDownFields, Field.off_cellFields,
    Field.off_append, Field.off_cons, Field.off_nil, and_true] at h
  simp [State.sendCell, h]
@[simp] theorem State.sideCell_rd (s : State) (a1 : Nat) (a2 : Bool) (a3 : List Byte) (f : Field) (i : Nat) (h : f.off
    ([Fld.IZL_LINK_STAT_TX_IDLE])) :
    (State.sideCell s a1 a2 a3).rd f i = s.rd f i := by
  simp only [Field.off_faultFields, Field.off_refFields, Field.off_linkDownFields, Field.off_cellFields,
    Field.off_append, Field.off_cons, Field.off_nil, and_true] at h
  simp [State.sideCell, h]
@[simp] theorem State.sideFrags_rd (s : State) (a1 : Nat) (a2 : Nat) (a3 : Nat) (a4 : Nat) (a5 : Nat) (a6 : List Byte) (f :
    Field) (i : Nat) (h : f.off ([Fld.IZL_LINK_STAT_TX_IDLE])) :
    (State.sideFrags s a1 a2 a3 a4 a5 a6).rd f i = s.rd f i := by
  simp only [Field.off_faultFields, Field.off_refFields, Field.off_linkDownFields, Field.off_cellFields,
    Field.off_append, Field.off_cons, Field.off_nil, and_true] at h
  induction a4 generalizing s a5 a6 with
  | zero => rfl
  | succ n ih =>
    simp only [State.sideFrags]
    split <;> simp [h, ih]
@[simp] theorem State.sideSend_rd (s : State) (a1 : Nat) (a2 : Nat) (a3 : List Byte) (f : Field) (i : Nat) (h : f.off
    ([Fld.IZL_LINK_STAT_TX_IDLE])) :
    (State.sideSend s a1 a2 a3).rd f i = s.rd f i := by
  simp only [Field.off_faultFields, Field.off_refFields, Field.off_linkDownFields, Field.off_cellFields,
    Field.off_append, Field.off_cons, Field.off_nil, and_true] at h
  simp [State.sideSend, h]
@[simp] theorem State.mantle_rd (s : State) (a1 : MantleMsg) (f : Field) (i : Nat) (h : f.off ([Fld.IZL_LINK_STAT_TX_IDLE])) :
    (State.mantle s a1).rd f i = s.rd f i := by
  simp only [Field.off_faultFields, Field.off_refFields, Field.off_linkDownFields, Field.off_cellFields,
    Field.off_append, Field.off_cons, Field.off_nil, and_true] at h
  simp [State.mantle, h]
@[simp] theorem State.clearHolder_rd (s : State) (f : Field) (i : Nat) :
    (State.clearHolder s).rd f i = s.rd f i := by
  simp [State.clearHolder]
@[simp] theorem State.giveUp_rd (s : State) (f : Field) (i : Nat) (h : f.off ([Fld.IZL_LINK_STAT_TX_IDLE,
    Fld.MNTL_CTL_HANDOVER, Fld.MNTL_STAT_ROLE])) :
    (State.giveUp s).rd f i = s.rd f i := by
  simp only [Field.off_faultFields, Field.off_refFields, Field.off_linkDownFields, Field.off_cellFields,
    Field.off_append, Field.off_cons, Field.off_nil, and_true] at h
  unfold State.giveUp
  repeat' (first | (simp [h]; done) | split)
@[simp] theorem State.trialHem_rd (s : State) (f : Field) (i : Nat) :
    (State.trialHem s).rd f i = s.rd f i := by
  simp [State.trialHem]
@[simp] theorem State.enterHem_rd (s : State) (a1 : Nat) (f : Field) (i : Nat) (h : f.off ([Fld.CTRL_DEV_STATE_MODE,
    Fld.ETH_CNT_TX_DISC_CNT, Fld.ETH_CNT_TX_FRAMES_CNT, Fld.ETH_CNT_TX_OCTETS_CNT, Fld.ETH_FLOW_CNT_PKT, Fld.FLT_STAT_HEM_SRC,
    Fld.HCP_CNT_EVT_LOST_CNT, Fld.IZL_LINK_STAT_TX_IDLE, Fld.KILN_STAT_STEP_PENDING, Fld.MNTL_CTL_HANDOVER,
    Fld.MNTL_STAT_ROLE])) :
    (State.enterHem s a1).rd f i = s.rd f i := by
  simp only [Field.off_faultFields, Field.off_refFields, Field.off_linkDownFields, Field.off_cellFields,
    Field.off_append, Field.off_cons, Field.off_nil, and_true] at h
  simp [State.enterHem, h]
@[simp] theorem State.react_rd (s : State) (a1 : Nat) (a2 : UKind) (a3 : Nat) (a4 : Nat) (f : Field) (i : Nat) (h : f.off
    ([Fld.CASK_FS_STAT_CAUSE, Fld.CELL_SRC_STAT_LOST, Fld.CTRL_DEV_STATE_MODE, Fld.ETH_CNT_TX_DISC_CNT,
    Fld.ETH_CNT_TX_FRAMES_CNT, Fld.ETH_CNT_TX_OCTETS_CNT, Fld.ETH_FLOW_CNT_PKT, Fld.ETH_FLOW_STAT_LOST,
    Fld.ETH_FLOW_STAT_PATH_A, Fld.ETH_FLOW_STAT_PATH_B, Fld.FLT_PIN_CTL_FAULT_HOLD, Fld.FLT_STAT_HEM_SRC, Fld.FLT_STAT_PULSE,
    Fld.GNSS_CH_STAT_EXCLUDED, Fld.GNSS_CH_STAT_PRN, Fld.GNSS_CH_STAT_SIG, Fld.GNSS_CH_STAT_STATE, Fld.GNSS_STAT_LOCKED,
    Fld.GNSS_STAT_STATE, Fld.HCP_CNT_EVT_LOST_CNT, Fld.IZL_LINK_STAT_TX_IDLE, Fld.KILN_STAT_STEP_PENDING,
    Fld.MNTL_CTL_HANDOVER, Fld.MNTL_STAT_ROLE, Fld.STCH_HEAD_STAT_RUNNING, Fld.WARP_DST_CNT_UNTIMED,
    Fld.WARP_DST_STAT_BLACKED, Fld.WARP_DST_STAT_SRC_LOST, Fld.WARP_DST_STAT_TIMED])) :
    (State.react s a1 a2 a3 a4).rd f i = s.rd f i := by
  simp only [Field.off_faultFields, Field.off_refFields, Field.off_linkDownFields, Field.off_cellFields,
    Field.off_append, Field.off_cons, Field.off_nil, and_true] at h
  simp [State.react, h]
@[simp] theorem State.raiseOne_rd (s : State) (a1 : Nat) (a2 : Nat) (a3 : Nat) (f : Field) (i : Nat) (h : f.off (faultFields))
    :
    (State.raiseOne s a1 a2 a3).rd f i = s.rd f i := by
  simp only [Field.off_faultFields, Field.off_refFields, Field.off_linkDownFields, Field.off_cellFields,
    Field.off_append, Field.off_cons, Field.off_nil, and_true] at h
  unfold State.raiseOne
  repeat' (first | (simp [h]; done) | split)
@[simp] theorem State.ledgerCheck_rd (s : State) (a1 : State) (f : Field) (i : Nat) (h : f.off (faultFields)) :
    (State.ledgerCheck s a1).rd f i = s.rd f i := by
  simp only [Field.off_faultFields, Field.off_refFields, Field.off_linkDownFields, Field.off_cellFields,
    Field.off_append, Field.off_cons, Field.off_nil, and_true] at h
  simp [State.ledgerCheck, h]
@[simp] theorem State.raise_rd (s : State) (a1 : Nat) (a2 : Nat) (a3 : Nat) (f : Field) (i : Nat) (h : f.off (faultFields)) :
    (State.raise s a1 a2 a3).rd f i = s.rd f i := by
  simp only [Field.off_faultFields, Field.off_refFields, Field.off_linkDownFields, Field.off_cellFields,
    Field.off_append, Field.off_cons, Field.off_nil, and_true] at h
  simp [State.raise, h]
@[simp] theorem State.kilnEvent_rd (s : State) (a1 : Nat) (a2 : Nat) (f : Field) (i : Nat) (h : f.off
    ([Fld.ETH_CNT_TX_DISC_CNT, Fld.ETH_CNT_TX_FRAMES_CNT, Fld.ETH_CNT_TX_OCTETS_CNT, Fld.ETH_FLOW_CNT_PKT,
    Fld.HCP_CNT_EVT_LOST_CNT])) :
    (State.kilnEvent s a1 a2).rd f i = s.rd f i := by
  simp only [Field.off_faultFields, Field.off_refFields, Field.off_linkDownFields, Field.off_cellFields,
    Field.off_append, Field.off_cons, Field.off_nil, and_true] at h
  simp [State.kilnEvent, h]
@[simp] theorem State.lower_rd (s : State) (a1 : Nat) (a2 : Nat) (f : Field) (i : Nat) :
    (State.lower s a1 a2).rd f i = s.rd f i := by
  simp [State.lower]
@[simp] theorem State.hoCheck_rd (s : State) (f : Field) (i : Nat) (h : f.off (faultFields ++ [Fld.KILN_STAT_HO_EXPIRED])) :
    (State.hoCheck s).rd f i = s.rd f i := by
  simp only [Field.off_faultFields, Field.off_refFields, Field.off_linkDownFields, Field.off_cellFields,
    Field.off_append, Field.off_cons, Field.off_nil, and_true] at h
  simp [State.hoCheck, h]
@[simp] theorem State.holdFrom_rd (s : State) (a1 : Option Nat) (f : Field) (i : Nat) :
    (State.holdFrom s a1).rd f i = s.rd f i := by
  simp [State.holdFrom]
@[simp] theorem State.kilnSwitch_rd (s : State) (a1 : Nat) (f : Field) (i : Nat) (h : f.off (faultFields ++
    [Fld.KILN_HO_ELAPSED_SECONDS, Fld.KILN_HO_REMAIN_SECONDS, Fld.KILN_STAT_HO_EXPIRED, Fld.KILN_STAT_SELECTED,
    Fld.KILN_STAT_STATE])) :
    (State.kilnSwitch s a1).rd f i = s.rd f i := by
  simp only [Field.off_faultFields, Field.off_refFields, Field.off_linkDownFields, Field.off_cellFields,
    Field.off_append, Field.off_cons, Field.off_nil, and_true] at h
  simp [State.kilnSwitch, h]
@[simp] theorem State.refSelect_rd (s : State) (a1 : Bool) (f : Field) (i : Nat) (h : f.off (faultFields ++
    [Fld.KILN_HO_ELAPSED_SECONDS, Fld.KILN_HO_REMAIN_SECONDS, Fld.KILN_STAT_HO_EXPIRED, Fld.KILN_STAT_SELECTED,
    Fld.KILN_STAT_STATE])) :
    (State.refSelect s a1).rd f i = s.rd f i := by
  simp only [Field.off_faultFields, Field.off_refFields, Field.off_linkDownFields, Field.off_cellFields,
    Field.off_append, Field.off_cons, Field.off_nil, and_true] at h
  simp [State.refSelect, h]
@[simp] theorem State.putRef_rd (s : State) (a1 : Nat) (a2 : RefS) (f : Field) (i : Nat) :
    (State.putRef s a1 a2).rd f i = s.rd f i := by
  simp [State.putRef]
@[simp] theorem refFollow_rd (p : Bool × State) (n : Nat) (f : Field) (i : Nat) (h : f.off (faultFields ++
    [Fld.KILN_REF_CNT_DISQUAL])) :
    (refFollow p n).2.rd f i = p.2.rd f i := by
  simp only [Field.off_faultFields, Field.off_refFields, Field.off_linkDownFields, Field.off_cellFields,
    Field.off_append, Field.off_cons, Field.off_nil, and_true] at h
  simp only [refFollow]
  split
  · split <;> simp [h]
  · split <;> simp [h]
@[simp] theorem State.refSettle_rd (s : State) (f : Field) (i : Nat) (h : f.off (faultFields ++ refFields)) :
    (State.refSettle s).rd f i = s.rd f i := by
  simp only [Field.off_faultFields, Field.off_refFields, Field.off_linkDownFields, Field.off_cellFields,
    Field.off_append, Field.off_cons, Field.off_nil, and_true] at h
  simp only [State.refSettle]
  split
  · rfl
  have q := foldl_keep (fun p : Bool × State => p.2.rd f i) refFollow (fun p a => refFollow_rd p a f i (by simp [h])) (List.range 44) (false, s)
  split
  · rw [State.refSelect_rd _ _ f i (by simp [h])]; exact q
  · exact q
@[simp] theorem State.posMode_rd (s : State) (a1 : Nat) (f : Field) (i : Nat) (h : f.off ([Fld.GNSS_CTL_POS_MODE,
    Fld.GNSS_STAT_SURVEYED])) :
    (State.posMode s a1).rd f i = s.rd f i := by
  simp only [Field.off_faultFields, Field.off_refFields, Field.off_linkDownFields, Field.off_cellFields,
    Field.off_append, Field.off_cons, Field.off_nil, and_true] at h
  simp [State.posMode, h]
@[simp] theorem State.gnssStart_rd (s : State) (f : Field) (i : Nat) (h : f.off ([Fld.GNSS_STAT_LOCKED,
    Fld.GNSS_STAT_SOL_VALID, Fld.GNSS_STAT_START, Fld.GNSS_STAT_STATE, Fld.GNSS_STAT_TRUSTED])) :
    (State.gnssStart s).rd f i = s.rd f i := by
  simp only [Field.off_faultFields, Field.off_refFields, Field.off_linkDownFields, Field.off_cellFields,
    Field.off_append, Field.off_cons, Field.off_nil, and_true] at h
  simp [State.gnssStart, h]
@[simp] theorem State.refThere_rd (s : State) (a1 : Nat) (a2 : Bool) (f : Field) (i : Nat) (h : f.off (faultFields ++
    refFields)) :
    (State.refThere s a1 a2).rd f i = s.rd f i := by
  simp only [Field.off_faultFields, Field.off_refFields, Field.off_linkDownFields, Field.off_cellFields,
    Field.off_append, Field.off_cons, Field.off_nil, and_true] at h
  simp [State.refThere, h]
@[simp] theorem State.setStaged_rd (s : State) (a1 : List Staged) (f : Field) (i : Nat) :
    (State.setStaged s a1).rd f i = s.rd f i := State.rd_of_rv rfl f i
@[simp] theorem State.setFollow_rd (s : State) (a1 : Nat) (a2 : Nat) (f : Field) (i : Nat) (h : f.off ([Fld.MASH_ROUTE_INPUT,
    Fld.MASH_ROUTE_SILENT])) :
    (State.setFollow s a1 a2).rd f i = s.rd f i := by
  simp only [Field.off_faultFields, Field.off_refFields, Field.off_linkDownFields, Field.off_cellFields,
    Field.off_append, Field.off_cons, Field.off_nil, and_true] at h
  simp [State.setFollow, h]
@[simp] theorem State.putHead_rd (s : State) (a1 : Nat) (a2 : HeadS) (f : Field) (i : Nat) :
    (State.putHead s a1 a2).rd f i = s.rd f i := State.rd_of_rv rfl f i
@[simp] theorem State.headOn_rd (s : State) (a1 : Nat) (f : Field) (i : Nat) :
    (State.headOn s a1).rd f i = s.rd f i := by
  unfold State.headOn
  repeat' (first | (simp; done) | split)
@[simp] theorem State.putPortState_rd (s : State) (a1 : Nat) (a2 : Nat) (f : Field) (i : Nat) (h : f.off
    ([Fld.APRT_PORT_STAT_STATE])) :
    (State.putPortState s a1 a2).rd f i = s.rd f i := by
  simp only [Field.off_faultFields, Field.off_refFields, Field.off_linkDownFields, Field.off_cellFields,
    Field.off_append, Field.off_cons, Field.off_nil, and_true] at h
  simp [State.putPortState, h]
@[simp] theorem State.putPort_rd (s : State) (a1 : Nat) (a2 : PortS) (f : Field) (i : Nat) :
    (State.putPort s a1 a2).rd f i = s.rd f i := State.rd_of_rv rfl f i
@[simp] theorem State.portPreroll_rd (s : State) (a1 : Nat) (f : Field) (i : Nat) (h : f.off ([Fld.APRT_PORT_STAT_STATE])) :
    (State.portPreroll s a1).rd f i = s.rd f i := by
  simp only [Field.off_faultFields, Field.off_refFields, Field.off_linkDownFields, Field.off_cellFields,
    Field.off_append, Field.off_cons, Field.off_nil, and_true] at h
  simp [State.portPreroll, h]
@[simp] theorem State.portStart_rd (s : State) (a1 : Nat) (f : Field) (i : Nat) (h : f.off ([Fld.APRT_PORT_STAT_STATE])) :
    (State.portStart s a1).rd f i = s.rd f i := by
  simp only [Field.off_faultFields, Field.off_refFields, Field.off_linkDownFields, Field.off_cellFields,
    Field.off_append, Field.off_cons, Field.off_nil, and_true] at h
  unfold State.portStart
  repeat' (first | (simp [h]; done) | split)
@[simp] theorem State.onTsvc_rd (s : State) (a1 : TsvcS → TsvcS) (f : Field) (i : Nat) :
    (State.onTsvc s a1).rd f i = s.rd f i := State.rd_of_rv rfl f i
@[simp] theorem State.putTent_rd (s : State) (a1 : Nat) (a2 : TEntry) (f : Field) (i : Nat) :
    (State.putTent s a1 a2).rd f i = s.rd f i := by
  simp [State.putTent]
@[simp] theorem State.endGrant_rd (s : State) (a1 : Nat) (a2 : Nat) (f : Field) (i : Nat) :
    (State.endGrant s a1 a2).rd f i = s.rd f i := by
  simp [State.endGrant]
@[simp] theorem State.endGrants_rd (s : State) (a1 : Nat) (f : Field) (i : Nat) :
    (State.endGrants s a1).rd f i = s.rd f i := by
  simp [State.endGrants]
@[simp] theorem State.igmpSend_rd (s : State) (a1 : Nat) (a2 : Nat) (a3 : Nat) (a4 : Bool) (f : Field) (i : Nat) (h : f.off
    ([Fld.ETH_CNT_TX_DISC_CNT, Fld.ETH_CNT_TX_FRAMES_CNT, Fld.ETH_CNT_TX_OCTETS_CNT, Fld.ETH_FLOW_CNT_PKT])) :
    (State.igmpSend s a1 a2 a3 a4).rd f i = s.rd f i := by
  simp only [Field.off_faultFields, Field.off_refFields, Field.off_linkDownFields, Field.off_cellFields,
    Field.off_append, Field.off_cons, Field.off_nil, and_true] at h
  simp [State.igmpSend, h]
@[simp] theorem State.clientGo_rd (s : State) (a1 : Nat) (a2 : Nat) (f : Field) (i : Nat) (h : f.off (faultFields ++ refFields
    ++ [Fld.TSVC_PORT_STAT_STATE])) :
    (State.clientGo s a1 a2).rd f i = s.rd f i := by
  simp only [Field.off_faultFields, Field.off_refFields, Field.off_linkDownFields, Field.off_cellFields,
    Field.off_append, Field.off_cons, Field.off_nil, and_true] at h
  simp [State.clientGo, h]
@[simp] theorem State.putTport_rd (s : State) (a1 : Nat) (a2 : TPortS) (f : Field) (i : Nat) :
    (State.putTport s a1 a2).rd f i = s.rd f i := by
  simp [State.putTport]
@[simp] theorem State.putClient_rd (s : State) (a1 : Nat) (a2 : ClientS) (f : Field) (i : Nat) :
    (State.putClient s a1 a2).rd f i = s.rd f i := by
  simp [State.putClient]
@[simp] theorem State.roleWrite_rd (s : State) (a1 : Nat) (a2 : Nat) (f : Field) (i : Nat) (h : f.off (faultFields ++
    refFields ++ [Fld.TSVC_PORT_CFG_ROLE, Fld.TSVC_PORT_STAT_STATE])) :
    (State.roleWrite s a1 a2).rd f i = s.rd f i := by
  simp only [Field.off_faultFields, Field.off_refFields, Field.off_linkDownFields, Field.off_cellFields,
    Field.off_append, Field.off_cons, Field.off_nil, and_true] at h
  simp [State.roleWrite, h]
@[simp] theorem State.imageUnits_rd (s : State) (f : Field) (i : Nat) (h : f.off (faultFields ++ refFields ++
    [Fld.APRT_PORT_STAT_STATE, Fld.MASH_ROUTE_INPUT, Fld.MASH_ROUTE_SILENT, Fld.TSVC_PORT_CFG_ROLE,
    Fld.TSVC_PORT_STAT_STATE])) :
    (State.imageUnits s).rd f i = s.rd f i := by
  simp only [Field.off_faultFields, Field.off_refFields, Field.off_linkDownFields, Field.off_cellFields,
    Field.off_append, Field.off_cons, Field.off_nil, and_true] at h
  simp only [State.imageUnits]
  refine (each_rd _ _ _ f i ?_).trans ((each_rd _ _ _ f i ?_).trans ((each_rd _ _ _ f i ?_).trans
    ((each_rd _ _ _ f i ?_).trans (each_rd _ _ _ f i ?_))))
  · intro s p
    split <;> simp [h]
  all_goals
    intro s p
    simp [h]
@[simp] theorem State.confirmTrial_rd (s : State) (f : Field) (i : Nat) (h : f.off ([Fld.BOOT_MIN_SVN_SVN,
    Fld.CTRL_DEV_STATE_TRIAL, Fld.ETH_CNT_TX_DISC_CNT, Fld.ETH_CNT_TX_FRAMES_CNT, Fld.ETH_CNT_TX_OCTETS_CNT,
    Fld.ETH_FLOW_CNT_PKT, Fld.HCP_CNT_EVT_LOST_CNT])) :
    (State.confirmTrial s).rd f i = s.rd f i := by
  simp only [Field.off_faultFields, Field.off_refFields, Field.off_linkDownFields, Field.off_cellFields,
    Field.off_append, Field.off_cons, Field.off_nil, and_true] at h
  simp [State.confirmTrial, h]
@[simp] theorem State.onCask_rd (s : State) (a1 : CaskS → CaskS) (f : Field) (i : Nat) :
    (State.onCask s a1).rd f i = s.rd f i := State.rd_of_rv rfl f i
@[simp] theorem State.retirePage_rd (s : State) (a1 : Nat) (a2 : Nat) (f : Field) (i : Nat) :
    (State.retirePage s a1 a2).rd f i = s.rd f i := by
  simp [State.retirePage]
@[simp] theorem State.putSrc_rd (s : State) (a1 : Nat) (a2 : SrcS) (f : Field) (i : Nat) :
    (State.putSrc s a1 a2).rd f i = s.rd f i := State.rd_of_rv rfl f i
@[simp] theorem State.onMash_rd (s : State) (a1 : MashS → MashS) (f : Field) (i : Nat) :
    (State.onMash s a1).rd f i = s.rd f i := State.rd_of_rv rfl f i
@[simp] theorem State.sessInvalidate_rd (s : State) (a1 : Nat) (f : Field) (i : Nat) :
    (State.sessInvalidate s a1).rd f i = s.rd f i := by
  simp [State.sessInvalidate]
@[simp] theorem State.ueEffect_rd (s : State) (a1 : UeAt) (f : Field) (i : Nat) (h : f.off ([Fld.ETH_CNT_TX_DISC_CNT,
    Fld.ETH_CNT_TX_FRAMES_CNT, Fld.ETH_CNT_TX_OCTETS_CNT, Fld.ETH_FLOW_CNT_PKT, Fld.HCP_CNT_EVT_LOST_CNT])) :
    (State.ueEffect s a1).rd f i = s.rd f i := by
  simp only [Field.off_faultFields, Field.off_refFields, Field.off_linkDownFields, Field.off_cellFields,
    Field.off_append, Field.off_cons, Field.off_nil, and_true] at h
  unfold State.ueEffect
  repeat' (first | (simp [h]; done) | split)
@[simp] theorem State.onCell_rd (s : State) (a1 : CellS → CellS) (f : Field) (i : Nat) :
    (State.onCell s a1).rd f i = s.rd f i := State.rd_of_rv rfl f i
@[simp] theorem State.putNext_rd (s : State) (a1 : Nat) (a2 : Nat) (f : Field) (i : Nat) :
    (State.putNext s a1 a2).rd f i = s.rd f i := by
  simp [State.putNext]
@[simp] theorem State.dropPart_rd (s : State) (a1 : Nat) (f : Field) (i : Nat) :
    (State.dropPart s a1).rd f i = s.rd f i := by
  simp [State.dropPart]
@[simp] theorem State.checkCell_rd (s : State) (a1 : Nat) (a2 : List Byte) (f : Field) (i : Nat) (h : f.off (faultFields ++
    cellFields)) :
    (State.checkCell s a1 a2).2.rd f i = s.rd f i := by
  simp only [Field.off_faultFields, Field.off_refFields, Field.off_linkDownFields, Field.off_cellFields,
    Field.off_append, Field.off_cons, Field.off_nil, and_true] at h
  simp [State.checkCell, h]
@[simp] theorem State.loopBack_rd (s : State) (a1 : Nat) (a2 : List Byte) (f : Field) (i : Nat) (h : f.off
    ([Fld.IZL_LINK_STAT_TX_IDLE])) :
    (State.loopBack s a1 a2).rd f i = s.rd f i := by
  simp only [Field.off_faultFields, Field.off_refFields, Field.off_linkDownFields, Field.off_cellFields,
    Field.off_append, Field.off_cons, Field.off_nil, and_true] at h
  simp [State.loopBack, h]
@[simp] theorem State.violated_rd (s : State) (a1 : Nat) (a2 : Nat) (f : Field) (i : Nat) (h : f.off
    ([Fld.IZL_CNT_STUFF_VIOL_CNT])) :
    (State.violated s a1 a2).rd f i = s.rd f i := by
  simp only [Field.off_faultFields, Field.off_refFields, Field.off_linkDownFields, Field.off_cellFields,
    Field.off_append, Field.off_cons, Field.off_nil, and_true] at h
  simp [State.violated, h]
@[simp] theorem State.putBnd_rd (s : State) (a1 : Nat) (a2 : BndS) (f : Field) (i : Nat) :
    (State.putBnd s a1 a2).rd f i = s.rd f i := State.rd_of_rv rfl f i
@[simp] theorem State.cellIn_rd (s : State) (a1 : Nat) (a2 : RxCell) (f : Field) (i : Nat) (h : f.off
    ([Fld.IZL_CNT_STUFF_VIOL_CNT])) :
    (State.cellIn s a1 a2).2.rd f i = s.rd f i := by
  simp only [Field.off_faultFields, Field.off_refFields, Field.off_linkDownFields, Field.off_cellFields,
    Field.off_append, Field.off_cons, Field.off_nil, and_true] at h
  unfold State.cellIn
  repeat' (first | (simp [h]; done) | split)
@[simp] theorem State.takeCell_rd (s : State) (a1 : Nat) (a2 : RxCell) (f : Field) (i : Nat) (h : f.off (faultFields ++
    cellFields ++ [Fld.IZL_CNT_STUFF_VIOL_CNT])) :
    (State.takeCell s a1 a2).2.2.rd f i = s.rd f i := by
  simp only [Field.off_faultFields, Field.off_refFields, Field.off_linkDownFields, Field.off_cellFields,
    Field.off_append, Field.off_cons, Field.off_nil, and_true] at h
  simp [State.takeCell, h]
@[simp] theorem State.putLane_rd (s : State) (a1 : Nat) (a2 : LaneS) (f : Field) (i : Nat) :
    (State.putLane s a1 a2).rd f i = s.rd f i := by
  simp [State.putLane]
@[simp] theorem State.putRingOver_rd (s : State) (a1 : Nat) (a2 : Bool) (f : Field) (i : Nat) (h : f.off
    ([Fld.CASK_INT_RING_OVERSIZE, Fld.CASK_RING_OVERSIZE])) :
    (State.putRingOver s a1 a2).rd f i = s.rd f i := by
  simp only [Field.off_faultFields, Field.off_refFields, Field.off_linkDownFields, Field.off_cellFields,
    Field.off_append, Field.off_cons, Field.off_nil, and_true] at h
  simp [State.putRingOver, h]
@[simp] theorem State.beginFrame_rd (s : State) (a1 : Nat) (a2 : Nat) (a3 : Option Nat) (f : Field) (i : Nat) (h : f.off
    (faultFields ++ [Fld.CASK_INT_RING_OVERSIZE, Fld.CASK_RING_OVERSIZE])) :
    (State.beginFrame s a1 a2 a3).rd f i = s.rd f i := by
  simp only [Field.off_faultFields, Field.off_refFields, Field.off_linkDownFields, Field.off_cellFields,
    Field.off_append, Field.off_cons, Field.off_nil, and_true] at h
  simp only [State.beginFrame]
  repeat' (first | (simp [h]; done) | split)
@[simp] theorem State.putRingEff_rd (s : State) (a1 : Nat) (a2 : Nat) (f : Field) (i : Nat) (h : f.off
    ([Fld.CASK_INT_RING_EFF_DEPTH, Fld.CASK_RING_EFF_DEPTH])) :
    (State.putRingEff s a1 a2).rd f i = s.rd f i := by
  simp only [Field.off_faultFields, Field.off_refFields, Field.off_linkDownFields, Field.off_cellFields,
    Field.off_append, Field.off_cons, Field.off_nil, and_true] at h
  simp [State.putRingEff, h]
@[simp] theorem State.startKnown_rd (s : State) (a1 : Nat) (a2 : Nat) (a3 : Bool) (f : Field) (i : Nat) (h : f.off
    ([Fld.CASK_INT_RING_EFF_DEPTH, Fld.CASK_RING_EFF_DEPTH])) :
    (State.startKnown s a1 a2 a3).rd f i = s.rd f i := by
  simp only [Field.off_faultFields, Field.off_refFields, Field.off_linkDownFields, Field.off_cellFields,
    Field.off_append, Field.off_cons, Field.off_nil, and_true] at h
  simp [State.startKnown, h]
@[simp] theorem State.endFrame_rd (s : State) (a1 : Nat) (f : Field) (i : Nat) :
    (State.endFrame s a1).rd f i = s.rd f i := by
  simp only [State.endFrame]
  repeat' (first | (simp; done) | split)
@[simp] theorem State.seeFmt_rd (s : State) (a1 : Nat) (a2 : Nat) (a3 : Nat) (f : Field) (i : Nat) (h : f.off
    ([Fld.CASK_FS_STAT_CAUSE, Fld.CELL_CNT_FMT_CHANGE_CNT, Fld.CELL_SRC_STAT_FMT, Fld.WARP_DST_CNT_UNTIMED,
    Fld.WARP_DST_STAT_BLACKED, Fld.WARP_DST_STAT_SRC_LOST, Fld.WARP_DST_STAT_TIMED])) :
    (State.seeFmt s a1 a2 a3).rd f i = s.rd f i := by
  simp only [Field.off_faultFields, Field.off_refFields, Field.off_linkDownFields, Field.off_cellFields,
    Field.off_append, Field.off_cons, Field.off_nil, and_true] at h
  simp [State.seeFmt, h]
@[simp] theorem State.putTime_rd (s : State) (a1 : Nat) (a2 : Bool) (a3 : Bool) (a4 : Bool) (a5 : Int) (f : Field) (i : Nat)
    (h : f.off ([Fld.WARP_INT_TIME_PHASE, Fld.WARP_INT_TIME_STABLE, Fld.WARP_INT_TIME_VALID, Fld.WARP_INT_TIME_WHOLE_FRAME,
    Fld.WARP_SRC_TIME_PHASE, Fld.WARP_SRC_TIME_STABLE, Fld.WARP_SRC_TIME_VALID, Fld.WARP_SRC_TIME_WHOLE_FRAME])) :
    (State.putTime s a1 a2 a3 a4 a5).rd f i = s.rd f i := by
  simp only [Field.off_faultFields, Field.off_refFields, Field.off_linkDownFields, Field.off_cellFields,
    Field.off_append, Field.off_cons, Field.off_nil, and_true] at h
  simp [State.putTime, h]
@[simp] theorem State.recordPhase_rd (s : State) (a1 : Nat) (a2 : Option Nat) (a3 : Bool) (f : Field) (i : Nat) (h : f.off
    ([Fld.CASK_FS_STAT_CAUSE, Fld.WARP_DST_CNT_UNTIMED, Fld.WARP_DST_STAT_BLACKED, Fld.WARP_DST_STAT_SRC_LOST,
    Fld.WARP_DST_STAT_TIMED, Fld.WARP_INT_TIME_PHASE, Fld.WARP_INT_TIME_STABLE, Fld.WARP_INT_TIME_VALID,
    Fld.WARP_INT_TIME_WHOLE_FRAME, Fld.WARP_SRC_TIME_PHASE, Fld.WARP_SRC_TIME_STABLE, Fld.WARP_SRC_TIME_VALID,
    Fld.WARP_SRC_TIME_WHOLE_FRAME])) :
    (State.recordPhase s a1 a2 a3).rd f i = s.rd f i := by
  simp only [Field.off_faultFields, Field.off_refFields, Field.off_linkDownFields, Field.off_cellFields,
    Field.off_append, Field.off_cons, Field.off_nil, and_true] at h
  unfold State.recordPhase
  repeat' (first | (simp [h]; done) | split)
@[simp] theorem State.essence_rd (s : State) (a1 : Nat) (a2 : Hdr) (a3 : List Byte) (a4 : Bool) (f : Field) (i : Nat) (h :
    f.off (faultFields ++ [Fld.CASK_INT_RING_EFF_DEPTH, Fld.CASK_INT_RING_OVERSIZE, Fld.CASK_RING_EFF_DEPTH,
    Fld.CASK_RING_OVERSIZE, Fld.CELL_CNT_FMT_CHANGE_CNT, Fld.CELL_CNT_OVERRUN_CNT, Fld.CELL_SRC_STAT_FMT,
    Fld.CELL_SRC_STAT_NOSIG, Fld.WARP_INT_TIME_PHASE, Fld.WARP_INT_TIME_STABLE, Fld.WARP_INT_TIME_VALID,
    Fld.WARP_INT_TIME_WHOLE_FRAME, Fld.WARP_SRC_TIME_PHASE, Fld.WARP_SRC_TIME_STABLE, Fld.WARP_SRC_TIME_VALID,
    Fld.WARP_SRC_TIME_WHOLE_FRAME])) :
    (State.essence s a1 a2 a3 a4).rd f i = s.rd f i := by
  simp only [Field.off_faultFields, Field.off_refFields, Field.off_linkDownFields, Field.off_cellFields,
    Field.off_append, Field.off_cons, Field.off_nil, and_true] at h
  simp only [State.essence]
  repeat' (first | (simp [*]; done) | (simp [*]; split) | split)
@[simp] theorem State.timeKind_rd (s : State) (a1 : Nat) (a2 : Hdr) (a3 : List Byte) (f : Field) (i : Nat) (h : f.off
    (faultFields ++ [Fld.CELL_CNT_MISDIR_CNT])) :
    (State.timeKind s a1 a2 a3).2.rd f i = s.rd f i := by
  simp only [Field.off_faultFields, Field.off_refFields, Field.off_linkDownFields, Field.off_cellFields,
    Field.off_append, Field.off_cons, Field.off_nil, and_true] at h
  simp [State.timeKind, h]
@[simp] theorem State.timeCell_rd (s : State) (a1 : Nat) (a2 : Nat) (a3 : RxCell) (a4 : State → Hdr → List Byte → State) (f :
    Field) (i : Nat) (h : f.off (faultFields ++ cellFields ++ [Fld.IZL_CNT_STUFF_VIOL_CNT])) (ha4 : ∀ x0 x1 x2, (a4 x0 x1
    x2).rd f i = x0.rd f i) :
    (State.timeCell s a1 a2 a3 a4).rd f i = s.rd f i := by
  simp only [Field.off_faultFields, Field.off_refFields, Field.off_linkDownFields, Field.off_cellFields,
    Field.off_append, Field.off_cons, Field.off_nil, and_true] at h
  simp only [State.timeCell]
  repeat' (first | (simp [h, ha4]; done) | split)
@[simp] theorem State.echo_rd (s : State) (a1 : Nat) (a2 : List Byte) (f : Field) (i : Nat) (h : f.off
    ([Fld.CELL_LINK_DELAY_DELAY, Fld.CELL_LINK_INFO_VALID])) :
    (State.echo s a1 a2).rd f i = s.rd f i := by
  simp only [Field.off_faultFields, Field.off_refFields, Field.off_linkDownFields, Field.off_cellFields,
    Field.off_append, Field.off_cons, Field.off_nil, and_true] at h
  simp [State.echo, h]
@[simp] theorem State.stamp_rd (s : State) (a1 : Nat) (a2 : Nat) (a3 : List Byte) (f : Field) (i : Nat) (h : f.off
    ([Fld.CASK_FS_STAT_CAUSE, Fld.CASK_INT_RING_EFF_DEPTH, Fld.CASK_RING_EFF_DEPTH, Fld.WARP_DST_CNT_UNTIMED,
    Fld.WARP_DST_STAT_BLACKED, Fld.WARP_DST_STAT_SRC_LOST, Fld.WARP_DST_STAT_TIMED, Fld.WARP_INT_TIME_PHASE,
    Fld.WARP_INT_TIME_STABLE, Fld.WARP_INT_TIME_VALID, Fld.WARP_INT_TIME_WHOLE_FRAME, Fld.WARP_SRC_TIME_PHASE,
    Fld.WARP_SRC_TIME_STABLE, Fld.WARP_SRC_TIME_VALID, Fld.WARP_SRC_TIME_WHOLE_FRAME])) :
    (State.stamp s a1 a2 a3).rd f i = s.rd f i := by
  simp only [Field.off_faultFields, Field.off_refFields, Field.off_linkDownFields, Field.off_cellFields,
    Field.off_append, Field.off_cons, Field.off_nil, and_true] at h
  simp only [State.stamp]
  repeat' (first | (simp [h]; done) | split)
@[simp] theorem State.sideTake_rd (s : State) (a1 : Nat) (a2 : Nat) (a3 : Bool × Bool × Nat × Nat × List Byte) (f : Field) (i
    : Nat) :
    (State.sideTake s a1 a2 a3).2.rd f i = s.rd f i := by
  simp only [State.sideTake]
  repeat' (first | (simp; done) | split)
@[simp] theorem State.sideIn_rd (s : State) (a1 : Nat) (a2 : Nat) (a3 : RxCell) (a4 : State → List Byte → State) (f : Field)
    (i : Nat) (h : f.off (faultFields ++ cellFields ++ [Fld.IZL_CNT_STUFF_VIOL_CNT])) (ha4 : ∀ x0 x1, (a4 x0 x1).rd f i =
    x0.rd f i) :
    (State.sideIn s a1 a2 a3 a4).rd f i = s.rd f i := by
  simp only [Field.off_faultFields, Field.off_refFields, Field.off_linkDownFields, Field.off_cellFields,
    Field.off_append, Field.off_cons, Field.off_nil, and_true] at h
  simp only [State.sideIn]
  repeat' (first | (simp [h, ha4]; done) | split)
@[simp] theorem State.ueSeen_rd (s : State) (f : Field) (i : Nat) :
    (State.ueSeen s).rd f i = s.rd f i := by
  simp [State.ueSeen]
@[simp] theorem State.onEntry_rd (s : State) (a1 : Nat) (a2 : Nat) (a3 : CsEntry → CsEntry) (f : Field) (i : Nat) :
    (State.onEntry s a1 a2 a3).rd f i = s.rd f i := by
  simp [State.onEntry]
@[simp] theorem State.csSettle_rd (s : State) (a1 : Nat) (f : Field) (i : Nat) (h : f.off ([Fld.ETH_CNT_TX_DISC_CNT,
    Fld.ETH_CNT_TX_FRAMES_CNT, Fld.ETH_CNT_TX_OCTETS_CNT, Fld.ETH_FLOW_CNT_PKT, Fld.HCP_CNT_EVT_LOST_CNT])) :
    (State.csSettle s a1).rd f i = s.rd f i := by
  simp only [Field.off_faultFields, Field.off_refFields, Field.off_linkDownFields, Field.off_cellFields,
    Field.off_append, Field.off_cons, Field.off_nil, and_true] at h
  simp [State.csSettle, h]
@[simp] theorem State.markLate_rd (s : State) (a1 : TKind) (a2 : Nat) (a3 : Nat) (a4 : Nat) (f : Field) (i : Nat) :
    (State.markLate s a1 a2 a3 a4).rd f i = s.rd f i := by
  unfold State.markLate
  apply foldl_rd
  intro s c
  split
  · split <;> simp
  · rfl
@[simp] theorem State.finish_rd (s : State) (a1 : Change) (a2 : Nat) (a3 : Nat) (f : Field) (i : Nat) (h : f.off
    ([Fld.ETH_CNT_TX_DISC_CNT, Fld.ETH_CNT_TX_FRAMES_CNT, Fld.ETH_CNT_TX_OCTETS_CNT, Fld.ETH_FLOW_CNT_PKT,
    Fld.HCP_CNT_EVT_LOST_CNT])) :
    (State.finish s a1 a2 a3).rd f i = s.rd f i := by
  simp only [Field.off_faultFields, Field.off_refFields, Field.off_linkDownFields, Field.off_cellFields,
    Field.off_append, Field.off_cons, Field.off_nil, and_true] at h
  unfold State.finish
  repeat' (first | (simp [h]; done) | split)
@[simp] theorem State.setBound_rd (s : State) (a1 : List Nat) (f : Field) (i : Nat) :
    (State.setBound s a1).rd f i = s.rd f i := State.rd_of_rv rfl f i
@[simp] theorem State.bindLayer_rd (s : State) (a1 : Nat) (a2 : List Nat) (f : Field) (i : Nat) :
    (State.bindLayer s a1 a2).rd f i = s.rd f i := by
  simp [State.bindLayer]
@[simp] theorem State.forward_rd (s : State) (a1 : MirOp) (f : Field) (i : Nat) (h : f.off ([Fld.IZL_LINK_STAT_TX_IDLE])) :
    (State.forward s a1).rd f i = s.rd f i := by
  simp only [Field.off_faultFields, Field.off_refFields, Field.off_linkDownFields, Field.off_cellFields,
    Field.off_append, Field.off_cons, Field.off_nil, and_true] at h
  simp [State.forward, h]
@[simp] theorem State.stageSet_rd (s : State) (a1 : Fin 32) (a2 : Bool) (a3 : List StageEntry) (f : Field) (i : Nat) (h :
    f.off ([Fld.IZL_LINK_STAT_TX_IDLE])) :
    (State.stageSet s a1 a2 a3).state.rd f i = s.rd f i := by
  simp only [Field.off_faultFields, Field.off_refFields, Field.off_linkDownFields, Field.off_cellFields,
    Field.off_append, Field.off_cons, Field.off_nil, and_true] at h
  simp only [State.stageSet]
  repeat' (first | (simp [h]; done) | split)
  all_goals
    refine (State.forward_rd (h := ?_) ..).trans ?_
    · simp [h]
    refine (foldl_rd _ _ _ ?_ _ _).trans (by simp [h])
    intro s e
    apply each_rd
    intro s n
    simp [h]
@[simp] theorem State.setOrd_rd (s : State) (a1 : Nat) (f : Field) (i : Nat) :
    (State.setOrd s a1).rd f i = s.rd f i := State.rd_of_rv rfl f i
@[simp] theorem State.armSet_rd (s : State) (a1 : Fin 32) (a2 : Bool) (a3 : Bool) (a4 : Bool) (a5 : Nat) (a6 : Nat) (a7 : Nat)
    (f : Field) (i : Nat) (h : f.off ([Fld.ETH_CNT_TX_DISC_CNT, Fld.ETH_CNT_TX_FRAMES_CNT, Fld.ETH_CNT_TX_OCTETS_CNT,
    Fld.ETH_FLOW_CNT_PKT, Fld.HCP_CNT_EVT_LOST_CNT, Fld.IZL_LINK_STAT_TX_IDLE])) :
    (State.armSet s a1 a2 a3 a4 a5 a6 a7).state.rd f i = s.rd f i := by
  simp only [Field.off_faultFields, Field.off_refFields, Field.off_linkDownFields, Field.off_cellFields,
    Field.off_append, Field.off_cons, Field.off_nil, and_true] at h
  simp only [State.armSet]
  repeat' (first | (simp [h]; done) | split)
@[simp] theorem State.prepareSet_rd (s : State) (a1 : Fin 32) (f : Field) (i : Nat) (h : f.off ([Fld.ETH_CNT_TX_DISC_CNT,
    Fld.ETH_CNT_TX_FRAMES_CNT, Fld.ETH_CNT_TX_OCTETS_CNT, Fld.ETH_FLOW_CNT_PKT, Fld.HCP_CNT_EVT_LOST_CNT,
    Fld.IZL_LINK_STAT_TX_IDLE])) :
    (State.prepareSet s a1).state.rd f i = s.rd f i := by
  simp only [Field.off_faultFields, Field.off_refFields, Field.off_linkDownFields, Field.off_cellFields,
    Field.off_append, Field.off_cons, Field.off_nil, and_true] at h
  simp only [State.prepareSet]
  repeat' (first | (simp [h]; done) | split)
@[simp] theorem State.unlearn_rd (s : State) (a1 : Nat) (a2 : Nat) (f : Field) (i : Nat) :
    (State.unlearn s a1 a2).rd f i = s.rd f i := by
  simp [State.unlearn]
@[simp] theorem State.unlearnSet_rd (s : State) (a1 : Nat) (f : Field) (i : Nat) :
    (State.unlearnSet s a1).rd f i = s.rd f i := by
  simp [State.unlearnSet]
@[simp] theorem State.cancelSet_rd (s : State) (a1 : Fin 32) (f : Field) (i : Nat) (h : f.off ([Fld.ETH_CNT_TX_DISC_CNT,
    Fld.ETH_CNT_TX_FRAMES_CNT, Fld.ETH_CNT_TX_OCTETS_CNT, Fld.ETH_FLOW_CNT_PKT, Fld.HCP_CNT_EVT_LOST_CNT,
    Fld.IZL_LINK_STAT_TX_IDLE])) :
    (State.cancelSet s a1).state.rd f i = s.rd f i := by
  simp only [Field.off_faultFields, Field.off_refFields, Field.off_linkDownFields, Field.off_cellFields,
    Field.off_append, Field.off_cons, Field.off_nil, and_true] at h
  simp only [State.cancelSet]
  repeat' (first | (simp [h]; done) | split)
@[simp] theorem State.learn_rd (s : State) (a1 : Nat) (a2 : Nat) (a3 : Nat) (a4 : Nat) (f : Field) (i : Nat) (h : f.off
    ([Fld.MASH_CNT_XFADE_SHORT_CNT])) :
    (State.learn s a1 a2 a3 a4).rd f i = s.rd f i := by
  simp only [Field.off_faultFields, Field.off_refFields, Field.off_linkDownFields, Field.off_cellFields,
    Field.off_append, Field.off_cons, Field.off_nil, and_true] at h
  simp [State.learn, h]
@[simp] theorem State.followApply_rd (s : State) (a1 : Nat) (a2 : Nat) (a3 : Nat) (a4 : Nat) (f : Field) (i : Nat) (h : f.off
    ([Fld.MASH_CNT_XFADE_SHORT_CNT, Fld.MASH_ROUTE_INPUT, Fld.MASH_ROUTE_SILENT])) :
    (State.followApply s a1 a2 a3 a4).rd f i = s.rd f i := by
  simp only [Field.off_faultFields, Field.off_refFields, Field.off_linkDownFields, Field.off_cellFields,
    Field.off_append, Field.off_cons, Field.off_nil, and_true] at h
  simp [State.followApply, h]
@[simp] theorem State.setRoute_rd (s : State) (a1 : Nat) (a2 : Nat) (a3 : Bool) (a4 : Nat) (a5 : Bool) (a6 : Nat) (a7 : Nat)
    (f : Field) (i : Nat) (h : f.off ([Fld.CASK_FS_STAT_BLACK, Fld.CASK_FS_STAT_CAUSE, Fld.CASK_FS_STAT_FROZEN,
    Fld.MASH_CNT_XFADE_SHORT_CNT, Fld.MASH_ROUTE_INPUT, Fld.MASH_ROUTE_SILENT, Fld.WARP_DST_CNT_LATE, Fld.WARP_DST_CNT_SWITCH,
    Fld.WARP_DST_CNT_UNTIMED, Fld.WARP_DST_ROUTE_DIRECT, Fld.WARP_DST_ROUTE_SET, Fld.WARP_DST_ROUTE_SRC,
    Fld.WARP_DST_STAT_BLACKED, Fld.WARP_DST_STAT_LATE, Fld.WARP_DST_STAT_REFUSED, Fld.WARP_DST_STAT_SRC_LOST,
    Fld.WARP_DST_STAT_TIMED])) :
    (State.setRoute s a1 a2 a3 a4 a5 a6 a7).rd f i = s.rd f i := by
  simp only [Field.off_faultFields, Field.off_refFields, Field.off_linkDownFields, Field.off_cellFields,
    Field.off_append, Field.off_cons, Field.off_nil, and_true] at h
  simp only [State.setRoute]
  repeat' (first | (simp [h]; done) | split)
@[simp] theorem State.learnChange_rd (s : State) (a1 : Nat) (a2 : Change) (f : Field) (i : Nat) (h : f.off
    ([Fld.MASH_CNT_XFADE_SHORT_CNT])) :
    (State.learnChange s a1 a2).rd f i = s.rd f i := by
  simp only [Field.off_faultFields, Field.off_refFields, Field.off_linkDownFields, Field.off_cellFields,
    Field.off_append, Field.off_cons, Field.off_nil, and_true] at h
  unfold State.learnChange
  repeat' (first | (simp [h]; done) | split)
@[simp] theorem State.stageItem_rd (s : State) (a1 : Option Nat) (a2 : CsItem) (f : Field) (i : Nat) :
    (State.stageItem s a1 a2).rd f i = s.rd f i := by
  simp [State.stageItem]
@[simp] theorem State.txStart_rd (s : State) (a1 : Nat) (f : Field) (i : Nat) (h : f.off ([Fld.IZL_LINK_STAT_TX_IDLE])) :
    (State.txStart s a1).rd f i = s.rd f i := by
  simp only [Field.off_faultFields, Field.off_refFields, Field.off_linkDownFields, Field.off_cellFields,
    Field.off_append, Field.off_cons, Field.off_nil, and_true] at h
  simp [State.txStart, h]
@[simp] theorem State.unsync_rd (s : State) (a1 : Nat) (f : Field) (i : Nat) :
    (State.unsync s a1).rd f i = s.rd f i := by
  simp [State.unsync]
@[simp] theorem State.dropSlots_rd (s : State) (a1 : Nat) (f : Field) (i : Nat) (h : f.off ([Fld.CASK_FS_STAT_CAUSE,
    Fld.CELL_SRC_STAT_LOST, Fld.WARP_DST_CNT_UNTIMED, Fld.WARP_DST_STAT_BLACKED, Fld.WARP_DST_STAT_SRC_LOST,
    Fld.WARP_DST_STAT_TIMED])) :
    (State.dropSlots s a1).rd f i = s.rd f i := by
  simp only [Field.off_faultFields, Field.off_refFields, Field.off_linkDownFields, Field.off_cellFields,
    Field.off_append, Field.off_cons, Field.off_nil, and_true] at h
  simp [State.dropSlots, h]
@[simp] theorem State.linkChanged_rd (s : State) (a1 : Nat) (f : Field) (i : Nat) (h : f.off (faultFields ++ refFields)) :
    (State.linkChanged s a1).rd f i = s.rd f i := by
  simp only [Field.off_faultFields, Field.off_refFields, Field.off_linkDownFields, Field.off_cellFields,
    Field.off_append, Field.off_cons, Field.off_nil, and_true] at h
  simp [State.linkChanged, h]
@[simp] theorem State.train_rd (s : State) (a1 : Nat) (f : Field) (i : Nat) (h : f.off (faultFields ++ refFields ++
    [Fld.IZL_LANE_STAT_DESKEW, Fld.IZL_LANE_STAT_FAILED, Fld.IZL_LANE_STAT_LOCK, Fld.IZL_LINK_STAT_LANES_OK,
    Fld.IZL_LINK_STAT_MISWIRE, Fld.IZL_LINK_STAT_RX_IDLE, Fld.IZL_LINK_STAT_RX_OMIT, Fld.IZL_LINK_STAT_STATE,
    Fld.IZL_LINK_STAT_TX_7LANE, Fld.IZL_LINK_STAT_TX_OMIT])) :
    (State.train s a1).rd f i = s.rd f i := by
  simp only [Field.off_faultFields, Field.off_refFields, Field.off_linkDownFields, Field.off_cellFields,
    Field.off_append, Field.off_cons, Field.off_nil, and_true] at h
  simp [State.train, h]
@[simp] theorem State.txEnterIdle_rd (s : State) (a1 : Nat) (a2 : Nat) (f : Field) (i : Nat) (h : f.off
    ([Fld.IZL_LINK_STAT_TX_IDLE])) :
    (State.txEnterIdle s a1 a2).rd f i = s.rd f i := by
  simp only [Field.off_faultFields, Field.off_refFields, Field.off_linkDownFields, Field.off_cellFields,
    Field.off_append, Field.off_cons, Field.off_nil, and_true] at h
  simp [State.txEnterIdle, h]
@[simp] theorem State.laneTest_rd (s : State) (a1 : Nat) (f : Field) (i : Nat) (h : f.off ([Fld.IZL_LINK_STAT_TX_IDLE])) :
    (State.laneTest s a1).rd f i = s.rd f i := by
  simp only [Field.off_faultFields, Field.off_refFields, Field.off_linkDownFields, Field.off_cellFields,
    Field.off_append, Field.off_cons, Field.off_nil, and_true] at h
  simp [State.laneTest, h]
@[simp] theorem State.padIdle_rd (s : State) (a1 : Nat) (f : Field) (i : Nat) :
    (State.padIdle s a1).rd f i = s.rd f i := by
  simp [State.padIdle]
@[simp] theorem State.sideNext_rd (s : State) (a1 : Nat) (f : Field) (i : Nat) (h : f.off ([Fld.IZL_LINK_STAT_TX_IDLE])) :
    (State.sideNext s a1).rd f i = s.rd f i := by
  simp only [Field.off_faultFields, Field.off_refFields, Field.off_linkDownFields, Field.off_cellFields,
    Field.off_append, Field.off_cons, Field.off_nil, and_true] at h
  simp [State.sideNext, h]
@[simp] theorem State.txMarker_rd (s : State) (a1 : Nat) (f : Field) (i : Nat) (h : f.off ([Fld.CTRL_DEV_STATE_MODE,
    Fld.IZL_LINK_STAT_TX_7LANE, Fld.IZL_LINK_STAT_TX_IDLE, Fld.IZL_LINK_STAT_TX_OMIT, Fld.KILN_STAT_STEP_PENDING])) :
    (State.txMarker s a1).rd f i = s.rd f i := by
  simp only [Field.off_faultFields, Field.off_refFields, Field.off_linkDownFields, Field.off_cellFields,
    Field.off_append, Field.off_cons, Field.off_nil, and_true] at h
  simp only [State.txMarker]
  repeat' (first | (simp [h]; done) | split)
@[simp] theorem State.txPowerDown_rd (s : State) (a1 : Nat) (f : Field) (i : Nat) (h : f.off ([Fld.CTRL_DEV_STATE_MODE,
    Fld.IZL_LINK_STAT_TX_7LANE, Fld.IZL_LINK_STAT_TX_IDLE, Fld.IZL_LINK_STAT_TX_OMIT, Fld.KILN_STAT_STEP_PENDING])) :
    (State.txPowerDown s a1).rd f i = s.rd f i := by
  simp only [Field.off_faultFields, Field.off_refFields, Field.off_linkDownFields, Field.off_cellFields,
    Field.off_append, Field.off_cons, Field.off_nil, and_true] at h
  simp [State.txPowerDown, h]
@[simp] theorem State.bundleEnable_rd (s : State) (a1 : Nat) (a2 : Bool) (f : Field) (i : Nat) (h : f.off (faultFields ++
    refFields ++ [Fld.IZL_LANE_STAT_DESKEW, Fld.IZL_LANE_STAT_FAILED, Fld.IZL_LANE_STAT_LOCK, Fld.IZL_LINK_CTL_ENABLE,
    Fld.IZL_LINK_CTL_RETRAIN, Fld.IZL_LINK_STAT_LANES_OK, Fld.IZL_LINK_STAT_MISWIRE, Fld.IZL_LINK_STAT_RX_IDLE,
    Fld.IZL_LINK_STAT_RX_OMIT, Fld.IZL_LINK_STAT_STATE, Fld.IZL_LINK_STAT_TX_7LANE, Fld.IZL_LINK_STAT_TX_OMIT])) :
    (State.bundleEnable s a1 a2).rd f i = s.rd f i := by
  simp only [Field.off_faultFields, Field.off_refFields, Field.off_linkDownFields, Field.off_cellFields,
    Field.off_append, Field.off_cons, Field.off_nil, and_true] at h
  simp [State.bundleEnable, h]
@[simp] theorem State.putRx_rd (s : State) (a1 : Nat) (a2 : Nat) (a3 : LaneRx) (f : Field) (i : Nat) :
    (State.putRx s a1 a2 a3).rd f i = s.rd f i := by
  simp [State.putRx]
@[simp] theorem State.loopMode_rd (s : State) (a1 : Nat) (f : Field) (i : Nat) (h : f.off ([Fld.IZL_PRBS_CTL_CHK_LOCK])) :
    (State.loopMode s a1).rd f i = s.rd f i := by
  simp only [Field.off_faultFields, Field.off_refFields, Field.off_linkDownFields, Field.off_cellFields,
    Field.off_append, Field.off_cons, Field.off_nil, and_true] at h
  simp [State.loopMode, h]
@[simp] theorem State.txStampQueue_rd (s : State) (a1 : Nat) (a2 : Nat × Bool × Nat) (f : Field) (i : Nat) (h : f.off
    (faultFields ++ [Fld.TSVC_CNT_TXTS_LOST_CNT, Fld.TSVC_TXTS_STAT_OVF])) :
    (State.txStampQueue s a1 a2).rd f i = s.rd f i := by
  simp only [Field.off_faultFields, Field.off_refFields, Field.off_linkDownFields, Field.off_cellFields,
    Field.off_append, Field.off_cons, Field.off_nil, and_true] at h
  simp [State.txStampQueue, h]
@[simp] theorem State.unmarked_rd (s : State) (a1 : Nat) (a2 : TxMark) (f : Field) (i : Nat) (h : f.off (faultFields ++
    [Fld.TSVC_CNT_TXTS_LOST_CNT, Fld.TSVC_TXTS_STAT_OVF])) :
    (State.unmarked s a1 a2).rd f i = s.rd f i := by
  simp only [Field.off_faultFields, Field.off_refFields, Field.off_linkDownFields, Field.off_cellFields,
    Field.off_append, Field.off_cons, Field.off_nil, and_true] at h
  unfold State.unmarked
  repeat' (first | (simp [h]; done) | split)
@[simp] theorem State.dropEgress_rd (s : State) (a1 : Nat) (f : Field) (i : Nat) (h : f.off (faultFields ++
    [Fld.TSVC_CNT_TXTS_LOST_CNT, Fld.TSVC_TXTS_STAT_OVF])) :
    (State.dropEgress s a1).rd f i = s.rd f i := by
  simp only [Field.off_faultFields, Field.off_refFields, Field.off_linkDownFields, Field.off_cellFields,
    Field.off_append, Field.off_cons, Field.off_nil, and_true] at h
  simp [State.dropEgress, h]
@[simp] theorem State.putPause_rd (s : State) (a1 : Nat) (a2 : Nat) (a3 : PauseS) (f : Field) (i : Nat) :
    (State.putPause s a1 a2 a3).rd f i = s.rd f i := by
  simp [State.putPause]
@[simp] theorem State.ethStop_rd (s : State) (a1 : Nat) (f : Field) (i : Nat) (h : f.off (faultFields ++ refFields ++
    [Fld.ETH_PORT_STAT_ALIGNED, Fld.ETH_PORT_STAT_HELD, Fld.ETH_PORT_STAT_IGNORE, Fld.ETH_PORT_STAT_LINK_UP,
    Fld.ETH_PORT_STAT_LOCAL_FAULT, Fld.ETH_PORT_STAT_REMOTE_FAULT, Fld.TSVC_CNT_TXTS_LOST_CNT, Fld.TSVC_TXTS_STAT_OVF])) :
    (State.ethStop s a1).rd f i = s.rd f i := by
  simp only [Field.off_faultFields, Field.off_refFields, Field.off_linkDownFields, Field.off_cellFields,
    Field.off_append, Field.off_cons, Field.off_nil, and_true] at h
  simp [State.ethStop, h]
@[simp] theorem State.igmpFlow_rd (s : State) (a1 : Nat) (a2 : Bool) (f : Field) (i : Nat) (h : f.off
    ([Fld.ETH_CNT_TX_DISC_CNT, Fld.ETH_CNT_TX_FRAMES_CNT, Fld.ETH_CNT_TX_OCTETS_CNT, Fld.ETH_FLOW_CNT_PKT])) :
    (State.igmpFlow s a1 a2).rd f i = s.rd f i := by
  simp only [Field.off_faultFields, Field.off_refFields, Field.off_linkDownFields, Field.off_cellFields,
    Field.off_append, Field.off_cons, Field.off_nil, and_true] at h
  simp [State.igmpFlow, h]
@[simp] theorem State.flowEnable_rd (s : State) (a1 : Nat) (a2 : Bool) (f : Field) (i : Nat) (h : f.off
    ([Fld.ETH_CNT_TX_DISC_CNT, Fld.ETH_CNT_TX_FRAMES_CNT, Fld.ETH_CNT_TX_OCTETS_CNT, Fld.ETH_FLOW_CNT_PKT,
    Fld.ETH_FLOW_CTL_EN])) :
    (State.flowEnable s a1 a2).2.rd f i = s.rd f i := by
  simp only [Field.off_faultFields, Field.off_refFields, Field.off_linkDownFields, Field.off_cellFields,
    Field.off_append, Field.off_cons, Field.off_nil, and_true] at h
  simp [State.flowEnable, h]
@[simp] theorem State.headOff0_rd (s : State) (a1 : Nat) (f : Field) (i : Nat) (h : f.off ([Fld.STCH_HEAD_STAT_TRANSITION])) :
    (State.headOff0 s a1).rd f i = s.rd f i := by
  simp only [Field.off_faultFields, Field.off_refFields, Field.off_linkDownFields, Field.off_cellFields,
    Field.off_append, Field.off_cons, Field.off_nil, and_true] at h
  simp [State.headOff0, h]
@[simp] theorem State.putInq_rd (s : State) (a1 : Nat) (a2 : List Int) (f : Field) (i : Nat) :
    (State.putInq s a1 a2).rd f i = s.rd f i := by
  simp [State.putInq]
@[simp] theorem State.portSilent_rd (s : State) (a1 : Nat) (f : Field) (i : Nat) :
    (State.portSilent s a1).rd f i = s.rd f i := by
  simp [State.portSilent]
@[simp] theorem State.refUnseen_rd (s : State) (a1 : Nat) (f : Field) (i : Nat) :
    (State.refUnseen s a1).rd f i = s.rd f i := by
  simp [State.refUnseen]
@[simp] theorem State.setNow_rd (s : State) (a1 : Nat) (f : Field) (i : Nat) :
    (State.setNow s a1).rd f i = s.rd f i := State.rd_of_rv rfl f i
@[simp] theorem State.enterRole_rd (s : State) (a1 : Role) (f : Field) (i : Nat) (h : f.off (faultFields ++ refFields)) :
    (State.enterRole s a1).rd f i = s.rd f i := by
  simp only [Field.off_faultFields, Field.off_refFields, Field.off_linkDownFields, Field.off_cellFields,
    Field.off_append, Field.off_cons, Field.off_nil, and_true] at h
  simp [State.enterRole, h]
@[simp] theorem State.negotiate_rd (s : State) (f : Field) (i : Nat) (h : f.off (faultFields ++ refFields)) :
    (State.negotiate s).rd f i = s.rd f i := by
  simp only [Field.off_faultFields, Field.off_refFields, Field.off_linkDownFields, Field.off_cellFields,
    Field.off_append, Field.off_cons, Field.off_nil, and_true] at h
  simp [State.negotiate, h]
@[simp] theorem State.timeStage_rd (s : State) (f : Field) (i : Nat) (h : f.off (faultFields ++ refFields ++
    [Fld.BOOT_STAT_STAGE])) :
    (State.timeStage s).rd f i = s.rd f i := by
  simp only [Field.off_faultFields, Field.off_refFields, Field.off_linkDownFields, Field.off_cellFields,
    Field.off_append, Field.off_cons, Field.off_nil, and_true] at h
  simp [State.timeStage, h]
@[simp] theorem State.timeStarts_rd (s : State) (a1 : Nat) (a2 : Nat) (a3 : Bool) (f : Field) (i : Nat) (h : f.off
    (faultFields ++ refFields ++ [Fld.BOOT_STAT_STAGE, Fld.KILN_STAT_TIME_VALID, Fld.KILN_STAT_TRACEABLE])) :
    (State.timeStarts s a1 a2 a3).rd f i = s.rd f i := by
  simp only [Field.off_faultFields, Field.off_refFields, Field.off_linkDownFields, Field.off_cellFields,
    Field.off_append, Field.off_cons, Field.off_nil, and_true] at h
  simp [State.timeStarts, h]
@[simp] theorem State.timeSetGo_rd (s : State) (f : Field) (i : Nat) (h : f.off (faultFields ++ refFields ++
    [Fld.BOOT_STAT_STAGE, Fld.KILN_STAT_TIME_VALID, Fld.KILN_STAT_TRACEABLE])) :
    (State.timeSetGo s).2.rd f i = s.rd f i := by
  simp only [Field.off_faultFields, Field.off_refFields, Field.off_linkDownFields, Field.off_cellFields,
    Field.off_append, Field.off_cons, Field.off_nil, and_true] at h
  simp [State.timeSetGo, h]
@[simp] theorem State.selfTest_rd (s : State) (f : Field) (i : Nat) (h : f.off ([Fld.GNSS_CTL_SELFTEST, Fld.GNSS_STAT_LOCKED,
    Fld.GNSS_STAT_STATE])) :
    (State.selfTest s).rd f i = s.rd f i := by
  simp only [Field.off_faultFields, Field.off_refFields, Field.off_linkDownFields, Field.off_cellFields,
    Field.off_append, Field.off_cons, Field.off_nil, and_true] at h
  simp [State.selfTest, h]
@[simp] theorem State.posWritten_rd (s : State) (f : Field) (i : Nat) :
    (State.posWritten s).rd f i = s.rd f i := by
  simp [State.posWritten]
@[simp] theorem State.sessWrite_rd (s : State) (a1 : Bool) (a2 : Bool) (f : Field) (i : Nat) :
    (State.sessWrite s a1 a2).2.rd f i = s.rd f i := by
  simp [State.sessWrite]
@[simp] theorem State.sessRead_rd (s : State) (f : Field) (i : Nat) (h : f.off ([Fld.TSVC_SESS_DATA_DATA])) :
    (State.sessRead s).rd f i = s.rd f i := by
  simp only [Field.off_faultFields, Field.off_refFields, Field.off_linkDownFields, Field.off_cellFields,
    Field.off_append, Field.off_cons, Field.off_nil, and_true] at h
  simp [State.sessRead, h]
@[simp] theorem State.sessCmd_rd (s t : State) (it : CsItem) (f : Field) (i : Nat) (h : f.off ([Fld.TSVC_SESS_DATA_DATA])) (e
    : t.rd f i = s.rd f i) :
    (s.sessCmd t it).2.rd f i = s.rd f i := by
  simp only [Field.off_faultFields, Field.off_refFields, Field.off_linkDownFields, Field.off_cellFields,
    Field.off_append, Field.off_cons, Field.off_nil, and_true] at h
  simp only [State.sessCmd]
  repeat' split
  all_goals simp [h, e]
@[simp] theorem State.putGroup_rd (s : State) (a1 : Nat) (a2 : TKey) (f : Field) (i : Nat) :
    (State.putGroup s a1 a2).rd f i = s.rd f i := by
  simp [State.putGroup]
@[simp] theorem State.keyLoad_rd (s : State) (f : Field) (i : Nat) (h : f.off ([Fld.TSVC_GKEY_ID_ID, Fld.TSVC_GKEY_STAT_KCV,
    Fld.TSVC_GKEY_STAT_LOADED, Fld.TSVC_KEY_STAGE_DATA, Fld.TSVC_NTS_MKEY_ID_ID, Fld.TSVC_NTS_MKEY_STAT_KCV])) :
    (State.keyLoad s).2.rd f i = s.rd f i := by
  simp only [Field.off_faultFields, Field.off_refFields, Field.off_linkDownFields, Field.off_cellFields,
    Field.off_append, Field.off_cons, Field.off_nil, and_true] at h
  simp [State.keyLoad, h]
@[simp] theorem State.ntsMkeyWrite_rd (s : State) (a1 : Nat) (a2 : Bool) (a3 : Bool) (f : Field) (i : Nat) (h : f.off
    ([Fld.TSVC_NTS_MKEY_STAT_EN, Fld.TSVC_NTS_MKEY_STAT_ISSUE])) :
    (State.ntsMkeyWrite s a1 a2 a3).2.rd f i = s.rd f i := by
  simp only [Field.off_faultFields, Field.off_refFields, Field.off_linkDownFields, Field.off_cellFields,
    Field.off_append, Field.off_cons, Field.off_nil, and_true] at h
  simp [State.ntsMkeyWrite, h]
@[simp] theorem State.inject_rd (s : State) (f : Field) (i : Nat) (h : f.off ([Fld.TSVC_INJECT_CTL_GO])) :
    (State.inject s).2.rd f i = s.rd f i := by
  simp only [Field.off_faultFields, Field.off_refFields, Field.off_linkDownFields, Field.off_cellFields,
    Field.off_append, Field.off_cons, Field.off_nil, and_true] at h
  simp [State.inject, h]
@[simp] theorem State.takeEpoch_rd (s : State) (a1 : Nat) (f : Field) (i : Nat) (h : f.off ([Fld.MNTL_STAT_EPOCH])) :
    (State.takeEpoch s a1).rd f i = s.rd f i := by
  simp only [Field.off_faultFields, Field.off_refFields, Field.off_linkDownFields, Field.off_cellFields,
    Field.off_append, Field.off_cons, Field.off_nil, and_true] at h
  simp [State.takeEpoch, h]
@[simp] theorem State.mantleEnable_rd (s : State) (a1 : Bool) (f : Field) (i : Nat) (h : f.off (faultFields ++ refFields ++
    [Fld.MNTL_CTL_EN, Fld.MNTL_STAT_EPOCH])) :
    (State.mantleEnable s a1).2.rd f i = s.rd f i := by
  simp only [Field.off_faultFields, Field.off_refFields, Field.off_linkDownFields, Field.off_cellFields,
    Field.off_append, Field.off_cons, Field.off_nil, and_true] at h
  simp [State.mantleEnable, h]
@[simp] theorem State.mantleEvent_rd (s : State) (a1 : Nat) (a2 : List Byte) (f : Field) (i : Nat) (h : f.off
    ([Fld.ETH_CNT_TX_DISC_CNT, Fld.ETH_CNT_TX_FRAMES_CNT, Fld.ETH_CNT_TX_OCTETS_CNT, Fld.ETH_FLOW_CNT_PKT,
    Fld.HCP_CNT_EVT_LOST_CNT])) :
    (State.mantleEvent s a1 a2).rd f i = s.rd f i := by
  simp only [Field.off_faultFields, Field.off_refFields, Field.off_linkDownFields, Field.off_cellFields,
    Field.off_append, Field.off_cons, Field.off_nil, and_true] at h
  simp [State.mantleEvent, h]
@[simp] theorem State.handoverEnd_rd (s : State) (a1 : Nat) (a2 : Nat) (f : Field) (i : Nat) (h : f.off
    ([Fld.ETH_CNT_TX_DISC_CNT, Fld.ETH_CNT_TX_FRAMES_CNT, Fld.ETH_CNT_TX_OCTETS_CNT, Fld.ETH_FLOW_CNT_PKT,
    Fld.HCP_CNT_EVT_LOST_CNT, Fld.MNTL_CTL_HANDOVER, Fld.MNTL_STAT_HO_CAUSE, Fld.MNTL_STAT_HO_STATE])) :
    (State.handoverEnd s a1 a2).rd f i = s.rd f i := by
  simp only [Field.off_faultFields, Field.off_refFields, Field.off_linkDownFields, Field.off_cellFields,
    Field.off_append, Field.off_cons, Field.off_nil, and_true] at h
  simp [State.handoverEnd, h]
@[simp] theorem State.handoverStart_rd (s : State) (f : Field) (i : Nat) (h : f.off ([Fld.ETH_CNT_TX_DISC_CNT,
    Fld.ETH_CNT_TX_FRAMES_CNT, Fld.ETH_CNT_TX_OCTETS_CNT, Fld.ETH_FLOW_CNT_PKT, Fld.HCP_CNT_EVT_LOST_CNT,
    Fld.IZL_LINK_STAT_TX_IDLE, Fld.MNTL_CTL_HANDOVER, Fld.MNTL_STAT_HO_CAUSE, Fld.MNTL_STAT_HO_STATE])) :
    (State.handoverStart s).rd f i = s.rd f i := by
  simp only [Field.off_faultFields, Field.off_refFields, Field.off_linkDownFields, Field.off_cellFields,
    Field.off_append, Field.off_cons, Field.off_nil, and_true] at h
  simp [State.handoverStart, h]
@[simp] theorem State.mntlCtl_rd (s t : State) (it : CsItem) (f : Field) (i : Nat) (h : f.off (faultFields ++ refFields ++
    [Fld.MNTL_CTL_EN, Fld.MNTL_STAT_EPOCH, Fld.MNTL_STAT_HO_CAUSE, Fld.MNTL_STAT_HO_STATE])) (e : t.rd f i = s.rd f i) :
    (s.mntlCtl t it).2.rd f i = s.rd f i := by
  simp only [Field.off_faultFields, Field.off_refFields, Field.off_linkDownFields, Field.off_cellFields,
    Field.off_append, Field.off_cons, Field.off_nil, and_true] at h
  simp only [State.mntlCtl]
  repeat' split
  all_goals simp [h, e]
@[simp] theorem State.clearStanding_rd (s : State) (a1 : Nat) (f : Field) (i : Nat) :
    (State.clearStanding s a1).rd f i = s.rd f i := by
  unfold State.clearStanding
  repeat' (first | (simp; done) | split)
@[simp] theorem State.log511_rd (s : State) (a1 : Nat) (a2 : UKind) (a3 : Nat) (f : Field) (i : Nat) (h : f.off (faultFields))
    :
    (State.log511 s a1 a2 a3).rd f i = s.rd f i := by
  simp only [Field.off_faultFields, Field.off_refFields, Field.off_linkDownFields, Field.off_cellFields,
    Field.off_append, Field.off_cons, Field.off_nil, and_true] at h
  simp [State.log511, h]
@[simp] theorem State.unfence_rd (s : State) (a1 : UKind) (a2 : Nat) (f : Field) (i : Nat) (h : f.off
    ([Fld.CASK_FS_STAT_CAUSE, Fld.CTRL_DEV_STATE_MODE, Fld.KILN_STAT_STEP_PENDING, Fld.WARP_DST_CNT_UNTIMED,
    Fld.WARP_DST_STAT_BLACKED, Fld.WARP_DST_STAT_SRC_LOST, Fld.WARP_DST_STAT_TIMED])) :
    (State.unfence s a1 a2).rd f i = s.rd f i := by
  simp only [Field.off_faultFields, Field.off_refFields, Field.off_linkDownFields, Field.off_cellFields,
    Field.off_append, Field.off_cons, Field.off_nil, and_true] at h
  unfold State.unfence
  repeat' (first | (simp [h]; done) | split)
@[simp] theorem State.fenceCmd_rd (s : State) (a1 : Bool) (a2 : Nat) (a3 : Nat) (f : Field) (i : Nat) (h : f.off
    (faultFields)) :
    (State.fenceCmd s a1 a2 a3).2.rd f i = s.rd f i := by
  simp only [Field.off_faultFields, Field.off_refFields, Field.off_linkDownFields, Field.off_cellFields,
    Field.off_append, Field.off_cons, Field.off_nil, and_true] at h
  simp [State.fenceCmd, h]
@[simp] theorem State.logAck_rd (s : State) (a1 : Nat) (f : Field) (i : Nat) (h : f.off ([Fld.FLT_LOG_PTR_COUNT,
    Fld.FLT_LOG_PTR_TAIL])) :
    (State.logAck s a1).rd f i = s.rd f i := by
  simp only [Field.off_faultFields, Field.off_refFields, Field.off_linkDownFields, Field.off_cellFields,
    Field.off_append, Field.off_cons, Field.off_nil, and_true] at h
  simp [State.logAck, h]
@[simp] theorem State.setLatch_rd (s : State) (a1 : List Latch) (f : Field) (i : Nat) :
    (State.setLatch s a1).rd f i = s.rd f i := State.rd_of_rv rfl f i
@[simp] theorem State.setHeld_rd (s : State) (a1 : List Held) (f : Field) (i : Nat) :
    (State.setHeld s a1).rd f i = s.rd f i := State.rd_of_rv rfl f i
@[simp] theorem State.closeSession_rd (s : State) (a1 : Nat) (f : Field) (i : Nat) :
    (State.closeSession s a1).rd f i = s.rd f i := by
  simp [State.closeSession]
@[simp] theorem State.closeSlot_rd (s : State) (a1 : Nat) (f : Field) (i : Nat) :
    (State.closeSlot s a1).rd f i = s.rd f i := by
  simp [State.closeSlot]
@[simp] theorem State.hopGo_rd (s : State) (a1 : Nat) (f : Field) (i : Nat) (h : f.off ([Fld.HOP_CH_CTL_GO,
    Fld.HOP_CH_STAT_STATE])) :
    (State.hopGo s a1).rd f i = s.rd f i := by
  simp only [Field.off_faultFields, Field.off_refFields, Field.off_linkDownFields, Field.off_cellFields,
    Field.off_append, Field.off_cons, Field.off_nil, and_true] at h
  simp [State.hopGo, h]
@[simp] theorem State.crcFeed_rd (s : State) (a1 : Nat) (a2 : List Byte) (f : Field) (i : Nat) (h : f.off ([Fld.CRC_VALUE_V]))
    :
    (State.crcFeed s a1 a2).rd f i = s.rd f i := by
  simp only [Field.off_faultFields, Field.off_refFields, Field.off_linkDownFields, Field.off_cellFields,
    Field.off_append, Field.off_cons, Field.off_nil, and_true] at h
  simp [State.crcFeed, h]
@[simp] theorem State.crcRestart_rd (s : State) (a1 : Nat) (a2 : List Byte) (f : Field) (i : Nat) (h : f.off
    ([Fld.CRC_VALUE_V])) :
    (State.crcRestart s a1 a2).rd f i = s.rd f i := by
  simp only [Field.off_faultFields, Field.off_refFields, Field.off_linkDownFields, Field.off_cellFields,
    Field.off_append, Field.off_cons, Field.off_nil, and_true] at h
  simp [State.crcRestart, h]
@[simp] theorem State.crcStart_rd (s : State) (a1 : Nat) (f : Field) (i : Nat) (h : f.off ([Fld.CRC_VALUE_V])) :
    (State.crcStart s a1).rd f i = s.rd f i := by
  simp only [Field.off_faultFields, Field.off_refFields, Field.off_linkDownFields, Field.off_cellFields,
    Field.off_append, Field.off_cons, Field.off_nil, and_true] at h
  simp [State.crcStart, h]
@[simp] theorem State.crcFeedWord_rd (s : State) (a1 : Nat) (a2 : Nat) (f : Field) (i : Nat) (h : f.off ([Fld.CRC_VALUE_V])) :
    (State.crcFeedWord s a1 a2).rd f i = s.rd f i := by
  simp only [Field.off_faultFields, Field.off_refFields, Field.off_linkDownFields, Field.off_cellFields,
    Field.off_append, Field.off_cons, Field.off_nil, and_true] at h
  simp [State.crcFeedWord, h]
@[simp] theorem State.trialReject_rd (s : State) (f : Field) (i : Nat) (h : f.off (faultFields)) :
    (State.trialReject s).rd f i = s.rd f i := by
  simp only [Field.off_faultFields, Field.off_refFields, Field.off_linkDownFields, Field.off_cellFields,
    Field.off_append, Field.off_cons, Field.off_nil, and_true] at h
  simp [State.trialReject, h]
@[simp] theorem State.clocksLow_rd (s : State) (f : Field) (i : Nat) :
    (State.clocksLow s).rd f i = s.rd f i := by
  simp [State.clocksLow]
@[simp] theorem State.onPwr_rd (s : State) (a1 : PwrS → PwrS) (f : Field) (i : Nat) :
    (State.onPwr s a1).rd f i = s.rd f i := State.rd_of_rv rfl f i
@[simp] theorem State.uartDrain_rd (s : State) (f : Field) (i : Nat) :
    (State.uartDrain s).rd f i = s.rd f i := by
  simp [State.uartDrain]
@[simp] theorem State.uartEnable_rd (s : State) (a1 : Bool) (f : Field) (i : Nat) (h : f.off ([Fld.PWR_UART_CTL_EN])) :
    (State.uartEnable s a1).rd f i = s.rd f i := by
  simp only [Field.off_faultFields, Field.off_refFields, Field.off_linkDownFields, Field.off_cellFields,
    Field.off_append, Field.off_cons, Field.off_nil, and_true] at h
  simp [State.uartEnable, h]
@[simp] theorem State.uartWrite_rd (s : State) (a1 : Nat) (f : Field) (i : Nat) (h : f.off ([Fld.PWR_UART_TX_DATA])) :
    (State.uartWrite s a1).2.rd f i = s.rd f i := by
  simp only [Field.off_faultFields, Field.off_refFields, Field.off_linkDownFields, Field.off_cellFields,
    Field.off_append, Field.off_cons, Field.off_nil, and_true] at h
  simp [State.uartWrite, h]
@[simp] theorem State.setParked_rd (s : State) (a1 : List CsItem) (f : Field) (i : Nat) :
    (State.setParked s a1).rd f i = s.rd f i := State.rd_of_rv rfl f i
@[simp] theorem State.bindItems_rd (s : State) (a1 : List CsItem) (f : Field) (i : Nat) :
    (State.bindItems s a1).rd f i = s.rd f i := by
  simp [State.bindItems]
@[simp] theorem State.defaultAccess_rd (s : State) (a1 : Nat) (a2 : Bool) (a3 : Nat) (f : Field) (i : Nat) (h : f.off
    (faultFields ++ [Fld.CTRL_DEFAULT_ERR_ADDR, Fld.CTRL_DEFAULT_ERR_MASTER, Fld.CTRL_DEFAULT_ERR_WRITE])) :
    (State.defaultAccess s a1 a2 a3).rd f i = s.rd f i := by
  simp only [Field.off_faultFields, Field.off_refFields, Field.off_linkDownFields, Field.off_cellFields,
    Field.off_append, Field.off_cons, Field.off_nil, and_true] at h
  simp [State.defaultAccess, h]
@[simp] theorem State.learnSet_rd (s : State) (a1 : Nat) (f : Field) (i : Nat) (h : f.off ([Fld.MASH_CNT_XFADE_SHORT_CNT])) :
    (State.learnSet s a1).rd f i = s.rd f i := by
  simp only [Field.off_faultFields, Field.off_refFields, Field.off_linkDownFields, Field.off_cellFields,
    Field.off_append, Field.off_cons, Field.off_nil, and_true] at h
  unfold State.learnSet
  dsimp only
  repeat' (first | (simp [h]; done) | (refine (each_rd _ _ _ _ _ ?_).trans ?_) | (refine (foldl_rd _ _ _ ?_ _ _).trans ?_) | (refine (foldl_rd_snd _ _ _ ?_ _ _).trans ?_) | (intro _ _) | split | (dsimp only))
@[simp] theorem State.commitSet_rd (s : State) (a1 : Nat) (a2 : Nat) (f : Field) (i : Nat) (h : f.off
    ([Fld.ETH_CNT_TX_DISC_CNT, Fld.ETH_CNT_TX_FRAMES_CNT, Fld.ETH_CNT_TX_OCTETS_CNT, Fld.ETH_FLOW_CNT_PKT,
    Fld.HCP_CNT_EVT_LOST_CNT, Fld.IZL_LINK_STAT_TX_IDLE, Fld.MASH_CNT_XFADE_SHORT_CNT])) :
    (State.commitSet s a1 a2).rd f i = s.rd f i := by
  simp only [Field.off_faultFields, Field.off_refFields, Field.off_linkDownFields, Field.off_cellFields,
    Field.off_append, Field.off_cons, Field.off_nil, and_true] at h
  unfold State.commitSet
  repeat' (first | (simp [h]; done) | split)
@[simp] theorem State.putSurf_rd (s : State) (a1 : Nat) (a2 : Surf) (f : Field) (i : Nat) :
    (State.putSurf s a1 a2).rd f i = s.rd f i := by
  simp [State.putSurf]
@[simp] theorem State.surfAlloc_rd (s : State) (a1 : Nat) (a2 : Bool) (f : Field) (i : Nat) :
    (State.surfAlloc s a1 a2).2.2.rd f i = s.rd f i := by
  simp only [State.surfAlloc]
  repeat' (first | (simp; done) | split)
@[simp] theorem State.allocSurf_rd (s : State) (a1 : Nat) (a2 : Bool) (a3 : Bool) (f : Field) (i : Nat) (h : f.off
    ([Fld.IZL_LINK_STAT_TX_IDLE])) :
    (State.allocSurf s a1 a2 a3).state.rd f i = s.rd f i := by
  simp only [Field.off_faultFields, Field.off_refFields, Field.off_linkDownFields, Field.off_cellFields,
    Field.off_append, Field.off_cons, Field.off_nil, and_true] at h
  simp only [State.allocSurf]
  repeat' (first | (simp [h]; done) | split)
@[simp] theorem State.dropSurf_rd (s : State) (a1 : Nat) (f : Field) (i : Nat) :
    (State.dropSurf s a1).rd f i = s.rd f i := by
  simp [State.dropSurf]
@[simp] theorem State.surfFree_rd (s : State) (a1 : Bool) (a2 : Nat) (f : Field) (i : Nat) :
    (State.surfFree s a1 a2).2.rd f i = s.rd f i := by
  simp [State.surfFree]
@[simp] theorem State.putBytes_rd (s : State) (a1 : Nat) (a2 : List Byte) (f : Field) (i : Nat) :
    (State.putBytes s a1 a2).rd f i = s.rd f i := by
  simp [State.putBytes]
@[simp] theorem State.bulkWrite_rd (s : State) (a1 : Bool) (a2 : Bool) (a3 : Nat) (a4 : Nat) (a5 : List Byte) (f : Field) (i :
    Nat) (h : f.off ([Fld.IZL_LINK_STAT_TX_IDLE])) :
    (State.bulkWrite s a1 a2 a3 a4 a5).state.rd f i = s.rd f i := by
  simp only [Field.off_faultFields, Field.off_refFields, Field.off_linkDownFields, Field.off_cellFields,
    Field.off_append, Field.off_cons, Field.off_nil, and_true] at h
  unfold State.bulkWrite
  repeat' (first | (simp [h]; done) | split)
@[simp] theorem State.setFlowSeq_rd (s : State) (a1 : Nat) (a2 : Nat) (f : Field) (i : Nat) :
    (State.setFlowSeq s a1 a2).rd f i = s.rd f i := by
  unfold State.setFlowSeq
  repeat' (first | (simp; done) | split)
@[simp] theorem State.syncSent_rd (s : State) (a1 : Nat) (a2 : Nat) (a3 : Nat) (f : Field) (i : Nat) :
    (State.syncSent s a1 a2 a3).rd f i = s.rd f i := by
  simp [State.syncSent]
@[simp] theorem State.marked_rd (s : State) (a1 : Nat) (a2 : TxMark) (f : Field) (i : Nat) (h : f.off (faultFields ++
    [Fld.TSVC_CNT_TXTS_LOST_CNT, Fld.TSVC_TXTS_STAT_OVF])) :
    (State.marked s a1 a2).rd f i = s.rd f i := by
  simp only [Field.off_faultFields, Field.off_refFields, Field.off_linkDownFields, Field.off_cellFields,
    Field.off_append, Field.off_cons, Field.off_nil, and_true] at h
  unfold State.marked
  repeat' (first | (simp [h]; done) | split)
@[simp] theorem State.txMarked_rd (s : State) (a1 : Nat) (a2 : Nat) (a3 : Output) (a4 : TxMark) (f : Field) (i : Nat) (h :
    f.off (faultFields ++ [Fld.TSVC_CNT_TXTS_LOST_CNT, Fld.TSVC_TXTS_STAT_OVF])) :
    (State.txMarked s a1 a2 a3 a4).rd f i = s.rd f i := by
  simp only [Field.off_faultFields, Field.off_refFields, Field.off_linkDownFields, Field.off_cellFields,
    Field.off_append, Field.off_cons, Field.off_nil, and_true] at h
  simp [State.txMarked, h]
@[simp] theorem State.serve_rd (s : State) (a1 : Nat) (f : Field) (i : Nat) (h : f.off (faultFields ++
    [Fld.TSVC_CNT_TXTS_LOST_CNT, Fld.TSVC_TXTS_STAT_OVF])) :
    (State.serve s a1).rd f i = s.rd f i := by
  simp only [Field.off_faultFields, Field.off_refFields, Field.off_linkDownFields, Field.off_cellFields,
    Field.off_append, Field.off_cons, Field.off_nil, and_true] at h
  simp [State.serve, h]
@[simp] theorem State.noMatch_rd (s : State) (a1 : Nat) (f : Field) (i : Nat) (h : f.off ([Fld.ETH_CNT_RX_NOMATCH_CNT])) :
    (State.noMatch s a1).rd f i = s.rd f i := by
  simp only [Field.off_faultFields, Field.off_refFields, Field.off_linkDownFields, Field.off_cellFields,
    Field.off_append, Field.off_cons, Field.off_nil, and_true] at h
  simp [State.noMatch, h]
@[simp] theorem State.rxChecked_rd (s : State) (a1 : Nat) (a2 : Nat) (a3 : State → State) (f : Field) (i : Nat) (h : f.off
    ([Fld.ETH_CNT_RX_LONG_CNT, Fld.ETH_CNT_RX_SHORT_CNT])) (ha3 : ∀ x0, (a3 x0).rd f i = x0.rd f i) :
    (State.rxChecked s a1 a2 a3).rd f i = s.rd f i := by
  simp only [Field.off_faultFields, Field.off_refFields, Field.off_linkDownFields, Field.off_cellFields,
    Field.off_append, Field.off_cons, Field.off_nil, and_true] at h
  simp [State.rxChecked, h, ha3]
@[simp] theorem State.rxFrame_rd (s : State) (a1 : Nat) (a2 : Nat) (a3 : State → State) (f : Field) (i : Nat) (h : f.off
    ([Fld.ETH_CNT_RX_FRAMES_CNT, Fld.ETH_CNT_RX_LONG_CNT, Fld.ETH_CNT_RX_OCTETS_CNT, Fld.ETH_CNT_RX_SHORT_CNT])) (ha3 : ∀ x0,
    (a3 x0).rd f i = x0.rd f i) :
    (State.rxFrame s a1 a2 a3).rd f i = s.rd f i := by
  simp only [Field.off_faultFields, Field.off_refFields, Field.off_linkDownFields, Field.off_cellFields,
    Field.off_append, Field.off_cons, Field.off_nil, and_true] at h
  simp [State.rxFrame, h, ha3]
@[simp] theorem State.igmpAll_rd (s : State) (a1 : Nat) (a2 : Nat) (f : Field) (i : Nat) (h : f.off ([Fld.ETH_CNT_TX_DISC_CNT,
    Fld.ETH_CNT_TX_FRAMES_CNT, Fld.ETH_CNT_TX_OCTETS_CNT, Fld.ETH_FLOW_CNT_PKT])) :
    (State.igmpAll s a1 a2).rd f i = s.rd f i := by
  simp only [Field.off_faultFields, Field.off_refFields, Field.off_linkDownFields, Field.off_cellFields,
    Field.off_append, Field.off_cons, Field.off_nil, and_true] at h
  simp [State.igmpAll, h]
@[simp] theorem State.markHeld_rd (s : State) (a1 : Nat) (a2 : Nat) (a3 : Bool) (f : Field) (i : Nat) (h : f.off
    ([Fld.ETH_PORT_STAT_HELD])) :
    (State.markHeld s a1 a2 a3).rd f i = s.rd f i := by
  simp only [Field.off_faultFields, Field.off_refFields, Field.off_linkDownFields, Field.off_cellFields,
    Field.off_append, Field.off_cons, Field.off_nil, and_true] at h
  simp [State.markHeld, h]
@[simp] theorem State.setIgnores_rd (s : State) (a1 : Nat) (a2 : Nat) (a3 : Bool) (f : Field) (i : Nat) (h : f.off
    ([Fld.ETH_PORT_STAT_IGNORE])) :
    (State.setIgnores s a1 a2 a3).rd f i = s.rd f i := by
  simp only [Field.off_faultFields, Field.off_refFields, Field.off_linkDownFields, Field.off_cellFields,
    Field.off_append, Field.off_cons, Field.off_nil, and_true] at h
  simp [State.setIgnores, h]
@[simp] theorem State.pauseQueue_rd (s : State) (a1 : Nat) (a2 : Nat) (a3 : Option Nat) (a4 : List (Nat × Nat)) (f : Field) (i
    : Nat) (h : f.off ([Fld.ETH_PORT_STAT_HELD])) :
    (State.pauseQueue s a1 a2 a3 a4).rd f i = s.rd f i := by
  simp only [Field.off_faultFields, Field.off_refFields, Field.off_linkDownFields, Field.off_cellFields,
    Field.off_append, Field.off_cons, Field.off_nil, and_true] at h
  simp [State.pauseQueue, h]
@[simp] theorem State.closeWindow_rd (s : State) (a1 : Nat) (a2 : Nat) (f : Field) (i : Nat) (h : f.off
    ([Fld.ETH_FLOW_CNT_A_LOSS, Fld.ETH_FLOW_CNT_B_LOSS, Fld.ETH_FLOW_CNT_SEQ_GAP])) :
    (State.closeWindow s a1 a2).rd f i = s.rd f i := by
  simp only [Field.off_faultFields, Field.off_refFields, Field.off_linkDownFields, Field.off_cellFields,
    Field.off_append, Field.off_cons, Field.off_nil, and_true] at h
  simp only [State.closeWindow]
  repeat' (first | (simp [h]; done) | split)
@[simp] theorem State.takeSeq_rd (s : State) (a1 : Nat) (a2 : Nat) (a3 : Nat) (f : Field) (i : Nat) (h : f.off
    ([Fld.ETH_FLOW_CNT_A_LOSS, Fld.ETH_FLOW_CNT_B_LOSS, Fld.ETH_FLOW_CNT_LATE, Fld.ETH_FLOW_CNT_SEQ_GAP])) :
    (State.takeSeq s a1 a2 a3).2.rd f i = s.rd f i := by
  simp only [Field.off_faultFields, Field.off_refFields, Field.off_linkDownFields, Field.off_cellFields,
    Field.off_append, Field.off_cons, Field.off_nil, and_true] at h
  simp only [State.takeSeq]
  repeat' (first | (simp [h]; done) | split)
@[simp] theorem State.seePacket_rd (s : State) (a1 : Nat) (a2 : Bool) (f : Field) (i : Nat) (h : f.off
    ([Fld.CASK_FS_STAT_CAUSE, Fld.CELL_SRC_STAT_LOST, Fld.ETH_FLOW_CNT_PKT, Fld.ETH_FLOW_STAT_LOST, Fld.ETH_FLOW_STAT_PATH_A,
    Fld.ETH_FLOW_STAT_PATH_B, Fld.WARP_DST_CNT_UNTIMED, Fld.WARP_DST_STAT_BLACKED, Fld.WARP_DST_STAT_SRC_LOST,
    Fld.WARP_DST_STAT_TIMED])) :
    (State.seePacket s a1 a2).2.rd f i = s.rd f i := by
  simp only [Field.off_faultFields, Field.off_refFields, Field.off_linkDownFields, Field.off_cellFields,
    Field.off_append, Field.off_cons, Field.off_nil, and_true] at h
  simp [State.seePacket, h]
@[simp] theorem State.media_rd (s : State) (a1 : Nat) (a2 : FrameHdr) (a3 : List Nat) (a4 : Bool) (a5 : Bool) (a6 : State →
    Nat → State) (f : Field) (i : Nat) (h : f.off ([Fld.ETH_CNT_RX_FRAMES_CNT, Fld.ETH_CNT_RX_LONG_CNT,
    Fld.ETH_CNT_RX_NOMATCH_CNT, Fld.ETH_CNT_RX_OCTETS_CNT, Fld.ETH_CNT_RX_SHORT_CNT, Fld.ETH_FLOW_CNT_MALFORMED,
    Fld.ETH_FLOW_CNT_OVERRUN, Fld.TSVC_CNT_FILTER_CNT])) (ha6 : ∀ x0 x1, (a6 x0 x1).rd f i = x0.rd f i) :
    (State.media s a1 a2 a3 a4 a5 a6).rd f i = s.rd f i := by
  simp only [Field.off_faultFields, Field.off_refFields, Field.off_linkDownFields, Field.off_cellFields,
    Field.off_append, Field.off_cons, Field.off_nil, and_true] at h
  simp only [State.media]
  refine State.rxChecked_rd _ _ _ _ f i (by simp [h]) ?_
  intro s
  split
  · simp [h]
  split
  · simp [h]
  split
  · simp [h]
  · refine State.rxFrame_rd _ _ _ _ f i (by simp [h]) ?_
    intro s
    repeat' split
    all_goals simp [h, ha6]
@[simp] theorem State.measureFrame_rd (s : State) (a1 : Nat) (a2 : Nat) (a3 : Nat) (f : Field) (i : Nat) (h : f.off
    ([Fld.ETH_FLOW_STAT_JITTER, Fld.ETH_FLOW_STAT_N_OK])) :
    (State.measureFrame s a1 a2 a3).rd f i = s.rd f i := by
  simp only [Field.off_faultFields, Field.off_refFields, Field.off_linkDownFields, Field.off_cellFields,
    Field.off_append, Field.off_cons, Field.off_nil, and_true] at h
  simp [State.measureFrame, h]
@[simp] theorem State.packetRows_rd (s : State) (a1 : Nat) (a2 : Nat) (a3 : Fmt) (a4 : Bool) (a5 : Bool) (a6 : List RtpRow) (f
    : Field) (i : Nat) (h : f.off (faultFields ++ [Fld.CASK_INT_RING_EFF_DEPTH, Fld.CASK_INT_RING_OVERSIZE,
    Fld.CASK_RING_EFF_DEPTH, Fld.CASK_RING_OVERSIZE, Fld.WARP_INT_TIME_PHASE, Fld.WARP_INT_TIME_STABLE,
    Fld.WARP_INT_TIME_VALID, Fld.WARP_INT_TIME_WHOLE_FRAME, Fld.WARP_SRC_TIME_PHASE, Fld.WARP_SRC_TIME_STABLE,
    Fld.WARP_SRC_TIME_VALID, Fld.WARP_SRC_TIME_WHOLE_FRAME])) :
    (State.packetRows s a1 a2 a3 a4 a5 a6).rd f i = s.rd f i := by
  simp only [Field.off_faultFields, Field.off_refFields, Field.off_linkDownFields, Field.off_cellFields,
    Field.off_append, Field.off_cons, Field.off_nil, and_true] at h
  simp [State.packetRows, h]
@[simp] theorem State.turnAway_rd (s : State) (a1 : Nat) (a2 : Change) (a3 : Nat) (f : Field) (i : Nat) (h : f.off
    ([Fld.ETH_CNT_TX_DISC_CNT, Fld.ETH_CNT_TX_FRAMES_CNT, Fld.ETH_CNT_TX_OCTETS_CNT, Fld.ETH_FLOW_CNT_PKT,
    Fld.HCP_CNT_EVT_LOST_CNT, Fld.WARP_DST_CNT_REFUSED, Fld.WARP_DST_STAT_REFUSED])) :
    (State.turnAway s a1 a2 a3).rd f i = s.rd f i := by
  simp only [Field.off_faultFields, Field.off_refFields, Field.off_linkDownFields, Field.off_cellFields,
    Field.off_append, Field.off_cons, Field.off_nil, and_true] at h
  simp [State.turnAway, h]
@[simp] theorem State.flowRate_rd (s : State) (a1 : Nat) (a2 : Bool) (f : Field) (i : Nat) (h : f.off (faultFields ++
    [Fld.MASH_CNT_RATE_ERR_CNT, Fld.MASH_SRC_AUDIO_RATE_ERR])) :
    (State.flowRate s a1 a2).rd f i = s.rd f i := by
  simp only [Field.off_faultFields, Field.off_refFields, Field.off_linkDownFields, Field.off_cellFields,
    Field.off_append, Field.off_cons, Field.off_nil, and_true] at h
  simp [State.flowRate, h]
@[simp] theorem State.audioIn_rd (s : State) (a1 : Nat) (a2 : Nat) (a3 : Nat) (a4 : List (List Int)) (f : Field) (i : Nat) (h
    : f.off (faultFields ++ [Fld.ETH_FLOW_CNT_A_LOSS, Fld.ETH_FLOW_CNT_B_LOSS, Fld.ETH_FLOW_CNT_LATE,
    Fld.ETH_FLOW_CNT_MALFORMED, Fld.ETH_FLOW_CNT_SEQ_GAP, Fld.MASH_CNT_RATE_ERR_CNT, Fld.MASH_SRC_AUDIO_RATE_ERR])) :
    (State.audioIn s a1 a2 a3 a4).rd f i = s.rd f i := by
  simp only [Field.off_faultFields, Field.off_refFields, Field.off_linkDownFields, Field.off_cellFields,
    Field.off_append, Field.off_cons, Field.off_nil, and_true] at h
  simp [State.audioIn, h]
@[simp] theorem State.localFault_rd (s : State) (a1 : Nat) (a2 : Bool) (f : Field) (i : Nat) (h : f.off
    ([Fld.ETH_PORT_STAT_LOCAL_FAULT])) :
    (State.localFault s a1 a2).rd f i = s.rd f i := by
  simp only [Field.off_faultFields, Field.off_refFields, Field.off_linkDownFields, Field.off_cellFields,
    Field.off_append, Field.off_cons, Field.off_nil, and_true] at h
  simp [State.localFault, h]
@[simp] theorem State.ethDown_rd (s : State) (a1 : Nat) (f : Field) (i : Nat) (h : f.off (faultFields ++ refFields ++
    [Fld.ETH_CNT_LINK_DOWN_CNT, Fld.ETH_PORT_STAT_ALIGNED, Fld.ETH_PORT_STAT_LINK_UP, Fld.TSVC_CNT_TXTS_LOST_CNT,
    Fld.TSVC_TXTS_STAT_OVF])) :
    (State.ethDown s a1).rd f i = s.rd f i := by
  simp only [Field.off_faultFields, Field.off_refFields, Field.off_linkDownFields, Field.off_cellFields,
    Field.off_append, Field.off_cons, Field.off_nil, and_true] at h
  simp [State.ethDown, h]
@[simp] theorem State.cond_rd (s : State) (a1 : Nat) (a2 : Nat) (a3 : Bool) (f : Field) (i : Nat) (h : f.off (faultFields)) :
    (State.cond s a1 a2 a3).rd f i = s.rd f i := by
  simp only [Field.off_faultFields, Field.off_refFields, Field.off_linkDownFields, Field.off_cellFields,
    Field.off_append, Field.off_cons, Field.off_nil, and_true] at h
  simp [State.cond, h]
@[simp] theorem State.setIf_rd (s : State) (a1 : Nat) (a2 : Bool) (f : Field) (i : Nat) (h : f.off ([Fld.GNSS_IF_CFG_A_CLK_OK,
    Fld.GNSS_IF_CFG_B_CLK_OK])) :
    (State.setIf s a1 a2).rd f i = s.rd f i := by
  simp only [Field.off_faultFields, Field.off_refFields, Field.off_linkDownFields, Field.off_cellFields,
    Field.off_append, Field.off_cons, Field.off_nil, and_true] at h
  simp [State.setIf, h]
@[simp] theorem State.loseLock_rd (s : State) (a1 : Nat) (a2 : Nat) (f : Field) (i : Nat) (h : f.off
    ([Fld.GNSS_CH_STAT_EXCLUDED, Fld.GNSS_CH_STAT_PRN, Fld.GNSS_CH_STAT_SIG, Fld.GNSS_CH_STAT_STATE,
    Fld.GNSS_CNT_LOCK_LOSS_CNT])) :
    (State.loseLock s a1 a2).rd f i = s.rd f i := by
  simp only [Field.off_faultFields, Field.off_refFields, Field.off_linkDownFields, Field.off_cellFields,
    Field.off_append, Field.off_cons, Field.off_nil, and_true] at h
  simp [State.loseLock, h]
@[simp] theorem State.clockGone_rd (s : State) (a1 : Nat) (f : Field) (i : Nat) (h : f.off (faultFields ++
    [Fld.GNSS_CNT_LOCK_LOSS_CNT, Fld.GNSS_IF_CFG_A_CLK_OK, Fld.GNSS_IF_CFG_B_CLK_OK])) :
    (State.clockGone s a1).rd f i = s.rd f i := by
  simp only [Field.off_faultFields, Field.off_refFields, Field.off_linkDownFields, Field.off_cellFields,
    Field.off_append, Field.off_cons, Field.off_nil, and_true] at h
  simp [State.clockGone, h]
@[simp] theorem State.assign_rd (s : State) (a1 : Nat) (a2 : Nat) (a3 : Nat) (f : Field) (i : Nat) (h : f.off
    ([Fld.GNSS_CH_STAT_EXCLUDED, Fld.GNSS_CH_STAT_PRN, Fld.GNSS_CH_STAT_SIG, Fld.GNSS_CH_STAT_STATE])) :
    (State.assign s a1 a2 a3).rd f i = s.rd f i := by
  simp only [Field.off_faultFields, Field.off_refFields, Field.off_linkDownFields, Field.off_cellFields,
    Field.off_append, Field.off_cons, Field.off_nil, and_true] at h
  simp [State.assign, h]
@[simp] theorem State.measRecord_rd (s : State) (a1 : Nat) (a2 : Bool) (a3 : Bool) (a4 : List GMeas) (f : Field) (i : Nat) (h
    : f.off ([Fld.GNSS_CH_STAT_CN0, Fld.GNSS_MEAS_PTR_NEWEST])) :
    (State.measRecord s a1 a2 a3 a4).rd f i = s.rd f i := by
  simp only [Field.off_faultFields, Field.off_refFields, Field.off_linkDownFields, Field.off_cellFields,
    Field.off_append, Field.off_cons, Field.off_nil, and_true] at h
  simp [State.measRecord, h]
@[simp] theorem State.distrust_rd (s : State) (a1 : List Nat) (f : Field) (i : Nat) (h : f.off (faultFields ++
    [Fld.GNSS_CNT_UNTRUST_CNT, Fld.GNSS_INTEG_STAT_CAUSE, Fld.GNSS_STAT_TRUSTED])) :
    (State.distrust s a1).rd f i = s.rd f i := by
  simp only [Field.off_faultFields, Field.off_refFields, Field.off_linkDownFields, Field.off_cellFields,
    Field.off_append, Field.off_cons, Field.off_nil, and_true] at h
  simp [State.distrust, h]
@[simp] theorem State.passedSecond_rd (s : State) (f : Field) (i : Nat) (h : f.off ([Fld.GNSS_STAT_TRUSTED])) :
    (State.passedSecond s).rd f i = s.rd f i := by
  simp only [Field.off_faultFields, Field.off_refFields, Field.off_linkDownFields, Field.off_cellFields,
    Field.off_append, Field.off_cons, Field.off_nil, and_true] at h
  simp [State.passedSecond, h]
@[simp] theorem State.noSolution_rd (s : State) (f : Field) (i : Nat) (h : f.off (faultFields ++ refFields ++
    [Fld.GNSS_STAT_SOL_VALID])) :
    (State.noSolution s).rd f i = s.rd f i := by
  simp only [Field.off_faultFields, Field.off_refFields, Field.off_linkDownFields, Field.off_cellFields,
    Field.off_append, Field.off_cons, Field.off_nil, and_true] at h
  simp [State.noSolution, h]
@[simp] theorem State.surveyStep_rd (s : State) (a1 : GSol) (f : Field) (i : Nat) (h : f.off ([Fld.GNSS_CTL_POS_MODE,
    Fld.GNSS_STAT_SURVEYED])) :
    (State.surveyStep s a1).rd f i = s.rd f i := by
  simp only [Field.off_faultFields, Field.off_refFields, Field.off_linkDownFields, Field.off_cellFields,
    Field.off_append, Field.off_cons, Field.off_nil, and_true] at h
  simp [State.surveyStep, h]
@[simp] theorem State.solveShow_rd (s : State) (a1 : List Nat) (a2 : Bool) (a3 : Nat) (a4 : List Nat) (a5 : Nat) (a6 : Bool)
    (a7 : Nat) (a8 : Int) (a9 : Nat) (f : Field) (i : Nat) (h : f.off ([Fld.GNSS_CH_STAT_EXCLUDED, Fld.GNSS_CNT_EXCL_CNT,
    Fld.GNSS_INTEG_STAT_FAILING, Fld.GNSS_INTEG_STAT_SKIPPED, Fld.GNSS_STAT_DUAL, Fld.GNSS_STAT_SOL_VALID, Fld.GNSS_STAT_USED,
    Fld.GNSS_TEB_TEB_G])) :
    (State.solveShow s a1 a2 a3 a4 a5 a6 a7 a8 a9).rd f i = s.rd f i := by
  simp only [Field.off_faultFields, Field.off_refFields, Field.off_linkDownFields, Field.off_cellFields,
    Field.off_append, Field.off_cons, Field.off_nil, and_true] at h
  simp [State.solveShow, h]
@[simp] theorem State.fresh_rd (s : State) (a1 : Nat) (f : Field) (i : Nat) :
    (State.fresh s a1).2.rd f i = s.rd f i := by
  simp [State.fresh]
@[simp] theorem State.refMeasure_rd (s : State) (a1 : Nat) (a2 : Int) (a3 : Option Nat) (a4 : Nat) (f : Field) (i : Nat) (h :
    f.off (faultFields ++ [Fld.KILN_LOOP_ERR, Fld.KILN_REF_OFFSET_DELTA, Fld.KILN_STAT_HO_EXPIRED])) :
    (State.refMeasure s a1 a2 a3 a4).rd f i = s.rd f i := by
  simp only [Field.off_faultFields, Field.off_refFields, Field.off_linkDownFields, Field.off_cellFields,
    Field.off_append, Field.off_cons, Field.off_nil, and_true] at h
  simp [State.refMeasure, h]
@[simp] theorem State.solveEnd_rd (s : State) (a1 : GSol) (a2 : List Nat) (a3 : Bool) (a4 : Int) (a5 : Nat) (f : Field) (i :
    Nat) (h : f.off (faultFields ++ refFields ++ [Fld.GNSS_CNT_UNTRUST_CNT, Fld.GNSS_CTL_POS_MODE, Fld.GNSS_INTEG_STAT_CAUSE,
    Fld.GNSS_STAT_SURVEYED, Fld.GNSS_STAT_TRUSTED, Fld.GNSS_STAT_TRUST_LEFT, Fld.KILN_LOOP_ERR, Fld.KILN_REF_OFFSET_DELTA,
    Fld.KILN_UTC_LEAP59, Fld.KILN_UTC_LEAP61, Fld.KILN_UTC_SRC, Fld.KILN_UTC_UTC_OFFSET])) :
    (State.solveEnd s a1 a2 a3 a4 a5).rd f i = s.rd f i := by
  simp only [Field.off_faultFields, Field.off_refFields, Field.off_linkDownFields, Field.off_cellFields,
    Field.off_append, Field.off_cons, Field.off_nil, and_true] at h
  simp [State.solveEnd, h]
@[simp] theorem State.solveBy_rd (s : State) (a1 : GSol) (a2 : GPass) (a3 : List Nat) (a4 : Bool) (f : Field) (i : Nat) (h :
    f.off (faultFields ++ refFields ++ [Fld.GNSS_CNT_EXCL_CNT, Fld.GNSS_CNT_UNTRUST_CNT, Fld.GNSS_CTL_POS_MODE,
    Fld.GNSS_INTEG_STAT_CAUSE, Fld.GNSS_INTEG_STAT_FAILING, Fld.GNSS_INTEG_STAT_SKIPPED, Fld.GNSS_STAT_DUAL,
    Fld.GNSS_STAT_SOL_VALID, Fld.GNSS_STAT_SURVEYED, Fld.GNSS_STAT_TRUSTED, Fld.GNSS_STAT_TRUST_LEFT, Fld.GNSS_STAT_USED,
    Fld.GNSS_TEB_TEB_G, Fld.KILN_LOOP_ERR, Fld.KILN_REF_OFFSET_DELTA, Fld.KILN_UTC_LEAP59, Fld.KILN_UTC_LEAP61,
    Fld.KILN_UTC_SRC, Fld.KILN_UTC_UTC_OFFSET])) :
    (State.solveBy s a1 a2 a3 a4).rd f i = s.rd f i := by
  simp only [Field.off_faultFields, Field.off_refFields, Field.off_linkDownFields, Field.off_cellFields,
    Field.off_append, Field.off_cons, Field.off_nil, and_true] at h
  simp [State.solveBy, h]
@[simp] theorem State.solve_rd (s : State) (a1 : GSol) (f : Field) (i : Nat) (h : f.off (faultFields ++ refFields ++
    [Fld.GNSS_CNT_EXCL_CNT, Fld.GNSS_CNT_UNTRUST_CNT, Fld.GNSS_CTL_POS_MODE, Fld.GNSS_INTEG_STAT_CAUSE,
    Fld.GNSS_INTEG_STAT_FAILING, Fld.GNSS_INTEG_STAT_SKIPPED, Fld.GNSS_STAT_DUAL, Fld.GNSS_STAT_SOL_VALID,
    Fld.GNSS_STAT_SURVEYED, Fld.GNSS_STAT_TRUSTED, Fld.GNSS_STAT_TRUST_LEFT, Fld.GNSS_STAT_USED, Fld.GNSS_TEB_TEB_G,
    Fld.KILN_LOOP_ERR, Fld.KILN_REF_OFFSET_DELTA, Fld.KILN_UTC_LEAP59, Fld.KILN_UTC_LEAP61, Fld.KILN_UTC_SRC,
    Fld.KILN_UTC_UTC_OFFSET])) :
    (State.solve s a1).rd f i = s.rd f i := by
  simp only [Field.off_faultFields, Field.off_refFields, Field.off_linkDownFields, Field.off_cellFields,
    Field.off_append, Field.off_cons, Field.off_nil, and_true] at h
  simp only [State.solve]
  repeat' (first | (simp [h]; done) | split)
@[simp] theorem State.testResult_rd (s : State) (a1 : Nat) (a2 : Bool) (f : Field) (i : Nat) (h : f.off (faultFields ++
    [Fld.GNSS_CH_STAT_FAULTY])) :
    (State.testResult s a1 a2).rd f i = s.rd f i := by
  simp only [Field.off_faultFields, Field.off_refFields, Field.off_linkDownFields, Field.off_cellFields,
    Field.off_append, Field.off_cons, Field.off_nil, and_true] at h
  simp [State.testResult, h]
@[simp] theorem State.answer_rd (s : State) (a1 : HcpReq) (a2 : Bool) (a3 : Nat) (a4 : Nat) (a5 : Status) (a6 : List Byte) (f
    : Field) (i : Nat) (h : f.off ([Fld.ETH_CNT_TX_DISC_CNT, Fld.ETH_CNT_TX_FRAMES_CNT, Fld.ETH_CNT_TX_OCTETS_CNT,
    Fld.ETH_FLOW_CNT_PKT])) :
    (State.answer s a1 a2 a3 a4 a5 a6).rd f i = s.rd f i := by
  simp only [Field.off_faultFields, Field.off_refFields, Field.off_linkDownFields, Field.off_cellFields,
    Field.off_append, Field.off_cons, Field.off_nil, and_true] at h
  simp [State.answer, h]
@[simp] theorem State.hcpAuthFail_rd (s : State) (a1 : HcpReq) (a2 : Nat) (f : Field) (i : Nat) (h : f.off (faultFields ++
    [Fld.HCP_CNT_AUTH_FAIL_CNT])) :
    (State.hcpAuthFail s a1 a2).rd f i = s.rd f i := by
  simp only [Field.off_faultFields, Field.off_refFields, Field.off_linkDownFields, Field.off_cellFields,
    Field.off_append, Field.off_cons, Field.off_nil, and_true] at h
  simp [State.hcpAuthFail, h]
@[simp] theorem State.respond_rd (s : State) (a1 : HcpReq) (a2 : Nat) (a3 : Nat) (a4 : Session) (a5 : Bool) (a6 : Status) (a7
    : List Byte) (f : Field) (i : Nat) (h : f.off ([Fld.ETH_CNT_TX_DISC_CNT, Fld.ETH_CNT_TX_FRAMES_CNT,
    Fld.ETH_CNT_TX_OCTETS_CNT, Fld.ETH_FLOW_CNT_PKT])) :
    (State.respond s a1 a2 a3 a4 a5 a6 a7).rd f i = s.rd f i := by
  simp only [Field.off_faultFields, Field.off_refFields, Field.off_linkDownFields, Field.off_cellFields,
    Field.off_append, Field.off_cons, Field.off_nil, and_true] at h
  simp [State.respond, h]
@[simp] theorem State.acceptSeq_rd (s : State) (a1 : HcpReq) (a2 : Nat) (f : Field) (i : Nat) :
    (State.acceptSeq s a1 a2).rd f i = s.rd f i := by
  simp [State.acceptSeq]
@[simp] theorem State.hcpIn_rd (s : State) (a1 : HcpReq) (a2 : State → State) (f : Field) (i : Nat) (h : f.off
    ([Fld.ETH_CNT_RX_FRAMES_CNT, Fld.ETH_CNT_RX_LONG_CNT, Fld.ETH_CNT_RX_OCTETS_CNT, Fld.ETH_CNT_RX_SHORT_CNT,
    Fld.HCP_CNT_FORMAT_CNT, Fld.HCP_CNT_OVERLOAD_CNT])) (ha2 : ∀ x0, (a2 x0).rd f i = x0.rd f i) :
    (State.hcpIn s a1 a2).rd f i = s.rd f i := by
  simp only [Field.off_faultFields, Field.off_refFields, Field.off_linkDownFields, Field.off_cellFields,
    Field.off_append, Field.off_cons, Field.off_nil, and_true] at h
  simp [State.hcpIn, h, ha2]
@[simp] theorem State.openSess_rd (s : State) (a1 : HcpReq) (f : Field) (i : Nat) (h : f.off ([Fld.HCP_CNT_SEQ_ERR_CNT,
    Fld.HCP_SLOT_OPENS_COUNT])) :
    (State.openSess s a1).state.rd f i = s.rd f i := by
  simp only [Field.off_faultFields, Field.off_refFields, Field.off_linkDownFields, Field.off_cellFields,
    Field.off_append, Field.off_cons, Field.off_nil, and_true] at h
  simp only [State.openSess]
  repeat' (first | (simp [h]; done) | split)
@[simp] theorem State.hopRest_rd (s : State) (a1 : Nat) (a2 : Option Nat) (f : Field) (i : Nat) (h : f.off (faultFields ++
    [Fld.HOP_CH_CTL_GO, Fld.HOP_CH_STAT_CAUSE, Fld.HOP_CH_STAT_STATE])) :
    (State.hopRest s a1 a2).rd f i = s.rd f i := by
  simp only [Field.off_faultFields, Field.off_refFields, Field.off_linkDownFields, Field.off_cellFields,
    Field.off_append, Field.off_cons, Field.off_nil, and_true] at h
  unfold State.hopRest
  repeat' (first | (simp [h]; done) | split)
@[simp] theorem State.hopSurf_rd (s : State) (a1 : HopCh) (a2 : Bool) (f : Field) (i : Nat) :
    (State.hopSurf s a1 a2).rd f i = s.rd f i := by
  simp [State.hopSurf]
@[simp] theorem State.hopFeed_rd (s : State) (a1 : Nat) (a2 : HopCh) (f : Field) (i : Nat) (h : f.off ([Fld.CRC_VALUE_V])) :
    (State.hopFeed s a1 a2).rd f i = s.rd f i := by
  simp only [Field.off_faultFields, Field.off_refFields, Field.off_linkDownFields, Field.off_cellFields,
    Field.off_append, Field.off_cons, Field.off_nil, and_true] at h
  simp [State.hopFeed, h]
@[simp] theorem State.hopErr_rd (s : State) (a1 : Nat) (a2 : HopCh) (a3 : Nat) (a4 : Nat) (a5 : BeatRes) (f : Field) (i : Nat)
    (h : f.off ([Fld.HOP_CH_STAT_RETRIES])) :
    (State.hopErr s a1 a2 a3 a4 a5).rd f i = s.rd f i := by
  simp only [Field.off_faultFields, Field.off_refFields, Field.off_linkDownFields, Field.off_cellFields,
    Field.off_append, Field.off_cons, Field.off_nil, and_true] at h
  simp [State.hopErr, h]
@[simp] theorem State.relaySend_rd (s : State) (a1 : Nat) (a2 : Nat) (a3 : Nat) (a4 : Nat) (a5 : Nat) (a6 : List Byte) (f :
    Field) (i : Nat) (h : f.off ([Fld.IZL_LINK_STAT_TX_IDLE])) :
    (State.relaySend s a1 a2 a3 a4 a5 a6).rd f i = s.rd f i := by
  simp only [Field.off_faultFields, Field.off_refFields, Field.off_linkDownFields, Field.off_cellFields,
    Field.off_append, Field.off_cons, Field.off_nil, and_true] at h
  simp [State.relaySend, h]
@[simp] theorem State.offerOn_rd (s : State) (a1 : Nat) (a2 : List Nat) (f : Field) (i : Nat) (h : f.off
    ([Fld.IZL_LINK_STAT_TX_IDLE])) :
    (State.offerOn s a1 a2).rd f i = s.rd f i := by
  simp only [Field.off_faultFields, Field.off_refFields, Field.off_linkDownFields, Field.off_cellFields,
    Field.off_append, Field.off_cons, Field.off_nil, and_true] at h
  simp [State.offerOn, h]
@[simp] theorem State.relayIn_rd (s : State) (a1 : Nat) (a2 : RxCell) (a3 : Nat) (a4 : State → RelayIn → State) (f : Field) (i
    : Nat) (h : f.off (faultFields ++ cellFields ++ [Fld.IZL_CNT_STUFF_VIOL_CNT])) (ha4 : ∀ x0 x1, (a4 x0 x1).rd f i = x0.rd f
    i) :
    (State.relayIn s a1 a2 a3 a4).rd f i = s.rd f i := by
  simp only [Field.off_faultFields, Field.off_refFields, Field.off_linkDownFields, Field.off_cellFields,
    Field.off_append, Field.off_cons, Field.off_nil, and_true] at h
  simp [State.relayIn, h, ha4]
@[simp] theorem State.relayPump_rd (s : State) (a1 : Nat) (a2 : Nat) (a3 : Nat) (f : Field) (i : Nat) (h : f.off
    ([Fld.IZL_LINK_STAT_TX_IDLE])) :
    (State.relayPump s a1 a2 a3).rd f i = s.rd f i := by
  simp only [Field.off_faultFields, Field.off_refFields, Field.off_linkDownFields, Field.off_cellFields,
    Field.off_append, Field.off_cons, Field.off_nil, and_true] at h
  induction a3 generalizing s with
  | zero => rfl
  | succ n ih =>
    simp only [State.relayPump]
    split <;> simp [h, ih]
@[simp] theorem State.relayEnds_rd (s : State) (a1 : Nat) (f : Field) (i : Nat) :
    (State.relayEnds s a1).rd f i = s.rd f i := by
  simp [State.relayEnds]
@[simp] theorem State.pulseIn_rd (s : State) (a1 : Nat) (a2 : Nat) (a3 : Int) (f : Field) (i : Nat) (h : f.off (faultFields ++
    refFields ++ [Fld.KILN_LOOP_ERR, Fld.KILN_REF_CNT_REJECT, Fld.KILN_REF_OFFSET_DELTA])) :
    (State.pulseIn s a1 a2 a3).rd f i = s.rd f i := by
  simp only [Field.off_faultFields, Field.off_refFields, Field.off_linkDownFields, Field.off_cellFields,
    Field.off_append, Field.off_cons, Field.off_nil, and_true] at h
  simp [State.pulseIn, h]
@[simp] theorem State.freqFault_rd (s : State) (a1 : Nat) (a2 : Bool) (f : Field) (i : Nat) (h : f.off (faultFields ++
    refFields)) :
    (State.freqFault s a1 a2).rd f i = s.rd f i := by
  simp only [Field.off_faultFields, Field.off_refFields, Field.off_linkDownFields, Field.off_cellFields,
    Field.off_append, Field.off_cons, Field.off_nil, and_true] at h
  simp [State.freqFault, h]
@[simp] theorem State.addError_rd (s : State) (a1 : Nat) (f : Field) (i : Nat) :
    (State.addError s a1).rd f i = s.rd f i := by
  simp [State.addError]
@[simp] theorem State.oscLost_rd (s : State) (f : Field) (i : Nat) (h : f.off (faultFields ++ [Fld.KILN_STAT_HO_EXPIRED,
    Fld.KILN_STAT_OSC_XO])) :
    (State.oscLost s).rd f i = s.rd f i := by
  simp only [Field.off_faultFields, Field.off_refFields, Field.off_linkDownFields, Field.off_cellFields,
    Field.off_append, Field.off_cons, Field.off_nil, and_true] at h
  simp [State.oscLost, h]
@[simp] theorem State.fitModel_rd (s : State) (f : Field) (i : Nat) (h : f.off ([Fld.KILN_MODEL_AGING_VALUE,
    Fld.KILN_MODEL_TC_VALUE, Fld.KILN_MODEL_UC_VALUE, Fld.KILN_MODEL_UD_VALUE, Fld.KILN_MODEL_UY_VALUE,
    Fld.KILN_MODEL_Y0_VALUE])) :
    (State.fitModel s).rd f i = s.rd f i := by
  simp only [Field.off_faultFields, Field.off_refFields, Field.off_linkDownFields, Field.off_cellFields,
    Field.off_append, Field.off_cons, Field.off_nil, and_true] at h
  simp [State.fitModel, modelFields, h]
@[simp] theorem State.toutStep_rd (s : State) (a1 : Nat) (a2 : Nat) (a3 : Nat) (f : Field) (i : Nat) :
    (State.toutStep s a1 a2 a3).rd f i = s.rd f i := by
  simp [State.toutStep]
@[simp] theorem State.setLane_rd (s : State) (a1 : Nat) (a2 : Nat) (a3 : Bool) (f : Field) (i : Nat) (h : f.off
    ([Fld.IZL_LINK_STAT_LANES_OK])) :
    (State.setLane s a1 a2 a3).rd f i = s.rd f i := by
  simp only [Field.off_faultFields, Field.off_refFields, Field.off_linkDownFields, Field.off_cellFields,
    Field.off_append, Field.off_cons, Field.off_nil, and_true] at h
  simp [State.setLane, h]
@[simp] theorem State.linkDown_rd (s : State) (a1 : Nat) (f : Field) (i : Nat) (h : f.off (faultFields ++ refFields ++
    linkDownFields)) :
    (State.linkDown s a1).rd f i = s.rd f i := by
  simp only [Field.off_faultFields, Field.off_refFields, Field.off_linkDownFields, Field.off_cellFields,
    Field.off_append, Field.off_cons, Field.off_nil, and_true] at h
  simp [State.linkDown, h]
@[simp] theorem State.clearSeen_rd (s : State) (a1 : Nat) (f : Field) (i : Nat) (h : f.off ([Fld.IZL_LANE_STAT_SEEN])) :
    (State.clearSeen s a1).rd f i = s.rd f i := by
  simp only [Field.off_faultFields, Field.off_refFields, Field.off_linkDownFields, Field.off_cellFields,
    Field.off_append, Field.off_cons, Field.off_nil, and_true] at h
  simp [State.clearSeen, h]
@[simp] theorem State.laneFail_rd (s : State) (a1 : Nat) (a2 : Nat) (f : Field) (i : Nat) (h : f.off (faultFields ++ refFields
    ++ linkDownFields ++ [Fld.IZL_LANE_STAT_FAILED, Fld.IZL_LANE_STAT_LOCK, Fld.IZL_LINK_STAT_LANES_OK])) :
    (State.laneFail s a1 a2).rd f i = s.rd f i := by
  simp only [Field.off_faultFields, Field.off_refFields, Field.off_linkDownFields, Field.off_cellFields,
    Field.off_append, Field.off_cons, Field.off_nil, and_true] at h
  simp [State.laneFail, h]
@[simp] theorem State.unfail_rd (s : State) (a1 : Nat) (f : Field) (i : Nat) (h : f.off ([Fld.IZL_LANE_STAT_FAILED,
    Fld.IZL_LINK_STAT_LANES_OK])) :
    (State.unfail s a1).rd f i = s.rd f i := by
  simp only [Field.off_faultFields, Field.off_refFields, Field.off_linkDownFields, Field.off_cellFields,
    Field.off_append, Field.off_cons, Field.off_nil, and_true] at h
  simp [State.unfail, h]
@[simp] theorem State.wordIn_rd (s : State) (a1 : Nat) (a2 : Nat) (a3 : Nat) (a4 : RxWord) (f : Field) (i : Nat) (h : f.off
    ([Fld.IZL_CNT_STUFF_VIOL_CNT])) :
    (State.wordIn s a1 a2 a3 a4).2.rd f i = s.rd f i := by
  simp only [Field.off_faultFields, Field.off_refFields, Field.off_linkDownFields, Field.off_cellFields,
    Field.off_append, Field.off_cons, Field.off_nil, and_true] at h
  unfold State.wordIn
  repeat' (first | (simp [h]; done) | split)
@[simp] theorem State.wordCheck_rd (s : State) (a1 : Nat) (a2 : Nat) (a3 : List Byte) (f : Field) (i : Nat) (h : f.off
    (faultFields ++ refFields ++ linkDownFields ++ [Fld.IZL_LANE_STAT_FAILED, Fld.IZL_LANE_STAT_LOCK,
    Fld.IZL_LINK_STAT_LANES_OK, Fld.IZL_LINK_STAT_MISWIRE])) :
    (State.wordCheck s a1 a2 a3).2.rd f i = s.rd f i := by
  simp only [Field.off_faultFields, Field.off_refFields, Field.off_linkDownFields, Field.off_cellFields,
    Field.off_append, Field.off_cons, Field.off_nil, and_true] at h
  simp [State.wordCheck, h]
@[simp] theorem State.newPeriod_rd (s : State) (a1 : Nat) (a2 : Nat) (f : Field) (i : Nat) :
    (State.newPeriod s a1 a2).rd f i = s.rd f i := by
  simp [State.newPeriod]
@[simp] theorem State.endPeriod_rd (s : State) (a1 : Nat) (a2 : Nat) (f : Field) (i : Nat) (h : f.off (faultFields ++
    refFields ++ linkDownFields ++ [Fld.IZL_LANE_STAT_FAILED, Fld.IZL_LANE_STAT_LOCK, Fld.IZL_LINK_STAT_LANES_OK])) :
    (State.endPeriod s a1 a2).rd f i = s.rd f i := by
  simp only [Field.off_faultFields, Field.off_refFields, Field.off_linkDownFields, Field.off_cellFields,
    Field.off_append, Field.off_cons, Field.off_nil, and_true] at h
  simp [State.endPeriod, h]
@[simp] theorem State.markerMiss_rd (s : State) (a1 : Nat) (a2 : Nat) (f : Field) (i : Nat) (h : f.off (faultFields ++
    refFields ++ linkDownFields ++ [Fld.IZL_CNT_MARKER_MISS_CNT, Fld.IZL_LANE_STAT_FAILED, Fld.IZL_LANE_STAT_LOCK,
    Fld.IZL_LINK_STAT_LANES_OK])) :
    (State.markerMiss s a1 a2).rd f i = s.rd f i := by
  simp only [Field.off_faultFields, Field.off_refFields, Field.off_linkDownFields, Field.off_cellFields,
    Field.off_append, Field.off_cons, Field.off_nil, and_true] at h
  simp [State.markerMiss, h]
@[simp] theorem State.takeMode_rd (s : State) (a1 : Nat) (a2 : Nat) (f : Field) (i : Nat) (h : f.off (faultFields ++ refFields
    ++ [Fld.IZL_LINK_STAT_RX_OMIT, Fld.IZL_LINK_STAT_STATE])) :
    (State.takeMode s a1 a2).rd f i = s.rd f i := by
  simp only [Field.off_faultFields, Field.off_refFields, Field.off_linkDownFields, Field.off_cellFields,
    Field.off_append, Field.off_cons, Field.off_nil, and_true] at h
  simp [State.takeMode, h]
@[simp] theorem State.takeMap_rd (s : State) (a1 : Nat) (a2 : Nat) (a3 : Nat) (f : Field) (i : Nat) (h : f.off
    ([Fld.IZL_LINK_STAT_FAR_MAP])) :
    (State.takeMap s a1 a2 a3).rd f i = s.rd f i := by
  simp only [Field.off_faultFields, Field.off_refFields, Field.off_linkDownFields, Field.off_cellFields,
    Field.off_append, Field.off_cons, Field.off_nil, and_true] at h
  simp only [State.takeMap]
  repeat' (first | (simp [h]; done) | split)
@[simp] theorem State.trainMarker_rd (s : State) (a1 : Nat) (a2 : Nat) (a3 : Bool) (a4 : Nat) (f : Field) (i : Nat) :
    (State.trainMarker s a1 a2 a3 a4).rd f i = s.rd f i := by
  simp [State.trainMarker]
@[simp] theorem State.goodMarker_rd (s : State) (a1 : Nat) (a2 : Nat) (a3 : Nat) (a4 : Nat) (f : Field) (i : Nat) (h : f.off
    (faultFields ++ refFields ++ [Fld.IZL_LANE_STAT_LOCK, Fld.IZL_LANE_STAT_PHASE, Fld.IZL_LINK_STAT_FAR_MAP,
    Fld.IZL_LINK_STAT_RX_OMIT, Fld.IZL_LINK_STAT_STATE])) :
    (State.goodMarker s a1 a2 a3 a4).rd f i = s.rd f i := by
  simp only [Field.off_faultFields, Field.off_refFields, Field.off_linkDownFields, Field.off_cellFields,
    Field.off_append, Field.off_cons, Field.off_nil, and_true] at h
  simp [State.goodMarker, h]
@[simp] theorem State.rxIdle_rd (s : State) (a1 : Nat) (a2 : Nat) (a3 : Nat) (a4 : RxWord) (f : Field) (i : Nat) (h : f.off
    (faultFields ++ refFields ++ linkDownFields ++ [Fld.IZL_CNT_STUFF_VIOL_CNT, Fld.IZL_LANE_STAT_FAILED,
    Fld.IZL_LANE_STAT_LOCK, Fld.IZL_LINK_STAT_LANES_OK, Fld.IZL_LINK_STAT_MISWIRE])) :
    (State.rxIdle s a1 a2 a3 a4).rd f i = s.rd f i := by
  simp only [Field.off_faultFields, Field.off_refFields, Field.off_linkDownFields, Field.off_cellFields,
    Field.off_append, Field.off_cons, Field.off_nil, and_true] at h
  simp only [State.rxIdle]
  repeat' (first | (simp [h]; done) | split)
@[simp] theorem State.clockFault_rd (s : State) (a1 : Nat) (a2 : Bool) (f : Field) (i : Nat) (h : f.off (faultFields ++
    refFields ++ linkDownFields ++ [Fld.IZL_LANE_STAT_FAILED, Fld.IZL_LINK_STAT_LANES_OK])) :
    (State.clockFault s a1 a2).rd f i = s.rd f i := by
  simp only [Field.off_faultFields, Field.off_refFields, Field.off_linkDownFields, Field.off_cellFields,
    Field.off_append, Field.off_cons, Field.off_nil, and_true] at h
  simp [State.clockFault, h]
@[simp] theorem State.prbsRun_rd (s : State) (a1 : Nat) (a2 : Nat) (a3 : List Bool) (f : Field) (i : Nat) (h : f.off
    ([Fld.IZL_PRBS_CTL_CHK_LOCK, Fld.IZL_PRBS_ERR_CNT])) :
    (State.prbsRun s a1 a2 a3).rd f i = s.rd f i := by
  simp only [Field.off_faultFields, Field.off_refFields, Field.off_linkDownFields, Field.off_cellFields,
    Field.off_append, Field.off_cons, Field.off_nil, and_true] at h
  simp [State.prbsRun, h]
@[simp] theorem State.refsLost_rd (s : State) (f : Field) (i : Nat) (h : f.off (faultFields ++ refFields)) :
    (State.refsLost s).rd f i = s.rd f i := by
  simp only [Field.off_faultFields, Field.off_refFields, Field.off_linkDownFields, Field.off_cellFields,
    Field.off_append, Field.off_cons, Field.off_nil, and_true] at h
  simp [State.refsLost, h]
@[simp] theorem State.setIso_rd (s : State) (a1 : Bool) (f : Field) (i : Nat) :
    (State.setIso s a1).rd f i = s.rd f i := State.rd_of_rv rfl f i
@[simp] theorem State.toggleLease_rd (s : State) (f : Field) (i : Nat) :
    (State.toggleLease s).rd f i = s.rd f i := by
  simp [State.toggleLease]
@[simp] theorem State.sendRenew_rd (s : State) (f : Field) (i : Nat) (h : f.off ([Fld.IZL_LINK_STAT_TX_IDLE])) :
    (State.sendRenew s).rd f i = s.rd f i := by
  simp only [Field.off_faultFields, Field.off_refFields, Field.off_linkDownFields, Field.off_cellFields,
    Field.off_append, Field.off_cons, Field.off_nil, and_true] at h
  simp [State.sendRenew, h]
@[simp] theorem State.becomeStandby_rd (s : State) (f : Field) (i : Nat) (h : f.off (faultFields ++ refFields)) :
    (State.becomeStandby s).rd f i = s.rd f i := by
  simp only [Field.off_faultFields, Field.off_refFields, Field.off_linkDownFields, Field.off_cellFields,
    Field.off_append, Field.off_cons, Field.off_nil, and_true] at h
  simp [State.becomeStandby, h]
@[simp] theorem State.becomeHolder_rd (s : State) (a1 : Nat) (f : Field) (i : Nat) (h : f.off (faultFields ++ refFields ++
    [Fld.MNTL_STAT_EPOCH])) :
    (State.becomeHolder s a1).rd f i = s.rd f i := by
  simp only [Field.off_faultFields, Field.off_refFields, Field.off_linkDownFields, Field.off_cellFields,
    Field.off_append, Field.off_cons, Field.off_nil, and_true] at h
  simp [State.becomeHolder, h]
@[simp] theorem State.claim_rd (s : State) (f : Field) (i : Nat) (h : f.off (faultFields ++ refFields ++
    [Fld.MNTL_CNT_CLAIM_CNT, Fld.MNTL_STAT_EPOCH])) :
    (State.claim s).rd f i = s.rd f i := by
  simp only [Field.off_faultFields, Field.off_refFields, Field.off_linkDownFields, Field.off_cellFields,
    Field.off_append, Field.off_cons, Field.off_nil, and_true] at h
  simp [State.claim, h]
@[simp] theorem State.mantleIn_rd (s : State) (a1 : RxCell) (a2 : Nat) (a3 : State → MantleIn → State) (f : Field) (i : Nat)
    (h : f.off (faultFields ++ cellFields ++ [Fld.IZL_CNT_STUFF_VIOL_CNT])) (ha3 : ∀ x0 x1, (a3 x0 x1).rd f i = x0.rd f i) :
    (State.mantleIn s a1 a2 a3).rd f i = s.rd f i := by
  simp only [Field.off_faultFields, Field.off_refFields, Field.off_linkDownFields, Field.off_cellFields,
    Field.off_append, Field.off_cons, Field.off_nil, and_true] at h
  simp [State.mantleIn, h, ha3]
@[simp] theorem State.seeRenewal_rd (s : State) (a1 : Nat) (f : Field) (i : Nat) (h : f.off (faultFields ++ refFields)) :
    (State.seeRenewal s a1).rd f i = s.rd f i := by
  simp only [Field.off_faultFields, Field.off_refFields, Field.off_linkDownFields, Field.off_cellFields,
    Field.off_append, Field.off_cons, Field.off_nil, and_true] at h
  simp [State.seeRenewal, h]
@[simp] theorem State.confirm_rd (s : State) (f : Field) (i : Nat) :
    (State.confirm s).rd f i = s.rd f i := by
  simp [State.confirm]
@[simp] theorem State.setPref_rd (s : State) (a1 : Bool) (f : Field) (i : Nat) (h : f.off ([Fld.MNTL_STAT_PREF])) :
    (State.setPref s a1).rd f i = s.rd f i := by
  simp only [Field.off_faultFields, Field.off_refFields, Field.off_linkDownFields, Field.off_cellFields,
    Field.off_append, Field.off_cons, Field.off_nil, and_true] at h
  simp [State.setPref, h]
@[simp] theorem State.timeCheck_rd (s : State) (a1 : Int) (f : Field) (i : Nat) (h : f.off (faultFields)) :
    (State.timeCheck s a1).rd f i = s.rd f i := by
  simp only [Field.off_faultFields, Field.off_refFields, Field.off_linkDownFields, Field.off_cellFields,
    Field.off_append, Field.off_cons, Field.off_nil, and_true] at h
  simp [State.timeCheck, h]
@[simp] theorem State.sigCompare_rd (s : State) (a1 : SigEntry) (a2 : SigEntry) (f : Field) (i : Nat) (h : f.off (faultFields
    ++ [Fld.MNTL_CNT_SIG_MISMATCH_CNT, Fld.MNTL_SIG_STAT_LAST_DST, Fld.MNTL_SIG_STAT_REPORTED])) :
    (State.sigCompare s a1 a2).rd f i = s.rd f i := by
  simp only [Field.off_faultFields, Field.off_refFields, Field.off_linkDownFields, Field.off_cellFields,
    Field.off_append, Field.off_cons, Field.off_nil, and_true] at h
  simp [State.sigCompare, h]
@[simp] theorem State.followStep_rd (s : State) (a1 : Nat) (a2 : Nat) (f : Field) (i : Nat) :
    (State.followStep s a1 a2).rd f i = s.rd f i := by
  simp [State.followStep]
@[simp] theorem State.slipRead_rd (s : State) (a1 : Nat) (a2 : Nat) (a3 : Nat) (a4 : Nat) (a5 : Nat) (f : Field) (i : Nat) (h
    : f.off (faultFields ++ [Fld.MASH_CNT_SLIP_CNT])) :
    (State.slipRead s a1 a2 a3 a4 a5).2.rd f i = s.rd f i := by
  simp only [Field.off_faultFields, Field.off_refFields, Field.off_linkDownFields, Field.off_cellFields,
    Field.off_append, Field.off_cons, Field.off_nil, and_true] at h
  simp [State.slipRead, h]
@[simp] theorem State.putRoute_rd (s : State) (a1 : Nat) (a2 : TapS) (f : Field) (i : Nat) :
    (State.putRoute s a1 a2).rd f i = s.rd f i := by
  simp [State.putRoute]
@[simp] theorem State.putEntry_rd (s : State) (a1 : Nat) (a2 : TapS) (f : Field) (i : Nat) :
    (State.putEntry s a1 a2).rd f i = s.rd f i := by
  simp [State.putEntry]
@[simp] theorem State.putBus_rd (s : State) (a1 : Nat) (a2 : BusS) (f : Field) (i : Nat) :
    (State.putBus s a1 a2).rd f i = s.rd f i := by
  simp [State.putBus]
@[simp] theorem State.faderSwap_rd (s : State) (a1 : Nat) (a2 : Nat) (a3 : Nat) (f : Field) (i : Nat) :
    (State.faderSwap s a1 a2 a3).rd f i = s.rd f i := by
  simp [State.faderSwap]
@[simp] theorem State.swapDiff_rd (s : State) (a1 : State) (a2 : Nat) (a3 : Nat) (a4 : List CsItem) (f : Field) (i : Nat) :
    (State.swapDiff s a1 a2 a3 a4).rd f i = s.rd f i := by
  simp [State.swapDiff]
@[simp] theorem State.stepTap_rd (s : State) (a1 : Nat) (a2 : TapS) (a3 : Int) (a4 : Int) (f : Field) (i : Nat) (h : f.off
    ([Fld.MASH_CNT_ZC_TIMEOUT_CNT])) :
    (State.stepTap s a1 a2 a3 a4).2.rd f i = s.rd f i := by
  simp only [Field.off_faultFields, Field.off_refFields, Field.off_linkDownFields, Field.off_cellFields,
    Field.off_append, Field.off_cons, Field.off_nil, and_true] at h
  simp [State.stepTap, h]
@[simp] theorem State.entryStep_rd (s : State) (a1 : Nat) (a2 : Nat) (a3 : Nat) (f : Field) (i : Nat) (h : f.off (faultFields
    ++ [Fld.MASH_BUSIN_MUTED, Fld.MASH_CNT_BUS_UNLOCK_CNT, Fld.MASH_CNT_ZC_TIMEOUT_CNT])) :
    (State.entryStep s a1 a2 a3).2.rd f i = s.rd f i := by
  simp only [Field.off_faultFields, Field.off_refFields, Field.off_linkDownFields, Field.off_cellFields,
    Field.off_append, Field.off_cons, Field.off_nil, and_true] at h
  simp [State.entryStep, h]
@[simp] theorem State.dynamics_rd (s : State) (a1 : Nat) (a2 : Nat) (a3 : Int) (f : Field) (i : Nat) (h : f.off
    ([Fld.MASH_BUS_STAT_CLIP])) :
    (State.dynamics s a1 a2 a3).2.rd f i = s.rd f i := by
  simp only [Field.off_faultFields, Field.off_refFields, Field.off_linkDownFields, Field.off_cellFields,
    Field.off_append, Field.off_cons, Field.off_nil, and_true] at h
  simp [State.dynamics, h]
@[simp] theorem State.toSample_rd (s : State) (a1 : Int) (f : Field) (i : Nat) (h : f.off (faultFields ++
    [Fld.MASH_CNT_OUT_SAT_CNT])) :
    (State.toSample s a1).2.rd f i = s.rd f i := by
  simp only [Field.off_faultFields, Field.off_refFields, Field.off_linkDownFields, Field.off_cellFields,
    Field.off_append, Field.off_cons, Field.off_nil, and_true] at h
  simp [State.toSample, h]
@[simp] theorem State.busSum_rd (s : State) (a1 : Nat) (a2 : Nat) (a3 : List Nat) (f : Field) (i : Nat) (h : f.off
    (faultFields ++ [Fld.MASH_BUSIN_MUTED, Fld.MASH_CNT_BUS_UNLOCK_CNT, Fld.MASH_CNT_ZC_TIMEOUT_CNT])) :
    (State.busSum s a1 a2 a3).2.rd f i = s.rd f i := by
  simp only [Field.off_faultFields, Field.off_refFields, Field.off_linkDownFields, Field.off_cellFields,
    Field.off_append, Field.off_cons, Field.off_nil, and_true] at h
  simp [State.busSum, h]
@[simp] theorem State.busFade_rd (s : State) (a1 : Nat) (a2 : Nat) (f : Field) (i : Nat) (h : f.off ([Fld.MASH_BUS_STAT_LEVEL,
    Fld.MASH_BUS_STAT_RAMPING])) :
    (State.busFade s a1 a2).2.rd f i = s.rd f i := by
  simp only [Field.off_faultFields, Field.off_refFields, Field.off_linkDownFields, Field.off_cellFields,
    Field.off_append, Field.off_cons, Field.off_nil, and_true] at h
  simp [State.busFade, h]
@[simp] theorem State.busSend_rd (s : State) (a1 : Nat) (a2 : Int) (f : Field) (i : Nat) (h : f.off (faultFields ++
    [Fld.MASH_BUS_STAT_GR, Fld.MASH_CNT_OUT_SAT_CNT])) :
    (State.busSend s a1 a2).rd f i = s.rd f i := by
  simp only [Field.off_faultFields, Field.off_refFields, Field.off_linkDownFields, Field.off_cellFields,
    Field.off_append, Field.off_cons, Field.off_nil, and_true] at h
  simp [State.busSend, h]
@[simp] theorem State.busStep_rd (s : State) (a1 : Nat) (a2 : Nat) (a3 : List Nat) (f : Field) (i : Nat) (h : f.off
    (faultFields ++ [Fld.MASH_BUSIN_MUTED, Fld.MASH_BUS_STAT_CLIP, Fld.MASH_BUS_STAT_GR, Fld.MASH_BUS_STAT_LEVEL,
    Fld.MASH_BUS_STAT_RAMPING, Fld.MASH_CNT_BUS_UNLOCK_CNT, Fld.MASH_CNT_OUT_SAT_CNT, Fld.MASH_CNT_ZC_TIMEOUT_CNT])) :
    (State.busStep s a1 a2 a3).rd f i = s.rd f i := by
  simp only [Field.off_faultFields, Field.off_refFields, Field.off_linkDownFields, Field.off_cellFields,
    Field.off_append, Field.off_cons, Field.off_nil, and_true] at h
  simp [State.busStep, h]
@[simp] theorem State.busesStep_rd (s : State) (a1 : Nat) (f : Field) (i : Nat) (h : f.off (faultFields ++
    [Fld.MASH_BUSIN_MUTED, Fld.MASH_BUS_STAT_CLIP, Fld.MASH_BUS_STAT_GR, Fld.MASH_BUS_STAT_LEVEL, Fld.MASH_BUS_STAT_RAMPING,
    Fld.MASH_CNT_BUS_UNLOCK_CNT, Fld.MASH_CNT_OUT_SAT_CNT, Fld.MASH_CNT_ZC_TIMEOUT_CNT])) :
    (State.busesStep s a1).rd f i = s.rd f i := by
  simp only [Field.off_faultFields, Field.off_refFields, Field.off_linkDownFields, Field.off_cellFields,
    Field.off_append, Field.off_cons, Field.off_nil, and_true] at h
  simp [State.busesStep, h]
@[simp] theorem State.routeStep_rd (s : State) (a1 : Nat) (a2 : Nat) (f : Field) (i : Nat) (h : f.off (faultFields ++
    [Fld.MASH_CNT_OUT_SAT_CNT, Fld.MASH_CNT_SLIP_CNT, Fld.MASH_CNT_ZC_TIMEOUT_CNT])) :
    (State.routeStep s a1 a2).rd f i = s.rd f i := by
  simp only [Field.off_faultFields, Field.off_refFields, Field.off_linkDownFields, Field.off_cellFields,
    Field.off_append, Field.off_cons, Field.off_nil, and_true] at h
  simp only [State.routeStep]
  repeat' (first | (simp [h]; done) | split)
@[simp] theorem State.crossLost_rd (s : State) (f : Field) (i : Nat) :
    (State.crossLost s).rd f i = s.rd f i := by
  simp [State.crossLost]
@[simp] theorem State.txMedia_rd (s : State) (a1 : Nat) (a2 : Nat) (a3 : List Byte) (f : Field) (i : Nat) (h : f.off
    ([Fld.ETH_CNT_TX_DISC_CNT, Fld.ETH_CNT_TX_FRAMES_CNT, Fld.ETH_CNT_TX_OCTETS_CNT, Fld.ETH_FLOW_CNT_PKT])) :
    (State.txMedia s a1 a2 a3).rd f i = s.rd f i := by
  simp only [Field.off_faultFields, Field.off_refFields, Field.off_linkDownFields, Field.off_cellFields,
    Field.off_append, Field.off_cons, Field.off_nil, and_true] at h
  simp [State.txMedia, h]
@[simp] theorem State.txPair_rd (s : State) (a1 : Nat) (a2 : Nat) (a3 : List Byte) (f : Field) (i : Nat) (h : f.off
    ([Fld.ETH_CNT_TX_DISC_CNT, Fld.ETH_CNT_TX_FRAMES_CNT, Fld.ETH_CNT_TX_OCTETS_CNT, Fld.ETH_FLOW_CNT_PKT])) :
    (State.txPair s a1 a2 a3).rd f i = s.rd f i := by
  simp only [Field.off_faultFields, Field.off_refFields, Field.off_linkDownFields, Field.off_cellFields,
    Field.off_append, Field.off_cons, Field.off_nil, and_true] at h
  simp [State.txPair, h]
@[simp] theorem State.sinks_rd (s : State) (a1 : Nat) (f : Field) (i : Nat) (h : f.off ([Fld.ETH_CNT_TX_DISC_CNT,
    Fld.ETH_CNT_TX_FRAMES_CNT, Fld.ETH_CNT_TX_OCTETS_CNT, Fld.ETH_FLOW_CNT_PKT])) :
    (State.sinks s a1).rd f i = s.rd f i := by
  simp only [Field.off_faultFields, Field.off_refFields, Field.off_linkDownFields, Field.off_cellFields,
    Field.off_append, Field.off_cons, Field.off_nil, and_true] at h
  simp [State.sinks, h]
@[simp] theorem State.evalLock_rd (s : State) (a1 : Nat) (f : Field) (i : Nat) (h : f.off ([Fld.MASH_SRC_AUDIO_UNLOCKED])) :
    (State.evalLock s a1).rd f i = s.rd f i := by
  simp only [Field.off_faultFields, Field.off_refFields, Field.off_linkDownFields, Field.off_cellFields,
    Field.off_append, Field.off_cons, Field.off_nil, and_true] at h
  simp [State.evalLock, h]
@[simp] theorem State.audioPacket_rd (s : State) (a1 : Nat) (a2 : Nat) (a3 : List Byte) (f : Field) (i : Nat) :
    (State.audioPacket s a1 a2 a3).rd f i = s.rd f i := by
  simp [State.audioPacket]
@[simp] theorem State.audioControl_rd (s : State) (a1 : Nat) (a2 : Nat) (a3 : List Byte) (f : Field) (i : Nat) (h : f.off
    (faultFields ++ [Fld.MASH_CNT_RATE_ERR_CNT, Fld.MASH_SRC_AUDIO_RATE_ERR])) :
    (State.audioControl s a1 a2 a3).rd f i = s.rd f i := by
  simp only [Field.off_faultFields, Field.off_refFields, Field.off_linkDownFields, Field.off_cellFields,
    Field.off_append, Field.off_cons, Field.off_nil, and_true] at h
  simp [State.audioControl, h]
@[simp] theorem State.ancStore_rd (s : State) (a1 : Nat) (a2 : List Byte) (f : Field) (i : Nat) (h : f.off
    ([Fld.CASK_CNT_ANC_TRUNC_CNT])) :
    (State.ancStore s a1 a2).rd f i = s.rd f i := by
  simp only [Field.off_faultFields, Field.off_refFields, Field.off_linkDownFields, Field.off_cellFields,
    Field.off_append, Field.off_cons, Field.off_nil, and_true] at h
  simp [State.ancStore, h]
@[simp] theorem State.ancPacket_rd (s : State) (a1 : Nat) (a2 : List Byte) (f : Field) (i : Nat) (h : f.off (faultFields ++
    [Fld.CASK_CNT_ANC_TRUNC_CNT, Fld.MASH_CNT_ANC_DROP_CNT, Fld.MASH_CNT_RATE_ERR_CNT, Fld.MASH_SRC_AUDIO_RATE_ERR])) :
    (State.ancPacket s a1 a2).rd f i = s.rd f i := by
  simp only [Field.off_faultFields, Field.off_refFields, Field.off_linkDownFields, Field.off_cellFields,
    Field.off_append, Field.off_cons, Field.off_nil, and_true] at h
  unfold State.ancPacket
  repeat' (first | (simp [h]; done) | split)
@[simp] theorem State.ancCell_rd (s : State) (a1 : Nat) (a2 : Hdr) (a3 : List Byte) (a4 : Bool) (f : Field) (i : Nat) (h :
    f.off (faultFields ++ [Fld.CASK_CNT_ANC_TRUNC_CNT, Fld.CELL_CNT_OVERRUN_CNT, Fld.MASH_CNT_ANC_DROP_CNT,
    Fld.MASH_CNT_RATE_ERR_CNT, Fld.MASH_SRC_AUDIO_RATE_ERR])) :
    (State.ancCell s a1 a2 a3 a4).rd f i = s.rd f i := by
  simp only [Field.off_faultFields, Field.off_refFields, Field.off_linkDownFields, Field.off_cellFields,
    Field.off_append, Field.off_cons, Field.off_nil, and_true] at h
  simp [State.ancCell, h]
@[simp] theorem State.pushSample_rd (s : State) (a1 : Nat) (a2 : Int) (f : Field) (i : Nat) :
    (State.pushSample s a1 a2).rd f i = s.rd f i := by
  simp [State.pushSample]
@[simp] theorem State.poolLane_rd (s : State) (a1 : Nat) (f : Field) (i : Nat) (h : f.off ([Fld.MASH_SRC_AUDIO_UNLOCKED])) :
    (State.poolLane s a1).rd f i = s.rd f i := by
  simp only [Field.off_faultFields, Field.off_refFields, Field.off_linkDownFields, Field.off_cellFields,
    Field.off_append, Field.off_cons, Field.off_nil, and_true] at h
  simp [State.poolLane, h]
@[simp] theorem State.poolPort_rd (s : State) (a1 : Nat) (a2 : Nat) (f : Field) (i : Nat) (h : f.off ([Fld.APRT_CNT_SLIP_CNT,
    Fld.APRT_PORT_STAT_FILL])) :
    (State.poolPort s a1 a2).rd f i = s.rd f i := by
  simp only [Field.off_faultFields, Field.off_refFields, Field.off_linkDownFields, Field.off_cellFields,
    Field.off_append, Field.off_cons, Field.off_nil, and_true] at h
  simp [State.poolPort, h]
@[simp] theorem State.poolStep_rd (s : State) (a1 : Nat) (f : Field) (i : Nat) (h : f.off ([Fld.APRT_CNT_SLIP_CNT,
    Fld.APRT_PORT_STAT_FILL, Fld.MASH_SRC_AUDIO_UNLOCKED])) :
    (State.poolStep s a1).rd f i = s.rd f i := by
  simp only [Field.off_faultFields, Field.off_refFields, Field.off_linkDownFields, Field.off_cellFields,
    Field.off_append, Field.off_cons, Field.off_nil, and_true] at h
  simp [State.poolStep, h]
@[simp] theorem State.feed_rd (s : State) (a1 : Nat) (a2 : Nat) (a3 : List Int) (f : Field) (i : Nat) :
    (State.feed s a1 a2 a3).rd f i = s.rd f i := by
  simp [State.feed]
@[simp] theorem State.feedCompanions_rd (s : State) (f : Field) (i : Nat) :
    (State.feedCompanions s).rd f i = s.rd f i := by
  simp [State.feedCompanions]
@[simp] theorem State.setMirror_rd (s : State) (a1 : List (Nat × List (Nat × Nat))) (f : Field) (i : Nat) :
    (State.setMirror s a1).rd f i = s.rd f i := State.rd_of_rv rfl f i
@[simp] theorem State.portRx_rd (s : State) (a1 : Nat) (a2 : List (BitVec 32)) (f : Field) (i : Nat) (h : f.off (faultFields
    ++ [Fld.APRT_CNT_PARITY_CNT])) :
    (State.portRx s a1 a2).rd f i = s.rd f i := by
  simp only [Field.off_faultFields, Field.off_refFields, Field.off_linkDownFields, Field.off_cellFields,
    Field.off_append, Field.off_cons, Field.off_nil, and_true] at h
  simp [State.portRx, h]
@[simp] theorem State.madiFrame_rd (s : State) (a1 : Nat) (a2 : List Int) (f : Field) (i : Nat) :
    (State.madiFrame s a1 a2).rd f i = s.rd f i := by
  simp [State.madiFrame]
@[simp] theorem State.sendPort_rd (s : State) (a1 : Nat) (a2 : Bool) (a3 : List Int) (f : Field) (i : Nat) :
    (State.sendPort s a1 a2 a3).rd f i = s.rd f i := by
  simp [State.sendPort]
@[simp] theorem State.followFrame_rd (s : State) (a1 : Nat) (f : Field) (i : Nat) (h : f.off ([Fld.APRT_CNT_SLIP_CNT,
    Fld.APRT_PORT_STAT_FILL, Fld.APRT_PORT_STAT_PPM])) :
    (State.followFrame s a1).2.rd f i = s.rd f i := by
  simp only [Field.off_faultFields, Field.off_refFields, Field.off_linkDownFields, Field.off_cellFields,
    Field.off_append, Field.off_cons, Field.off_nil, and_true] at h
  simp [State.followFrame, h]
@[simp] theorem State.portTx_rd (s : State) (a1 : Nat) (f : Field) (i : Nat) (h : f.off ([Fld.APRT_CNT_SLIP_CNT,
    Fld.APRT_PORT_STAT_FILL, Fld.APRT_PORT_STAT_PPM])) :
    (State.portTx s a1).2.rd f i = s.rd f i := by
  simp only [Field.off_faultFields, Field.off_refFields, Field.off_linkDownFields, Field.off_cellFields,
    Field.off_append, Field.off_cons, Field.off_nil, and_true] at h
  simp [State.portTx, h]
@[simp] theorem State.settleSet_rd (s : State) (a1 : Nat) (f : Field) (i : Nat) (h : f.off ([Fld.ETH_CNT_TX_DISC_CNT,
    Fld.ETH_CNT_TX_FRAMES_CNT, Fld.ETH_CNT_TX_OCTETS_CNT, Fld.ETH_FLOW_CNT_PKT, Fld.HCP_CNT_EVT_LOST_CNT,
    Fld.IZL_LINK_STAT_TX_IDLE, Fld.MASH_CNT_XFADE_SHORT_CNT])) :
    (State.settleSet s a1).rd f i = s.rd f i := by
  simp only [Field.off_faultFields, Field.off_refFields, Field.off_linkDownFields, Field.off_cellFields,
    Field.off_append, Field.off_cons, Field.off_nil, and_true] at h
  simp [State.settleSet, h]
@[simp] theorem State.settleSets_rd (s : State) (f : Field) (i : Nat) (h : f.off ([Fld.ETH_CNT_TX_DISC_CNT,
    Fld.ETH_CNT_TX_FRAMES_CNT, Fld.ETH_CNT_TX_OCTETS_CNT, Fld.ETH_FLOW_CNT_PKT, Fld.HCP_CNT_EVT_LOST_CNT,
    Fld.IZL_LINK_STAT_TX_IDLE, Fld.MASH_CNT_XFADE_SHORT_CNT])) :
    (State.settleSets s).rd f i = s.rd f i := by
  simp only [Field.off_faultFields, Field.off_refFields, Field.off_linkDownFields, Field.off_cellFields,
    Field.off_append, Field.off_cons, Field.off_nil, and_true] at h
  simp [State.settleSets, h]
@[simp] theorem State.mirrorIsland_rd (s : State) (a1 : Nat) (f : Field) (i : Nat) :
    (State.mirrorIsland s a1).rd f i = s.rd f i := by
  simp [State.mirrorIsland]
@[simp] theorem State.dropMirror_rd (s : State) (a1 : Nat) (f : Field) (i : Nat) :
    (State.dropMirror s a1).rd f i = s.rd f i := by
  simp [State.dropMirror]
@[simp] theorem State.evtCapRead_rd (s : State) (a1 : Nat) (f : Field) (i : Nat) (h : f.off ([Fld.KILN_EVT_CAP_1_NS,
    Fld.KILN_EVT_CAP_2_SEC])) :
    (State.evtCapRead s a1).2.rd f i = s.rd f i := by
  simp only [Field.off_faultFields, Field.off_refFields, Field.off_linkDownFields, Field.off_cellFields,
    Field.off_append, Field.off_cons, Field.off_nil, and_true] at h
  unfold State.evtCapRead
  repeat' (first | (simp [h]; done) | split)
@[simp] theorem State.nowRead_rd (s : State) (f : Field) (i : Nat) (h : f.off ([Fld.KILN_NOW_FRAC_FRAC, Fld.KILN_NOW_NS_NS,
    Fld.KILN_NOW_SEC_HI_SEC, Fld.KILN_NOW_SEC_LO_SEC])) :
    (State.nowRead s).2.rd f i = s.rd f i := by
  simp only [Field.off_faultFields, Field.off_refFields, Field.off_linkDownFields, Field.off_cellFields,
    Field.off_append, Field.off_cons, Field.off_nil, and_true] at h
  simp [State.nowRead, h]
@[simp] theorem State.uartRead_rd (s : State) (f : Field) (i : Nat) :
    (State.uartRead s).2.rd f i = s.rd f i := by
  simp [State.uartRead]
@[simp] theorem State.txtsRead_rd (s : State) (a1 : Nat) (f : Field) (i : Nat) (h : f.off ([Fld.TSVC_TXTS_1_NS,
    Fld.TSVC_TXTS_2_SEC, Fld.TSVC_TXTS_3_FRAC, Fld.TSVC_TXTS_3_SEC_HI])) :
    (State.txtsRead s a1).2.rd f i = s.rd f i := by
  simp only [Field.off_faultFields, Field.off_refFields, Field.off_linkDownFields, Field.off_cellFields,
    Field.off_append, Field.off_cons, Field.off_nil, and_true] at h
  simp only [State.txtsRead]
  repeat' (first | (simp [h]; done) | split)
@[simp] theorem State.passed_rd (s : State) (a1 : Change) (f : Field) (i : Nat) :
    (State.passed s a1).rd f i = s.rd f i := by
  unfold State.passed
  repeat' (first | (simp; done) | split)
@[simp] theorem State.snapSeam_rd (s : State) (a1 : Nat) (a2 : Nat) (f : Field) (i : Nat) :
    (State.snapSeam s a1 a2).rd f i = s.rd f i := by
  simp [State.snapSeam]
@[simp] theorem State.resumeAt_rd (s : State) (a1 : Nat) (a2 : Nat) (a3 : Fmt) (f : Field) (i : Nat) (h : f.off
    ([Fld.CASK_FS_STAT_BLACK, Fld.CASK_FS_STAT_FROZEN])) :
    (State.resumeAt s a1 a2 a3).rd f i = s.rd f i := by
  simp only [Field.off_faultFields, Field.off_refFields, Field.off_linkDownFields, Field.off_cellFields,
    Field.off_append, Field.off_cons, Field.off_nil, and_true] at h
  simp only [State.resumeAt]
  repeat' (first | (simp [h]; done) | split)
@[simp] theorem State.lostLaunch_rd (s : State) (a1 : Nat) (a2 : Nat) (f : Field) (i : Nat) (h : f.off
    ([Fld.CASK_FS_STAT_BLACK, Fld.CASK_FS_STAT_FROZEN])) :
    (State.lostLaunch s a1 a2).rd f i = s.rd f i := by
  simp only [Field.off_faultFields, Field.off_refFields, Field.off_linkDownFields, Field.off_cellFields,
    Field.off_append, Field.off_cons, Field.off_nil, and_true] at h
  simp only [State.lostLaunch]
  repeat' (first | (simp [h]; done) | split)
@[simp] theorem State.followSlip_rd (s : State) (a1 : Nat) (a2 : Nat) (f : Field) (i : Nat) (h : f.off
    ([Fld.MASH_CNT_SLIP_CNT])) :
    (State.followSlip s a1 a2).rd f i = s.rd f i := by
  simp only [Field.off_faultFields, Field.off_refFields, Field.off_linkDownFields, Field.off_cellFields,
    Field.off_append, Field.off_cons, Field.off_nil, and_true] at h
  simp [State.followSlip, h]
@[simp] theorem State.frameLaunch_rd (s : State) (a1 : Nat) (a2 : Nat) (a3 : Nat) (a4 : Fmt) (f : Field) (i : Nat) (h : f.off
    (faultFields ++ [Fld.CASK_FS_CNT_DROP, Fld.CASK_FS_CNT_REPEAT, Fld.CASK_FS_STAT_BLACK, Fld.CASK_FS_STAT_FROZEN,
    Fld.MASH_CNT_SLIP_CNT])) :
    (State.frameLaunch s a1 a2 a3 a4).rd f i = s.rd f i := by
  simp only [Field.off_faultFields, Field.off_refFields, Field.off_linkDownFields, Field.off_cellFields,
    Field.off_append, Field.off_cons, Field.off_nil, and_true] at h
  simp only [State.frameLaunch]
  repeat' (first | (simp [h]; done) | split)
@[simp] theorem State.followLaunch_rd (s : State) (a1 : Nat) (a2 : Nat) (a3 : Nat) (f : Field) (i : Nat) :
    (State.followLaunch s a1 a2 a3).rd f i = s.rd f i := by
  simp [State.followLaunch]
@[simp] theorem State.noteLatency_rd (s : State) (a1 : Nat) (a2 : Nat) (a3 : Fmt) (f : Field) (i : Nat) (h : f.off
    ([Fld.WARP_DST_STAT_LATENCY])) :
    (State.noteLatency s a1 a2 a3).rd f i = s.rd f i := by
  simp only [Field.off_faultFields, Field.off_refFields, Field.off_linkDownFields, Field.off_cellFields,
    Field.off_append, Field.off_cons, Field.off_nil, and_true] at h
  simp [State.noteLatency, h]
@[simp] theorem State.takeAudio_rd (s : State) (a1 : Nat) (a2 : Fmt) (a3 : Nat) (a4 : Bool) (a5 : Nat) (f : Field) (i : Nat) :
    (State.takeAudio s a1 a2 a3 a4 a5).2.rd f i = s.rd f i := by
  simp [State.takeAudio]
@[simp] theorem State.sendAnc_rd (s : State) (a1 : Nat) (a2 : Nat) (a3 : Fmt) (a4 : Bool) (a5 : List (List Byte)) (f : Field)
    (i : Nat) (h : f.off ([Fld.IZL_LINK_STAT_TX_IDLE])) :
    (State.sendAnc s a1 a2 a3 a4 a5).rd f i = s.rd f i := by
  simp only [Field.off_faultFields, Field.off_refFields, Field.off_linkDownFields, Field.off_cellFields,
    Field.off_append, Field.off_cons, Field.off_nil, and_true] at h
  simp [State.sendAnc, h]
@[simp] theorem State.sendLine_rd (s : State) (a1 : Nat) (a2 : Nat) (a3 : Fmt) (a4 : Bool) (a5 : Nat) (a6 : List Byte) (f :
    Field) (i : Nat) (h : f.off ([Fld.IZL_LINK_STAT_TX_IDLE])) :
    (State.sendLine s a1 a2 a3 a4 a5 a6).rd f i = s.rd f i := by
  simp only [Field.off_faultFields, Field.off_refFields, Field.off_linkDownFields, Field.off_cellFields,
    Field.off_append, Field.off_cons, Field.off_nil, and_true] at h
  simp [State.sendLine, h]
@[simp] theorem State.sendPackets_rd (s : State) (a1 : Nat) (a2 : Nat) (a3 : Nat) (a4 : Fmt) (a5 : Bool) (a6 : Nat) (f :
    Field) (i : Nat) (h : f.off ([Fld.ETH_CNT_TX_DISC_CNT, Fld.ETH_CNT_TX_FRAMES_CNT, Fld.ETH_CNT_TX_OCTETS_CNT,
    Fld.ETH_FLOW_CNT_PKT])) :
    (State.sendPackets s a1 a2 a3 a4 a5 a6).rd f i = s.rd f i := by
  simp only [Field.off_faultFields, Field.off_refFields, Field.off_linkDownFields, Field.off_cellFields,
    Field.off_append, Field.off_cons, Field.off_nil, and_true] at h
  simp [State.sendPackets, h]
@[simp] theorem State.sendAncFlow_rd (s : State) (a1 : Nat) (a2 : Nat) (a3 : Nat) (a4 : Fmt) (a5 : Bool) (a6 : Bool) (a7 :
    List (List Byte)) (f : Field) (i : Nat) (h : f.off ([Fld.ETH_CNT_TX_DISC_CNT, Fld.ETH_CNT_TX_FRAMES_CNT,
    Fld.ETH_CNT_TX_OCTETS_CNT, Fld.ETH_FLOW_CNT_PKT])) :
    (State.sendAncFlow s a1 a2 a3 a4 a5 a6 a7).rd f i = s.rd f i := by
  simp only [Field.off_faultFields, Field.off_refFields, Field.off_linkDownFields, Field.off_cellFields,
    Field.off_append, Field.off_cons, Field.off_nil, and_true] at h
  unfold State.sendAncFlow
  dsimp only
  repeat' (first | (simp [h]; done) | (refine (each_rd _ _ _ _ _ ?_).trans ?_) | (refine (foldl_rd _ _ _ ?_ _ _).trans ?_) | (refine (foldl_rd_snd _ _ _ ?_ _ _).trans ?_) | (intro _ _) | split | (dsimp only))
@[simp] theorem State.putSnap_rd (s : State) (a1 : Nat) (a2 : SnapBuf) (f : Field) (i : Nat) :
    (State.putSnap s a1 a2).rd f i = s.rd f i := by
  simp [State.putSnap]
@[simp] theorem State.capture_rd (s : State) (a1 : Nat) (f : Field) (i : Nat) :
    (State.capture s a1).rd f i = s.rd f i := by
  unfold State.capture
  repeat' (first | (simp; done) | split)
@[simp] theorem State.headQuiet_rd (s : State) (a1 : Nat) (f : Field) (i : Nat) (h : f.off ([Fld.CASK_FS_STAT_CAUSE,
    Fld.STCH_HEAD_STAT_RUNNING, Fld.WARP_DST_CNT_UNTIMED, Fld.WARP_DST_STAT_BLACKED, Fld.WARP_DST_STAT_SRC_LOST,
    Fld.WARP_DST_STAT_TIMED])) :
    (State.headQuiet s a1).rd f i = s.rd f i := by
  simp only [Field.off_faultFields, Field.off_refFields, Field.off_linkDownFields, Field.off_cellFields,
    Field.off_append, Field.off_cons, Field.off_nil, and_true] at h
  simp [State.headQuiet, h]
@[simp] theorem State.noteApron_rd (s : State) (a1 : Nat) (f : Field) (i : Nat) (h : f.off ([Fld.STCH_HEAD_STAT_APRON_SHOWN]))
    :
    (State.noteApron s a1).rd f i = s.rd f i := by
  simp only [Field.off_faultFields, Field.off_refFields, Field.off_linkDownFields, Field.off_cellFields,
    Field.off_append, Field.off_cons, Field.off_nil, and_true] at h
  simp [State.noteApron, h]
@[simp] theorem State.releaseSurfaces_rd (s : State) (f : Field) (i : Nat) (h : f.off ([Fld.ETH_CNT_TX_DISC_CNT,
    Fld.ETH_CNT_TX_FRAMES_CNT, Fld.ETH_CNT_TX_OCTETS_CNT, Fld.ETH_FLOW_CNT_PKT, Fld.HCP_CNT_EVT_LOST_CNT])) :
    (State.releaseSurfaces s).rd f i = s.rd f i := by
  simp only [Field.off_faultFields, Field.off_refFields, Field.off_linkDownFields, Field.off_cellFields,
    Field.off_append, Field.off_cons, Field.off_nil, and_true] at h
  simp [State.releaseSurfaces, h]
@[simp] theorem State.headFrame_rd (s : State) (a1 : Nat) (a2 : Nat) (a3 : Bool) (f : Field) (i : Nat) (h : f.off (faultFields
    ++ [Fld.CASK_INT_RING_EFF_DEPTH, Fld.CASK_INT_RING_OVERSIZE, Fld.CASK_RING_EFF_DEPTH, Fld.CASK_RING_OVERSIZE,
    Fld.STCH_HEAD_STAT_ABORTED, Fld.STCH_HEAD_STAT_APRON_FORCED, Fld.STCH_HEAD_STAT_APRON_SHOWN,
    Fld.STCH_HEAD_STAT_TRANSITION, Fld.WARP_INT_TIME_PHASE, Fld.WARP_INT_TIME_STABLE, Fld.WARP_INT_TIME_VALID,
    Fld.WARP_INT_TIME_WHOLE_FRAME, Fld.WARP_SRC_TIME_PHASE, Fld.WARP_SRC_TIME_STABLE, Fld.WARP_SRC_TIME_VALID,
    Fld.WARP_SRC_TIME_WHOLE_FRAME])) :
    (State.headFrame s a1 a2 a3).rd f i = s.rd f i := by
  simp only [Field.off_faultFields, Field.off_refFields, Field.off_linkDownFields, Field.off_cellFields,
    Field.off_append, Field.off_cons, Field.off_nil, and_true] at h
  simp [State.headFrame, h]
@[simp] theorem State.checkSig_rd (s : State) (a1 : Nat) (a2 : Fmt) (a3 : Nat) (f : Field) (i : Nat) (h : f.off (faultFields
    ++ [Fld.STCH_HEAD_CNT_SIG_MISMATCH, Fld.STCH_SIG_EXP_EXP, Fld.STCH_SIG_STAT_MISMATCH, Fld.STCH_SIG_VAL_VAL])) :
    (State.checkSig s a1 a2 a3).rd f i = s.rd f i := by
  simp only [Field.off_faultFields, Field.off_refFields, Field.off_linkDownFields, Field.off_cellFields,
    Field.off_append, Field.off_cons, Field.off_nil, and_true] at h
  simp [State.checkSig, h]
@[simp] theorem State.tload_rd (s : State) (a1 : Nat) (f : Field) (i : Nat) :
    (State.tload s a1).rd f i = s.rd f i := by
  simp [State.tload]
@[simp] theorem State.withinRate_rd (s : State) (a1 : Nat) (a2 : State → State) (f : Field) (i : Nat) (h : f.off (faultFields
    ++ [Fld.TSVC_CNT_OVERLOAD_CNT])) (ha2 : ∀ x0, (a2 x0).rd f i = x0.rd f i) :
    (State.withinRate s a1 a2).rd f i = s.rd f i := by
  simp only [Field.off_faultFields, Field.off_refFields, Field.off_linkDownFields, Field.off_cellFields,
    Field.off_append, Field.off_cons, Field.off_nil, and_true] at h
  simp [State.withinRate, h, ha2]
@[simp] theorem State.keySpent_rd (s : State) (a1 : Nat) (a2 : Bool) (f : Field) (i : Nat) (h : f.off (faultFields)) :
    (State.keySpent s a1 a2).rd f i = s.rd f i := by
  simp only [Field.off_faultFields, Field.off_refFields, Field.off_linkDownFields, Field.off_cellFields,
    Field.off_append, Field.off_cons, Field.off_nil, and_true] at h
  simp [State.keySpent, h]
@[simp] theorem State.ptpSend_rd (s : State) (a1 : Nat) (a2 : Nat) (a3 : Option (Nat × Nat × Nat)) (a4 : Option (Nat × Nat))
    (a5 : PtpMsg) (a6 : TxMark) (f : Field) (i : Nat) (h : f.off (faultFields ++ [Fld.TSVC_CNT_TXTS_LOST_CNT,
    Fld.TSVC_TXTS_STAT_OVF])) :
    (State.ptpSend s a1 a2 a3 a4 a5 a6).rd f i = s.rd f i := by
  simp only [Field.off_faultFields, Field.off_refFields, Field.off_linkDownFields, Field.off_cellFields,
    Field.off_append, Field.off_cons, Field.off_nil, and_true] at h
  simp [State.ptpSend, h]
@[simp] theorem State.ptpMulti_rd (s : State) (a1 : Nat) (a2 : Nat) (a3 : PtpMsg) (a4 : optParam TxMark TxMark.none) (f :
    Field) (i : Nat) (h : f.off (faultFields ++ [Fld.TSVC_CNT_TXTS_LOST_CNT, Fld.TSVC_TXTS_STAT_OVF])) :
    (State.ptpMulti s a1 a2 a3 a4).rd f i = s.rd f i := by
  simp only [Field.off_faultFields, Field.off_refFields, Field.off_linkDownFields, Field.off_cellFields,
    Field.off_append, Field.off_cons, Field.off_nil, and_true] at h
  simp only [State.ptpMulti]
  repeat' (first | (simp [h]; done) | split)
@[simp] theorem State.ptpUni_rd (s : State) (a1 : Nat) (a2 : Nat) (a3 : PtpMsg) (a4 : optParam TxMark TxMark.none) (f : Field)
    (i : Nat) (h : f.off (faultFields ++ [Fld.TSVC_CNT_TXTS_LOST_CNT, Fld.TSVC_TXTS_STAT_OVF])) :
    (State.ptpUni s a1 a2 a3 a4).rd f i = s.rd f i := by
  simp only [Field.off_faultFields, Field.off_refFields, Field.off_linkDownFields, Field.off_cellFields,
    Field.off_append, Field.off_cons, Field.off_nil, and_true] at h
  simp only [State.ptpUni]
  repeat' (first | (simp [h]; done) | split)
@[simp] theorem State.ptpFilter_rd (s : State) (a1 : Nat) (f : Field) (i : Nat) (h : f.off ([Fld.TSVC_CNT_FILTER_CNT])) :
    (State.ptpFilter s a1).rd f i = s.rd f i := by
  simp only [Field.off_faultFields, Field.off_refFields, Field.off_linkDownFields, Field.off_cellFields,
    Field.off_append, Field.off_cons, Field.off_nil, and_true] at h
  simp [State.ptpFilter, h]
@[simp] theorem State.ptpRequest_rd (s : State) (a1 : Nat) (a2 : PtpHdr) (a3 : State → State) (f : Field) (i : Nat) (h : f.off
    ([Fld.ETH_CNT_RX_FRAMES_CNT, Fld.ETH_CNT_RX_LONG_CNT, Fld.ETH_CNT_RX_OCTETS_CNT, Fld.ETH_CNT_RX_SHORT_CNT,
    Fld.TSVC_CNT_FILTER_CNT, Fld.TSVC_CNT_NOT_RUN_CNT])) (ha3 : ∀ x0, (a3 x0).rd f i = x0.rd f i) :
    (State.ptpRequest s a1 a2 a3).rd f i = s.rd f i := by
  simp only [Field.off_faultFields, Field.off_refFields, Field.off_linkDownFields, Field.off_cellFields,
    Field.off_append, Field.off_cons, Field.off_nil, and_true] at h
  simp [State.ptpRequest, h, ha3]
@[simp] theorem State.ptpClient_rd (s : State) (a1 : Nat) (a2 : PtpHdr) (a3 : State → State) (f : Field) (i : Nat) (h : f.off
    ([Fld.ETH_CNT_RX_FRAMES_CNT, Fld.ETH_CNT_RX_LONG_CNT, Fld.ETH_CNT_RX_OCTETS_CNT, Fld.ETH_CNT_RX_SHORT_CNT,
    Fld.TSVC_CNT_FILTER_CNT])) (ha3 : ∀ x0, (a3 x0).rd f i = x0.rd f i) :
    (State.ptpClient s a1 a2 a3).rd f i = s.rd f i := by
  simp only [Field.off_faultFields, Field.off_refFields, Field.off_linkDownFields, Field.off_cellFields,
    Field.off_append, Field.off_cons, Field.off_nil, and_true] at h
  simp [State.ptpClient, h, ha3]
@[simp] theorem State.ptpUnsupported_rd (s : State) (a1 : Nat) (a2 : Nat) (f : Field) (i : Nat) (h : f.off
    ([Fld.ETH_CNT_RX_FRAMES_CNT, Fld.ETH_CNT_RX_LONG_CNT, Fld.ETH_CNT_RX_OCTETS_CNT, Fld.ETH_CNT_RX_SHORT_CNT,
    Fld.TSVC_CNT_FILTER_CNT])) :
    (State.ptpUnsupported s a1 a2).rd f i = s.rd f i := by
  simp only [Field.off_faultFields, Field.off_refFields, Field.off_linkDownFields, Field.off_cellFields,
    Field.off_append, Field.off_cons, Field.off_nil, and_true] at h
  simp [State.ptpUnsupported, h]
@[simp] theorem State.authFail_rd (s : State) (a1 : Nat) (f : Field) (i : Nat) (h : f.off (faultFields ++
    [Fld.TSVC_CNT_AUTH_FAIL_CNT])) :
    (State.authFail s a1).rd f i = s.rd f i := by
  simp only [Field.off_faultFields, Field.off_refFields, Field.off_linkDownFields, Field.off_cellFields,
    Field.off_append, Field.off_cons, Field.off_nil, and_true] at h
  simp [State.authFail, h]
@[simp] theorem State.replayed_rd (s : State) (a1 : Nat) (f : Field) (i : Nat) (h : f.off (faultFields ++
    [Fld.TSVC_CNT_REPLAY_CNT])) :
    (State.replayed s a1).rd f i = s.rd f i := by
  simp only [Field.off_faultFields, Field.off_refFields, Field.off_linkDownFields, Field.off_cellFields,
    Field.off_append, Field.off_cons, Field.off_nil, and_true] at h
  simp [State.replayed, h]
@[simp] theorem State.noSession_rd (s : State) (a1 : Nat) (f : Field) (i : Nat) (h : f.off ([Fld.TSVC_CNT_NOSESS_CNT])) :
    (State.noSession s a1).rd f i = s.rd f i := by
  simp only [Field.off_faultFields, Field.off_refFields, Field.off_linkDownFields, Field.off_cellFields,
    Field.off_append, Field.off_cons, Field.off_nil, and_true] at h
  simp [State.noSession, h]
@[simp] theorem State.learnClient_rd (s : State) (a1 : Nat) (a2 : PtpHdr) (f : Field) (i : Nat) :
    (State.learnClient s a1 a2).rd f i = s.rd f i := by
  simp [State.learnClient]
@[simp] theorem State.sessionMsg_rd (s : State) (a1 : Nat) (a2 : PtpHdr) (a3 : State → Nat → State) (f : Field) (i : Nat) (h :
    f.off (faultFields ++ [Fld.TSVC_CNT_AUTH_FAIL_CNT, Fld.TSVC_CNT_NOSESS_CNT, Fld.TSVC_CNT_REPLAY_CNT])) (ha3 : ∀ x0 x1, (a3
    x0 x1).rd f i = x0.rd f i) :
    (State.sessionMsg s a1 a2 a3).rd f i = s.rd f i := by
  simp only [Field.off_faultFields, Field.off_refFields, Field.off_linkDownFields, Field.off_cellFields,
    Field.off_append, Field.off_cons, Field.off_nil, and_true] at h
  unfold State.sessionMsg
  repeat' (first | (simp [h, ha3]; done) | split)
@[simp] theorem State.groupMsg_rd (s : State) (a1 : Nat) (a2 : PtpHdr) (a3 : Bool) (a4 : State → State) (f : Field) (i : Nat)
    (h : f.off (faultFields ++ [Fld.TSVC_CNT_AUTH_FAIL_CNT])) (ha4 : ∀ x0, (a4 x0).rd f i = x0.rd f i) :
    (State.groupMsg s a1 a2 a3 a4).rd f i = s.rd f i := by
  simp only [Field.off_faultFields, Field.off_refFields, Field.off_linkDownFields, Field.off_cellFields,
    Field.off_append, Field.off_cons, Field.off_nil, and_true] at h
  unfold State.groupMsg
  repeat' (first | (simp [h, ha4]; done) | split)
@[simp] theorem State.grantOne_rd (s : State) (a1 : Nat) (a2 : UniReq) (f : Field) (i : Nat) :
    (State.grantOne s a1 a2).1.rd f i = s.rd f i := by
  simp [State.grantOne]
@[simp] theorem grantAll_rd (s : State) (a1 : Nat) (a2 : List UniReq) (f : Field) (i : Nat) :
    (grantAll s a1 a2).1.rd f i = s.rd f i := by
  induction a2 generalizing s a1 with
  | nil => rfl
  | cons x l ih => simp [grantAll, ih]
@[simp] theorem State.clientListen_rd (s : State) (a1 : Nat) (f : Field) (i : Nat) (h : f.off (faultFields ++ refFields ++
    [Fld.TSVC_PORT_STAT_STATE])) :
    (State.clientListen s a1).rd f i = s.rd f i := by
  simp only [Field.off_faultFields, Field.off_refFields, Field.off_linkDownFields, Field.off_cellFields,
    Field.off_append, Field.off_cons, Field.off_nil, and_true] at h
  simp [State.clientListen, h]
@[simp] theorem State.clientChoose_rd (s : State) (a1 : Nat) (f : Field) (i : Nat) (h : f.off (faultFields ++ refFields ++
    [Fld.TSVC_PORT_STAT_STATE])) :
    (State.clientChoose s a1).rd f i = s.rd f i := by
  simp only [Field.off_faultFields, Field.off_refFields, Field.off_linkDownFields, Field.off_cellFields,
    Field.off_append, Field.off_cons, Field.off_nil, and_true] at h
  simp only [State.clientChoose]
  repeat' (first | (simp [h]; done) | split)
@[simp] theorem State.clientMsg_rd (s : State) (a1 : Nat) (a2 : PtpHdr) (a3 : State → State) (f : Field) (i : Nat) (h : f.off
    (faultFields ++ [Fld.ETH_CNT_RX_FRAMES_CNT, Fld.ETH_CNT_RX_LONG_CNT, Fld.ETH_CNT_RX_OCTETS_CNT, Fld.ETH_CNT_RX_SHORT_CNT,
    Fld.TSVC_CNT_AUTH_FAIL_CNT, Fld.TSVC_CNT_FILTER_CNT, Fld.TSVC_CNT_REPLAY_CNT])) (ha3 : ∀ x0, (a3 x0).rd f i = x0.rd f i) :
    (State.clientMsg s a1 a2 a3).rd f i = s.rd f i := by
  simp only [Field.off_faultFields, Field.off_refFields, Field.off_linkDownFields, Field.off_cellFields,
    Field.off_append, Field.off_cons, Field.off_nil, and_true] at h
  unfold State.clientMsg
  refine State.ptpClient_rd _ _ _ _ f i (by simp [h]) ?_
  intro s
  refine State.groupMsg_rd _ _ _ _ _ f i (by simp [h]) ?_
  intro s
  dsimp only
  split
  · split <;> simp [ha3, h]
  · exact ha3 s
@[simp] theorem State.ntpRefTime_rd (s : State) (f : Field) (i : Nat) :
    (State.ntpRefTime s).2.rd f i = s.rd f i := by
  unfold State.ntpRefTime
  repeat' (first | (simp; done) | split)
@[simp] theorem State.ntpReply_rd (s : State) (a1 : Nat) (a2 : NtpReq) (a3 : Nat) (f : Field) (i : Nat) :
    (State.ntpReply s a1 a2 a3).2.rd f i = s.rd f i := by
  simp [State.ntpReply]
@[simp] theorem State.ntpRequest_rd (s : State) (a1 : Nat) (a2 : NtpReq) (a3 : State → Bool) (a4 : State → State) (f : Field)
    (i : Nat) (h : f.off (faultFields ++ [Fld.ETH_CNT_RX_FRAMES_CNT, Fld.ETH_CNT_RX_LONG_CNT, Fld.ETH_CNT_RX_OCTETS_CNT,
    Fld.ETH_CNT_RX_SHORT_CNT, Fld.TSVC_CNT_FILTER_CNT, Fld.TSVC_CNT_NOT_RUN_CNT, Fld.TSVC_CNT_OVERLOAD_CNT])) (ha4 : ∀ x0, (a4
    x0).rd f i = x0.rd f i) :
    (State.ntpRequest s a1 a2 a3 a4).rd f i = s.rd f i := by
  simp only [Field.off_faultFields, Field.off_refFields, Field.off_linkDownFields, Field.off_cellFields,
    Field.off_append, Field.off_cons, Field.off_nil, and_true] at h
  simp [State.ntpRequest, h, ha4]
end Sys2Proof.Machine
end

