-- ==== Sys2Proof/Laws/Parts.lean ====
section
/-! SUPPORT. Which parts of the state each operation may change (Safety.lean, `State.but`): without those, the state is as before. -/

set_option autoImplicit false
set_option linter.unusedSimpArgs false

namespace Sys2Proof.Machine

@[simp] theorem State.putHead_but (s : State) (n : Nat) (r : HeadS) (k : List Part) (h : Part.head ∈ k) : (s.putHead n r).but k = s.but k := by
  simp only [State.but, State.putHead, if_pos h]
@[simp] theorem State.putBnd_but (s : State) (n : Nat) (r : BndS) (k : List Part) (h : Part.bnd ∈ k) : (s.putBnd n r).but k = s.but k := by
  simp only [State.but, State.putBnd, if_pos h]
@[simp] theorem State.putTxb_but (s : State) (n : Nat) (r : TxS) (k : List Part) (h : Part.txb ∈ k) : (s.putTxb n r).but k = s.but k := by
  simp only [State.but, State.putTxb, if_pos h]
@[simp] theorem State.putEgress_but (s : State) (n : Nat) (r : List TxItem) (k : List Part) (h : Part.egr ∈ k) :
    (s.putEgress n r).but k = s.but k := by
  simp only [State.but, State.putEgress, if_pos h]
@[simp] theorem State.putCs_but (s : State) (n : Nat) (r : ChangeSet) (k : List Part) (h : Part.cs ∈ k) : (s.putCs n r).but k = s.but k := by
  simp only [State.but, State.putCs, if_pos h]
@[simp] theorem State.putDst_but (s : State) (n : Nat) (r : DstS) (k : List Part) (h : Part.dst ∈ k) : (s.putDst n r).but k = s.but k := by
  simp only [State.but, State.putDst, if_pos h]
@[simp] theorem State.putSrc_but (s : State) (n : Nat) (r : SrcS) (k : List Part) (h : Part.src ∈ k) : (s.putSrc n r).but k = s.but k := by
  simp only [State.but, State.putSrc, if_pos h]
@[simp] theorem State.putHop_but (s : State) (n : Nat) (r : HopCh) (k : List Part) (h : Part.hop ∈ k) : (s.putHop n r).but k = s.but k := by
  simp only [State.but, State.putHop, if_pos h]
@[simp] theorem State.putPort_but (s : State) (n : Nat) (r : PortS) (k : List Part) (h : Part.aprt ∈ k) : (s.putPort n r).but k = s.but k := by
  simp only [State.but, State.putPort, if_pos h]
@[simp] theorem State.wr_but (s : State) (f : Field) (i v : Nat) (k : List Part) (h : Part.rv ∈ k) : (s.wr f i v).but k = s.but k := by
  simp only [State.but, State.wr, if_pos h]
@[simp] theorem State.countFree_but (s : State) (k : List Part) (h : Part.freeCtr ∈ k) : (s.countFree).but k = s.but k := by
  simp only [State.but, State.countFree, if_pos h]
@[simp] theorem State.setStaged_but (s : State) (x : List Staged) (k : List Part) (h : Part.staged ∈ k) : (s.setStaged x).but k = s.but k := by
  simp only [State.but, State.setStaged, if_pos h]
@[simp] theorem State.setOrd_but (s : State) (x : Nat) (k : List Part) (h : Part.ord ∈ k) : (s.setOrd x).but k = s.but k := by
  simp only [State.but, State.setOrd, if_pos h]
@[simp] theorem State.setHeld_but (s : State) (x : List Held) (k : List Part) (h : Part.held ∈ k) : (s.setHeld x).but k = s.but k := by
  simp only [State.but, State.setHeld, if_pos h]
@[simp] theorem State.setLatch_but (s : State) (x : List Latch) (k : List Part) (h : Part.latch ∈ k) : (s.setLatch x).but k = s.but k := by
  simp only [State.but, State.setLatch, if_pos h]
@[simp] theorem State.setParked_but (s : State) (x : List CsItem) (k : List Part) (h : Part.parked ∈ k) : (s.setParked x).but k = s.but k := by
  simp only [State.but, State.setParked, if_pos h]
@[simp] theorem State.setMirror_but (s : State) (x : List (Nat × List (Nat × Nat))) (k : List Part) (h : Part.mirror ∈ k) :
    (s.setMirror x).but k = s.but k := by
  simp only [State.but, State.setMirror, if_pos h]
@[simp] theorem State.setRv_but (s : State) (x : List (Nat × Nat)) (k : List Part) (h : Part.rv ∈ k) : (s.setRv x).but k = s.but k := by
  simp only [State.but, State.setRv, if_pos h]
@[simp] theorem State.setBound_but (s : State) (x : List Nat) (k : List Part) (h : Part.bound ∈ k) : (s.setBound x).but k = s.but k := by
  simp only [State.but, State.setBound, if_pos h]
@[simp] theorem State.setNow_but (s : State) (x : Nat) (k : List Part) (h : Part.now ∈ k) : (s.setNow x).but k = s.but k := by
  simp only [State.but, State.setNow, if_pos h]
@[simp] theorem State.setIso_but (s : State) (x : Bool) (k : List Part) (h : Part.iso ∈ k) : (s.setIso x).but k = s.but k := by
  simp only [State.but, State.setIso, if_pos h]
@[simp] theorem State.setMem_but (s : State) (x : List Host.Cell) (k : List Part) (h : Part.mem ∈ k) : (s.setMem x).but k = s.but k := by
  simp only [State.but, State.setMem, if_pos h]
@[simp] theorem State.setOut_but (s : State) (x : List Output) (k : List Part) (h : Part.out ∈ k) : (s.setOut x).but k = s.but k := by
  simp only [State.but, State.setOut, if_pos h]
@[simp] theorem State.onFlt_but (s : State) (g : FltS → FltS) (k : List Part) (h : Part.flt ∈ k) : (s.onFlt g).but k = s.but k := by
  simp only [State.but, State.onFlt, if_pos h]
@[simp] theorem State.onCell_but (s : State) (g : CellS → CellS) (k : List Part) (h : Part.cell ∈ k) : (s.onCell g).but k = s.but k := by
  simp only [State.but, State.onCell, if_pos h]
@[simp] theorem State.onCask_but (s : State) (g : CaskS → CaskS) (k : List Part) (h : Part.cask ∈ k) : (s.onCask g).but k = s.but k := by
  simp only [State.but, State.onCask, if_pos h]
@[simp] theorem State.onMntl_but (s : State) (g : MntlS → MntlS) (k : List Part) (h : Part.mntl ∈ k) : (s.onMntl g).but k = s.but k := by
  simp only [State.but, State.onMntl, if_pos h]
@[simp] theorem State.onMash_but (s : State) (g : MashS → MashS) (k : List Part) (h : Part.mash ∈ k) : (s.onMash g).but k = s.but k := by
  simp only [State.but, State.onMash, if_pos h]
@[simp] theorem State.onEth_but (s : State) (g : EthS → EthS) (k : List Part) (h : Part.eth ∈ k) : (s.onEth g).but k = s.but k := by
  simp only [State.but, State.onEth, if_pos h]
@[simp] theorem State.onKiln_but (s : State) (g : KilnS → KilnS) (k : List Part) (h : Part.kiln ∈ k) : (s.onKiln g).but k = s.but k := by
  simp only [State.but, State.onKiln, if_pos h]
@[simp] theorem State.onGnss_but (s : State) (g : GnssS → GnssS) (k : List Part) (h : Part.gnss ∈ k) : (s.onGnss g).but k = s.but k := by
  simp only [State.but, State.onGnss, if_pos h]
@[simp] theorem State.onTsvc_but (s : State) (g : TsvcS → TsvcS) (k : List Part) (h : Part.tsvc ∈ k) : (s.onTsvc g).but k = s.but k := by
  simp only [State.but, State.onTsvc, if_pos h]
@[simp] theorem State.onHcp_but (s : State) (g : HcpS → HcpS) (k : List Part) (h : Part.hcp ∈ k) : (s.onHcp g).but k = s.but k := by
  simp only [State.but, State.onHcp, if_pos h]
@[simp] theorem State.onBoot_but (s : State) (g : BootS → BootS) (k : List Part) (h : Part.boot ∈ k)
    (hf : (g s.boot).fuses = s.boot.fuses) : (s.onBoot g).but k = s.but k := by
  simp only [State.but, State.onBoot, if_pos h, hf]
@[simp] theorem State.onPwr_but (s : State) (g : PwrS → PwrS) (k : List Part) (h : Part.pwr ∈ k) : (s.onPwr g).but k = s.but k := by
  simp only [State.but, State.onPwr, if_pos h]
@[simp] theorem State.flag_but (s : State) (f : Field) (i : Nat) (v : Bool) (k : List Part) (h : Part.rv ∈ k) : (s.flag f i v).but k = s.but k :=
  State.wr_but _ _ _ _ k h
@[simp] theorem State.bump_but (s : State) (f : Field) (i v : Nat) (k : List Part) (h : Part.rv ∈ k) : (s.bump f i v).but k = s.but k :=
  State.wr_but _ _ _ _ k h
@[simp] theorem State.cnt64_but (s : State) (f : Field) (i v : Nat) (k : List Part) (h : Part.rv ∈ k) : (s.cnt64 f i v).but k = s.but k :=
  State.wr_but _ _ _ _ k h
@[simp] theorem State.putSess_but (s : State) (n : Nat) (r : Session) (k : List Part) (h : Part.sess ∈ k) :
    (s.putSess n r).but k = s.but k := by
  simp only [State.but, State.putSess, State.onHcp, if_pos h]
@[simp] theorem State.putFollow_but (s : State) (n : Nat) (r : FollowS) (k : List Part) (h : Part.follow ∈ k) :
    (s.putFollow n r).but k = s.but k := by
  simp only [State.but, State.putFollow, State.onMash, if_pos h]
@[simp] theorem State.start_but (s : State) (dt : Nat) (k : List Part) (h : Part.out ∈ k ∧ Part.up ∈ k ∧ Part.now ∈ k) :
    (s.start dt).but k = s.but k := by
  simp only [State.but, State.start, if_pos h.1, if_pos h.2.1, if_pos h.2.2]
@[simp] theorem but_ite (c : Prop) [Decidable c] (a b : State) (k : List Part) :
    (if c then a else b).but k = if c then a.but k else b.but k := by split <;> rfl
@[simp] theorem but_ite_fst {α : Type} (c : Prop) [Decidable c] (a b : State × α) (k : List Part) :
    (if c then a else b).1.but k = if c then a.1.but k else b.1.but k := by split <;> rfl
@[simp] theorem but_ite_snd {α : Type} (c : Prop) [Decidable c] (a b : α × State) (k : List Part) :
    (if c then a else b).2.but k = if c then a.2.but k else b.2.but k := by split <;> rfl
theorem foldl_but {α : Type} (f : State → α → State) (k : List Part) (h : ∀ s a, (f s a).but k = s.but k) (l : List α) (s : State) :
    (l.foldl f s).but k = s.but k := foldl_keep (fun s => s.but k) f h l s
@[simp] theorem foldl_but_simp {α : Type} (f : State → α → State) (k : List Part) (l : List α) (s : State)
    (h : ∀ s a, (f s a).but k = s.but k) : (l.foldl f s).but k = s.but k := foldl_but f k h l s
theorem foldl_but_snd {α β : Type} (f : β × State → α → β × State) (k : List Part) (h : ∀ p a, (f p a).2.but k = p.2.but k)
    (l : List α) (p : β × State) : (l.foldl f p).2.but k = p.2.but k := foldl_keep (fun p => p.2.but k) f h l p
@[simp] theorem State.each_but (s : State) (l : List Nat) (f : State → Nat → State) (k : List Part)
    (h : ∀ s n, (f s n).but k = s.but k) : (s.each l f).but k = s.but k := foldl_but f k h l s
@[simp] theorem State.onRec_but (s : State) (a1 : StateRec → StateRec) (k : List Part) (h : ∀ p ∈ [Part.boot], p ∈ k) :
    (State.onRec s a1).but k = s.but k := by
  simp only [List.mem_cons, forall_eq_or_imp, List.not_mem_nil, false_implies, implies_true, and_true] at h
  simp [State.onRec, h]
@[simp] theorem State.setStg_but (s : State) (a1 : Nat) (a2 : Nat) (k : List Part) (h : ∀ p ∈ [Part.rv, .boot], p ∈ k) :
    (State.setStg s a1 a2).but k = s.but k := by
  simp only [List.mem_cons, forall_eq_or_imp, List.not_mem_nil, false_implies, implies_true, and_true] at h
  simp [State.setStg, h]
@[simp] theorem State.clearBytes_but (s : State) (a1 : Nat) (a2 : Nat) (k : List Part) (h : ∀ p ∈ [Part.mem], p ∈ k) :
    (State.clearBytes s a1 a2).but k = s.but k := by
  simp only [List.mem_cons, forall_eq_or_imp, List.not_mem_nil, false_implies, implies_true, and_true] at h
  simp [State.clearBytes, h]
@[simp] theorem State.eraseStaging_but (s : State) (k : List Part) (h : ∀ p ∈ [Part.mem, .boot], p ∈ k) :
    (State.eraseStaging s).but k = s.but k := by
  simp only [List.mem_cons, forall_eq_or_imp, List.not_mem_nil, false_implies, implies_true, and_true] at h
  simp [State.eraseStaging, h]
@[simp] theorem State.emit_but (s : State) (a1 : Output) (k : List Part) (h : ∀ p ∈ [Part.out], p ∈ k) :
    (State.emit s a1).but k = s.but k := by
  simp only [List.mem_cons, forall_eq_or_imp, List.not_mem_nil, false_implies, implies_true, and_true] at h
  simp [State.emit, h]
@[simp] theorem State.txLeave_but (s : State) (a1 : Nat) (a2 : TxItem) (k : List Part) (h : ∀ p ∈ [Part.out, .rv], p ∈ k) :
    (State.txLeave s a1 a2).but k = s.but k := by
  simp only [List.mem_cons, forall_eq_or_imp, List.not_mem_nil, false_implies, implies_true, and_true] at h
  unfold State.txLeave
  repeat' (first | (simp [h]; done) | split)
@[simp] theorem State.txItem_but (s : State) (a1 : Nat) (a2 : TxItem) (k : List Part) (h : ∀ p ∈ [Part.out, .rv, .egr], p ∈ k)
    :
    (State.txItem s a1 a2).but k = s.but k := by
  simp only [List.mem_cons, forall_eq_or_imp, List.not_mem_nil, false_implies, implies_true, and_true] at h
  simp [State.txItem, h]
@[simp] theorem State.txFrame_but (s : State) (a1 : Nat) (a2 : Nat) (a3 : Output) (a4 : optParam TxMark TxMark.none) (k : List
    Part) (h : ∀ p ∈ [Part.out, .rv, .egr], p ∈ k) :
    (State.txFrame s a1 a2 a3 a4).but k = s.but k := by
  simp only [List.mem_cons, forall_eq_or_imp, List.not_mem_nil, false_implies, implies_true, and_true] at h
  simp [State.txFrame, h]
@[simp] theorem State.flush_but (s : State) (a1 : Nat) (k : List Part) (h : ∀ p ∈ [Part.out, .rv, .egr, .sess], p ∈ k) :
    (State.flush s a1).but k = s.but k := by
  simp only [List.mem_cons, forall_eq_or_imp, List.not_mem_nil, false_implies, implies_true, and_true] at h
  unfold State.flush
  dsimp only
  repeat' (first | (simp [h]; done) | (refine (State.each_but _ _ _ _ ?_).trans ?_) | (refine (foldl_but _ _ ?_ _ _).trans ?_) | (refine (foldl_but_snd _ _ ?_ _ _).trans ?_) | (intro _ _) | split | (dsimp only))
@[simp] theorem State.event_but (s : State) (a1 : Nat) (a2 : Nat) (a3 : Nat) (a4 : List Byte) (k : List Part) (h : ∀ p ∈
    [Part.out, .rv, .egr, .sess], p ∈ k) :
    (State.event s a1 a2 a3 a4).but k = s.but k := by
  simp only [List.mem_cons, forall_eq_or_imp, List.not_mem_nil, false_implies, implies_true, and_true] at h
  simp [State.event, h]
@[simp] theorem State.imageEvent_but (s : State) (a1 : Nat) (a2 : Nat) (a3 : Nat) (k : List Part) (h : ∀ p ∈ [Part.out, .rv,
    .egr, .sess], p ∈ k) :
    (State.imageEvent s a1 a2 a3).but k = s.but k := by
  simp only [List.mem_cons, forall_eq_or_imp, List.not_mem_nil, false_implies, implies_true, and_true] at h
  simp [State.imageEvent, h]
@[simp] theorem State.flashFails_but (s : State) (k : List Part) (h : ∀ p ∈ [Part.rv, .flt], p ∈ k) :
    (State.flashFails s).but k = s.but k := by
  simp only [List.mem_cons, forall_eq_or_imp, List.not_mem_nil, false_implies, implies_true, and_true] at h
  simp [State.flashFails, h]
@[simp] theorem State.copyBytes_but (s : State) (a1 : Nat) (a2 : Nat) (a3 : Nat) (k : List Part) (h : ∀ p ∈ [Part.mem], p ∈ k)
    :
    (State.copyBytes s a1 a2 a3).but k = s.but k := by
  simp only [List.mem_cons, forall_eq_or_imp, List.not_mem_nil, false_implies, implies_true, and_true] at h
  simp [State.copyBytes, h]
@[simp] theorem State.toStage_but (s : State) (a1 : Nat) (k : List Part) (h : ∀ p ∈ [Part.rv, .boot], p ∈ k) :
    (State.toStage s a1).but k = s.but k := by
  simp only [List.mem_cons, forall_eq_or_imp, List.not_mem_nil, false_implies, implies_true, and_true] at h
  simp [State.toStage, h]
@[simp] theorem State.swapEnd_but (s : State) (k : List Part) (h : ∀ p ∈ [Part.out, .rv, .boot, .egr, .sess], p ∈ k) :
    (State.swapEnd s).but k = s.but k := by
  simp only [List.mem_cons, forall_eq_or_imp, List.not_mem_nil, false_implies, implies_true, and_true] at h
  simp [State.swapEnd, h]
@[simp] theorem State.swapBegin_but (s : State) (k : List Part) (h : ∀ p ∈ [Part.out, .rv, .boot, .egr, .sess], p ∈ k) :
    (State.swapBegin s).but k = s.but k := by
  simp only [List.mem_cons, forall_eq_or_imp, List.not_mem_nil, false_implies, implies_true, and_true] at h
  simp [State.swapBegin, h]
@[simp] theorem State.recLoad_but (s : State) (k : List Part) (h : ∀ p ∈ [Part.rv, .boot], p ∈ k) :
    (State.recLoad s).but k = s.but k := by
  simp only [List.mem_cons, forall_eq_or_imp, List.not_mem_nil, false_implies, implies_true, and_true] at h
  simp [State.recLoad, h]
@[simp] theorem State.stage2_but (s : State) (k : List Part) (h : ∀ p ∈ [Part.out, .rv, .mem, .boot, .egr, .sess], p ∈ k) :
    (State.stage2 s).but k = s.but k := by
  simp only [List.mem_cons, forall_eq_or_imp, List.not_mem_nil, false_implies, implies_true, and_true] at h
  simp [State.stage2, h]
@[simp] theorem State.imageKeys_but (s : State) (a1 : KeyRec) (k : List Part) (h : ∀ p ∈ [Part.rv, .hcp], p ∈ k) :
    (State.imageKeys s a1).but k = s.but k := by
  simp only [List.mem_cons, forall_eq_or_imp, List.not_mem_nil, false_implies, implies_true, and_true] at h
  simp [State.imageKeys, h]
@[simp] theorem State.putTout_but (s : State) (a1 : Nat) (a2 : ToutS) (k : List Part) (h : ∀ p ∈ [Part.kiln], p ∈ k) :
    (State.putTout s a1 a2).but k = s.but k := by
  simp only [List.mem_cons, forall_eq_or_imp, List.not_mem_nil, false_implies, implies_true, and_true] at h
  simp [State.putTout, h]
@[simp] theorem State.imageOutputs_but (s : State) (a1 : State) (k : List Part) (h : ∀ p ∈ [Part.kiln], p ∈ k) :
    (State.imageOutputs s a1).but k = s.but k := by
  simp only [List.mem_cons, forall_eq_or_imp, List.not_mem_nil, false_implies, implies_true, and_true] at h
  simp [State.imageOutputs, h]
@[simp] theorem State.utcSettle_but (s : State) (k : List Part) (h : ∀ p ∈ [Part.rv], p ∈ k) :
    (State.utcSettle s).but k = s.but k := by
  simp only [List.mem_cons, forall_eq_or_imp, List.not_mem_nil, false_implies, implies_true, and_true] at h
  simp [State.utcSettle, h]
@[simp] theorem State.handle_but (s : State) (a1 : Nat) (k : List Part) (h : ∀ p ∈ [Part.freeCtr, .flt], p ∈ k) :
    (State.handle s a1).but k = s.but k := by
  simp only [List.mem_cons, forall_eq_or_imp, List.not_mem_nil, false_implies, implies_true, and_true] at h
  simp [State.handle, h]
@[simp] theorem State.logFault_but (s : State) (a1 : LogEntry) (k : List Part) (h : ∀ p ∈ [Part.out, .rv, .flt, .egr, .sess],
    p ∈ k) :
    (State.logFault s a1).but k = s.but k := by
  simp only [List.mem_cons, forall_eq_or_imp, List.not_mem_nil, false_implies, implies_true, and_true] at h
  simp [State.logFault, h]
@[simp] theorem State.pulse_but (s : State) (k : List Part) (h : ∀ p ∈ [Part.rv, .flt], p ∈ k) :
    (State.pulse s).but k = s.but k := by
  simp only [List.mem_cons, forall_eq_or_imp, List.not_mem_nil, false_implies, implies_true, and_true] at h
  simp [State.pulse, h]
@[simp] theorem State.putFence_but (s : State) (a1 : UKind) (a2 : Nat) (a3 : Nat) (k : List Part) (h : ∀ p ∈ [Part.flt], p ∈
    k) :
    (State.putFence s a1 a2 a3).but k = s.but k := by
  simp only [List.mem_cons, forall_eq_or_imp, List.not_mem_nil, false_implies, implies_true, and_true] at h
  simp [State.putFence, h]
@[simp] theorem State.ownFence_but (s : State) (a1 : UKind) (a2 : Nat) (a3 : Nat) (k : List Part) (h : ∀ p ∈ [Part.flt], p ∈
    k) :
    (State.ownFence s a1 a2 a3).but k = s.but k := by
  simp only [List.mem_cons, forall_eq_or_imp, List.not_mem_nil, false_implies, implies_true, and_true] at h
  simp [State.ownFence, h]
@[simp] theorem State.judge_but (s : State) (a1 : Nat) (k : List Part) (h : ∀ p ∈ [Part.rv, .dst], p ∈ k) :
    (State.judge s a1).but k = s.but k := by
  simp only [List.mem_cons, forall_eq_or_imp, List.not_mem_nil, false_implies, implies_true, and_true] at h
  simp [State.judge, h]
@[simp] theorem State.judgeAll_but (s : State) (a1 : Nat) (k : List Part) (h : ∀ p ∈ [Part.rv, .dst], p ∈ k) :
    (State.judgeAll s a1).but k = s.but k := by
  simp only [List.mem_cons, forall_eq_or_imp, List.not_mem_nil, false_implies, implies_true, and_true] at h
  simp [State.judgeAll, h]
@[simp] theorem State.loseSlot_but (s : State) (a1 : Nat) (k : List Part) (h : ∀ p ∈ [Part.rv, .dst], p ∈ k) :
    (State.loseSlot s a1).but k = s.but k := by
  simp only [List.mem_cons, forall_eq_or_imp, List.not_mem_nil, false_implies, implies_true, and_true] at h
  simp [State.loseSlot, h]
@[simp] theorem State.putFlowRx_but (s : State) (a1 : Nat) (a2 : FlowRx) (k : List Part) (h : ∀ p ∈ [Part.eth], p ∈ k) :
    (State.putFlowRx s a1 a2).but k = s.but k := by
  simp only [List.mem_cons, forall_eq_or_imp, List.not_mem_nil, false_implies, implies_true, and_true] at h
  simp [State.putFlowRx, h]
@[simp] theorem State.settleFlow_but (s : State) (a1 : Nat) (k : List Part) (h : ∀ p ∈ [Part.rv, .dst], p ∈ k) :
    (State.settleFlow s a1).but k = s.but k := by
  simp only [List.mem_cons, forall_eq_or_imp, List.not_mem_nil, false_implies, implies_true, and_true] at h
  simp only [State.settleFlow]
  repeat' (first | (simp [h]; done) | split)
@[simp] theorem State.loseFlow_but (s : State) (a1 : Nat) (k : List Part) (h : ∀ p ∈ [Part.rv, .dst, .eth], p ∈ k) :
    (State.loseFlow s a1).but k = s.but k := by
  simp only [List.mem_cons, forall_eq_or_imp, List.not_mem_nil, false_implies, implies_true, and_true] at h
  simp [State.loseFlow, h]
@[simp] theorem State.cohSettle_but (s : State) (k : List Part) (h : ∀ p ∈ [Part.gnss], p ∈ k) :
    (State.cohSettle s).but k = s.but k := by
  simp only [List.mem_cons, forall_eq_or_imp, List.not_mem_nil, false_implies, implies_true, and_true] at h
  simp [State.cohSettle, h]
@[simp] theorem State.gnssSettle_but (s : State) (k : List Part) (h : ∀ p ∈ [Part.rv, .gnss], p ∈ k) :
    (State.gnssSettle s).but k = s.but k := by
  simp only [List.mem_cons, forall_eq_or_imp, List.not_mem_nil, false_implies, implies_true, and_true] at h
  simp [State.gnssSettle, h]
@[simp] theorem State.setCh_but (s : State) (a1 : Nat) (a2 : Nat) (k : List Part) (h : ∀ p ∈ [Part.rv, .gnss], p ∈ k) :
    (State.setCh s a1 a2).but k = s.but k := by
  simp only [List.mem_cons, forall_eq_or_imp, List.not_mem_nil, false_implies, implies_true, and_true] at h
  simp [State.setCh, h]
@[simp] theorem State.hopStop_but (s : State) (a1 : Nat) (a2 : Nat) (k : List Part) (h : ∀ p ∈ [Part.hop], p ∈ k) :
    (State.hopStop s a1 a2).but k = s.but k := by
  simp only [List.mem_cons, forall_eq_or_imp, List.not_mem_nil, false_implies, implies_true, and_true] at h
  simp [State.hopStop, h]
@[simp] theorem State.sick_but (s : State) (k : List Part) (h : ∀ p ∈ [Part.mntl, .boot], p ∈ k) :
    (State.sick s).but k = s.but k := by
  simp only [List.mem_cons, forall_eq_or_imp, List.not_mem_nil, false_implies, implies_true, and_true] at h
  simp [State.sick, h]
@[simp] theorem State.saveModel_but (s : State) (k : List Part) (h : ∀ p ∈ [Part.kiln], p ∈ k) :
    (State.saveModel s).but k = s.but k := by
  simp only [List.mem_cons, forall_eq_or_imp, List.not_mem_nil, false_implies, implies_true, and_true] at h
  simp [State.saveModel, h]
@[simp] theorem State.saveCellar_but (s : State) (k : List Part) (h : ∀ p ∈ [Part.kiln], p ∈ k) :
    (State.saveCellar s).but k = s.but k := by
  simp only [List.mem_cons, forall_eq_or_imp, List.not_mem_nil, false_implies, implies_true, and_true] at h
  simp [State.saveCellar, h]
@[simp] theorem State.setMode_but (s : State) (a1 : Mode) (k : List Part) (h : ∀ p ∈ [Part.rv, .mntl, .kiln, .boot], p ∈ k) :
    (State.setMode s a1).but k = s.but k := by
  simp only [List.mem_cons, forall_eq_or_imp, List.not_mem_nil, false_implies, implies_true, and_true] at h
  simp [State.setMode, h]
@[simp] theorem State.settleMode_but (s : State) (k : List Part) (h : ∀ p ∈ [Part.rv, .mntl, .kiln, .boot], p ∈ k) :
    (State.settleMode s).but k = s.but k := by
  simp only [List.mem_cons, forall_eq_or_imp, List.not_mem_nil, false_implies, implies_true, and_true] at h
  unfold State.settleMode
  repeat' (first | (simp [h]; done) | split)
@[simp] theorem State.fence_but (s : State) (a1 : UKind) (a2 : Nat) (k : List Part) (h : ∀ p ∈ [Part.rv, .flt, .dst, .mntl,
    .eth, .kiln, .gnss, .hop, .boot], p ∈ k) :
    (State.fence s a1 a2).but k = s.but k := by
  simp only [List.mem_cons, forall_eq_or_imp, List.not_mem_nil, false_implies, implies_true, and_true] at h
  unfold State.fence
  repeat' (first | (simp [h]; done) | split)
@[simp] theorem State.hemHold_but (s : State) (k : List Part) (h : ∀ p ∈ [Part.dst], p ∈ k) :
    (State.hemHold s).but k = s.but k := by
  simp only [List.mem_cons, forall_eq_or_imp, List.not_mem_nil, false_implies, implies_true, and_true] at h
  simp [State.hemHold, h]
@[simp] theorem State.csGo_but (s : State) (a1 : Nat) (a2 : ChangeSet) (a3 : Nat) (k : List Part) (h : ∀ p ∈ [Part.out, .rv,
    .cs, .egr, .sess], p ∈ k) :
    (State.csGo s a1 a2 a3).but k = s.but k := by
  simp only [List.mem_cons, forall_eq_or_imp, List.not_mem_nil, false_implies, implies_true, and_true] at h
  simp [State.csGo, h]
@[simp] theorem State.csCancel_but (s : State) (a1 : Nat) (k : List Part) (h : ∀ p ∈ [Part.out, .rv, .cs, .egr, .sess], p ∈ k)
    :
    (State.csCancel s a1).but k = s.but k := by
  simp only [List.mem_cons, forall_eq_or_imp, List.not_mem_nil, false_implies, implies_true, and_true] at h
  simp [State.csCancel, h]
@[simp] theorem State.hemCancel_but (s : State) (k : List Part) (h : ∀ p ∈ [Part.out, .rv, .cs, .egr, .sess], p ∈ k) :
    (State.hemCancel s).but k = s.but k := by
  simp only [List.mem_cons, forall_eq_or_imp, List.not_mem_nil, false_implies, implies_true, and_true] at h
  simp [State.hemCancel, h]
@[simp] theorem State.setRole_but (s : State) (a1 : Role) (k : List Part) (h : ∀ p ∈ [Part.rv], p ∈ k) :
    (State.setRole s a1).but k = s.but k := by
  simp only [List.mem_cons, forall_eq_or_imp, List.not_mem_nil, false_implies, implies_true, and_true] at h
  simp [State.setRole, h]
@[simp] theorem State.txWake_but (s : State) (a1 : Nat) (k : List Part) (h : ∀ p ∈ [Part.out, .rv, .txb], p ∈ k) :
    (State.txWake s a1).but k = s.but k := by
  simp only [List.mem_cons, forall_eq_or_imp, List.not_mem_nil, false_implies, implies_true, and_true] at h
  simp [State.txWake, h]
@[simp] theorem State.putTx_but (s : State) (a1 : Nat) (a2 : Nat) (a3 : LaneTx) (k : List Part) (h : ∀ p ∈ [Part.txb], p ∈ k)
    :
    (State.putTx s a1 a2 a3).but k = s.but k := by
  simp only [List.mem_cons, forall_eq_or_imp, List.not_mem_nil, false_implies, implies_true, and_true] at h
  simp [State.putTx, h]
@[simp] theorem State.laneSend_but (s : State) (a1 : Nat) (a2 : Nat) (a3 : List Byte) (k : List Part) (h : ∀ p ∈ [Part.out,
    .txb], p ∈ k) :
    (State.laneSend s a1 a2 a3).but k = s.but k := by
  simp only [List.mem_cons, forall_eq_or_imp, List.not_mem_nil, false_implies, implies_true, and_true] at h
  simp [State.laneSend, h]
@[simp] theorem State.sendWord_but (s : State) (a1 : Nat) (a2 : Nat) (a3 : List Byte) (k : List Part) (h : ∀ p ∈ [Part.out,
    .txb], p ∈ k) :
    (State.sendWord s a1 a2 a3).but k = s.but k := by
  simp only [List.mem_cons, forall_eq_or_imp, List.not_mem_nil, false_implies, implies_true, and_true] at h
  simp [State.sendWord, h]
@[simp] theorem State.dataWord_but (s : State) (a1 : Nat) (a2 : Nat) (a3 : List Byte) (k : List Part) (h : ∀ p ∈ [Part.out,
    .txb], p ∈ k) :
    (State.dataWord s a1 a2 a3).but k = s.but k := by
  simp only [List.mem_cons, forall_eq_or_imp, List.not_mem_nil, false_implies, implies_true, and_true] at h
  simp [State.dataWord, h]
@[simp] theorem State.drainLane_but (s : State) (a1 : Nat) (a2 : Nat) (a3 : Nat) (k : List Part) (h : ∀ p ∈ [Part.out, .txb],
    p ∈ k) :
    (State.drainLane s a1 a2 a3).but k = s.but k := by
  simp only [List.mem_cons, forall_eq_or_imp, List.not_mem_nil, false_implies, implies_true, and_true] at h
  induction a3 generalizing s with
  | zero => rfl
  | succ n ih =>
    simp only [State.drainLane]
    split <;> simp [h, ih]
@[simp] theorem State.rawCell_but (s : State) (a1 : Nat) (a2 : Nat) (a3 : List Byte) (k : List Part) (h : ∀ p ∈ [Part.out,
    .txb], p ∈ k) :
    (State.rawCell s a1 a2 a3).but k = s.but k := by
  simp only [List.mem_cons, forall_eq_or_imp, List.not_mem_nil, false_implies, implies_true, and_true] at h
  simp [State.rawCell, h]
@[simp] theorem State.sendBytes_but (s : State) (a1 : Nat) (a2 : Nat) (a3 : List Byte) (k : List Part) (h : ∀ p ∈ [Part.out,
    .rv, .txb], p ∈ k) :
    (State.sendBytes s a1 a2 a3).but k = s.but k := by
  simp only [List.mem_cons, forall_eq_or_imp, List.not_mem_nil, false_implies, implies_true, and_true] at h
  simp [State.sendBytes, h]
@[simp] theorem State.sendHdr_but (s : State) (a1 : Nat) (a2 : Nat) (a3 : Hdr) (a4 : List Byte) (k : List Part) (h : ∀ p ∈
    [Part.out, .rv, .txb], p ∈ k) :
    (State.sendHdr s a1 a2 a3 a4).but k = s.but k := by
  simp only [List.mem_cons, forall_eq_or_imp, List.not_mem_nil, false_implies, implies_true, and_true] at h
  simp [State.sendHdr, h]
@[simp] theorem State.sendCell_but (s : State) (a1 : Nat) (a2 : Nat) (a3 : Nat) (a4 : Nat) (a5 : List Byte) (k : List Part) (h
    : ∀ p ∈ [Part.out, .rv, .txb], p ∈ k) :
    (State.sendCell s a1 a2 a3 a4 a5).but k = s.but k := by
  simp only [List.mem_cons, forall_eq_or_imp, List.not_mem_nil, false_implies, implies_true, and_true] at h
  simp [State.sendCell, h]
@[simp] theorem State.sideCell_but (s : State) (a1 : Nat) (a2 : Bool) (a3 : List Byte) (k : List Part) (h : ∀ p ∈ [Part.out,
    .rv, .txb], p ∈ k) :
    (State.sideCell s a1 a2 a3).but k = s.but k := by
  simp only [List.mem_cons, forall_eq_or_imp, List.not_mem_nil, false_implies, implies_true, and_true] at h
  simp [State.sideCell, h]
@[simp] theorem State.sideFrags_but (s : State) (a1 : Nat) (a2 : Nat) (a3 : Nat) (a4 : Nat) (a5 : Nat) (a6 : List Byte) (k :
    List Part) (h : ∀ p ∈ [Part.out, .rv, .txb], p ∈ k) :
    (State.sideFrags s a1 a2 a3 a4 a5 a6).but k = s.but k := by
  simp only [List.mem_cons, forall_eq_or_imp, List.not_mem_nil, false_implies, implies_true, and_true] at h
  induction a4 generalizing s a5 a6 with
  | zero => rfl
  | succ n ih =>
    simp only [State.sideFrags]
    split <;> simp [h, ih]
@[simp] theorem State.sideSend_but (s : State) (a1 : Nat) (a2 : Nat) (a3 : List Byte) (k : List Part) (h : ∀ p ∈ [Part.out,
    .rv, .txb], p ∈ k) :
    (State.sideSend s a1 a2 a3).but k = s.but k := by
  simp only [List.mem_cons, forall_eq_or_imp, List.not_mem_nil, false_implies, implies_true, and_true] at h
  simp [State.sideSend, h]
@[simp] theorem State.mantle_but (s : State) (a1 : MantleMsg) (k : List Part) (h : ∀ p ∈ [Part.out, .rv, .txb], p ∈ k) :
    (State.mantle s a1).but k = s.but k := by
  simp only [List.mem_cons, forall_eq_or_imp, List.not_mem_nil, false_implies, implies_true, and_true] at h
  simp [State.mantle, h]
@[simp] theorem State.clearHolder_but (s : State) (k : List Part) (h : ∀ p ∈ [Part.mntl], p ∈ k) :
    (State.clearHolder s).but k = s.but k := by
  simp only [List.mem_cons, forall_eq_or_imp, List.not_mem_nil, false_implies, implies_true, and_true] at h
  simp [State.clearHolder, h]
@[simp] theorem State.giveUp_but (s : State) (k : List Part) (h : ∀ p ∈ [Part.out, .rv, .txb, .mntl], p ∈ k) :
    (State.giveUp s).but k = s.but k := by
  simp only [List.mem_cons, forall_eq_or_imp, List.not_mem_nil, false_implies, implies_true, and_true] at h
  unfold State.giveUp
  repeat' (first | (simp [h]; done) | split)
@[simp] theorem State.trialHem_but (s : State) (k : List Part) (h : ∀ p ∈ [Part.boot], p ∈ k) :
    (State.trialHem s).but k = s.but k := by
  simp only [List.mem_cons, forall_eq_or_imp, List.not_mem_nil, false_implies, implies_true, and_true] at h
  simp [State.trialHem, h]
@[simp] theorem State.enterHem_but (s : State) (a1 : Nat) (k : List Part) (h : ∀ p ∈ [Part.out, .rv, .cs, .flt, .txb, .dst,
    .mntl, .kiln, .boot, .egr, .sess], p ∈ k) :
    (State.enterHem s a1).but k = s.but k := by
  simp only [List.mem_cons, forall_eq_or_imp, List.not_mem_nil, false_implies, implies_true, and_true] at h
  simp [State.enterHem, h]
@[simp] theorem State.react_but (s : State) (a1 : Nat) (a2 : UKind) (a3 : Nat) (a4 : Nat) (k : List Part) (h : ∀ p ∈
    [Part.out, .rv, .cs, .flt, .txb, .dst, .mntl, .eth, .kiln, .gnss, .hop, .boot, .egr, .sess], p ∈ k) :
    (State.react s a1 a2 a3 a4).but k = s.but k := by
  simp only [List.mem_cons, forall_eq_or_imp, List.not_mem_nil, false_implies, implies_true, and_true] at h
  simp [State.react, h]
@[simp] theorem State.raiseOne_but (s : State) (a1 : Nat) (a2 : Nat) (a3 : Nat) (k : List Part) (h : ∀ p ∈ [Part.out,
    .freeCtr, .rv, .cs, .flt, .txb, .dst, .mntl, .eth, .kiln, .gnss, .hop, .boot, .egr, .sess], p ∈ k) :
    (State.raiseOne s a1 a2 a3).but k = s.but k := by
  simp only [List.mem_cons, forall_eq_or_imp, List.not_mem_nil, false_implies, implies_true, and_true] at h
  unfold State.raiseOne
  repeat' (first | (simp [h]; done) | split)
@[simp] theorem State.ledgerCheck_but (s : State) (a1 : State) (k : List Part) (h : ∀ p ∈ [Part.out, .freeCtr, .rv, .cs, .flt,
    .txb, .dst, .mntl, .eth, .kiln, .gnss, .hop, .boot, .egr, .sess], p ∈ k) :
    (State.ledgerCheck s a1).but k = s.but k := by
  simp only [List.mem_cons, forall_eq_or_imp, List.not_mem_nil, false_implies, implies_true, and_true] at h
  simp [State.ledgerCheck, h]
@[simp] theorem State.raise_but (s : State) (a1 : Nat) (a2 : Nat) (a3 : Nat) (k : List Part) (h : ∀ p ∈ [Part.out, .freeCtr,
    .rv, .cs, .flt, .txb, .dst, .mntl, .eth, .kiln, .gnss, .hop, .boot, .egr, .sess], p ∈ k) :
    (State.raise s a1 a2 a3).but k = s.but k := by
  simp only [List.mem_cons, forall_eq_or_imp, List.not_mem_nil, false_implies, implies_true, and_true] at h
  simp [State.raise, h]
@[simp] theorem State.kilnEvent_but (s : State) (a1 : Nat) (a2 : Nat) (k : List Part) (h : ∀ p ∈ [Part.out, .rv, .egr, .sess],
    p ∈ k) :
    (State.kilnEvent s a1 a2).but k = s.but k := by
  simp only [List.mem_cons, forall_eq_or_imp, List.not_mem_nil, false_implies, implies_true, and_true] at h
  simp [State.kilnEvent, h]
@[simp] theorem State.lower_but (s : State) (a1 : Nat) (a2 : Nat) (k : List Part) (h : ∀ p ∈ [Part.flt, .boot], p ∈ k) :
    (State.lower s a1 a2).but k = s.but k := by
  simp only [List.mem_cons, forall_eq_or_imp, List.not_mem_nil, false_implies, implies_true, and_true] at h
  simp [State.lower, h]
@[simp] theorem State.hoCheck_but (s : State) (k : List Part) (h : ∀ p ∈ [Part.out, .freeCtr, .rv, .cs, .flt, .txb, .dst,
    .mntl, .eth, .kiln, .gnss, .hop, .boot, .egr, .sess], p ∈ k) :
    (State.hoCheck s).but k = s.but k := by
  simp only [List.mem_cons, forall_eq_or_imp, List.not_mem_nil, false_implies, implies_true, and_true] at h
  simp [State.hoCheck, h]
@[simp] theorem State.holdFrom_but (s : State) (a1 : Option Nat) (k : List Part) (h : ∀ p ∈ [Part.kiln], p ∈ k) :
    (State.holdFrom s a1).but k = s.but k := by
  simp only [List.mem_cons, forall_eq_or_imp, List.not_mem_nil, false_implies, implies_true, and_true] at h
  simp [State.holdFrom, h]
@[simp] theorem State.kilnSwitch_but (s : State) (a1 : Nat) (k : List Part) (h : ∀ p ∈ [Part.out, .freeCtr, .rv, .cs, .flt,
    .txb, .dst, .mntl, .eth, .kiln, .gnss, .hop, .boot, .egr, .sess], p ∈ k) :
    (State.kilnSwitch s a1).but k = s.but k := by
  simp only [List.mem_cons, forall_eq_or_imp, List.not_mem_nil, false_implies, implies_true, and_true] at h
  simp [State.kilnSwitch, h]
@[simp] theorem State.refSelect_but (s : State) (a1 : Bool) (k : List Part) (h : ∀ p ∈ [Part.out, .freeCtr, .rv, .cs, .flt,
    .txb, .dst, .mntl, .eth, .kiln, .gnss, .hop, .boot, .egr, .sess], p ∈ k) :
    (State.refSelect s a1).but k = s.but k := by
  simp only [List.mem_cons, forall_eq_or_imp, List.not_mem_nil, false_implies, implies_true, and_true] at h
  simp [State.refSelect, h]
@[simp] theorem State.putRef_but (s : State) (a1 : Nat) (a2 : RefS) (k : List Part) (h : ∀ p ∈ [Part.kiln], p ∈ k) :
    (State.putRef s a1 a2).but k = s.but k := by
  simp only [List.mem_cons, forall_eq_or_imp, List.not_mem_nil, false_implies, implies_true, and_true] at h
  simp [State.putRef, h]
@[simp] theorem refFollow_but (p : Bool × State) (n : Nat) (k : List Part) (h : ∀ p ∈ [Part.out, .freeCtr, .rv, .cs, .flt,
    .txb, .dst, .mntl, .eth, .kiln, .gnss, .hop, .boot, .egr, .sess], p ∈ k) :
    (refFollow p n).2.but k = p.2.but k := by
  simp only [List.mem_cons, forall_eq_or_imp, List.not_mem_nil, false_implies, implies_true, and_true] at h
  simp only [refFollow]
  split
  · split <;> simp [h]
  · split <;> simp [h]
@[simp] theorem State.refSettle_but (s : State) (k : List Part) (h : ∀ p ∈ [Part.out, .freeCtr, .rv, .cs, .flt, .txb, .dst,
    .mntl, .eth, .kiln, .gnss, .hop, .boot, .egr, .sess], p ∈ k) :
    (State.refSettle s).but k = s.but k := by
  simp only [List.mem_cons, forall_eq_or_imp, List.not_mem_nil, false_implies, implies_true, and_true] at h
  simp only [State.refSettle]
  split
  · rfl
  have q := foldl_keep (fun p : Bool × State => p.2.but k) refFollow (fun p a => refFollow_but p a k (by simp [h])) (List.range 44) (false, s)
  split
  · rw [State.refSelect_but _ _ k (by simp [h])]; exact q
  · exact q
@[simp] theorem State.posMode_but (s : State) (a1 : Nat) (k : List Part) (h : ∀ p ∈ [Part.rv, .gnss], p ∈ k) :
    (State.posMode s a1).but k = s.but k := by
  simp only [List.mem_cons, forall_eq_or_imp, List.not_mem_nil, false_implies, implies_true, and_true] at h
  simp [State.posMode, h]
@[simp] theorem State.gnssStart_but (s : State) (k : List Part) (h : ∀ p ∈ [Part.rv, .gnss], p ∈ k) :
    (State.gnssStart s).but k = s.but k := by
  simp only [List.mem_cons, forall_eq_or_imp, List.not_mem_nil, false_implies, implies_true, and_true] at h
  simp [State.gnssStart, h]
@[simp] theorem State.refThere_but (s : State) (a1 : Nat) (a2 : Bool) (k : List Part) (h : ∀ p ∈ [Part.out, .freeCtr, .rv,
    .cs, .flt, .txb, .dst, .mntl, .eth, .kiln, .gnss, .hop, .boot, .egr, .sess], p ∈ k) :
    (State.refThere s a1 a2).but k = s.but k := by
  simp only [List.mem_cons, forall_eq_or_imp, List.not_mem_nil, false_implies, implies_true, and_true] at h
  simp [State.refThere, h]
@[simp] theorem State.putFields_but (s : State) (a1 : Acc) (a2 : Reg) (a3 : Nat) (a4 : Nat) (a5 : Nat) (k : List Part) (h : ∀
    p ∈ [Part.rv], p ∈ k) :
    (State.putFields s a1 a2 a3 a4 a5).but k = s.but k := by
  simp only [List.mem_cons, forall_eq_or_imp, List.not_mem_nil, false_implies, implies_true, and_true] at h
  simp [State.putFields, h]
@[simp] theorem State.trackApply_but (s : State) (k : List Part) (h : ∀ p ∈ [Part.rv, .staged, .gnss], p ∈ k) :
    (State.trackApply s).but k = s.but k := by
  simp only [List.mem_cons, forall_eq_or_imp, List.not_mem_nil, false_implies, implies_true, and_true] at h
  simp [State.trackApply, h]
@[simp] theorem State.gnssStop_but (s : State) (k : List Part) (h : ∀ p ∈ [Part.out, .freeCtr, .rv, .staged, .cs, .flt, .txb,
    .dst, .mntl, .eth, .kiln, .gnss, .hop, .boot, .egr, .sess], p ∈ k) :
    (State.gnssStop s).but k = s.but k := by
  simp only [List.mem_cons, forall_eq_or_imp, List.not_mem_nil, false_implies, implies_true, and_true] at h
  simp [State.gnssStop, h]
@[simp] theorem State.imageKeep_but (s : State) (a1 : State) (a2 : Bool) (k : List Part) (h : ∀ p ∈ [Part.out, .freeCtr, .rv,
    .staged, .cs, .flt, .txb, .dst, .mntl, .eth, .kiln, .gnss, .hop, .boot, .egr, .sess], p ∈ k) :
    (State.imageKeep s a1 a2).but k = s.but k := by
  simp only [List.mem_cons, forall_eq_or_imp, List.not_mem_nil, false_implies, implies_true, and_true] at h
  simp [State.imageKeep, h]
@[simp] theorem State.setFollow_but (s : State) (a1 : Nat) (a2 : Nat) (k : List Part) (h : ∀ p ∈ [Part.rv], p ∈ k) :
    (State.setFollow s a1 a2).but k = s.but k := by
  simp only [List.mem_cons, forall_eq_or_imp, List.not_mem_nil, false_implies, implies_true, and_true] at h
  simp [State.setFollow, h]
@[simp] theorem State.headOn_but (s : State) (a1 : Nat) (k : List Part) (h : ∀ p ∈ [Part.head], p ∈ k) :
    (State.headOn s a1).but k = s.but k := by
  simp only [List.mem_cons, forall_eq_or_imp, List.not_mem_nil, false_implies, implies_true, and_true] at h
  unfold State.headOn
  repeat' (first | (simp [h]; done) | split)
@[simp] theorem State.putPortState_but (s : State) (a1 : Nat) (a2 : Nat) (k : List Part) (h : ∀ p ∈ [Part.rv], p ∈ k) :
    (State.putPortState s a1 a2).but k = s.but k := by
  simp only [List.mem_cons, forall_eq_or_imp, List.not_mem_nil, false_implies, implies_true, and_true] at h
  simp [State.putPortState, h]
@[simp] theorem State.portPreroll_but (s : State) (a1 : Nat) (k : List Part) (h : ∀ p ∈ [Part.out, .rv, .aprt], p ∈ k) :
    (State.portPreroll s a1).but k = s.but k := by
  simp only [List.mem_cons, forall_eq_or_imp, List.not_mem_nil, false_implies, implies_true, and_true] at h
  simp [State.portPreroll, h]
@[simp] theorem State.portStart_but (s : State) (a1 : Nat) (k : List Part) (h : ∀ p ∈ [Part.out, .rv, .aprt], p ∈ k) :
    (State.portStart s a1).but k = s.but k := by
  simp only [List.mem_cons, forall_eq_or_imp, List.not_mem_nil, false_implies, implies_true, and_true] at h
  unfold State.portStart
  repeat' (first | (simp [h]; done) | split)
@[simp] theorem State.putTent_but (s : State) (a1 : Nat) (a2 : TEntry) (k : List Part) (h : ∀ p ∈ [Part.tsvc], p ∈ k) :
    (State.putTent s a1 a2).but k = s.but k := by
  simp only [List.mem_cons, forall_eq_or_imp, List.not_mem_nil, false_implies, implies_true, and_true] at h
  simp [State.putTent, h]
@[simp] theorem State.endGrant_but (s : State) (a1 : Nat) (a2 : Nat) (k : List Part) (h : ∀ p ∈ [Part.tsvc], p ∈ k) :
    (State.endGrant s a1 a2).but k = s.but k := by
  simp only [List.mem_cons, forall_eq_or_imp, List.not_mem_nil, false_implies, implies_true, and_true] at h
  simp [State.endGrant, h]
@[simp] theorem State.endGrants_but (s : State) (a1 : Nat) (k : List Part) (h : ∀ p ∈ [Part.tsvc], p ∈ k) :
    (State.endGrants s a1).but k = s.but k := by
  simp only [List.mem_cons, forall_eq_or_imp, List.not_mem_nil, false_implies, implies_true, and_true] at h
  simp [State.endGrants, h]
@[simp] theorem State.igmpSend_but (s : State) (a1 : Nat) (a2 : Nat) (a3 : Nat) (a4 : Bool) (k : List Part) (h : ∀ p ∈
    [Part.out, .rv, .egr], p ∈ k) :
    (State.igmpSend s a1 a2 a3 a4).but k = s.but k := by
  simp only [List.mem_cons, forall_eq_or_imp, List.not_mem_nil, false_implies, implies_true, and_true] at h
  simp [State.igmpSend, h]
@[simp] theorem State.clientGo_but (s : State) (a1 : Nat) (a2 : Nat) (k : List Part) (h : ∀ p ∈ [Part.out, .freeCtr, .rv, .cs,
    .flt, .txb, .dst, .mntl, .eth, .kiln, .gnss, .hop, .boot, .egr, .sess], p ∈ k) :
    (State.clientGo s a1 a2).but k = s.but k := by
  simp only [List.mem_cons, forall_eq_or_imp, List.not_mem_nil, false_implies, implies_true, and_true] at h
  simp [State.clientGo, h]
@[simp] theorem State.putTport_but (s : State) (a1 : Nat) (a2 : TPortS) (k : List Part) (h : ∀ p ∈ [Part.tsvc], p ∈ k) :
    (State.putTport s a1 a2).but k = s.but k := by
  simp only [List.mem_cons, forall_eq_or_imp, List.not_mem_nil, false_implies, implies_true, and_true] at h
  simp [State.putTport, h]
@[simp] theorem State.putClient_but (s : State) (a1 : Nat) (a2 : ClientS) (k : List Part) (h : ∀ p ∈ [Part.tsvc], p ∈ k) :
    (State.putClient s a1 a2).but k = s.but k := by
  simp only [List.mem_cons, forall_eq_or_imp, List.not_mem_nil, false_implies, implies_true, and_true] at h
  simp [State.putClient, h]
@[simp] theorem State.roleWrite_but (s : State) (a1 : Nat) (a2 : Nat) (k : List Part) (h : ∀ p ∈ [Part.out, .freeCtr, .rv,
    .cs, .flt, .txb, .dst, .mntl, .eth, .kiln, .gnss, .tsvc, .hop, .boot, .egr, .sess], p ∈ k) :
    (State.roleWrite s a1 a2).but k = s.but k := by
  simp only [List.mem_cons, forall_eq_or_imp, List.not_mem_nil, false_implies, implies_true, and_true] at h
  simp [State.roleWrite, h]
@[simp] theorem State.imageUnits_but (s : State) (k : List Part) (h : ∀ p ∈ [Part.out, .freeCtr, .rv, .cs, .flt, .txb, .dst,
    .head, .mntl, .aprt, .eth, .kiln, .gnss, .tsvc, .hop, .boot, .egr, .sess, .follow], p ∈ k) :
    (State.imageUnits s).but k = s.but k := by
  simp only [List.mem_cons, forall_eq_or_imp, List.not_mem_nil, false_implies, implies_true, and_true] at h
  simp only [State.imageUnits]
  refine (State.each_but _ _ _ k ?_).trans ((State.each_but _ _ _ k ?_).trans ((State.each_but _ _ _ k ?_).trans
    ((State.each_but _ _ _ k ?_).trans (State.each_but _ _ _ k ?_))))
  · intro s p
    split <;> simp [h]
  all_goals
    intro s p
    simp [h]
@[simp] theorem State.confirmTrial_but (s : State) (k : List Part) (h : ∀ p ∈ [Part.out, .rv, .mntl, .boot, .egr, .sess], p ∈
    k) :
    (State.confirmTrial s).but k = s.but k := by
  simp only [List.mem_cons, forall_eq_or_imp, List.not_mem_nil, false_implies, implies_true, and_true] at h
  simp [State.confirmTrial, h]
@[simp] theorem State.retirePage_but (s : State) (a1 : Nat) (a2 : Nat) (k : List Part) (h : ∀ p ∈ [Part.cask], p ∈ k) :
    (State.retirePage s a1 a2).but k = s.but k := by
  simp only [List.mem_cons, forall_eq_or_imp, List.not_mem_nil, false_implies, implies_true, and_true] at h
  simp [State.retirePage, h]
@[simp] theorem State.sessInvalidate_but (s : State) (a1 : Nat) (k : List Part) (h : ∀ p ∈ [Part.tsvc], p ∈ k) :
    (State.sessInvalidate s a1).but k = s.but k := by
  simp only [List.mem_cons, forall_eq_or_imp, List.not_mem_nil, false_implies, implies_true, and_true] at h
  simp [State.sessInvalidate, h]
@[simp] theorem State.ueEffect_but (s : State) (a1 : UeAt) (k : List Part) (h : ∀ p ∈ [Part.out, .rv, .mem, .src, .mash,
    .tsvc, .egr, .sess], p ∈ k) :
    (State.ueEffect s a1).but k = s.but k := by
  simp only [List.mem_cons, forall_eq_or_imp, List.not_mem_nil, false_implies, implies_true, and_true] at h
  unfold State.ueEffect
  repeat' (first | (simp [h]; done) | split)
@[simp] theorem State.putNext_but (s : State) (a1 : Nat) (a2 : Nat) (k : List Part) (h : ∀ p ∈ [Part.cell], p ∈ k) :
    (State.putNext s a1 a2).but k = s.but k := by
  simp only [List.mem_cons, forall_eq_or_imp, List.not_mem_nil, false_implies, implies_true, and_true] at h
  simp [State.putNext, h]
@[simp] theorem State.dropPart_but (s : State) (a1 : Nat) (k : List Part) (h : ∀ p ∈ [Part.cell], p ∈ k) :
    (State.dropPart s a1).but k = s.but k := by
  simp only [List.mem_cons, forall_eq_or_imp, List.not_mem_nil, false_implies, implies_true, and_true] at h
  simp [State.dropPart, h]
@[simp] theorem State.checkCell_but (s : State) (a1 : Nat) (a2 : List Byte) (k : List Part) (h : ∀ p ∈ [Part.out, .freeCtr,
    .rv, .cs, .flt, .txb, .cell, .dst, .mntl, .eth, .kiln, .gnss, .hop, .boot, .egr, .sess], p ∈ k) :
    (State.checkCell s a1 a2).2.but k = s.but k := by
  simp only [List.mem_cons, forall_eq_or_imp, List.not_mem_nil, false_implies, implies_true, and_true] at h
  simp [State.checkCell, h]
@[simp] theorem State.loopBack_but (s : State) (a1 : Nat) (a2 : List Byte) (k : List Part) (h : ∀ p ∈ [Part.out, .rv, .txb], p
    ∈ k) :
    (State.loopBack s a1 a2).but k = s.but k := by
  simp only [List.mem_cons, forall_eq_or_imp, List.not_mem_nil, false_implies, implies_true, and_true] at h
  simp [State.loopBack, h]
@[simp] theorem State.violated_but (s : State) (a1 : Nat) (a2 : Nat) (k : List Part) (h : ∀ p ∈ [Part.rv], p ∈ k) :
    (State.violated s a1 a2).but k = s.but k := by
  simp only [List.mem_cons, forall_eq_or_imp, List.not_mem_nil, false_implies, implies_true, and_true] at h
  simp [State.violated, h]
@[simp] theorem State.cellIn_but (s : State) (a1 : Nat) (a2 : RxCell) (k : List Part) (h : ∀ p ∈ [Part.rv, .bnd, .txb], p ∈ k)
    :
    (State.cellIn s a1 a2).2.but k = s.but k := by
  simp only [List.mem_cons, forall_eq_or_imp, List.not_mem_nil, false_implies, implies_true, and_true] at h
  unfold State.cellIn
  repeat' (first | (simp [h]; done) | split)
@[simp] theorem State.takeCell_but (s : State) (a1 : Nat) (a2 : RxCell) (k : List Part) (h : ∀ p ∈ [Part.out, .freeCtr, .rv,
    .cs, .flt, .bnd, .txb, .cell, .dst, .mntl, .eth, .kiln, .gnss, .hop, .boot, .egr, .sess], p ∈ k) :
    (State.takeCell s a1 a2).2.2.but k = s.but k := by
  simp only [List.mem_cons, forall_eq_or_imp, List.not_mem_nil, false_implies, implies_true, and_true] at h
  simp [State.takeCell, h]
@[simp] theorem State.putLane_but (s : State) (a1 : Nat) (a2 : LaneS) (k : List Part) (h : ∀ p ∈ [Part.mash], p ∈ k) :
    (State.putLane s a1 a2).but k = s.but k := by
  simp only [List.mem_cons, forall_eq_or_imp, List.not_mem_nil, false_implies, implies_true, and_true] at h
  simp [State.putLane, h]
@[simp] theorem State.putRingOver_but (s : State) (a1 : Nat) (a2 : Bool) (k : List Part) (h : ∀ p ∈ [Part.rv], p ∈ k) :
    (State.putRingOver s a1 a2).but k = s.but k := by
  simp only [List.mem_cons, forall_eq_or_imp, List.not_mem_nil, false_implies, implies_true, and_true] at h
  simp [State.putRingOver, h]
@[simp] theorem State.beginFrame_but (s : State) (a1 : Nat) (a2 : Nat) (a3 : Option Nat) (k : List Part) (h : ∀ p ∈ [Part.out,
    .freeCtr, .rv, .cs, .flt, .txb, .src, .dst, .mntl, .mash, .eth, .kiln, .gnss, .hop, .boot, .egr, .sess], p ∈ k) :
    (State.beginFrame s a1 a2 a3).but k = s.but k := by
  simp only [List.mem_cons, forall_eq_or_imp, List.not_mem_nil, false_implies, implies_true, and_true] at h
  simp only [State.beginFrame]
  repeat' (first | (simp [h]; done) | split)
@[simp] theorem State.putRingEff_but (s : State) (a1 : Nat) (a2 : Nat) (k : List Part) (h : ∀ p ∈ [Part.rv], p ∈ k) :
    (State.putRingEff s a1 a2).but k = s.but k := by
  simp only [List.mem_cons, forall_eq_or_imp, List.not_mem_nil, false_implies, implies_true, and_true] at h
  simp [State.putRingEff, h]
@[simp] theorem State.startKnown_but (s : State) (a1 : Nat) (a2 : Nat) (a3 : Bool) (k : List Part) (h : ∀ p ∈ [Part.rv, .src],
    p ∈ k) :
    (State.startKnown s a1 a2 a3).but k = s.but k := by
  simp only [List.mem_cons, forall_eq_or_imp, List.not_mem_nil, false_implies, implies_true, and_true] at h
  simp [State.startKnown, h]
@[simp] theorem State.endFrame_but (s : State) (a1 : Nat) (k : List Part) (h : ∀ p ∈ [Part.src], p ∈ k) :
    (State.endFrame s a1).but k = s.but k := by
  simp only [List.mem_cons, forall_eq_or_imp, List.not_mem_nil, false_implies, implies_true, and_true] at h
  simp only [State.endFrame]
  repeat' (first | (simp [h]; done) | split)
@[simp] theorem State.seeFmt_but (s : State) (a1 : Nat) (a2 : Nat) (a3 : Nat) (k : List Part) (h : ∀ p ∈ [Part.rv, .dst], p ∈
    k) :
    (State.seeFmt s a1 a2 a3).but k = s.but k := by
  simp only [List.mem_cons, forall_eq_or_imp, List.not_mem_nil, false_implies, implies_true, and_true] at h
  simp [State.seeFmt, h]
@[simp] theorem State.putTime_but (s : State) (a1 : Nat) (a2 : Bool) (a3 : Bool) (a4 : Bool) (a5 : Int) (k : List Part) (h : ∀
    p ∈ [Part.rv], p ∈ k) :
    (State.putTime s a1 a2 a3 a4 a5).but k = s.but k := by
  simp only [List.mem_cons, forall_eq_or_imp, List.not_mem_nil, false_implies, implies_true, and_true] at h
  simp [State.putTime, h]
@[simp] theorem State.recordPhase_but (s : State) (a1 : Nat) (a2 : Option Nat) (a3 : Bool) (k : List Part) (h : ∀ p ∈
    [Part.rv, .src, .dst], p ∈ k) :
    (State.recordPhase s a1 a2 a3).but k = s.but k := by
  simp only [List.mem_cons, forall_eq_or_imp, List.not_mem_nil, false_implies, implies_true, and_true] at h
  unfold State.recordPhase
  repeat' (first | (simp [h]; done) | split)
@[simp] theorem State.essence_but (s : State) (a1 : Nat) (a2 : Hdr) (a3 : List Byte) (a4 : Bool) (k : List Part) (h : ∀ p ∈
    [Part.out, .freeCtr, .rv, .cs, .flt, .txb, .src, .dst, .mntl, .mash, .eth, .kiln, .gnss, .hop, .boot, .egr, .sess], p ∈ k)
    :
    (State.essence s a1 a2 a3 a4).but k = s.but k := by
  simp only [List.mem_cons, forall_eq_or_imp, List.not_mem_nil, false_implies, implies_true, and_true] at h
  simp only [State.essence]
  repeat' (first | (simp [*]; done) | (simp [*]; split) | split)
@[simp] theorem State.timeKind_but (s : State) (a1 : Nat) (a2 : Hdr) (a3 : List Byte) (k : List Part) (h : ∀ p ∈ [Part.out,
    .freeCtr, .rv, .cs, .flt, .txb, .dst, .mntl, .eth, .kiln, .gnss, .hop, .boot, .egr, .sess], p ∈ k) :
    (State.timeKind s a1 a2 a3).2.but k = s.but k := by
  simp only [List.mem_cons, forall_eq_or_imp, List.not_mem_nil, false_implies, implies_true, and_true] at h
  simp [State.timeKind, h]
@[simp] theorem State.timeCell_but (s : State) (a1 : Nat) (a2 : Nat) (a3 : RxCell) (a4 : State → Hdr → List Byte → State) (k :
    List Part) (h : ∀ p ∈ [Part.out, .freeCtr, .rv, .cs, .flt, .bnd, .txb, .cell, .dst, .mntl, .eth, .kiln, .gnss, .hop,
    .boot, .egr, .sess], p ∈ k) (ha4 : ∀ x0 x1 x2, (a4 x0 x1 x2).but k = x0.but k) :
    (State.timeCell s a1 a2 a3 a4).but k = s.but k := by
  simp only [List.mem_cons, forall_eq_or_imp, List.not_mem_nil, false_implies, implies_true, and_true] at h
  simp only [State.timeCell]
  repeat' (first | (simp [h, ha4]; done) | split)
@[simp] theorem State.echo_but (s : State) (a1 : Nat) (a2 : List Byte) (k : List Part) (h : ∀ p ∈ [Part.rv], p ∈ k) :
    (State.echo s a1 a2).but k = s.but k := by
  simp only [List.mem_cons, forall_eq_or_imp, List.not_mem_nil, false_implies, implies_true, and_true] at h
  simp [State.echo, h]
@[simp] theorem State.stamp_but (s : State) (a1 : Nat) (a2 : Nat) (a3 : List Byte) (k : List Part) (h : ∀ p ∈ [Part.rv, .src,
    .dst], p ∈ k) :
    (State.stamp s a1 a2 a3).but k = s.but k := by
  simp only [List.mem_cons, forall_eq_or_imp, List.not_mem_nil, false_implies, implies_true, and_true] at h
  simp only [State.stamp]
  repeat' (first | (simp [h]; done) | split)
@[simp] theorem State.sideTake_but (s : State) (a1 : Nat) (a2 : Nat) (a3 : Bool × Bool × Nat × Nat × List Byte) (k : List
    Part) (h : ∀ p ∈ [Part.cell], p ∈ k) :
    (State.sideTake s a1 a2 a3).2.but k = s.but k := by
  simp only [List.mem_cons, forall_eq_or_imp, List.not_mem_nil, false_implies, implies_true, and_true] at h
  simp only [State.sideTake]
  repeat' (first | (simp [h]; done) | split)
@[simp] theorem State.sideIn_but (s : State) (a1 : Nat) (a2 : Nat) (a3 : RxCell) (a4 : State → List Byte → State) (k : List
    Part) (h : ∀ p ∈ [Part.out, .freeCtr, .rv, .cs, .flt, .bnd, .txb, .cell, .dst, .mntl, .eth, .kiln, .gnss, .hop, .boot,
    .egr, .sess], p ∈ k) (ha4 : ∀ x0 x1, (a4 x0 x1).but k = x0.but k) :
    (State.sideIn s a1 a2 a3 a4).but k = s.but k := by
  simp only [List.mem_cons, forall_eq_or_imp, List.not_mem_nil, false_implies, implies_true, and_true] at h
  simp only [State.sideIn]
  repeat' (first | (simp [h, ha4]; done) | split)
@[simp] theorem State.ueSeen_but (s : State) (k : List Part) (h : ∀ p ∈ [Part.mntl], p ∈ k) :
    (State.ueSeen s).but k = s.but k := by
  simp only [List.mem_cons, forall_eq_or_imp, List.not_mem_nil, false_implies, implies_true, and_true] at h
  simp [State.ueSeen, h]
@[simp] theorem State.onEntry_but (s : State) (a1 : Nat) (a2 : Nat) (a3 : CsEntry → CsEntry) (k : List Part) (h : ∀ p ∈
    [Part.cs], p ∈ k) :
    (State.onEntry s a1 a2 a3).but k = s.but k := by
  simp only [List.mem_cons, forall_eq_or_imp, List.not_mem_nil, false_implies, implies_true, and_true] at h
  simp [State.onEntry, h]
@[simp] theorem State.csSettle_but (s : State) (a1 : Nat) (k : List Part) (h : ∀ p ∈ [Part.out, .rv, .cs, .egr, .sess], p ∈ k)
    :
    (State.csSettle s a1).but k = s.but k := by
  simp only [List.mem_cons, forall_eq_or_imp, List.not_mem_nil, false_implies, implies_true, and_true] at h
  simp [State.csSettle, h]
@[simp] theorem State.markLate_but (s : State) (a1 : TKind) (a2 : Nat) (a3 : Nat) (a4 : Nat) (k : List Part) (h : ∀ p ∈
    [Part.cs], p ∈ k) :
    (State.markLate s a1 a2 a3 a4).but k = s.but k := by
  simp only [List.mem_cons, forall_eq_or_imp, List.not_mem_nil, false_implies, implies_true, and_true] at h
  unfold State.markLate
  apply foldl_but
  intro s c
  split
  · split <;> simp [h]
  · rfl
@[simp] theorem State.finish_but (s : State) (a1 : Change) (a2 : Nat) (a3 : Nat) (k : List Part) (h : ∀ p ∈ [Part.out, .rv,
    .staged, .cs, .egr, .sess], p ∈ k) :
    (State.finish s a1 a2 a3).but k = s.but k := by
  simp only [List.mem_cons, forall_eq_or_imp, List.not_mem_nil, false_implies, implies_true, and_true] at h
  unfold State.finish
  repeat' (first | (simp [h]; done) | split)
@[simp] theorem State.install_but (s : State) (a1 : Change) (k : List Part) (h : ∀ p ∈ [Part.rv], p ∈ k) :
    (State.install s a1).but k = s.but k := by
  simp only [List.mem_cons, forall_eq_or_imp, List.not_mem_nil, false_implies, implies_true, and_true] at h
  simp [State.install, h]
@[simp] theorem State.bindLayer_but (s : State) (a1 : Nat) (a2 : List Nat) (k : List Part) (h : ∀ p ∈ [Part.bound], p ∈ k) :
    (State.bindLayer s a1 a2).but k = s.but k := by
  simp only [List.mem_cons, forall_eq_or_imp, List.not_mem_nil, false_implies, implies_true, and_true] at h
  simp [State.bindLayer, h]
@[simp] theorem State.forward_but (s : State) (a1 : MirOp) (k : List Part) (h : ∀ p ∈ [Part.out, .rv, .txb], p ∈ k) :
    (State.forward s a1).but k = s.but k := by
  simp only [List.mem_cons, forall_eq_or_imp, List.not_mem_nil, false_implies, implies_true, and_true] at h
  simp [State.forward, h]
@[simp] theorem State.stageSet_but (s : State) (a1 : Fin 32) (a2 : Bool) (a3 : List StageEntry) (k : List Part) (h : ∀ p ∈
    [Part.out, .rv, .cs, .txb, .bound], p ∈ k) :
    (State.stageSet s a1 a2 a3).state.but k = s.but k := by
  simp only [List.mem_cons, forall_eq_or_imp, List.not_mem_nil, false_implies, implies_true, and_true] at h
  simp only [State.stageSet]
  repeat' (first | (simp [h]; done) | split)
  all_goals
    refine (State.forward_but (h := ?_) ..).trans ?_
    · simp [h]
    refine (foldl_but _ _ ?_ _ _).trans (by simp [h])
    intro s e
    apply State.each_but
    intro s n
    simp [h]
@[simp] theorem State.armSet_but (s : State) (a1 : Fin 32) (a2 : Bool) (a3 : Bool) (a4 : Bool) (a5 : Nat) (a6 : Nat) (a7 :
    Nat) (k : List Part) (h : ∀ p ∈ [Part.out, .rv, .ord, .cs, .txb, .egr, .sess], p ∈ k) :
    (State.armSet s a1 a2 a3 a4 a5 a6 a7).state.but k = s.but k := by
  simp only [List.mem_cons, forall_eq_or_imp, List.not_mem_nil, false_implies, implies_true, and_true] at h
  simp only [State.armSet]
  repeat' (first | (simp [h]; done) | split)
@[simp] theorem State.prepareSet_but (s : State) (a1 : Fin 32) (k : List Part) (h : ∀ p ∈ [Part.out, .rv, .cs, .txb, .egr,
    .sess], p ∈ k) :
    (State.prepareSet s a1).state.but k = s.but k := by
  simp only [List.mem_cons, forall_eq_or_imp, List.not_mem_nil, false_implies, implies_true, and_true] at h
  simp only [State.prepareSet]
  repeat' (first | (simp [h]; done) | split)
@[simp] theorem State.unlearn_but (s : State) (a1 : Nat) (a2 : Nat) (k : List Part) (h : ∀ p ∈ [Part.follow], p ∈ k) :
    (State.unlearn s a1 a2).but k = s.but k := by
  simp only [List.mem_cons, forall_eq_or_imp, List.not_mem_nil, false_implies, implies_true, and_true] at h
  simp [State.unlearn, h]
@[simp] theorem State.unlearnSet_but (s : State) (a1 : Nat) (k : List Part) (h : ∀ p ∈ [Part.follow], p ∈ k) :
    (State.unlearnSet s a1).but k = s.but k := by
  simp only [List.mem_cons, forall_eq_or_imp, List.not_mem_nil, false_implies, implies_true, and_true] at h
  simp [State.unlearnSet, h]
@[simp] theorem State.cancelSet_but (s : State) (a1 : Fin 32) (k : List Part) (h : ∀ p ∈ [Part.out, .rv, .cs, .txb, .egr,
    .sess, .follow], p ∈ k) :
    (State.cancelSet s a1).state.but k = s.but k := by
  simp only [List.mem_cons, forall_eq_or_imp, List.not_mem_nil, false_implies, implies_true, and_true] at h
  simp only [State.cancelSet]
  repeat' (first | (simp [h]; done) | split)
@[simp] theorem State.learn_but (s : State) (a1 : Nat) (a2 : Nat) (a3 : Nat) (a4 : Nat) (k : List Part) (h : ∀ p ∈ [Part.rv,
    .follow], p ∈ k) :
    (State.learn s a1 a2 a3 a4).but k = s.but k := by
  simp only [List.mem_cons, forall_eq_or_imp, List.not_mem_nil, false_implies, implies_true, and_true] at h
  simp [State.learn, h]
@[simp] theorem State.followApply_but (s : State) (a1 : Nat) (a2 : Nat) (a3 : Nat) (a4 : Nat) (k : List Part) (h : ∀ p ∈
    [Part.rv, .follow], p ∈ k) :
    (State.followApply s a1 a2 a3 a4).but k = s.but k := by
  simp only [List.mem_cons, forall_eq_or_imp, List.not_mem_nil, false_implies, implies_true, and_true] at h
  simp [State.followApply, h]
@[simp] theorem State.setRoute_but (s : State) (a1 : Nat) (a2 : Nat) (a3 : Bool) (a4 : Nat) (a5 : Bool) (a6 : Nat) (a7 : Nat)
    (k : List Part) (h : ∀ p ∈ [Part.rv, .dst, .follow], p ∈ k) :
    (State.setRoute s a1 a2 a3 a4 a5 a6 a7).but k = s.but k := by
  simp only [List.mem_cons, forall_eq_or_imp, List.not_mem_nil, false_implies, implies_true, and_true] at h
  simp only [State.setRoute]
  repeat' (first | (simp [h]; done) | split)
@[simp] theorem State.applyDst_but (s : State) (a1 : Nat) (a2 : Change) (a3 : Nat) (k : List Part) (h : ∀ p ∈ [Part.out, .rv,
    .staged, .cs, .dst, .egr, .sess, .follow], p ∈ k) :
    (State.applyDst s a1 a2 a3).but k = s.but k := by
  simp only [List.mem_cons, forall_eq_or_imp, List.not_mem_nil, false_implies, implies_true, and_true] at h
  unfold State.applyDst
  repeat' (first | (simp [h]; done) | split)
@[simp] theorem State.takeStopped_but (s : State) (a1 : TKind) (a2 : Nat) (k : List Part) (h : ∀ p ∈ [Part.out, .rv, .staged,
    .cs, .dst, .kiln, .egr, .sess, .follow], p ∈ k) :
    (State.takeStopped s a1 a2).but k = s.but k := by
  simp only [List.mem_cons, forall_eq_or_imp, List.not_mem_nil, false_implies, implies_true, and_true] at h
  simp [State.takeStopped, h]
@[simp] theorem State.toutApply_but (s : State) (a1 : Nat) (a2 : Nat) (a3 : List Change) (k : List Part) (h : ∀ p ∈ [Part.out,
    .rv, .staged, .cs, .kiln, .egr, .sess], p ∈ k) :
    (State.toutApply s a1 a2 a3).but k = s.but k := by
  simp only [List.mem_cons, forall_eq_or_imp, List.not_mem_nil, false_implies, implies_true, and_true] at h
  simp [State.toutApply, h]
@[simp] theorem State.toutSettle_but (s : State) (a1 : Nat) (k : List Part) (h : ∀ p ∈ [Part.out, .rv, .staged, .cs, .kiln,
    .egr, .sess], p ∈ k) :
    (State.toutSettle s a1).but k = s.but k := by
  simp only [List.mem_cons, forall_eq_or_imp, List.not_mem_nil, false_implies, implies_true, and_true] at h
  simp [State.toutSettle, h]
@[simp] theorem State.learnChange_but (s : State) (a1 : Nat) (a2 : Change) (k : List Part) (h : ∀ p ∈ [Part.rv, .follow], p ∈
    k) :
    (State.learnChange s a1 a2).but k = s.but k := by
  simp only [List.mem_cons, forall_eq_or_imp, List.not_mem_nil, false_implies, implies_true, and_true] at h
  unfold State.learnChange
  repeat' (first | (simp [h]; done) | split)
@[simp] theorem State.inShadow_but (s : State) (a1 : Nat) (a2 : Nat) (k : List Part) (h : ∀ p ∈ [Part.out, .rv, .staged, .cs,
    .dst, .kiln, .egr, .sess, .follow], p ∈ k) :
    (State.inShadow s a1 a2).but k = s.but k := by
  simp only [List.mem_cons, forall_eq_or_imp, List.not_mem_nil, false_implies, implies_true, and_true] at h
  simp only [State.inShadow]
  repeat' (first | (simp [h]; done) | split)
@[simp] theorem State.stageItem_but (s : State) (a1 : Option Nat) (a2 : CsItem) (k : List Part) (h : ∀ p ∈ [Part.staged,
    .ord], p ∈ k) :
    (State.stageItem s a1 a2).but k = s.but k := by
  simp only [List.mem_cons, forall_eq_or_imp, List.not_mem_nil, false_implies, implies_true, and_true] at h
  simp [State.stageItem, h]
@[simp] theorem State.setPlain_but (s : State) (a1 : CsItem) (k : List Part) (h : ∀ p ∈ [Part.rv], p ∈ k) :
    (State.setPlain s a1).but k = s.but k := by
  simp only [List.mem_cons, forall_eq_or_imp, List.not_mem_nil, false_implies, implies_true, and_true] at h
  simp [State.setPlain, h]
@[simp] theorem State.afterStage_but (s : State) (a1 : Reg) (a2 : Nat) (k : List Part) (h : ∀ p ∈ [Part.out, .rv, .staged,
    .cs, .dst, .kiln, .gnss, .egr, .sess, .follow], p ∈ k) :
    (State.afterStage s a1 a2).but k = s.but k := by
  simp only [List.mem_cons, forall_eq_or_imp, List.not_mem_nil, false_implies, implies_true, and_true] at h
  unfold State.afterStage
  repeat' (first | (simp [h]; done) | split)
@[simp] theorem State.putPlain_but (s : State) (a1 : Option Nat) (a2 : CsItem) (k : List Part) (h : ∀ p ∈ [Part.out, .rv,
    .staged, .ord, .cs, .dst, .kiln, .gnss, .egr, .sess, .follow], p ∈ k) :
    (State.putPlain s a1 a2).but k = s.but k := by
  simp only [List.mem_cons, forall_eq_or_imp, List.not_mem_nil, false_implies, implies_true, and_true] at h
  simp [State.putPlain, h]
@[simp] theorem State.txStart_but (s : State) (a1 : Nat) (k : List Part) (h : ∀ p ∈ [Part.out, .rv, .txb], p ∈ k) :
    (State.txStart s a1).but k = s.but k := by
  simp only [List.mem_cons, forall_eq_or_imp, List.not_mem_nil, false_implies, implies_true, and_true] at h
  simp [State.txStart, h]
@[simp] theorem State.unsync_but (s : State) (a1 : Nat) (k : List Part) (h : ∀ p ∈ [Part.cell], p ∈ k) :
    (State.unsync s a1).but k = s.but k := by
  simp only [List.mem_cons, forall_eq_or_imp, List.not_mem_nil, false_implies, implies_true, and_true] at h
  simp [State.unsync, h]
@[simp] theorem State.dropSlots_but (s : State) (a1 : Nat) (k : List Part) (h : ∀ p ∈ [Part.rv, .cell, .dst], p ∈ k) :
    (State.dropSlots s a1).but k = s.but k := by
  simp only [List.mem_cons, forall_eq_or_imp, List.not_mem_nil, false_implies, implies_true, and_true] at h
  simp [State.dropSlots, h]
@[simp] theorem State.linkChanged_but (s : State) (a1 : Nat) (k : List Part) (h : ∀ p ∈ [Part.out, .freeCtr, .rv, .cs, .flt,
    .txb, .dst, .mntl, .eth, .kiln, .gnss, .hop, .boot, .egr, .sess], p ∈ k) :
    (State.linkChanged s a1).but k = s.but k := by
  simp only [List.mem_cons, forall_eq_or_imp, List.not_mem_nil, false_implies, implies_true, and_true] at h
  simp [State.linkChanged, h]
@[simp] theorem State.train_but (s : State) (a1 : Nat) (k : List Part) (h : ∀ p ∈ [Part.out, .freeCtr, .rv, .cs, .flt, .bnd,
    .txb, .cell, .dst, .mntl, .eth, .kiln, .gnss, .hop, .boot, .egr, .sess], p ∈ k) :
    (State.train s a1).but k = s.but k := by
  simp only [List.mem_cons, forall_eq_or_imp, List.not_mem_nil, false_implies, implies_true, and_true] at h
  simp [State.train, h]
@[simp] theorem State.txEnterIdle_but (s : State) (a1 : Nat) (a2 : Nat) (k : List Part) (h : ∀ p ∈ [Part.out, .rv, .txb], p ∈
    k) :
    (State.txEnterIdle s a1 a2).but k = s.but k := by
  simp only [List.mem_cons, forall_eq_or_imp, List.not_mem_nil, false_implies, implies_true, and_true] at h
  simp [State.txEnterIdle, h]
@[simp] theorem State.laneTest_but (s : State) (a1 : Nat) (k : List Part) (h : ∀ p ∈ [Part.out, .rv, .txb], p ∈ k) :
    (State.laneTest s a1).but k = s.but k := by
  simp only [List.mem_cons, forall_eq_or_imp, List.not_mem_nil, false_implies, implies_true, and_true] at h
  simp [State.laneTest, h]
@[simp] theorem State.padIdle_but (s : State) (a1 : Nat) (k : List Part) (h : ∀ p ∈ [Part.out, .txb], p ∈ k) :
    (State.padIdle s a1).but k = s.but k := by
  simp only [List.mem_cons, forall_eq_or_imp, List.not_mem_nil, false_implies, implies_true, and_true] at h
  simp [State.padIdle, h]
@[simp] theorem State.sideNext_but (s : State) (a1 : Nat) (k : List Part) (h : ∀ p ∈ [Part.out, .rv, .txb], p ∈ k) :
    (State.sideNext s a1).but k = s.but k := by
  simp only [List.mem_cons, forall_eq_or_imp, List.not_mem_nil, false_implies, implies_true, and_true] at h
  simp [State.sideNext, h]
@[simp] theorem State.txMarker_but (s : State) (a1 : Nat) (k : List Part) (h : ∀ p ∈ [Part.out, .rv, .txb, .mntl, .kiln,
    .boot], p ∈ k) :
    (State.txMarker s a1).but k = s.but k := by
  simp only [List.mem_cons, forall_eq_or_imp, List.not_mem_nil, false_implies, implies_true, and_true] at h
  simp only [State.txMarker]
  repeat' (first | (simp [h]; done) | split)
@[simp] theorem State.txPowerDown_but (s : State) (a1 : Nat) (k : List Part) (h : ∀ p ∈ [Part.out, .rv, .txb, .mntl, .kiln,
    .boot], p ∈ k) :
    (State.txPowerDown s a1).but k = s.but k := by
  simp only [List.mem_cons, forall_eq_or_imp, List.not_mem_nil, false_implies, implies_true, and_true] at h
  simp [State.txPowerDown, h]
@[simp] theorem State.bundleEnable_but (s : State) (a1 : Nat) (a2 : Bool) (k : List Part) (h : ∀ p ∈ [Part.out, .freeCtr, .rv,
    .cs, .flt, .bnd, .txb, .cell, .dst, .mntl, .eth, .kiln, .gnss, .hop, .boot, .egr, .sess], p ∈ k) :
    (State.bundleEnable s a1 a2).but k = s.but k := by
  simp only [List.mem_cons, forall_eq_or_imp, List.not_mem_nil, false_implies, implies_true, and_true] at h
  simp [State.bundleEnable, h]
@[simp] theorem State.putRx_but (s : State) (a1 : Nat) (a2 : Nat) (a3 : LaneRx) (k : List Part) (h : ∀ p ∈ [Part.bnd], p ∈ k)
    :
    (State.putRx s a1 a2 a3).but k = s.but k := by
  simp only [List.mem_cons, forall_eq_or_imp, List.not_mem_nil, false_implies, implies_true, and_true] at h
  simp [State.putRx, h]
@[simp] theorem State.loopMode_but (s : State) (a1 : Nat) (k : List Part) (h : ∀ p ∈ [Part.rv, .bnd, .txb], p ∈ k) :
    (State.loopMode s a1).but k = s.but k := by
  simp only [List.mem_cons, forall_eq_or_imp, List.not_mem_nil, false_implies, implies_true, and_true] at h
  simp [State.loopMode, h]
@[simp] theorem State.txStampQueue_but (s : State) (a1 : Nat) (a2 : Nat × Bool × Nat) (k : List Part) (h : ∀ p ∈ [Part.out,
    .freeCtr, .rv, .cs, .flt, .txb, .dst, .mntl, .eth, .kiln, .gnss, .tsvc, .hop, .boot, .egr, .sess], p ∈ k) :
    (State.txStampQueue s a1 a2).but k = s.but k := by
  simp only [List.mem_cons, forall_eq_or_imp, List.not_mem_nil, false_implies, implies_true, and_true] at h
  simp [State.txStampQueue, h]
@[simp] theorem State.unmarked_but (s : State) (a1 : Nat) (a2 : TxMark) (k : List Part) (h : ∀ p ∈ [Part.out, .freeCtr, .rv,
    .cs, .flt, .txb, .dst, .mntl, .eth, .kiln, .gnss, .tsvc, .hop, .boot, .egr, .sess], p ∈ k) :
    (State.unmarked s a1 a2).but k = s.but k := by
  simp only [List.mem_cons, forall_eq_or_imp, List.not_mem_nil, false_implies, implies_true, and_true] at h
  unfold State.unmarked
  repeat' (first | (simp [h]; done) | split)
@[simp] theorem State.dropEgress_but (s : State) (a1 : Nat) (k : List Part) (h : ∀ p ∈ [Part.out, .freeCtr, .rv, .cs, .flt,
    .txb, .dst, .mntl, .eth, .kiln, .gnss, .tsvc, .hop, .boot, .egr, .sess], p ∈ k) :
    (State.dropEgress s a1).but k = s.but k := by
  simp only [List.mem_cons, forall_eq_or_imp, List.not_mem_nil, false_implies, implies_true, and_true] at h
  simp [State.dropEgress, h]
@[simp] theorem State.putPause_but (s : State) (a1 : Nat) (a2 : Nat) (a3 : PauseS) (k : List Part) (h : ∀ p ∈ [Part.eth], p ∈
    k) :
    (State.putPause s a1 a2 a3).but k = s.but k := by
  simp only [List.mem_cons, forall_eq_or_imp, List.not_mem_nil, false_implies, implies_true, and_true] at h
  simp [State.putPause, h]
@[simp] theorem State.ethStop_but (s : State) (a1 : Nat) (k : List Part) (h : ∀ p ∈ [Part.out, .freeCtr, .rv, .cs, .flt, .txb,
    .dst, .mntl, .eth, .kiln, .gnss, .tsvc, .hop, .boot, .egr, .sess], p ∈ k) :
    (State.ethStop s a1).but k = s.but k := by
  simp only [List.mem_cons, forall_eq_or_imp, List.not_mem_nil, false_implies, implies_true, and_true] at h
  simp [State.ethStop, h]
@[simp] theorem State.igmpFlow_but (s : State) (a1 : Nat) (a2 : Bool) (k : List Part) (h : ∀ p ∈ [Part.out, .rv, .egr], p ∈ k)
    :
    (State.igmpFlow s a1 a2).but k = s.but k := by
  simp only [List.mem_cons, forall_eq_or_imp, List.not_mem_nil, false_implies, implies_true, and_true] at h
  simp [State.igmpFlow, h]
@[simp] theorem State.flowEnable_but (s : State) (a1 : Nat) (a2 : Bool) (k : List Part) (h : ∀ p ∈ [Part.out, .rv, .egr], p ∈
    k) :
    (State.flowEnable s a1 a2).2.but k = s.but k := by
  simp only [List.mem_cons, forall_eq_or_imp, List.not_mem_nil, false_implies, implies_true, and_true] at h
  simp [State.flowEnable, h]
@[simp] theorem State.dstEnable_but (s : State) (a1 : Nat) (k : List Part) (h : ∀ p ∈ [Part.out, .rv, .staged, .cs, .dst,
    .kiln, .egr, .sess, .follow], p ∈ k) :
    (State.dstEnable s a1).but k = s.but k := by
  simp only [List.mem_cons, forall_eq_or_imp, List.not_mem_nil, false_implies, implies_true, and_true] at h
  simp [State.dstEnable, h]
@[simp] theorem State.headOff0_but (s : State) (a1 : Nat) (k : List Part) (h : ∀ p ∈ [Part.rv, .head], p ∈ k) :
    (State.headOff0 s a1).but k = s.but k := by
  simp only [List.mem_cons, forall_eq_or_imp, List.not_mem_nil, false_implies, implies_true, and_true] at h
  simp [State.headOff0, h]
@[simp] theorem State.apronWrite_but (s : State) (a1 : Reg) (a2 : Nat) (a3 : Nat) (a4 : Nat) (k : List Part) (h : ∀ p ∈
    [Part.rv, .head], p ∈ k) :
    (State.apronWrite s a1 a2 a3 a4).but k = s.but k := by
  simp only [List.mem_cons, forall_eq_or_imp, List.not_mem_nil, false_implies, implies_true, and_true] at h
  simp only [State.apronWrite]
  repeat' (first | (simp [h]; done) | split)
@[simp] theorem State.putInq_but (s : State) (a1 : Nat) (a2 : List Int) (k : List Part) (h : ∀ p ∈ [Part.mash], p ∈ k) :
    (State.putInq s a1 a2).but k = s.but k := by
  simp only [List.mem_cons, forall_eq_or_imp, List.not_mem_nil, false_implies, implies_true, and_true] at h
  simp [State.putInq, h]
@[simp] theorem State.portSilent_but (s : State) (a1 : Nat) (k : List Part) (h : ∀ p ∈ [Part.mash], p ∈ k) :
    (State.portSilent s a1).but k = s.but k := by
  simp only [List.mem_cons, forall_eq_or_imp, List.not_mem_nil, false_implies, implies_true, and_true] at h
  simp [State.portSilent, h]
@[simp] theorem State.portStopped_but (s : State) (a1 : Nat) (k : List Part) (h : ∀ p ∈ [Part.out, .rv, .staged, .cs, .flt,
    .dst, .mash, .aprt, .kiln, .boot, .egr, .sess, .follow], p ∈ k) :
    (State.portStopped s a1).but k = s.but k := by
  simp only [List.mem_cons, forall_eq_or_imp, List.not_mem_nil, false_implies, implies_true, and_true] at h
  simp [State.portStopped, h]
@[simp] theorem State.portStop_but (s : State) (a1 : Nat) (k : List Part) (h : ∀ p ∈ [Part.out, .rv, .staged, .cs, .flt, .dst,
    .mash, .aprt, .kiln, .boot, .egr, .sess, .follow], p ∈ k) :
    (State.portStop s a1).but k = s.but k := by
  simp only [List.mem_cons, forall_eq_or_imp, List.not_mem_nil, false_implies, implies_true, and_true] at h
  unfold State.portStop
  repeat' (first | (simp [h]; done) | split)
@[simp] theorem State.refUnseen_but (s : State) (a1 : Nat) (k : List Part) (h : ∀ p ∈ [Part.kiln], p ∈ k) :
    (State.refUnseen s a1).but k = s.but k := by
  simp only [List.mem_cons, forall_eq_or_imp, List.not_mem_nil, false_implies, implies_true, and_true] at h
  simp [State.refUnseen, h]
@[simp] theorem State.enterRole_but (s : State) (a1 : Role) (k : List Part) (h : ∀ p ∈ [Part.out, .freeCtr, .rv, .cs, .flt,
    .txb, .dst, .mntl, .eth, .kiln, .gnss, .hop, .boot, .egr, .sess], p ∈ k) :
    (State.enterRole s a1).but k = s.but k := by
  simp only [List.mem_cons, forall_eq_or_imp, List.not_mem_nil, false_implies, implies_true, and_true] at h
  simp [State.enterRole, h]
@[simp] theorem State.negotiate_but (s : State) (k : List Part) (h : ∀ p ∈ [Part.out, .freeCtr, .rv, .cs, .flt, .txb, .dst,
    .mntl, .eth, .kiln, .gnss, .hop, .boot, .egr, .sess], p ∈ k) :
    (State.negotiate s).but k = s.but k := by
  simp only [List.mem_cons, forall_eq_or_imp, List.not_mem_nil, false_implies, implies_true, and_true] at h
  simp [State.negotiate, h]
@[simp] theorem State.timeStage_but (s : State) (k : List Part) (h : ∀ p ∈ [Part.out, .freeCtr, .rv, .cs, .flt, .txb, .dst,
    .mntl, .eth, .kiln, .gnss, .hop, .boot, .egr, .sess], p ∈ k) :
    (State.timeStage s).but k = s.but k := by
  simp only [List.mem_cons, forall_eq_or_imp, List.not_mem_nil, false_implies, implies_true, and_true] at h
  simp [State.timeStage, h]
@[simp] theorem State.timeStarts_but (s : State) (a1 : Nat) (a2 : Nat) (a3 : Bool) (k : List Part) (h : ∀ p ∈ [Part.out, .now,
    .freeCtr, .rv, .cs, .flt, .txb, .dst, .mntl, .eth, .kiln, .gnss, .hop, .boot, .egr, .sess], p ∈ k) :
    (State.timeStarts s a1 a2 a3).but k = s.but k := by
  simp only [List.mem_cons, forall_eq_or_imp, List.not_mem_nil, false_implies, implies_true, and_true] at h
  simp [State.timeStarts, h]
@[simp] theorem State.timeSetGo_but (s : State) (k : List Part) (h : ∀ p ∈ [Part.out, .now, .freeCtr, .rv, .cs, .flt, .txb,
    .dst, .mntl, .eth, .kiln, .gnss, .hop, .boot, .egr, .sess], p ∈ k) :
    (State.timeSetGo s).2.but k = s.but k := by
  simp only [List.mem_cons, forall_eq_or_imp, List.not_mem_nil, false_implies, implies_true, and_true] at h
  simp [State.timeSetGo, h]
@[simp] theorem State.selfTest_but (s : State) (k : List Part) (h : ∀ p ∈ [Part.rv, .gnss], p ∈ k) :
    (State.selfTest s).but k = s.but k := by
  simp only [List.mem_cons, forall_eq_or_imp, List.not_mem_nil, false_implies, implies_true, and_true] at h
  simp [State.selfTest, h]
@[simp] theorem State.posWritten_but (s : State) (k : List Part) (h : ∀ p ∈ [Part.gnss], p ∈ k) :
    (State.posWritten s).but k = s.but k := by
  simp only [List.mem_cons, forall_eq_or_imp, List.not_mem_nil, false_implies, implies_true, and_true] at h
  simp [State.posWritten, h]
@[simp] theorem State.sessWrite_but (s : State) (a1 : Bool) (a2 : Bool) (k : List Part) (h : ∀ p ∈ [Part.tsvc], p ∈ k) :
    (State.sessWrite s a1 a2).2.but k = s.but k := by
  simp only [List.mem_cons, forall_eq_or_imp, List.not_mem_nil, false_implies, implies_true, and_true] at h
  simp [State.sessWrite, h]
@[simp] theorem State.sessRead_but (s : State) (k : List Part) (h : ∀ p ∈ [Part.rv], p ∈ k) :
    (State.sessRead s).but k = s.but k := by
  simp only [List.mem_cons, forall_eq_or_imp, List.not_mem_nil, false_implies, implies_true, and_true] at h
  simp [State.sessRead, h]
@[simp] theorem State.sessCmd_but (s t : State) (it : CsItem) (k : List Part) (h : ∀ p ∈ [Part.rv, .tsvc], p ∈ k) (e : t.but k
    = s.but k) :
    (s.sessCmd t it).2.but k = s.but k := by
  simp only [List.mem_cons, forall_eq_or_imp, List.not_mem_nil, false_implies, implies_true, and_true] at h
  simp only [State.sessCmd]
  repeat' split
  all_goals simp [h, e]
@[simp] theorem State.putGroup_but (s : State) (a1 : Nat) (a2 : TKey) (k : List Part) (h : ∀ p ∈ [Part.tsvc], p ∈ k) :
    (State.putGroup s a1 a2).but k = s.but k := by
  simp only [List.mem_cons, forall_eq_or_imp, List.not_mem_nil, false_implies, implies_true, and_true] at h
  simp [State.putGroup, h]
@[simp] theorem State.keyLoad_but (s : State) (k : List Part) (h : ∀ p ∈ [Part.rv, .tsvc], p ∈ k) :
    (State.keyLoad s).2.but k = s.but k := by
  simp only [List.mem_cons, forall_eq_or_imp, List.not_mem_nil, false_implies, implies_true, and_true] at h
  simp [State.keyLoad, h]
@[simp] theorem State.ntsMkeyWrite_but (s : State) (a1 : Nat) (a2 : Bool) (a3 : Bool) (k : List Part) (h : ∀ p ∈ [Part.rv], p
    ∈ k) :
    (State.ntsMkeyWrite s a1 a2 a3).2.but k = s.but k := by
  simp only [List.mem_cons, forall_eq_or_imp, List.not_mem_nil, false_implies, implies_true, and_true] at h
  simp [State.ntsMkeyWrite, h]
@[simp] theorem State.inject_but (s : State) (k : List Part) (h : ∀ p ∈ [Part.rv, .tsvc], p ∈ k) :
    (State.inject s).2.but k = s.but k := by
  simp only [List.mem_cons, forall_eq_or_imp, List.not_mem_nil, false_implies, implies_true, and_true] at h
  simp [State.inject, h]
@[simp] theorem State.takeEpoch_but (s : State) (a1 : Nat) (k : List Part) (h : ∀ p ∈ [Part.rv, .mntl], p ∈ k) :
    (State.takeEpoch s a1).but k = s.but k := by
  simp only [List.mem_cons, forall_eq_or_imp, List.not_mem_nil, false_implies, implies_true, and_true] at h
  simp [State.takeEpoch, h]
@[simp] theorem State.mantleEnable_but (s : State) (a1 : Bool) (k : List Part) (h : ∀ p ∈ [Part.out, .freeCtr, .rv, .cs, .flt,
    .txb, .dst, .mntl, .eth, .kiln, .gnss, .hop, .boot, .egr, .sess], p ∈ k) :
    (State.mantleEnable s a1).2.but k = s.but k := by
  simp only [List.mem_cons, forall_eq_or_imp, List.not_mem_nil, false_implies, implies_true, and_true] at h
  simp [State.mantleEnable, h]
@[simp] theorem State.mantleEvent_but (s : State) (a1 : Nat) (a2 : List Byte) (k : List Part) (h : ∀ p ∈ [Part.out, .rv, .egr,
    .sess], p ∈ k) :
    (State.mantleEvent s a1 a2).but k = s.but k := by
  simp only [List.mem_cons, forall_eq_or_imp, List.not_mem_nil, false_implies, implies_true, and_true] at h
  simp [State.mantleEvent, h]
@[simp] theorem State.handoverEnd_but (s : State) (a1 : Nat) (a2 : Nat) (k : List Part) (h : ∀ p ∈ [Part.out, .rv, .mntl,
    .egr, .sess], p ∈ k) :
    (State.handoverEnd s a1 a2).but k = s.but k := by
  simp only [List.mem_cons, forall_eq_or_imp, List.not_mem_nil, false_implies, implies_true, and_true] at h
  simp [State.handoverEnd, h]
@[simp] theorem State.handoverStart_but (s : State) (k : List Part) (h : ∀ p ∈ [Part.out, .rv, .txb, .mntl, .egr, .sess], p ∈
    k) :
    (State.handoverStart s).but k = s.but k := by
  simp only [List.mem_cons, forall_eq_or_imp, List.not_mem_nil, false_implies, implies_true, and_true] at h
  simp [State.handoverStart, h]
@[simp] theorem State.mntlCtl_but (s t : State) (it : CsItem) (k : List Part) (h : ∀ p ∈ [Part.out, .freeCtr, .rv, .cs, .flt,
    .txb, .dst, .mntl, .eth, .kiln, .gnss, .hop, .boot, .egr, .sess], p ∈ k) (e : t.but k = s.but k) :
    (s.mntlCtl t it).2.but k = s.but k := by
  simp only [List.mem_cons, forall_eq_or_imp, List.not_mem_nil, false_implies, implies_true, and_true] at h
  simp only [State.mntlCtl]
  repeat' split
  all_goals simp [h, e]
@[simp] theorem State.clearStanding_but (s : State) (a1 : Nat) (k : List Part) (h : ∀ p ∈ [Part.flt], p ∈ k) :
    (State.clearStanding s a1).but k = s.but k := by
  simp only [List.mem_cons, forall_eq_or_imp, List.not_mem_nil, false_implies, implies_true, and_true] at h
  unfold State.clearStanding
  repeat' (first | (simp [h]; done) | split)
@[simp] theorem State.log511_but (s : State) (a1 : Nat) (a2 : UKind) (a3 : Nat) (k : List Part) (h : ∀ p ∈ [Part.out,
    .freeCtr, .rv, .cs, .flt, .txb, .dst, .mntl, .eth, .kiln, .gnss, .hop, .boot, .egr, .sess], p ∈ k) :
    (State.log511 s a1 a2 a3).but k = s.but k := by
  simp only [List.mem_cons, forall_eq_or_imp, List.not_mem_nil, false_implies, implies_true, and_true] at h
  simp [State.log511, h]
@[simp] theorem State.unfence_but (s : State) (a1 : UKind) (a2 : Nat) (k : List Part) (h : ∀ p ∈ [Part.rv, .flt, .dst, .mntl,
    .kiln, .boot], p ∈ k) :
    (State.unfence s a1 a2).but k = s.but k := by
  simp only [List.mem_cons, forall_eq_or_imp, List.not_mem_nil, false_implies, implies_true, and_true] at h
  unfold State.unfence
  repeat' (first | (simp [h]; done) | split)
@[simp] theorem State.fenceCmd_but (s : State) (a1 : Bool) (a2 : Nat) (a3 : Nat) (k : List Part) (h : ∀ p ∈ [Part.out,
    .freeCtr, .rv, .cs, .flt, .txb, .dst, .mntl, .eth, .kiln, .gnss, .hop, .boot, .egr, .sess], p ∈ k) :
    (State.fenceCmd s a1 a2 a3).2.but k = s.but k := by
  simp only [List.mem_cons, forall_eq_or_imp, List.not_mem_nil, false_implies, implies_true, and_true] at h
  simp [State.fenceCmd, h]
@[simp] theorem State.logAck_but (s : State) (a1 : Nat) (k : List Part) (h : ∀ p ∈ [Part.rv], p ∈ k) :
    (State.logAck s a1).but k = s.but k := by
  simp only [List.mem_cons, forall_eq_or_imp, List.not_mem_nil, false_implies, implies_true, and_true] at h
  simp [State.logAck, h]
@[simp] theorem State.closeSession_but (s : State) (a1 : Nat) (k : List Part) (h : ∀ p ∈ [Part.held, .hcp, .latch, .sess], p ∈
    k) :
    (State.closeSession s a1).but k = s.but k := by
  simp only [List.mem_cons, forall_eq_or_imp, List.not_mem_nil, false_implies, implies_true, and_true] at h
  simp [State.closeSession, h]
@[simp] theorem State.closeSlot_but (s : State) (a1 : Nat) (k : List Part) (h : ∀ p ∈ [Part.held, .hcp, .latch, .sess], p ∈ k)
    :
    (State.closeSlot s a1).but k = s.but k := by
  simp only [List.mem_cons, forall_eq_or_imp, List.not_mem_nil, false_implies, implies_true, and_true] at h
  simp [State.closeSlot, h]
@[simp] theorem State.hopGo_but (s : State) (a1 : Nat) (k : List Part) (h : ∀ p ∈ [Part.rv, .hop], p ∈ k) :
    (State.hopGo s a1).but k = s.but k := by
  simp only [List.mem_cons, forall_eq_or_imp, List.not_mem_nil, false_implies, implies_true, and_true] at h
  simp [State.hopGo, h]
@[simp] theorem State.crcFeed_but (s : State) (a1 : Nat) (a2 : List Byte) (k : List Part) (h : ∀ p ∈ [Part.rv], p ∈ k) :
    (State.crcFeed s a1 a2).but k = s.but k := by
  simp only [List.mem_cons, forall_eq_or_imp, List.not_mem_nil, false_implies, implies_true, and_true] at h
  simp [State.crcFeed, h]
@[simp] theorem State.crcRestart_but (s : State) (a1 : Nat) (a2 : List Byte) (k : List Part) (h : ∀ p ∈ [Part.rv], p ∈ k) :
    (State.crcRestart s a1 a2).but k = s.but k := by
  simp only [List.mem_cons, forall_eq_or_imp, List.not_mem_nil, false_implies, implies_true, and_true] at h
  simp [State.crcRestart, h]
@[simp] theorem State.crcStart_but (s : State) (a1 : Nat) (k : List Part) (h : ∀ p ∈ [Part.rv], p ∈ k) :
    (State.crcStart s a1).but k = s.but k := by
  simp only [List.mem_cons, forall_eq_or_imp, List.not_mem_nil, false_implies, implies_true, and_true] at h
  simp [State.crcStart, h]
@[simp] theorem State.crcFeedWord_but (s : State) (a1 : Nat) (a2 : Nat) (k : List Part) (h : ∀ p ∈ [Part.rv], p ∈ k) :
    (State.crcFeedWord s a1 a2).but k = s.but k := by
  simp only [List.mem_cons, forall_eq_or_imp, List.not_mem_nil, false_implies, implies_true, and_true] at h
  simp [State.crcFeedWord, h]
@[simp] theorem State.trialReject_but (s : State) (k : List Part) (h : ∀ p ∈ [Part.out, .freeCtr, .rv, .cs, .flt, .txb, .dst,
    .mntl, .eth, .kiln, .gnss, .hop, .boot, .egr, .sess], p ∈ k) :
    (State.trialReject s).but k = s.but k := by
  simp only [List.mem_cons, forall_eq_or_imp, List.not_mem_nil, false_implies, implies_true, and_true] at h
  simp [State.trialReject, h]
@[simp] theorem State.loadCellar_but (s : State) (k : List Part) (h : ∀ p ∈ [Part.rv], p ∈ k) :
    (State.loadCellar s).but k = s.but k := by
  simp only [List.mem_cons, forall_eq_or_imp, List.not_mem_nil, false_implies, implies_true, and_true] at h
  unfold State.loadCellar
  repeat' (first | (simp [h]; done) | split)
@[simp] theorem State.clocksLow_but (s : State) (k : List Part) (h : ∀ p ∈ [Part.out, .kiln], p ∈ k) :
    (State.clocksLow s).but k = s.but k := by
  simp only [List.mem_cons, forall_eq_or_imp, List.not_mem_nil, false_implies, implies_true, and_true] at h
  simp [State.clocksLow, h]
@[simp] theorem State.enterCellar_but (s : State) (a1 : Bool) (k : List Part) (h : ∀ p ∈ [Part.out, .freeCtr, .rv, .staged,
    .cs, .flt, .txb, .dst, .mntl, .mash, .aprt, .eth, .kiln, .gnss, .hop, .boot, .egr, .sess, .follow], p ∈ k) :
    (State.enterCellar s a1).but k = s.but k := by
  simp only [List.mem_cons, forall_eq_or_imp, List.not_mem_nil, false_implies, implies_true, and_true] at h
  simp [State.enterCellar, h]
@[simp] theorem State.cellarEnter_but (s : State) (k : List Part) (h : ∀ p ∈ [Part.out, .freeCtr, .rv, .staged, .cs, .flt,
    .txb, .dst, .mntl, .mash, .aprt, .eth, .kiln, .gnss, .hop, .boot, .egr, .sess, .follow], p ∈ k) :
    (State.cellarEnter s).but k = s.but k := by
  simp only [List.mem_cons, forall_eq_or_imp, List.not_mem_nil, false_implies, implies_true, and_true] at h
  unfold State.cellarEnter
  repeat' (first | (simp [h]; done) | split)
@[simp] theorem State.uartDrain_but (s : State) (k : List Part) (h : ∀ p ∈ [Part.out, .pwr], p ∈ k) :
    (State.uartDrain s).but k = s.but k := by
  simp only [List.mem_cons, forall_eq_or_imp, List.not_mem_nil, false_implies, implies_true, and_true] at h
  simp [State.uartDrain, h]
@[simp] theorem State.uartEnable_but (s : State) (a1 : Bool) (k : List Part) (h : ∀ p ∈ [Part.out, .rv, .pwr], p ∈ k) :
    (State.uartEnable s a1).but k = s.but k := by
  simp only [List.mem_cons, forall_eq_or_imp, List.not_mem_nil, false_implies, implies_true, and_true] at h
  simp [State.uartEnable, h]
@[simp] theorem State.uartWrite_but (s : State) (a1 : Nat) (k : List Part) (h : ∀ p ∈ [Part.out, .rv, .pwr], p ∈ k) :
    (State.uartWrite s a1).2.but k = s.but k := by
  simp only [List.mem_cons, forall_eq_or_imp, List.not_mem_nil, false_implies, implies_true, and_true] at h
  simp [State.uartWrite, h]
@[simp] theorem State.linkCtl_but (s t : State) (a1 : CsItem) (i : Nat) (k : List Part) (h : ∀ p ∈ [Part.out, .now,
    .freeCtr, .rv, .staged, .ord, .held, .cs, .flt, .bnd, .txb, .cell, .dst, .head, .mntl, .mash, .aprt, .eth, .kiln, .gnss,
    .tsvc, .hcp, .hop, .boot, .pwr, .latch, .egr, .sess, .follow], p ∈ k) :
    (s.linkCtl t a1 i).but k = t.but k := by
  simp only [List.mem_cons, forall_eq_or_imp, List.not_mem_nil, false_implies, implies_true, and_true] at h
  unfold State.linkCtl
  dsimp only
  repeat' split
  all_goals simp [h]
@[simp] theorem State.followCtl_but (s t : State) (i : Nat) (k : List Part) (h : ∀ p ∈ [Part.out, .now,
    .freeCtr, .rv, .staged, .ord, .held, .cs, .flt, .bnd, .txb, .cell, .dst, .head, .mntl, .mash, .aprt, .eth, .kiln, .gnss,
    .tsvc, .hcp, .hop, .boot, .pwr, .latch, .egr, .sess, .follow], p ∈ k) :
    (s.followCtl t i).but k = t.but k := by
  simp only [List.mem_cons, forall_eq_or_imp, List.not_mem_nil, false_implies, implies_true, and_true] at h
  unfold State.followCtl
  dsimp only
  repeat' split
  all_goals simp [h]
@[simp] theorem State.engCtl_but (s t : State) (a1 : CsItem) (i : Nat) (k : List Part) (h : ∀ p ∈ [Part.out, .now,
    .freeCtr, .rv, .staged, .ord, .held, .cs, .flt, .bnd, .txb, .cell, .dst, .head, .mntl, .mash, .aprt, .eth, .kiln, .gnss,
    .tsvc, .hcp, .hop, .boot, .pwr, .latch, .egr, .sess, .follow], p ∈ k) :
    (s.engCtl t a1 i).but k = t.but k := by
  simp only [List.mem_cons, forall_eq_or_imp, List.not_mem_nil, false_implies, implies_true, and_true] at h
  unfold State.engCtl
  dsimp only
  repeat' split
  all_goals simp [h]
@[simp] theorem State.maskLo_but (s t : State) (a1 : CsItem) (i : Nat) (k : List Part) (e : t.but k = s.but k) (h : ∀ p ∈ [Part.out, .now,
    .freeCtr, .rv, .staged, .ord, .held, .cs, .flt, .bnd, .txb, .cell, .dst, .head, .mntl, .mash, .aprt, .eth, .kiln, .gnss,
    .tsvc, .hcp, .hop, .boot, .pwr, .latch, .egr, .sess, .follow], p ∈ k) :
    (s.maskLo t a1 i).but k = s.but k := by
  simp only [List.mem_cons, forall_eq_or_imp, List.not_mem_nil, false_implies, implies_true, and_true] at h
  unfold State.maskLo
  dsimp only
  repeat' split
  all_goals simp [h, e]
@[simp] theorem State.maskHi_but (s t : State) (at_ : Option Nat) (a1 : CsItem) (i : Nat) (k : List Part) (e : t.but k = s.but k) (h : ∀ p ∈ [Part.out, .now,
    .freeCtr, .rv, .staged, .ord, .held, .cs, .flt, .bnd, .txb, .cell, .dst, .head, .mntl, .mash, .aprt, .eth, .kiln, .gnss,
    .tsvc, .hcp, .hop, .boot, .pwr, .latch, .egr, .sess, .follow], p ∈ k) :
    (s.maskHi t at_ a1 i).but k = s.but k := by
  simp only [List.mem_cons, forall_eq_or_imp, List.not_mem_nil, false_implies, implies_true, and_true] at h
  unfold State.maskHi
  dsimp only
  repeat' split
  all_goals simp [h, e]
@[simp] theorem State.gnssCtl_but (s t : State) (a1 : CsItem) (k : List Part) (h : ∀ p ∈ [Part.out, .now,
    .freeCtr, .rv, .staged, .ord, .held, .cs, .flt, .bnd, .txb, .cell, .dst, .head, .mntl, .mash, .aprt, .eth, .kiln, .gnss,
    .tsvc, .hcp, .hop, .boot, .pwr, .latch, .egr, .sess, .follow], p ∈ k) :
    (s.gnssCtl t a1).but k = t.but k := by
  simp only [List.mem_cons, forall_eq_or_imp, List.not_mem_nil, false_implies, implies_true, and_true] at h
  unfold State.gnssCtl
  dsimp only
  repeat' split
  all_goals simp [h]
@[simp] theorem State.applySys_but (s t : State) (a1 : Option Nat) (a2 : CsItem) (k : List Part) (e : t.but k = s.but k) (h : ∀ p ∈ [Part.out, .now,
    .freeCtr, .rv, .staged, .ord, .held, .cs, .flt, .bnd, .txb, .cell, .dst, .head, .mntl, .mash, .aprt, .eth, .kiln, .gnss,
    .tsvc, .hcp, .hop, .boot, .pwr, .latch, .egr, .sess, .follow], p ∈ k) :
    (s.applySys t a1 a2).2.but k = s.but k := by
  simp only [List.mem_cons, forall_eq_or_imp, List.not_mem_nil, false_implies, implies_true, and_true] at h
  unfold State.applySys
  dsimp only
  split <;> (repeat' split) <;> simp [h, e]
@[simp] theorem State.applyTime_but (s t : State) (a1 : Option Nat) (a2 : CsItem) (k : List Part) (e : t.but k = s.but k) (h : ∀ p ∈ [Part.out, .now,
    .freeCtr, .rv, .staged, .ord, .held, .cs, .flt, .bnd, .txb, .cell, .dst, .head, .mntl, .mash, .aprt, .eth, .kiln, .gnss,
    .tsvc, .hcp, .hop, .boot, .pwr, .latch, .egr, .sess, .follow], p ∈ k) :
    (s.applyTime t a1 a2).2.but k = s.but k := by
  simp only [List.mem_cons, forall_eq_or_imp, List.not_mem_nil, false_implies, implies_true, and_true] at h
  unfold State.applyTime
  dsimp only
  split <;> (repeat' split) <;> simp [h, e]
@[simp] theorem State.applyItem_but (s : State) (a1 : Option Nat) (a2 : CsItem) (k : List Part) (h : ∀ p ∈ [Part.out, .now,
    .freeCtr, .rv, .staged, .ord, .held, .cs, .flt, .bnd, .txb, .cell, .dst, .head, .mntl, .mash, .aprt, .eth, .kiln, .gnss,
    .tsvc, .hcp, .hop, .boot, .pwr, .latch, .egr, .sess, .follow], p ∈ k) :
    (State.applyItem s a1 a2).2.but k = s.but k := by
  simp only [List.mem_cons, forall_eq_or_imp, List.not_mem_nil, false_implies, implies_true, and_true] at h
  unfold State.applyItem
  dsimp only
  split <;> (repeat' split) <;> simp [h]
@[simp] theorem State.putItem_but (s : State) (a1 : Option Nat) (a2 : CsItem) (k : List Part) (h : ∀ p ∈ [Part.out, .now,
    .freeCtr, .rv, .staged, .ord, .held, .cs, .flt, .bnd, .txb, .cell, .dst, .head, .mntl, .mash, .aprt, .eth, .kiln, .gnss,
    .tsvc, .hcp, .hop, .boot, .pwr, .latch, .parked, .egr, .sess, .follow], p ∈ k) :
    (State.putItem s a1 a2).2.but k = s.but k := by
  simp only [List.mem_cons, forall_eq_or_imp, List.not_mem_nil, false_implies, implies_true, and_true] at h
  unfold State.putItem
  repeat' (first | (simp [h]; done) | split)
@[simp] theorem State.putWord_but (s : State) (a1 : Master) (a2 : Option Nat) (a3 : WItem) (k : List Part) (h : ∀ p ∈
    [Part.out, .now, .freeCtr, .rv, .staged, .ord, .held, .cs, .flt, .bnd, .txb, .cell, .dst, .head, .mntl, .mash, .aprt,
    .eth, .kiln, .gnss, .tsvc, .hcp, .hop, .boot, .pwr, .latch, .parked, .egr, .sess, .follow], p ∈ k) :
    (State.putWord s a1 a2 a3).2.but k = s.but k := by
  simp only [List.mem_cons, forall_eq_or_imp, List.not_mem_nil, false_implies, implies_true, and_true] at h
  simp only [State.putWord]
  repeat' (first | (simp [h]; done) | split)
@[simp] theorem State.putItems_but (s0 : State) (m : Master) (sf : Bool) (at_ : Option Nat) (all : List CsItem) (n : Nat) (l :
    List Item) (s : State) (k : List Part) (h : ∀ p ∈ [Part.out, .now, .freeCtr, .rv, .staged, .ord, .held, .cs, .flt, .bnd,
    .txb, .cell, .dst, .head, .mntl, .mash, .aprt, .eth, .kiln, .gnss, .tsvc, .hcp, .hop, .boot, .pwr, .latch, .parked, .egr,
    .sess, .follow], p ∈ k) (e : s.but k = s0.but k) :
    (s0.putItems m sf at_ all n l s).2.2.but k = s0.but k := by
  simp only [List.mem_cons, forall_eq_or_imp, List.not_mem_nil, false_implies, implies_true, and_true] at h
  induction l generalizing n s with
  | nil => exact e
  | cons w l ih =>
    simp only [State.putItems]
    split
    · split
      · rename_i e'
        exact ih _ _ ((congrArg (fun p => p.2.but k) e').symm.trans (Eq.trans (by simp [h]) e))
      · rfl
    · exact ih _ _ e
    · rfl
@[simp] theorem State.bindItems_but (s : State) (a1 : List CsItem) (k : List Part) (h : ∀ p ∈ [Part.bound], p ∈ k) :
    (State.bindItems s a1).but k = s.but k := by
  simp only [List.mem_cons, forall_eq_or_imp, List.not_mem_nil, false_implies, implies_true, and_true] at h
  simp [State.bindItems, h]
@[simp] theorem State.defaultAccess_but (s : State) (a1 : Nat) (a2 : Bool) (a3 : Nat) (k : List Part) (h : ∀ p ∈ [Part.out,
    .freeCtr, .rv, .cs, .flt, .txb, .dst, .mntl, .eth, .kiln, .gnss, .hop, .boot, .egr, .sess], p ∈ k) :
    (State.defaultAccess s a1 a2 a3).but k = s.but k := by
  simp only [List.mem_cons, forall_eq_or_imp, List.not_mem_nil, false_implies, implies_true, and_true] at h
  simp [State.defaultAccess, h]
@[simp] theorem State.regWrite_but (s : State) (a1 : Master) (a2 : Bool) (a3 : Option Nat) (a4 : List Item) (k : List Part) (h
    : ∀ p ∈ [Part.out, .now, .freeCtr, .rv, .staged, .ord, .held, .cs, .flt, .bnd, .txb, .cell, .dst, .head, .bound, .mntl,
    .mash, .aprt, .eth, .kiln, .gnss, .tsvc, .hcp, .hop, .boot, .pwr, .latch, .parked, .egr, .sess, .follow], p ∈ k) :
    (State.regWrite s a1 a2 a3 a4).2.2.but k = s.but k := by
  simp only [List.mem_cons, forall_eq_or_imp, List.not_mem_nil, false_implies, implies_true, and_true] at h
  have q := State.putItems_but s a1 a2 a3 (s.wholes a1 s.held a4) 0 a4 s k (by simp [h]) rfl
  simp only [State.regWrite]
  split
  · rename_i e
    rw [e] at q
    simp only at q
    split <;> simp [q, h]
  · split <;> simp [h]
@[simp] theorem State.learnSet_but (s : State) (a1 : Nat) (k : List Part) (h : ∀ p ∈ [Part.rv, .follow], p ∈ k) :
    (State.learnSet s a1).but k = s.but k := by
  simp only [List.mem_cons, forall_eq_or_imp, List.not_mem_nil, false_implies, implies_true, and_true] at h
  unfold State.learnSet
  dsimp only
  repeat' (first | (simp [h]; done) | (refine (State.each_but _ _ _ _ ?_).trans ?_) | (refine (foldl_but _ _ ?_ _ _).trans ?_) | (refine (foldl_but_snd _ _ ?_ _ _).trans ?_) | (intro _ _) | split | (dsimp only))
@[simp] theorem State.commitSet_but (s : State) (a1 : Nat) (a2 : Nat) (k : List Part) (h : ∀ p ∈ [Part.out, .rv, .cs, .txb,
    .egr, .sess, .follow], p ∈ k) :
    (State.commitSet s a1 a2).but k = s.but k := by
  simp only [List.mem_cons, forall_eq_or_imp, List.not_mem_nil, false_implies, implies_true, and_true] at h
  unfold State.commitSet
  repeat' (first | (simp [h]; done) | split)
@[simp] theorem State.putSurf_but (s : State) (a1 : Nat) (a2 : Surf) (k : List Part) (h : ∀ p ∈ [Part.cask], p ∈ k) :
    (State.putSurf s a1 a2).but k = s.but k := by
  simp only [List.mem_cons, forall_eq_or_imp, List.not_mem_nil, false_implies, implies_true, and_true] at h
  simp [State.putSurf, h]
@[simp] theorem State.surfAlloc_but (s : State) (a1 : Nat) (a2 : Bool) (k : List Part) (h : ∀ p ∈ [Part.mem, .cask], p ∈ k) :
    (State.surfAlloc s a1 a2).2.2.but k = s.but k := by
  simp only [List.mem_cons, forall_eq_or_imp, List.not_mem_nil, false_implies, implies_true, and_true] at h
  simp only [State.surfAlloc]
  repeat' (first | (simp [h]; done) | split)
@[simp] theorem State.allocSurf_but (s : State) (a1 : Nat) (a2 : Bool) (a3 : Bool) (k : List Part) (h : ∀ p ∈ [Part.out, .rv,
    .mem, .txb, .cask], p ∈ k) :
    (State.allocSurf s a1 a2 a3).state.but k = s.but k := by
  simp only [List.mem_cons, forall_eq_or_imp, List.not_mem_nil, false_implies, implies_true, and_true] at h
  simp only [State.allocSurf]
  repeat' (first | (simp [h]; done) | split)
@[simp] theorem State.dropSurf_but (s : State) (a1 : Nat) (k : List Part) (h : ∀ p ∈ [Part.mem, .cask, .bound], p ∈ k) :
    (State.dropSurf s a1).but k = s.but k := by
  simp only [List.mem_cons, forall_eq_or_imp, List.not_mem_nil, false_implies, implies_true, and_true] at h
  simp [State.dropSurf, h]
@[simp] theorem State.surfFree_but (s : State) (a1 : Bool) (a2 : Nat) (k : List Part) (h : ∀ p ∈ [Part.mem, .cask, .bound], p
    ∈ k) :
    (State.surfFree s a1 a2).2.but k = s.but k := by
  simp only [List.mem_cons, forall_eq_or_imp, List.not_mem_nil, false_implies, implies_true, and_true] at h
  simp [State.surfFree, h]
@[simp] theorem State.putBytes_but (s : State) (a1 : Nat) (a2 : List Byte) (k : List Part) (h : ∀ p ∈ [Part.mem], p ∈ k) :
    (State.putBytes s a1 a2).but k = s.but k := by
  simp only [List.mem_cons, forall_eq_or_imp, List.not_mem_nil, false_implies, implies_true, and_true] at h
  simp [State.putBytes, h]
@[simp] theorem State.bulkWrite_but (s : State) (a1 : Bool) (a2 : Bool) (a3 : Nat) (a4 : Nat) (a5 : List Byte) (k : List Part)
    (h : ∀ p ∈ [Part.out, .rv, .mem, .txb], p ∈ k) :
    (State.bulkWrite s a1 a2 a3 a4 a5).state.but k = s.but k := by
  simp only [List.mem_cons, forall_eq_or_imp, List.not_mem_nil, false_implies, implies_true, and_true] at h
  unfold State.bulkWrite
  repeat' (first | (simp [h]; done) | split)
@[simp] theorem State.setFlowSeq_but (s : State) (a1 : Nat) (a2 : Nat) (k : List Part) (h : ∀ p ∈ [Part.dst, .mash], p ∈ k) :
    (State.setFlowSeq s a1 a2).but k = s.but k := by
  simp only [List.mem_cons, forall_eq_or_imp, List.not_mem_nil, false_implies, implies_true, and_true] at h
  unfold State.setFlowSeq
  repeat' (first | (simp [h]; done) | split)
@[simp] theorem State.mirrored_but (s : State) (a1 : MirOp) (a2 : Nat) (k : List Part) (h : ∀ p ∈ [Part.out, .now, .freeCtr,
    .rv, .staged, .ord, .held, .cs, .mem, .flt, .bnd, .txb, .cell, .dst, .cask, .head, .bound, .mntl, .mash, .aprt, .eth,
    .kiln, .gnss, .tsvc, .hcp, .hop, .boot, .pwr, .latch, .parked, .egr, .sess, .follow], p ∈ k) :
    (State.mirrored s a1 a2).2.but k = s.but k := by
  simp only [List.mem_cons, forall_eq_or_imp, List.not_mem_nil, false_implies, implies_true, and_true] at h
  unfold State.mirrored
  repeat' (first | (simp [h]; done) | split)
@[simp] theorem State.syncSent_but (s : State) (a1 : Nat) (a2 : Nat) (a3 : Nat) (k : List Part) (h : ∀ p ∈ [Part.tsvc], p ∈ k)
    :
    (State.syncSent s a1 a2 a3).but k = s.but k := by
  simp only [List.mem_cons, forall_eq_or_imp, List.not_mem_nil, false_implies, implies_true, and_true] at h
  simp [State.syncSent, h]
@[simp] theorem State.marked_but (s : State) (a1 : Nat) (a2 : TxMark) (k : List Part) (h : ∀ p ∈ [Part.out, .freeCtr, .rv,
    .cs, .flt, .txb, .dst, .mntl, .eth, .kiln, .gnss, .tsvc, .hop, .boot, .egr, .sess], p ∈ k) :
    (State.marked s a1 a2).but k = s.but k := by
  simp only [List.mem_cons, forall_eq_or_imp, List.not_mem_nil, false_implies, implies_true, and_true] at h
  unfold State.marked
  repeat' (first | (simp [h]; done) | split)
@[simp] theorem State.txMarked_but (s : State) (a1 : Nat) (a2 : Nat) (a3 : Output) (a4 : TxMark) (k : List Part) (h : ∀ p ∈
    [Part.out, .freeCtr, .rv, .cs, .flt, .txb, .dst, .mntl, .eth, .kiln, .gnss, .tsvc, .hop, .boot, .egr, .sess], p ∈ k) :
    (State.txMarked s a1 a2 a3 a4).but k = s.but k := by
  simp only [List.mem_cons, forall_eq_or_imp, List.not_mem_nil, false_implies, implies_true, and_true] at h
  simp [State.txMarked, h]
@[simp] theorem State.serve_but (s : State) (a1 : Nat) (k : List Part) (h : ∀ p ∈ [Part.out, .freeCtr, .rv, .cs, .flt, .txb,
    .dst, .mntl, .eth, .kiln, .gnss, .tsvc, .hop, .boot, .egr, .sess], p ∈ k) :
    (State.serve s a1).but k = s.but k := by
  simp only [List.mem_cons, forall_eq_or_imp, List.not_mem_nil, false_implies, implies_true, and_true] at h
  simp [State.serve, h]
@[simp] theorem State.noMatch_but (s : State) (a1 : Nat) (k : List Part) (h : ∀ p ∈ [Part.rv], p ∈ k) :
    (State.noMatch s a1).but k = s.but k := by
  simp only [List.mem_cons, forall_eq_or_imp, List.not_mem_nil, false_implies, implies_true, and_true] at h
  simp [State.noMatch, h]
@[simp] theorem State.rxChecked_but (s : State) (a1 : Nat) (a2 : Nat) (a3 : State → State) (k : List Part) (h : ∀ p ∈
    [Part.rv], p ∈ k) (ha3 : ∀ x0, (a3 x0).but k = x0.but k) :
    (State.rxChecked s a1 a2 a3).but k = s.but k := by
  simp only [List.mem_cons, forall_eq_or_imp, List.not_mem_nil, false_implies, implies_true, and_true] at h
  simp [State.rxChecked, h, ha3]
@[simp] theorem State.rxFrame_but (s : State) (a1 : Nat) (a2 : Nat) (a3 : State → State) (k : List Part) (h : ∀ p ∈ [Part.rv],
    p ∈ k) (ha3 : ∀ x0, (a3 x0).but k = x0.but k) :
    (State.rxFrame s a1 a2 a3).but k = s.but k := by
  simp only [List.mem_cons, forall_eq_or_imp, List.not_mem_nil, false_implies, implies_true, and_true] at h
  simp [State.rxFrame, h, ha3]
@[simp] theorem State.igmpAll_but (s : State) (a1 : Nat) (a2 : Nat) (k : List Part) (h : ∀ p ∈ [Part.out, .rv, .egr], p ∈ k) :
    (State.igmpAll s a1 a2).but k = s.but k := by
  simp only [List.mem_cons, forall_eq_or_imp, List.not_mem_nil, false_implies, implies_true, and_true] at h
  simp [State.igmpAll, h]
@[simp] theorem State.markHeld_but (s : State) (a1 : Nat) (a2 : Nat) (a3 : Bool) (k : List Part) (h : ∀ p ∈ [Part.rv], p ∈ k)
    :
    (State.markHeld s a1 a2 a3).but k = s.but k := by
  simp only [List.mem_cons, forall_eq_or_imp, List.not_mem_nil, false_implies, implies_true, and_true] at h
  simp [State.markHeld, h]
@[simp] theorem State.setIgnores_but (s : State) (a1 : Nat) (a2 : Nat) (a3 : Bool) (k : List Part) (h : ∀ p ∈ [Part.rv], p ∈
    k) :
    (State.setIgnores s a1 a2 a3).but k = s.but k := by
  simp only [List.mem_cons, forall_eq_or_imp, List.not_mem_nil, false_implies, implies_true, and_true] at h
  simp [State.setIgnores, h]
@[simp] theorem State.pauseQueue_but (s : State) (a1 : Nat) (a2 : Nat) (a3 : Option Nat) (a4 : List (Nat × Nat)) (k : List
    Part) (h : ∀ p ∈ [Part.rv, .eth], p ∈ k) :
    (State.pauseQueue s a1 a2 a3 a4).but k = s.but k := by
  simp only [List.mem_cons, forall_eq_or_imp, List.not_mem_nil, false_implies, implies_true, and_true] at h
  simp [State.pauseQueue, h]
@[simp] theorem State.closeWindow_but (s : State) (a1 : Nat) (a2 : Nat) (k : List Part) (h : ∀ p ∈ [Part.rv, .eth], p ∈ k) :
    (State.closeWindow s a1 a2).but k = s.but k := by
  simp only [List.mem_cons, forall_eq_or_imp, List.not_mem_nil, false_implies, implies_true, and_true] at h
  simp only [State.closeWindow]
  repeat' (first | (simp [h]; done) | split)
@[simp] theorem State.takeSeq_but (s : State) (a1 : Nat) (a2 : Nat) (a3 : Nat) (k : List Part) (h : ∀ p ∈ [Part.rv, .eth], p ∈
    k) :
    (State.takeSeq s a1 a2 a3).2.but k = s.but k := by
  simp only [List.mem_cons, forall_eq_or_imp, List.not_mem_nil, false_implies, implies_true, and_true] at h
  simp only [State.takeSeq]
  repeat' (first | (simp [h]; done) | split)
@[simp] theorem State.seePacket_but (s : State) (a1 : Nat) (a2 : Bool) (k : List Part) (h : ∀ p ∈ [Part.rv, .dst, .eth], p ∈
    k) :
    (State.seePacket s a1 a2).2.but k = s.but k := by
  simp only [List.mem_cons, forall_eq_or_imp, List.not_mem_nil, false_implies, implies_true, and_true] at h
  simp [State.seePacket, h]
@[simp] theorem State.media_but (s : State) (a1 : Nat) (a2 : FrameHdr) (a3 : List Nat) (a4 : Bool) (a5 : Bool) (a6 : State →
    Nat → State) (k : List Part) (h : ∀ p ∈ [Part.rv], p ∈ k) (ha6 : ∀ x0 x1, (a6 x0 x1).but k = x0.but k) :
    (State.media s a1 a2 a3 a4 a5 a6).but k = s.but k := by
  simp only [List.mem_cons, forall_eq_or_imp, List.not_mem_nil, false_implies, implies_true, and_true] at h
  simp only [State.media]
  refine State.rxChecked_but _ _ _ _ k (by simp [h]) ?_
  intro s
  split
  · simp [h]
  split
  · simp [h]
  split
  · simp [h]
  · refine State.rxFrame_but _ _ _ _ k (by simp [h]) ?_
    intro s
    repeat' split
    all_goals simp [h, ha6]
@[simp] theorem State.measureFrame_but (s : State) (a1 : Nat) (a2 : Nat) (a3 : Nat) (k : List Part) (h : ∀ p ∈ [Part.rv,
    .eth], p ∈ k) :
    (State.measureFrame s a1 a2 a3).but k = s.but k := by
  simp only [List.mem_cons, forall_eq_or_imp, List.not_mem_nil, false_implies, implies_true, and_true] at h
  simp [State.measureFrame, h]
@[simp] theorem State.packetRows_but (s : State) (a1 : Nat) (a2 : Nat) (a3 : Fmt) (a4 : Bool) (a5 : Bool) (a6 : List RtpRow)
    (k : List Part) (h : ∀ p ∈ [Part.out, .freeCtr, .rv, .cs, .flt, .txb, .src, .dst, .mntl, .mash, .eth, .kiln, .gnss, .hop,
    .boot, .egr, .sess], p ∈ k) :
    (State.packetRows s a1 a2 a3 a4 a5 a6).but k = s.but k := by
  simp only [List.mem_cons, forall_eq_or_imp, List.not_mem_nil, false_implies, implies_true, and_true] at h
  simp [State.packetRows, h]
@[simp] theorem State.turnAway_but (s : State) (a1 : Nat) (a2 : Change) (a3 : Nat) (k : List Part) (h : ∀ p ∈ [Part.out, .rv,
    .staged, .cs, .egr, .sess, .follow], p ∈ k) :
    (State.turnAway s a1 a2 a3).but k = s.but k := by
  simp only [List.mem_cons, forall_eq_or_imp, List.not_mem_nil, false_implies, implies_true, and_true] at h
  simp [State.turnAway, h]
@[simp] theorem State.apply22_but (s : State) (a1 : Nat) (k : List Part) (h : ∀ p ∈ [Part.out, .rv, .staged, .cs, .dst, .egr,
    .sess, .follow], p ∈ k) :
    (State.apply22 s a1).but k = s.but k := by
  simp only [List.mem_cons, forall_eq_or_imp, List.not_mem_nil, false_implies, implies_true, and_true] at h
  simp [State.apply22, h]
@[simp] theorem State.flowRate_but (s : State) (a1 : Nat) (a2 : Bool) (k : List Part) (h : ∀ p ∈ [Part.out, .freeCtr, .rv,
    .cs, .flt, .txb, .dst, .mntl, .mash, .eth, .kiln, .gnss, .hop, .boot, .egr, .sess], p ∈ k) :
    (State.flowRate s a1 a2).but k = s.but k := by
  simp only [List.mem_cons, forall_eq_or_imp, List.not_mem_nil, false_implies, implies_true, and_true] at h
  simp [State.flowRate, h]
@[simp] theorem State.audioIn_but (s : State) (a1 : Nat) (a2 : Nat) (a3 : Nat) (a4 : List (List Int)) (k : List Part) (h : ∀ p
    ∈ [Part.out, .freeCtr, .rv, .cs, .flt, .txb, .dst, .mntl, .mash, .eth, .kiln, .gnss, .hop, .boot, .egr, .sess], p ∈ k) :
    (State.audioIn s a1 a2 a3 a4).but k = s.but k := by
  simp only [List.mem_cons, forall_eq_or_imp, List.not_mem_nil, false_implies, implies_true, and_true] at h
  simp [State.audioIn, h]
@[simp] theorem State.localFault_but (s : State) (a1 : Nat) (a2 : Bool) (k : List Part) (h : ∀ p ∈ [Part.out, .rv], p ∈ k) :
    (State.localFault s a1 a2).but k = s.but k := by
  simp only [List.mem_cons, forall_eq_or_imp, List.not_mem_nil, false_implies, implies_true, and_true] at h
  simp [State.localFault, h]
@[simp] theorem State.ethDown_but (s : State) (a1 : Nat) (k : List Part) (h : ∀ p ∈ [Part.out, .freeCtr, .rv, .cs, .flt, .txb,
    .dst, .mntl, .eth, .kiln, .gnss, .tsvc, .hop, .boot, .egr, .sess], p ∈ k) :
    (State.ethDown s a1).but k = s.but k := by
  simp only [List.mem_cons, forall_eq_or_imp, List.not_mem_nil, false_implies, implies_true, and_true] at h
  simp [State.ethDown, h]
@[simp] theorem State.cond_but (s : State) (a1 : Nat) (a2 : Nat) (a3 : Bool) (k : List Part) (h : ∀ p ∈ [Part.out, .freeCtr,
    .rv, .cs, .flt, .txb, .dst, .mntl, .eth, .kiln, .gnss, .hop, .boot, .egr, .sess], p ∈ k) :
    (State.cond s a1 a2 a3).but k = s.but k := by
  simp only [List.mem_cons, forall_eq_or_imp, List.not_mem_nil, false_implies, implies_true, and_true] at h
  simp [State.cond, h]
@[simp] theorem State.setIf_but (s : State) (a1 : Nat) (a2 : Bool) (k : List Part) (h : ∀ p ∈ [Part.rv], p ∈ k) :
    (State.setIf s a1 a2).but k = s.but k := by
  simp only [List.mem_cons, forall_eq_or_imp, List.not_mem_nil, false_implies, implies_true, and_true] at h
  simp [State.setIf, h]
@[simp] theorem State.loseLock_but (s : State) (a1 : Nat) (a2 : Nat) (k : List Part) (h : ∀ p ∈ [Part.rv, .gnss], p ∈ k) :
    (State.loseLock s a1 a2).but k = s.but k := by
  simp only [List.mem_cons, forall_eq_or_imp, List.not_mem_nil, false_implies, implies_true, and_true] at h
  simp [State.loseLock, h]
@[simp] theorem State.clockGone_but (s : State) (a1 : Nat) (k : List Part) (h : ∀ p ∈ [Part.out, .freeCtr, .rv, .cs, .flt,
    .txb, .dst, .mntl, .eth, .kiln, .gnss, .hop, .boot, .egr, .sess], p ∈ k) :
    (State.clockGone s a1).but k = s.but k := by
  simp only [List.mem_cons, forall_eq_or_imp, List.not_mem_nil, false_implies, implies_true, and_true] at h
  simp [State.clockGone, h]
@[simp] theorem State.assign_but (s : State) (a1 : Nat) (a2 : Nat) (a3 : Nat) (k : List Part) (h : ∀ p ∈ [Part.rv, .gnss], p ∈
    k) :
    (State.assign s a1 a2 a3).but k = s.but k := by
  simp only [List.mem_cons, forall_eq_or_imp, List.not_mem_nil, false_implies, implies_true, and_true] at h
  simp [State.assign, h]
@[simp] theorem State.measRecord_but (s : State) (a1 : Nat) (a2 : Bool) (a3 : Bool) (a4 : List GMeas) (k : List Part) (h : ∀ p
    ∈ [Part.rv, .mem, .gnss], p ∈ k) :
    (State.measRecord s a1 a2 a3 a4).but k = s.but k := by
  simp only [List.mem_cons, forall_eq_or_imp, List.not_mem_nil, false_implies, implies_true, and_true] at h
  simp [State.measRecord, h]
@[simp] theorem State.distrust_but (s : State) (a1 : List Nat) (k : List Part) (h : ∀ p ∈ [Part.out, .freeCtr, .rv, .cs, .flt,
    .txb, .dst, .mntl, .eth, .kiln, .gnss, .hop, .boot, .egr, .sess], p ∈ k) :
    (State.distrust s a1).but k = s.but k := by
  simp only [List.mem_cons, forall_eq_or_imp, List.not_mem_nil, false_implies, implies_true, and_true] at h
  simp [State.distrust, h]
@[simp] theorem State.passedSecond_but (s : State) (k : List Part) (h : ∀ p ∈ [Part.rv, .flt, .gnss, .boot], p ∈ k) :
    (State.passedSecond s).but k = s.but k := by
  simp only [List.mem_cons, forall_eq_or_imp, List.not_mem_nil, false_implies, implies_true, and_true] at h
  simp [State.passedSecond, h]
@[simp] theorem State.noSolution_but (s : State) (k : List Part) (h : ∀ p ∈ [Part.out, .freeCtr, .rv, .cs, .flt, .txb, .dst,
    .mntl, .eth, .kiln, .gnss, .hop, .boot, .egr, .sess], p ∈ k) :
    (State.noSolution s).but k = s.but k := by
  simp only [List.mem_cons, forall_eq_or_imp, List.not_mem_nil, false_implies, implies_true, and_true] at h
  simp [State.noSolution, h]
@[simp] theorem State.surveyStep_but (s : State) (a1 : GSol) (k : List Part) (h : ∀ p ∈ [Part.rv, .gnss], p ∈ k) :
    (State.surveyStep s a1).but k = s.but k := by
  simp only [List.mem_cons, forall_eq_or_imp, List.not_mem_nil, false_implies, implies_true, and_true] at h
  simp [State.surveyStep, h]
@[simp] theorem State.solveShow_but (s : State) (a1 : List Nat) (a2 : Bool) (a3 : Nat) (a4 : List Nat) (a5 : Nat) (a6 : Bool)
    (a7 : Nat) (a8 : Int) (a9 : Nat) (k : List Part) (h : ∀ p ∈ [Part.rv, .gnss], p ∈ k) :
    (State.solveShow s a1 a2 a3 a4 a5 a6 a7 a8 a9).but k = s.but k := by
  simp only [List.mem_cons, forall_eq_or_imp, List.not_mem_nil, false_implies, implies_true, and_true] at h
  simp [State.solveShow, h]
@[simp] theorem State.fresh_but (s : State) (a1 : Nat) (k : List Part) (h : ∀ p ∈ [Part.freeCtr], p ∈ k) :
    (State.fresh s a1).2.but k = s.but k := by
  simp only [List.mem_cons, forall_eq_or_imp, List.not_mem_nil, false_implies, implies_true, and_true] at h
  simp [State.fresh, h]
@[simp] theorem State.refMeasure_but (s : State) (a1 : Nat) (a2 : Int) (a3 : Option Nat) (a4 : Nat) (k : List Part) (h : ∀ p ∈
    [Part.out, .freeCtr, .rv, .cs, .flt, .txb, .dst, .mntl, .eth, .kiln, .gnss, .hop, .boot, .egr, .sess], p ∈ k) :
    (State.refMeasure s a1 a2 a3 a4).but k = s.but k := by
  simp only [List.mem_cons, forall_eq_or_imp, List.not_mem_nil, false_implies, implies_true, and_true] at h
  simp [State.refMeasure, h]
@[simp] theorem State.solveEnd_but (s : State) (a1 : GSol) (a2 : List Nat) (a3 : Bool) (a4 : Int) (a5 : Nat) (k : List Part)
    (h : ∀ p ∈ [Part.out, .freeCtr, .rv, .cs, .flt, .txb, .dst, .mntl, .eth, .kiln, .gnss, .hop, .boot, .egr, .sess], p ∈ k) :
    (State.solveEnd s a1 a2 a3 a4 a5).but k = s.but k := by
  simp only [List.mem_cons, forall_eq_or_imp, List.not_mem_nil, false_implies, implies_true, and_true] at h
  simp [State.solveEnd, h]
@[simp] theorem State.solveBy_but (s : State) (a1 : GSol) (a2 : GPass) (a3 : List Nat) (a4 : Bool) (k : List Part) (h : ∀ p ∈
    [Part.out, .freeCtr, .rv, .cs, .flt, .txb, .dst, .mntl, .eth, .kiln, .gnss, .hop, .boot, .egr, .sess], p ∈ k) :
    (State.solveBy s a1 a2 a3 a4).but k = s.but k := by
  simp only [List.mem_cons, forall_eq_or_imp, List.not_mem_nil, false_implies, implies_true, and_true] at h
  simp [State.solveBy, h]
@[simp] theorem State.solve_but (s : State) (a1 : GSol) (k : List Part) (h : ∀ p ∈ [Part.out, .freeCtr, .rv, .cs, .flt, .txb,
    .dst, .mntl, .eth, .kiln, .gnss, .hop, .boot, .egr, .sess], p ∈ k) :
    (State.solve s a1).but k = s.but k := by
  simp only [List.mem_cons, forall_eq_or_imp, List.not_mem_nil, false_implies, implies_true, and_true] at h
  simp only [State.solve]
  repeat' (first | (simp [h]; done) | split)
@[simp] theorem State.testResult_but (s : State) (a1 : Nat) (a2 : Bool) (k : List Part) (h : ∀ p ∈ [Part.out, .freeCtr, .rv,
    .cs, .flt, .txb, .dst, .mntl, .eth, .kiln, .gnss, .hop, .boot, .egr, .sess], p ∈ k) :
    (State.testResult s a1 a2).but k = s.but k := by
  simp only [List.mem_cons, forall_eq_or_imp, List.not_mem_nil, false_implies, implies_true, and_true] at h
  simp [State.testResult, h]
@[simp] theorem State.answer_but (s : State) (a1 : HcpReq) (a2 : Bool) (a3 : Nat) (a4 : Nat) (a5 : Status) (a6 : List Byte) (k
    : List Part) (h : ∀ p ∈ [Part.out, .rv, .egr], p ∈ k) :
    (State.answer s a1 a2 a3 a4 a5 a6).but k = s.but k := by
  simp only [List.mem_cons, forall_eq_or_imp, List.not_mem_nil, false_implies, implies_true, and_true] at h
  simp [State.answer, h]
@[simp] theorem State.hcpAuthFail_but (s : State) (a1 : HcpReq) (a2 : Nat) (k : List Part) (h : ∀ p ∈ [Part.out, .freeCtr,
    .rv, .cs, .flt, .txb, .dst, .mntl, .eth, .kiln, .gnss, .hcp, .hop, .boot, .egr, .sess], p ∈ k) :
    (State.hcpAuthFail s a1 a2).but k = s.but k := by
  simp only [List.mem_cons, forall_eq_or_imp, List.not_mem_nil, false_implies, implies_true, and_true] at h
  simp [State.hcpAuthFail, h]
@[simp] theorem State.respond_but (s : State) (a1 : HcpReq) (a2 : Nat) (a3 : Nat) (a4 : Session) (a5 : Bool) (a6 : Status) (a7
    : List Byte) (k : List Part) (h : ∀ p ∈ [Part.out, .rv, .egr, .sess], p ∈ k) :
    (State.respond s a1 a2 a3 a4 a5 a6 a7).but k = s.but k := by
  simp only [List.mem_cons, forall_eq_or_imp, List.not_mem_nil, false_implies, implies_true, and_true] at h
  simp [State.respond, h]
@[simp] theorem State.acceptSeq_but (s : State) (a1 : HcpReq) (a2 : Nat) (k : List Part) (h : ∀ p ∈ [Part.sess], p ∈ k) :
    (State.acceptSeq s a1 a2).but k = s.but k := by
  simp only [List.mem_cons, forall_eq_or_imp, List.not_mem_nil, false_implies, implies_true, and_true] at h
  simp [State.acceptSeq, h]
@[simp] theorem State.hcpIn_but (s : State) (a1 : HcpReq) (a2 : State → State) (k : List Part) (h : ∀ p ∈ [Part.rv, .hcp], p ∈
    k) (ha2 : ∀ x0, (a2 x0).but k = x0.but k) :
    (State.hcpIn s a1 a2).but k = s.but k := by
  simp only [List.mem_cons, forall_eq_or_imp, List.not_mem_nil, false_implies, implies_true, and_true] at h
  simp [State.hcpIn, h, ha2]
@[simp] theorem State.openSess_but (s : State) (a1 : HcpReq) (k : List Part) (h : ∀ p ∈ [Part.rv, .hcp, .sess], p ∈ k) :
    (State.openSess s a1).state.but k = s.but k := by
  simp only [List.mem_cons, forall_eq_or_imp, List.not_mem_nil, false_implies, implies_true, and_true] at h
  simp only [State.openSess]
  repeat' (first | (simp [h]; done) | split)
@[simp] theorem State.hopRest_but (s : State) (a1 : Nat) (a2 : Option Nat) (k : List Part) (h : ∀ p ∈ [Part.out, .freeCtr,
    .rv, .cs, .flt, .txb, .dst, .mntl, .eth, .kiln, .gnss, .hop, .boot, .egr, .sess], p ∈ k) :
    (State.hopRest s a1 a2).but k = s.but k := by
  simp only [List.mem_cons, forall_eq_or_imp, List.not_mem_nil, false_implies, implies_true, and_true] at h
  unfold State.hopRest
  repeat' (first | (simp [h]; done) | split)
@[simp] theorem State.hopSurf_but (s : State) (a1 : HopCh) (a2 : Bool) (k : List Part) (h : ∀ p ∈ [Part.cask], p ∈ k) :
    (State.hopSurf s a1 a2).but k = s.but k := by
  simp only [List.mem_cons, forall_eq_or_imp, List.not_mem_nil, false_implies, implies_true, and_true] at h
  simp [State.hopSurf, h]
@[simp] theorem State.hopFeed_but (s : State) (a1 : Nat) (a2 : HopCh) (k : List Part) (h : ∀ p ∈ [Part.rv, .hop], p ∈ k) :
    (State.hopFeed s a1 a2).but k = s.but k := by
  simp only [List.mem_cons, forall_eq_or_imp, List.not_mem_nil, false_implies, implies_true, and_true] at h
  simp [State.hopFeed, h]
@[simp] theorem State.hopErr_but (s : State) (a1 : Nat) (a2 : HopCh) (a3 : Nat) (a4 : Nat) (a5 : BeatRes) (k : List Part) (h :
    ∀ p ∈ [Part.rv, .hop], p ∈ k) :
    (State.hopErr s a1 a2 a3 a4 a5).but k = s.but k := by
  simp only [List.mem_cons, forall_eq_or_imp, List.not_mem_nil, false_implies, implies_true, and_true] at h
  simp [State.hopErr, h]
@[simp] theorem State.relaySend_but (s : State) (a1 : Nat) (a2 : Nat) (a3 : Nat) (a4 : Nat) (a5 : Nat) (a6 : List Byte) (k :
    List Part) (h : ∀ p ∈ [Part.out, .rv, .txb], p ∈ k) :
    (State.relaySend s a1 a2 a3 a4 a5 a6).but k = s.but k := by
  simp only [List.mem_cons, forall_eq_or_imp, List.not_mem_nil, false_implies, implies_true, and_true] at h
  simp [State.relaySend, h]
@[simp] theorem State.offerOn_but (s : State) (a1 : Nat) (a2 : List Nat) (k : List Part) (h : ∀ p ∈ [Part.out, .rv, .txb], p ∈
    k) :
    (State.offerOn s a1 a2).but k = s.but k := by
  simp only [List.mem_cons, forall_eq_or_imp, List.not_mem_nil, false_implies, implies_true, and_true] at h
  simp [State.offerOn, h]
@[simp] theorem State.relayIn_but (s : State) (a1 : Nat) (a2 : RxCell) (a3 : Nat) (a4 : State → RelayIn → State) (k : List
    Part) (h : ∀ p ∈ [Part.out, .freeCtr, .rv, .cs, .flt, .bnd, .txb, .cell, .dst, .mntl, .eth, .kiln, .gnss, .hop, .boot,
    .egr, .sess], p ∈ k) (ha4 : ∀ x0 x1, (a4 x0 x1).but k = x0.but k) :
    (State.relayIn s a1 a2 a3 a4).but k = s.but k := by
  simp only [List.mem_cons, forall_eq_or_imp, List.not_mem_nil, false_implies, implies_true, and_true] at h
  simp [State.relayIn, h, ha4]
@[simp] theorem State.relayPump_but (s : State) (a1 : Nat) (a2 : Nat) (a3 : Nat) (k : List Part) (h : ∀ p ∈ [Part.out, .rv,
    .txb, .boot], p ∈ k) :
    (State.relayPump s a1 a2 a3).but k = s.but k := by
  simp only [List.mem_cons, forall_eq_or_imp, List.not_mem_nil, false_implies, implies_true, and_true] at h
  induction a3 generalizing s with
  | zero => rfl
  | succ n ih =>
    simp only [State.relayPump]
    split <;> simp [h, ih]
@[simp] theorem State.relayEnds_but (s : State) (a1 : Nat) (k : List Part) (h : ∀ p ∈ [Part.boot], p ∈ k) :
    (State.relayEnds s a1).but k = s.but k := by
  simp only [List.mem_cons, forall_eq_or_imp, List.not_mem_nil, false_implies, implies_true, and_true] at h
  simp [State.relayEnds, h]
@[simp] theorem State.pulseIn_but (s : State) (a1 : Nat) (a2 : Nat) (a3 : Int) (k : List Part) (h : ∀ p ∈ [Part.out, .freeCtr,
    .rv, .cs, .flt, .txb, .dst, .mntl, .eth, .kiln, .gnss, .hop, .boot, .egr, .sess], p ∈ k) :
    (State.pulseIn s a1 a2 a3).but k = s.but k := by
  simp only [List.mem_cons, forall_eq_or_imp, List.not_mem_nil, false_implies, implies_true, and_true] at h
  simp [State.pulseIn, h]
@[simp] theorem State.freqFault_but (s : State) (a1 : Nat) (a2 : Bool) (k : List Part) (h : ∀ p ∈ [Part.out, .freeCtr, .rv,
    .cs, .flt, .txb, .dst, .mntl, .eth, .kiln, .gnss, .hop, .boot, .egr, .sess], p ∈ k) :
    (State.freqFault s a1 a2).but k = s.but k := by
  simp only [List.mem_cons, forall_eq_or_imp, List.not_mem_nil, false_implies, implies_true, and_true] at h
  simp [State.freqFault, h]
@[simp] theorem State.addError_but (s : State) (a1 : Nat) (k : List Part) (h : ∀ p ∈ [Part.kiln], p ∈ k) :
    (State.addError s a1).but k = s.but k := by
  simp only [List.mem_cons, forall_eq_or_imp, List.not_mem_nil, false_implies, implies_true, and_true] at h
  simp [State.addError, h]
@[simp] theorem State.oscLost_but (s : State) (k : List Part) (h : ∀ p ∈ [Part.out, .freeCtr, .rv, .cs, .flt, .txb, .dst,
    .mntl, .eth, .kiln, .gnss, .hop, .boot, .egr, .sess], p ∈ k) :
    (State.oscLost s).but k = s.but k := by
  simp only [List.mem_cons, forall_eq_or_imp, List.not_mem_nil, false_implies, implies_true, and_true] at h
  simp [State.oscLost, h]
@[simp] theorem State.fitModel_but (s : State) (k : List Part) (h : ∀ p ∈ [Part.freeCtr, .rv], p ∈ k) :
    (State.fitModel s).but k = s.but k := by
  simp only [List.mem_cons, forall_eq_or_imp, List.not_mem_nil, false_implies, implies_true, and_true] at h
  simp [State.fitModel, h]
@[simp] theorem State.toutStep_but (s : State) (a1 : Nat) (a2 : Nat) (a3 : Nat) (k : List Part) (h : ∀ p ∈ [Part.kiln], p ∈ k)
    :
    (State.toutStep s a1 a2 a3).but k = s.but k := by
  simp only [List.mem_cons, forall_eq_or_imp, List.not_mem_nil, false_implies, implies_true, and_true] at h
  simp [State.toutStep, h]
@[simp] theorem State.setLane_but (s : State) (a1 : Nat) (a2 : Nat) (a3 : Bool) (k : List Part) (h : ∀ p ∈ [Part.rv], p ∈ k) :
    (State.setLane s a1 a2 a3).but k = s.but k := by
  simp only [List.mem_cons, forall_eq_or_imp, List.not_mem_nil, false_implies, implies_true, and_true] at h
  simp [State.setLane, h]
@[simp] theorem State.linkDown_but (s : State) (a1 : Nat) (k : List Part) (h : ∀ p ∈ [Part.out, .freeCtr, .rv, .cs, .flt,
    .bnd, .txb, .cell, .dst, .mntl, .eth, .kiln, .gnss, .hop, .boot, .egr, .sess], p ∈ k) :
    (State.linkDown s a1).but k = s.but k := by
  simp only [List.mem_cons, forall_eq_or_imp, List.not_mem_nil, false_implies, implies_true, and_true] at h
  simp [State.linkDown, h]
@[simp] theorem State.clearSeen_but (s : State) (a1 : Nat) (k : List Part) (h : ∀ p ∈ [Part.rv], p ∈ k) :
    (State.clearSeen s a1).but k = s.but k := by
  simp only [List.mem_cons, forall_eq_or_imp, List.not_mem_nil, false_implies, implies_true, and_true] at h
  simp [State.clearSeen, h]
@[simp] theorem State.laneFail_but (s : State) (a1 : Nat) (a2 : Nat) (k : List Part) (h : ∀ p ∈ [Part.out, .freeCtr, .rv, .cs,
    .flt, .bnd, .txb, .cell, .dst, .mntl, .eth, .kiln, .gnss, .hop, .boot, .egr, .sess], p ∈ k) :
    (State.laneFail s a1 a2).but k = s.but k := by
  simp only [List.mem_cons, forall_eq_or_imp, List.not_mem_nil, false_implies, implies_true, and_true] at h
  simp [State.laneFail, h]
@[simp] theorem State.unfail_but (s : State) (a1 : Nat) (k : List Part) (h : ∀ p ∈ [Part.rv], p ∈ k) :
    (State.unfail s a1).but k = s.but k := by
  simp only [List.mem_cons, forall_eq_or_imp, List.not_mem_nil, false_implies, implies_true, and_true] at h
  simp [State.unfail, h]
@[simp] theorem State.wordIn_but (s : State) (a1 : Nat) (a2 : Nat) (a3 : Nat) (a4 : RxWord) (k : List Part) (h : ∀ p ∈
    [Part.rv, .bnd, .txb], p ∈ k) :
    (State.wordIn s a1 a2 a3 a4).2.but k = s.but k := by
  simp only [List.mem_cons, forall_eq_or_imp, List.not_mem_nil, false_implies, implies_true, and_true] at h
  unfold State.wordIn
  repeat' (first | (simp [h]; done) | split)
@[simp] theorem State.wordCheck_but (s : State) (a1 : Nat) (a2 : Nat) (a3 : List Byte) (k : List Part) (h : ∀ p ∈ [Part.out,
    .freeCtr, .rv, .cs, .flt, .bnd, .txb, .cell, .dst, .mntl, .eth, .kiln, .gnss, .hop, .boot, .egr, .sess], p ∈ k) :
    (State.wordCheck s a1 a2 a3).2.but k = s.but k := by
  simp only [List.mem_cons, forall_eq_or_imp, List.not_mem_nil, false_implies, implies_true, and_true] at h
  simp [State.wordCheck, h]
@[simp] theorem State.newPeriod_but (s : State) (a1 : Nat) (a2 : Nat) (k : List Part) (h : ∀ p ∈ [Part.bnd], p ∈ k) :
    (State.newPeriod s a1 a2).but k = s.but k := by
  simp only [List.mem_cons, forall_eq_or_imp, List.not_mem_nil, false_implies, implies_true, and_true] at h
  simp [State.newPeriod, h]
@[simp] theorem State.endPeriod_but (s : State) (a1 : Nat) (a2 : Nat) (k : List Part) (h : ∀ p ∈ [Part.out, .freeCtr, .rv,
    .cs, .flt, .bnd, .txb, .cell, .dst, .mntl, .eth, .kiln, .gnss, .hop, .boot, .egr, .sess], p ∈ k) :
    (State.endPeriod s a1 a2).but k = s.but k := by
  simp only [List.mem_cons, forall_eq_or_imp, List.not_mem_nil, false_implies, implies_true, and_true] at h
  simp [State.endPeriod, h]
@[simp] theorem State.markerMiss_but (s : State) (a1 : Nat) (a2 : Nat) (k : List Part) (h : ∀ p ∈ [Part.out, .freeCtr, .rv,
    .cs, .flt, .bnd, .txb, .cell, .dst, .mntl, .eth, .kiln, .gnss, .hop, .boot, .egr, .sess], p ∈ k) :
    (State.markerMiss s a1 a2).but k = s.but k := by
  simp only [List.mem_cons, forall_eq_or_imp, List.not_mem_nil, false_implies, implies_true, and_true] at h
  simp [State.markerMiss, h]
@[simp] theorem State.takeMode_but (s : State) (a1 : Nat) (a2 : Nat) (k : List Part) (h : ∀ p ∈ [Part.out, .freeCtr, .rv, .cs,
    .flt, .bnd, .txb, .dst, .mntl, .eth, .kiln, .gnss, .hop, .boot, .egr, .sess], p ∈ k) :
    (State.takeMode s a1 a2).but k = s.but k := by
  simp only [List.mem_cons, forall_eq_or_imp, List.not_mem_nil, false_implies, implies_true, and_true] at h
  simp [State.takeMode, h]
@[simp] theorem State.takeMap_but (s : State) (a1 : Nat) (a2 : Nat) (a3 : Nat) (k : List Part) (h : ∀ p ∈ [Part.rv, .bnd,
    .txb], p ∈ k) :
    (State.takeMap s a1 a2 a3).but k = s.but k := by
  simp only [List.mem_cons, forall_eq_or_imp, List.not_mem_nil, false_implies, implies_true, and_true] at h
  simp only [State.takeMap]
  repeat' (first | (simp [h]; done) | split)
@[simp] theorem State.trainMarker_but (s : State) (a1 : Nat) (a2 : Nat) (a3 : Bool) (a4 : Nat) (k : List Part) (h : ∀ p ∈
    [Part.bnd], p ∈ k) :
    (State.trainMarker s a1 a2 a3 a4).but k = s.but k := by
  simp only [List.mem_cons, forall_eq_or_imp, List.not_mem_nil, false_implies, implies_true, and_true] at h
  simp [State.trainMarker, h]
@[simp] theorem State.goodMarker_but (s : State) (a1 : Nat) (a2 : Nat) (a3 : Nat) (a4 : Nat) (k : List Part) (h : ∀ p ∈
    [Part.out, .freeCtr, .rv, .cs, .flt, .bnd, .txb, .dst, .mntl, .eth, .kiln, .gnss, .hop, .boot, .egr, .sess], p ∈ k) :
    (State.goodMarker s a1 a2 a3 a4).but k = s.but k := by
  simp only [List.mem_cons, forall_eq_or_imp, List.not_mem_nil, false_implies, implies_true, and_true] at h
  simp [State.goodMarker, h]
@[simp] theorem State.rxIdle_but (s : State) (a1 : Nat) (a2 : Nat) (a3 : Nat) (a4 : RxWord) (k : List Part) (h : ∀ p ∈
    [Part.out, .freeCtr, .rv, .cs, .flt, .bnd, .txb, .cell, .dst, .mntl, .eth, .kiln, .gnss, .hop, .boot, .egr, .sess], p ∈ k)
    :
    (State.rxIdle s a1 a2 a3 a4).but k = s.but k := by
  simp only [List.mem_cons, forall_eq_or_imp, List.not_mem_nil, false_implies, implies_true, and_true] at h
  simp only [State.rxIdle]
  repeat' (first | (simp [h]; done) | split)
@[simp] theorem State.clockFault_but (s : State) (a1 : Nat) (a2 : Bool) (k : List Part) (h : ∀ p ∈ [Part.out, .freeCtr, .rv,
    .cs, .flt, .bnd, .txb, .cell, .dst, .mntl, .eth, .kiln, .gnss, .hop, .boot, .egr, .sess], p ∈ k) :
    (State.clockFault s a1 a2).but k = s.but k := by
  simp only [List.mem_cons, forall_eq_or_imp, List.not_mem_nil, false_implies, implies_true, and_true] at h
  simp [State.clockFault, h]
@[simp] theorem State.prbsRun_but (s : State) (a1 : Nat) (a2 : Nat) (a3 : List Bool) (k : List Part) (h : ∀ p ∈ [Part.out,
    .rv, .bnd, .txb], p ∈ k) :
    (State.prbsRun s a1 a2 a3).but k = s.but k := by
  simp only [List.mem_cons, forall_eq_or_imp, List.not_mem_nil, false_implies, implies_true, and_true] at h
  simp [State.prbsRun, h]
@[simp] theorem State.resetMain_but (s : State) (k : List Part) (h : ∀ p ∈ [Part.rv, .staged, .held, .cs, .mem, .flt, .bnd,
    .txb, .cell, .src, .dst, .cask, .head, .bound, .mntl, .mash, .aprt, .eth, .tsvc, .hcp, .hop, .boot, .pwr, .latch, .parked,
    .mirror, .egr], p ∈ k) :
    (State.resetMain s).but k = s.but k := by
  simp only [List.mem_cons, forall_eq_or_imp, List.not_mem_nil, false_implies, implies_true, and_true] at h
  obtain ⟨h0, h1, h2, h3, h4, h5, h6, h7, h8, h9, h10, h11, h12, h13, h14, h15, h16, h17, h18, h19, h20, h21, h22, h23, h24, h25, h26⟩ := h
  simp only [State.but, State.resetMain, if_pos h0, if_pos h1, if_pos h2, if_pos h3, if_pos h4, if_pos h5, if_pos h6, if_pos h7, if_pos h8, if_pos h9, if_pos h10, if_pos h11, if_pos h12, if_pos h13, if_pos h14, if_pos h15, if_pos h16, if_pos h17, if_pos h18, if_pos h19, if_pos h20, if_pos h21, if_pos h22, if_pos h23, if_pos h24, if_pos h25, if_pos h26, ite_self]
@[simp] theorem State.refsLost_but (s : State) (k : List Part) (h : ∀ p ∈ [Part.out, .freeCtr, .rv, .cs, .flt, .txb, .dst,
    .mntl, .eth, .kiln, .gnss, .hop, .boot, .egr, .sess], p ∈ k) :
    (State.refsLost s).but k = s.but k := by
  simp only [List.mem_cons, forall_eq_or_imp, List.not_mem_nil, false_implies, implies_true, and_true] at h
  simp [State.refsLost, h]
@[simp] theorem State.beginStart_but (s : State) (a1 : Nat) (a2 : Bool) (k : List Part) (h : ∀ p ∈ [Part.out, .freeCtr, .iso,
    .rv, .staged, .held, .cs, .mem, .flt, .bnd, .txb, .cell, .src, .dst, .cask, .head, .bound, .mntl, .mash, .aprt, .eth,
    .kiln, .gnss, .tsvc, .hcp, .hop, .boot, .pwr, .latch, .parked, .mirror, .egr, .sess], p ∈ k) :
    (State.beginStart s a1 a2).but k = s.but k := by
  simp only [List.mem_cons, forall_eq_or_imp, List.not_mem_nil, false_implies, implies_true, and_true] at h
  simp [State.beginStart, h]
@[simp] theorem State.restart_but (s : State) (k : List Part) (h : ∀ p ∈ [Part.out, .freeCtr, .iso, .rv, .staged, .held, .cs,
    .mem, .flt, .bnd, .txb, .cell, .src, .dst, .cask, .head, .bound, .mntl, .mash, .aprt, .eth, .kiln, .gnss, .tsvc, .hcp,
    .hop, .boot, .pwr, .latch, .parked, .mirror, .egr, .sess], p ∈ k) :
    (State.restart s).but k = s.but k := by
  simp only [List.mem_cons, forall_eq_or_imp, List.not_mem_nil, false_implies, implies_true, and_true] at h
  simp [State.restart, h]
@[simp] theorem State.restartIfDue_but (s : State) (k : List Part) (h : ∀ p ∈ [Part.out, .freeCtr, .iso, .rv, .staged, .held,
    .cs, .mem, .flt, .bnd, .txb, .cell, .src, .dst, .cask, .head, .bound, .mntl, .mash, .aprt, .eth, .kiln, .gnss, .tsvc,
    .hcp, .hop, .boot, .pwr, .latch, .parked, .mirror, .egr, .sess], p ∈ k) :
    (State.restartIfDue s).but k = s.but k := by
  simp only [List.mem_cons, forall_eq_or_imp, List.not_mem_nil, false_implies, implies_true, and_true] at h
  simp [State.restartIfDue, h]
@[simp] theorem State.leaveCellar_but (s : State) (a1 : Bool) (k : List Part) (h : ∀ p ∈ [Part.out, .freeCtr, .iso, .rv,
    .staged, .held, .cs, .mem, .flt, .bnd, .txb, .cell, .src, .dst, .cask, .head, .bound, .mntl, .mash, .aprt, .eth, .kiln,
    .gnss, .tsvc, .hcp, .hop, .boot, .pwr, .latch, .parked, .mirror, .egr, .sess], p ∈ k) :
    (State.leaveCellar s a1).but k = s.but k := by
  simp only [List.mem_cons, forall_eq_or_imp, List.not_mem_nil, false_implies, implies_true, and_true] at h
  simp [State.leaveCellar, h]
@[simp] theorem State.toggleLease_but (s : State) (k : List Part) (h : ∀ p ∈ [Part.out, .mntl], p ∈ k) :
    (State.toggleLease s).but k = s.but k := by
  simp only [List.mem_cons, forall_eq_or_imp, List.not_mem_nil, false_implies, implies_true, and_true] at h
  simp [State.toggleLease, h]
@[simp] theorem State.sendRenew_but (s : State) (k : List Part) (h : ∀ p ∈ [Part.out, .rv, .txb, .mntl], p ∈ k) :
    (State.sendRenew s).but k = s.but k := by
  simp only [List.mem_cons, forall_eq_or_imp, List.not_mem_nil, false_implies, implies_true, and_true] at h
  simp [State.sendRenew, h]
@[simp] theorem State.becomeStandby_but (s : State) (k : List Part) (h : ∀ p ∈ [Part.out, .freeCtr, .rv, .cs, .flt, .txb,
    .dst, .mntl, .eth, .kiln, .gnss, .hop, .boot, .egr, .sess], p ∈ k) :
    (State.becomeStandby s).but k = s.but k := by
  simp only [List.mem_cons, forall_eq_or_imp, List.not_mem_nil, false_implies, implies_true, and_true] at h
  simp [State.becomeStandby, h]
@[simp] theorem State.becomeHolder_but (s : State) (a1 : Nat) (k : List Part) (h : ∀ p ∈ [Part.out, .freeCtr, .rv, .cs, .flt,
    .txb, .dst, .mntl, .eth, .kiln, .gnss, .hop, .boot, .egr, .sess], p ∈ k) :
    (State.becomeHolder s a1).but k = s.but k := by
  simp only [List.mem_cons, forall_eq_or_imp, List.not_mem_nil, false_implies, implies_true, and_true] at h
  simp [State.becomeHolder, h]
@[simp] theorem State.claim_but (s : State) (k : List Part) (h : ∀ p ∈ [Part.out, .freeCtr, .rv, .cs, .flt, .txb, .dst, .mntl,
    .eth, .kiln, .gnss, .hop, .boot, .egr, .sess], p ∈ k) :
    (State.claim s).but k = s.but k := by
  simp only [List.mem_cons, forall_eq_or_imp, List.not_mem_nil, false_implies, implies_true, and_true] at h
  simp [State.claim, h]
@[simp] theorem State.mantleIn_but (s : State) (a1 : RxCell) (a2 : Nat) (a3 : State → MantleIn → State) (k : List Part) (h : ∀
    p ∈ [Part.out, .freeCtr, .rv, .cs, .flt, .bnd, .txb, .cell, .dst, .mntl, .eth, .kiln, .gnss, .hop, .boot, .egr, .sess], p
    ∈ k) (ha3 : ∀ x0 x1, (a3 x0 x1).but k = x0.but k) :
    (State.mantleIn s a1 a2 a3).but k = s.but k := by
  simp only [List.mem_cons, forall_eq_or_imp, List.not_mem_nil, false_implies, implies_true, and_true] at h
  simp [State.mantleIn, h, ha3]
@[simp] theorem State.seeRenewal_but (s : State) (a1 : Nat) (k : List Part) (h : ∀ p ∈ [Part.out, .freeCtr, .rv, .cs, .flt,
    .txb, .dst, .mntl, .eth, .kiln, .gnss, .hop, .boot, .egr, .sess], p ∈ k) :
    (State.seeRenewal s a1).but k = s.but k := by
  simp only [List.mem_cons, forall_eq_or_imp, List.not_mem_nil, false_implies, implies_true, and_true] at h
  simp [State.seeRenewal, h]
@[simp] theorem State.confirm_but (s : State) (k : List Part) (h : ∀ p ∈ [Part.mntl], p ∈ k) :
    (State.confirm s).but k = s.but k := by
  simp only [List.mem_cons, forall_eq_or_imp, List.not_mem_nil, false_implies, implies_true, and_true] at h
  simp [State.confirm, h]
@[simp] theorem State.setPref_but (s : State) (a1 : Bool) (k : List Part) (h : ∀ p ∈ [Part.rv], p ∈ k) :
    (State.setPref s a1).but k = s.but k := by
  simp only [List.mem_cons, forall_eq_or_imp, List.not_mem_nil, false_implies, implies_true, and_true] at h
  simp [State.setPref, h]
@[simp] theorem State.timeCheck_but (s : State) (a1 : Int) (k : List Part) (h : ∀ p ∈ [Part.out, .freeCtr, .rv, .cs, .flt,
    .txb, .dst, .mntl, .eth, .kiln, .gnss, .hop, .boot, .egr, .sess], p ∈ k) :
    (State.timeCheck s a1).but k = s.but k := by
  simp only [List.mem_cons, forall_eq_or_imp, List.not_mem_nil, false_implies, implies_true, and_true] at h
  simp [State.timeCheck, h]
@[simp] theorem State.sigCompare_but (s : State) (a1 : SigEntry) (a2 : SigEntry) (k : List Part) (h : ∀ p ∈ [Part.out,
    .freeCtr, .rv, .cs, .flt, .txb, .dst, .mntl, .eth, .kiln, .gnss, .hop, .boot, .egr, .sess], p ∈ k) :
    (State.sigCompare s a1 a2).but k = s.but k := by
  simp only [List.mem_cons, forall_eq_or_imp, List.not_mem_nil, false_implies, implies_true, and_true] at h
  simp [State.sigCompare, h]
@[simp] theorem State.followStep_but (s : State) (a1 : Nat) (a2 : Nat) (k : List Part) (h : ∀ p ∈ [Part.follow], p ∈ k) :
    (State.followStep s a1 a2).but k = s.but k := by
  simp only [List.mem_cons, forall_eq_or_imp, List.not_mem_nil, false_implies, implies_true, and_true] at h
  simp [State.followStep, h]
@[simp] theorem State.slipRead_but (s : State) (a1 : Nat) (a2 : Nat) (a3 : Nat) (a4 : Nat) (a5 : Nat) (k : List Part) (h : ∀ p
    ∈ [Part.out, .freeCtr, .rv, .cs, .flt, .txb, .dst, .mntl, .mash, .eth, .kiln, .gnss, .hop, .boot, .egr, .sess], p ∈ k) :
    (State.slipRead s a1 a2 a3 a4 a5).2.but k = s.but k := by
  simp only [List.mem_cons, forall_eq_or_imp, List.not_mem_nil, false_implies, implies_true, and_true] at h
  simp [State.slipRead, h]
@[simp] theorem State.putRoute_but (s : State) (a1 : Nat) (a2 : TapS) (k : List Part) (h : ∀ p ∈ [Part.mash], p ∈ k) :
    (State.putRoute s a1 a2).but k = s.but k := by
  simp only [List.mem_cons, forall_eq_or_imp, List.not_mem_nil, false_implies, implies_true, and_true] at h
  simp [State.putRoute, h]
@[simp] theorem State.putEntry_but (s : State) (a1 : Nat) (a2 : TapS) (k : List Part) (h : ∀ p ∈ [Part.mash], p ∈ k) :
    (State.putEntry s a1 a2).but k = s.but k := by
  simp only [List.mem_cons, forall_eq_or_imp, List.not_mem_nil, false_implies, implies_true, and_true] at h
  simp [State.putEntry, h]
@[simp] theorem State.putBus_but (s : State) (a1 : Nat) (a2 : BusS) (k : List Part) (h : ∀ p ∈ [Part.mash], p ∈ k) :
    (State.putBus s a1 a2).but k = s.but k := by
  simp only [List.mem_cons, forall_eq_or_imp, List.not_mem_nil, false_implies, implies_true, and_true] at h
  simp [State.putBus, h]
@[simp] theorem State.faderSwap_but (s : State) (a1 : Nat) (a2 : Nat) (a3 : Nat) (k : List Part) (h : ∀ p ∈ [Part.mash], p ∈
    k) :
    (State.faderSwap s a1 a2 a3).but k = s.but k := by
  simp only [List.mem_cons, forall_eq_or_imp, List.not_mem_nil, false_implies, implies_true, and_true] at h
  simp [State.faderSwap, h]
@[simp] theorem State.swapDiff_but (s : State) (a1 : State) (a2 : Nat) (a3 : Nat) (a4 : List CsItem) (k : List Part) (h : ∀ p
    ∈ [Part.mash], p ∈ k) :
    (State.swapDiff s a1 a2 a3 a4).but k = s.but k := by
  simp only [List.mem_cons, forall_eq_or_imp, List.not_mem_nil, false_implies, implies_true, and_true] at h
  simp [State.swapDiff, h]
@[simp] theorem State.engStep_but (s : State) (a1 : Nat) (a2 : Nat) (k : List Part) (h : ∀ p ∈ [Part.out, .rv, .staged, .cs,
    .mash, .egr, .sess], p ∈ k) :
    (State.engStep s a1 a2).but k = s.but k := by
  simp only [List.mem_cons, forall_eq_or_imp, List.not_mem_nil, false_implies, implies_true, and_true] at h
  simp [State.engStep, h]
@[simp] theorem State.stepTap_but (s : State) (a1 : Nat) (a2 : TapS) (a3 : Int) (a4 : Int) (k : List Part) (h : ∀ p ∈
    [Part.rv], p ∈ k) :
    (State.stepTap s a1 a2 a3 a4).2.but k = s.but k := by
  simp only [List.mem_cons, forall_eq_or_imp, List.not_mem_nil, false_implies, implies_true, and_true] at h
  simp [State.stepTap, h]
@[simp] theorem State.entryStep_but (s : State) (a1 : Nat) (a2 : Nat) (a3 : Nat) (k : List Part) (h : ∀ p ∈ [Part.out,
    .freeCtr, .rv, .cs, .flt, .txb, .dst, .mntl, .mash, .eth, .kiln, .gnss, .hop, .boot, .egr, .sess], p ∈ k) :
    (State.entryStep s a1 a2 a3).2.but k = s.but k := by
  simp only [List.mem_cons, forall_eq_or_imp, List.not_mem_nil, false_implies, implies_true, and_true] at h
  simp [State.entryStep, h]
@[simp] theorem State.dynamics_but (s : State) (a1 : Nat) (a2 : Nat) (a3 : Int) (k : List Part) (h : ∀ p ∈ [Part.rv, .mash], p
    ∈ k) :
    (State.dynamics s a1 a2 a3).2.but k = s.but k := by
  simp only [List.mem_cons, forall_eq_or_imp, List.not_mem_nil, false_implies, implies_true, and_true] at h
  simp [State.dynamics, h]
@[simp] theorem State.toSample_but (s : State) (a1 : Int) (k : List Part) (h : ∀ p ∈ [Part.out, .freeCtr, .rv, .cs, .flt,
    .txb, .dst, .mntl, .eth, .kiln, .gnss, .hop, .boot, .egr, .sess], p ∈ k) :
    (State.toSample s a1).2.but k = s.but k := by
  simp only [List.mem_cons, forall_eq_or_imp, List.not_mem_nil, false_implies, implies_true, and_true] at h
  simp [State.toSample, h]
@[simp] theorem State.busSum_but (s : State) (a1 : Nat) (a2 : Nat) (a3 : List Nat) (k : List Part) (h : ∀ p ∈ [Part.out,
    .freeCtr, .rv, .cs, .flt, .txb, .dst, .mntl, .mash, .eth, .kiln, .gnss, .hop, .boot, .egr, .sess], p ∈ k) :
    (State.busSum s a1 a2 a3).2.but k = s.but k := by
  simp only [List.mem_cons, forall_eq_or_imp, List.not_mem_nil, false_implies, implies_true, and_true] at h
  unfold State.busSum
  dsimp only
  repeat' (first | (simp [h]; done) | (refine (State.each_but _ _ _ _ ?_).trans ?_) | (refine (foldl_but _ _ ?_ _ _).trans ?_) | (refine (foldl_but_snd _ _ ?_ _ _).trans ?_) | (intro _ _) | split | (dsimp only))
@[simp] theorem State.busFade_but (s : State) (a1 : Nat) (a2 : Nat) (k : List Part) (h : ∀ p ∈ [Part.rv, .mash], p ∈ k) :
    (State.busFade s a1 a2).2.but k = s.but k := by
  simp only [List.mem_cons, forall_eq_or_imp, List.not_mem_nil, false_implies, implies_true, and_true] at h
  simp [State.busFade, h]
@[simp] theorem State.busSend_but (s : State) (a1 : Nat) (a2 : Int) (k : List Part) (h : ∀ p ∈ [Part.out, .freeCtr, .rv, .cs,
    .flt, .txb, .dst, .mntl, .mash, .eth, .kiln, .gnss, .hop, .boot, .egr, .sess], p ∈ k) :
    (State.busSend s a1 a2).but k = s.but k := by
  simp only [List.mem_cons, forall_eq_or_imp, List.not_mem_nil, false_implies, implies_true, and_true] at h
  simp [State.busSend, h]
@[simp] theorem State.busStep_but (s : State) (a1 : Nat) (a2 : Nat) (a3 : List Nat) (k : List Part) (h : ∀ p ∈ [Part.out,
    .freeCtr, .rv, .cs, .flt, .txb, .dst, .mntl, .mash, .eth, .kiln, .gnss, .hop, .boot, .egr, .sess], p ∈ k) :
    (State.busStep s a1 a2 a3).but k = s.but k := by
  simp only [List.mem_cons, forall_eq_or_imp, List.not_mem_nil, false_implies, implies_true, and_true] at h
  simp [State.busStep, h]
@[simp] theorem State.busesStep_but (s : State) (a1 : Nat) (k : List Part) (h : ∀ p ∈ [Part.out, .freeCtr, .rv, .cs, .flt,
    .txb, .dst, .mntl, .mash, .eth, .kiln, .gnss, .hop, .boot, .egr, .sess], p ∈ k) :
    (State.busesStep s a1).but k = s.but k := by
  simp only [List.mem_cons, forall_eq_or_imp, List.not_mem_nil, false_implies, implies_true, and_true] at h
  simp [State.busesStep, h]
@[simp] theorem State.routeStep_but (s : State) (a1 : Nat) (a2 : Nat) (k : List Part) (h : ∀ p ∈ [Part.out, .freeCtr, .rv,
    .cs, .flt, .txb, .dst, .mntl, .mash, .eth, .kiln, .gnss, .hop, .boot, .egr, .sess], p ∈ k) :
    (State.routeStep s a1 a2).but k = s.but k := by
  simp only [List.mem_cons, forall_eq_or_imp, List.not_mem_nil, false_implies, implies_true, and_true] at h
  simp only [State.routeStep]
  repeat' (first | (simp [h]; done) | split)
@[simp] theorem State.crossLost_but (s : State) (k : List Part) (h : ∀ p ∈ [Part.aprt], p ∈ k) :
    (State.crossLost s).but k = s.but k := by
  simp only [List.mem_cons, forall_eq_or_imp, List.not_mem_nil, false_implies, implies_true, and_true] at h
  simp [State.crossLost, h]
@[simp] theorem State.txMedia_but (s : State) (a1 : Nat) (a2 : Nat) (a3 : List Byte) (k : List Part) (h : ∀ p ∈ [Part.out,
    .rv, .egr], p ∈ k) :
    (State.txMedia s a1 a2 a3).but k = s.but k := by
  simp only [List.mem_cons, forall_eq_or_imp, List.not_mem_nil, false_implies, implies_true, and_true] at h
  simp [State.txMedia, h]
@[simp] theorem State.txPair_but (s : State) (a1 : Nat) (a2 : Nat) (a3 : List Byte) (k : List Part) (h : ∀ p ∈ [Part.out, .rv,
    .egr], p ∈ k) :
    (State.txPair s a1 a2 a3).but k = s.but k := by
  simp only [List.mem_cons, forall_eq_or_imp, List.not_mem_nil, false_implies, implies_true, and_true] at h
  simp [State.txPair, h]
@[simp] theorem State.sinks_but (s : State) (a1 : Nat) (k : List Part) (h : ∀ p ∈ [Part.out, .rv, .dst, .mash, .egr], p ∈ k) :
    (State.sinks s a1).but k = s.but k := by
  simp only [List.mem_cons, forall_eq_or_imp, List.not_mem_nil, false_implies, implies_true, and_true] at h
  simp [State.sinks, h]
@[simp] theorem State.evalLock_but (s : State) (a1 : Nat) (k : List Part) (h : ∀ p ∈ [Part.rv, .mash], p ∈ k) :
    (State.evalLock s a1).but k = s.but k := by
  simp only [List.mem_cons, forall_eq_or_imp, List.not_mem_nil, false_implies, implies_true, and_true] at h
  simp [State.evalLock, h]
@[simp] theorem State.audioPacket_but (s : State) (a1 : Nat) (a2 : Nat) (a3 : List Byte) (k : List Part) (h : ∀ p ∈ [Part.src,
    .mash], p ∈ k) :
    (State.audioPacket s a1 a2 a3).but k = s.but k := by
  simp only [List.mem_cons, forall_eq_or_imp, List.not_mem_nil, false_implies, implies_true, and_true] at h
  simp [State.audioPacket, h]
@[simp] theorem State.audioControl_but (s : State) (a1 : Nat) (a2 : Nat) (a3 : List Byte) (k : List Part) (h : ∀ p ∈
    [Part.out, .freeCtr, .rv, .cs, .flt, .txb, .dst, .mntl, .mash, .eth, .kiln, .gnss, .hop, .boot, .egr, .sess], p ∈ k) :
    (State.audioControl s a1 a2 a3).but k = s.but k := by
  simp only [List.mem_cons, forall_eq_or_imp, List.not_mem_nil, false_implies, implies_true, and_true] at h
  simp [State.audioControl, h]
@[simp] theorem State.ancStore_but (s : State) (a1 : Nat) (a2 : List Byte) (k : List Part) (h : ∀ p ∈ [Part.rv, .src], p ∈ k)
    :
    (State.ancStore s a1 a2).but k = s.but k := by
  simp only [List.mem_cons, forall_eq_or_imp, List.not_mem_nil, false_implies, implies_true, and_true] at h
  simp [State.ancStore, h]
@[simp] theorem State.ancPacket_but (s : State) (a1 : Nat) (a2 : List Byte) (k : List Part) (h : ∀ p ∈ [Part.out, .freeCtr,
    .rv, .cs, .flt, .txb, .src, .dst, .mntl, .mash, .eth, .kiln, .gnss, .hop, .boot, .egr, .sess], p ∈ k) :
    (State.ancPacket s a1 a2).but k = s.but k := by
  simp only [List.mem_cons, forall_eq_or_imp, List.not_mem_nil, false_implies, implies_true, and_true] at h
  unfold State.ancPacket
  repeat' (first | (simp [h]; done) | split)
@[simp] theorem State.ancCell_but (s : State) (a1 : Nat) (a2 : Hdr) (a3 : List Byte) (a4 : Bool) (k : List Part) (h : ∀ p ∈
    [Part.out, .freeCtr, .rv, .cs, .flt, .txb, .cell, .src, .dst, .mntl, .mash, .eth, .kiln, .gnss, .hop, .boot, .egr, .sess],
    p ∈ k) :
    (State.ancCell s a1 a2 a3 a4).but k = s.but k := by
  simp only [List.mem_cons, forall_eq_or_imp, List.not_mem_nil, false_implies, implies_true, and_true] at h
  simp [State.ancCell, h]
@[simp] theorem State.pushSample_but (s : State) (a1 : Nat) (a2 : Int) (k : List Part) (h : ∀ p ∈ [Part.mash], p ∈ k) :
    (State.pushSample s a1 a2).but k = s.but k := by
  simp only [List.mem_cons, forall_eq_or_imp, List.not_mem_nil, false_implies, implies_true, and_true] at h
  simp [State.pushSample, h]
@[simp] theorem State.poolLane_but (s : State) (a1 : Nat) (k : List Part) (h : ∀ p ∈ [Part.rv, .mash], p ∈ k) :
    (State.poolLane s a1).but k = s.but k := by
  simp only [List.mem_cons, forall_eq_or_imp, List.not_mem_nil, false_implies, implies_true, and_true] at h
  simp [State.poolLane, h]
@[simp] theorem State.poolPort_but (s : State) (a1 : Nat) (a2 : Nat) (k : List Part) (h : ∀ p ∈ [Part.rv, .mash, .aprt], p ∈
    k) :
    (State.poolPort s a1 a2).but k = s.but k := by
  simp only [List.mem_cons, forall_eq_or_imp, List.not_mem_nil, false_implies, implies_true, and_true] at h
  simp [State.poolPort, h]
@[simp] theorem State.poolStep_but (s : State) (a1 : Nat) (k : List Part) (h : ∀ p ∈ [Part.rv, .mash, .aprt], p ∈ k) :
    (State.poolStep s a1).but k = s.but k := by
  simp only [List.mem_cons, forall_eq_or_imp, List.not_mem_nil, false_implies, implies_true, and_true] at h
  unfold State.poolStep
  dsimp only
  repeat' (first | (simp [h]; done) | (refine (State.each_but _ _ _ _ ?_).trans ?_) | (refine (foldl_but _ _ ?_ _ _).trans ?_) | (refine (foldl_but_snd _ _ ?_ _ _).trans ?_) | (intro _ _) | split | (dsimp only))
@[simp] theorem State.feed_but (s : State) (a1 : Nat) (a2 : Nat) (a3 : List Int) (k : List Part) (h : ∀ p ∈ [Part.aprt], p ∈
    k) :
    (State.feed s a1 a2 a3).but k = s.but k := by
  simp only [List.mem_cons, forall_eq_or_imp, List.not_mem_nil, false_implies, implies_true, and_true] at h
  simp [State.feed, h]
@[simp] theorem State.feedCompanions_but (s : State) (k : List Part) (h : ∀ p ∈ [Part.aprt], p ∈ k) :
    (State.feedCompanions s).but k = s.but k := by
  simp only [List.mem_cons, forall_eq_or_imp, List.not_mem_nil, false_implies, implies_true, and_true] at h
  simp [State.feedCompanions, h]
@[simp] theorem State.portBoundary_but (s : State) (a1 : Nat) (k : List Part) (h : ∀ p ∈ [Part.out, .rv, .staged, .cs, .egr,
    .sess], p ∈ k) :
    (State.portBoundary s a1).but k = s.but k := by
  simp only [List.mem_cons, forall_eq_or_imp, List.not_mem_nil, false_implies, implies_true, and_true] at h
  simp [State.portBoundary, h]
@[simp] theorem State.portRx_but (s : State) (a1 : Nat) (a2 : List (BitVec 32)) (k : List Part) (h : ∀ p ∈ [Part.out,
    .freeCtr, .rv, .cs, .flt, .txb, .dst, .mntl, .mash, .aprt, .eth, .kiln, .gnss, .hop, .boot, .egr, .sess], p ∈ k) :
    (State.portRx s a1 a2).but k = s.but k := by
  simp only [List.mem_cons, forall_eq_or_imp, List.not_mem_nil, false_implies, implies_true, and_true] at h
  simp [State.portRx, h]
@[simp] theorem State.madiFrame_but (s : State) (a1 : Nat) (a2 : List Int) (k : List Part) (h : ∀ p ∈ [Part.out, .aprt], p ∈
    k) :
    (State.madiFrame s a1 a2).but k = s.but k := by
  simp only [List.mem_cons, forall_eq_or_imp, List.not_mem_nil, false_implies, implies_true, and_true] at h
  simp [State.madiFrame, h]
@[simp] theorem State.sendPort_but (s : State) (a1 : Nat) (a2 : Bool) (a3 : List Int) (k : List Part) (h : ∀ p ∈ [Part.out,
    .aprt], p ∈ k) :
    (State.sendPort s a1 a2 a3).but k = s.but k := by
  simp only [List.mem_cons, forall_eq_or_imp, List.not_mem_nil, false_implies, implies_true, and_true] at h
  simp [State.sendPort, h]
@[simp] theorem State.followFrame_but (s : State) (a1 : Nat) (k : List Part) (h : ∀ p ∈ [Part.rv, .aprt], p ∈ k) :
    (State.followFrame s a1).2.but k = s.but k := by
  simp only [List.mem_cons, forall_eq_or_imp, List.not_mem_nil, false_implies, implies_true, and_true] at h
  simp [State.followFrame, h]
@[simp] theorem State.portTx_but (s : State) (a1 : Nat) (k : List Part) (h : ∀ p ∈ [Part.rv, .aprt], p ∈ k) :
    (State.portTx s a1).2.but k = s.but k := by
  simp only [List.mem_cons, forall_eq_or_imp, List.not_mem_nil, false_implies, implies_true, and_true] at h
  simp [State.portTx, h]
@[simp] theorem State.settleSet_but (s : State) (a1 : Nat) (k : List Part) (h : ∀ p ∈ [Part.out, .rv, .cs, .txb, .egr, .sess,
    .follow], p ∈ k) :
    (State.settleSet s a1).but k = s.but k := by
  simp only [List.mem_cons, forall_eq_or_imp, List.not_mem_nil, false_implies, implies_true, and_true] at h
  simp [State.settleSet, h]
@[simp] theorem State.settleSets_but (s : State) (k : List Part) (h : ∀ p ∈ [Part.out, .rv, .cs, .txb, .egr, .sess, .follow],
    p ∈ k) :
    (State.settleSets s).but k = s.but k := by
  simp only [List.mem_cons, forall_eq_or_imp, List.not_mem_nil, false_implies, implies_true, and_true] at h
  simp [State.settleSets, h]
@[simp] theorem State.mirrorIsland_but (s : State) (a1 : Nat) (k : List Part) (h : ∀ p ∈ [Part.mirror], p ∈ k) :
    (State.mirrorIsland s a1).but k = s.but k := by
  simp only [List.mem_cons, forall_eq_or_imp, List.not_mem_nil, false_implies, implies_true, and_true] at h
  simp [State.mirrorIsland, h]
@[simp] theorem State.dropMirror_but (s : State) (a1 : Nat) (k : List Part) (h : ∀ p ∈ [Part.mirror], p ∈ k) :
    (State.dropMirror s a1).but k = s.but k := by
  simp only [List.mem_cons, forall_eq_or_imp, List.not_mem_nil, false_implies, implies_true, and_true] at h
  simp [State.dropMirror, h]
@[simp] theorem State.evtCapRead_but (s : State) (a1 : Nat) (k : List Part) (h : ∀ p ∈ [Part.rv, .kiln], p ∈ k) :
    (State.evtCapRead s a1).2.but k = s.but k := by
  simp only [List.mem_cons, forall_eq_or_imp, List.not_mem_nil, false_implies, implies_true, and_true] at h
  unfold State.evtCapRead
  repeat' (first | (simp [h]; done) | split)
@[simp] theorem State.nowRead_but (s : State) (k : List Part) (h : ∀ p ∈ [Part.rv], p ∈ k) :
    (State.nowRead s).2.but k = s.but k := by
  simp only [List.mem_cons, forall_eq_or_imp, List.not_mem_nil, false_implies, implies_true, and_true] at h
  simp [State.nowRead, h]
@[simp] theorem State.uartRead_but (s : State) (k : List Part) (h : ∀ p ∈ [Part.pwr], p ∈ k) :
    (State.uartRead s).2.but k = s.but k := by
  simp only [List.mem_cons, forall_eq_or_imp, List.not_mem_nil, false_implies, implies_true, and_true] at h
  simp [State.uartRead, h]
@[simp] theorem State.clearRc_but (s : State) (a1 : Reg) (a2 : Nat) (k : List Part) (h : ∀ p ∈ [Part.rv], p ∈ k) :
    (State.clearRc s a1 a2).but k = s.but k := by
  simp only [List.mem_cons, forall_eq_or_imp, List.not_mem_nil, false_implies, implies_true, and_true] at h
  simp [State.clearRc, h]
@[simp] theorem State.txtsRead_but (s : State) (a1 : Nat) (k : List Part) (h : ∀ p ∈ [Part.rv, .tsvc], p ∈ k) :
    (State.txtsRead s a1).2.but k = s.but k := by
  simp only [List.mem_cons, forall_eq_or_imp, List.not_mem_nil, false_implies, implies_true, and_true] at h
  simp only [State.txtsRead]
  repeat' (first | (simp [h]; done) | split)
@[simp] theorem State.readReg_but (s : State) (a1 : Reg) (a2 : Nat) (a3 : Bool) (k : List Part) (h : ∀ p ∈ [Part.rv, .kiln,
    .tsvc, .pwr], p ∈ k) :
    (State.readReg s a1 a2 a3).2.but k = s.but k := by
  simp only [List.mem_cons, forall_eq_or_imp, List.not_mem_nil, false_implies, implies_true, and_true] at h
  unfold State.readReg
  repeat' (first | (simp [h]; done) | split)
@[simp] theorem State.readLoc_but (s : State) (a1 : Loc) (a2 : Bool) (k : List Part) (h : ∀ p ∈ [Part.rv, .kiln, .tsvc, .pwr],
    p ∈ k) :
    (State.readLoc s a1 a2).2.but k = s.but k := by
  simp only [List.mem_cons, forall_eq_or_imp, List.not_mem_nil, false_implies, implies_true, and_true] at h
  unfold State.readLoc
  repeat' (first | (simp [h]; done) | split)
@[simp] theorem State.readLocs_but (s : State) (a1 : Bool) (a2 : List Loc) (k : List Part) (h : ∀ p ∈ [Part.rv, .kiln, .tsvc,
    .pwr], p ∈ k) :
    (State.readLocs s a1 a2).2.but k = s.but k := by
  simp only [List.mem_cons, forall_eq_or_imp, List.not_mem_nil, false_implies, implies_true, and_true] at h
  induction a2 generalizing s with
  | nil => rfl
  | cons x l ih => simp [h, State.readLocs, ih]
@[simp] theorem State.masterRead_but (s : State) (a1 : Master) (a2 : RegAddr) (k : List Part) (h : ∀ p ∈ [Part.out, .freeCtr,
    .rv, .cs, .flt, .txb, .dst, .mntl, .eth, .kiln, .gnss, .tsvc, .hop, .boot, .pwr, .latch, .egr, .sess], p ∈ k) :
    (State.masterRead s a1 a2).2.2.but k = s.but k := by
  simp only [List.mem_cons, forall_eq_or_imp, List.not_mem_nil, false_implies, implies_true, and_true] at h
  unfold State.masterRead
  repeat' (first | (simp [h]; done) | split)
@[simp] theorem State.passed_but (s : State) (a1 : Change) (k : List Part) (h : ∀ p ∈ [Part.staged, .cs], p ∈ k) :
    (State.passed s a1).but k = s.but k := by
  simp only [List.mem_cons, forall_eq_or_imp, List.not_mem_nil, false_implies, implies_true, and_true] at h
  unfold State.passed
  repeat' (first | (simp [h]; done) | split)
@[simp] theorem State.snapSeam_but (s : State) (a1 : Nat) (a2 : Nat) (k : List Part) (h : ∀ p ∈ [Part.hcp], p ∈ k) :
    (State.snapSeam s a1 a2).but k = s.but k := by
  simp only [List.mem_cons, forall_eq_or_imp, List.not_mem_nil, false_implies, implies_true, and_true] at h
  simp [State.snapSeam, h]
@[simp] theorem State.resumeAt_but (s : State) (a1 : Nat) (a2 : Nat) (a3 : Fmt) (k : List Part) (h : ∀ p ∈ [Part.rv, .dst], p
    ∈ k) :
    (State.resumeAt s a1 a2 a3).but k = s.but k := by
  simp only [List.mem_cons, forall_eq_or_imp, List.not_mem_nil, false_implies, implies_true, and_true] at h
  simp only [State.resumeAt]
  repeat' (first | (simp [h]; done) | split)
@[simp] theorem State.lostLaunch_but (s : State) (a1 : Nat) (a2 : Nat) (k : List Part) (h : ∀ p ∈ [Part.rv, .dst], p ∈ k) :
    (State.lostLaunch s a1 a2).but k = s.but k := by
  simp only [List.mem_cons, forall_eq_or_imp, List.not_mem_nil, false_implies, implies_true, and_true] at h
  simp only [State.lostLaunch]
  repeat' (first | (simp [h]; done) | split)
@[simp] theorem State.followSlip_but (s : State) (a1 : Nat) (a2 : Nat) (k : List Part) (h : ∀ p ∈ [Part.rv, .follow], p ∈ k) :
    (State.followSlip s a1 a2).but k = s.but k := by
  simp only [List.mem_cons, forall_eq_or_imp, List.not_mem_nil, false_implies, implies_true, and_true] at h
  simp [State.followSlip, h]
@[simp] theorem State.frameLaunch_but (s : State) (a1 : Nat) (a2 : Nat) (a3 : Nat) (a4 : Fmt) (k : List Part) (h : ∀ p ∈
    [Part.out, .freeCtr, .rv, .cs, .flt, .txb, .dst, .mntl, .eth, .kiln, .gnss, .hop, .boot, .egr, .sess, .follow], p ∈ k) :
    (State.frameLaunch s a1 a2 a3 a4).but k = s.but k := by
  simp only [List.mem_cons, forall_eq_or_imp, List.not_mem_nil, false_implies, implies_true, and_true] at h
  simp only [State.frameLaunch]
  repeat' (first | (simp [h]; done) | split)
@[simp] theorem State.followLaunch_but (s : State) (a1 : Nat) (a2 : Nat) (a3 : Nat) (k : List Part) (h : ∀ p ∈ [Part.follow],
    p ∈ k) :
    (State.followLaunch s a1 a2 a3).but k = s.but k := by
  simp only [List.mem_cons, forall_eq_or_imp, List.not_mem_nil, false_implies, implies_true, and_true] at h
  simp [State.followLaunch, h]
@[simp] theorem State.noteLatency_but (s : State) (a1 : Nat) (a2 : Nat) (a3 : Fmt) (k : List Part) (h : ∀ p ∈ [Part.rv], p ∈
    k) :
    (State.noteLatency s a1 a2 a3).but k = s.but k := by
  simp only [List.mem_cons, forall_eq_or_imp, List.not_mem_nil, false_implies, implies_true, and_true] at h
  simp [State.noteLatency, h]
@[simp] theorem State.takeAudio_but (s : State) (a1 : Nat) (a2 : Fmt) (a3 : Nat) (a4 : Bool) (a5 : Nat) (k : List Part) (h : ∀
    p ∈ [Part.dst], p ∈ k) :
    (State.takeAudio s a1 a2 a3 a4 a5).2.but k = s.but k := by
  simp only [List.mem_cons, forall_eq_or_imp, List.not_mem_nil, false_implies, implies_true, and_true] at h
  simp [State.takeAudio, h]
@[simp] theorem State.sendAnc_but (s : State) (a1 : Nat) (a2 : Nat) (a3 : Fmt) (a4 : Bool) (a5 : List (List Byte)) (k : List
    Part) (h : ∀ p ∈ [Part.out, .rv, .txb], p ∈ k) :
    (State.sendAnc s a1 a2 a3 a4 a5).but k = s.but k := by
  simp only [List.mem_cons, forall_eq_or_imp, List.not_mem_nil, false_implies, implies_true, and_true] at h
  simp [State.sendAnc, h]
@[simp] theorem State.sendLine_but (s : State) (a1 : Nat) (a2 : Nat) (a3 : Fmt) (a4 : Bool) (a5 : Nat) (a6 : List Byte) (k :
    List Part) (h : ∀ p ∈ [Part.out, .rv, .txb], p ∈ k) :
    (State.sendLine s a1 a2 a3 a4 a5 a6).but k = s.but k := by
  simp only [List.mem_cons, forall_eq_or_imp, List.not_mem_nil, false_implies, implies_true, and_true] at h
  simp [State.sendLine, h]
@[simp] theorem State.sendPackets_but (s : State) (a1 : Nat) (a2 : Nat) (a3 : Nat) (a4 : Fmt) (a5 : Bool) (a6 : Nat) (k : List
    Part) (h : ∀ p ∈ [Part.out, .rv, .dst, .egr], p ∈ k) :
    (State.sendPackets s a1 a2 a3 a4 a5 a6).but k = s.but k := by
  simp only [List.mem_cons, forall_eq_or_imp, List.not_mem_nil, false_implies, implies_true, and_true] at h
  simp [State.sendPackets, h]
@[simp] theorem State.sendAncFlow_but (s : State) (a1 : Nat) (a2 : Nat) (a3 : Nat) (a4 : Fmt) (a5 : Bool) (a6 : Bool) (a7 :
    List (List Byte)) (k : List Part) (h : ∀ p ∈ [Part.out, .rv, .mash, .egr], p ∈ k) :
    (State.sendAncFlow s a1 a2 a3 a4 a5 a6 a7).but k = s.but k := by
  simp only [List.mem_cons, forall_eq_or_imp, List.not_mem_nil, false_implies, implies_true, and_true] at h
  unfold State.sendAncFlow
  dsimp only
  repeat' (first | (simp [h]; done) | (refine (State.each_but _ _ _ _ ?_).trans ?_) | (refine (foldl_but _ _ ?_ _ _).trans ?_) | (refine (foldl_but_snd _ _ ?_ _ _).trans ?_) | (intro _ _) | split | (dsimp only))
@[simp] theorem State.putSnap_but (s : State) (a1 : Nat) (a2 : SnapBuf) (k : List Part) (h : ∀ p ∈ [Part.hcp], p ∈ k) :
    (State.putSnap s a1 a2).but k = s.but k := by
  simp only [List.mem_cons, forall_eq_or_imp, List.not_mem_nil, false_implies, implies_true, and_true] at h
  simp [State.putSnap, h]
@[simp] theorem State.capture_but (s : State) (a1 : Nat) (k : List Part) (h : ∀ p ∈ [Part.hcp], p ∈ k) :
    (State.capture s a1).but k = s.but k := by
  simp only [List.mem_cons, forall_eq_or_imp, List.not_mem_nil, false_implies, implies_true, and_true] at h
  unfold State.capture
  repeat' (first | (simp [h]; done) | split)
@[simp] theorem State.applyHead_but (s : State) (a1 : Change) (k : List Part) (h : ∀ p ∈ [Part.out, .rv, .staged, .cs, .egr,
    .sess], p ∈ k) :
    (State.applyHead s a1).2.but k = s.but k := by
  simp only [List.mem_cons, forall_eq_or_imp, List.not_mem_nil, false_implies, implies_true, and_true] at h
  simp [State.applyHead, h]
@[simp] theorem State.headBoundary_but (s : State) (a1 : Nat) (a2 : Nat) (a3 : Nat) (k : List Part) (h : ∀ p ∈ [Part.out, .rv,
    .staged, .cs, .egr, .sess], p ∈ k) :
    (State.headBoundary s a1 a2 a3).2.but k = s.but k := by
  simp only [List.mem_cons, forall_eq_or_imp, List.not_mem_nil, false_implies, implies_true, and_true] at h
  simp only [State.headBoundary]
  split
  all_goals
    first
    | refine (State.setStaged_but _ _ k (by simp [h])).trans ?_
    | skip
    refine (foldl_but_snd _ k ?_ _ _).trans (by simp [h])
    intro p c
    generalize (if c.allOrNone then 0 else c.verdict.getD (p.2.headVerdict a1 c)) = v
    split
    · simp [h]
    · simp [h]
@[simp] theorem State.headQuiet_but (s : State) (a1 : Nat) (k : List Part) (h : ∀ p ∈ [Part.rv, .dst], p ∈ k) :
    (State.headQuiet s a1).but k = s.but k := by
  simp only [List.mem_cons, forall_eq_or_imp, List.not_mem_nil, false_implies, implies_true, and_true] at h
  simp [State.headQuiet, h]
@[simp] theorem State.noteApron_but (s : State) (a1 : Nat) (k : List Part) (h : ∀ p ∈ [Part.rv], p ∈ k) :
    (State.noteApron s a1).but k = s.but k := by
  simp only [List.mem_cons, forall_eq_or_imp, List.not_mem_nil, false_implies, implies_true, and_true] at h
  simp [State.noteApron, h]
@[simp] theorem State.releaseSurfaces_but (s : State) (k : List Part) (h : ∀ p ∈ [Part.out, .rv, .mem, .cask, .bound, .egr,
    .sess], p ∈ k) :
    (State.releaseSurfaces s).but k = s.but k := by
  simp only [List.mem_cons, forall_eq_or_imp, List.not_mem_nil, false_implies, implies_true, and_true] at h
  simp [State.releaseSurfaces, h]
@[simp] theorem State.headFrame_but (s : State) (a1 : Nat) (a2 : Nat) (a3 : Bool) (k : List Part) (h : ∀ p ∈ [Part.out,
    .freeCtr, .rv, .cs, .mem, .flt, .txb, .src, .dst, .cask, .head, .bound, .mntl, .mash, .eth, .kiln, .gnss, .hop, .boot,
    .egr, .sess], p ∈ k) :
    (State.headFrame s a1 a2 a3).but k = s.but k := by
  simp only [List.mem_cons, forall_eq_or_imp, List.not_mem_nil, false_implies, implies_true, and_true] at h
  simp [State.headFrame, h]
@[simp] theorem State.checkSig_but (s : State) (a1 : Nat) (a2 : Fmt) (a3 : Nat) (k : List Part) (h : ∀ p ∈ [Part.out,
    .freeCtr, .rv, .cs, .flt, .txb, .dst, .head, .mntl, .eth, .kiln, .gnss, .hop, .boot, .egr, .sess], p ∈ k) :
    (State.checkSig s a1 a2 a3).but k = s.but k := by
  simp only [List.mem_cons, forall_eq_or_imp, List.not_mem_nil, false_implies, implies_true, and_true] at h
  simp [State.checkSig, h]
@[simp] theorem State.tload_but (s : State) (a1 : Nat) (k : List Part) (h : ∀ p ∈ [Part.tsvc], p ∈ k) :
    (State.tload s a1).but k = s.but k := by
  simp only [List.mem_cons, forall_eq_or_imp, List.not_mem_nil, false_implies, implies_true, and_true] at h
  simp [State.tload, h]
@[simp] theorem State.withinRate_but (s : State) (a1 : Nat) (a2 : State → State) (k : List Part) (h : ∀ p ∈ [Part.out,
    .freeCtr, .rv, .cs, .flt, .txb, .dst, .mntl, .eth, .kiln, .gnss, .tsvc, .hop, .boot, .egr, .sess], p ∈ k) (ha2 : ∀ x0, (a2
    x0).but k = x0.but k) :
    (State.withinRate s a1 a2).but k = s.but k := by
  simp only [List.mem_cons, forall_eq_or_imp, List.not_mem_nil, false_implies, implies_true, and_true] at h
  simp [State.withinRate, h, ha2]
@[simp] theorem State.keySpent_but (s : State) (a1 : Nat) (a2 : Bool) (k : List Part) (h : ∀ p ∈ [Part.out, .freeCtr, .rv,
    .cs, .flt, .txb, .dst, .mntl, .eth, .kiln, .gnss, .hop, .boot, .egr, .sess], p ∈ k) :
    (State.keySpent s a1 a2).but k = s.but k := by
  simp only [List.mem_cons, forall_eq_or_imp, List.not_mem_nil, false_implies, implies_true, and_true] at h
  simp [State.keySpent, h]
@[simp] theorem State.ptpSend_but (s : State) (a1 : Nat) (a2 : Nat) (a3 : Option (Nat × Nat × Nat)) (a4 : Option (Nat × Nat))
    (a5 : PtpMsg) (a6 : TxMark) (k : List Part) (h : ∀ p ∈ [Part.out, .freeCtr, .rv, .cs, .flt, .txb, .dst, .mntl, .eth,
    .kiln, .gnss, .tsvc, .hop, .boot, .egr, .sess], p ∈ k) :
    (State.ptpSend s a1 a2 a3 a4 a5 a6).but k = s.but k := by
  simp only [List.mem_cons, forall_eq_or_imp, List.not_mem_nil, false_implies, implies_true, and_true] at h
  simp [State.ptpSend, h]
@[simp] theorem State.ptpMulti_but (s : State) (a1 : Nat) (a2 : Nat) (a3 : PtpMsg) (a4 : optParam TxMark TxMark.none) (k :
    List Part) (h : ∀ p ∈ [Part.out, .freeCtr, .rv, .cs, .flt, .txb, .dst, .mntl, .eth, .kiln, .gnss, .tsvc, .hop, .boot,
    .egr, .sess], p ∈ k) :
    (State.ptpMulti s a1 a2 a3 a4).but k = s.but k := by
  simp only [List.mem_cons, forall_eq_or_imp, List.not_mem_nil, false_implies, implies_true, and_true] at h
  simp only [State.ptpMulti]
  repeat' (first | (simp [h]; done) | split)
@[simp] theorem State.ptpUni_but (s : State) (a1 : Nat) (a2 : Nat) (a3 : PtpMsg) (a4 : optParam TxMark TxMark.none) (k : List
    Part) (h : ∀ p ∈ [Part.out, .freeCtr, .rv, .cs, .flt, .txb, .dst, .mntl, .eth, .kiln, .gnss, .tsvc, .hop, .boot, .egr,
    .sess], p ∈ k) :
    (State.ptpUni s a1 a2 a3 a4).but k = s.but k := by
  simp only [List.mem_cons, forall_eq_or_imp, List.not_mem_nil, false_implies, implies_true, and_true] at h
  simp only [State.ptpUni]
  repeat' (first | (simp [h]; done) | split)
@[simp] theorem State.ptpFilter_but (s : State) (a1 : Nat) (k : List Part) (h : ∀ p ∈ [Part.rv], p ∈ k) :
    (State.ptpFilter s a1).but k = s.but k := by
  simp only [List.mem_cons, forall_eq_or_imp, List.not_mem_nil, false_implies, implies_true, and_true] at h
  simp [State.ptpFilter, h]
@[simp] theorem State.ptpRequest_but (s : State) (a1 : Nat) (a2 : PtpHdr) (a3 : State → State) (k : List Part) (h : ∀ p ∈
    [Part.rv, .tsvc], p ∈ k) (ha3 : ∀ x0, (a3 x0).but k = x0.but k) :
    (State.ptpRequest s a1 a2 a3).but k = s.but k := by
  simp only [List.mem_cons, forall_eq_or_imp, List.not_mem_nil, false_implies, implies_true, and_true] at h
  simp [State.ptpRequest, h, ha3]
@[simp] theorem State.ptpClient_but (s : State) (a1 : Nat) (a2 : PtpHdr) (a3 : State → State) (k : List Part) (h : ∀ p ∈
    [Part.rv, .tsvc], p ∈ k) (ha3 : ∀ x0, (a3 x0).but k = x0.but k) :
    (State.ptpClient s a1 a2 a3).but k = s.but k := by
  simp only [List.mem_cons, forall_eq_or_imp, List.not_mem_nil, false_implies, implies_true, and_true] at h
  simp [State.ptpClient, h, ha3]
@[simp] theorem State.ptpUnsupported_but (s : State) (a1 : Nat) (a2 : Nat) (k : List Part) (h : ∀ p ∈ [Part.rv, .tsvc], p ∈ k)
    :
    (State.ptpUnsupported s a1 a2).but k = s.but k := by
  simp only [List.mem_cons, forall_eq_or_imp, List.not_mem_nil, false_implies, implies_true, and_true] at h
  simp [State.ptpUnsupported, h]
@[simp] theorem State.authFail_but (s : State) (a1 : Nat) (k : List Part) (h : ∀ p ∈ [Part.out, .freeCtr, .rv, .cs, .flt,
    .txb, .dst, .mntl, .eth, .kiln, .gnss, .hop, .boot, .egr, .sess], p ∈ k) :
    (State.authFail s a1).but k = s.but k := by
  simp only [List.mem_cons, forall_eq_or_imp, List.not_mem_nil, false_implies, implies_true, and_true] at h
  simp [State.authFail, h]
@[simp] theorem State.replayed_but (s : State) (a1 : Nat) (k : List Part) (h : ∀ p ∈ [Part.out, .freeCtr, .rv, .cs, .flt,
    .txb, .dst, .mntl, .eth, .kiln, .gnss, .hop, .boot, .egr, .sess], p ∈ k) :
    (State.replayed s a1).but k = s.but k := by
  simp only [List.mem_cons, forall_eq_or_imp, List.not_mem_nil, false_implies, implies_true, and_true] at h
  simp [State.replayed, h]
@[simp] theorem State.noSession_but (s : State) (a1 : Nat) (k : List Part) (h : ∀ p ∈ [Part.rv], p ∈ k) :
    (State.noSession s a1).but k = s.but k := by
  simp only [List.mem_cons, forall_eq_or_imp, List.not_mem_nil, false_implies, implies_true, and_true] at h
  simp [State.noSession, h]
@[simp] theorem State.learnClient_but (s : State) (a1 : Nat) (a2 : PtpHdr) (k : List Part) (h : ∀ p ∈ [Part.tsvc], p ∈ k) :
    (State.learnClient s a1 a2).but k = s.but k := by
  simp only [List.mem_cons, forall_eq_or_imp, List.not_mem_nil, false_implies, implies_true, and_true] at h
  simp [State.learnClient, h]
@[simp] theorem State.sessionMsg_but (s : State) (a1 : Nat) (a2 : PtpHdr) (a3 : State → Nat → State) (k : List Part) (h : ∀ p
    ∈ [Part.out, .freeCtr, .rv, .cs, .flt, .txb, .dst, .mntl, .eth, .kiln, .gnss, .tsvc, .hop, .boot, .egr, .sess], p ∈ k)
    (ha3 : ∀ x0 x1, (a3 x0 x1).but k = x0.but k) :
    (State.sessionMsg s a1 a2 a3).but k = s.but k := by
  simp only [List.mem_cons, forall_eq_or_imp, List.not_mem_nil, false_implies, implies_true, and_true] at h
  unfold State.sessionMsg
  repeat' (first | (simp [h, ha3]; done) | split)
@[simp] theorem State.groupMsg_but (s : State) (a1 : Nat) (a2 : PtpHdr) (a3 : Bool) (a4 : State → State) (k : List Part) (h :
    ∀ p ∈ [Part.out, .freeCtr, .rv, .cs, .flt, .txb, .dst, .mntl, .eth, .kiln, .gnss, .hop, .boot, .egr, .sess], p ∈ k) (ha4 :
    ∀ x0, (a4 x0).but k = x0.but k) :
    (State.groupMsg s a1 a2 a3 a4).but k = s.but k := by
  simp only [List.mem_cons, forall_eq_or_imp, List.not_mem_nil, false_implies, implies_true, and_true] at h
  unfold State.groupMsg
  repeat' (first | (simp [h, ha4]; done) | split)
@[simp] theorem State.grantOne_but (s : State) (a1 : Nat) (a2 : UniReq) (k : List Part) (h : ∀ p ∈ [Part.tsvc], p ∈ k) :
    (State.grantOne s a1 a2).1.but k = s.but k := by
  simp only [List.mem_cons, forall_eq_or_imp, List.not_mem_nil, false_implies, implies_true, and_true] at h
  simp [State.grantOne, h]
@[simp] theorem grantAll_but (s : State) (a1 : Nat) (a2 : List UniReq) (k : List Part) (h : ∀ p ∈ [Part.tsvc], p ∈ k) :
    (grantAll s a1 a2).1.but k = s.but k := by
  simp only [List.mem_cons, forall_eq_or_imp, List.not_mem_nil, false_implies, implies_true, and_true] at h
  induction a2 generalizing s a1 with
  | nil => rfl
  | cons x l ih => simp [h, grantAll, ih]
@[simp] theorem State.clientListen_but (s : State) (a1 : Nat) (k : List Part) (h : ∀ p ∈ [Part.out, .freeCtr, .rv, .cs, .flt,
    .txb, .dst, .mntl, .eth, .kiln, .gnss, .tsvc, .hop, .boot, .egr, .sess], p ∈ k) :
    (State.clientListen s a1).but k = s.but k := by
  simp only [List.mem_cons, forall_eq_or_imp, List.not_mem_nil, false_implies, implies_true, and_true] at h
  simp [State.clientListen, h]
@[simp] theorem State.clientChoose_but (s : State) (a1 : Nat) (k : List Part) (h : ∀ p ∈ [Part.out, .freeCtr, .rv, .cs, .flt,
    .txb, .dst, .mntl, .eth, .kiln, .gnss, .tsvc, .hop, .boot, .egr, .sess], p ∈ k) :
    (State.clientChoose s a1).but k = s.but k := by
  simp only [List.mem_cons, forall_eq_or_imp, List.not_mem_nil, false_implies, implies_true, and_true] at h
  simp only [State.clientChoose]
  repeat' (first | (simp [h]; done) | split)
@[simp] theorem State.clientMsg_but (s : State) (a1 : Nat) (a2 : PtpHdr) (a3 : State → State) (k : List Part) (h : ∀ p ∈
    [Part.out, .freeCtr, .rv, .cs, .flt, .txb, .dst, .mntl, .eth, .kiln, .gnss, .tsvc, .hop, .boot, .egr, .sess], p ∈ k) (ha3
    : ∀ x0, (a3 x0).but k = x0.but k) :
    (State.clientMsg s a1 a2 a3).but k = s.but k := by
  simp only [List.mem_cons, forall_eq_or_imp, List.not_mem_nil, false_implies, implies_true, and_true] at h
  unfold State.clientMsg
  refine State.ptpClient_but _ _ _ _ k (by simp [h]) ?_
  intro s
  refine State.groupMsg_but _ _ _ _ _ k (by simp [h]) ?_
  intro s
  dsimp only
  split
  · split <;> simp [ha3, h]
  · exact ha3 s
@[simp] theorem State.ntpRefTime_but (s : State) (k : List Part) (h : ∀ p ∈ [Part.freeCtr], p ∈ k) :
    (State.ntpRefTime s).2.but k = s.but k := by
  simp only [List.mem_cons, forall_eq_or_imp, List.not_mem_nil, false_implies, implies_true, and_true] at h
  unfold State.ntpRefTime
  repeat' (first | (simp [h]; done) | split)
@[simp] theorem State.ntpReply_but (s : State) (a1 : Nat) (a2 : NtpReq) (a3 : Nat) (k : List Part) (h : ∀ p ∈ [Part.freeCtr],
    p ∈ k) :
    (State.ntpReply s a1 a2 a3).2.but k = s.but k := by
  simp only [List.mem_cons, forall_eq_or_imp, List.not_mem_nil, false_implies, implies_true, and_true] at h
  simp [State.ntpReply, h]
@[simp] theorem State.ntpRequest_but (s : State) (a1 : Nat) (a2 : NtpReq) (a3 : State → Bool) (a4 : State → State) (k : List
    Part) (h : ∀ p ∈ [Part.out, .freeCtr, .rv, .cs, .flt, .txb, .dst, .mntl, .eth, .kiln, .gnss, .tsvc, .hop, .boot, .egr,
    .sess], p ∈ k) (ha4 : ∀ x0, (a4 x0).but k = x0.but k) :
    (State.ntpRequest s a1 a2 a3 a4).but k = s.but k := by
  simp only [List.mem_cons, forall_eq_or_imp, List.not_mem_nil, false_implies, implies_true, and_true] at h
  simp [State.ntpRequest, h, ha4]
@[simp] theorem State.imageWord_but (s : State) (a1 : Loc) (a2 : Nat) (k : List Part) (h : ∀ p ∈ [Part.rv], p ∈ k) :
    (State.imageWord s a1 a2).but k = s.but k := by
  simp only [List.mem_cons, forall_eq_or_imp, List.not_mem_nil, false_implies, implies_true, and_true] at h
  unfold State.imageWord
  repeat' (first | (simp [h]; done) | split)
@[simp] theorem State.imageRecord_but (s : State) (a1 : CfgRec) (k : List Part) (h : ∀ p ∈ [Part.rv], p ∈ k) :
    (State.imageRecord s a1).but k = s.but k := by
  simp only [List.mem_cons, forall_eq_or_imp, List.not_mem_nil, false_implies, implies_true, and_true] at h
  unfold State.imageRecord
  split
  · apply foldl_but
    intro s v
    split <;> simp [h]
  · rfl
@[simp] theorem State.applyRecs_but (s : State) (a1 : List CfgRec) (k : List Part) (h : ∀ p ∈ [Part.rv], p ∈ k) :
    (State.applyRecs s a1).1.but k = s.but k := by
  simp only [List.mem_cons, forall_eq_or_imp, List.not_mem_nil, false_implies, implies_true, and_true] at h
  unfold State.applyRecs
  exact foldl_keep (fun p : State × Bool => p.1.but k) _ (fun p c => by simp [h]) _ _
end Sys2Proof.Machine
end

