-- ==== Sys2Proof/Laws/Cells.lean ====
section
/-! SUPPORT. Bytes and numbers, and the CRC of a cell that a sender makes: a receiver that expects its number finds it good. -/

set_option autoImplicit false

namespace Sys2Proof

@[simp] theorem beBytes_length (n v : Nat) : (beBytes n v).length = n := by
  induction n with
  | zero => rfl
  | succ n ih => simp [beBytes, ih]

theorem beNat_foldl (n v a : Nat) :
    (beBytes n v).foldl (fun a (b : Byte) => a * 256 + b.toNat) a = a * 256 ^ n + v % 256 ^ n := by
  induction n generalizing a with
  | zero => simp [beBytes, Nat.mod_one]
  | succ n ih =>
    simp only [beBytes, List.foldl_cons, ih, BitVec.toNat_ofNat]
    have e : (2 : Nat) ^ (8 * n) = 256 ^ n := by rw [Nat.pow_mul]
    have m : v % 256 ^ (n + 1) = v % 256 ^ n + 256 ^ n * (v / 256 ^ n % 256) := by rw [Nat.pow_succ, Nat.mod_mul]
    have k : a * 256 ^ (n + 1) = a * 256 * 256 ^ n := by rw [Nat.pow_succ, Nat.mul_assoc, Nat.mul_comm 256]
    have p : (2 : Nat) ^ 8 = 256 := rfl
    rw [e, m, k, p, Nat.add_mul, Nat.mul_comm (256 ^ n) (v / 256 ^ n % 256)]
    omega

/-- Big-endian bytes spell their number. -/
theorem beNat_beBytes (n v : Nat) : beNat (beBytes n v) = v % 256 ^ n := by
  have h := beNat_foldl n v 0
  simpa [beNat] using h

/-- The number in the last bytes of a message. -/
theorem beAt_append (bs : List Byte) (n v : Nat) : beAt (bs ++ beBytes n v) bs.length n = v % 256 ^ n := by
  have h : (beBytes n v).take n = beBytes n v := List.take_of_length_le (by simp)
  simp only [beAt, List.drop_left, h, beNat_beBytes]

namespace Machine

@[simp] theorem Hdr.bytes_length (h : Hdr) : h.bytes.length = 12 := by simp [Hdr.bytes]

theorem crcStep_lt (c n : Nat) (h : c < 2 ^ 32) : crcStep c n < 2 ^ 32 := by
  induction n generalizing c with
  | zero => exact h
  | succ n ih =>
    rw [crcStep]
    refine ih _ ?_
    split
    · exact Nat.xor_lt_two_pow (by omega) (by omega)
    · omega

/-- A CRC has 32 bits. -/
theorem crc32_lt (bs : List Byte) : crc32 bs < 2 ^ 32 := by
  have h : ∀ (l : List Byte) (c : Nat), c < 2 ^ 32 → l.foldl (fun c b => crcStep (c ^^^ b.toNat) 8) c < 2 ^ 32 := by
    intro l
    induction l with
    | nil => exact fun c h => h
    | cons b l ih =>
      intro c hc
      exact ih _ (crcStep_lt _ 8 (Nat.xor_lt_two_pow hc (by have := b.isLt; omega)))
  exact Nat.xor_lt_two_pow (h bs _ (by decide)) (by decide)

/-- What a cell holds before its CRC. -/
def cellBody (h : Hdr) (payload : List Byte) : List Byte :=
  h.bytes ++ payload.take 256 ++ List.replicate (256 - payload.length) 0

theorem cellBody_length (h : Hdr) (p : List Byte) : (cellBody h p).length = 268 := by
  simp only [cellBody, List.length_append, Hdr.bytes_length, List.length_take, List.length_replicate]
  omega

theorem cellOf_eq (h : Hdr) (p : List Byte) : cellOf h p = cellBody h p ++ beBytes 4 (cellCrc h.slot h.seq (cellBody h p)) := rfl

/-- A cell's CRC, computed by its receiver under the number that it carries. -/
theorem cellOf_crc (h : Hdr) (p : List Byte) (slot n : Nat) (hs : slot = h.slot) (hn : n = h.seq) :
    cellCrc slot n ((cellOf h p).take 268) = beAt (cellOf h p) 268 4 := by
  subst hs hn
  have hl := cellBody_length h p
  rw [cellOf_eq, List.take_left' hl]
  have e := beAt_append (cellBody h p) 4 (cellCrc h.slot h.seq (cellBody h p))
  rw [hl] at e
  rw [e]
  exact (Nat.mod_eq_of_lt (crc32_lt _)).symm

/-- A function of a number, which the kernel evaluates to a numeral before it goes on. -/
def forced {α : Type} (f : Nat → α) : Nat → α
  | 0 => f 0
  | n + 1 => f (n + 1)

theorem forced_eq {α : Type} (f : Nat → α) (n : Nat) : forced f n = f n := by cases n <;> rfl

/-- The bytes of a CRC, with every intermediate value forced. -/
def crcGo : List Byte → Nat → Nat
  | [], c => c
  | b :: bs, c => forced (crcGo bs) (crcStep (c ^^^ b.toNat) 8)

theorem crc32_eq_go (bs : List Byte) : crc32 bs = crcGo bs 0xFFFFFFFF ^^^ 0xFFFFFFFF := by
  have h : ∀ (l : List Byte) (c : Nat), crcGo l c = l.foldl (fun c b => crcStep (c ^^^ b.toNat) 8) c := by
    intro l
    induction l with
    | nil => exact fun _ => rfl
    | cons b l ih => intro c; rw [crcGo, forced_eq, ih]; rfl
  rw [h, crc32]

/-- A cell's CRC, computed under another number or slot than its own. -/
theorem cellOf_crc_ne (h : Hdr) (p : List Byte) (slot n : Nat)
    (hd : crcGo (beBytes 2 slot ++ beBytes 2 n ++ cellBody h p) 0xFFFFFFFF ^^^ 0xFFFFFFFF
      ≠ crcGo (beBytes 2 h.slot ++ beBytes 2 h.seq ++ cellBody h p) 0xFFFFFFFF ^^^ 0xFFFFFFFF) :
    cellCrc slot n ((cellOf h p).take 268) ≠ beAt (cellOf h p) 268 4 := by
  rw [← cellOf_crc h p h.slot h.seq rfl rfl, cellOf_eq, List.take_left' (cellBody_length h p)]
  simpa only [cellCrc, crc32_eq_go] using hd

/-- A cell whose CRC is one more than its own fails. -/
theorem badCell_crc (h : Hdr) (p : List Byte) (slot n : Nat) (hs : slot = h.slot) (hn : n = h.seq) :
    let cell := cellBody h p ++ beBytes 4 (cellCrc h.slot h.seq (cellBody h p) + 1)
    cellCrc slot n (cell.take 268) ≠ beAt cell 268 4 := by
  intro cell
  subst hs hn
  have hl := cellBody_length h p
  have e := beAt_append (cellBody h p) 4 (cellCrc h.slot h.seq (cellBody h p) + 1)
  rw [hl] at e
  have hc : cellCrc h.slot h.seq (cellBody h p) < 2 ^ 32 := crc32_lt _
  simp only [cell, List.take_left' hl, e]
  omega

theorem BndS.takeCell_bytes (r : BndS) (n : Nat) (lanes : List Nat) (c : List Byte) :
    (r.takeCell n lanes (.bytes c)).1.1 = if r.hurt then cutWord c else c := rfl

/-- The bytes of a cell that arrives without an error are what the receiver takes. -/
theorem State.cellIn_bytes (s : State) (b : Nat) (c : List Byte) (h0 : s.link b ≠ 0) (hl : s.looped b = false)
    (hd : ((s.rxLanes b).any fun l => ((s.bndOf b).rxLane l).discard) = false) (hh : (s.bndOf b).hurt = false) :
    (s.cellIn b (.bytes c)).1 = c := by
  unfold State.cellIn
  rw [if_neg h0, if_neg (by simp [hl]), if_neg (by simp [hd])]
  have h := BndS.takeCell_bytes (s.bndOf b) (s.stuffN b) (s.rxLanes b) c
  rw [hh] at h
  exact h

/-- When the bytes of a cell arrive (R123, R124, R126). -/
theorem State.arrives_bytes (s : State) (b : Nat) (c : List Byte) (h : Hdr)
    (e : (s.link b ≠ 0 ∧ s.looped b = false ∧ (s.bndOf b).hurt = false ∧
      ((s.rxLanes b).any fun l => ((s.bndOf b).rxLane l).discard) = false) ∧
      c ≠ [] ∧ Hdr.ofBytes c = h ∧ s.linkUp b = true ∧ s.fenced .bundle b = false ∧ h.good (b == 32) = true ∧ s.slotGood b h = true) :
    s.arrives b (.bytes c) c h :=
  ⟨s.cellIn_bytes b c e.1.1 e.1.2.1 e.1.2.2.2 e.1.2.2.1, e.2⟩

/-- When a cell that a sender makes passes its receiver's checks (R128, R132): it arrives, and carries the number expected. -/
theorem State.takes_cellOf (s : State) (b : Nat) (h : Hdr) (p : List Byte)
    (e : ((s.link b ≠ 0 ∧ s.looped b = false ∧ (s.bndOf b).hurt = false ∧
      ((s.rxLanes b).any fun l => ((s.bndOf b).rxLane l).discard) = false) ∧
      cellOf h p ≠ [] ∧ Hdr.ofBytes (cellOf h p) = h ∧ s.linkUp b = true ∧ s.fenced .bundle b = false ∧ h.good (b == 32) = true ∧
      s.slotGood b h = true) ∧ h.type ≠ 0 ∧ s.expects b h = h.seq) :
    s.takes b (.bytes (cellOf h p)) (cellOf h p) h :=
  ⟨s.arrives_bytes b _ h e.1, e.2.1, cellOf_crc h p _ _ rfl e.2.2⟩

/-- A cell of a stream that passes its checks (R128, R132): what is taken of it, and what its arrival leaves. -/
theorem State.takes_takeCell {s : State} {b : Nat} {rx : RxCell} {cell : List Byte} {h : Hdr} (e : s.takes b rx cell h) :
    s.takeCell b rx = (cell, some h, (((s.cellIn b rx).2.loopBack b cell).putNext (streamKey b h.slot h.type)
      (s.expects b h + 1)).wr Fld.CELL_LINK_INFO_FAR_EPOCH b h.epoch) := by
  obtain ⟨⟨hc, hn, rfl, hu, hf, hg, hs⟩, ht, hk⟩ := e
  subst hc
  generalize hx : (s.cellIn b rx).2.loopBack b (s.cellIn b rx).1 = x
  have bt : x.but [.rv, .bnd, .txb, .out] = s.but [.rv, .bnd, .txb, .out] := by
    rw [← hx]
    simp
  have rd : ∀ (f : Field) i, f.off [Fld.IZL_CNT_STUFF_VIOL_CNT, Fld.IZL_LINK_STAT_TX_IDLE] → x.rd f i = s.rd f i := by
    intro f i h
    simp only [Field.off_cons, Field.off_nil, and_true] at h
    rw [← hx]
    simp [h]
  have hb : x.fenced .bundle b = s.fenced .bundle b := by
    have := congrArg (fun y => y.flt.fenced) bt
    simp only [State.fenced]
    exact congrArg (fun l => tget 0 l (fenceKey .bundle b) != 0) this
  have hr : x.cell.rx = s.cell.rx := congrArg (fun y => y.cell.rx) bt
  have r1 := fun i => rd Fld.IZL_LINK_STAT_STATE i (by simp only [Field.off_cons, Field.off_nil]; decide)
  have r2 := fun i => rd Fld.CELL_SRC_BIND_EN i (by simp only [Field.off_cons, Field.off_nil]; decide)
  have r3 := fun i => rd Fld.CELL_SRC_BIND_KIND i (by simp only [Field.off_cons, Field.off_nil]; decide)
  have r4 := fun i => rd Fld.CELL_SRC_BIND_RAW i (by simp only [Field.off_cons, Field.off_nil]; decide)
  have r5 : ∀ k, x.srcLane k = s.srcLane k := by
    intro k
    simp only [State.srcLane, State.on, r2, r3, r4]
    congr
  have hl : x.linkUp b = s.linkUp b := by
    simp only [State.linkUp, State.link, r1]
  have hg' : x.slotGood b (Hdr.ofBytes (s.cellIn b rx).1) = s.slotGood b (Hdr.ofBytes (s.cellIn b rx).1) := by
    simp only [State.slotGood, r5]
  have e1 : (s.cellIn b rx).1.isEmpty = false := by simpa using hn
  simp only [State.takeCell, hx]
  generalize (s.cellIn b rx).1 = c at *
  unfold State.checkCell
  rw [if_neg (by simp [e1, hl, hu, hb, hf])]
  simp only [hg, hg', hs, hr, if_neg ht, Bool.not_true, Bool.false_eq_true, if_false]
  rw [if_pos (by simpa only [State.expects] using hk)]

end Machine

end Sys2Proof
end

