-- ==== Sys2Proof/Laws/Memory.lean ====
section
/-! SUPPORT. Every operation that writes memory keeps its canonical form, and what a read after a write answers. -/

set_option autoImplicit false

namespace Sys2Proof.Machine

theorem twf_filter {α : Type} [DecidableEq α] {d : α} {t : List (Nat × α)} (p : Nat × α → Bool) (h : twf d t = true) :
    twf d (t.filter p) = true := by
  induction t with
  | nil => rfl
  | cons x t ih =>
    have hx := (twf_cons d x t).mp h
    cases hp : p x with
    | false => simpa [hp] using ih hx.2.2
    | true =>
      rw [List.filter_cons_of_pos (by simp [hp])]
      refine (twf_cons d x _).mpr ⟨hx.1, ?_, ih hx.2.2⟩
      intro q hq
      have : q ∈ t := (List.mem_filter.mp (List.mem_of_mem_head? hq)).1
      exact twf_lt h q this

/-- All parts of the state but memory. -/
def noMem : List Part := .fuses :: allParts.filter (· ≠ .mem)

@[simp] theorem mem_noMem (p : Part) : p ∈ noMem ↔ p ≠ .mem := by
  cases p <;> decide

/-- Memory has its canonical form, in the view of a state that hides everything else: the `_but` lemmas rewrite away under it each
operation that leaves memory alone. -/
def State.memGood (v : State) : Prop := Memory.wf v.mem = true

theorem memGood_iff (s : State) : (s.but noMem).memGood ↔ Memory.wf s.mem = true := by
  have h : (s.but noMem).mem = s.mem := by simp [State.but]
  rw [State.memGood, h]

/-- An operation that leaves memory out of its parts keeps memory's form. -/
theorem wf_of_but {s t : State} (e : t.but noMem = s.but noMem) : Memory.wf t.mem = true ↔ Memory.wf s.mem = true := by
  rw [← memGood_iff, ← memGood_iff, e]

theorem State.setMem_good {s : State} {m : List Host.Cell} (h : Memory.wf m = true) : ((s.setMem m).but noMem).memGood :=
  (memGood_iff _).mpr h

@[simp] theorem State.putBytes_good (s : State) (a : Nat) (bs : List Byte) (h : (s.but noMem).memGood) :
    ((s.putBytes a bs).but noMem).memGood := State.setMem_good (twf_tputs _ ((memGood_iff s).mp h))

@[simp] theorem State.clearBytes_good (s : State) (a n : Nat) (h : (s.but noMem).memGood) :
    ((s.clearBytes a n).but noMem).memGood := State.setMem_good (twf_filter _ ((memGood_iff s).mp h))

@[simp] theorem State.copyBytes_good (s : State) (a b n : Nat) (h : (s.but noMem).memGood) :
    ((s.copyBytes a b n).but noMem).memGood := State.setMem_good (twf_tputs _ (twf_filter _ ((memGood_iff s).mp h)))

@[simp] theorem State.resetMain_good (s : State) (h : (s.but noMem).memGood) : (s.resetMain.but noMem).memGood :=
  (memGood_iff _).mpr (twf_filter _ ((memGood_iff s).mp h))

@[simp] theorem memGood_ite (c : Prop) [Decidable c] (a b : State) :
    (if c then a else b).memGood ↔ if c then a.memGood else b.memGood := by split <;> rfl

theorem foldl_good {α : Type} (f : State → α → State) (h : ∀ s a, (s.but noMem).memGood → ((f s a).but noMem).memGood)
    (l : List α) (s : State) (hs : (s.but noMem).memGood) : ((l.foldl f s).but noMem).memGood := by
  induction l generalizing s with
  | nil => exact hs
  | cons x l ih => exact ih _ (h s x hs)

theorem each_good (s : State) (l : List Nat) (f : State → Nat → State)
    (h : ∀ s a, (s.but noMem).memGood → ((f s a).but noMem).memGood) (hs : (s.but noMem).memGood) :
    ((s.each l f).but noMem).memGood := foldl_good f h l s hs

@[simp] theorem State.surfAlloc_good (s : State) (n : Nat) (b : Bool) (h : (s.but noMem).memGood) :
    ((s.surfAlloc n b).2.2.but noMem).memGood := by
  simp only [State.surfAlloc]
  repeat' split
  all_goals simp [h]

@[simp] theorem State.dropSurf_good (s : State) (n : Nat) (h : (s.but noMem).memGood) : ((s.dropSurf n).but noMem).memGood := by
  simp [State.dropSurf, h]

@[simp] theorem State.ueEffect_good (s : State) (a : UeAt) (h : (s.but noMem).memGood) : ((s.ueEffect a).but noMem).memGood := by
  cases a <;> simp [State.ueEffect, h]

@[simp] theorem State.measRecord_good (s : State) (t : Nat) (a b : Bool) (l : List GMeas) (h : (s.but noMem).memGood) :
    ((s.measRecord t a b l).but noMem).memGood := by
  simp [State.measRecord, h]

@[simp] theorem State.surfFree_good (s : State) (b : Bool) (n : Nat) (h : (s.but noMem).memGood) :
    ((s.surfFree b n).2.but noMem).memGood := by
  simp only [State.surfFree]
  repeat' split
  all_goals simp [h]

@[simp] theorem State.releaseSurfaces_good (s : State) (h : (s.but noMem).memGood) :
    (s.releaseSurfaces.but noMem).memGood := by
  refine each_good _ _ _ (fun s a h => ?_) h
  split <;> simp [h]

@[simp] theorem State.headFrame_good (s : State) (a b : Nat) (c : Bool) (h : (s.but noMem).memGood) :
    ((s.headFrame a b c).but noMem).memGood := by
  unfold State.headFrame
  apply State.releaseSurfaces_good
  simp [h]

@[simp] theorem State.bulkWrite_good (s : State) (a b : Bool) (n o : Nat) (d : List Byte) (h : (s.but noMem).memGood) :
    ((s.bulkWrite a b n o d).state.but noMem).memGood := by
  simp only [State.bulkWrite]
  repeat' split
  all_goals simp [h]

@[simp] theorem State.eraseStaging_good (s : State) (h : (s.but noMem).memGood) : (s.eraseStaging.but noMem).memGood := by
  simp [State.eraseStaging, h]

@[simp] theorem State.beginStart_good (s : State) (n : Nat) (b : Bool) (h : (s.but noMem).memGood) :
    ((s.beginStart n b).but noMem).memGood := by
  simp [State.beginStart, h]

@[simp] theorem State.restart_good (s : State) (h : (s.but noMem).memGood) : (s.restart.but noMem).memGood := by
  simp [State.restart, h]

@[simp] theorem State.restartIfDue_good (s : State) (h : (s.but noMem).memGood) : (s.restartIfDue.but noMem).memGood := by
  unfold State.restartIfDue
  split <;> simp [h]

@[simp] theorem State.leaveCellar_good (s : State) (b : Bool) (h : (s.but noMem).memGood) :
    ((s.leaveCellar b).but noMem).memGood := State.beginStart_good s 4 b h

@[simp] theorem State.allocSurf_good (s : State) (n : Nat) (a b : Bool) (h : (s.but noMem).memGood) :
    ((s.allocSurf n a b).state.but noMem).memGood := by
  simp only [State.allocSurf]
  repeat' split
  all_goals simp [h]

@[simp] theorem State.mirrored_good (s : State) (op : MirOp) (t : Nat) (h : (s.but noMem).memGood) :
    ((s.mirrored op t).2.but noMem).memGood := by
  unfold State.mirrored
  split <;> (repeat' split) <;> simp [h]

@[simp] theorem State.stage2_good (s : State) (h : (s.but noMem).memGood) : (s.stage2.but noMem).memGood := by
  simp only [State.stage2]
  repeat' split
  all_goals simp [h]

end Sys2Proof.Machine
end

