-- ==== Sys2Proof/Laws/Exec.lean ====
section
/-! SUPPORT. What the common frames of the commands leave alone, whatever the command does inside them: `onMain`, `onKeep`, the
requests of a session and the register writes. -/

set_option autoImplicit false

namespace Sys2Proof.Machine

theorem onMain_eq (dt : Nat) (s : State) (f : State → State) :
    onMain dt s f = .next (if s.iso then s.start dt else (f (s.start dt)).settleSets) := rfl

theorem onKeep_eq (dt : Nat) (s : State) (f : State → State) :
    onKeep dt s f = .next (if s.por then s.start dt else f (s.start dt)) := rfl

/-! Memory's form. -/

theorem onMain_good {dt : Nat} {s t : State} {f : State → State}
    (h : ∀ x, (x.but noMem).memGood → ((f x).but noMem).memGood) (e : onMain dt s f = .next t)
    (w : Memory.wf s.mem = true) : Memory.wf t.mem = true := by
  rw [← memGood_iff] at w ⊢
  cases e
  split <;> simp [h, w]

theorem onKeep_good {dt : Nat} {s t : State} {f : State → State}
    (h : ∀ x, (x.but noMem).memGood → ((f x).but noMem).memGood) (e : onKeep dt s f = .next t)
    (w : Memory.wf s.mem = true) : Memory.wf t.mem = true := by
  rw [← memGood_iff] at w ⊢
  cases e
  split <;> simp [h, w]

/-- A command of the main islands whose effect leaves memory alone. -/
theorem onMain_wf {dt : Nat} {s t : State} {f : State → State} (h : ∀ x, (f x).but noMem = x.but noMem)
    (e : onMain dt s f = .next t) (w : Memory.wf s.mem = true) : Memory.wf t.mem = true :=
  onMain_good (fun x hx => (h x).symm ▸ hx) e w

/-- A command of the keep-alive island whose effect leaves memory alone. -/
theorem onKeep_wf {dt : Nat} {s t : State} {f : State → State} (h : ∀ x, (f x).but noMem = x.but noMem)
    (e : onKeep dt s f = .next t) (w : Memory.wf s.mem = true) : Memory.wf t.mem = true :=
  onKeep_good (fun x hx => (h x).symm ▸ hx) e w

@[simp] theorem State.rxFrame_good (s : State) (p n : Nat) (f : State → State)
    (hf : ∀ x, (x.but noMem).memGood → ((f x).but noMem).memGood) (w : (s.but noMem).memGood) :
    ((s.rxFrame p n f).but noMem).memGood := by
  simp only [State.rxFrame, State.rxChecked]
  repeat' split
  all_goals simp [hf, w]

@[simp] theorem State.sideIn_good (s : State) (b n : Nat) (rx : RxCell) (f : State → List Byte → State)
    (hf : ∀ x m, (x.but noMem).memGood → ((f x m).but noMem).memGood) (w : (s.but noMem).memGood) :
    ((s.sideIn b n rx f).but noMem).memGood := by
  simp only [State.sideIn]
  repeat' split
  all_goals simp [hf, w]

@[simp] theorem State.mantleIn_good (s : State) (rx : RxCell) (n : Nat) (f : State → MantleIn → State)
    (hf : ∀ x m, (x.but noMem).memGood → ((f x m).but noMem).memGood) (w : (s.but noMem).memGood) :
    ((s.mantleIn rx n f).but noMem).memGood := by
  refine State.sideIn_good _ _ _ _ _ (fun x m hx => ?_) w
  split
  · exact hf _ _ hx
  · exact hx

@[simp] theorem State.relayIn_good (s : State) (b : Nat) (rx : RxCell) (n : Nat) (f : State → RelayIn → State)
    (hf : ∀ x m, (x.but noMem).memGood → ((f x m).but noMem).memGood) (w : (s.but noMem).memGood) :
    ((s.relayIn b rx n f).but noMem).memGood := by
  refine State.sideIn_good _ _ _ _ _ (fun x m hx => ?_) w
  split
  · exact hf _ _ hx
  · exact hx

@[simp] theorem State.hcpIn_good (s : State) (h : HcpReq) (f : State → State)
    (hf : ∀ x, (x.but noMem).memGood → ((f x).but noMem).memGood) (w : (s.but noMem).memGood) :
    ((s.hcpIn h f).but noMem).memGood := by
  simp only [State.hcpIn]
  split
  · exact w
  · refine State.rxFrame_good _ _ _ _ (fun x hx => ?_) w
    repeat' split
    all_goals simp [hf, hx]

theorem hcpRequest_good {dt : Nat} {h : HcpReq} {op : Nat} {right : Option Nat} {inHem : Bool} {run : State → Nat → Done}
    {s t : State} (hr : ∀ x k, (x.but noMem).memGood → ((run x k).state.but noMem).memGood)
    (e : hcpRequest dt h op right inHem run s = .next t) (w : Memory.wf s.mem = true) : Memory.wf t.mem = true := by
  refine onMain_good (fun x hx => State.hcpIn_good _ _ _ (fun x hx => ?_) hx) e w
  dsimp only
  repeat' split
  all_goals first
    | (simp [hx]; done)
    | (refine State.restartIfDue_good _ ?_
       rw [State.respond_but (h := by simp)]
       exact hr _ _ (by simp [hx]))

theorem csRequest_good {dt : Nat} {h : HcpReq} {op set : Nat} {run : State → Done} {s t : State}
    (hr : ∀ x, (x.but noMem).memGood → ((run x).state.but noMem).memGood)
    (e : csRequest dt h op set run s = .next t) (w : Memory.wf s.mem = true) : Memory.wf t.mem = true := by
  refine hcpRequest_good (fun x _ hx => ?_) e w
  split <;> simp [hr, hx]

theorem imageRequest_good {dt : Nat} {h : HcpReq} {op : Nat} {inHem : Bool} {run : State → Nat → Done} {s t : State}
    (hr : ∀ x k, (x.but noMem).memGood → ((run x k).state.but noMem).memGood)
    (e : imageRequest dt h op inHem run s = .next t) (w : Memory.wf s.mem = true) : Memory.wf t.mem = true :=
  hcpRequest_good (fun x _ hx => hr x _ hx) e w

theorem writeCommand_wf {dt : Nat} {m : Master} {r : Reg} {i : Nat} {hi : Bool} {v k : Nat} {s t : State}
    (e : writeCommand dt m r i hi v k s = .next t) (w : Memory.wf s.mem = true) : Memory.wf t.mem = true :=
  onMain_good (fun x hx => by simp [hx]) e w

/-! Parts of the state (Safety.lean, `State.but`). -/

theorem onMain_but {dt : Nat} {s t : State} {f : State → State} {k : List Part} (e : onMain dt s f = .next t)
    (hs : ∀ p ∈ [Part.out, .up, .now, .rv, .cs, .sess, .follow, .txb, .egr], p ∈ k) (h : ∀ x, (f x).but k = x.but k) : t.but k = s.but k := by
  simp only [List.mem_cons, forall_eq_or_imp, List.not_mem_nil, false_implies, implies_true, and_true] at hs
  cases e
  split <;> simp [h, hs]

theorem onKeep_but {dt : Nat} {s t : State} {f : State → State} {k : List Part} (e : onKeep dt s f = .next t)
    (hs : ∀ p ∈ [Part.out, .up, .now], p ∈ k) (h : ∀ x, (f x).but k = x.but k) : t.but k = s.but k := by
  simp only [List.mem_cons, forall_eq_or_imp, List.not_mem_nil, false_implies, implies_true, and_true] at hs
  cases e
  split <;> simp [h, hs]

theorem hcpRequest_but {dt : Nat} {h : HcpReq} {op : Nat} {right : Option Nat} {inHem : Bool} {run : State → Nat → Done}
    {s t : State} {k : List Part} (e : hcpRequest dt h op right inHem run s = .next t) (hs : ∀ p ∈ requestParts, p ∈ k)
    (hr : ∀ x n, (run x n).state.but k = x.but k) : t.but k = s.but k := by
  simp only [requestParts, List.mem_cons, forall_eq_or_imp, List.not_mem_nil, false_implies, implies_true, and_true] at hs
  refine onMain_but e (by simp [hs]) (fun x => ?_)
  refine State.hcpIn_but _ _ _ k (by simp [hs]) ?_
  intro x
  dsimp only
  repeat' split
  all_goals simp [hr, hs]

/-! Register fields. -/

theorem onMain_rd {dt : Nat} {s t : State} {g : State → State} {f : Field} {i : Nat} (e : onMain dt s g = .next t)
    (hs : f.off settleFields) (h : ∀ x, (g x).rd f i = x.rd f i) : t.rd f i = s.rd f i := by
  simp only [settleFields, Field.off_cons, Field.off_nil, and_true] at hs
  cases e
  split <;> simp [h, hs]

theorem onKeep_rd {dt : Nat} {s t : State} {g : State → State} {f : Field} {i : Nat} (e : onKeep dt s g = .next t)
    (h : ∀ x, (g x).rd f i = x.rd f i) : t.rd f i = s.rd f i := by
  cases e
  split <;> simp [h]

end Sys2Proof.Machine
end

