-- ==== Sys2Proof/Laws/Settle.lean ====
section
/-! SUPPORT. What following the change sets after a command leaves alone, what has been sent stays sent, and a command's frame
(Safety.lean, `Framed`). -/

set_option autoImplicit false

namespace Sys2Proof.Machine

/-! What has been sent stays sent. -/

/-- Every output of `s` is one of `t`. -/
def Sent (s t : State) : Prop := ∀ o ∈ s.out, o ∈ t.out

theorem Sent.refl (s : State) : Sent s s := fun _ h => h
theorem Sent.trans {a b c : State} (h : Sent a b) (k : Sent b c) : Sent a c := fun o m => k o (h o m)
theorem Sent.of_out {s t : State} (h : t.out = s.out) : Sent s t := fun _ m => h ▸ m
theorem sent_emit (s : State) (o : Output) : Sent s (s.emit o) := fun x m => by
  simp [State.emit, State.setOut, m]
theorem sent_foldl {α : Type} (f : State → α → State) (h : ∀ s a, Sent s (f s a)) (l : List α) (s : State) :
    Sent s (l.foldl f s) := by
  induction l generalizing s with
  | nil => exact Sent.refl s
  | cons a l ih => exact (h s a).trans (ih _)
theorem Sent.emit {s t : State} (h : Sent s t) (o : Output) : Sent s (t.emit o) := h.trans (sent_emit t o)
theorem Sent.putTxb {s t : State} (h : Sent s t) (b : Nat) (r : TxS) : Sent s (t.putTxb b r) := h.trans (Sent.of_out rfl)
theorem Sent.putTx {s t : State} (h : Sent s t) (b l : Nat) (r : LaneTx) : Sent s (t.putTx b l r) := h.trans (Sent.of_out rfl)
theorem Sent.wr {s t : State} (h : Sent s t) (f : Field) (i v : Nat) : Sent s (t.wr f i v) := h.trans (Sent.of_out rfl)
theorem Sent.ite {s a b : State} {c : Prop} [Decidable c] (h : Sent s a) (k : Sent s b) : Sent s (if c then a else b) := by
  split
  · exact h
  · exact k
theorem Sent.each {s t : State} (h : Sent s t) (l : List Nat) (f : State → Nat → State) (k : ∀ s a, Sent s (f s a)) :
    Sent s (t.each l f) := h.trans (sent_foldl f k l t)
theorem Sent.laneSend {s t : State} (h : Sent s t) (b l : Nat) (d : List Byte) : Sent s (t.laneSend b l d) := by
  unfold State.laneSend
  exact (h.putTx _ _ _).emit _
theorem Sent.sendWord {s t : State} (h : Sent s t) (b l : Nat) (d : List Byte) : Sent s (t.sendWord b l d) := by
  unfold State.sendWord
  exact Sent.ite (((h.emit _).laneSend _ _ _).putTxb _ _) ((h.emit _).laneSend _ _ _)
theorem Sent.dataWord {s t : State} (h : Sent s t) (b l : Nat) (d : List Byte) : Sent s (t.dataWord b l d) := by
  unfold State.dataWord
  exact Sent.ite ((h.putTx _ _ _).emit _) ((((h.putTx _ _ _).emit _).sendWord _ _ _).putTx _ _ _)
theorem Sent.drainLane {s t : State} (h : Sent s t) (b l n : Nat) : Sent s (t.drainLane b l n) := by
  induction n generalizing t with
  | zero => exact h
  | succ n ih => unfold State.drainLane; exact Sent.ite h (ih ((h.putTx _ _ _).dataWord _ _ _))
theorem Sent.rawCell {s t : State} (h : Sent s t) (b after : Nat) (cell : List Byte) : Sent s (t.rawCell b after cell) := by
  unfold State.rawCell
  refine Sent.each (Sent.ite (((h.emit _).putTxb _ _).putTxb _ _) ((h.emit _).putTxb _ _)) _ _ fun s k => ?_
  exact ((Sent.refl s).putTx _ _ _).drainLane _ _ _
theorem Sent.txWake {s t : State} (h : Sent s t) (b : Nat) : Sent s (t.txWake b) := by
  unfold State.txWake
  refine Sent.ite h (Sent.putTxb (Sent.each (Sent.ite (h.wr _ _ _) ((h.wr _ _ _).emit _)) _ _ fun s l => ?_) _ _)
  exact sent_emit s _
theorem Sent.sendBytes {s t : State} (h : Sent s t) (b after : Nat) (cell : List Byte) : Sent s (t.sendBytes b after cell) := by
  unfold State.sendBytes
  refine Sent.ite h (Sent.ite ?_ ?_)
  · exact ((h.txWake b).putTxb _ _).putTxb _ _
  · exact ((h.txWake b).putTxb _ _).rawCell _ _ _
theorem Sent.sendCell {s t : State} (h : Sent s t) (b ty slot fmt : Nat) (p : List Byte) : Sent s (t.sendCell b ty slot fmt p) := by
  unfold State.sendCell State.sendHdr
  exact Sent.ite (h.putTxb _ _) ((h.putTxb _ _).sendBytes _ _ _)
theorem Sent.sideCell {s t : State} (h : Sent s t) (b : Nat) (first : Bool) (p : List Byte) : Sent s (t.sideCell b first p) := by
  unfold State.sideCell
  exact Sent.ite ((h.putTxb _ _).sendCell _ _ _ _ _) (Sent.ite (h.putTxb _ _) h)
theorem Sent.sideFrags {s t : State} (h : Sent s t) (b chan id n k : Nat) (d : List Byte) :
    Sent s (t.sideFrags b chan id n k d) := by
  induction n generalizing t k d with
  | zero => exact h
  | succ n ih => unfold State.sideFrags; exact Sent.ite (h.sideCell _ _ _) (ih (h.sideCell _ _ _) _ _)
theorem Sent.sideSend {s t : State} (h : Sent s t) (b chan : Nat) (d : List Byte) : Sent s (t.sideSend b chan d) := by
  unfold State.sideSend
  exact (h.putTxb _ _).sideFrags _ _ _ _ _ _
theorem sent_txLeave (s : State) (p : Nat) (x : TxItem) : Sent s (s.txLeave p x) := by
  unfold State.txLeave
  cases x.flow <;> exact Sent.emit (Sent.of_out rfl) _
theorem sent_txItem (s : State) (p : Nat) (x : TxItem) : Sent s (s.txItem p x) := by
  unfold State.txItem
  refine Sent.ite (Sent.ite (Sent.of_out rfl) (Sent.refl s)) (Sent.ite (Sent.of_out rfl) (sent_txLeave s p x))
theorem sent_txFrame (s : State) (p n : Nat) (o : Output) (m : TxMark) : Sent s (s.txFrame p n o m) := sent_txItem _ _ _
theorem sent_flush (s : State) (k : Nat) : Sent s (s.flush k) := by
  unfold State.flush
  dsimp only
  generalize sendQueued _ _ _ _ = q
  generalize hx : s.putSess k _ = x
  have h : Sent s x := Sent.of_out (by rw [← hx]; rfl)
  refine h.trans (sent_foldl _ (fun s a => ?_) _ _)
  split
  · exact sent_txFrame _ _ _ _ _
  · exact sent_emit _ _
theorem sent_event (s : State) (c k i : Nat) (d : List Byte) : Sent s (s.event c k i d) := by
  unfold State.event State.each
  refine sent_foldl _ (fun s n => ?_) _ _
  dsimp only
  split
  · generalize hx : s.putSess n _ = x
    have h : Sent s x := Sent.of_out (by rw [← hx]; rfl)
    have h2 := h.trans (sent_flush x n)
    split
    · exact h2
    · exact h2
  · exact Sent.refl s
theorem sent_csGo (s : State) (n : Nat) (c : ChangeSet) (v : Nat) : Sent s (s.csGo n c v) :=
  sent_event (s.putCs n { c with state := v }) _ _ _ _
theorem sent_mantle (s : State) (m : MantleMsg) : Sent s (s.mantle m) := by
  unfold State.mantle
  exact Sent.ite ((sent_emit s _).sideSend _ _ _) (Sent.refl s)
theorem sent_learnSet (s : State) (n : Nat) : Sent s (s.learnSet n) := by
  have h := congrArg State.out (State.learnSet_but s n [.follow, .rv] (by simp))
  exact Sent.of_out (by simpa [State.but] using h)
theorem sent_commitSet (s : State) (n a : Nat) : Sent s (s.commitSet n a) := by
  unfold State.commitSet
  dsimp only
  generalize (if (s.csOf n).now = true then _ else _ : ChangeSet) = c
  have h := sent_csGo s n c 4
  have key : ∀ x : State, Sent s x → Sent s (if x.role = .holder && x.mirrors then
      if hn : n < 32 then x.mantle (.mirror (.commit ⟨n, hn⟩) x.now .ok) else x else x) := by
    intro x hx
    split
    · split
      · exact hx.trans (sent_mantle _ _)
      · exact hx
    · exact hx
  refine key _ ?_
  split
  · exact h.trans (sent_learnSet _ _)
  · exact h
theorem sent_settleSet (s : State) (n : Nat) : Sent s (s.settleSet n) := by
  unfold State.settleSet
  dsimp only
  split
  · exact Sent.refl s
  split
  · split
    · exact Sent.refl s
    · exact sent_mantle (s.putCs n _) _
  split
  · exact sent_commitSet _ _ _
  · exact Sent.refl s
theorem sent_settleSets (s : State) : Sent s s.settleSets := by
  unfold State.settleSets State.each
  exact sent_foldl _ (fun s n => sent_settleSet s n) _ _

/-! The parts that following the change sets leaves. -/

theorem State.settleSets_keep (s : State) :
    s.settleSets.but [.cs, .sess, .follow, .out, .rv, .txb, .egr] = s.but [.cs, .sess, .follow, .out, .rv, .txb, .egr] :=
  State.settleSets_but s _ (by simp)

@[simp] theorem State.settleSets_pending (s : State) : s.settleSets.pending = s.pending := by
  have h := congrArg State.pending s.settleSets_keep
  exact h
@[simp] theorem State.settleSets_iso (s : State) : s.settleSets.iso = s.iso := by
  have h := congrArg State.iso s.settleSets_keep
  exact h
@[simp] theorem State.settleSets_por (s : State) : s.settleSets.por = s.por := by
  have h := congrArg State.por s.settleSets_keep
  exact h
@[simp] theorem State.settleSets_now (s : State) : s.settleSets.now = s.now := by
  have h := congrArg State.now s.settleSets_keep
  exact h
@[simp] theorem State.settleSets_up (s : State) : s.settleSets.up = s.up := by
  have h := congrArg State.up s.settleSets_keep
  exact h
@[simp] theorem State.settleSets_freeCtr (s : State) : s.settleSets.freeCtr = s.freeCtr := by
  have h := congrArg State.freeCtr s.settleSets_keep
  exact h
@[simp] theorem State.settleSets_staged (s : State) : s.settleSets.staged = s.staged := by
  have h := congrArg State.staged s.settleSets_keep
  exact h
@[simp] theorem State.settleSets_ord (s : State) : s.settleSets.ord = s.ord := by
  have h := congrArg State.ord s.settleSets_keep
  exact h
@[simp] theorem State.settleSets_held (s : State) : s.settleSets.held = s.held := by
  have h := congrArg State.held s.settleSets_keep
  exact h
@[simp] theorem State.settleSets_flt (s : State) : s.settleSets.flt = s.flt := by
  have h := congrArg State.flt s.settleSets_keep
  exact h
@[simp] theorem State.settleSets_bnd (s : State) : s.settleSets.bnd = s.bnd := by
  have h := congrArg State.bnd s.settleSets_keep
  exact h
@[simp] theorem State.settleSets_cell (s : State) : s.settleSets.cell = s.cell := by
  have h := congrArg State.cell s.settleSets_keep
  exact h
@[simp] theorem State.settleSets_src (s : State) : s.settleSets.src = s.src := by
  have h := congrArg State.src s.settleSets_keep
  exact h
@[simp] theorem State.settleSets_dst (s : State) : s.settleSets.dst = s.dst := by
  have h := congrArg State.dst s.settleSets_keep
  exact h
@[simp] theorem State.settleSets_cask (s : State) : s.settleSets.cask = s.cask := by
  have h := congrArg State.cask s.settleSets_keep
  exact h
@[simp] theorem State.settleSets_head (s : State) : s.settleSets.head = s.head := by
  have h := congrArg State.head s.settleSets_keep
  exact h
@[simp] theorem State.settleSets_bound (s : State) : s.settleSets.bound = s.bound := by
  have h := congrArg State.bound s.settleSets_keep
  exact h
@[simp] theorem State.settleSets_mntl (s : State) : s.settleSets.mntl = s.mntl := by
  have h := congrArg State.mntl s.settleSets_keep
  exact h
@[simp] theorem State.settleSets_aprt (s : State) : s.settleSets.aprt = s.aprt := by
  have h := congrArg State.aprt s.settleSets_keep
  exact h
@[simp] theorem State.settleSets_eth (s : State) : s.settleSets.eth = s.eth := by
  have h := congrArg State.eth s.settleSets_keep
  exact h
@[simp] theorem State.settleSets_kiln (s : State) : s.settleSets.kiln = s.kiln := by
  have h := congrArg State.kiln s.settleSets_keep
  exact h
@[simp] theorem State.settleSets_gnss (s : State) : s.settleSets.gnss = s.gnss := by
  have h := congrArg State.gnss s.settleSets_keep
  exact h
@[simp] theorem State.settleSets_tsvc (s : State) : s.settleSets.tsvc = s.tsvc := by
  have h := congrArg State.tsvc s.settleSets_keep
  exact h
@[simp] theorem State.settleSets_hop (s : State) : s.settleSets.hop = s.hop := by
  have h := congrArg State.hop s.settleSets_keep
  exact h
@[simp] theorem State.settleSets_boot (s : State) : s.settleSets.boot = s.boot := by
  have h := congrArg State.boot s.settleSets_keep
  exact h
@[simp] theorem State.settleSets_pwr (s : State) : s.settleSets.pwr = s.pwr := by
  have h := congrArg State.pwr s.settleSets_keep
  exact h
@[simp] theorem State.settleSets_latch (s : State) : s.settleSets.latch = s.latch := by
  have h := congrArg State.latch s.settleSets_keep
  exact h
@[simp] theorem State.settleSets_parked (s : State) : s.settleSets.parked = s.parked := by
  have h := congrArg State.parked s.settleSets_keep
  exact h
@[simp] theorem State.settleSets_mirror (s : State) : s.settleSets.mirror = s.mirror := by
  have h := congrArg State.mirror s.settleSets_keep
  exact h
@[simp] theorem State.settleSets_mem (s : State) : s.settleSets.mem = s.mem := by
  have h := congrArg State.mem s.settleSets_keep
  exact h
@[simp] theorem State.settleSets_hcp_opens (s : State) : s.settleSets.hcp.opens = s.hcp.opens := by
  have h := congrArg (fun x => x.hcp.opens) s.settleSets_keep
  exact h
@[simp] theorem State.settleSets_hcp_snaps (s : State) : s.settleSets.hcp.snaps = s.hcp.snaps := by
  have h := congrArg (fun x => x.hcp.snaps) s.settleSets_keep
  exact h
@[simp] theorem State.settleSets_hcp_reqSec (s : State) : s.settleSets.hcp.reqSec = s.hcp.reqSec := by
  have h := congrArg (fun x => x.hcp.reqSec) s.settleSets_keep
  exact h
@[simp] theorem State.settleSets_hcp_reqN (s : State) : s.settleSets.hcp.reqN = s.hcp.reqN := by
  have h := congrArg (fun x => x.hcp.reqN) s.settleSets_keep
  exact h
@[simp] theorem State.settleSets_hcp_plainSec (s : State) : s.settleSets.hcp.plainSec = s.hcp.plainSec := by
  have h := congrArg (fun x => x.hcp.plainSec) s.settleSets_keep
  exact h
@[simp] theorem State.settleSets_hcp_plainN (s : State) : s.settleSets.hcp.plainN = s.hcp.plainN := by
  have h := congrArg (fun x => x.hcp.plainN) s.settleSets_keep
  exact h
@[simp] theorem State.settleSets_mash_n (s : State) : s.settleSets.mash.n = s.mash.n := by
  have h := congrArg (fun x => x.mash.n) s.settleSets_keep
  exact h
@[simp] theorem State.settleSets_mash_hist (s : State) : s.settleSets.mash.hist = s.mash.hist := by
  have h := congrArg (fun x => x.mash.hist) s.settleSets_keep
  exact h
@[simp] theorem State.settleSets_mash_inq (s : State) : s.settleSets.mash.inq = s.mash.inq := by
  have h := congrArg (fun x => x.mash.inq) s.settleSets_keep
  exact h
@[simp] theorem State.settleSets_mash_lane (s : State) : s.settleSets.mash.lane = s.mash.lane := by
  have h := congrArg (fun x => x.mash.lane) s.settleSets_keep
  exact h
@[simp] theorem State.settleSets_mash_flowRec (s : State) : s.settleSets.mash.flowRec = s.mash.flowRec := by
  have h := congrArg (fun x => x.mash.flowRec) s.settleSets_keep
  exact h
@[simp] theorem State.settleSets_mash_rateBad (s : State) : s.settleSets.mash.rateBad = s.mash.rateBad := by
  have h := congrArg (fun x => x.mash.rateBad) s.settleSets_keep
  exact h
@[simp] theorem State.settleSets_mash_route (s : State) : s.settleSets.mash.route = s.mash.route := by
  have h := congrArg (fun x => x.mash.route) s.settleSets_keep
  exact h
@[simp] theorem State.settleSets_mash_entry (s : State) : s.settleSets.mash.entry = s.mash.entry := by
  have h := congrArg (fun x => x.mash.entry) s.settleSets_keep
  exact h
@[simp] theorem State.settleSets_mash_slip (s : State) : s.settleSets.mash.slip = s.mash.slip := by
  have h := congrArg (fun x => x.mash.slip) s.settleSets_keep
  exact h
@[simp] theorem State.settleSets_mash_bus (s : State) : s.settleSets.mash.bus = s.mash.bus := by
  have h := congrArg (fun x => x.mash.bus) s.settleSets_keep
  exact h
@[simp] theorem State.settleSets_mash_swapAt (s : State) : s.settleSets.mash.swapAt = s.mash.swapAt := by
  have h := congrArg (fun x => x.mash.swapAt) s.settleSets_keep
  exact h
@[simp] theorem State.settleSets_mash_out (s : State) : s.settleSets.mash.out = s.mash.out := by
  have h := congrArg (fun x => x.mash.out) s.settleSets_keep
  exact h
@[simp] theorem State.settleSets_mash_txq (s : State) : s.settleSets.mash.txq = s.mash.txq := by
  have h := congrArg (fun x => x.mash.txq) s.settleSets_keep
  exact h
@[simp] theorem State.settleSets_mash_txSeq (s : State) : s.settleSets.mash.txSeq = s.mash.txSeq := by
  have h := congrArg (fun x => x.mash.txSeq) s.settleSets_keep
  exact h
@[simp] theorem State.settleSets_mash_silentFrom (s : State) : s.settleSets.mash.silentFrom = s.mash.silentFrom := by
  have h := congrArg (fun x => x.mash.silentFrom) s.settleSets_keep
  exact h

/-! Frames. -/

/-- The frame of a command of the main islands is that of its own effect. -/
theorem Framed.settle {dt : Nat} {s x : State} {ps : List (Field × Nat)} {k : List Part} (hu : x.up = s.up + dt)
    (hn : x.now = (s.start dt).now) (hb : x.but (mainParts ++ k) = s.but (mainParts ++ k))
    (hr : ∀ f i, (∀ p ∈ ps, p.1.at p.2 ≠ f.at i) → x.rd f i = s.rd f i) :
    Framed dt s x.settleSets ps k := by
  refine ⟨by simp [hu], by simp [hn]; rfl, ?_, ?_⟩
  · rw [State.settleSets_but x _ (by simp [mainParts, timeParts]), hb]
  · intro f i hs hp
    rw [State.settleSets_rd x f i hs, hr f i hp]

/-- The frame of a command of the keep-alive island is that of its own effect. -/
theorem Framed.keep {dt : Nat} {s x : State} {ps : List (Field × Nat)} {k : List Part} (hu : x.up = s.up + dt)
    (hn : x.now = (s.start dt).now) (hb : x.but (mainParts ++ k) = s.but (mainParts ++ k))
    (hr : ∀ f i, (∀ p ∈ ps, p.1.at p.2 ≠ f.at i) → x.rd f i = s.rd f i) : Framed dt s x ps k :=
  ⟨hu, hn.trans rfl, hb, fun f i _ hp => hr f i hp⟩

/-- A write leaves every place but its own. -/
theorem State.rd_wr_place (s : State) (g : Field) (j v : Nat) (f : Field) (i : Nat) (h : g.at j ≠ f.at i) :
    (s.wr g j v).rd f i = s.rd f i := tget_tput_any _ _ _ _ _ _ fun x => h x.symm

end Sys2Proof.Machine
end

