-- ==== Sys2Proof/Laws/State.lean ====
section
/-! SUPPORT. Each update of the state and each part: the part it changes, and every other part unchanged, by computation. -/

set_option autoImplicit false

namespace Sys2Proof.Machine

@[simp] theorem State.wr_pending (s : State) (f : Field) (i v : Nat) : (s.wr f i v).pending = s.pending := rfl
@[simp] theorem State.wr_iso (s : State) (f : Field) (i v : Nat) : (s.wr f i v).iso = s.iso := rfl
@[simp] theorem State.wr_por (s : State) (f : Field) (i v : Nat) : (s.wr f i v).por = s.por := rfl
@[simp] theorem State.wr_out (s : State) (f : Field) (i v : Nat) : (s.wr f i v).out = s.out := rfl
@[simp] theorem State.wr_now (s : State) (f : Field) (i v : Nat) : (s.wr f i v).now = s.now := rfl
@[simp] theorem State.wr_up (s : State) (f : Field) (i v : Nat) : (s.wr f i v).up = s.up := rfl
@[simp] theorem State.wr_freeCtr (s : State) (f : Field) (i v : Nat) : (s.wr f i v).freeCtr = s.freeCtr := rfl
@[simp] theorem State.wr_staged (s : State) (f : Field) (i v : Nat) : (s.wr f i v).staged = s.staged := rfl
@[simp] theorem State.wr_ord (s : State) (f : Field) (i v : Nat) : (s.wr f i v).ord = s.ord := rfl
@[simp] theorem State.wr_held (s : State) (f : Field) (i v : Nat) : (s.wr f i v).held = s.held := rfl
@[simp] theorem State.wr_cs (s : State) (f : Field) (i v : Nat) : (s.wr f i v).cs = s.cs := rfl
@[simp] theorem State.wr_flt (s : State) (f : Field) (i v : Nat) : (s.wr f i v).flt = s.flt := rfl
@[simp] theorem State.wr_bnd (s : State) (f : Field) (i v : Nat) : (s.wr f i v).bnd = s.bnd := rfl
@[simp] theorem State.wr_cell (s : State) (f : Field) (i v : Nat) : (s.wr f i v).cell = s.cell := rfl
@[simp] theorem State.wr_src (s : State) (f : Field) (i v : Nat) : (s.wr f i v).src = s.src := rfl
@[simp] theorem State.wr_dst (s : State) (f : Field) (i v : Nat) : (s.wr f i v).dst = s.dst := rfl
@[simp] theorem State.wr_cask (s : State) (f : Field) (i v : Nat) : (s.wr f i v).cask = s.cask := rfl
@[simp] theorem State.wr_head (s : State) (f : Field) (i v : Nat) : (s.wr f i v).head = s.head := rfl
@[simp] theorem State.wr_bound (s : State) (f : Field) (i v : Nat) : (s.wr f i v).bound = s.bound := rfl
@[simp] theorem State.wr_mntl (s : State) (f : Field) (i v : Nat) : (s.wr f i v).mntl = s.mntl := rfl
@[simp] theorem State.wr_mash (s : State) (f : Field) (i v : Nat) : (s.wr f i v).mash = s.mash := rfl
@[simp] theorem State.wr_aprt (s : State) (f : Field) (i v : Nat) : (s.wr f i v).aprt = s.aprt := rfl
@[simp] theorem State.wr_eth (s : State) (f : Field) (i v : Nat) : (s.wr f i v).eth = s.eth := rfl
@[simp] theorem State.wr_kiln (s : State) (f : Field) (i v : Nat) : (s.wr f i v).kiln = s.kiln := rfl
@[simp] theorem State.wr_gnss (s : State) (f : Field) (i v : Nat) : (s.wr f i v).gnss = s.gnss := rfl
@[simp] theorem State.wr_tsvc (s : State) (f : Field) (i v : Nat) : (s.wr f i v).tsvc = s.tsvc := rfl
@[simp] theorem State.wr_hcp (s : State) (f : Field) (i v : Nat) : (s.wr f i v).hcp = s.hcp := rfl
@[simp] theorem State.wr_hop (s : State) (f : Field) (i v : Nat) : (s.wr f i v).hop = s.hop := rfl
@[simp] theorem State.wr_boot (s : State) (f : Field) (i v : Nat) : (s.wr f i v).boot = s.boot := rfl
@[simp] theorem State.wr_pwr (s : State) (f : Field) (i v : Nat) : (s.wr f i v).pwr = s.pwr := rfl
@[simp] theorem State.wr_latch (s : State) (f : Field) (i v : Nat) : (s.wr f i v).latch = s.latch := rfl
@[simp] theorem State.wr_parked (s : State) (f : Field) (i v : Nat) : (s.wr f i v).parked = s.parked := rfl
@[simp] theorem State.wr_mem (s : State) (f : Field) (i v : Nat) : (s.wr f i v).mem = s.mem := rfl
@[simp] theorem State.wr_txb (s : State) (f : Field) (i v : Nat) : (s.wr f i v).txb = s.txb := rfl
@[simp] theorem State.wr_mirror (s : State) (f : Field) (i v : Nat) : (s.wr f i v).mirror = s.mirror := rfl
@[simp] theorem State.wr_egr (s : State) (f : Field) (i v : Nat) : (s.wr f i v).egr = s.egr := rfl
@[simp] theorem State.flag_pending (s : State) (f : Field) (i : Nat) (b : Bool) : (s.flag f i b).pending = s.pending := rfl
@[simp] theorem State.flag_iso (s : State) (f : Field) (i : Nat) (b : Bool) : (s.flag f i b).iso = s.iso := rfl
@[simp] theorem State.flag_por (s : State) (f : Field) (i : Nat) (b : Bool) : (s.flag f i b).por = s.por := rfl
@[simp] theorem State.flag_out (s : State) (f : Field) (i : Nat) (b : Bool) : (s.flag f i b).out = s.out := rfl
@[simp] theorem State.flag_now (s : State) (f : Field) (i : Nat) (b : Bool) : (s.flag f i b).now = s.now := rfl
@[simp] theorem State.flag_up (s : State) (f : Field) (i : Nat) (b : Bool) : (s.flag f i b).up = s.up := rfl
@[simp] theorem State.flag_freeCtr (s : State) (f : Field) (i : Nat) (b : Bool) : (s.flag f i b).freeCtr = s.freeCtr := rfl
@[simp] theorem State.flag_staged (s : State) (f : Field) (i : Nat) (b : Bool) : (s.flag f i b).staged = s.staged := rfl
@[simp] theorem State.flag_ord (s : State) (f : Field) (i : Nat) (b : Bool) : (s.flag f i b).ord = s.ord := rfl
@[simp] theorem State.flag_held (s : State) (f : Field) (i : Nat) (b : Bool) : (s.flag f i b).held = s.held := rfl
@[simp] theorem State.flag_cs (s : State) (f : Field) (i : Nat) (b : Bool) : (s.flag f i b).cs = s.cs := rfl
@[simp] theorem State.flag_flt (s : State) (f : Field) (i : Nat) (b : Bool) : (s.flag f i b).flt = s.flt := rfl
@[simp] theorem State.flag_bnd (s : State) (f : Field) (i : Nat) (b : Bool) : (s.flag f i b).bnd = s.bnd := rfl
@[simp] theorem State.flag_cell (s : State) (f : Field) (i : Nat) (b : Bool) : (s.flag f i b).cell = s.cell := rfl
@[simp] theorem State.flag_src (s : State) (f : Field) (i : Nat) (b : Bool) : (s.flag f i b).src = s.src := rfl
@[simp] theorem State.flag_dst (s : State) (f : Field) (i : Nat) (b : Bool) : (s.flag f i b).dst = s.dst := rfl
@[simp] theorem State.flag_cask (s : State) (f : Field) (i : Nat) (b : Bool) : (s.flag f i b).cask = s.cask := rfl
@[simp] theorem State.flag_head (s : State) (f : Field) (i : Nat) (b : Bool) : (s.flag f i b).head = s.head := rfl
@[simp] theorem State.flag_bound (s : State) (f : Field) (i : Nat) (b : Bool) : (s.flag f i b).bound = s.bound := rfl
@[simp] theorem State.flag_mntl (s : State) (f : Field) (i : Nat) (b : Bool) : (s.flag f i b).mntl = s.mntl := rfl
@[simp] theorem State.flag_mash (s : State) (f : Field) (i : Nat) (b : Bool) : (s.flag f i b).mash = s.mash := rfl
@[simp] theorem State.flag_aprt (s : State) (f : Field) (i : Nat) (b : Bool) : (s.flag f i b).aprt = s.aprt := rfl
@[simp] theorem State.flag_eth (s : State) (f : Field) (i : Nat) (b : Bool) : (s.flag f i b).eth = s.eth := rfl
@[simp] theorem State.flag_kiln (s : State) (f : Field) (i : Nat) (b : Bool) : (s.flag f i b).kiln = s.kiln := rfl
@[simp] theorem State.flag_gnss (s : State) (f : Field) (i : Nat) (b : Bool) : (s.flag f i b).gnss = s.gnss := rfl
@[simp] theorem State.flag_tsvc (s : State) (f : Field) (i : Nat) (b : Bool) : (s.flag f i b).tsvc = s.tsvc := rfl
@[simp] theorem State.flag_hcp (s : State) (f : Field) (i : Nat) (b : Bool) : (s.flag f i b).hcp = s.hcp := rfl
@[simp] theorem State.flag_hop (s : State) (f : Field) (i : Nat) (b : Bool) : (s.flag f i b).hop = s.hop := rfl
@[simp] theorem State.flag_boot (s : State) (f : Field) (i : Nat) (b : Bool) : (s.flag f i b).boot = s.boot := rfl
@[simp] theorem State.flag_pwr (s : State) (f : Field) (i : Nat) (b : Bool) : (s.flag f i b).pwr = s.pwr := rfl
@[simp] theorem State.flag_latch (s : State) (f : Field) (i : Nat) (b : Bool) : (s.flag f i b).latch = s.latch := rfl
@[simp] theorem State.flag_parked (s : State) (f : Field) (i : Nat) (b : Bool) : (s.flag f i b).parked = s.parked := rfl
@[simp] theorem State.flag_mem (s : State) (f : Field) (i : Nat) (b : Bool) : (s.flag f i b).mem = s.mem := rfl
@[simp] theorem State.flag_txb (s : State) (f : Field) (i : Nat) (b : Bool) : (s.flag f i b).txb = s.txb := rfl
@[simp] theorem State.flag_mirror (s : State) (f : Field) (i : Nat) (b : Bool) : (s.flag f i b).mirror = s.mirror := rfl
@[simp] theorem State.flag_egr (s : State) (f : Field) (i : Nat) (b : Bool) : (s.flag f i b).egr = s.egr := rfl
@[simp] theorem State.bump_pending (s : State) (f : Field) (i n : Nat) : (s.bump f i n).pending = s.pending := rfl
@[simp] theorem State.bump_iso (s : State) (f : Field) (i n : Nat) : (s.bump f i n).iso = s.iso := rfl
@[simp] theorem State.bump_por (s : State) (f : Field) (i n : Nat) : (s.bump f i n).por = s.por := rfl
@[simp] theorem State.bump_out (s : State) (f : Field) (i n : Nat) : (s.bump f i n).out = s.out := rfl
@[simp] theorem State.bump_now (s : State) (f : Field) (i n : Nat) : (s.bump f i n).now = s.now := rfl
@[simp] theorem State.bump_up (s : State) (f : Field) (i n : Nat) : (s.bump f i n).up = s.up := rfl
@[simp] theorem State.bump_freeCtr (s : State) (f : Field) (i n : Nat) : (s.bump f i n).freeCtr = s.freeCtr := rfl
@[simp] theorem State.bump_staged (s : State) (f : Field) (i n : Nat) : (s.bump f i n).staged = s.staged := rfl
@[simp] theorem State.bump_ord (s : State) (f : Field) (i n : Nat) : (s.bump f i n).ord = s.ord := rfl
@[simp] theorem State.bump_held (s : State) (f : Field) (i n : Nat) : (s.bump f i n).held = s.held := rfl
@[simp] theorem State.bump_cs (s : State) (f : Field) (i n : Nat) : (s.bump f i n).cs = s.cs := rfl
@[simp] theorem State.bump_flt (s : State) (f : Field) (i n : Nat) : (s.bump f i n).flt = s.flt := rfl
@[simp] theorem State.bump_bnd (s : State) (f : Field) (i n : Nat) : (s.bump f i n).bnd = s.bnd := rfl
@[simp] theorem State.bump_cell (s : State) (f : Field) (i n : Nat) : (s.bump f i n).cell = s.cell := rfl
@[simp] theorem State.bump_src (s : State) (f : Field) (i n : Nat) : (s.bump f i n).src = s.src := rfl
@[simp] theorem State.bump_dst (s : State) (f : Field) (i n : Nat) : (s.bump f i n).dst = s.dst := rfl
@[simp] theorem State.bump_cask (s : State) (f : Field) (i n : Nat) : (s.bump f i n).cask = s.cask := rfl
@[simp] theorem State.bump_head (s : State) (f : Field) (i n : Nat) : (s.bump f i n).head = s.head := rfl
@[simp] theorem State.bump_bound (s : State) (f : Field) (i n : Nat) : (s.bump f i n).bound = s.bound := rfl
@[simp] theorem State.bump_mntl (s : State) (f : Field) (i n : Nat) : (s.bump f i n).mntl = s.mntl := rfl
@[simp] theorem State.bump_mash (s : State) (f : Field) (i n : Nat) : (s.bump f i n).mash = s.mash := rfl
@[simp] theorem State.bump_aprt (s : State) (f : Field) (i n : Nat) : (s.bump f i n).aprt = s.aprt := rfl
@[simp] theorem State.bump_eth (s : State) (f : Field) (i n : Nat) : (s.bump f i n).eth = s.eth := rfl
@[simp] theorem State.bump_kiln (s : State) (f : Field) (i n : Nat) : (s.bump f i n).kiln = s.kiln := rfl
@[simp] theorem State.bump_gnss (s : State) (f : Field) (i n : Nat) : (s.bump f i n).gnss = s.gnss := rfl
@[simp] theorem State.bump_tsvc (s : State) (f : Field) (i n : Nat) : (s.bump f i n).tsvc = s.tsvc := rfl
@[simp] theorem State.bump_hcp (s : State) (f : Field) (i n : Nat) : (s.bump f i n).hcp = s.hcp := rfl
@[simp] theorem State.bump_hop (s : State) (f : Field) (i n : Nat) : (s.bump f i n).hop = s.hop := rfl
@[simp] theorem State.bump_boot (s : State) (f : Field) (i n : Nat) : (s.bump f i n).boot = s.boot := rfl
@[simp] theorem State.bump_pwr (s : State) (f : Field) (i n : Nat) : (s.bump f i n).pwr = s.pwr := rfl
@[simp] theorem State.bump_latch (s : State) (f : Field) (i n : Nat) : (s.bump f i n).latch = s.latch := rfl
@[simp] theorem State.bump_parked (s : State) (f : Field) (i n : Nat) : (s.bump f i n).parked = s.parked := rfl
@[simp] theorem State.bump_mem (s : State) (f : Field) (i n : Nat) : (s.bump f i n).mem = s.mem := rfl
@[simp] theorem State.bump_txb (s : State) (f : Field) (i n : Nat) : (s.bump f i n).txb = s.txb := rfl
@[simp] theorem State.bump_mirror (s : State) (f : Field) (i n : Nat) : (s.bump f i n).mirror = s.mirror := rfl
@[simp] theorem State.bump_egr (s : State) (f : Field) (i n : Nat) : (s.bump f i n).egr = s.egr := rfl
@[simp] theorem State.cnt64_pending (s : State) (f : Field) (i n : Nat) : (s.cnt64 f i n).pending = s.pending := rfl
@[simp] theorem State.cnt64_iso (s : State) (f : Field) (i n : Nat) : (s.cnt64 f i n).iso = s.iso := rfl
@[simp] theorem State.cnt64_por (s : State) (f : Field) (i n : Nat) : (s.cnt64 f i n).por = s.por := rfl
@[simp] theorem State.cnt64_out (s : State) (f : Field) (i n : Nat) : (s.cnt64 f i n).out = s.out := rfl
@[simp] theorem State.cnt64_now (s : State) (f : Field) (i n : Nat) : (s.cnt64 f i n).now = s.now := rfl
@[simp] theorem State.cnt64_up (s : State) (f : Field) (i n : Nat) : (s.cnt64 f i n).up = s.up := rfl
@[simp] theorem State.cnt64_freeCtr (s : State) (f : Field) (i n : Nat) : (s.cnt64 f i n).freeCtr = s.freeCtr := rfl
@[simp] theorem State.cnt64_staged (s : State) (f : Field) (i n : Nat) : (s.cnt64 f i n).staged = s.staged := rfl
@[simp] theorem State.cnt64_ord (s : State) (f : Field) (i n : Nat) : (s.cnt64 f i n).ord = s.ord := rfl
@[simp] theorem State.cnt64_held (s : State) (f : Field) (i n : Nat) : (s.cnt64 f i n).held = s.held := rfl
@[simp] theorem State.cnt64_cs (s : State) (f : Field) (i n : Nat) : (s.cnt64 f i n).cs = s.cs := rfl
@[simp] theorem State.cnt64_flt (s : State) (f : Field) (i n : Nat) : (s.cnt64 f i n).flt = s.flt := rfl
@[simp] theorem State.cnt64_bnd (s : State) (f : Field) (i n : Nat) : (s.cnt64 f i n).bnd = s.bnd := rfl
@[simp] theorem State.cnt64_cell (s : State) (f : Field) (i n : Nat) : (s.cnt64 f i n).cell = s.cell := rfl
@[simp] theorem State.cnt64_src (s : State) (f : Field) (i n : Nat) : (s.cnt64 f i n).src = s.src := rfl
@[simp] theorem State.cnt64_dst (s : State) (f : Field) (i n : Nat) : (s.cnt64 f i n).dst = s.dst := rfl
@[simp] theorem State.cnt64_cask (s : State) (f : Field) (i n : Nat) : (s.cnt64 f i n).cask = s.cask := rfl
@[simp] theorem State.cnt64_head (s : State) (f : Field) (i n : Nat) : (s.cnt64 f i n).head = s.head := rfl
@[simp] theorem State.cnt64_bound (s : State) (f : Field) (i n : Nat) : (s.cnt64 f i n).bound = s.bound := rfl
@[simp] theorem State.cnt64_mntl (s : State) (f : Field) (i n : Nat) : (s.cnt64 f i n).mntl = s.mntl := rfl
@[simp] theorem State.cnt64_mash (s : State) (f : Field) (i n : Nat) : (s.cnt64 f i n).mash = s.mash := rfl
@[simp] theorem State.cnt64_aprt (s : State) (f : Field) (i n : Nat) : (s.cnt64 f i n).aprt = s.aprt := rfl
@[simp] theorem State.cnt64_eth (s : State) (f : Field) (i n : Nat) : (s.cnt64 f i n).eth = s.eth := rfl
@[simp] theorem State.cnt64_kiln (s : State) (f : Field) (i n : Nat) : (s.cnt64 f i n).kiln = s.kiln := rfl
@[simp] theorem State.cnt64_gnss (s : State) (f : Field) (i n : Nat) : (s.cnt64 f i n).gnss = s.gnss := rfl
@[simp] theorem State.cnt64_tsvc (s : State) (f : Field) (i n : Nat) : (s.cnt64 f i n).tsvc = s.tsvc := rfl
@[simp] theorem State.cnt64_hcp (s : State) (f : Field) (i n : Nat) : (s.cnt64 f i n).hcp = s.hcp := rfl
@[simp] theorem State.cnt64_hop (s : State) (f : Field) (i n : Nat) : (s.cnt64 f i n).hop = s.hop := rfl
@[simp] theorem State.cnt64_boot (s : State) (f : Field) (i n : Nat) : (s.cnt64 f i n).boot = s.boot := rfl
@[simp] theorem State.cnt64_pwr (s : State) (f : Field) (i n : Nat) : (s.cnt64 f i n).pwr = s.pwr := rfl
@[simp] theorem State.cnt64_latch (s : State) (f : Field) (i n : Nat) : (s.cnt64 f i n).latch = s.latch := rfl
@[simp] theorem State.cnt64_parked (s : State) (f : Field) (i n : Nat) : (s.cnt64 f i n).parked = s.parked := rfl
@[simp] theorem State.cnt64_mem (s : State) (f : Field) (i n : Nat) : (s.cnt64 f i n).mem = s.mem := rfl
@[simp] theorem State.cnt64_txb (s : State) (f : Field) (i n : Nat) : (s.cnt64 f i n).txb = s.txb := rfl
@[simp] theorem State.cnt64_mirror (s : State) (f : Field) (i n : Nat) : (s.cnt64 f i n).mirror = s.mirror := rfl
@[simp] theorem State.cnt64_egr (s : State) (f : Field) (i n : Nat) : (s.cnt64 f i n).egr = s.egr := rfl
@[simp] theorem State.emit_pending (s : State) (o : Output) : (s.emit o).pending = s.pending := rfl
@[simp] theorem State.emit_iso (s : State) (o : Output) : (s.emit o).iso = s.iso := rfl
@[simp] theorem State.emit_por (s : State) (o : Output) : (s.emit o).por = s.por := rfl
@[simp] theorem State.emit_out (s : State) (o : Output) : (s.emit o).out = s.out ++ [o] := rfl
@[simp] theorem State.emit_now (s : State) (o : Output) : (s.emit o).now = s.now := rfl
@[simp] theorem State.emit_up (s : State) (o : Output) : (s.emit o).up = s.up := rfl
@[simp] theorem State.emit_freeCtr (s : State) (o : Output) : (s.emit o).freeCtr = s.freeCtr := rfl
@[simp] theorem State.emit_rv (s : State) (o : Output) : (s.emit o).rv = s.rv := rfl
@[simp] theorem State.emit_staged (s : State) (o : Output) : (s.emit o).staged = s.staged := rfl
@[simp] theorem State.emit_ord (s : State) (o : Output) : (s.emit o).ord = s.ord := rfl
@[simp] theorem State.emit_held (s : State) (o : Output) : (s.emit o).held = s.held := rfl
@[simp] theorem State.emit_cs (s : State) (o : Output) : (s.emit o).cs = s.cs := rfl
@[simp] theorem State.emit_flt (s : State) (o : Output) : (s.emit o).flt = s.flt := rfl
@[simp] theorem State.emit_bnd (s : State) (o : Output) : (s.emit o).bnd = s.bnd := rfl
@[simp] theorem State.emit_cell (s : State) (o : Output) : (s.emit o).cell = s.cell := rfl
@[simp] theorem State.emit_src (s : State) (o : Output) : (s.emit o).src = s.src := rfl
@[simp] theorem State.emit_dst (s : State) (o : Output) : (s.emit o).dst = s.dst := rfl
@[simp] theorem State.emit_cask (s : State) (o : Output) : (s.emit o).cask = s.cask := rfl
@[simp] theorem State.emit_head (s : State) (o : Output) : (s.emit o).head = s.head := rfl
@[simp] theorem State.emit_bound (s : State) (o : Output) : (s.emit o).bound = s.bound := rfl
@[simp] theorem State.emit_mntl (s : State) (o : Output) : (s.emit o).mntl = s.mntl := rfl
@[simp] theorem State.emit_mash (s : State) (o : Output) : (s.emit o).mash = s.mash := rfl
@[simp] theorem State.emit_aprt (s : State) (o : Output) : (s.emit o).aprt = s.aprt := rfl
@[simp] theorem State.emit_eth (s : State) (o : Output) : (s.emit o).eth = s.eth := rfl
@[simp] theorem State.emit_kiln (s : State) (o : Output) : (s.emit o).kiln = s.kiln := rfl
@[simp] theorem State.emit_gnss (s : State) (o : Output) : (s.emit o).gnss = s.gnss := rfl
@[simp] theorem State.emit_tsvc (s : State) (o : Output) : (s.emit o).tsvc = s.tsvc := rfl
@[simp] theorem State.emit_hcp (s : State) (o : Output) : (s.emit o).hcp = s.hcp := rfl
@[simp] theorem State.emit_hop (s : State) (o : Output) : (s.emit o).hop = s.hop := rfl
@[simp] theorem State.emit_boot (s : State) (o : Output) : (s.emit o).boot = s.boot := rfl
@[simp] theorem State.emit_pwr (s : State) (o : Output) : (s.emit o).pwr = s.pwr := rfl
@[simp] theorem State.emit_latch (s : State) (o : Output) : (s.emit o).latch = s.latch := rfl
@[simp] theorem State.emit_parked (s : State) (o : Output) : (s.emit o).parked = s.parked := rfl
@[simp] theorem State.emit_mem (s : State) (o : Output) : (s.emit o).mem = s.mem := rfl
@[simp] theorem State.emit_txb (s : State) (o : Output) : (s.emit o).txb = s.txb := rfl
@[simp] theorem State.emit_mirror (s : State) (o : Output) : (s.emit o).mirror = s.mirror := rfl
@[simp] theorem State.emit_egr (s : State) (o : Output) : (s.emit o).egr = s.egr := rfl
@[simp] theorem State.countFree_pending (s : State) : (s.countFree).pending = s.pending := rfl
@[simp] theorem State.countFree_iso (s : State) : (s.countFree).iso = s.iso := rfl
@[simp] theorem State.countFree_por (s : State) : (s.countFree).por = s.por := rfl
@[simp] theorem State.countFree_out (s : State) : (s.countFree).out = s.out := rfl
@[simp] theorem State.countFree_now (s : State) : (s.countFree).now = s.now := rfl
@[simp] theorem State.countFree_up (s : State) : (s.countFree).up = s.up := rfl
@[simp] theorem State.countFree_rv (s : State) : (s.countFree).rv = s.rv := rfl
@[simp] theorem State.countFree_staged (s : State) : (s.countFree).staged = s.staged := rfl
@[simp] theorem State.countFree_ord (s : State) : (s.countFree).ord = s.ord := rfl
@[simp] theorem State.countFree_held (s : State) : (s.countFree).held = s.held := rfl
@[simp] theorem State.countFree_cs (s : State) : (s.countFree).cs = s.cs := rfl
@[simp] theorem State.countFree_flt (s : State) : (s.countFree).flt = s.flt := rfl
@[simp] theorem State.countFree_bnd (s : State) : (s.countFree).bnd = s.bnd := rfl
@[simp] theorem State.countFree_cell (s : State) : (s.countFree).cell = s.cell := rfl
@[simp] theorem State.countFree_src (s : State) : (s.countFree).src = s.src := rfl
@[simp] theorem State.countFree_dst (s : State) : (s.countFree).dst = s.dst := rfl
@[simp] theorem State.countFree_cask (s : State) : (s.countFree).cask = s.cask := rfl
@[simp] theorem State.countFree_head (s : State) : (s.countFree).head = s.head := rfl
@[simp] theorem State.countFree_bound (s : State) : (s.countFree).bound = s.bound := rfl
@[simp] theorem State.countFree_mntl (s : State) : (s.countFree).mntl = s.mntl := rfl
@[simp] theorem State.countFree_mash (s : State) : (s.countFree).mash = s.mash := rfl
@[simp] theorem State.countFree_aprt (s : State) : (s.countFree).aprt = s.aprt := rfl
@[simp] theorem State.countFree_eth (s : State) : (s.countFree).eth = s.eth := rfl
@[simp] theorem State.countFree_kiln (s : State) : (s.countFree).kiln = s.kiln := rfl
@[simp] theorem State.countFree_gnss (s : State) : (s.countFree).gnss = s.gnss := rfl
@[simp] theorem State.countFree_tsvc (s : State) : (s.countFree).tsvc = s.tsvc := rfl
@[simp] theorem State.countFree_hcp (s : State) : (s.countFree).hcp = s.hcp := rfl
@[simp] theorem State.countFree_hop (s : State) : (s.countFree).hop = s.hop := rfl
@[simp] theorem State.countFree_boot (s : State) : (s.countFree).boot = s.boot := rfl
@[simp] theorem State.countFree_pwr (s : State) : (s.countFree).pwr = s.pwr := rfl
@[simp] theorem State.countFree_latch (s : State) : (s.countFree).latch = s.latch := rfl
@[simp] theorem State.countFree_parked (s : State) : (s.countFree).parked = s.parked := rfl
@[simp] theorem State.countFree_mem (s : State) : (s.countFree).mem = s.mem := rfl
@[simp] theorem State.countFree_txb (s : State) : (s.countFree).txb = s.txb := rfl
@[simp] theorem State.countFree_mirror (s : State) : (s.countFree).mirror = s.mirror := rfl
@[simp] theorem State.countFree_egr (s : State) : (s.countFree).egr = s.egr := rfl
@[simp] theorem State.putSrc_pending (s : State) (k : Nat) (r : SrcS) : (s.putSrc k r).pending = s.pending := rfl
@[simp] theorem State.putSrc_iso (s : State) (k : Nat) (r : SrcS) : (s.putSrc k r).iso = s.iso := rfl
@[simp] theorem State.putSrc_por (s : State) (k : Nat) (r : SrcS) : (s.putSrc k r).por = s.por := rfl
@[simp] theorem State.putSrc_out (s : State) (k : Nat) (r : SrcS) : (s.putSrc k r).out = s.out := rfl
@[simp] theorem State.putSrc_now (s : State) (k : Nat) (r : SrcS) : (s.putSrc k r).now = s.now := rfl
@[simp] theorem State.putSrc_up (s : State) (k : Nat) (r : SrcS) : (s.putSrc k r).up = s.up := rfl
@[simp] theorem State.putSrc_freeCtr (s : State) (k : Nat) (r : SrcS) : (s.putSrc k r).freeCtr = s.freeCtr := rfl
@[simp] theorem State.putSrc_rv (s : State) (k : Nat) (r : SrcS) : (s.putSrc k r).rv = s.rv := rfl
@[simp] theorem State.putSrc_staged (s : State) (k : Nat) (r : SrcS) : (s.putSrc k r).staged = s.staged := rfl
@[simp] theorem State.putSrc_ord (s : State) (k : Nat) (r : SrcS) : (s.putSrc k r).ord = s.ord := rfl
@[simp] theorem State.putSrc_held (s : State) (k : Nat) (r : SrcS) : (s.putSrc k r).held = s.held := rfl
@[simp] theorem State.putSrc_cs (s : State) (k : Nat) (r : SrcS) : (s.putSrc k r).cs = s.cs := rfl
@[simp] theorem State.putSrc_flt (s : State) (k : Nat) (r : SrcS) : (s.putSrc k r).flt = s.flt := rfl
@[simp] theorem State.putSrc_bnd (s : State) (k : Nat) (r : SrcS) : (s.putSrc k r).bnd = s.bnd := rfl
@[simp] theorem State.putSrc_cell (s : State) (k : Nat) (r : SrcS) : (s.putSrc k r).cell = s.cell := rfl
@[simp] theorem State.putSrc_dst (s : State) (k : Nat) (r : SrcS) : (s.putSrc k r).dst = s.dst := rfl
@[simp] theorem State.putSrc_cask (s : State) (k : Nat) (r : SrcS) : (s.putSrc k r).cask = s.cask := rfl
@[simp] theorem State.putSrc_head (s : State) (k : Nat) (r : SrcS) : (s.putSrc k r).head = s.head := rfl
@[simp] theorem State.putSrc_bound (s : State) (k : Nat) (r : SrcS) : (s.putSrc k r).bound = s.bound := rfl
@[simp] theorem State.putSrc_mntl (s : State) (k : Nat) (r : SrcS) : (s.putSrc k r).mntl = s.mntl := rfl
@[simp] theorem State.putSrc_mash (s : State) (k : Nat) (r : SrcS) : (s.putSrc k r).mash = s.mash := rfl
@[simp] theorem State.putSrc_aprt (s : State) (k : Nat) (r : SrcS) : (s.putSrc k r).aprt = s.aprt := rfl
@[simp] theorem State.putSrc_eth (s : State) (k : Nat) (r : SrcS) : (s.putSrc k r).eth = s.eth := rfl
@[simp] theorem State.putSrc_kiln (s : State) (k : Nat) (r : SrcS) : (s.putSrc k r).kiln = s.kiln := rfl
@[simp] theorem State.putSrc_gnss (s : State) (k : Nat) (r : SrcS) : (s.putSrc k r).gnss = s.gnss := rfl
@[simp] theorem State.putSrc_tsvc (s : State) (k : Nat) (r : SrcS) : (s.putSrc k r).tsvc = s.tsvc := rfl
@[simp] theorem State.putSrc_hcp (s : State) (k : Nat) (r : SrcS) : (s.putSrc k r).hcp = s.hcp := rfl
@[simp] theorem State.putSrc_hop (s : State) (k : Nat) (r : SrcS) : (s.putSrc k r).hop = s.hop := rfl
@[simp] theorem State.putSrc_boot (s : State) (k : Nat) (r : SrcS) : (s.putSrc k r).boot = s.boot := rfl
@[simp] theorem State.putSrc_pwr (s : State) (k : Nat) (r : SrcS) : (s.putSrc k r).pwr = s.pwr := rfl
@[simp] theorem State.putSrc_latch (s : State) (k : Nat) (r : SrcS) : (s.putSrc k r).latch = s.latch := rfl
@[simp] theorem State.putSrc_parked (s : State) (k : Nat) (r : SrcS) : (s.putSrc k r).parked = s.parked := rfl
@[simp] theorem State.putSrc_mem (s : State) (k : Nat) (r : SrcS) : (s.putSrc k r).mem = s.mem := rfl
@[simp] theorem State.putSrc_txb (s : State) (k : Nat) (r : SrcS) : (s.putSrc k r).txb = s.txb := rfl
@[simp] theorem State.putSrc_mirror (s : State) (k : Nat) (r : SrcS) : (s.putSrc k r).mirror = s.mirror := rfl
@[simp] theorem State.putSrc_egr (s : State) (k : Nat) (r : SrcS) : (s.putSrc k r).egr = s.egr := rfl
@[simp] theorem State.putDst_pending (s : State) (k : Nat) (r : DstS) : (s.putDst k r).pending = s.pending := rfl
@[simp] theorem State.putDst_iso (s : State) (k : Nat) (r : DstS) : (s.putDst k r).iso = s.iso := rfl
@[simp] theorem State.putDst_por (s : State) (k : Nat) (r : DstS) : (s.putDst k r).por = s.por := rfl
@[simp] theorem State.putDst_out (s : State) (k : Nat) (r : DstS) : (s.putDst k r).out = s.out := rfl
@[simp] theorem State.putDst_now (s : State) (k : Nat) (r : DstS) : (s.putDst k r).now = s.now := rfl
@[simp] theorem State.putDst_up (s : State) (k : Nat) (r : DstS) : (s.putDst k r).up = s.up := rfl
@[simp] theorem State.putDst_freeCtr (s : State) (k : Nat) (r : DstS) : (s.putDst k r).freeCtr = s.freeCtr := rfl
@[simp] theorem State.putDst_rv (s : State) (k : Nat) (r : DstS) : (s.putDst k r).rv = s.rv := rfl
@[simp] theorem State.putDst_staged (s : State) (k : Nat) (r : DstS) : (s.putDst k r).staged = s.staged := rfl
@[simp] theorem State.putDst_ord (s : State) (k : Nat) (r : DstS) : (s.putDst k r).ord = s.ord := rfl
@[simp] theorem State.putDst_held (s : State) (k : Nat) (r : DstS) : (s.putDst k r).held = s.held := rfl
@[simp] theorem State.putDst_cs (s : State) (k : Nat) (r : DstS) : (s.putDst k r).cs = s.cs := rfl
@[simp] theorem State.putDst_flt (s : State) (k : Nat) (r : DstS) : (s.putDst k r).flt = s.flt := rfl
@[simp] theorem State.putDst_bnd (s : State) (k : Nat) (r : DstS) : (s.putDst k r).bnd = s.bnd := rfl
@[simp] theorem State.putDst_cell (s : State) (k : Nat) (r : DstS) : (s.putDst k r).cell = s.cell := rfl
@[simp] theorem State.putDst_src (s : State) (k : Nat) (r : DstS) : (s.putDst k r).src = s.src := rfl
@[simp] theorem State.putDst_cask (s : State) (k : Nat) (r : DstS) : (s.putDst k r).cask = s.cask := rfl
@[simp] theorem State.putDst_head (s : State) (k : Nat) (r : DstS) : (s.putDst k r).head = s.head := rfl
@[simp] theorem State.putDst_bound (s : State) (k : Nat) (r : DstS) : (s.putDst k r).bound = s.bound := rfl
@[simp] theorem State.putDst_mntl (s : State) (k : Nat) (r : DstS) : (s.putDst k r).mntl = s.mntl := rfl
@[simp] theorem State.putDst_mash (s : State) (k : Nat) (r : DstS) : (s.putDst k r).mash = s.mash := rfl
@[simp] theorem State.putDst_aprt (s : State) (k : Nat) (r : DstS) : (s.putDst k r).aprt = s.aprt := rfl
@[simp] theorem State.putDst_eth (s : State) (k : Nat) (r : DstS) : (s.putDst k r).eth = s.eth := rfl
@[simp] theorem State.putDst_kiln (s : State) (k : Nat) (r : DstS) : (s.putDst k r).kiln = s.kiln := rfl
@[simp] theorem State.putDst_gnss (s : State) (k : Nat) (r : DstS) : (s.putDst k r).gnss = s.gnss := rfl
@[simp] theorem State.putDst_tsvc (s : State) (k : Nat) (r : DstS) : (s.putDst k r).tsvc = s.tsvc := rfl
@[simp] theorem State.putDst_hcp (s : State) (k : Nat) (r : DstS) : (s.putDst k r).hcp = s.hcp := rfl
@[simp] theorem State.putDst_hop (s : State) (k : Nat) (r : DstS) : (s.putDst k r).hop = s.hop := rfl
@[simp] theorem State.putDst_boot (s : State) (k : Nat) (r : DstS) : (s.putDst k r).boot = s.boot := rfl
@[simp] theorem State.putDst_pwr (s : State) (k : Nat) (r : DstS) : (s.putDst k r).pwr = s.pwr := rfl
@[simp] theorem State.putDst_latch (s : State) (k : Nat) (r : DstS) : (s.putDst k r).latch = s.latch := rfl
@[simp] theorem State.putDst_parked (s : State) (k : Nat) (r : DstS) : (s.putDst k r).parked = s.parked := rfl
@[simp] theorem State.putDst_mem (s : State) (k : Nat) (r : DstS) : (s.putDst k r).mem = s.mem := rfl
@[simp] theorem State.putDst_txb (s : State) (k : Nat) (r : DstS) : (s.putDst k r).txb = s.txb := rfl
@[simp] theorem State.putDst_mirror (s : State) (k : Nat) (r : DstS) : (s.putDst k r).mirror = s.mirror := rfl
@[simp] theorem State.putDst_egr (s : State) (k : Nat) (r : DstS) : (s.putDst k r).egr = s.egr := rfl
@[simp] theorem State.putBnd_pending (s : State) (k : Nat) (r : BndS) : (s.putBnd k r).pending = s.pending := rfl
@[simp] theorem State.putBnd_iso (s : State) (k : Nat) (r : BndS) : (s.putBnd k r).iso = s.iso := rfl
@[simp] theorem State.putBnd_por (s : State) (k : Nat) (r : BndS) : (s.putBnd k r).por = s.por := rfl
@[simp] theorem State.putBnd_out (s : State) (k : Nat) (r : BndS) : (s.putBnd k r).out = s.out := rfl
@[simp] theorem State.putBnd_now (s : State) (k : Nat) (r : BndS) : (s.putBnd k r).now = s.now := rfl
@[simp] theorem State.putBnd_up (s : State) (k : Nat) (r : BndS) : (s.putBnd k r).up = s.up := rfl
@[simp] theorem State.putBnd_freeCtr (s : State) (k : Nat) (r : BndS) : (s.putBnd k r).freeCtr = s.freeCtr := rfl
@[simp] theorem State.putBnd_rv (s : State) (k : Nat) (r : BndS) : (s.putBnd k r).rv = s.rv := rfl
@[simp] theorem State.putBnd_staged (s : State) (k : Nat) (r : BndS) : (s.putBnd k r).staged = s.staged := rfl
@[simp] theorem State.putBnd_ord (s : State) (k : Nat) (r : BndS) : (s.putBnd k r).ord = s.ord := rfl
@[simp] theorem State.putBnd_held (s : State) (k : Nat) (r : BndS) : (s.putBnd k r).held = s.held := rfl
@[simp] theorem State.putBnd_cs (s : State) (k : Nat) (r : BndS) : (s.putBnd k r).cs = s.cs := rfl
@[simp] theorem State.putBnd_flt (s : State) (k : Nat) (r : BndS) : (s.putBnd k r).flt = s.flt := rfl
@[simp] theorem State.putBnd_cell (s : State) (k : Nat) (r : BndS) : (s.putBnd k r).cell = s.cell := rfl
@[simp] theorem State.putBnd_src (s : State) (k : Nat) (r : BndS) : (s.putBnd k r).src = s.src := rfl
@[simp] theorem State.putBnd_dst (s : State) (k : Nat) (r : BndS) : (s.putBnd k r).dst = s.dst := rfl
@[simp] theorem State.putBnd_cask (s : State) (k : Nat) (r : BndS) : (s.putBnd k r).cask = s.cask := rfl
@[simp] theorem State.putBnd_head (s : State) (k : Nat) (r : BndS) : (s.putBnd k r).head = s.head := rfl
@[simp] theorem State.putBnd_bound (s : State) (k : Nat) (r : BndS) : (s.putBnd k r).bound = s.bound := rfl
@[simp] theorem State.putBnd_mntl (s : State) (k : Nat) (r : BndS) : (s.putBnd k r).mntl = s.mntl := rfl
@[simp] theorem State.putBnd_mash (s : State) (k : Nat) (r : BndS) : (s.putBnd k r).mash = s.mash := rfl
@[simp] theorem State.putBnd_aprt (s : State) (k : Nat) (r : BndS) : (s.putBnd k r).aprt = s.aprt := rfl
@[simp] theorem State.putBnd_eth (s : State) (k : Nat) (r : BndS) : (s.putBnd k r).eth = s.eth := rfl
@[simp] theorem State.putBnd_kiln (s : State) (k : Nat) (r : BndS) : (s.putBnd k r).kiln = s.kiln := rfl
@[simp] theorem State.putBnd_gnss (s : State) (k : Nat) (r : BndS) : (s.putBnd k r).gnss = s.gnss := rfl
@[simp] theorem State.putBnd_tsvc (s : State) (k : Nat) (r : BndS) : (s.putBnd k r).tsvc = s.tsvc := rfl
@[simp] theorem State.putBnd_hcp (s : State) (k : Nat) (r : BndS) : (s.putBnd k r).hcp = s.hcp := rfl
@[simp] theorem State.putBnd_hop (s : State) (k : Nat) (r : BndS) : (s.putBnd k r).hop = s.hop := rfl
@[simp] theorem State.putBnd_boot (s : State) (k : Nat) (r : BndS) : (s.putBnd k r).boot = s.boot := rfl
@[simp] theorem State.putBnd_pwr (s : State) (k : Nat) (r : BndS) : (s.putBnd k r).pwr = s.pwr := rfl
@[simp] theorem State.putBnd_latch (s : State) (k : Nat) (r : BndS) : (s.putBnd k r).latch = s.latch := rfl
@[simp] theorem State.putBnd_parked (s : State) (k : Nat) (r : BndS) : (s.putBnd k r).parked = s.parked := rfl
@[simp] theorem State.putBnd_mem (s : State) (k : Nat) (r : BndS) : (s.putBnd k r).mem = s.mem := rfl
@[simp] theorem State.putBnd_txb (s : State) (k : Nat) (r : BndS) : (s.putBnd k r).txb = s.txb := rfl
@[simp] theorem State.putBnd_mirror (s : State) (k : Nat) (r : BndS) : (s.putBnd k r).mirror = s.mirror := rfl
@[simp] theorem State.putBnd_egr (s : State) (k : Nat) (r : BndS) : (s.putBnd k r).egr = s.egr := rfl
@[simp] theorem State.putCs_pending (s : State) (k : Nat) (r : ChangeSet) : (s.putCs k r).pending = s.pending := rfl
@[simp] theorem State.putCs_iso (s : State) (k : Nat) (r : ChangeSet) : (s.putCs k r).iso = s.iso := rfl
@[simp] theorem State.putCs_por (s : State) (k : Nat) (r : ChangeSet) : (s.putCs k r).por = s.por := rfl
@[simp] theorem State.putCs_out (s : State) (k : Nat) (r : ChangeSet) : (s.putCs k r).out = s.out := rfl
@[simp] theorem State.putCs_now (s : State) (k : Nat) (r : ChangeSet) : (s.putCs k r).now = s.now := rfl
@[simp] theorem State.putCs_up (s : State) (k : Nat) (r : ChangeSet) : (s.putCs k r).up = s.up := rfl
@[simp] theorem State.putCs_freeCtr (s : State) (k : Nat) (r : ChangeSet) : (s.putCs k r).freeCtr = s.freeCtr := rfl
@[simp] theorem State.putCs_rv (s : State) (k : Nat) (r : ChangeSet) : (s.putCs k r).rv = s.rv := rfl
@[simp] theorem State.putCs_staged (s : State) (k : Nat) (r : ChangeSet) : (s.putCs k r).staged = s.staged := rfl
@[simp] theorem State.putCs_ord (s : State) (k : Nat) (r : ChangeSet) : (s.putCs k r).ord = s.ord := rfl
@[simp] theorem State.putCs_held (s : State) (k : Nat) (r : ChangeSet) : (s.putCs k r).held = s.held := rfl
@[simp] theorem State.putCs_flt (s : State) (k : Nat) (r : ChangeSet) : (s.putCs k r).flt = s.flt := rfl
@[simp] theorem State.putCs_bnd (s : State) (k : Nat) (r : ChangeSet) : (s.putCs k r).bnd = s.bnd := rfl
@[simp] theorem State.putCs_cell (s : State) (k : Nat) (r : ChangeSet) : (s.putCs k r).cell = s.cell := rfl
@[simp] theorem State.putCs_src (s : State) (k : Nat) (r : ChangeSet) : (s.putCs k r).src = s.src := rfl
@[simp] theorem State.putCs_dst (s : State) (k : Nat) (r : ChangeSet) : (s.putCs k r).dst = s.dst := rfl
@[simp] theorem State.putCs_cask (s : State) (k : Nat) (r : ChangeSet) : (s.putCs k r).cask = s.cask := rfl
@[simp] theorem State.putCs_head (s : State) (k : Nat) (r : ChangeSet) : (s.putCs k r).head = s.head := rfl
@[simp] theorem State.putCs_bound (s : State) (k : Nat) (r : ChangeSet) : (s.putCs k r).bound = s.bound := rfl
@[simp] theorem State.putCs_mntl (s : State) (k : Nat) (r : ChangeSet) : (s.putCs k r).mntl = s.mntl := rfl
@[simp] theorem State.putCs_mash (s : State) (k : Nat) (r : ChangeSet) : (s.putCs k r).mash = s.mash := rfl
@[simp] theorem State.putCs_aprt (s : State) (k : Nat) (r : ChangeSet) : (s.putCs k r).aprt = s.aprt := rfl
@[simp] theorem State.putCs_eth (s : State) (k : Nat) (r : ChangeSet) : (s.putCs k r).eth = s.eth := rfl
@[simp] theorem State.putCs_kiln (s : State) (k : Nat) (r : ChangeSet) : (s.putCs k r).kiln = s.kiln := rfl
@[simp] theorem State.putCs_gnss (s : State) (k : Nat) (r : ChangeSet) : (s.putCs k r).gnss = s.gnss := rfl
@[simp] theorem State.putCs_tsvc (s : State) (k : Nat) (r : ChangeSet) : (s.putCs k r).tsvc = s.tsvc := rfl
@[simp] theorem State.putCs_hcp (s : State) (k : Nat) (r : ChangeSet) : (s.putCs k r).hcp = s.hcp := rfl
@[simp] theorem State.putCs_hop (s : State) (k : Nat) (r : ChangeSet) : (s.putCs k r).hop = s.hop := rfl
@[simp] theorem State.putCs_boot (s : State) (k : Nat) (r : ChangeSet) : (s.putCs k r).boot = s.boot := rfl
@[simp] theorem State.putCs_pwr (s : State) (k : Nat) (r : ChangeSet) : (s.putCs k r).pwr = s.pwr := rfl
@[simp] theorem State.putCs_latch (s : State) (k : Nat) (r : ChangeSet) : (s.putCs k r).latch = s.latch := rfl
@[simp] theorem State.putCs_parked (s : State) (k : Nat) (r : ChangeSet) : (s.putCs k r).parked = s.parked := rfl
@[simp] theorem State.putCs_mem (s : State) (k : Nat) (r : ChangeSet) : (s.putCs k r).mem = s.mem := rfl
@[simp] theorem State.putCs_txb (s : State) (k : Nat) (r : ChangeSet) : (s.putCs k r).txb = s.txb := rfl
@[simp] theorem State.putCs_mirror (s : State) (k : Nat) (r : ChangeSet) : (s.putCs k r).mirror = s.mirror := rfl
@[simp] theorem State.putCs_egr (s : State) (k : Nat) (r : ChangeSet) : (s.putCs k r).egr = s.egr := rfl
@[simp] theorem State.putHead_pending (s : State) (k : Nat) (r : HeadS) : (s.putHead k r).pending = s.pending := rfl
@[simp] theorem State.putHead_iso (s : State) (k : Nat) (r : HeadS) : (s.putHead k r).iso = s.iso := rfl
@[simp] theorem State.putHead_por (s : State) (k : Nat) (r : HeadS) : (s.putHead k r).por = s.por := rfl
@[simp] theorem State.putHead_out (s : State) (k : Nat) (r : HeadS) : (s.putHead k r).out = s.out := rfl
@[simp] theorem State.putHead_now (s : State) (k : Nat) (r : HeadS) : (s.putHead k r).now = s.now := rfl
@[simp] theorem State.putHead_up (s : State) (k : Nat) (r : HeadS) : (s.putHead k r).up = s.up := rfl
@[simp] theorem State.putHead_freeCtr (s : State) (k : Nat) (r : HeadS) : (s.putHead k r).freeCtr = s.freeCtr := rfl
@[simp] theorem State.putHead_rv (s : State) (k : Nat) (r : HeadS) : (s.putHead k r).rv = s.rv := rfl
@[simp] theorem State.putHead_staged (s : State) (k : Nat) (r : HeadS) : (s.putHead k r).staged = s.staged := rfl
@[simp] theorem State.putHead_ord (s : State) (k : Nat) (r : HeadS) : (s.putHead k r).ord = s.ord := rfl
@[simp] theorem State.putHead_held (s : State) (k : Nat) (r : HeadS) : (s.putHead k r).held = s.held := rfl
@[simp] theorem State.putHead_cs (s : State) (k : Nat) (r : HeadS) : (s.putHead k r).cs = s.cs := rfl
@[simp] theorem State.putHead_flt (s : State) (k : Nat) (r : HeadS) : (s.putHead k r).flt = s.flt := rfl
@[simp] theorem State.putHead_bnd (s : State) (k : Nat) (r : HeadS) : (s.putHead k r).bnd = s.bnd := rfl
@[simp] theorem State.putHead_cell (s : State) (k : Nat) (r : HeadS) : (s.putHead k r).cell = s.cell := rfl
@[simp] theorem State.putHead_src (s : State) (k : Nat) (r : HeadS) : (s.putHead k r).src = s.src := rfl
@[simp] theorem State.putHead_dst (s : State) (k : Nat) (r : HeadS) : (s.putHead k r).dst = s.dst := rfl
@[simp] theorem State.putHead_cask (s : State) (k : Nat) (r : HeadS) : (s.putHead k r).cask = s.cask := rfl
@[simp] theorem State.putHead_bound (s : State) (k : Nat) (r : HeadS) : (s.putHead k r).bound = s.bound := rfl
@[simp] theorem State.putHead_mntl (s : State) (k : Nat) (r : HeadS) : (s.putHead k r).mntl = s.mntl := rfl
@[simp] theorem State.putHead_mash (s : State) (k : Nat) (r : HeadS) : (s.putHead k r).mash = s.mash := rfl
@[simp] theorem State.putHead_aprt (s : State) (k : Nat) (r : HeadS) : (s.putHead k r).aprt = s.aprt := rfl
@[simp] theorem State.putHead_eth (s : State) (k : Nat) (r : HeadS) : (s.putHead k r).eth = s.eth := rfl
@[simp] theorem State.putHead_kiln (s : State) (k : Nat) (r : HeadS) : (s.putHead k r).kiln = s.kiln := rfl
@[simp] theorem State.putHead_gnss (s : State) (k : Nat) (r : HeadS) : (s.putHead k r).gnss = s.gnss := rfl
@[simp] theorem State.putHead_tsvc (s : State) (k : Nat) (r : HeadS) : (s.putHead k r).tsvc = s.tsvc := rfl
@[simp] theorem State.putHead_hcp (s : State) (k : Nat) (r : HeadS) : (s.putHead k r).hcp = s.hcp := rfl
@[simp] theorem State.putHead_hop (s : State) (k : Nat) (r : HeadS) : (s.putHead k r).hop = s.hop := rfl
@[simp] theorem State.putHead_boot (s : State) (k : Nat) (r : HeadS) : (s.putHead k r).boot = s.boot := rfl
@[simp] theorem State.putHead_pwr (s : State) (k : Nat) (r : HeadS) : (s.putHead k r).pwr = s.pwr := rfl
@[simp] theorem State.putHead_latch (s : State) (k : Nat) (r : HeadS) : (s.putHead k r).latch = s.latch := rfl
@[simp] theorem State.putHead_parked (s : State) (k : Nat) (r : HeadS) : (s.putHead k r).parked = s.parked := rfl
@[simp] theorem State.putHead_mem (s : State) (k : Nat) (r : HeadS) : (s.putHead k r).mem = s.mem := rfl
@[simp] theorem State.putHead_txb (s : State) (k : Nat) (r : HeadS) : (s.putHead k r).txb = s.txb := rfl
@[simp] theorem State.putHead_mirror (s : State) (k : Nat) (r : HeadS) : (s.putHead k r).mirror = s.mirror := rfl
@[simp] theorem State.putHead_egr (s : State) (k : Nat) (r : HeadS) : (s.putHead k r).egr = s.egr := rfl
@[simp] theorem State.putSurf_pending (s : State) (k : Nat) (r : Surf) : (s.putSurf k r).pending = s.pending := rfl
@[simp] theorem State.putSurf_iso (s : State) (k : Nat) (r : Surf) : (s.putSurf k r).iso = s.iso := rfl
@[simp] theorem State.putSurf_por (s : State) (k : Nat) (r : Surf) : (s.putSurf k r).por = s.por := rfl
@[simp] theorem State.putSurf_out (s : State) (k : Nat) (r : Surf) : (s.putSurf k r).out = s.out := rfl
@[simp] theorem State.putSurf_now (s : State) (k : Nat) (r : Surf) : (s.putSurf k r).now = s.now := rfl
@[simp] theorem State.putSurf_up (s : State) (k : Nat) (r : Surf) : (s.putSurf k r).up = s.up := rfl
@[simp] theorem State.putSurf_freeCtr (s : State) (k : Nat) (r : Surf) : (s.putSurf k r).freeCtr = s.freeCtr := rfl
@[simp] theorem State.putSurf_rv (s : State) (k : Nat) (r : Surf) : (s.putSurf k r).rv = s.rv := rfl
@[simp] theorem State.putSurf_staged (s : State) (k : Nat) (r : Surf) : (s.putSurf k r).staged = s.staged := rfl
@[simp] theorem State.putSurf_ord (s : State) (k : Nat) (r : Surf) : (s.putSurf k r).ord = s.ord := rfl
@[simp] theorem State.putSurf_held (s : State) (k : Nat) (r : Surf) : (s.putSurf k r).held = s.held := rfl
@[simp] theorem State.putSurf_cs (s : State) (k : Nat) (r : Surf) : (s.putSurf k r).cs = s.cs := rfl
@[simp] theorem State.putSurf_flt (s : State) (k : Nat) (r : Surf) : (s.putSurf k r).flt = s.flt := rfl
@[simp] theorem State.putSurf_bnd (s : State) (k : Nat) (r : Surf) : (s.putSurf k r).bnd = s.bnd := rfl
@[simp] theorem State.putSurf_cell (s : State) (k : Nat) (r : Surf) : (s.putSurf k r).cell = s.cell := rfl
@[simp] theorem State.putSurf_src (s : State) (k : Nat) (r : Surf) : (s.putSurf k r).src = s.src := rfl
@[simp] theorem State.putSurf_dst (s : State) (k : Nat) (r : Surf) : (s.putSurf k r).dst = s.dst := rfl
@[simp] theorem State.putSurf_head (s : State) (k : Nat) (r : Surf) : (s.putSurf k r).head = s.head := rfl
@[simp] theorem State.putSurf_bound (s : State) (k : Nat) (r : Surf) : (s.putSurf k r).bound = s.bound := rfl
@[simp] theorem State.putSurf_mntl (s : State) (k : Nat) (r : Surf) : (s.putSurf k r).mntl = s.mntl := rfl
@[simp] theorem State.putSurf_mash (s : State) (k : Nat) (r : Surf) : (s.putSurf k r).mash = s.mash := rfl
@[simp] theorem State.putSurf_aprt (s : State) (k : Nat) (r : Surf) : (s.putSurf k r).aprt = s.aprt := rfl
@[simp] theorem State.putSurf_eth (s : State) (k : Nat) (r : Surf) : (s.putSurf k r).eth = s.eth := rfl
@[simp] theorem State.putSurf_kiln (s : State) (k : Nat) (r : Surf) : (s.putSurf k r).kiln = s.kiln := rfl
@[simp] theorem State.putSurf_gnss (s : State) (k : Nat) (r : Surf) : (s.putSurf k r).gnss = s.gnss := rfl
@[simp] theorem State.putSurf_tsvc (s : State) (k : Nat) (r : Surf) : (s.putSurf k r).tsvc = s.tsvc := rfl
@[simp] theorem State.putSurf_hcp (s : State) (k : Nat) (r : Surf) : (s.putSurf k r).hcp = s.hcp := rfl
@[simp] theorem State.putSurf_hop (s : State) (k : Nat) (r : Surf) : (s.putSurf k r).hop = s.hop := rfl
@[simp] theorem State.putSurf_boot (s : State) (k : Nat) (r : Surf) : (s.putSurf k r).boot = s.boot := rfl
@[simp] theorem State.putSurf_pwr (s : State) (k : Nat) (r : Surf) : (s.putSurf k r).pwr = s.pwr := rfl
@[simp] theorem State.putSurf_latch (s : State) (k : Nat) (r : Surf) : (s.putSurf k r).latch = s.latch := rfl
@[simp] theorem State.putSurf_parked (s : State) (k : Nat) (r : Surf) : (s.putSurf k r).parked = s.parked := rfl
@[simp] theorem State.putSurf_mem (s : State) (k : Nat) (r : Surf) : (s.putSurf k r).mem = s.mem := rfl
@[simp] theorem State.putSurf_txb (s : State) (k : Nat) (r : Surf) : (s.putSurf k r).txb = s.txb := rfl
@[simp] theorem State.putSurf_mirror (s : State) (k : Nat) (r : Surf) : (s.putSurf k r).mirror = s.mirror := rfl
@[simp] theorem State.putSurf_egr (s : State) (k : Nat) (r : Surf) : (s.putSurf k r).egr = s.egr := rfl
@[simp] theorem State.putSess_pending (s : State) (k : Nat) (r : Session) : (s.putSess k r).pending = s.pending := rfl
@[simp] theorem State.putSess_iso (s : State) (k : Nat) (r : Session) : (s.putSess k r).iso = s.iso := rfl
@[simp] theorem State.putSess_por (s : State) (k : Nat) (r : Session) : (s.putSess k r).por = s.por := rfl
@[simp] theorem State.putSess_out (s : State) (k : Nat) (r : Session) : (s.putSess k r).out = s.out := rfl
@[simp] theorem State.putSess_now (s : State) (k : Nat) (r : Session) : (s.putSess k r).now = s.now := rfl
@[simp] theorem State.putSess_up (s : State) (k : Nat) (r : Session) : (s.putSess k r).up = s.up := rfl
@[simp] theorem State.putSess_freeCtr (s : State) (k : Nat) (r : Session) : (s.putSess k r).freeCtr = s.freeCtr := rfl
@[simp] theorem State.putSess_rv (s : State) (k : Nat) (r : Session) : (s.putSess k r).rv = s.rv := rfl
@[simp] theorem State.putSess_staged (s : State) (k : Nat) (r : Session) : (s.putSess k r).staged = s.staged := rfl
@[simp] theorem State.putSess_ord (s : State) (k : Nat) (r : Session) : (s.putSess k r).ord = s.ord := rfl
@[simp] theorem State.putSess_held (s : State) (k : Nat) (r : Session) : (s.putSess k r).held = s.held := rfl
@[simp] theorem State.putSess_cs (s : State) (k : Nat) (r : Session) : (s.putSess k r).cs = s.cs := rfl
@[simp] theorem State.putSess_flt (s : State) (k : Nat) (r : Session) : (s.putSess k r).flt = s.flt := rfl
@[simp] theorem State.putSess_bnd (s : State) (k : Nat) (r : Session) : (s.putSess k r).bnd = s.bnd := rfl
@[simp] theorem State.putSess_cell (s : State) (k : Nat) (r : Session) : (s.putSess k r).cell = s.cell := rfl
@[simp] theorem State.putSess_src (s : State) (k : Nat) (r : Session) : (s.putSess k r).src = s.src := rfl
@[simp] theorem State.putSess_dst (s : State) (k : Nat) (r : Session) : (s.putSess k r).dst = s.dst := rfl
@[simp] theorem State.putSess_cask (s : State) (k : Nat) (r : Session) : (s.putSess k r).cask = s.cask := rfl
@[simp] theorem State.putSess_head (s : State) (k : Nat) (r : Session) : (s.putSess k r).head = s.head := rfl
@[simp] theorem State.putSess_bound (s : State) (k : Nat) (r : Session) : (s.putSess k r).bound = s.bound := rfl
@[simp] theorem State.putSess_mntl (s : State) (k : Nat) (r : Session) : (s.putSess k r).mntl = s.mntl := rfl
@[simp] theorem State.putSess_mash (s : State) (k : Nat) (r : Session) : (s.putSess k r).mash = s.mash := rfl
@[simp] theorem State.putSess_aprt (s : State) (k : Nat) (r : Session) : (s.putSess k r).aprt = s.aprt := rfl
@[simp] theorem State.putSess_eth (s : State) (k : Nat) (r : Session) : (s.putSess k r).eth = s.eth := rfl
@[simp] theorem State.putSess_kiln (s : State) (k : Nat) (r : Session) : (s.putSess k r).kiln = s.kiln := rfl
@[simp] theorem State.putSess_gnss (s : State) (k : Nat) (r : Session) : (s.putSess k r).gnss = s.gnss := rfl
@[simp] theorem State.putSess_tsvc (s : State) (k : Nat) (r : Session) : (s.putSess k r).tsvc = s.tsvc := rfl
@[simp] theorem State.putSess_hop (s : State) (k : Nat) (r : Session) : (s.putSess k r).hop = s.hop := rfl
@[simp] theorem State.putSess_boot (s : State) (k : Nat) (r : Session) : (s.putSess k r).boot = s.boot := rfl
@[simp] theorem State.putSess_pwr (s : State) (k : Nat) (r : Session) : (s.putSess k r).pwr = s.pwr := rfl
@[simp] theorem State.putSess_latch (s : State) (k : Nat) (r : Session) : (s.putSess k r).latch = s.latch := rfl
@[simp] theorem State.putSess_parked (s : State) (k : Nat) (r : Session) : (s.putSess k r).parked = s.parked := rfl
@[simp] theorem State.putSess_mem (s : State) (k : Nat) (r : Session) : (s.putSess k r).mem = s.mem := rfl
@[simp] theorem State.putSess_txb (s : State) (k : Nat) (r : Session) : (s.putSess k r).txb = s.txb := rfl
@[simp] theorem State.putSess_mirror (s : State) (k : Nat) (r : Session) : (s.putSess k r).mirror = s.mirror := rfl
@[simp] theorem State.putSess_egr (s : State) (k : Nat) (r : Session) : (s.putSess k r).egr = s.egr := rfl
@[simp] theorem State.putHop_pending (s : State) (k : Nat) (r : HopCh) : (s.putHop k r).pending = s.pending := rfl
@[simp] theorem State.putHop_iso (s : State) (k : Nat) (r : HopCh) : (s.putHop k r).iso = s.iso := rfl
@[simp] theorem State.putHop_por (s : State) (k : Nat) (r : HopCh) : (s.putHop k r).por = s.por := rfl
@[simp] theorem State.putHop_out (s : State) (k : Nat) (r : HopCh) : (s.putHop k r).out = s.out := rfl
@[simp] theorem State.putHop_now (s : State) (k : Nat) (r : HopCh) : (s.putHop k r).now = s.now := rfl
@[simp] theorem State.putHop_up (s : State) (k : Nat) (r : HopCh) : (s.putHop k r).up = s.up := rfl
@[simp] theorem State.putHop_freeCtr (s : State) (k : Nat) (r : HopCh) : (s.putHop k r).freeCtr = s.freeCtr := rfl
@[simp] theorem State.putHop_rv (s : State) (k : Nat) (r : HopCh) : (s.putHop k r).rv = s.rv := rfl
@[simp] theorem State.putHop_staged (s : State) (k : Nat) (r : HopCh) : (s.putHop k r).staged = s.staged := rfl
@[simp] theorem State.putHop_ord (s : State) (k : Nat) (r : HopCh) : (s.putHop k r).ord = s.ord := rfl
@[simp] theorem State.putHop_held (s : State) (k : Nat) (r : HopCh) : (s.putHop k r).held = s.held := rfl
@[simp] theorem State.putHop_cs (s : State) (k : Nat) (r : HopCh) : (s.putHop k r).cs = s.cs := rfl
@[simp] theorem State.putHop_flt (s : State) (k : Nat) (r : HopCh) : (s.putHop k r).flt = s.flt := rfl
@[simp] theorem State.putHop_bnd (s : State) (k : Nat) (r : HopCh) : (s.putHop k r).bnd = s.bnd := rfl
@[simp] theorem State.putHop_cell (s : State) (k : Nat) (r : HopCh) : (s.putHop k r).cell = s.cell := rfl
@[simp] theorem State.putHop_src (s : State) (k : Nat) (r : HopCh) : (s.putHop k r).src = s.src := rfl
@[simp] theorem State.putHop_dst (s : State) (k : Nat) (r : HopCh) : (s.putHop k r).dst = s.dst := rfl
@[simp] theorem State.putHop_cask (s : State) (k : Nat) (r : HopCh) : (s.putHop k r).cask = s.cask := rfl
@[simp] theorem State.putHop_head (s : State) (k : Nat) (r : HopCh) : (s.putHop k r).head = s.head := rfl
@[simp] theorem State.putHop_bound (s : State) (k : Nat) (r : HopCh) : (s.putHop k r).bound = s.bound := rfl
@[simp] theorem State.putHop_mntl (s : State) (k : Nat) (r : HopCh) : (s.putHop k r).mntl = s.mntl := rfl
@[simp] theorem State.putHop_mash (s : State) (k : Nat) (r : HopCh) : (s.putHop k r).mash = s.mash := rfl
@[simp] theorem State.putHop_aprt (s : State) (k : Nat) (r : HopCh) : (s.putHop k r).aprt = s.aprt := rfl
@[simp] theorem State.putHop_eth (s : State) (k : Nat) (r : HopCh) : (s.putHop k r).eth = s.eth := rfl
@[simp] theorem State.putHop_kiln (s : State) (k : Nat) (r : HopCh) : (s.putHop k r).kiln = s.kiln := rfl
@[simp] theorem State.putHop_gnss (s : State) (k : Nat) (r : HopCh) : (s.putHop k r).gnss = s.gnss := rfl
@[simp] theorem State.putHop_tsvc (s : State) (k : Nat) (r : HopCh) : (s.putHop k r).tsvc = s.tsvc := rfl
@[simp] theorem State.putHop_hcp (s : State) (k : Nat) (r : HopCh) : (s.putHop k r).hcp = s.hcp := rfl
@[simp] theorem State.putHop_boot (s : State) (k : Nat) (r : HopCh) : (s.putHop k r).boot = s.boot := rfl
@[simp] theorem State.putHop_pwr (s : State) (k : Nat) (r : HopCh) : (s.putHop k r).pwr = s.pwr := rfl
@[simp] theorem State.putHop_latch (s : State) (k : Nat) (r : HopCh) : (s.putHop k r).latch = s.latch := rfl
@[simp] theorem State.putHop_parked (s : State) (k : Nat) (r : HopCh) : (s.putHop k r).parked = s.parked := rfl
@[simp] theorem State.putHop_mem (s : State) (k : Nat) (r : HopCh) : (s.putHop k r).mem = s.mem := rfl
@[simp] theorem State.putHop_txb (s : State) (k : Nat) (r : HopCh) : (s.putHop k r).txb = s.txb := rfl
@[simp] theorem State.putHop_mirror (s : State) (k : Nat) (r : HopCh) : (s.putHop k r).mirror = s.mirror := rfl
@[simp] theorem State.putHop_egr (s : State) (k : Nat) (r : HopCh) : (s.putHop k r).egr = s.egr := rfl
@[simp] theorem State.putPort_pending (s : State) (k : Nat) (r : PortS) : (s.putPort k r).pending = s.pending := rfl
@[simp] theorem State.putPort_iso (s : State) (k : Nat) (r : PortS) : (s.putPort k r).iso = s.iso := rfl
@[simp] theorem State.putPort_por (s : State) (k : Nat) (r : PortS) : (s.putPort k r).por = s.por := rfl
@[simp] theorem State.putPort_out (s : State) (k : Nat) (r : PortS) : (s.putPort k r).out = s.out := rfl
@[simp] theorem State.putPort_now (s : State) (k : Nat) (r : PortS) : (s.putPort k r).now = s.now := rfl
@[simp] theorem State.putPort_up (s : State) (k : Nat) (r : PortS) : (s.putPort k r).up = s.up := rfl
@[simp] theorem State.putPort_freeCtr (s : State) (k : Nat) (r : PortS) : (s.putPort k r).freeCtr = s.freeCtr := rfl
@[simp] theorem State.putPort_rv (s : State) (k : Nat) (r : PortS) : (s.putPort k r).rv = s.rv := rfl
@[simp] theorem State.putPort_staged (s : State) (k : Nat) (r : PortS) : (s.putPort k r).staged = s.staged := rfl
@[simp] theorem State.putPort_ord (s : State) (k : Nat) (r : PortS) : (s.putPort k r).ord = s.ord := rfl
@[simp] theorem State.putPort_held (s : State) (k : Nat) (r : PortS) : (s.putPort k r).held = s.held := rfl
@[simp] theorem State.putPort_cs (s : State) (k : Nat) (r : PortS) : (s.putPort k r).cs = s.cs := rfl
@[simp] theorem State.putPort_flt (s : State) (k : Nat) (r : PortS) : (s.putPort k r).flt = s.flt := rfl
@[simp] theorem State.putPort_bnd (s : State) (k : Nat) (r : PortS) : (s.putPort k r).bnd = s.bnd := rfl
@[simp] theorem State.putPort_cell (s : State) (k : Nat) (r : PortS) : (s.putPort k r).cell = s.cell := rfl
@[simp] theorem State.putPort_src (s : State) (k : Nat) (r : PortS) : (s.putPort k r).src = s.src := rfl
@[simp] theorem State.putPort_dst (s : State) (k : Nat) (r : PortS) : (s.putPort k r).dst = s.dst := rfl
@[simp] theorem State.putPort_cask (s : State) (k : Nat) (r : PortS) : (s.putPort k r).cask = s.cask := rfl
@[simp] theorem State.putPort_head (s : State) (k : Nat) (r : PortS) : (s.putPort k r).head = s.head := rfl
@[simp] theorem State.putPort_bound (s : State) (k : Nat) (r : PortS) : (s.putPort k r).bound = s.bound := rfl
@[simp] theorem State.putPort_mntl (s : State) (k : Nat) (r : PortS) : (s.putPort k r).mntl = s.mntl := rfl
@[simp] theorem State.putPort_mash (s : State) (k : Nat) (r : PortS) : (s.putPort k r).mash = s.mash := rfl
@[simp] theorem State.putPort_eth (s : State) (k : Nat) (r : PortS) : (s.putPort k r).eth = s.eth := rfl
@[simp] theorem State.putPort_kiln (s : State) (k : Nat) (r : PortS) : (s.putPort k r).kiln = s.kiln := rfl
@[simp] theorem State.putPort_gnss (s : State) (k : Nat) (r : PortS) : (s.putPort k r).gnss = s.gnss := rfl
@[simp] theorem State.putPort_tsvc (s : State) (k : Nat) (r : PortS) : (s.putPort k r).tsvc = s.tsvc := rfl
@[simp] theorem State.putPort_hcp (s : State) (k : Nat) (r : PortS) : (s.putPort k r).hcp = s.hcp := rfl
@[simp] theorem State.putPort_hop (s : State) (k : Nat) (r : PortS) : (s.putPort k r).hop = s.hop := rfl
@[simp] theorem State.putPort_boot (s : State) (k : Nat) (r : PortS) : (s.putPort k r).boot = s.boot := rfl
@[simp] theorem State.putPort_pwr (s : State) (k : Nat) (r : PortS) : (s.putPort k r).pwr = s.pwr := rfl
@[simp] theorem State.putPort_latch (s : State) (k : Nat) (r : PortS) : (s.putPort k r).latch = s.latch := rfl
@[simp] theorem State.putPort_parked (s : State) (k : Nat) (r : PortS) : (s.putPort k r).parked = s.parked := rfl
@[simp] theorem State.putPort_mem (s : State) (k : Nat) (r : PortS) : (s.putPort k r).mem = s.mem := rfl
@[simp] theorem State.putPort_txb (s : State) (k : Nat) (r : PortS) : (s.putPort k r).txb = s.txb := rfl
@[simp] theorem State.putPort_mirror (s : State) (k : Nat) (r : PortS) : (s.putPort k r).mirror = s.mirror := rfl
@[simp] theorem State.putPort_egr (s : State) (k : Nat) (r : PortS) : (s.putPort k r).egr = s.egr := rfl
@[simp] theorem State.onFlt_pending (s : State) (g : FltS → FltS) : (s.onFlt g).pending = s.pending := rfl
@[simp] theorem State.onFlt_iso (s : State) (g : FltS → FltS) : (s.onFlt g).iso = s.iso := rfl
@[simp] theorem State.onFlt_por (s : State) (g : FltS → FltS) : (s.onFlt g).por = s.por := rfl
@[simp] theorem State.onFlt_out (s : State) (g : FltS → FltS) : (s.onFlt g).out = s.out := rfl
@[simp] theorem State.onFlt_now (s : State) (g : FltS → FltS) : (s.onFlt g).now = s.now := rfl
@[simp] theorem State.onFlt_up (s : State) (g : FltS → FltS) : (s.onFlt g).up = s.up := rfl
@[simp] theorem State.onFlt_freeCtr (s : State) (g : FltS → FltS) : (s.onFlt g).freeCtr = s.freeCtr := rfl
@[simp] theorem State.onFlt_rv (s : State) (g : FltS → FltS) : (s.onFlt g).rv = s.rv := rfl
@[simp] theorem State.onFlt_staged (s : State) (g : FltS → FltS) : (s.onFlt g).staged = s.staged := rfl
@[simp] theorem State.onFlt_ord (s : State) (g : FltS → FltS) : (s.onFlt g).ord = s.ord := rfl
@[simp] theorem State.onFlt_held (s : State) (g : FltS → FltS) : (s.onFlt g).held = s.held := rfl
@[simp] theorem State.onFlt_cs (s : State) (g : FltS → FltS) : (s.onFlt g).cs = s.cs := rfl
@[simp] theorem State.onFlt_flt (s : State) (g : FltS → FltS) : (s.onFlt g).flt = g s.flt := rfl
@[simp] theorem State.onFlt_bnd (s : State) (g : FltS → FltS) : (s.onFlt g).bnd = s.bnd := rfl
@[simp] theorem State.onFlt_cell (s : State) (g : FltS → FltS) : (s.onFlt g).cell = s.cell := rfl
@[simp] theorem State.onFlt_src (s : State) (g : FltS → FltS) : (s.onFlt g).src = s.src := rfl
@[simp] theorem State.onFlt_dst (s : State) (g : FltS → FltS) : (s.onFlt g).dst = s.dst := rfl
@[simp] theorem State.onFlt_cask (s : State) (g : FltS → FltS) : (s.onFlt g).cask = s.cask := rfl
@[simp] theorem State.onFlt_head (s : State) (g : FltS → FltS) : (s.onFlt g).head = s.head := rfl
@[simp] theorem State.onFlt_bound (s : State) (g : FltS → FltS) : (s.onFlt g).bound = s.bound := rfl
@[simp] theorem State.onFlt_mntl (s : State) (g : FltS → FltS) : (s.onFlt g).mntl = s.mntl := rfl
@[simp] theorem State.onFlt_mash (s : State) (g : FltS → FltS) : (s.onFlt g).mash = s.mash := rfl
@[simp] theorem State.onFlt_aprt (s : State) (g : FltS → FltS) : (s.onFlt g).aprt = s.aprt := rfl
@[simp] theorem State.onFlt_eth (s : State) (g : FltS → FltS) : (s.onFlt g).eth = s.eth := rfl
@[simp] theorem State.onFlt_kiln (s : State) (g : FltS → FltS) : (s.onFlt g).kiln = s.kiln := rfl
@[simp] theorem State.onFlt_gnss (s : State) (g : FltS → FltS) : (s.onFlt g).gnss = s.gnss := rfl
@[simp] theorem State.onFlt_tsvc (s : State) (g : FltS → FltS) : (s.onFlt g).tsvc = s.tsvc := rfl
@[simp] theorem State.onFlt_hcp (s : State) (g : FltS → FltS) : (s.onFlt g).hcp = s.hcp := rfl
@[simp] theorem State.onFlt_hop (s : State) (g : FltS → FltS) : (s.onFlt g).hop = s.hop := rfl
@[simp] theorem State.onFlt_boot (s : State) (g : FltS → FltS) : (s.onFlt g).boot = s.boot := rfl
@[simp] theorem State.onFlt_pwr (s : State) (g : FltS → FltS) : (s.onFlt g).pwr = s.pwr := rfl
@[simp] theorem State.onFlt_latch (s : State) (g : FltS → FltS) : (s.onFlt g).latch = s.latch := rfl
@[simp] theorem State.onFlt_parked (s : State) (g : FltS → FltS) : (s.onFlt g).parked = s.parked := rfl
@[simp] theorem State.onFlt_mem (s : State) (g : FltS → FltS) : (s.onFlt g).mem = s.mem := rfl
@[simp] theorem State.onFlt_txb (s : State) (g : FltS → FltS) : (s.onFlt g).txb = s.txb := rfl
@[simp] theorem State.onFlt_mirror (s : State) (g : FltS → FltS) : (s.onFlt g).mirror = s.mirror := rfl
@[simp] theorem State.onFlt_egr (s : State) (g : FltS → FltS) : (s.onFlt g).egr = s.egr := rfl
@[simp] theorem State.onCell_pending (s : State) (g : CellS → CellS) : (s.onCell g).pending = s.pending := rfl
@[simp] theorem State.onCell_iso (s : State) (g : CellS → CellS) : (s.onCell g).iso = s.iso := rfl
@[simp] theorem State.onCell_por (s : State) (g : CellS → CellS) : (s.onCell g).por = s.por := rfl
@[simp] theorem State.onCell_out (s : State) (g : CellS → CellS) : (s.onCell g).out = s.out := rfl
@[simp] theorem State.onCell_now (s : State) (g : CellS → CellS) : (s.onCell g).now = s.now := rfl
@[simp] theorem State.onCell_up (s : State) (g : CellS → CellS) : (s.onCell g).up = s.up := rfl
@[simp] theorem State.onCell_freeCtr (s : State) (g : CellS → CellS) : (s.onCell g).freeCtr = s.freeCtr := rfl
@[simp] theorem State.onCell_rv (s : State) (g : CellS → CellS) : (s.onCell g).rv = s.rv := rfl
@[simp] theorem State.onCell_staged (s : State) (g : CellS → CellS) : (s.onCell g).staged = s.staged := rfl
@[simp] theorem State.onCell_ord (s : State) (g : CellS → CellS) : (s.onCell g).ord = s.ord := rfl
@[simp] theorem State.onCell_held (s : State) (g : CellS → CellS) : (s.onCell g).held = s.held := rfl
@[simp] theorem State.onCell_cs (s : State) (g : CellS → CellS) : (s.onCell g).cs = s.cs := rfl
@[simp] theorem State.onCell_flt (s : State) (g : CellS → CellS) : (s.onCell g).flt = s.flt := rfl
@[simp] theorem State.onCell_bnd (s : State) (g : CellS → CellS) : (s.onCell g).bnd = s.bnd := rfl
@[simp] theorem State.onCell_cell (s : State) (g : CellS → CellS) : (s.onCell g).cell = g s.cell := rfl
@[simp] theorem State.onCell_src (s : State) (g : CellS → CellS) : (s.onCell g).src = s.src := rfl
@[simp] theorem State.onCell_dst (s : State) (g : CellS → CellS) : (s.onCell g).dst = s.dst := rfl
@[simp] theorem State.onCell_cask (s : State) (g : CellS → CellS) : (s.onCell g).cask = s.cask := rfl
@[simp] theorem State.onCell_head (s : State) (g : CellS → CellS) : (s.onCell g).head = s.head := rfl
@[simp] theorem State.onCell_bound (s : State) (g : CellS → CellS) : (s.onCell g).bound = s.bound := rfl
@[simp] theorem State.onCell_mntl (s : State) (g : CellS → CellS) : (s.onCell g).mntl = s.mntl := rfl
@[simp] theorem State.onCell_mash (s : State) (g : CellS → CellS) : (s.onCell g).mash = s.mash := rfl
@[simp] theorem State.onCell_aprt (s : State) (g : CellS → CellS) : (s.onCell g).aprt = s.aprt := rfl
@[simp] theorem State.onCell_eth (s : State) (g : CellS → CellS) : (s.onCell g).eth = s.eth := rfl
@[simp] theorem State.onCell_kiln (s : State) (g : CellS → CellS) : (s.onCell g).kiln = s.kiln := rfl
@[simp] theorem State.onCell_gnss (s : State) (g : CellS → CellS) : (s.onCell g).gnss = s.gnss := rfl
@[simp] theorem State.onCell_tsvc (s : State) (g : CellS → CellS) : (s.onCell g).tsvc = s.tsvc := rfl
@[simp] theorem State.onCell_hcp (s : State) (g : CellS → CellS) : (s.onCell g).hcp = s.hcp := rfl
@[simp] theorem State.onCell_hop (s : State) (g : CellS → CellS) : (s.onCell g).hop = s.hop := rfl
@[simp] theorem State.onCell_boot (s : State) (g : CellS → CellS) : (s.onCell g).boot = s.boot := rfl
@[simp] theorem State.onCell_pwr (s : State) (g : CellS → CellS) : (s.onCell g).pwr = s.pwr := rfl
@[simp] theorem State.onCell_latch (s : State) (g : CellS → CellS) : (s.onCell g).latch = s.latch := rfl
@[simp] theorem State.onCell_parked (s : State) (g : CellS → CellS) : (s.onCell g).parked = s.parked := rfl
@[simp] theorem State.onCell_mem (s : State) (g : CellS → CellS) : (s.onCell g).mem = s.mem := rfl
@[simp] theorem State.onCell_txb (s : State) (g : CellS → CellS) : (s.onCell g).txb = s.txb := rfl
@[simp] theorem State.onCell_mirror (s : State) (g : CellS → CellS) : (s.onCell g).mirror = s.mirror := rfl
@[simp] theorem State.onCell_egr (s : State) (g : CellS → CellS) : (s.onCell g).egr = s.egr := rfl
@[simp] theorem State.onCask_pending (s : State) (g : CaskS → CaskS) : (s.onCask g).pending = s.pending := rfl
@[simp] theorem State.onCask_iso (s : State) (g : CaskS → CaskS) : (s.onCask g).iso = s.iso := rfl
@[simp] theorem State.onCask_por (s : State) (g : CaskS → CaskS) : (s.onCask g).por = s.por := rfl
@[simp] theorem State.onCask_out (s : State) (g : CaskS → CaskS) : (s.onCask g).out = s.out := rfl
@[simp] theorem State.onCask_now (s : State) (g : CaskS → CaskS) : (s.onCask g).now = s.now := rfl
@[simp] theorem State.onCask_up (s : State) (g : CaskS → CaskS) : (s.onCask g).up = s.up := rfl
@[simp] theorem State.onCask_freeCtr (s : State) (g : CaskS → CaskS) : (s.onCask g).freeCtr = s.freeCtr := rfl
@[simp] theorem State.onCask_rv (s : State) (g : CaskS → CaskS) : (s.onCask g).rv = s.rv := rfl
@[simp] theorem State.onCask_staged (s : State) (g : CaskS → CaskS) : (s.onCask g).staged = s.staged := rfl
@[simp] theorem State.onCask_ord (s : State) (g : CaskS → CaskS) : (s.onCask g).ord = s.ord := rfl
@[simp] theorem State.onCask_held (s : State) (g : CaskS → CaskS) : (s.onCask g).held = s.held := rfl
@[simp] theorem State.onCask_cs (s : State) (g : CaskS → CaskS) : (s.onCask g).cs = s.cs := rfl
@[simp] theorem State.onCask_flt (s : State) (g : CaskS → CaskS) : (s.onCask g).flt = s.flt := rfl
@[simp] theorem State.onCask_bnd (s : State) (g : CaskS → CaskS) : (s.onCask g).bnd = s.bnd := rfl
@[simp] theorem State.onCask_cell (s : State) (g : CaskS → CaskS) : (s.onCask g).cell = s.cell := rfl
@[simp] theorem State.onCask_src (s : State) (g : CaskS → CaskS) : (s.onCask g).src = s.src := rfl
@[simp] theorem State.onCask_dst (s : State) (g : CaskS → CaskS) : (s.onCask g).dst = s.dst := rfl
@[simp] theorem State.onCask_cask (s : State) (g : CaskS → CaskS) : (s.onCask g).cask = g s.cask := rfl
@[simp] theorem State.onCask_head (s : State) (g : CaskS → CaskS) : (s.onCask g).head = s.head := rfl
@[simp] theorem State.onCask_bound (s : State) (g : CaskS → CaskS) : (s.onCask g).bound = s.bound := rfl
@[simp] theorem State.onCask_mntl (s : State) (g : CaskS → CaskS) : (s.onCask g).mntl = s.mntl := rfl
@[simp] theorem State.onCask_mash (s : State) (g : CaskS → CaskS) : (s.onCask g).mash = s.mash := rfl
@[simp] theorem State.onCask_aprt (s : State) (g : CaskS → CaskS) : (s.onCask g).aprt = s.aprt := rfl
@[simp] theorem State.onCask_eth (s : State) (g : CaskS → CaskS) : (s.onCask g).eth = s.eth := rfl
@[simp] theorem State.onCask_kiln (s : State) (g : CaskS → CaskS) : (s.onCask g).kiln = s.kiln := rfl
@[simp] theorem State.onCask_gnss (s : State) (g : CaskS → CaskS) : (s.onCask g).gnss = s.gnss := rfl
@[simp] theorem State.onCask_tsvc (s : State) (g : CaskS → CaskS) : (s.onCask g).tsvc = s.tsvc := rfl
@[simp] theorem State.onCask_hcp (s : State) (g : CaskS → CaskS) : (s.onCask g).hcp = s.hcp := rfl
@[simp] theorem State.onCask_hop (s : State) (g : CaskS → CaskS) : (s.onCask g).hop = s.hop := rfl
@[simp] theorem State.onCask_boot (s : State) (g : CaskS → CaskS) : (s.onCask g).boot = s.boot := rfl
@[simp] theorem State.onCask_pwr (s : State) (g : CaskS → CaskS) : (s.onCask g).pwr = s.pwr := rfl
@[simp] theorem State.onCask_latch (s : State) (g : CaskS → CaskS) : (s.onCask g).latch = s.latch := rfl
@[simp] theorem State.onCask_parked (s : State) (g : CaskS → CaskS) : (s.onCask g).parked = s.parked := rfl
@[simp] theorem State.onCask_mem (s : State) (g : CaskS → CaskS) : (s.onCask g).mem = s.mem := rfl
@[simp] theorem State.onCask_txb (s : State) (g : CaskS → CaskS) : (s.onCask g).txb = s.txb := rfl
@[simp] theorem State.onCask_mirror (s : State) (g : CaskS → CaskS) : (s.onCask g).mirror = s.mirror := rfl
@[simp] theorem State.onCask_egr (s : State) (g : CaskS → CaskS) : (s.onCask g).egr = s.egr := rfl
@[simp] theorem State.onMntl_pending (s : State) (g : MntlS → MntlS) : (s.onMntl g).pending = s.pending := rfl
@[simp] theorem State.onMntl_iso (s : State) (g : MntlS → MntlS) : (s.onMntl g).iso = s.iso := rfl
@[simp] theorem State.onMntl_por (s : State) (g : MntlS → MntlS) : (s.onMntl g).por = s.por := rfl
@[simp] theorem State.onMntl_out (s : State) (g : MntlS → MntlS) : (s.onMntl g).out = s.out := rfl
@[simp] theorem State.onMntl_now (s : State) (g : MntlS → MntlS) : (s.onMntl g).now = s.now := rfl
@[simp] theorem State.onMntl_up (s : State) (g : MntlS → MntlS) : (s.onMntl g).up = s.up := rfl
@[simp] theorem State.onMntl_freeCtr (s : State) (g : MntlS → MntlS) : (s.onMntl g).freeCtr = s.freeCtr := rfl
@[simp] theorem State.onMntl_rv (s : State) (g : MntlS → MntlS) : (s.onMntl g).rv = s.rv := rfl
@[simp] theorem State.onMntl_staged (s : State) (g : MntlS → MntlS) : (s.onMntl g).staged = s.staged := rfl
@[simp] theorem State.onMntl_ord (s : State) (g : MntlS → MntlS) : (s.onMntl g).ord = s.ord := rfl
@[simp] theorem State.onMntl_held (s : State) (g : MntlS → MntlS) : (s.onMntl g).held = s.held := rfl
@[simp] theorem State.onMntl_cs (s : State) (g : MntlS → MntlS) : (s.onMntl g).cs = s.cs := rfl
@[simp] theorem State.onMntl_flt (s : State) (g : MntlS → MntlS) : (s.onMntl g).flt = s.flt := rfl
@[simp] theorem State.onMntl_bnd (s : State) (g : MntlS → MntlS) : (s.onMntl g).bnd = s.bnd := rfl
@[simp] theorem State.onMntl_cell (s : State) (g : MntlS → MntlS) : (s.onMntl g).cell = s.cell := rfl
@[simp] theorem State.onMntl_src (s : State) (g : MntlS → MntlS) : (s.onMntl g).src = s.src := rfl
@[simp] theorem State.onMntl_dst (s : State) (g : MntlS → MntlS) : (s.onMntl g).dst = s.dst := rfl
@[simp] theorem State.onMntl_cask (s : State) (g : MntlS → MntlS) : (s.onMntl g).cask = s.cask := rfl
@[simp] theorem State.onMntl_head (s : State) (g : MntlS → MntlS) : (s.onMntl g).head = s.head := rfl
@[simp] theorem State.onMntl_bound (s : State) (g : MntlS → MntlS) : (s.onMntl g).bound = s.bound := rfl
@[simp] theorem State.onMntl_mntl (s : State) (g : MntlS → MntlS) : (s.onMntl g).mntl = g s.mntl := rfl
@[simp] theorem State.onMntl_mash (s : State) (g : MntlS → MntlS) : (s.onMntl g).mash = s.mash := rfl
@[simp] theorem State.onMntl_aprt (s : State) (g : MntlS → MntlS) : (s.onMntl g).aprt = s.aprt := rfl
@[simp] theorem State.onMntl_eth (s : State) (g : MntlS → MntlS) : (s.onMntl g).eth = s.eth := rfl
@[simp] theorem State.onMntl_kiln (s : State) (g : MntlS → MntlS) : (s.onMntl g).kiln = s.kiln := rfl
@[simp] theorem State.onMntl_gnss (s : State) (g : MntlS → MntlS) : (s.onMntl g).gnss = s.gnss := rfl
@[simp] theorem State.onMntl_tsvc (s : State) (g : MntlS → MntlS) : (s.onMntl g).tsvc = s.tsvc := rfl
@[simp] theorem State.onMntl_hcp (s : State) (g : MntlS → MntlS) : (s.onMntl g).hcp = s.hcp := rfl
@[simp] theorem State.onMntl_hop (s : State) (g : MntlS → MntlS) : (s.onMntl g).hop = s.hop := rfl
@[simp] theorem State.onMntl_boot (s : State) (g : MntlS → MntlS) : (s.onMntl g).boot = s.boot := rfl
@[simp] theorem State.onMntl_pwr (s : State) (g : MntlS → MntlS) : (s.onMntl g).pwr = s.pwr := rfl
@[simp] theorem State.onMntl_latch (s : State) (g : MntlS → MntlS) : (s.onMntl g).latch = s.latch := rfl
@[simp] theorem State.onMntl_parked (s : State) (g : MntlS → MntlS) : (s.onMntl g).parked = s.parked := rfl
@[simp] theorem State.onMntl_mem (s : State) (g : MntlS → MntlS) : (s.onMntl g).mem = s.mem := rfl
@[simp] theorem State.onMntl_txb (s : State) (g : MntlS → MntlS) : (s.onMntl g).txb = s.txb := rfl
@[simp] theorem State.onMntl_mirror (s : State) (g : MntlS → MntlS) : (s.onMntl g).mirror = s.mirror := rfl
@[simp] theorem State.onMntl_egr (s : State) (g : MntlS → MntlS) : (s.onMntl g).egr = s.egr := rfl
@[simp] theorem State.onMash_pending (s : State) (g : MashS → MashS) : (s.onMash g).pending = s.pending := rfl
@[simp] theorem State.onMash_iso (s : State) (g : MashS → MashS) : (s.onMash g).iso = s.iso := rfl
@[simp] theorem State.onMash_por (s : State) (g : MashS → MashS) : (s.onMash g).por = s.por := rfl
@[simp] theorem State.onMash_out (s : State) (g : MashS → MashS) : (s.onMash g).out = s.out := rfl
@[simp] theorem State.onMash_now (s : State) (g : MashS → MashS) : (s.onMash g).now = s.now := rfl
@[simp] theorem State.onMash_up (s : State) (g : MashS → MashS) : (s.onMash g).up = s.up := rfl
@[simp] theorem State.onMash_freeCtr (s : State) (g : MashS → MashS) : (s.onMash g).freeCtr = s.freeCtr := rfl
@[simp] theorem State.onMash_rv (s : State) (g : MashS → MashS) : (s.onMash g).rv = s.rv := rfl
@[simp] theorem State.onMash_staged (s : State) (g : MashS → MashS) : (s.onMash g).staged = s.staged := rfl
@[simp] theorem State.onMash_ord (s : State) (g : MashS → MashS) : (s.onMash g).ord = s.ord := rfl
@[simp] theorem State.onMash_held (s : State) (g : MashS → MashS) : (s.onMash g).held = s.held := rfl
@[simp] theorem State.onMash_cs (s : State) (g : MashS → MashS) : (s.onMash g).cs = s.cs := rfl
@[simp] theorem State.onMash_flt (s : State) (g : MashS → MashS) : (s.onMash g).flt = s.flt := rfl
@[simp] theorem State.onMash_bnd (s : State) (g : MashS → MashS) : (s.onMash g).bnd = s.bnd := rfl
@[simp] theorem State.onMash_cell (s : State) (g : MashS → MashS) : (s.onMash g).cell = s.cell := rfl
@[simp] theorem State.onMash_src (s : State) (g : MashS → MashS) : (s.onMash g).src = s.src := rfl
@[simp] theorem State.onMash_dst (s : State) (g : MashS → MashS) : (s.onMash g).dst = s.dst := rfl
@[simp] theorem State.onMash_cask (s : State) (g : MashS → MashS) : (s.onMash g).cask = s.cask := rfl
@[simp] theorem State.onMash_head (s : State) (g : MashS → MashS) : (s.onMash g).head = s.head := rfl
@[simp] theorem State.onMash_bound (s : State) (g : MashS → MashS) : (s.onMash g).bound = s.bound := rfl
@[simp] theorem State.onMash_mntl (s : State) (g : MashS → MashS) : (s.onMash g).mntl = s.mntl := rfl
@[simp] theorem State.onMash_mash (s : State) (g : MashS → MashS) : (s.onMash g).mash = g s.mash := rfl
@[simp] theorem State.onMash_aprt (s : State) (g : MashS → MashS) : (s.onMash g).aprt = s.aprt := rfl
@[simp] theorem State.onMash_eth (s : State) (g : MashS → MashS) : (s.onMash g).eth = s.eth := rfl
@[simp] theorem State.onMash_kiln (s : State) (g : MashS → MashS) : (s.onMash g).kiln = s.kiln := rfl
@[simp] theorem State.onMash_gnss (s : State) (g : MashS → MashS) : (s.onMash g).gnss = s.gnss := rfl
@[simp] theorem State.onMash_tsvc (s : State) (g : MashS → MashS) : (s.onMash g).tsvc = s.tsvc := rfl
@[simp] theorem State.onMash_hcp (s : State) (g : MashS → MashS) : (s.onMash g).hcp = s.hcp := rfl
@[simp] theorem State.onMash_hop (s : State) (g : MashS → MashS) : (s.onMash g).hop = s.hop := rfl
@[simp] theorem State.onMash_boot (s : State) (g : MashS → MashS) : (s.onMash g).boot = s.boot := rfl
@[simp] theorem State.onMash_pwr (s : State) (g : MashS → MashS) : (s.onMash g).pwr = s.pwr := rfl
@[simp] theorem State.onMash_latch (s : State) (g : MashS → MashS) : (s.onMash g).latch = s.latch := rfl
@[simp] theorem State.onMash_parked (s : State) (g : MashS → MashS) : (s.onMash g).parked = s.parked := rfl
@[simp] theorem State.onMash_mem (s : State) (g : MashS → MashS) : (s.onMash g).mem = s.mem := rfl
@[simp] theorem State.onMash_txb (s : State) (g : MashS → MashS) : (s.onMash g).txb = s.txb := rfl
@[simp] theorem State.onMash_mirror (s : State) (g : MashS → MashS) : (s.onMash g).mirror = s.mirror := rfl
@[simp] theorem State.onMash_egr (s : State) (g : MashS → MashS) : (s.onMash g).egr = s.egr := rfl
@[simp] theorem State.onEth_pending (s : State) (g : EthS → EthS) : (s.onEth g).pending = s.pending := rfl
@[simp] theorem State.onEth_iso (s : State) (g : EthS → EthS) : (s.onEth g).iso = s.iso := rfl
@[simp] theorem State.onEth_por (s : State) (g : EthS → EthS) : (s.onEth g).por = s.por := rfl
@[simp] theorem State.onEth_out (s : State) (g : EthS → EthS) : (s.onEth g).out = s.out := rfl
@[simp] theorem State.onEth_now (s : State) (g : EthS → EthS) : (s.onEth g).now = s.now := rfl
@[simp] theorem State.onEth_up (s : State) (g : EthS → EthS) : (s.onEth g).up = s.up := rfl
@[simp] theorem State.onEth_freeCtr (s : State) (g : EthS → EthS) : (s.onEth g).freeCtr = s.freeCtr := rfl
@[simp] theorem State.onEth_rv (s : State) (g : EthS → EthS) : (s.onEth g).rv = s.rv := rfl
@[simp] theorem State.onEth_staged (s : State) (g : EthS → EthS) : (s.onEth g).staged = s.staged := rfl
@[simp] theorem State.onEth_ord (s : State) (g : EthS → EthS) : (s.onEth g).ord = s.ord := rfl
@[simp] theorem State.onEth_held (s : State) (g : EthS → EthS) : (s.onEth g).held = s.held := rfl
@[simp] theorem State.onEth_cs (s : State) (g : EthS → EthS) : (s.onEth g).cs = s.cs := rfl
@[simp] theorem State.onEth_flt (s : State) (g : EthS → EthS) : (s.onEth g).flt = s.flt := rfl
@[simp] theorem State.onEth_bnd (s : State) (g : EthS → EthS) : (s.onEth g).bnd = s.bnd := rfl
@[simp] theorem State.onEth_cell (s : State) (g : EthS → EthS) : (s.onEth g).cell = s.cell := rfl
@[simp] theorem State.onEth_src (s : State) (g : EthS → EthS) : (s.onEth g).src = s.src := rfl
@[simp] theorem State.onEth_dst (s : State) (g : EthS → EthS) : (s.onEth g).dst = s.dst := rfl
@[simp] theorem State.onEth_cask (s : State) (g : EthS → EthS) : (s.onEth g).cask = s.cask := rfl
@[simp] theorem State.onEth_head (s : State) (g : EthS → EthS) : (s.onEth g).head = s.head := rfl
@[simp] theorem State.onEth_bound (s : State) (g : EthS → EthS) : (s.onEth g).bound = s.bound := rfl
@[simp] theorem State.onEth_mntl (s : State) (g : EthS → EthS) : (s.onEth g).mntl = s.mntl := rfl
@[simp] theorem State.onEth_mash (s : State) (g : EthS → EthS) : (s.onEth g).mash = s.mash := rfl
@[simp] theorem State.onEth_aprt (s : State) (g : EthS → EthS) : (s.onEth g).aprt = s.aprt := rfl
@[simp] theorem State.onEth_eth (s : State) (g : EthS → EthS) : (s.onEth g).eth = g s.eth := rfl
@[simp] theorem State.onEth_kiln (s : State) (g : EthS → EthS) : (s.onEth g).kiln = s.kiln := rfl
@[simp] theorem State.onEth_gnss (s : State) (g : EthS → EthS) : (s.onEth g).gnss = s.gnss := rfl
@[simp] theorem State.onEth_tsvc (s : State) (g : EthS → EthS) : (s.onEth g).tsvc = s.tsvc := rfl
@[simp] theorem State.onEth_hcp (s : State) (g : EthS → EthS) : (s.onEth g).hcp = s.hcp := rfl
@[simp] theorem State.onEth_hop (s : State) (g : EthS → EthS) : (s.onEth g).hop = s.hop := rfl
@[simp] theorem State.onEth_boot (s : State) (g : EthS → EthS) : (s.onEth g).boot = s.boot := rfl
@[simp] theorem State.onEth_pwr (s : State) (g : EthS → EthS) : (s.onEth g).pwr = s.pwr := rfl
@[simp] theorem State.onEth_latch (s : State) (g : EthS → EthS) : (s.onEth g).latch = s.latch := rfl
@[simp] theorem State.onEth_parked (s : State) (g : EthS → EthS) : (s.onEth g).parked = s.parked := rfl
@[simp] theorem State.onEth_mem (s : State) (g : EthS → EthS) : (s.onEth g).mem = s.mem := rfl
@[simp] theorem State.onEth_txb (s : State) (g : EthS → EthS) : (s.onEth g).txb = s.txb := rfl
@[simp] theorem State.onEth_mirror (s : State) (g : EthS → EthS) : (s.onEth g).mirror = s.mirror := rfl
@[simp] theorem State.onEth_egr (s : State) (g : EthS → EthS) : (s.onEth g).egr = s.egr := rfl
@[simp] theorem State.onKiln_pending (s : State) (g : KilnS → KilnS) : (s.onKiln g).pending = s.pending := rfl
@[simp] theorem State.onKiln_iso (s : State) (g : KilnS → KilnS) : (s.onKiln g).iso = s.iso := rfl
@[simp] theorem State.onKiln_por (s : State) (g : KilnS → KilnS) : (s.onKiln g).por = s.por := rfl
@[simp] theorem State.onKiln_out (s : State) (g : KilnS → KilnS) : (s.onKiln g).out = s.out := rfl
@[simp] theorem State.onKiln_now (s : State) (g : KilnS → KilnS) : (s.onKiln g).now = s.now := rfl
@[simp] theorem State.onKiln_up (s : State) (g : KilnS → KilnS) : (s.onKiln g).up = s.up := rfl
@[simp] theorem State.onKiln_freeCtr (s : State) (g : KilnS → KilnS) : (s.onKiln g).freeCtr = s.freeCtr := rfl
@[simp] theorem State.onKiln_rv (s : State) (g : KilnS → KilnS) : (s.onKiln g).rv = s.rv := rfl
@[simp] theorem State.onKiln_staged (s : State) (g : KilnS → KilnS) : (s.onKiln g).staged = s.staged := rfl
@[simp] theorem State.onKiln_ord (s : State) (g : KilnS → KilnS) : (s.onKiln g).ord = s.ord := rfl
@[simp] theorem State.onKiln_held (s : State) (g : KilnS → KilnS) : (s.onKiln g).held = s.held := rfl
@[simp] theorem State.onKiln_cs (s : State) (g : KilnS → KilnS) : (s.onKiln g).cs = s.cs := rfl
@[simp] theorem State.onKiln_flt (s : State) (g : KilnS → KilnS) : (s.onKiln g).flt = s.flt := rfl
@[simp] theorem State.onKiln_bnd (s : State) (g : KilnS → KilnS) : (s.onKiln g).bnd = s.bnd := rfl
@[simp] theorem State.onKiln_cell (s : State) (g : KilnS → KilnS) : (s.onKiln g).cell = s.cell := rfl
@[simp] theorem State.onKiln_src (s : State) (g : KilnS → KilnS) : (s.onKiln g).src = s.src := rfl
@[simp] theorem State.onKiln_dst (s : State) (g : KilnS → KilnS) : (s.onKiln g).dst = s.dst := rfl
@[simp] theorem State.onKiln_cask (s : State) (g : KilnS → KilnS) : (s.onKiln g).cask = s.cask := rfl
@[simp] theorem State.onKiln_head (s : State) (g : KilnS → KilnS) : (s.onKiln g).head = s.head := rfl
@[simp] theorem State.onKiln_bound (s : State) (g : KilnS → KilnS) : (s.onKiln g).bound = s.bound := rfl
@[simp] theorem State.onKiln_mntl (s : State) (g : KilnS → KilnS) : (s.onKiln g).mntl = s.mntl := rfl
@[simp] theorem State.onKiln_mash (s : State) (g : KilnS → KilnS) : (s.onKiln g).mash = s.mash := rfl
@[simp] theorem State.onKiln_aprt (s : State) (g : KilnS → KilnS) : (s.onKiln g).aprt = s.aprt := rfl
@[simp] theorem State.onKiln_eth (s : State) (g : KilnS → KilnS) : (s.onKiln g).eth = s.eth := rfl
@[simp] theorem State.onKiln_kiln (s : State) (g : KilnS → KilnS) : (s.onKiln g).kiln = g s.kiln := rfl
@[simp] theorem State.onKiln_gnss (s : State) (g : KilnS → KilnS) : (s.onKiln g).gnss = s.gnss := rfl
@[simp] theorem State.onKiln_tsvc (s : State) (g : KilnS → KilnS) : (s.onKiln g).tsvc = s.tsvc := rfl
@[simp] theorem State.onKiln_hcp (s : State) (g : KilnS → KilnS) : (s.onKiln g).hcp = s.hcp := rfl
@[simp] theorem State.onKiln_hop (s : State) (g : KilnS → KilnS) : (s.onKiln g).hop = s.hop := rfl
@[simp] theorem State.onKiln_boot (s : State) (g : KilnS → KilnS) : (s.onKiln g).boot = s.boot := rfl
@[simp] theorem State.onKiln_pwr (s : State) (g : KilnS → KilnS) : (s.onKiln g).pwr = s.pwr := rfl
@[simp] theorem State.onKiln_latch (s : State) (g : KilnS → KilnS) : (s.onKiln g).latch = s.latch := rfl
@[simp] theorem State.onKiln_parked (s : State) (g : KilnS → KilnS) : (s.onKiln g).parked = s.parked := rfl
@[simp] theorem State.onKiln_mem (s : State) (g : KilnS → KilnS) : (s.onKiln g).mem = s.mem := rfl
@[simp] theorem State.onKiln_txb (s : State) (g : KilnS → KilnS) : (s.onKiln g).txb = s.txb := rfl
@[simp] theorem State.onKiln_mirror (s : State) (g : KilnS → KilnS) : (s.onKiln g).mirror = s.mirror := rfl
@[simp] theorem State.onKiln_egr (s : State) (g : KilnS → KilnS) : (s.onKiln g).egr = s.egr := rfl
@[simp] theorem State.onGnss_pending (s : State) (g : GnssS → GnssS) : (s.onGnss g).pending = s.pending := rfl
@[simp] theorem State.onGnss_iso (s : State) (g : GnssS → GnssS) : (s.onGnss g).iso = s.iso := rfl
@[simp] theorem State.onGnss_por (s : State) (g : GnssS → GnssS) : (s.onGnss g).por = s.por := rfl
@[simp] theorem State.onGnss_out (s : State) (g : GnssS → GnssS) : (s.onGnss g).out = s.out := rfl
@[simp] theorem State.onGnss_now (s : State) (g : GnssS → GnssS) : (s.onGnss g).now = s.now := rfl
@[simp] theorem State.onGnss_up (s : State) (g : GnssS → GnssS) : (s.onGnss g).up = s.up := rfl
@[simp] theorem State.onGnss_freeCtr (s : State) (g : GnssS → GnssS) : (s.onGnss g).freeCtr = s.freeCtr := rfl
@[simp] theorem State.onGnss_rv (s : State) (g : GnssS → GnssS) : (s.onGnss g).rv = s.rv := rfl
@[simp] theorem State.onGnss_staged (s : State) (g : GnssS → GnssS) : (s.onGnss g).staged = s.staged := rfl
@[simp] theorem State.onGnss_ord (s : State) (g : GnssS → GnssS) : (s.onGnss g).ord = s.ord := rfl
@[simp] theorem State.onGnss_held (s : State) (g : GnssS → GnssS) : (s.onGnss g).held = s.held := rfl
@[simp] theorem State.onGnss_cs (s : State) (g : GnssS → GnssS) : (s.onGnss g).cs = s.cs := rfl
@[simp] theorem State.onGnss_flt (s : State) (g : GnssS → GnssS) : (s.onGnss g).flt = s.flt := rfl
@[simp] theorem State.onGnss_bnd (s : State) (g : GnssS → GnssS) : (s.onGnss g).bnd = s.bnd := rfl
@[simp] theorem State.onGnss_cell (s : State) (g : GnssS → GnssS) : (s.onGnss g).cell = s.cell := rfl
@[simp] theorem State.onGnss_src (s : State) (g : GnssS → GnssS) : (s.onGnss g).src = s.src := rfl
@[simp] theorem State.onGnss_dst (s : State) (g : GnssS → GnssS) : (s.onGnss g).dst = s.dst := rfl
@[simp] theorem State.onGnss_cask (s : State) (g : GnssS → GnssS) : (s.onGnss g).cask = s.cask := rfl
@[simp] theorem State.onGnss_head (s : State) (g : GnssS → GnssS) : (s.onGnss g).head = s.head := rfl
@[simp] theorem State.onGnss_bound (s : State) (g : GnssS → GnssS) : (s.onGnss g).bound = s.bound := rfl
@[simp] theorem State.onGnss_mntl (s : State) (g : GnssS → GnssS) : (s.onGnss g).mntl = s.mntl := rfl
@[simp] theorem State.onGnss_mash (s : State) (g : GnssS → GnssS) : (s.onGnss g).mash = s.mash := rfl
@[simp] theorem State.onGnss_aprt (s : State) (g : GnssS → GnssS) : (s.onGnss g).aprt = s.aprt := rfl
@[simp] theorem State.onGnss_eth (s : State) (g : GnssS → GnssS) : (s.onGnss g).eth = s.eth := rfl
@[simp] theorem State.onGnss_kiln (s : State) (g : GnssS → GnssS) : (s.onGnss g).kiln = s.kiln := rfl
@[simp] theorem State.onGnss_gnss (s : State) (g : GnssS → GnssS) : (s.onGnss g).gnss = g s.gnss := rfl
@[simp] theorem State.onGnss_tsvc (s : State) (g : GnssS → GnssS) : (s.onGnss g).tsvc = s.tsvc := rfl
@[simp] theorem State.onGnss_hcp (s : State) (g : GnssS → GnssS) : (s.onGnss g).hcp = s.hcp := rfl
@[simp] theorem State.onGnss_hop (s : State) (g : GnssS → GnssS) : (s.onGnss g).hop = s.hop := rfl
@[simp] theorem State.onGnss_boot (s : State) (g : GnssS → GnssS) : (s.onGnss g).boot = s.boot := rfl
@[simp] theorem State.onGnss_pwr (s : State) (g : GnssS → GnssS) : (s.onGnss g).pwr = s.pwr := rfl
@[simp] theorem State.onGnss_latch (s : State) (g : GnssS → GnssS) : (s.onGnss g).latch = s.latch := rfl
@[simp] theorem State.onGnss_parked (s : State) (g : GnssS → GnssS) : (s.onGnss g).parked = s.parked := rfl
@[simp] theorem State.onGnss_mem (s : State) (g : GnssS → GnssS) : (s.onGnss g).mem = s.mem := rfl
@[simp] theorem State.onGnss_txb (s : State) (g : GnssS → GnssS) : (s.onGnss g).txb = s.txb := rfl
@[simp] theorem State.onGnss_mirror (s : State) (g : GnssS → GnssS) : (s.onGnss g).mirror = s.mirror := rfl
@[simp] theorem State.onGnss_egr (s : State) (g : GnssS → GnssS) : (s.onGnss g).egr = s.egr := rfl
@[simp] theorem State.onTsvc_pending (s : State) (g : TsvcS → TsvcS) : (s.onTsvc g).pending = s.pending := rfl
@[simp] theorem State.onTsvc_iso (s : State) (g : TsvcS → TsvcS) : (s.onTsvc g).iso = s.iso := rfl
@[simp] theorem State.onTsvc_por (s : State) (g : TsvcS → TsvcS) : (s.onTsvc g).por = s.por := rfl
@[simp] theorem State.onTsvc_out (s : State) (g : TsvcS → TsvcS) : (s.onTsvc g).out = s.out := rfl
@[simp] theorem State.onTsvc_now (s : State) (g : TsvcS → TsvcS) : (s.onTsvc g).now = s.now := rfl
@[simp] theorem State.onTsvc_up (s : State) (g : TsvcS → TsvcS) : (s.onTsvc g).up = s.up := rfl
@[simp] theorem State.onTsvc_freeCtr (s : State) (g : TsvcS → TsvcS) : (s.onTsvc g).freeCtr = s.freeCtr := rfl
@[simp] theorem State.onTsvc_rv (s : State) (g : TsvcS → TsvcS) : (s.onTsvc g).rv = s.rv := rfl
@[simp] theorem State.onTsvc_staged (s : State) (g : TsvcS → TsvcS) : (s.onTsvc g).staged = s.staged := rfl
@[simp] theorem State.onTsvc_ord (s : State) (g : TsvcS → TsvcS) : (s.onTsvc g).ord = s.ord := rfl
@[simp] theorem State.onTsvc_held (s : State) (g : TsvcS → TsvcS) : (s.onTsvc g).held = s.held := rfl
@[simp] theorem State.onTsvc_cs (s : State) (g : TsvcS → TsvcS) : (s.onTsvc g).cs = s.cs := rfl
@[simp] theorem State.onTsvc_flt (s : State) (g : TsvcS → TsvcS) : (s.onTsvc g).flt = s.flt := rfl
@[simp] theorem State.onTsvc_bnd (s : State) (g : TsvcS → TsvcS) : (s.onTsvc g).bnd = s.bnd := rfl
@[simp] theorem State.onTsvc_cell (s : State) (g : TsvcS → TsvcS) : (s.onTsvc g).cell = s.cell := rfl
@[simp] theorem State.onTsvc_src (s : State) (g : TsvcS → TsvcS) : (s.onTsvc g).src = s.src := rfl
@[simp] theorem State.onTsvc_dst (s : State) (g : TsvcS → TsvcS) : (s.onTsvc g).dst = s.dst := rfl
@[simp] theorem State.onTsvc_cask (s : State) (g : TsvcS → TsvcS) : (s.onTsvc g).cask = s.cask := rfl
@[simp] theorem State.onTsvc_head (s : State) (g : TsvcS → TsvcS) : (s.onTsvc g).head = s.head := rfl
@[simp] theorem State.onTsvc_bound (s : State) (g : TsvcS → TsvcS) : (s.onTsvc g).bound = s.bound := rfl
@[simp] theorem State.onTsvc_mntl (s : State) (g : TsvcS → TsvcS) : (s.onTsvc g).mntl = s.mntl := rfl
@[simp] theorem State.onTsvc_mash (s : State) (g : TsvcS → TsvcS) : (s.onTsvc g).mash = s.mash := rfl
@[simp] theorem State.onTsvc_aprt (s : State) (g : TsvcS → TsvcS) : (s.onTsvc g).aprt = s.aprt := rfl
@[simp] theorem State.onTsvc_eth (s : State) (g : TsvcS → TsvcS) : (s.onTsvc g).eth = s.eth := rfl
@[simp] theorem State.onTsvc_kiln (s : State) (g : TsvcS → TsvcS) : (s.onTsvc g).kiln = s.kiln := rfl
@[simp] theorem State.onTsvc_gnss (s : State) (g : TsvcS → TsvcS) : (s.onTsvc g).gnss = s.gnss := rfl
@[simp] theorem State.onTsvc_tsvc (s : State) (g : TsvcS → TsvcS) : (s.onTsvc g).tsvc = g s.tsvc := rfl
@[simp] theorem State.onTsvc_hcp (s : State) (g : TsvcS → TsvcS) : (s.onTsvc g).hcp = s.hcp := rfl
@[simp] theorem State.onTsvc_hop (s : State) (g : TsvcS → TsvcS) : (s.onTsvc g).hop = s.hop := rfl
@[simp] theorem State.onTsvc_boot (s : State) (g : TsvcS → TsvcS) : (s.onTsvc g).boot = s.boot := rfl
@[simp] theorem State.onTsvc_pwr (s : State) (g : TsvcS → TsvcS) : (s.onTsvc g).pwr = s.pwr := rfl
@[simp] theorem State.onTsvc_latch (s : State) (g : TsvcS → TsvcS) : (s.onTsvc g).latch = s.latch := rfl
@[simp] theorem State.onTsvc_parked (s : State) (g : TsvcS → TsvcS) : (s.onTsvc g).parked = s.parked := rfl
@[simp] theorem State.onTsvc_mem (s : State) (g : TsvcS → TsvcS) : (s.onTsvc g).mem = s.mem := rfl
@[simp] theorem State.onTsvc_txb (s : State) (g : TsvcS → TsvcS) : (s.onTsvc g).txb = s.txb := rfl
@[simp] theorem State.onTsvc_mirror (s : State) (g : TsvcS → TsvcS) : (s.onTsvc g).mirror = s.mirror := rfl
@[simp] theorem State.onTsvc_egr (s : State) (g : TsvcS → TsvcS) : (s.onTsvc g).egr = s.egr := rfl
@[simp] theorem State.onHcp_pending (s : State) (g : HcpS → HcpS) : (s.onHcp g).pending = s.pending := rfl
@[simp] theorem State.onHcp_iso (s : State) (g : HcpS → HcpS) : (s.onHcp g).iso = s.iso := rfl
@[simp] theorem State.onHcp_por (s : State) (g : HcpS → HcpS) : (s.onHcp g).por = s.por := rfl
@[simp] theorem State.onHcp_out (s : State) (g : HcpS → HcpS) : (s.onHcp g).out = s.out := rfl
@[simp] theorem State.onHcp_now (s : State) (g : HcpS → HcpS) : (s.onHcp g).now = s.now := rfl
@[simp] theorem State.onHcp_up (s : State) (g : HcpS → HcpS) : (s.onHcp g).up = s.up := rfl
@[simp] theorem State.onHcp_freeCtr (s : State) (g : HcpS → HcpS) : (s.onHcp g).freeCtr = s.freeCtr := rfl
@[simp] theorem State.onHcp_rv (s : State) (g : HcpS → HcpS) : (s.onHcp g).rv = s.rv := rfl
@[simp] theorem State.onHcp_staged (s : State) (g : HcpS → HcpS) : (s.onHcp g).staged = s.staged := rfl
@[simp] theorem State.onHcp_ord (s : State) (g : HcpS → HcpS) : (s.onHcp g).ord = s.ord := rfl
@[simp] theorem State.onHcp_held (s : State) (g : HcpS → HcpS) : (s.onHcp g).held = s.held := rfl
@[simp] theorem State.onHcp_cs (s : State) (g : HcpS → HcpS) : (s.onHcp g).cs = s.cs := rfl
@[simp] theorem State.onHcp_flt (s : State) (g : HcpS → HcpS) : (s.onHcp g).flt = s.flt := rfl
@[simp] theorem State.onHcp_bnd (s : State) (g : HcpS → HcpS) : (s.onHcp g).bnd = s.bnd := rfl
@[simp] theorem State.onHcp_cell (s : State) (g : HcpS → HcpS) : (s.onHcp g).cell = s.cell := rfl
@[simp] theorem State.onHcp_src (s : State) (g : HcpS → HcpS) : (s.onHcp g).src = s.src := rfl
@[simp] theorem State.onHcp_dst (s : State) (g : HcpS → HcpS) : (s.onHcp g).dst = s.dst := rfl
@[simp] theorem State.onHcp_cask (s : State) (g : HcpS → HcpS) : (s.onHcp g).cask = s.cask := rfl
@[simp] theorem State.onHcp_head (s : State) (g : HcpS → HcpS) : (s.onHcp g).head = s.head := rfl
@[simp] theorem State.onHcp_bound (s : State) (g : HcpS → HcpS) : (s.onHcp g).bound = s.bound := rfl
@[simp] theorem State.onHcp_mntl (s : State) (g : HcpS → HcpS) : (s.onHcp g).mntl = s.mntl := rfl
@[simp] theorem State.onHcp_mash (s : State) (g : HcpS → HcpS) : (s.onHcp g).mash = s.mash := rfl
@[simp] theorem State.onHcp_aprt (s : State) (g : HcpS → HcpS) : (s.onHcp g).aprt = s.aprt := rfl
@[simp] theorem State.onHcp_eth (s : State) (g : HcpS → HcpS) : (s.onHcp g).eth = s.eth := rfl
@[simp] theorem State.onHcp_kiln (s : State) (g : HcpS → HcpS) : (s.onHcp g).kiln = s.kiln := rfl
@[simp] theorem State.onHcp_gnss (s : State) (g : HcpS → HcpS) : (s.onHcp g).gnss = s.gnss := rfl
@[simp] theorem State.onHcp_tsvc (s : State) (g : HcpS → HcpS) : (s.onHcp g).tsvc = s.tsvc := rfl
@[simp] theorem State.onHcp_hcp (s : State) (g : HcpS → HcpS) : (s.onHcp g).hcp = g s.hcp := rfl
@[simp] theorem State.onHcp_hop (s : State) (g : HcpS → HcpS) : (s.onHcp g).hop = s.hop := rfl
@[simp] theorem State.onHcp_boot (s : State) (g : HcpS → HcpS) : (s.onHcp g).boot = s.boot := rfl
@[simp] theorem State.onHcp_pwr (s : State) (g : HcpS → HcpS) : (s.onHcp g).pwr = s.pwr := rfl
@[simp] theorem State.onHcp_latch (s : State) (g : HcpS → HcpS) : (s.onHcp g).latch = s.latch := rfl
@[simp] theorem State.onHcp_parked (s : State) (g : HcpS → HcpS) : (s.onHcp g).parked = s.parked := rfl
@[simp] theorem State.onHcp_mem (s : State) (g : HcpS → HcpS) : (s.onHcp g).mem = s.mem := rfl
@[simp] theorem State.onHcp_txb (s : State) (g : HcpS → HcpS) : (s.onHcp g).txb = s.txb := rfl
@[simp] theorem State.onHcp_mirror (s : State) (g : HcpS → HcpS) : (s.onHcp g).mirror = s.mirror := rfl
@[simp] theorem State.onHcp_egr (s : State) (g : HcpS → HcpS) : (s.onHcp g).egr = s.egr := rfl
@[simp] theorem State.onBoot_pending (s : State) (g : BootS → BootS) : (s.onBoot g).pending = s.pending := rfl
@[simp] theorem State.onBoot_iso (s : State) (g : BootS → BootS) : (s.onBoot g).iso = s.iso := rfl
@[simp] theorem State.onBoot_por (s : State) (g : BootS → BootS) : (s.onBoot g).por = s.por := rfl
@[simp] theorem State.onBoot_out (s : State) (g : BootS → BootS) : (s.onBoot g).out = s.out := rfl
@[simp] theorem State.onBoot_now (s : State) (g : BootS → BootS) : (s.onBoot g).now = s.now := rfl
@[simp] theorem State.onBoot_up (s : State) (g : BootS → BootS) : (s.onBoot g).up = s.up := rfl
@[simp] theorem State.onBoot_freeCtr (s : State) (g : BootS → BootS) : (s.onBoot g).freeCtr = s.freeCtr := rfl
@[simp] theorem State.onBoot_rv (s : State) (g : BootS → BootS) : (s.onBoot g).rv = s.rv := rfl
@[simp] theorem State.onBoot_staged (s : State) (g : BootS → BootS) : (s.onBoot g).staged = s.staged := rfl
@[simp] theorem State.onBoot_ord (s : State) (g : BootS → BootS) : (s.onBoot g).ord = s.ord := rfl
@[simp] theorem State.onBoot_held (s : State) (g : BootS → BootS) : (s.onBoot g).held = s.held := rfl
@[simp] theorem State.onBoot_cs (s : State) (g : BootS → BootS) : (s.onBoot g).cs = s.cs := rfl
@[simp] theorem State.onBoot_flt (s : State) (g : BootS → BootS) : (s.onBoot g).flt = s.flt := rfl
@[simp] theorem State.onBoot_bnd (s : State) (g : BootS → BootS) : (s.onBoot g).bnd = s.bnd := rfl
@[simp] theorem State.onBoot_cell (s : State) (g : BootS → BootS) : (s.onBoot g).cell = s.cell := rfl
@[simp] theorem State.onBoot_src (s : State) (g : BootS → BootS) : (s.onBoot g).src = s.src := rfl
@[simp] theorem State.onBoot_dst (s : State) (g : BootS → BootS) : (s.onBoot g).dst = s.dst := rfl
@[simp] theorem State.onBoot_cask (s : State) (g : BootS → BootS) : (s.onBoot g).cask = s.cask := rfl
@[simp] theorem State.onBoot_head (s : State) (g : BootS → BootS) : (s.onBoot g).head = s.head := rfl
@[simp] theorem State.onBoot_bound (s : State) (g : BootS → BootS) : (s.onBoot g).bound = s.bound := rfl
@[simp] theorem State.onBoot_mntl (s : State) (g : BootS → BootS) : (s.onBoot g).mntl = s.mntl := rfl
@[simp] theorem State.onBoot_mash (s : State) (g : BootS → BootS) : (s.onBoot g).mash = s.mash := rfl
@[simp] theorem State.onBoot_aprt (s : State) (g : BootS → BootS) : (s.onBoot g).aprt = s.aprt := rfl
@[simp] theorem State.onBoot_eth (s : State) (g : BootS → BootS) : (s.onBoot g).eth = s.eth := rfl
@[simp] theorem State.onBoot_kiln (s : State) (g : BootS → BootS) : (s.onBoot g).kiln = s.kiln := rfl
@[simp] theorem State.onBoot_gnss (s : State) (g : BootS → BootS) : (s.onBoot g).gnss = s.gnss := rfl
@[simp] theorem State.onBoot_tsvc (s : State) (g : BootS → BootS) : (s.onBoot g).tsvc = s.tsvc := rfl
@[simp] theorem State.onBoot_hcp (s : State) (g : BootS → BootS) : (s.onBoot g).hcp = s.hcp := rfl
@[simp] theorem State.onBoot_hop (s : State) (g : BootS → BootS) : (s.onBoot g).hop = s.hop := rfl
@[simp] theorem State.onBoot_boot (s : State) (g : BootS → BootS) : (s.onBoot g).boot = g s.boot := rfl
@[simp] theorem State.onBoot_pwr (s : State) (g : BootS → BootS) : (s.onBoot g).pwr = s.pwr := rfl
@[simp] theorem State.onBoot_latch (s : State) (g : BootS → BootS) : (s.onBoot g).latch = s.latch := rfl
@[simp] theorem State.onBoot_parked (s : State) (g : BootS → BootS) : (s.onBoot g).parked = s.parked := rfl
@[simp] theorem State.onBoot_mem (s : State) (g : BootS → BootS) : (s.onBoot g).mem = s.mem := rfl
@[simp] theorem State.onBoot_txb (s : State) (g : BootS → BootS) : (s.onBoot g).txb = s.txb := rfl
@[simp] theorem State.onBoot_mirror (s : State) (g : BootS → BootS) : (s.onBoot g).mirror = s.mirror := rfl
@[simp] theorem State.onBoot_egr (s : State) (g : BootS → BootS) : (s.onBoot g).egr = s.egr := rfl
@[simp] theorem State.onPwr_pending (s : State) (g : PwrS → PwrS) : (s.onPwr g).pending = s.pending := rfl
@[simp] theorem State.onPwr_iso (s : State) (g : PwrS → PwrS) : (s.onPwr g).iso = s.iso := rfl
@[simp] theorem State.onPwr_por (s : State) (g : PwrS → PwrS) : (s.onPwr g).por = s.por := rfl
@[simp] theorem State.onPwr_out (s : State) (g : PwrS → PwrS) : (s.onPwr g).out = s.out := rfl
@[simp] theorem State.onPwr_now (s : State) (g : PwrS → PwrS) : (s.onPwr g).now = s.now := rfl
@[simp] theorem State.onPwr_up (s : State) (g : PwrS → PwrS) : (s.onPwr g).up = s.up := rfl
@[simp] theorem State.onPwr_freeCtr (s : State) (g : PwrS → PwrS) : (s.onPwr g).freeCtr = s.freeCtr := rfl
@[simp] theorem State.onPwr_rv (s : State) (g : PwrS → PwrS) : (s.onPwr g).rv = s.rv := rfl
@[simp] theorem State.onPwr_staged (s : State) (g : PwrS → PwrS) : (s.onPwr g).staged = s.staged := rfl
@[simp] theorem State.onPwr_ord (s : State) (g : PwrS → PwrS) : (s.onPwr g).ord = s.ord := rfl
@[simp] theorem State.onPwr_held (s : State) (g : PwrS → PwrS) : (s.onPwr g).held = s.held := rfl
@[simp] theorem State.onPwr_cs (s : State) (g : PwrS → PwrS) : (s.onPwr g).cs = s.cs := rfl
@[simp] theorem State.onPwr_flt (s : State) (g : PwrS → PwrS) : (s.onPwr g).flt = s.flt := rfl
@[simp] theorem State.onPwr_bnd (s : State) (g : PwrS → PwrS) : (s.onPwr g).bnd = s.bnd := rfl
@[simp] theorem State.onPwr_cell (s : State) (g : PwrS → PwrS) : (s.onPwr g).cell = s.cell := rfl
@[simp] theorem State.onPwr_src (s : State) (g : PwrS → PwrS) : (s.onPwr g).src = s.src := rfl
@[simp] theorem State.onPwr_dst (s : State) (g : PwrS → PwrS) : (s.onPwr g).dst = s.dst := rfl
@[simp] theorem State.onPwr_cask (s : State) (g : PwrS → PwrS) : (s.onPwr g).cask = s.cask := rfl
@[simp] theorem State.onPwr_head (s : State) (g : PwrS → PwrS) : (s.onPwr g).head = s.head := rfl
@[simp] theorem State.onPwr_bound (s : State) (g : PwrS → PwrS) : (s.onPwr g).bound = s.bound := rfl
@[simp] theorem State.onPwr_mntl (s : State) (g : PwrS → PwrS) : (s.onPwr g).mntl = s.mntl := rfl
@[simp] theorem State.onPwr_mash (s : State) (g : PwrS → PwrS) : (s.onPwr g).mash = s.mash := rfl
@[simp] theorem State.onPwr_aprt (s : State) (g : PwrS → PwrS) : (s.onPwr g).aprt = s.aprt := rfl
@[simp] theorem State.onPwr_eth (s : State) (g : PwrS → PwrS) : (s.onPwr g).eth = s.eth := rfl
@[simp] theorem State.onPwr_kiln (s : State) (g : PwrS → PwrS) : (s.onPwr g).kiln = s.kiln := rfl
@[simp] theorem State.onPwr_gnss (s : State) (g : PwrS → PwrS) : (s.onPwr g).gnss = s.gnss := rfl
@[simp] theorem State.onPwr_tsvc (s : State) (g : PwrS → PwrS) : (s.onPwr g).tsvc = s.tsvc := rfl
@[simp] theorem State.onPwr_hcp (s : State) (g : PwrS → PwrS) : (s.onPwr g).hcp = s.hcp := rfl
@[simp] theorem State.onPwr_hop (s : State) (g : PwrS → PwrS) : (s.onPwr g).hop = s.hop := rfl
@[simp] theorem State.onPwr_boot (s : State) (g : PwrS → PwrS) : (s.onPwr g).boot = s.boot := rfl
@[simp] theorem State.onPwr_pwr (s : State) (g : PwrS → PwrS) : (s.onPwr g).pwr = g s.pwr := rfl
@[simp] theorem State.onPwr_latch (s : State) (g : PwrS → PwrS) : (s.onPwr g).latch = s.latch := rfl
@[simp] theorem State.onPwr_parked (s : State) (g : PwrS → PwrS) : (s.onPwr g).parked = s.parked := rfl
@[simp] theorem State.onPwr_mem (s : State) (g : PwrS → PwrS) : (s.onPwr g).mem = s.mem := rfl
@[simp] theorem State.onPwr_txb (s : State) (g : PwrS → PwrS) : (s.onPwr g).txb = s.txb := rfl
@[simp] theorem State.onPwr_mirror (s : State) (g : PwrS → PwrS) : (s.onPwr g).mirror = s.mirror := rfl
@[simp] theorem State.onPwr_egr (s : State) (g : PwrS → PwrS) : (s.onPwr g).egr = s.egr := rfl
@[simp] theorem State.setStaged_pending (s : State) (x : List Staged) : (s.setStaged x).pending = s.pending := rfl
@[simp] theorem State.setStaged_iso (s : State) (x : List Staged) : (s.setStaged x).iso = s.iso := rfl
@[simp] theorem State.setStaged_por (s : State) (x : List Staged) : (s.setStaged x).por = s.por := rfl
@[simp] theorem State.setStaged_out (s : State) (x : List Staged) : (s.setStaged x).out = s.out := rfl
@[simp] theorem State.setStaged_now (s : State) (x : List Staged) : (s.setStaged x).now = s.now := rfl
@[simp] theorem State.setStaged_up (s : State) (x : List Staged) : (s.setStaged x).up = s.up := rfl
@[simp] theorem State.setStaged_freeCtr (s : State) (x : List Staged) : (s.setStaged x).freeCtr = s.freeCtr := rfl
@[simp] theorem State.setStaged_rv (s : State) (x : List Staged) : (s.setStaged x).rv = s.rv := rfl
@[simp] theorem State.setStaged_staged (s : State) (x : List Staged) : (s.setStaged x).staged = x := rfl
@[simp] theorem State.setStaged_ord (s : State) (x : List Staged) : (s.setStaged x).ord = s.ord := rfl
@[simp] theorem State.setStaged_held (s : State) (x : List Staged) : (s.setStaged x).held = s.held := rfl
@[simp] theorem State.setStaged_cs (s : State) (x : List Staged) : (s.setStaged x).cs = s.cs := rfl
@[simp] theorem State.setStaged_flt (s : State) (x : List Staged) : (s.setStaged x).flt = s.flt := rfl
@[simp] theorem State.setStaged_bnd (s : State) (x : List Staged) : (s.setStaged x).bnd = s.bnd := rfl
@[simp] theorem State.setStaged_cell (s : State) (x : List Staged) : (s.setStaged x).cell = s.cell := rfl
@[simp] theorem State.setStaged_src (s : State) (x : List Staged) : (s.setStaged x).src = s.src := rfl
@[simp] theorem State.setStaged_dst (s : State) (x : List Staged) : (s.setStaged x).dst = s.dst := rfl
@[simp] theorem State.setStaged_cask (s : State) (x : List Staged) : (s.setStaged x).cask = s.cask := rfl
@[simp] theorem State.setStaged_head (s : State) (x : List Staged) : (s.setStaged x).head = s.head := rfl
@[simp] theorem State.setStaged_bound (s : State) (x : List Staged) : (s.setStaged x).bound = s.bound := rfl
@[simp] theorem State.setStaged_mntl (s : State) (x : List Staged) : (s.setStaged x).mntl = s.mntl := rfl
@[simp] theorem State.setStaged_mash (s : State) (x : List Staged) : (s.setStaged x).mash = s.mash := rfl
@[simp] theorem State.setStaged_aprt (s : State) (x : List Staged) : (s.setStaged x).aprt = s.aprt := rfl
@[simp] theorem State.setStaged_eth (s : State) (x : List Staged) : (s.setStaged x).eth = s.eth := rfl
@[simp] theorem State.setStaged_kiln (s : State) (x : List Staged) : (s.setStaged x).kiln = s.kiln := rfl
@[simp] theorem State.setStaged_gnss (s : State) (x : List Staged) : (s.setStaged x).gnss = s.gnss := rfl
@[simp] theorem State.setStaged_tsvc (s : State) (x : List Staged) : (s.setStaged x).tsvc = s.tsvc := rfl
@[simp] theorem State.setStaged_hcp (s : State) (x : List Staged) : (s.setStaged x).hcp = s.hcp := rfl
@[simp] theorem State.setStaged_hop (s : State) (x : List Staged) : (s.setStaged x).hop = s.hop := rfl
@[simp] theorem State.setStaged_boot (s : State) (x : List Staged) : (s.setStaged x).boot = s.boot := rfl
@[simp] theorem State.setStaged_pwr (s : State) (x : List Staged) : (s.setStaged x).pwr = s.pwr := rfl
@[simp] theorem State.setStaged_latch (s : State) (x : List Staged) : (s.setStaged x).latch = s.latch := rfl
@[simp] theorem State.setStaged_parked (s : State) (x : List Staged) : (s.setStaged x).parked = s.parked := rfl
@[simp] theorem State.setStaged_mem (s : State) (x : List Staged) : (s.setStaged x).mem = s.mem := rfl
@[simp] theorem State.setStaged_txb (s : State) (x : List Staged) : (s.setStaged x).txb = s.txb := rfl
@[simp] theorem State.setStaged_mirror (s : State) (x : List Staged) : (s.setStaged x).mirror = s.mirror := rfl
@[simp] theorem State.setStaged_egr (s : State) (x : List Staged) : (s.setStaged x).egr = s.egr := rfl
@[simp] theorem State.setOrd_pending (s : State) (x : Nat) : (s.setOrd x).pending = s.pending := rfl
@[simp] theorem State.setOrd_iso (s : State) (x : Nat) : (s.setOrd x).iso = s.iso := rfl
@[simp] theorem State.setOrd_por (s : State) (x : Nat) : (s.setOrd x).por = s.por := rfl
@[simp] theorem State.setOrd_out (s : State) (x : Nat) : (s.setOrd x).out = s.out := rfl
@[simp] theorem State.setOrd_now (s : State) (x : Nat) : (s.setOrd x).now = s.now := rfl
@[simp] theorem State.setOrd_up (s : State) (x : Nat) : (s.setOrd x).up = s.up := rfl
@[simp] theorem State.setOrd_freeCtr (s : State) (x : Nat) : (s.setOrd x).freeCtr = s.freeCtr := rfl
@[simp] theorem State.setOrd_rv (s : State) (x : Nat) : (s.setOrd x).rv = s.rv := rfl
@[simp] theorem State.setOrd_staged (s : State) (x : Nat) : (s.setOrd x).staged = s.staged := rfl
@[simp] theorem State.setOrd_ord (s : State) (x : Nat) : (s.setOrd x).ord = x := rfl
@[simp] theorem State.setOrd_held (s : State) (x : Nat) : (s.setOrd x).held = s.held := rfl
@[simp] theorem State.setOrd_cs (s : State) (x : Nat) : (s.setOrd x).cs = s.cs := rfl
@[simp] theorem State.setOrd_flt (s : State) (x : Nat) : (s.setOrd x).flt = s.flt := rfl
@[simp] theorem State.setOrd_bnd (s : State) (x : Nat) : (s.setOrd x).bnd = s.bnd := rfl
@[simp] theorem State.setOrd_cell (s : State) (x : Nat) : (s.setOrd x).cell = s.cell := rfl
@[simp] theorem State.setOrd_src (s : State) (x : Nat) : (s.setOrd x).src = s.src := rfl
@[simp] theorem State.setOrd_dst (s : State) (x : Nat) : (s.setOrd x).dst = s.dst := rfl
@[simp] theorem State.setOrd_cask (s : State) (x : Nat) : (s.setOrd x).cask = s.cask := rfl
@[simp] theorem State.setOrd_head (s : State) (x : Nat) : (s.setOrd x).head = s.head := rfl
@[simp] theorem State.setOrd_bound (s : State) (x : Nat) : (s.setOrd x).bound = s.bound := rfl
@[simp] theorem State.setOrd_mntl (s : State) (x : Nat) : (s.setOrd x).mntl = s.mntl := rfl
@[simp] theorem State.setOrd_mash (s : State) (x : Nat) : (s.setOrd x).mash = s.mash := rfl
@[simp] theorem State.setOrd_aprt (s : State) (x : Nat) : (s.setOrd x).aprt = s.aprt := rfl
@[simp] theorem State.setOrd_eth (s : State) (x : Nat) : (s.setOrd x).eth = s.eth := rfl
@[simp] theorem State.setOrd_kiln (s : State) (x : Nat) : (s.setOrd x).kiln = s.kiln := rfl
@[simp] theorem State.setOrd_gnss (s : State) (x : Nat) : (s.setOrd x).gnss = s.gnss := rfl
@[simp] theorem State.setOrd_tsvc (s : State) (x : Nat) : (s.setOrd x).tsvc = s.tsvc := rfl
@[simp] theorem State.setOrd_hcp (s : State) (x : Nat) : (s.setOrd x).hcp = s.hcp := rfl
@[simp] theorem State.setOrd_hop (s : State) (x : Nat) : (s.setOrd x).hop = s.hop := rfl
@[simp] theorem State.setOrd_boot (s : State) (x : Nat) : (s.setOrd x).boot = s.boot := rfl
@[simp] theorem State.setOrd_pwr (s : State) (x : Nat) : (s.setOrd x).pwr = s.pwr := rfl
@[simp] theorem State.setOrd_latch (s : State) (x : Nat) : (s.setOrd x).latch = s.latch := rfl
@[simp] theorem State.setOrd_parked (s : State) (x : Nat) : (s.setOrd x).parked = s.parked := rfl
@[simp] theorem State.setOrd_mem (s : State) (x : Nat) : (s.setOrd x).mem = s.mem := rfl
@[simp] theorem State.setOrd_txb (s : State) (x : Nat) : (s.setOrd x).txb = s.txb := rfl
@[simp] theorem State.setOrd_mirror (s : State) (x : Nat) : (s.setOrd x).mirror = s.mirror := rfl
@[simp] theorem State.setOrd_egr (s : State) (x : Nat) : (s.setOrd x).egr = s.egr := rfl
@[simp] theorem State.setHeld_pending (s : State) (x : List Held) : (s.setHeld x).pending = s.pending := rfl
@[simp] theorem State.setHeld_iso (s : State) (x : List Held) : (s.setHeld x).iso = s.iso := rfl
@[simp] theorem State.setHeld_por (s : State) (x : List Held) : (s.setHeld x).por = s.por := rfl
@[simp] theorem State.setHeld_out (s : State) (x : List Held) : (s.setHeld x).out = s.out := rfl
@[simp] theorem State.setHeld_now (s : State) (x : List Held) : (s.setHeld x).now = s.now := rfl
@[simp] theorem State.setHeld_up (s : State) (x : List Held) : (s.setHeld x).up = s.up := rfl
@[simp] theorem State.setHeld_freeCtr (s : State) (x : List Held) : (s.setHeld x).freeCtr = s.freeCtr := rfl
@[simp] theorem State.setHeld_rv (s : State) (x : List Held) : (s.setHeld x).rv = s.rv := rfl
@[simp] theorem State.setHeld_staged (s : State) (x : List Held) : (s.setHeld x).staged = s.staged := rfl
@[simp] theorem State.setHeld_ord (s : State) (x : List Held) : (s.setHeld x).ord = s.ord := rfl
@[simp] theorem State.setHeld_held (s : State) (x : List Held) : (s.setHeld x).held = x := rfl
@[simp] theorem State.setHeld_cs (s : State) (x : List Held) : (s.setHeld x).cs = s.cs := rfl
@[simp] theorem State.setHeld_flt (s : State) (x : List Held) : (s.setHeld x).flt = s.flt := rfl
@[simp] theorem State.setHeld_bnd (s : State) (x : List Held) : (s.setHeld x).bnd = s.bnd := rfl
@[simp] theorem State.setHeld_cell (s : State) (x : List Held) : (s.setHeld x).cell = s.cell := rfl
@[simp] theorem State.setHeld_src (s : State) (x : List Held) : (s.setHeld x).src = s.src := rfl
@[simp] theorem State.setHeld_dst (s : State) (x : List Held) : (s.setHeld x).dst = s.dst := rfl
@[simp] theorem State.setHeld_cask (s : State) (x : List Held) : (s.setHeld x).cask = s.cask := rfl
@[simp] theorem State.setHeld_head (s : State) (x : List Held) : (s.setHeld x).head = s.head := rfl
@[simp] theorem State.setHeld_bound (s : State) (x : List Held) : (s.setHeld x).bound = s.bound := rfl
@[simp] theorem State.setHeld_mntl (s : State) (x : List Held) : (s.setHeld x).mntl = s.mntl := rfl
@[simp] theorem State.setHeld_mash (s : State) (x : List Held) : (s.setHeld x).mash = s.mash := rfl
@[simp] theorem State.setHeld_aprt (s : State) (x : List Held) : (s.setHeld x).aprt = s.aprt := rfl
@[simp] theorem State.setHeld_eth (s : State) (x : List Held) : (s.setHeld x).eth = s.eth := rfl
@[simp] theorem State.setHeld_kiln (s : State) (x : List Held) : (s.setHeld x).kiln = s.kiln := rfl
@[simp] theorem State.setHeld_gnss (s : State) (x : List Held) : (s.setHeld x).gnss = s.gnss := rfl
@[simp] theorem State.setHeld_tsvc (s : State) (x : List Held) : (s.setHeld x).tsvc = s.tsvc := rfl
@[simp] theorem State.setHeld_hcp (s : State) (x : List Held) : (s.setHeld x).hcp = s.hcp := rfl
@[simp] theorem State.setHeld_hop (s : State) (x : List Held) : (s.setHeld x).hop = s.hop := rfl
@[simp] theorem State.setHeld_boot (s : State) (x : List Held) : (s.setHeld x).boot = s.boot := rfl
@[simp] theorem State.setHeld_pwr (s : State) (x : List Held) : (s.setHeld x).pwr = s.pwr := rfl
@[simp] theorem State.setHeld_latch (s : State) (x : List Held) : (s.setHeld x).latch = s.latch := rfl
@[simp] theorem State.setHeld_parked (s : State) (x : List Held) : (s.setHeld x).parked = s.parked := rfl
@[simp] theorem State.setHeld_mem (s : State) (x : List Held) : (s.setHeld x).mem = s.mem := rfl
@[simp] theorem State.setHeld_txb (s : State) (x : List Held) : (s.setHeld x).txb = s.txb := rfl
@[simp] theorem State.setHeld_mirror (s : State) (x : List Held) : (s.setHeld x).mirror = s.mirror := rfl
@[simp] theorem State.setHeld_egr (s : State) (x : List Held) : (s.setHeld x).egr = s.egr := rfl
@[simp] theorem State.setLatch_pending (s : State) (x : List Latch) : (s.setLatch x).pending = s.pending := rfl
@[simp] theorem State.setLatch_iso (s : State) (x : List Latch) : (s.setLatch x).iso = s.iso := rfl
@[simp] theorem State.setLatch_por (s : State) (x : List Latch) : (s.setLatch x).por = s.por := rfl
@[simp] theorem State.setLatch_out (s : State) (x : List Latch) : (s.setLatch x).out = s.out := rfl
@[simp] theorem State.setLatch_now (s : State) (x : List Latch) : (s.setLatch x).now = s.now := rfl
@[simp] theorem State.setLatch_up (s : State) (x : List Latch) : (s.setLatch x).up = s.up := rfl
@[simp] theorem State.setLatch_freeCtr (s : State) (x : List Latch) : (s.setLatch x).freeCtr = s.freeCtr := rfl
@[simp] theorem State.setLatch_rv (s : State) (x : List Latch) : (s.setLatch x).rv = s.rv := rfl
@[simp] theorem State.setLatch_staged (s : State) (x : List Latch) : (s.setLatch x).staged = s.staged := rfl
@[simp] theorem State.setLatch_ord (s : State) (x : List Latch) : (s.setLatch x).ord = s.ord := rfl
@[simp] theorem State.setLatch_held (s : State) (x : List Latch) : (s.setLatch x).held = s.held := rfl
@[simp] theorem State.setLatch_cs (s : State) (x : List Latch) : (s.setLatch x).cs = s.cs := rfl
@[simp] theorem State.setLatch_flt (s : State) (x : List Latch) : (s.setLatch x).flt = s.flt := rfl
@[simp] theorem State.setLatch_bnd (s : State) (x : List Latch) : (s.setLatch x).bnd = s.bnd := rfl
@[simp] theorem State.setLatch_cell (s : State) (x : List Latch) : (s.setLatch x).cell = s.cell := rfl
@[simp] theorem State.setLatch_src (s : State) (x : List Latch) : (s.setLatch x).src = s.src := rfl
@[simp] theorem State.setLatch_dst (s : State) (x : List Latch) : (s.setLatch x).dst = s.dst := rfl
@[simp] theorem State.setLatch_cask (s : State) (x : List Latch) : (s.setLatch x).cask = s.cask := rfl
@[simp] theorem State.setLatch_head (s : State) (x : List Latch) : (s.setLatch x).head = s.head := rfl
@[simp] theorem State.setLatch_bound (s : State) (x : List Latch) : (s.setLatch x).bound = s.bound := rfl
@[simp] theorem State.setLatch_mntl (s : State) (x : List Latch) : (s.setLatch x).mntl = s.mntl := rfl
@[simp] theorem State.setLatch_mash (s : State) (x : List Latch) : (s.setLatch x).mash = s.mash := rfl
@[simp] theorem State.setLatch_aprt (s : State) (x : List Latch) : (s.setLatch x).aprt = s.aprt := rfl
@[simp] theorem State.setLatch_eth (s : State) (x : List Latch) : (s.setLatch x).eth = s.eth := rfl
@[simp] theorem State.setLatch_kiln (s : State) (x : List Latch) : (s.setLatch x).kiln = s.kiln := rfl
@[simp] theorem State.setLatch_gnss (s : State) (x : List Latch) : (s.setLatch x).gnss = s.gnss := rfl
@[simp] theorem State.setLatch_tsvc (s : State) (x : List Latch) : (s.setLatch x).tsvc = s.tsvc := rfl
@[simp] theorem State.setLatch_hcp (s : State) (x : List Latch) : (s.setLatch x).hcp = s.hcp := rfl
@[simp] theorem State.setLatch_hop (s : State) (x : List Latch) : (s.setLatch x).hop = s.hop := rfl
@[simp] theorem State.setLatch_boot (s : State) (x : List Latch) : (s.setLatch x).boot = s.boot := rfl
@[simp] theorem State.setLatch_pwr (s : State) (x : List Latch) : (s.setLatch x).pwr = s.pwr := rfl
@[simp] theorem State.setLatch_latch (s : State) (x : List Latch) : (s.setLatch x).latch = x := rfl
@[simp] theorem State.setLatch_parked (s : State) (x : List Latch) : (s.setLatch x).parked = s.parked := rfl
@[simp] theorem State.setLatch_mem (s : State) (x : List Latch) : (s.setLatch x).mem = s.mem := rfl
@[simp] theorem State.setLatch_txb (s : State) (x : List Latch) : (s.setLatch x).txb = s.txb := rfl
@[simp] theorem State.setLatch_mirror (s : State) (x : List Latch) : (s.setLatch x).mirror = s.mirror := rfl
@[simp] theorem State.setLatch_egr (s : State) (x : List Latch) : (s.setLatch x).egr = s.egr := rfl
@[simp] theorem State.setParked_pending (s : State) (x : List CsItem) : (s.setParked x).pending = s.pending := rfl
@[simp] theorem State.setParked_iso (s : State) (x : List CsItem) : (s.setParked x).iso = s.iso := rfl
@[simp] theorem State.setParked_por (s : State) (x : List CsItem) : (s.setParked x).por = s.por := rfl
@[simp] theorem State.setParked_out (s : State) (x : List CsItem) : (s.setParked x).out = s.out := rfl
@[simp] theorem State.setParked_now (s : State) (x : List CsItem) : (s.setParked x).now = s.now := rfl
@[simp] theorem State.setParked_up (s : State) (x : List CsItem) : (s.setParked x).up = s.up := rfl
@[simp] theorem State.setParked_freeCtr (s : State) (x : List CsItem) : (s.setParked x).freeCtr = s.freeCtr := rfl
@[simp] theorem State.setParked_rv (s : State) (x : List CsItem) : (s.setParked x).rv = s.rv := rfl
@[simp] theorem State.setParked_staged (s : State) (x : List CsItem) : (s.setParked x).staged = s.staged := rfl
@[simp] theorem State.setParked_ord (s : State) (x : List CsItem) : (s.setParked x).ord = s.ord := rfl
@[simp] theorem State.setParked_held (s : State) (x : List CsItem) : (s.setParked x).held = s.held := rfl
@[simp] theorem State.setParked_cs (s : State) (x : List CsItem) : (s.setParked x).cs = s.cs := rfl
@[simp] theorem State.setParked_flt (s : State) (x : List CsItem) : (s.setParked x).flt = s.flt := rfl
@[simp] theorem State.setParked_bnd (s : State) (x : List CsItem) : (s.setParked x).bnd = s.bnd := rfl
@[simp] theorem State.setParked_cell (s : State) (x : List CsItem) : (s.setParked x).cell = s.cell := rfl
@[simp] theorem State.setParked_src (s : State) (x : List CsItem) : (s.setParked x).src = s.src := rfl
@[simp] theorem State.setParked_dst (s : State) (x : List CsItem) : (s.setParked x).dst = s.dst := rfl
@[simp] theorem State.setParked_cask (s : State) (x : List CsItem) : (s.setParked x).cask = s.cask := rfl
@[simp] theorem State.setParked_head (s : State) (x : List CsItem) : (s.setParked x).head = s.head := rfl
@[simp] theorem State.setParked_bound (s : State) (x : List CsItem) : (s.setParked x).bound = s.bound := rfl
@[simp] theorem State.setParked_mntl (s : State) (x : List CsItem) : (s.setParked x).mntl = s.mntl := rfl
@[simp] theorem State.setParked_mash (s : State) (x : List CsItem) : (s.setParked x).mash = s.mash := rfl
@[simp] theorem State.setParked_aprt (s : State) (x : List CsItem) : (s.setParked x).aprt = s.aprt := rfl
@[simp] theorem State.setParked_eth (s : State) (x : List CsItem) : (s.setParked x).eth = s.eth := rfl
@[simp] theorem State.setParked_kiln (s : State) (x : List CsItem) : (s.setParked x).kiln = s.kiln := rfl
@[simp] theorem State.setParked_gnss (s : State) (x : List CsItem) : (s.setParked x).gnss = s.gnss := rfl
@[simp] theorem State.setParked_tsvc (s : State) (x : List CsItem) : (s.setParked x).tsvc = s.tsvc := rfl
@[simp] theorem State.setParked_hcp (s : State) (x : List CsItem) : (s.setParked x).hcp = s.hcp := rfl
@[simp] theorem State.setParked_hop (s : State) (x : List CsItem) : (s.setParked x).hop = s.hop := rfl
@[simp] theorem State.setParked_boot (s : State) (x : List CsItem) : (s.setParked x).boot = s.boot := rfl
@[simp] theorem State.setParked_pwr (s : State) (x : List CsItem) : (s.setParked x).pwr = s.pwr := rfl
@[simp] theorem State.setParked_latch (s : State) (x : List CsItem) : (s.setParked x).latch = s.latch := rfl
@[simp] theorem State.setParked_mem (s : State) (x : List CsItem) : (s.setParked x).mem = s.mem := rfl
@[simp] theorem State.setParked_txb (s : State) (x : List CsItem) : (s.setParked x).txb = s.txb := rfl
@[simp] theorem State.setParked_mirror (s : State) (x : List CsItem) : (s.setParked x).mirror = s.mirror := rfl
@[simp] theorem State.setParked_egr (s : State) (x : List CsItem) : (s.setParked x).egr = s.egr := rfl
@[simp] theorem State.setParked_parked (s : State) (x : List CsItem) : (s.setParked x).parked = x := rfl
@[simp] theorem State.setBound_pending (s : State) (x : List Nat) : (s.setBound x).pending = s.pending := rfl
@[simp] theorem State.setBound_iso (s : State) (x : List Nat) : (s.setBound x).iso = s.iso := rfl
@[simp] theorem State.setBound_por (s : State) (x : List Nat) : (s.setBound x).por = s.por := rfl
@[simp] theorem State.setBound_out (s : State) (x : List Nat) : (s.setBound x).out = s.out := rfl
@[simp] theorem State.setBound_now (s : State) (x : List Nat) : (s.setBound x).now = s.now := rfl
@[simp] theorem State.setBound_up (s : State) (x : List Nat) : (s.setBound x).up = s.up := rfl
@[simp] theorem State.setBound_freeCtr (s : State) (x : List Nat) : (s.setBound x).freeCtr = s.freeCtr := rfl
@[simp] theorem State.setBound_rv (s : State) (x : List Nat) : (s.setBound x).rv = s.rv := rfl
@[simp] theorem State.setBound_staged (s : State) (x : List Nat) : (s.setBound x).staged = s.staged := rfl
@[simp] theorem State.setBound_ord (s : State) (x : List Nat) : (s.setBound x).ord = s.ord := rfl
@[simp] theorem State.setBound_held (s : State) (x : List Nat) : (s.setBound x).held = s.held := rfl
@[simp] theorem State.setBound_cs (s : State) (x : List Nat) : (s.setBound x).cs = s.cs := rfl
@[simp] theorem State.setBound_flt (s : State) (x : List Nat) : (s.setBound x).flt = s.flt := rfl
@[simp] theorem State.setBound_bnd (s : State) (x : List Nat) : (s.setBound x).bnd = s.bnd := rfl
@[simp] theorem State.setBound_cell (s : State) (x : List Nat) : (s.setBound x).cell = s.cell := rfl
@[simp] theorem State.setBound_src (s : State) (x : List Nat) : (s.setBound x).src = s.src := rfl
@[simp] theorem State.setBound_dst (s : State) (x : List Nat) : (s.setBound x).dst = s.dst := rfl
@[simp] theorem State.setBound_cask (s : State) (x : List Nat) : (s.setBound x).cask = s.cask := rfl
@[simp] theorem State.setBound_head (s : State) (x : List Nat) : (s.setBound x).head = s.head := rfl
@[simp] theorem State.setBound_bound (s : State) (x : List Nat) : (s.setBound x).bound = x := rfl
@[simp] theorem State.setBound_mntl (s : State) (x : List Nat) : (s.setBound x).mntl = s.mntl := rfl
@[simp] theorem State.setBound_mash (s : State) (x : List Nat) : (s.setBound x).mash = s.mash := rfl
@[simp] theorem State.setBound_aprt (s : State) (x : List Nat) : (s.setBound x).aprt = s.aprt := rfl
@[simp] theorem State.setBound_eth (s : State) (x : List Nat) : (s.setBound x).eth = s.eth := rfl
@[simp] theorem State.setBound_kiln (s : State) (x : List Nat) : (s.setBound x).kiln = s.kiln := rfl
@[simp] theorem State.setBound_gnss (s : State) (x : List Nat) : (s.setBound x).gnss = s.gnss := rfl
@[simp] theorem State.setBound_tsvc (s : State) (x : List Nat) : (s.setBound x).tsvc = s.tsvc := rfl
@[simp] theorem State.setBound_hcp (s : State) (x : List Nat) : (s.setBound x).hcp = s.hcp := rfl
@[simp] theorem State.setBound_hop (s : State) (x : List Nat) : (s.setBound x).hop = s.hop := rfl
@[simp] theorem State.setBound_boot (s : State) (x : List Nat) : (s.setBound x).boot = s.boot := rfl
@[simp] theorem State.setBound_pwr (s : State) (x : List Nat) : (s.setBound x).pwr = s.pwr := rfl
@[simp] theorem State.setBound_latch (s : State) (x : List Nat) : (s.setBound x).latch = s.latch := rfl
@[simp] theorem State.setBound_parked (s : State) (x : List Nat) : (s.setBound x).parked = s.parked := rfl
@[simp] theorem State.setBound_mem (s : State) (x : List Nat) : (s.setBound x).mem = s.mem := rfl
@[simp] theorem State.setBound_txb (s : State) (x : List Nat) : (s.setBound x).txb = s.txb := rfl
@[simp] theorem State.setBound_mirror (s : State) (x : List Nat) : (s.setBound x).mirror = s.mirror := rfl
@[simp] theorem State.setBound_egr (s : State) (x : List Nat) : (s.setBound x).egr = s.egr := rfl
@[simp] theorem State.setNow_pending (s : State) (x : Nat) : (s.setNow x).pending = s.pending := rfl
@[simp] theorem State.setNow_iso (s : State) (x : Nat) : (s.setNow x).iso = s.iso := rfl
@[simp] theorem State.setNow_por (s : State) (x : Nat) : (s.setNow x).por = s.por := rfl
@[simp] theorem State.setNow_out (s : State) (x : Nat) : (s.setNow x).out = s.out := rfl
@[simp] theorem State.setNow_now (s : State) (x : Nat) : (s.setNow x).now = x := rfl
@[simp] theorem State.setNow_up (s : State) (x : Nat) : (s.setNow x).up = s.up := rfl
@[simp] theorem State.setNow_freeCtr (s : State) (x : Nat) : (s.setNow x).freeCtr = s.freeCtr := rfl
@[simp] theorem State.setNow_rv (s : State) (x : Nat) : (s.setNow x).rv = s.rv := rfl
@[simp] theorem State.setNow_staged (s : State) (x : Nat) : (s.setNow x).staged = s.staged := rfl
@[simp] theorem State.setNow_ord (s : State) (x : Nat) : (s.setNow x).ord = s.ord := rfl
@[simp] theorem State.setNow_held (s : State) (x : Nat) : (s.setNow x).held = s.held := rfl
@[simp] theorem State.setNow_cs (s : State) (x : Nat) : (s.setNow x).cs = s.cs := rfl
@[simp] theorem State.setNow_flt (s : State) (x : Nat) : (s.setNow x).flt = s.flt := rfl
@[simp] theorem State.setNow_bnd (s : State) (x : Nat) : (s.setNow x).bnd = s.bnd := rfl
@[simp] theorem State.setNow_cell (s : State) (x : Nat) : (s.setNow x).cell = s.cell := rfl
@[simp] theorem State.setNow_src (s : State) (x : Nat) : (s.setNow x).src = s.src := rfl
@[simp] theorem State.setNow_dst (s : State) (x : Nat) : (s.setNow x).dst = s.dst := rfl
@[simp] theorem State.setNow_cask (s : State) (x : Nat) : (s.setNow x).cask = s.cask := rfl
@[simp] theorem State.setNow_head (s : State) (x : Nat) : (s.setNow x).head = s.head := rfl
@[simp] theorem State.setNow_bound (s : State) (x : Nat) : (s.setNow x).bound = s.bound := rfl
@[simp] theorem State.setNow_mntl (s : State) (x : Nat) : (s.setNow x).mntl = s.mntl := rfl
@[simp] theorem State.setNow_mash (s : State) (x : Nat) : (s.setNow x).mash = s.mash := rfl
@[simp] theorem State.setNow_aprt (s : State) (x : Nat) : (s.setNow x).aprt = s.aprt := rfl
@[simp] theorem State.setNow_eth (s : State) (x : Nat) : (s.setNow x).eth = s.eth := rfl
@[simp] theorem State.setNow_kiln (s : State) (x : Nat) : (s.setNow x).kiln = s.kiln := rfl
@[simp] theorem State.setNow_gnss (s : State) (x : Nat) : (s.setNow x).gnss = s.gnss := rfl
@[simp] theorem State.setNow_tsvc (s : State) (x : Nat) : (s.setNow x).tsvc = s.tsvc := rfl
@[simp] theorem State.setNow_hcp (s : State) (x : Nat) : (s.setNow x).hcp = s.hcp := rfl
@[simp] theorem State.setNow_hop (s : State) (x : Nat) : (s.setNow x).hop = s.hop := rfl
@[simp] theorem State.setNow_boot (s : State) (x : Nat) : (s.setNow x).boot = s.boot := rfl
@[simp] theorem State.setNow_pwr (s : State) (x : Nat) : (s.setNow x).pwr = s.pwr := rfl
@[simp] theorem State.setNow_latch (s : State) (x : Nat) : (s.setNow x).latch = s.latch := rfl
@[simp] theorem State.setNow_parked (s : State) (x : Nat) : (s.setNow x).parked = s.parked := rfl
@[simp] theorem State.setNow_mem (s : State) (x : Nat) : (s.setNow x).mem = s.mem := rfl
@[simp] theorem State.setNow_txb (s : State) (x : Nat) : (s.setNow x).txb = s.txb := rfl
@[simp] theorem State.setNow_mirror (s : State) (x : Nat) : (s.setNow x).mirror = s.mirror := rfl
@[simp] theorem State.setNow_egr (s : State) (x : Nat) : (s.setNow x).egr = s.egr := rfl
@[simp] theorem State.setIso_pending (s : State) (x : Bool) : (s.setIso x).pending = s.pending := rfl
@[simp] theorem State.setIso_iso (s : State) (x : Bool) : (s.setIso x).iso = x := rfl
@[simp] theorem State.setIso_por (s : State) (x : Bool) : (s.setIso x).por = s.por := rfl
@[simp] theorem State.setIso_out (s : State) (x : Bool) : (s.setIso x).out = s.out := rfl
@[simp] theorem State.setIso_now (s : State) (x : Bool) : (s.setIso x).now = s.now := rfl
@[simp] theorem State.setIso_up (s : State) (x : Bool) : (s.setIso x).up = s.up := rfl
@[simp] theorem State.setIso_freeCtr (s : State) (x : Bool) : (s.setIso x).freeCtr = s.freeCtr := rfl
@[simp] theorem State.setIso_rv (s : State) (x : Bool) : (s.setIso x).rv = s.rv := rfl
@[simp] theorem State.setIso_staged (s : State) (x : Bool) : (s.setIso x).staged = s.staged := rfl
@[simp] theorem State.setIso_ord (s : State) (x : Bool) : (s.setIso x).ord = s.ord := rfl
@[simp] theorem State.setIso_held (s : State) (x : Bool) : (s.setIso x).held = s.held := rfl
@[simp] theorem State.setIso_cs (s : State) (x : Bool) : (s.setIso x).cs = s.cs := rfl
@[simp] theorem State.setIso_flt (s : State) (x : Bool) : (s.setIso x).flt = s.flt := rfl
@[simp] theorem State.setIso_bnd (s : State) (x : Bool) : (s.setIso x).bnd = s.bnd := rfl
@[simp] theorem State.setIso_cell (s : State) (x : Bool) : (s.setIso x).cell = s.cell := rfl
@[simp] theorem State.setIso_src (s : State) (x : Bool) : (s.setIso x).src = s.src := rfl
@[simp] theorem State.setIso_dst (s : State) (x : Bool) : (s.setIso x).dst = s.dst := rfl
@[simp] theorem State.setIso_cask (s : State) (x : Bool) : (s.setIso x).cask = s.cask := rfl
@[simp] theorem State.setIso_head (s : State) (x : Bool) : (s.setIso x).head = s.head := rfl
@[simp] theorem State.setIso_bound (s : State) (x : Bool) : (s.setIso x).bound = s.bound := rfl
@[simp] theorem State.setIso_mntl (s : State) (x : Bool) : (s.setIso x).mntl = s.mntl := rfl
@[simp] theorem State.setIso_mash (s : State) (x : Bool) : (s.setIso x).mash = s.mash := rfl
@[simp] theorem State.setIso_aprt (s : State) (x : Bool) : (s.setIso x).aprt = s.aprt := rfl
@[simp] theorem State.setIso_eth (s : State) (x : Bool) : (s.setIso x).eth = s.eth := rfl
@[simp] theorem State.setIso_kiln (s : State) (x : Bool) : (s.setIso x).kiln = s.kiln := rfl
@[simp] theorem State.setIso_gnss (s : State) (x : Bool) : (s.setIso x).gnss = s.gnss := rfl
@[simp] theorem State.setIso_tsvc (s : State) (x : Bool) : (s.setIso x).tsvc = s.tsvc := rfl
@[simp] theorem State.setIso_hcp (s : State) (x : Bool) : (s.setIso x).hcp = s.hcp := rfl
@[simp] theorem State.setIso_hop (s : State) (x : Bool) : (s.setIso x).hop = s.hop := rfl
@[simp] theorem State.setIso_boot (s : State) (x : Bool) : (s.setIso x).boot = s.boot := rfl
@[simp] theorem State.setIso_pwr (s : State) (x : Bool) : (s.setIso x).pwr = s.pwr := rfl
@[simp] theorem State.setIso_latch (s : State) (x : Bool) : (s.setIso x).latch = s.latch := rfl
@[simp] theorem State.setIso_parked (s : State) (x : Bool) : (s.setIso x).parked = s.parked := rfl
@[simp] theorem State.setIso_mem (s : State) (x : Bool) : (s.setIso x).mem = s.mem := rfl
@[simp] theorem State.setIso_txb (s : State) (x : Bool) : (s.setIso x).txb = s.txb := rfl
@[simp] theorem State.setIso_mirror (s : State) (x : Bool) : (s.setIso x).mirror = s.mirror := rfl
@[simp] theorem State.setIso_egr (s : State) (x : Bool) : (s.setIso x).egr = s.egr := rfl
@[simp] theorem State.setOut_pending (s : State) (x : List Output) : (s.setOut x).pending = s.pending := rfl
@[simp] theorem State.setOut_iso (s : State) (x : List Output) : (s.setOut x).iso = s.iso := rfl
@[simp] theorem State.setOut_por (s : State) (x : List Output) : (s.setOut x).por = s.por := rfl
@[simp] theorem State.setOut_out (s : State) (x : List Output) : (s.setOut x).out = x := rfl
@[simp] theorem State.setOut_now (s : State) (x : List Output) : (s.setOut x).now = s.now := rfl
@[simp] theorem State.setOut_up (s : State) (x : List Output) : (s.setOut x).up = s.up := rfl
@[simp] theorem State.setOut_freeCtr (s : State) (x : List Output) : (s.setOut x).freeCtr = s.freeCtr := rfl
@[simp] theorem State.setOut_rv (s : State) (x : List Output) : (s.setOut x).rv = s.rv := rfl
@[simp] theorem State.setOut_staged (s : State) (x : List Output) : (s.setOut x).staged = s.staged := rfl
@[simp] theorem State.setOut_ord (s : State) (x : List Output) : (s.setOut x).ord = s.ord := rfl
@[simp] theorem State.setOut_held (s : State) (x : List Output) : (s.setOut x).held = s.held := rfl
@[simp] theorem State.setOut_cs (s : State) (x : List Output) : (s.setOut x).cs = s.cs := rfl
@[simp] theorem State.setOut_flt (s : State) (x : List Output) : (s.setOut x).flt = s.flt := rfl
@[simp] theorem State.setOut_bnd (s : State) (x : List Output) : (s.setOut x).bnd = s.bnd := rfl
@[simp] theorem State.setOut_cell (s : State) (x : List Output) : (s.setOut x).cell = s.cell := rfl
@[simp] theorem State.setOut_src (s : State) (x : List Output) : (s.setOut x).src = s.src := rfl
@[simp] theorem State.setOut_dst (s : State) (x : List Output) : (s.setOut x).dst = s.dst := rfl
@[simp] theorem State.setOut_cask (s : State) (x : List Output) : (s.setOut x).cask = s.cask := rfl
@[simp] theorem State.setOut_head (s : State) (x : List Output) : (s.setOut x).head = s.head := rfl
@[simp] theorem State.setOut_bound (s : State) (x : List Output) : (s.setOut x).bound = s.bound := rfl
@[simp] theorem State.setOut_mntl (s : State) (x : List Output) : (s.setOut x).mntl = s.mntl := rfl
@[simp] theorem State.setOut_mash (s : State) (x : List Output) : (s.setOut x).mash = s.mash := rfl
@[simp] theorem State.setOut_aprt (s : State) (x : List Output) : (s.setOut x).aprt = s.aprt := rfl
@[simp] theorem State.setOut_eth (s : State) (x : List Output) : (s.setOut x).eth = s.eth := rfl
@[simp] theorem State.setOut_kiln (s : State) (x : List Output) : (s.setOut x).kiln = s.kiln := rfl
@[simp] theorem State.setOut_gnss (s : State) (x : List Output) : (s.setOut x).gnss = s.gnss := rfl
@[simp] theorem State.setOut_tsvc (s : State) (x : List Output) : (s.setOut x).tsvc = s.tsvc := rfl
@[simp] theorem State.setOut_hcp (s : State) (x : List Output) : (s.setOut x).hcp = s.hcp := rfl
@[simp] theorem State.setOut_hop (s : State) (x : List Output) : (s.setOut x).hop = s.hop := rfl
@[simp] theorem State.setOut_boot (s : State) (x : List Output) : (s.setOut x).boot = s.boot := rfl
@[simp] theorem State.setOut_pwr (s : State) (x : List Output) : (s.setOut x).pwr = s.pwr := rfl
@[simp] theorem State.setOut_latch (s : State) (x : List Output) : (s.setOut x).latch = s.latch := rfl
@[simp] theorem State.setOut_parked (s : State) (x : List Output) : (s.setOut x).parked = s.parked := rfl
@[simp] theorem State.putTxb_pending (s : State) (k : Nat) (r : TxS) : (s.putTxb k r).pending = s.pending := rfl
@[simp] theorem State.putTxb_iso (s : State) (k : Nat) (r : TxS) : (s.putTxb k r).iso = s.iso := rfl
@[simp] theorem State.putTxb_por (s : State) (k : Nat) (r : TxS) : (s.putTxb k r).por = s.por := rfl
@[simp] theorem State.putTxb_out (s : State) (k : Nat) (r : TxS) : (s.putTxb k r).out = s.out := rfl
@[simp] theorem State.putTxb_now (s : State) (k : Nat) (r : TxS) : (s.putTxb k r).now = s.now := rfl
@[simp] theorem State.putTxb_up (s : State) (k : Nat) (r : TxS) : (s.putTxb k r).up = s.up := rfl
@[simp] theorem State.putTxb_freeCtr (s : State) (k : Nat) (r : TxS) : (s.putTxb k r).freeCtr = s.freeCtr := rfl
@[simp] theorem State.putTxb_staged (s : State) (k : Nat) (r : TxS) : (s.putTxb k r).staged = s.staged := rfl
@[simp] theorem State.putTxb_ord (s : State) (k : Nat) (r : TxS) : (s.putTxb k r).ord = s.ord := rfl
@[simp] theorem State.putTxb_held (s : State) (k : Nat) (r : TxS) : (s.putTxb k r).held = s.held := rfl
@[simp] theorem State.putTxb_cs (s : State) (k : Nat) (r : TxS) : (s.putTxb k r).cs = s.cs := rfl
@[simp] theorem State.putTxb_flt (s : State) (k : Nat) (r : TxS) : (s.putTxb k r).flt = s.flt := rfl
@[simp] theorem State.putTxb_bnd (s : State) (k : Nat) (r : TxS) : (s.putTxb k r).bnd = s.bnd := rfl
@[simp] theorem State.putTxb_cell (s : State) (k : Nat) (r : TxS) : (s.putTxb k r).cell = s.cell := rfl
@[simp] theorem State.putTxb_src (s : State) (k : Nat) (r : TxS) : (s.putTxb k r).src = s.src := rfl
@[simp] theorem State.putTxb_dst (s : State) (k : Nat) (r : TxS) : (s.putTxb k r).dst = s.dst := rfl
@[simp] theorem State.putTxb_cask (s : State) (k : Nat) (r : TxS) : (s.putTxb k r).cask = s.cask := rfl
@[simp] theorem State.putTxb_head (s : State) (k : Nat) (r : TxS) : (s.putTxb k r).head = s.head := rfl
@[simp] theorem State.putTxb_bound (s : State) (k : Nat) (r : TxS) : (s.putTxb k r).bound = s.bound := rfl
@[simp] theorem State.putTxb_mntl (s : State) (k : Nat) (r : TxS) : (s.putTxb k r).mntl = s.mntl := rfl
@[simp] theorem State.putTxb_mash (s : State) (k : Nat) (r : TxS) : (s.putTxb k r).mash = s.mash := rfl
@[simp] theorem State.putTxb_aprt (s : State) (k : Nat) (r : TxS) : (s.putTxb k r).aprt = s.aprt := rfl
@[simp] theorem State.putTxb_eth (s : State) (k : Nat) (r : TxS) : (s.putTxb k r).eth = s.eth := rfl
@[simp] theorem State.putTxb_kiln (s : State) (k : Nat) (r : TxS) : (s.putTxb k r).kiln = s.kiln := rfl
@[simp] theorem State.putTxb_gnss (s : State) (k : Nat) (r : TxS) : (s.putTxb k r).gnss = s.gnss := rfl
@[simp] theorem State.putTxb_tsvc (s : State) (k : Nat) (r : TxS) : (s.putTxb k r).tsvc = s.tsvc := rfl
@[simp] theorem State.putTxb_hcp (s : State) (k : Nat) (r : TxS) : (s.putTxb k r).hcp = s.hcp := rfl
@[simp] theorem State.putTxb_hop (s : State) (k : Nat) (r : TxS) : (s.putTxb k r).hop = s.hop := rfl
@[simp] theorem State.putTxb_boot (s : State) (k : Nat) (r : TxS) : (s.putTxb k r).boot = s.boot := rfl
@[simp] theorem State.putTxb_pwr (s : State) (k : Nat) (r : TxS) : (s.putTxb k r).pwr = s.pwr := rfl
@[simp] theorem State.putTxb_latch (s : State) (k : Nat) (r : TxS) : (s.putTxb k r).latch = s.latch := rfl
@[simp] theorem State.putTxb_parked (s : State) (k : Nat) (r : TxS) : (s.putTxb k r).parked = s.parked := rfl
@[simp] theorem State.putTxb_mem (s : State) (k : Nat) (r : TxS) : (s.putTxb k r).mem = s.mem := rfl
@[simp] theorem State.putTxb_rv (s : State) (k : Nat) (r : TxS) : (s.putTxb k r).rv = s.rv := rfl
@[simp] theorem State.putTxb_mirror (s : State) (k : Nat) (r : TxS) : (s.putTxb k r).mirror = s.mirror := rfl
@[simp] theorem State.putTxb_egr (s : State) (k : Nat) (r : TxS) : (s.putTxb k r).egr = s.egr := rfl
@[simp] theorem State.putTxb_txb (s : State) (k : Nat) (r : TxS) : (s.putTxb k r).txb = tput {} s.txb k r := rfl
@[simp] theorem State.putEgress_pending (s : State) (k : Nat) (r : List TxItem) :
    (s.putEgress k r).pending = s.pending := rfl
@[simp] theorem State.putEgress_iso (s : State) (k : Nat) (r : List TxItem) : (s.putEgress k r).iso = s.iso := rfl
@[simp] theorem State.putEgress_por (s : State) (k : Nat) (r : List TxItem) : (s.putEgress k r).por = s.por := rfl
@[simp] theorem State.putEgress_out (s : State) (k : Nat) (r : List TxItem) : (s.putEgress k r).out = s.out := rfl
@[simp] theorem State.putEgress_now (s : State) (k : Nat) (r : List TxItem) : (s.putEgress k r).now = s.now := rfl
@[simp] theorem State.putEgress_up (s : State) (k : Nat) (r : List TxItem) : (s.putEgress k r).up = s.up := rfl
@[simp] theorem State.putEgress_freeCtr (s : State) (k : Nat) (r : List TxItem) :
    (s.putEgress k r).freeCtr = s.freeCtr := rfl
@[simp] theorem State.putEgress_staged (s : State) (k : Nat) (r : List TxItem) :
    (s.putEgress k r).staged = s.staged := rfl
@[simp] theorem State.putEgress_ord (s : State) (k : Nat) (r : List TxItem) : (s.putEgress k r).ord = s.ord := rfl
@[simp] theorem State.putEgress_held (s : State) (k : Nat) (r : List TxItem) : (s.putEgress k r).held = s.held := rfl
@[simp] theorem State.putEgress_cs (s : State) (k : Nat) (r : List TxItem) : (s.putEgress k r).cs = s.cs := rfl
@[simp] theorem State.putEgress_flt (s : State) (k : Nat) (r : List TxItem) : (s.putEgress k r).flt = s.flt := rfl
@[simp] theorem State.putEgress_bnd (s : State) (k : Nat) (r : List TxItem) : (s.putEgress k r).bnd = s.bnd := rfl
@[simp] theorem State.putEgress_cell (s : State) (k : Nat) (r : List TxItem) : (s.putEgress k r).cell = s.cell := rfl
@[simp] theorem State.putEgress_src (s : State) (k : Nat) (r : List TxItem) : (s.putEgress k r).src = s.src := rfl
@[simp] theorem State.putEgress_dst (s : State) (k : Nat) (r : List TxItem) : (s.putEgress k r).dst = s.dst := rfl
@[simp] theorem State.putEgress_cask (s : State) (k : Nat) (r : List TxItem) : (s.putEgress k r).cask = s.cask := rfl
@[simp] theorem State.putEgress_head (s : State) (k : Nat) (r : List TxItem) : (s.putEgress k r).head = s.head := rfl
@[simp] theorem State.putEgress_bound (s : State) (k : Nat) (r : List TxItem) : (s.putEgress k r).bound = s.bound := rfl
@[simp] theorem State.putEgress_mntl (s : State) (k : Nat) (r : List TxItem) : (s.putEgress k r).mntl = s.mntl := rfl
@[simp] theorem State.putEgress_mash (s : State) (k : Nat) (r : List TxItem) : (s.putEgress k r).mash = s.mash := rfl
@[simp] theorem State.putEgress_aprt (s : State) (k : Nat) (r : List TxItem) : (s.putEgress k r).aprt = s.aprt := rfl
@[simp] theorem State.putEgress_eth (s : State) (k : Nat) (r : List TxItem) : (s.putEgress k r).eth = s.eth := rfl
@[simp] theorem State.putEgress_kiln (s : State) (k : Nat) (r : List TxItem) : (s.putEgress k r).kiln = s.kiln := rfl
@[simp] theorem State.putEgress_gnss (s : State) (k : Nat) (r : List TxItem) : (s.putEgress k r).gnss = s.gnss := rfl
@[simp] theorem State.putEgress_tsvc (s : State) (k : Nat) (r : List TxItem) : (s.putEgress k r).tsvc = s.tsvc := rfl
@[simp] theorem State.putEgress_hcp (s : State) (k : Nat) (r : List TxItem) : (s.putEgress k r).hcp = s.hcp := rfl
@[simp] theorem State.putEgress_hop (s : State) (k : Nat) (r : List TxItem) : (s.putEgress k r).hop = s.hop := rfl
@[simp] theorem State.putEgress_boot (s : State) (k : Nat) (r : List TxItem) : (s.putEgress k r).boot = s.boot := rfl
@[simp] theorem State.putEgress_pwr (s : State) (k : Nat) (r : List TxItem) : (s.putEgress k r).pwr = s.pwr := rfl
@[simp] theorem State.putEgress_latch (s : State) (k : Nat) (r : List TxItem) : (s.putEgress k r).latch = s.latch := rfl
@[simp] theorem State.putEgress_parked (s : State) (k : Nat) (r : List TxItem) :
    (s.putEgress k r).parked = s.parked := rfl
@[simp] theorem State.putEgress_mem (s : State) (k : Nat) (r : List TxItem) : (s.putEgress k r).mem = s.mem := rfl
@[simp] theorem State.putEgress_rv (s : State) (k : Nat) (r : List TxItem) : (s.putEgress k r).rv = s.rv := rfl
@[simp] theorem State.putEgress_txb (s : State) (k : Nat) (r : List TxItem) : (s.putEgress k r).txb = s.txb := rfl
@[simp] theorem State.putEgress_mirror (s : State) (k : Nat) (r : List TxItem) :
    (s.putEgress k r).mirror = s.mirror := rfl
@[simp] theorem State.putEgress_egr (s : State) (k : Nat) (r : List TxItem) : (s.putEgress k r).egr = tput [] s.egr k r := rfl
@[simp] theorem State.setMirror_pending (s : State) (x : List (Nat × List (Nat × Nat))) :
    (s.setMirror x).pending = s.pending := rfl
@[simp] theorem State.setMirror_iso (s : State) (x : List (Nat × List (Nat × Nat))) : (s.setMirror x).iso = s.iso := rfl
@[simp] theorem State.setMirror_por (s : State) (x : List (Nat × List (Nat × Nat))) : (s.setMirror x).por = s.por := rfl
@[simp] theorem State.setMirror_out (s : State) (x : List (Nat × List (Nat × Nat))) : (s.setMirror x).out = s.out := rfl
@[simp] theorem State.setMirror_now (s : State) (x : List (Nat × List (Nat × Nat))) : (s.setMirror x).now = s.now := rfl
@[simp] theorem State.setMirror_up (s : State) (x : List (Nat × List (Nat × Nat))) : (s.setMirror x).up = s.up := rfl
@[simp] theorem State.setMirror_freeCtr (s : State) (x : List (Nat × List (Nat × Nat))) :
    (s.setMirror x).freeCtr = s.freeCtr := rfl
@[simp] theorem State.setMirror_staged (s : State) (x : List (Nat × List (Nat × Nat))) :
    (s.setMirror x).staged = s.staged := rfl
@[simp] theorem State.setMirror_ord (s : State) (x : List (Nat × List (Nat × Nat))) : (s.setMirror x).ord = s.ord := rfl
@[simp] theorem State.setMirror_held (s : State) (x : List (Nat × List (Nat × Nat))) :
    (s.setMirror x).held = s.held := rfl
@[simp] theorem State.setMirror_cs (s : State) (x : List (Nat × List (Nat × Nat))) : (s.setMirror x).cs = s.cs := rfl
@[simp] theorem State.setMirror_flt (s : State) (x : List (Nat × List (Nat × Nat))) : (s.setMirror x).flt = s.flt := rfl
@[simp] theorem State.setMirror_bnd (s : State) (x : List (Nat × List (Nat × Nat))) : (s.setMirror x).bnd = s.bnd := rfl
@[simp] theorem State.setMirror_cell (s : State) (x : List (Nat × List (Nat × Nat))) :
    (s.setMirror x).cell = s.cell := rfl
@[simp] theorem State.setMirror_src (s : State) (x : List (Nat × List (Nat × Nat))) : (s.setMirror x).src = s.src := rfl
@[simp] theorem State.setMirror_dst (s : State) (x : List (Nat × List (Nat × Nat))) : (s.setMirror x).dst = s.dst := rfl
@[simp] theorem State.setMirror_cask (s : State) (x : List (Nat × List (Nat × Nat))) :
    (s.setMirror x).cask = s.cask := rfl
@[simp] theorem State.setMirror_head (s : State) (x : List (Nat × List (Nat × Nat))) :
    (s.setMirror x).head = s.head := rfl
@[simp] theorem State.setMirror_bound (s : State) (x : List (Nat × List (Nat × Nat))) :
    (s.setMirror x).bound = s.bound := rfl
@[simp] theorem State.setMirror_mntl (s : State) (x : List (Nat × List (Nat × Nat))) :
    (s.setMirror x).mntl = s.mntl := rfl
@[simp] theorem State.setMirror_mash (s : State) (x : List (Nat × List (Nat × Nat))) :
    (s.setMirror x).mash = s.mash := rfl
@[simp] theorem State.setMirror_aprt (s : State) (x : List (Nat × List (Nat × Nat))) :
    (s.setMirror x).aprt = s.aprt := rfl
@[simp] theorem State.setMirror_eth (s : State) (x : List (Nat × List (Nat × Nat))) : (s.setMirror x).eth = s.eth := rfl
@[simp] theorem State.setMirror_kiln (s : State) (x : List (Nat × List (Nat × Nat))) :
    (s.setMirror x).kiln = s.kiln := rfl
@[simp] theorem State.setMirror_gnss (s : State) (x : List (Nat × List (Nat × Nat))) :
    (s.setMirror x).gnss = s.gnss := rfl
@[simp] theorem State.setMirror_tsvc (s : State) (x : List (Nat × List (Nat × Nat))) :
    (s.setMirror x).tsvc = s.tsvc := rfl
@[simp] theorem State.setMirror_hcp (s : State) (x : List (Nat × List (Nat × Nat))) : (s.setMirror x).hcp = s.hcp := rfl
@[simp] theorem State.setMirror_hop (s : State) (x : List (Nat × List (Nat × Nat))) : (s.setMirror x).hop = s.hop := rfl
@[simp] theorem State.setMirror_boot (s : State) (x : List (Nat × List (Nat × Nat))) :
    (s.setMirror x).boot = s.boot := rfl
@[simp] theorem State.setMirror_pwr (s : State) (x : List (Nat × List (Nat × Nat))) : (s.setMirror x).pwr = s.pwr := rfl
@[simp] theorem State.setMirror_latch (s : State) (x : List (Nat × List (Nat × Nat))) :
    (s.setMirror x).latch = s.latch := rfl
@[simp] theorem State.setMirror_parked (s : State) (x : List (Nat × List (Nat × Nat))) :
    (s.setMirror x).parked = s.parked := rfl
@[simp] theorem State.setMirror_mem (s : State) (x : List (Nat × List (Nat × Nat))) : (s.setMirror x).mem = s.mem := rfl
@[simp] theorem State.setMirror_rv (s : State) (x : List (Nat × List (Nat × Nat))) : (s.setMirror x).rv = s.rv := rfl
@[simp] theorem State.setMirror_txb (s : State) (x : List (Nat × List (Nat × Nat))) : (s.setMirror x).txb = s.txb := rfl
@[simp] theorem State.setMirror_egr (s : State) (x : List (Nat × List (Nat × Nat))) : (s.setMirror x).egr = s.egr := rfl
@[simp] theorem State.setMirror_mirror (s : State) (x : List (Nat × List (Nat × Nat))) : (s.setMirror x).mirror = x := rfl
@[simp] theorem State.setRv_pending (s : State) (x : List (Nat × Nat)) : (s.setRv x).pending = s.pending := rfl
@[simp] theorem State.setRv_iso (s : State) (x : List (Nat × Nat)) : (s.setRv x).iso = s.iso := rfl
@[simp] theorem State.setRv_por (s : State) (x : List (Nat × Nat)) : (s.setRv x).por = s.por := rfl
@[simp] theorem State.setRv_out (s : State) (x : List (Nat × Nat)) : (s.setRv x).out = s.out := rfl
@[simp] theorem State.setRv_now (s : State) (x : List (Nat × Nat)) : (s.setRv x).now = s.now := rfl
@[simp] theorem State.setRv_up (s : State) (x : List (Nat × Nat)) : (s.setRv x).up = s.up := rfl
@[simp] theorem State.setRv_freeCtr (s : State) (x : List (Nat × Nat)) : (s.setRv x).freeCtr = s.freeCtr := rfl
@[simp] theorem State.setRv_staged (s : State) (x : List (Nat × Nat)) : (s.setRv x).staged = s.staged := rfl
@[simp] theorem State.setRv_ord (s : State) (x : List (Nat × Nat)) : (s.setRv x).ord = s.ord := rfl
@[simp] theorem State.setRv_held (s : State) (x : List (Nat × Nat)) : (s.setRv x).held = s.held := rfl
@[simp] theorem State.setRv_cs (s : State) (x : List (Nat × Nat)) : (s.setRv x).cs = s.cs := rfl
@[simp] theorem State.setRv_flt (s : State) (x : List (Nat × Nat)) : (s.setRv x).flt = s.flt := rfl
@[simp] theorem State.setRv_bnd (s : State) (x : List (Nat × Nat)) : (s.setRv x).bnd = s.bnd := rfl
@[simp] theorem State.setRv_cell (s : State) (x : List (Nat × Nat)) : (s.setRv x).cell = s.cell := rfl
@[simp] theorem State.setRv_src (s : State) (x : List (Nat × Nat)) : (s.setRv x).src = s.src := rfl
@[simp] theorem State.setRv_dst (s : State) (x : List (Nat × Nat)) : (s.setRv x).dst = s.dst := rfl
@[simp] theorem State.setRv_cask (s : State) (x : List (Nat × Nat)) : (s.setRv x).cask = s.cask := rfl
@[simp] theorem State.setRv_head (s : State) (x : List (Nat × Nat)) : (s.setRv x).head = s.head := rfl
@[simp] theorem State.setRv_bound (s : State) (x : List (Nat × Nat)) : (s.setRv x).bound = s.bound := rfl
@[simp] theorem State.setRv_mntl (s : State) (x : List (Nat × Nat)) : (s.setRv x).mntl = s.mntl := rfl
@[simp] theorem State.setRv_mash (s : State) (x : List (Nat × Nat)) : (s.setRv x).mash = s.mash := rfl
@[simp] theorem State.setRv_aprt (s : State) (x : List (Nat × Nat)) : (s.setRv x).aprt = s.aprt := rfl
@[simp] theorem State.setRv_eth (s : State) (x : List (Nat × Nat)) : (s.setRv x).eth = s.eth := rfl
@[simp] theorem State.setRv_kiln (s : State) (x : List (Nat × Nat)) : (s.setRv x).kiln = s.kiln := rfl
@[simp] theorem State.setRv_gnss (s : State) (x : List (Nat × Nat)) : (s.setRv x).gnss = s.gnss := rfl
@[simp] theorem State.setRv_tsvc (s : State) (x : List (Nat × Nat)) : (s.setRv x).tsvc = s.tsvc := rfl
@[simp] theorem State.setRv_hcp (s : State) (x : List (Nat × Nat)) : (s.setRv x).hcp = s.hcp := rfl
@[simp] theorem State.setRv_hop (s : State) (x : List (Nat × Nat)) : (s.setRv x).hop = s.hop := rfl
@[simp] theorem State.setRv_boot (s : State) (x : List (Nat × Nat)) : (s.setRv x).boot = s.boot := rfl
@[simp] theorem State.setRv_pwr (s : State) (x : List (Nat × Nat)) : (s.setRv x).pwr = s.pwr := rfl
@[simp] theorem State.setRv_latch (s : State) (x : List (Nat × Nat)) : (s.setRv x).latch = s.latch := rfl
@[simp] theorem State.setRv_parked (s : State) (x : List (Nat × Nat)) : (s.setRv x).parked = s.parked := rfl
@[simp] theorem State.setRv_mem (s : State) (x : List (Nat × Nat)) : (s.setRv x).mem = s.mem := rfl
@[simp] theorem State.setRv_txb (s : State) (x : List (Nat × Nat)) : (s.setRv x).txb = s.txb := rfl
@[simp] theorem State.setRv_mirror (s : State) (x : List (Nat × Nat)) : (s.setRv x).mirror = s.mirror := rfl
@[simp] theorem State.setRv_egr (s : State) (x : List (Nat × Nat)) : (s.setRv x).egr = s.egr := rfl
@[simp] theorem State.setRv_rv (s : State) (x : List (Nat × Nat)) : (s.setRv x).rv = x := rfl
@[simp] theorem State.setMem_pending (s : State) (x : List Host.Cell) : (s.setMem x).pending = s.pending := rfl
@[simp] theorem State.setMem_iso (s : State) (x : List Host.Cell) : (s.setMem x).iso = s.iso := rfl
@[simp] theorem State.setMem_por (s : State) (x : List Host.Cell) : (s.setMem x).por = s.por := rfl
@[simp] theorem State.setMem_out (s : State) (x : List Host.Cell) : (s.setMem x).out = s.out := rfl
@[simp] theorem State.setMem_now (s : State) (x : List Host.Cell) : (s.setMem x).now = s.now := rfl
@[simp] theorem State.setMem_up (s : State) (x : List Host.Cell) : (s.setMem x).up = s.up := rfl
@[simp] theorem State.setMem_freeCtr (s : State) (x : List Host.Cell) : (s.setMem x).freeCtr = s.freeCtr := rfl
@[simp] theorem State.setMem_staged (s : State) (x : List Host.Cell) : (s.setMem x).staged = s.staged := rfl
@[simp] theorem State.setMem_ord (s : State) (x : List Host.Cell) : (s.setMem x).ord = s.ord := rfl
@[simp] theorem State.setMem_held (s : State) (x : List Host.Cell) : (s.setMem x).held = s.held := rfl
@[simp] theorem State.setMem_cs (s : State) (x : List Host.Cell) : (s.setMem x).cs = s.cs := rfl
@[simp] theorem State.setMem_flt (s : State) (x : List Host.Cell) : (s.setMem x).flt = s.flt := rfl
@[simp] theorem State.setMem_bnd (s : State) (x : List Host.Cell) : (s.setMem x).bnd = s.bnd := rfl
@[simp] theorem State.setMem_cell (s : State) (x : List Host.Cell) : (s.setMem x).cell = s.cell := rfl
@[simp] theorem State.setMem_src (s : State) (x : List Host.Cell) : (s.setMem x).src = s.src := rfl
@[simp] theorem State.setMem_dst (s : State) (x : List Host.Cell) : (s.setMem x).dst = s.dst := rfl
@[simp] theorem State.setMem_cask (s : State) (x : List Host.Cell) : (s.setMem x).cask = s.cask := rfl
@[simp] theorem State.setMem_head (s : State) (x : List Host.Cell) : (s.setMem x).head = s.head := rfl
@[simp] theorem State.setMem_bound (s : State) (x : List Host.Cell) : (s.setMem x).bound = s.bound := rfl
@[simp] theorem State.setMem_mntl (s : State) (x : List Host.Cell) : (s.setMem x).mntl = s.mntl := rfl
@[simp] theorem State.setMem_mash (s : State) (x : List Host.Cell) : (s.setMem x).mash = s.mash := rfl
@[simp] theorem State.setMem_aprt (s : State) (x : List Host.Cell) : (s.setMem x).aprt = s.aprt := rfl
@[simp] theorem State.setMem_eth (s : State) (x : List Host.Cell) : (s.setMem x).eth = s.eth := rfl
@[simp] theorem State.setMem_kiln (s : State) (x : List Host.Cell) : (s.setMem x).kiln = s.kiln := rfl
@[simp] theorem State.setMem_gnss (s : State) (x : List Host.Cell) : (s.setMem x).gnss = s.gnss := rfl
@[simp] theorem State.setMem_tsvc (s : State) (x : List Host.Cell) : (s.setMem x).tsvc = s.tsvc := rfl
@[simp] theorem State.setMem_hcp (s : State) (x : List Host.Cell) : (s.setMem x).hcp = s.hcp := rfl
@[simp] theorem State.setMem_hop (s : State) (x : List Host.Cell) : (s.setMem x).hop = s.hop := rfl
@[simp] theorem State.setMem_boot (s : State) (x : List Host.Cell) : (s.setMem x).boot = s.boot := rfl
@[simp] theorem State.setMem_pwr (s : State) (x : List Host.Cell) : (s.setMem x).pwr = s.pwr := rfl
@[simp] theorem State.setMem_latch (s : State) (x : List Host.Cell) : (s.setMem x).latch = s.latch := rfl
@[simp] theorem State.setMem_parked (s : State) (x : List Host.Cell) : (s.setMem x).parked = s.parked := rfl
@[simp] theorem State.setMem_rv (s : State) (x : List Host.Cell) : (s.setMem x).rv = s.rv := rfl
@[simp] theorem State.setMem_txb (s : State) (x : List Host.Cell) : (s.setMem x).txb = s.txb := rfl
@[simp] theorem State.setMem_mirror (s : State) (x : List Host.Cell) : (s.setMem x).mirror = s.mirror := rfl
@[simp] theorem State.setMem_egr (s : State) (x : List Host.Cell) : (s.setMem x).egr = s.egr := rfl
@[simp] theorem State.setMem_mem (s : State) (x : List Host.Cell) : (s.setMem x).mem = x := rfl
@[simp] theorem State.setOut_mem (s : State) (x : List Output) : (s.setOut x).mem = s.mem := rfl
@[simp] theorem State.setOut_txb (s : State) (x : List Output) : (s.setOut x).txb = s.txb := rfl
@[simp] theorem State.setOut_mirror (s : State) (x : List Output) : (s.setOut x).mirror = s.mirror := rfl
@[simp] theorem State.setOut_egr (s : State) (x : List Output) : (s.setOut x).egr = s.egr := rfl
@[simp] theorem State.putSrc_srcOf (s : State) (k : Nat) (r : SrcS) : (s.putSrc k r).srcOf k = r := tget_tput_same ..
theorem State.putSrc_srcOf_other (s : State) (k j : Nat) (r : SrcS) (h : j ≠ k) : (s.putSrc k r).srcOf j = s.srcOf j :=
  tget_tput_other _ _ _ _ _ h
@[simp] theorem State.putDst_dstOf (s : State) (k : Nat) (r : DstS) : (s.putDst k r).dstOf k = r := tget_tput_same ..
theorem State.putDst_dstOf_other (s : State) (k j : Nat) (r : DstS) (h : j ≠ k) : (s.putDst k r).dstOf j = s.dstOf j :=
  tget_tput_other _ _ _ _ _ h
@[simp] theorem State.putBnd_bndOf (s : State) (k : Nat) (r : BndS) : (s.putBnd k r).bndOf k = r := tget_tput_same ..
theorem State.putBnd_bndOf_other (s : State) (k j : Nat) (r : BndS) (h : j ≠ k) : (s.putBnd k r).bndOf j = s.bndOf j :=
  tget_tput_other _ _ _ _ _ h
@[simp] theorem State.putTxb_txOf (s : State) (k : Nat) (r : TxS) : (s.putTxb k r).txOf k = r := tget_tput_same ..
theorem State.putTxb_txOf_other (s : State) (k j : Nat) (r : TxS) (h : j ≠ k) : (s.putTxb k r).txOf j = s.txOf j :=
  tget_tput_other _ _ _ _ _ h
@[simp] theorem State.putEgress_egress (s : State) (k : Nat) (r : List TxItem) : (s.putEgress k r).egress k = r := tget_tput_same ..
theorem State.putEgress_egress_other (s : State) (k j : Nat) (r : List TxItem) (h : j ≠ k) :
    (s.putEgress k r).egress j = s.egress j := tget_tput_other _ _ _ _ _ h
@[simp] theorem State.putCs_csOf (s : State) (k : Nat) (r : ChangeSet) : (s.putCs k r).csOf k = r := tget_tput_same ..
theorem State.putCs_csOf_other (s : State) (k j : Nat) (r : ChangeSet) (h : j ≠ k) : (s.putCs k r).csOf j = s.csOf j :=
  tget_tput_other _ _ _ _ _ h
@[simp] theorem State.putHead_headOf (s : State) (k : Nat) (r : HeadS) : (s.putHead k r).headOf k = r := tget_tput_same ..
theorem State.putHead_headOf_other (s : State) (k j : Nat) (r : HeadS) (h : j ≠ k) : (s.putHead k r).headOf j = s.headOf j :=
  tget_tput_other _ _ _ _ _ h
@[simp] theorem State.putSurf_surfOf (s : State) (k : Nat) (r : Surf) : (s.putSurf k r).surfOf k = r := tget_tput_same ..
theorem State.putSurf_surfOf_other (s : State) (k j : Nat) (r : Surf) (h : j ≠ k) : (s.putSurf k r).surfOf j = s.surfOf j :=
  tget_tput_other _ _ _ _ _ h
@[simp] theorem State.putSess_sessOf (s : State) (k : Nat) (r : Session) : (s.putSess k r).sessOf k = r := tget_tput_same ..
theorem State.putSess_sessOf_other (s : State) (k j : Nat) (r : Session) (h : j ≠ k) : (s.putSess k r).sessOf j = s.sessOf j :=
  tget_tput_other _ _ _ _ _ h
@[simp] theorem State.putHop_hopOf (s : State) (k : Nat) (r : HopCh) : (s.putHop k r).hopOf k = r := tget_tput_same ..
theorem State.putHop_hopOf_other (s : State) (k j : Nat) (r : HopCh) (h : j ≠ k) : (s.putHop k r).hopOf j = s.hopOf j :=
  tget_tput_other _ _ _ _ _ h
@[simp] theorem State.putPort_portOf (s : State) (k : Nat) (r : PortS) : (s.putPort k r).portOf k = r := tget_tput_same ..
theorem State.putPort_portOf_other (s : State) (k j : Nat) (r : PortS) (h : j ≠ k) : (s.putPort k r).portOf j = s.portOf j :=
  tget_tput_other _ _ _ _ _ h
@[simp] theorem State.start_pending (s : State) (dt : Nat) : (s.start dt).pending = s.pending := rfl
@[simp] theorem State.start_iso (s : State) (dt : Nat) : (s.start dt).iso = s.iso := rfl
@[simp] theorem State.start_por (s : State) (dt : Nat) : (s.start dt).por = s.por := rfl
@[simp] theorem State.start_freeCtr (s : State) (dt : Nat) : (s.start dt).freeCtr = s.freeCtr := rfl
@[simp] theorem State.start_rv (s : State) (dt : Nat) : (s.start dt).rv = s.rv := rfl
@[simp] theorem State.start_staged (s : State) (dt : Nat) : (s.start dt).staged = s.staged := rfl
@[simp] theorem State.start_ord (s : State) (dt : Nat) : (s.start dt).ord = s.ord := rfl
@[simp] theorem State.start_held (s : State) (dt : Nat) : (s.start dt).held = s.held := rfl
@[simp] theorem State.start_cs (s : State) (dt : Nat) : (s.start dt).cs = s.cs := rfl
@[simp] theorem State.start_flt (s : State) (dt : Nat) : (s.start dt).flt = s.flt := rfl
@[simp] theorem State.start_bnd (s : State) (dt : Nat) : (s.start dt).bnd = s.bnd := rfl
@[simp] theorem State.start_cell (s : State) (dt : Nat) : (s.start dt).cell = s.cell := rfl
@[simp] theorem State.start_src (s : State) (dt : Nat) : (s.start dt).src = s.src := rfl
@[simp] theorem State.start_dst (s : State) (dt : Nat) : (s.start dt).dst = s.dst := rfl
@[simp] theorem State.start_cask (s : State) (dt : Nat) : (s.start dt).cask = s.cask := rfl
@[simp] theorem State.start_head (s : State) (dt : Nat) : (s.start dt).head = s.head := rfl
@[simp] theorem State.start_bound (s : State) (dt : Nat) : (s.start dt).bound = s.bound := rfl
@[simp] theorem State.start_mntl (s : State) (dt : Nat) : (s.start dt).mntl = s.mntl := rfl
@[simp] theorem State.start_mash (s : State) (dt : Nat) : (s.start dt).mash = s.mash := rfl
@[simp] theorem State.start_aprt (s : State) (dt : Nat) : (s.start dt).aprt = s.aprt := rfl
@[simp] theorem State.start_eth (s : State) (dt : Nat) : (s.start dt).eth = s.eth := rfl
@[simp] theorem State.start_kiln (s : State) (dt : Nat) : (s.start dt).kiln = s.kiln := rfl
@[simp] theorem State.start_gnss (s : State) (dt : Nat) : (s.start dt).gnss = s.gnss := rfl
@[simp] theorem State.start_tsvc (s : State) (dt : Nat) : (s.start dt).tsvc = s.tsvc := rfl
@[simp] theorem State.start_hcp (s : State) (dt : Nat) : (s.start dt).hcp = s.hcp := rfl
@[simp] theorem State.start_hop (s : State) (dt : Nat) : (s.start dt).hop = s.hop := rfl
@[simp] theorem State.start_boot (s : State) (dt : Nat) : (s.start dt).boot = s.boot := rfl
@[simp] theorem State.start_pwr (s : State) (dt : Nat) : (s.start dt).pwr = s.pwr := rfl
@[simp] theorem State.start_latch (s : State) (dt : Nat) : (s.start dt).latch = s.latch := rfl
@[simp] theorem State.start_parked (s : State) (dt : Nat) : (s.start dt).parked = s.parked := rfl
@[simp] theorem State.start_mem (s : State) (dt : Nat) : (s.start dt).mem = s.mem := rfl
@[simp] theorem State.start_txb (s : State) (dt : Nat) : (s.start dt).txb = s.txb := rfl
@[simp] theorem State.start_mirror (s : State) (dt : Nat) : (s.start dt).mirror = s.mirror := rfl
@[simp] theorem State.start_egr (s : State) (dt : Nat) : (s.start dt).egr = s.egr := rfl
@[simp] theorem State.start_up (s : State) (dt : Nat) : (s.start dt).up = s.up + dt := rfl
@[simp] theorem State.start_out (s : State) (dt : Nat) : (s.start dt).out = [] := rfl
theorem State.start_now (s : State) (dt : Nat) :
    (s.start dt).now = if s.rd Fld.KILN_STAT_STATE 0 = 0 then s.now else s.now + dt := rfl

/-! What follows from a command's frame. -/

/-- A command of the main islands completes with what holds of its effect and of nothing that following the change sets may touch. -/
theorem onMain_next {dt : Nat} {s : State} {f : State → State} {P : State → Prop} (hs : s.runs)
    (h : P (f (s.start dt)).settleSets) : ∃ t, onMain dt s f = .next t ∧ P t := by
  refine ⟨_, rfl, ?_⟩
  unfold State.runs at hs
  simpa [hs] using h

theorem onKeep_next {dt : Nat} {s : State} {f : State → State} {P : State → Prop} (hs : s.por = false)
    (h : P (f (s.start dt))) : ∃ t, onKeep dt s f = .next t ∧ P t := by
  refine ⟨_, rfl, ?_⟩
  simpa [hs] using h

end Sys2Proof.Machine
end

