-- ==== Sys2Proof/WellFormed.lean ====
section
/-! DEFINITION. Which commands a sender can send: the operands whose types admit more than the carrier does. -/

set_option autoImplicit false

namespace Sys2Proof

open Sys2Proof.Machine

/-- A cell on a bundle has 272 bytes, and its eight chunks come on their lanes (03_cells_slots R120; 02_izsar_lanes R60). -/
def Machine.RxCell.wf (rx : RxCell) : Bool :=
  match rx with
  | .bytes c => c.length == 272
  | .line chunks => chunks.length == 8

/-- A control word has 8 bytes (02_izsar_lanes R71). -/
def Machine.RxWord.wf (rx : RxWord) : Bool :=
  match rx with
  | .bytes w => w.length == 8
  | .line _ => true

/-- A named register address names an instance that the block has, and the upper word of a 64-bit pair only
(18_address_map R819 to R823). -/
def Machine.RegAddr.wf (a : RegAddr) : Bool :=
  match a with
  | .named r i hi => decide (i < r.count) && (!hi || r.w64)
  | .raw _ => true

/-- The header's LENGTH has 16 bits (15_hcp_control R709). -/
def Machine.HcpReq.wf (h : HcpReq) : Bool := decide (h.bodyLen < 65536)

/-- The items of a request name registers (15_hcp_control R734). -/
def itemsWf (items : List Item) : Bool := items.all fun w => w.addr.wf

/-- A STAGE entry's instance and count have 16 and 8 bits (15_hcp_control R736). -/
def stageWf (es : List StageEntry) : Bool := es.all fun e => decide (e.inst < 65536 ∧ e.items.length < 256) && itemsWf e.items

/-- A configuration record has 1 to 2048 values (17_startup_update R786). -/
def cfgWf (cs : List CfgRec) : Bool := cs.all fun c => c.addr.wf && decide (1 ≤ c.vals.length ∧ c.vals.length ≤ 2048)

/-- An image's lists are as long as its format lets them be: 1 to 64 components of 6 requirements, and 1 to 256 key records. -/
def Machine.ImgIn.wf (m : ImgIn) : Bool :=
  cfgWf m.recs && decide (1 ≤ m.comps.length ∧ m.comps.length ≤ 64 ∧ 1 ≤ m.keys.length ∧ m.keys.length ≤ 256)
    && m.comps.all fun c => decide (c.reqs.length ≤ 6)

/-- A command that a sender can send. -/
def Instr.wf (c : Instr) : Bool :=
  match c with
  | .cellarNAsserted _ => true
  | .cellarEnter _ _ => true
  | .cellarEntryIsolated _ => true
  | .cellarNDeasserted _ _ => true
  | .resetNAsserted _ => true
  | .resetNDeasserted _ _ _ => true
  | .keepAlivePorRelease _ => true
  | .flashInitDone _ _ => true
  | .swapStepDone _ _ => true
  | .startVerifyDone _ img => img.wf
  | .configApplied _ => true
  | .hbmTrained _ => true
  | .stage6End _ => true
  | .enterService _ => true
  | .hemMashSilent _ => true
  | .islandClockLost _ _ => true
  | .islandClockReturn _ _ => true
  | .csOpen _ h _ => h.wf
  | .stage _ h _ entries => h.wf && stageWf entries
  | .arm _ h _ _ _ _ _ _ => h.wf
  | .prepare _ h _ => h.wf
  | .commit _ h _ => h.wf
  | .cancel _ h _ => h.wf
  | .csRelease _ h _ => h.wf
  | .csRead _ h _ _ _ => h.wf
  | .csDistributionDone _ _ => true
  | .csEntryInShadow _ _ _ => true
  | .armTimeReached _ _ => true
  | .prepareDeadline _ _ => true
  | .clockLaneQualified _ _ => true
  | .adaptDone _ _ => true
  | .bitSlipPosition _ _ => true
  | .deskewDone _ _ _ => true
  | .verifyDone _ _ => true
  | .retrain _ _ _ => true
  | .autoRetrainRetry _ _ => true
  | .bundleEnable _ _ _ _ => true
  | .txAlignmentMarker _ _ => true
  | .alignmentMarker _ _ _ _ rx => rx.wf
  | .markerMissing _ _ _ => true
  | .interpolatorLimit _ _ _ _ => true
  | .fill _ _ _ rx => rx.wf
  | .lightIdleEntry _ _ _ rx => rx.wf
  | .deepIdleEntry _ _ _ rx => rx.wf
  | .idleReq _ _ _ _ => true
  | .idleAutoTimeout _ _ => true
  | .txIdleExit _ _ => true
  | .exitBurstDelimiter _ _ _ => true
  | .wakeFailure _ _ => true
  | .fwdClockStop _ _ => true
  | .fwdClockGlitch _ _ => true
  | .fwdClockRateChange _ _ => true
  | .fwdClockRequalified _ _ => true
  | .idleCell _ _ rx => rx.wf
  | .essenceCell _ _ rx _ => rx.wf
  | .ancillaryCell _ _ rx _ => rx.wf
  | .echoCell _ _ rx => rx.wf
  | .stampCell _ _ rx => rx.wf
  | .familyCellRx _ rx => rx.wf
  | .managementSideCell _ _ rx => rx.wf
  | .laneTestCell _ rx => rx.wf
  | .signatureCell _ rx => rx.wf
  | .sourceLostTimeout _ _ => true
  | .warpCellCheckFail _ _ _ _ _ => true
  | .familyCellTx _ _ _ => true
  | .launchCellTx _ _ => true
  | .echoCellTx _ => true
  | .signatureCellTx _ _ => true
  | .ethFrameBad _ _ _ => true
  | .unmatchedFrame _ _ _ _ => true
  | .pauseFrame _ _ _ _ _ => true
  | .pauseExpire _ _ _ => true
  | .pauseWatchdog _ _ _ => true
  | .pauseIgnoreEnd _ _ _ => true
  | .arpRequest _ _ _ _ => true
  | .icmpEchoRequest _ _ _ _ => true
  | .st211020Packet _ _ _ _ _ _ _ _ _ _ _ => true
  | .st211022Packet _ _ _ _ _ _ _ _ => true
  | .st211030Packet _ _ _ _ _ _ _ _ => true
  | .st211031Packet _ _ _ _ _ _ _ => true
  | .st211040Packet _ _ _ _ _ _ _ => true
  | .flowLostTimeout _ _ => true
  | .audioFlowLostTimeout _ _ => true
  | .flowEnable _ _ _ _ => true
  | .ethLossOfSignal _ _ => true
  | .ethLinkGlitch _ _ _ => true
  | .ethRateChange _ _ => true
  | .ethLinkUp _ _ => true
  | .dstRouteWrite _ _ _ _ => true
  | .seamGuardOpen _ _ => true
  | .seamSwitchingInstant _ _ _ => true
  | .seamSnapshotTimeout _ _ _ => true
  | .dstFrameLaunch _ _ => true
  | .dstLineBoundary _ _ _ _ => true
  | .freezeExpire _ _ => true
  | .plyProxyComplete _ _ => true
  | .caskCorrectedError _ _ => true
  | .caskUncorrectableError _ _ _ => true
  | .pageRetireDone _ _ => true
  | .surfAlloc _ h _ _ => h.wf
  | .surfFree _ h _ => h.wf
  | .bulkWrite _ h _ _ _ _ => h.wf
  | .bulkRead _ h _ _ _ _ => h.wf
  | .headEnable _ _ _ => true
  | .headDisable _ _ _ => true
  | .headGuardOpen _ _ => true
  | .headFrameStart _ _ => true
  | .transitionFrameEnd _ _ => true
  | .headUnderrun _ _ _ _ => true
  | .apronUnderrun _ _ _ _ => true
  | .headFrameEnd _ _ => true
  | .sigLearn _ _ _ => true
  | .apronFieldWrite _ _ _ _ _ _ => true
  | .apronFieldApply _ _ => true
  | .apronNAsserted _ _ => true
  | .apronForceBegin _ _ => true
  | .apronNDeasserted _ _ => true
  | .mashSampleInstant _ => true
  | .engSwapRequest _ _ _ => true
  | .engHoldWrite _ _ _ _ => true
  | .zcTimeout _ _ _ => true
  | .faderRampEnd _ _ => true
  | .unlockHoldExpire _ _ => true
  | .portEnable _ _ _ => true
  | .portDisable _ _ _ => true
  | .prerollDone _ _ => true
  | .stopDone _ _ => true
  | .frameSync _ _ _ _ => true
  | .maskLoWrite _ _ _ _ _ => true
  | .maskHiWrite _ _ _ _ _ => true
  | .portClockStop _ _ => true
  | .portClockGlitch _ _ => true
  | .portRateChange _ _ => true
  | .portClockQualified _ _ => true
  | .frameEpoch _ _ => true
  | .kilnSecond _ => true
  | .evtInEdge _ _ _ _ => true
  | .evtCapRead _ _ _ => true
  | .nowRead _ _ => true
  | .lowerWordRead _ _ a => a.wf
  | .ppsInPulse _ _ _ _ => true
  | .vrefInPulse _ _ _ _ => true
  | .pulseTimeout _ _ => true
  | .freqInGlitch _ _ => true
  | .freqInStop _ _ => true
  | .freqInRateChange _ _ => true
  | .refQualified _ _ => true
  | .selCtlWrite _ _ _ _ => true
  | .refOrderWrite _ _ _ _ _ => true
  | .kilnStep _ => true
  | .kilnTimeSet _ => true
  | .slewDone _ => true
  | .dacUpdate _ => true
  | .tempRead _ _ => true
  | .tempSensorTimeout _ => true
  | .modelSave _ => true
  | .modelValid _ => true
  | .oscGlitch _ => true
  | .oscStop _ => true
  | .oscRateChange _ => true
  | .oscDrift _ => true
  | .oscRestore _ => true
  | .xoInStop _ => true
  | .timeOutPulse _ _ => true
  | .timeOutPulseEnd _ _ => true
  | .clkOutAlign _ _ => true
  | .timeSetGo _ _ => true
  | .startWaitExpire _ => true
  | .gnssClockStop _ _ => true
  | .gnssClockGlitch _ _ => true
  | .gnssClockRateChange _ _ => true
  | .gnssClockRequalified _ _ => true
  | .gnssSearchPass _ _ _ _ => true
  | .hotSearchTimeout _ _ => true
  | .channelLockLoss _ _ _ => true
  | .navDataDecoded _ _ _ _ _ => true
  | .measurementEpoch _ _ => true
  | .gnssSolution _ _ => true
  | .posWrite _ _ _ _ _ _ => true
  | .posModeWrite _ _ _ => true
  | .baselineLearnt _ _ => true
  | .selftest _ _ => true
  | .selftestDone _ _ _ _ => true
  | .gnssBurst _ _ _ => true
  | .gnssNavRefresh _ => true
  | .syncTx _ _ => true
  | .followUpTx _ _ _ => true
  | .announceTx _ _ => true
  | .syncMetadataTx _ _ => true
  | .grantDue _ _ _ => true
  | .grantExpire _ _ _ => true
  | .delayReq _ _ _ => true
  | .sync _ _ _ _ _ _ => true
  | .followUp _ _ _ _ _ _ => true
  | .delayResp _ _ _ _ _ _ _ => true
  | .announce _ _ _ _ _ => true
  | .clientDelayReqTx _ _ => true
  | .announceReceiptTimeout _ _ => true
  | .exchangeTimeout _ _ => true
  | .requestUnicastTransmission _ _ _ _ => true
  | .cancelUnicastTransmission _ _ _ _ => true
  | .managementMessage _ _ _ => true
  | .pdelayMessage _ _ _ => true
  | .ntpRequest _ _ _ _ => true
  | .ntsRequest _ _ _ _ _ => true
  | .leapSecond _ => true
  | .sessRead _ _ => true
  | .sessWrite _ _ _ _ => true
  | .sessInvalidate _ _ => true
  | .keyLoad _ _ _ _ => true
  | .ntsMkeyWrite _ _ _ _ _ => true
  | .ptpRoleWrite _ _ _ _ => true
  | .inject _ _ _ => true
  | .injectedFrameSent _ => true
  | .txtsRead _ _ _ => true
  | .renewTx _ => true
  | .renew _ rx => rx.wf
  | .ack _ rx => rx.wf
  | .leaseInEdge _ => true
  | .leaseConfirmTimeout _ => true
  | .claimTimeout _ => true
  | .noneWaitTimeout _ _ => true
  | .release _ rx => rx.wf
  | .handover _ _ => true
  | .request _ rx => rx.wf
  | .propose _ rx => rx.wf
  | .accept _ rx => rx.wf
  | .refuse _ rx => rx.wf
  | .handoverAcceptDeadline _ => true
  | .handoverTime _ => true
  | .holdoffExpire _ _ => true
  | .healthTx _ _ => true
  | .health _ rx => rx.wf
  | .twinHealthTimeout _ => true
  | .mirror _ _ _ _ => true
  | .rtpSeqMirrorTx _ => true
  | .csReady _ _ _ _ => true
  | .mantleEnWrite _ _ _ => true
  | .standingClear _ _ _ => true
  | .fenceCmdFence _ _ _ _ => true
  | .fenceCmdRelease _ _ _ _ => true
  | .faultPulseEnd _ => true
  | .faultHoldWrite _ _ _ => true
  | .logAck _ _ _ => true
  | .logRetry _ _ => true
  | .hcpOpen _ h => h.wf
  | .hcpClose _ h => h.wf
  | .hcpNop _ h => h.wf
  | .hcpRead _ h addr _ _ => h.wf && addr.wf
  | .hcpWrite _ h items => h.wf && itemsWf items
  | .registerWrite _ _ a _ _ => a.wf
  | .rcCounterRead _ _ a => a.wf
  | .snapshot _ h _ _ _ _ _ _ _ => h.wf
  | .snapshotCapture _ _ => true
  | .snapRead _ h _ _ _ => h.wf
  | .snapFree _ h _ => h.wf
  | .subscribe _ h _ => h.wf
  | .eventAck _ h _ => h.wf
  | .eventResend _ _ => true
  | .restart _ h _ => h.wf
  | .sessionPendingTimeout _ _ => true
  | .sessionIdleTimeout _ _ => true
  | .slotDisable _ _ _ => true
  | .imageWrite _ h _ _ _ => h.wf
  | .imageEnd _ h _ _ => h.wf
  | .imageVerifyDone _ img => img.wf
  | .imageAbort _ h => h.wf
  | .imageStatus _ h => h.wf
  | .imageRelay _ h _ _ _ => h.wf
  | .relayOffer _ _ rx => rx.wf
  | .relayWant _ _ rx => rx.wf
  | .relayData _ _ rx => rx.wf
  | .relayAck _ _ rx => rx.wf
  | .relayDone _ _ rx => rx.wf
  | .relayDecline _ _ rx => rx.wf
  | .relayTimeout _ _ _ => true
  | .trialConfirmWrite _ _ => true
  | .trialConfirmed _ => true
  | .trialReject _ _ => true
  | .trialWindowExpire _ => true
  | .hopperGo _ _ _ => true
  | .hopperStop _ _ _ => true
  | .descriptorFetched _ _ _ => true
  | .readBeatReturn _ _ _ _ => true
  | .writeBeatResponse _ _ _ _ => true
  | .descriptorWriteBack _ _ => true
  | .defaultTargetAccess _ _ _ _ => true
  | .crcStart _ _ _ => true
  | .crcFeed _ _ _ _ => true
  | .crcValueRestore _ _ _ _ => true
  | .railOutOfTolerance _ _ _ => true
  | .railRestored _ => true
  | .mainRailCollapse _ _ => true
  | .keepRailCollapse _ => true
  | .tempSensorsSample _ _ => true
  | .uartTxWrite _ _ _ => true
  | .uartRxRead _ _ => true
  | .uartByteReceived _ _ => true
  | .prbsCheckerLock _ _ _ _ => true
  | .prbsCheckerReseed _ _ _ _ => true
  | .remoteFaultReceived _ _ => true
  | .remoteFaultEnded _ _ => true
  | .hemLayerDrop _ => true
  | .xoInReturn _ => true
  | .freqInReturn _ _ => true
  | .channelLockAcquired _ _ _ _ _ _ => true
  | .vatCorrectedError _ _ => true
  | .vatUncorrectableError _ => true
  | .mashParityFault _ _ => true
  | .controlCoreWatchdog _ => true
  | .crossingFifoOverflow _ => true
  | .ownerSlotProgram _ _ _ => true
  | .ownerSlotRevoke _ _ => true

end Sys2Proof
end

