-- ==== Sys2Proof/Tests/Slice0.lean ====
section
/-! SUPPORT. Tests: ill-formed commands are refused by the checks of WellFormed; a few values that the spec states; and for each
statement with hypotheses a state and operands that meet them. -/

set_option autoImplicit false
set_option linter.unusedVariables false

namespace Sys2Proof.Machine

set_option Elab.async false

/-- A state with some register fields. -/
def st (l : List (Field × Nat × Nat)) : State := l.foldl (fun s p => s.wr p.1 p.2.1 p.2.2) {}

/-- The same, after some time. -/
def stUp (t : Nat) (l : List (Field × Nat × Nat)) : State := { st l with up := t }

/-- A header with a type, a slot and a sequence number, and no flag set. -/
def whdr (type slot seq : Nat) : Hdr :=
  { type := type, slot := slot, epoch := 0, holder := false, seq := seq, line := 0, offset := 0, sof := false, eol := false,
    eof := false, field := false, nosig := false, cont := false, res25 := false, valid := 0, fmt := 0, res := 0 }

/-- The cell of a header and a payload. -/
abbrev wcell (h : Hdr) (p : List Byte) : List Byte := cellOf h p

/-- The cell of a header and a payload with a wrong CRC. -/
abbrev wbad (h : Hdr) (p : List Byte) : List Byte := cellBody h p ++ beBytes 4 (cellCrc h.slot h.seq (cellBody h p) + 1)

/-- A mantle message: code, epoch, number, time and data. -/
abbrev wdat (code epoch num : Nat) (data : List Byte) : List Byte :=
  beBytes 1 code ++ beBytes 1 epoch ++ beBytes 4 num ++ beBytes 12 0 ++ data

/-- The header of a side cell that carries a whole message, number 0 of its stream. -/
abbrev wsideH (d : List Byte) : Hdr := { whdr 4 2047 0 with valid := 8 + d.length }

/-- The side cell of channel 2 that carries a whole message. -/
abbrev wside (d : List Byte) : List Byte :=
  wcell (wsideH d) (beBytes 1 2 ++ beBytes 1 3 ++ beBytes 4 0 ++ beBytes 2 d.length ++ d)

/-- Register fields of a part in SERVICE whose port CTL_0 is up, with slot 3 enabled for every right. -/
def whcp (l : List (Field × Nat × Nat)) : State :=
  { st ([(Fld.CTRL_DEV_STATE_MODE, 0, 1), (Fld.ETH_PORT_CTL_EN, 16, 1), (Fld.ETH_PORT_STAT_LINK_UP, 16, 1),
      (Fld.ETH_PORT_CTL_MAX_FRAME, 16, 1518), (Fld.HCP_SLOT_STAT_LOADED, 3, 1), (Fld.HCP_SLOT_STAT_EN, 3, 1),
      (Fld.HCP_SLOT_STAT_RIGHTS, 3, 31)] ++ l) with
    hcp := { sess := [(2, { active := true, slot := 3, id := 7, high := 4 })] } }

/-- A request of session 7 of slot 3, on CTL_0. -/
def wreq : HcpReq :=
  { ctl1 := false, src := 9, slot := 3, session := 7, seq := 5, reqId := 77, fmtOk := true, bodyLen := 16, tagOk := true,
    resp := false, badOp := false, short := false }

/-- The side cell of channel 1 that carries a whole relay message, number 0 of its stream. -/
abbrev wrel (d : List Byte) : List Byte :=
  wcell (wsideH d) (beBytes 1 1 ++ beBytes 1 3 ++ beBytes 4 0 ++ beBytes 2 d.length ++ d)

/-- A relay message: code, hops, identifier, offset and what follows. -/
abbrev wrdat (code hops id off : Nat) (rest : List Byte) : List Byte :=
  beBytes 1 code ++ beBytes 1 hops ++ beBytes 16 id ++ beBytes 4 off ++ rest

/-- A key record that names the device, with 16 good entries. -/
def wkey : KeyRec := { mine := true, eph := 5, slots := Vector.replicate 16 ⟨3, true, true, 7, true⟩ }

/-- An image of owner key 77 that passes every check on a part that knows the key: its configuration lays out Cask. -/
def wimg : ImgIn :=
  { readable := true, magic := 0x5054524E, format := 1, hdrLen := 4096, hdr := { len := 0x4000 }, ownerKey := 77,
    ownerSig := ⟨0x3FA0, 0, 0x3F9F, true⟩, comps := [⟨1, 0, 0x3000, 0x200, [], ⟨0x31A0, 0x3000, 0x319F, true⟩⟩],
    cfgOff := 4096, cfgLen := 16, keyOff := 0x2000,
    recs := [⟨.named .CASK_REGION 5 false, [128]⟩, ⟨.named .CASK_REGION 6 false, [0x800000]⟩], keys := [wkey],
    ip := Vector.replicate 18 5 }

/-- An ancillary packet of one user data word on raster line 20. -/
abbrev wpkt (did : Nat) : List Byte := ({ c := false, line := 20, hoff := 0, did := did, sdid := 1, udw := [5] } : AncPkt).bytes

/-- An ancillary cell of slot 9 that carries that packet. -/
abbrev wanc (did : Nat) : List Byte := wcell { whdr 2 9 0 with valid := 4 + (wpkt did).length } (ancHead false false 1 ++ wpkt did)

/-- A table that lists every key below a bound. -/
theorem tget_range {α : Type} (d v : α) (n k : Nat) (h : k < n) : tget d ((List.range n).map fun g => (g, v)) k = v := by
  have : ∀ l : List Nat, k ∈ l → tget d (l.map fun g => (g, v)) k = v := by
    intro l
    induction l with
    | nil => simp
    | cons a l ih =>
      intro m
      by_cases e : a = k
      · simp [tget, e]
      · simp only [List.map_cons, tget, e, if_false]
        exact ih (by simpa [Ne.symm e] using m)
  exact this _ (by simpa using h)

/-- Every surface handle is in use. -/
theorem noHandle (s : State) (h : s.cask.surf = (List.range 4096).map fun g => (g, { state := 1 })) : s.freeHandle = none := by
  simp only [State.freeHandle, List.find?_eq_none, List.mem_range, State.surfOf, h]
  intro k hk
  rw [tget_range _ _ _ _ hk]
  decide

/-! Ill-formed commands. -/

theorem test_short_cell_is_ill_formed : (Instr.idleCell 0 3 (.bytes [1, 2])).wf = false := by decide

theorem test_seven_chunks_are_ill_formed : (Instr.idleCell 0 3 (.line (List.replicate 7 []))).wf = false := by decide

theorem test_short_control_word_is_ill_formed : (Instr.fill 0 3 2 (.bytes [1])).wf = false := by decide

theorem test_missing_instance_is_ill_formed :
    (Instr.rcCounterRead 0 (.core 0) (.named .WARP_DST_ROUTE 1152 false)).wf = false := by decide

theorem test_upper_word_of_narrow_register_is_ill_formed :
    (Instr.rcCounterRead 0 (.core 0) (.named .WARP_DST_ROUTE 5 true)).wf = false := by decide

theorem test_long_body_is_ill_formed : (Instr.hcpNop 0 { wreq with bodyLen := 65536 }).wf = false := by decide

theorem test_item_without_register_is_ill_formed :
    (Instr.hcpWrite 0 wreq [⟨.named .STCH_HEAD_CFG 16 false, 0, 0⟩]).wf = false := by decide

theorem test_long_entry_is_ill_formed :
    (Instr.stage 0 wreq 4 [⟨.dst, 65536, [wordOf .WARP_DST_ROUTE 5 false 0 0]⟩]).wf = false := by decide

theorem test_empty_config_record_is_ill_formed :
    (Instr.imageVerifyDone 0 { wimg with recs := [⟨.named .HCP_CFG 0 false, []⟩] }).wf = false := by decide +kernel

theorem test_image_without_keys_is_ill_formed :
    (Instr.imageVerifyDone 0 { wimg with keys := [] }).wf = false := by decide +kernel

theorem test_good_image_is_well_formed : (Instr.imageVerifyDone 0 wimg).wf = true := by decide +kernel

theorem test_good_command_is_well_formed : (Instr.hcpWrite 0 wreq [wordOf .HCP_CFG 0 false 60 1023]).wf = true := by decide

/-! The opcode table gives its rows no bits. -/

theorem test_no_word_spells_a_command : decodeTableWord 32 0xFFFFFFFF = none := by decide

theorem test_step_takes_the_front :
    ∃ t, step { pending := [.oscGlitch 5, .enterService 3] } = .next t ∧ t.pending = [.enterService 3] ∧ t.up = 5 :=
  ⟨_, rfl, by decide, by decide⟩

/-! Values that the spec states. -/

/-- 00_scope R21: byte 0 is the most significant. -/
theorem test_big_endian : beBytes 4 0x01020304 = [1, 2, 3, 4] := by decide

/-- 10_kiln_timebase R467, R469: a target that the count has reached, and one 2^63 ahead of it. -/
theorem test_reached : reached 5 5 = true ∧ reached 5 6 = false ∧ reached 0 (2 ^ 64 - 1) = true := by decide

/-- 15_hcp_control R710: BODY_MAX at a MAX_FRAME of 1518 and of 9600. -/
theorem test_body_max : (whcp []).bodyMax false = 1428 ∧ ((whcp []).wr Fld.ETH_PORT_CTL_MAX_FRAME 16 9600).bodyMax false = 8192 := by
  decide +kernel

/-- 00_scope R16 and 18_address_map: a 16-bit counter that saturates stays at its end. -/
theorem test_saturating : satTo 65535 65536 = 65535 ∧ satTo 65535 65535 = 65535 ∧ satTo 65535 7 = 7 := by decide

/-! Witnesses. -/

theorem witness_NoWritableField :
    ∃ (s : State) (dt : Nat) (h : HcpReq) (k : Nat) (r : Reg) (i : Nat) (hi : Bool) (v mask : Nat), s.runs ∧ (s.start dt).asks
      h none true k ∧ (RegAddr.named r i hi).loc = some (.reg r i hi) ∧ s.rejected (.reg r i hi) = false ∧ (r.fields.all fun f
      => f.acc == .ro || f.acc == .rc) = true :=
  ⟨whcp [], 0, wreq, 2, .ETH_PORT_STAT, 5, false, 1, 1, rfl, by decide +kernel⟩

theorem witness_SessionCounter :
    (∃ (s : State) (dt : Nat) (h : HcpReq) (k : Nat), s.runs ∧ h.session = 0 ∧ (s.start dt).gets h ∧ s.slotOn h.slot = true ∧
      h.tagOk = true ∧ 0 < h.seq.toNat ∧ h.seq.toNat < 2 ^ 63 ∧ h.seq.toNat ∉ tget [] s.hcp.opens h.slot.val ∧ h.badOp = false
      ∧ h.short = false ∧ h.resp = false ∧ s.freeSess h.slot = some k ∧ s.rd Fld.HCP_SLOT_OPENS_COUNT h.slot < 2 ^ 32 - 1) ∧
    (∃ (s : State) (dt : Nat) (h : HcpReq), s.runs ∧ h.session = 0 ∧ (s.start dt).gets h ∧ s.slotOn h.slot = true ∧ h.tagOk =
      true ∧ 0 < h.seq.toNat ∧ h.seq.toNat < 2 ^ 63 ∧ h.seq.toNat ∉ tget [] s.hcp.opens h.slot.val ∧ h.badOp = false ∧ h.short
      = false ∧ h.resp = false ∧ s.rd Fld.HCP_SLOT_OPENS_COUNT h.slot = 2 ^ 32 - 1) :=
  ⟨⟨whcp [(Fld.HCP_SLOT_OPENS_COUNT, 3, 40)], 0, { wreq with session := 0 }, 0, rfl, by decide +kernel⟩,
   ⟨whcp [(Fld.HCP_SLOT_OPENS_COUNT, 3, 2 ^ 32 - 1)], 0, { wreq with session := 0 }, rfl, by decide +kernel⟩⟩

theorem witness_LaneTraining :
    (∃ (s : State) (dt : Nat) (b : Fin 33), s.runs ∧ s.link b = 1 ∧ (s.bndOf b).rateHold = false) ∧
    (∃ (s : State) (dt : Nat) (b : Fin 33), s.runs ∧ s.link b = 2) ∧
    (∃ (s : State) (dt : Nat) (b : Fin 33), s.runs ∧ s.link b = 3 ∧ (s.bndOf b).posAt + us 11 ≤ s.up + dt ∧ (s.bndOf b).found
      = [] ∧ (∀ l : Fin 8, s.on Fld.IZL_LANE_STAT_SEEN (laneIx b l) = true ∧ s.on Fld.IZL_LANE_STAT_FAILED (laneIx b l) =
      false)) ∧
    (∃ (s : State) (dt : Nat) (b : Fin 33) (l : Fin 8), s.runs ∧ s.link b = 3 ∧ (s.bndOf b).posAt + us 11 ≤ s.up + dt ∧
      (s.bndOf b).pos < 63 ∧ (s.bndOf b).found = [] ∧ s.on Fld.IZL_LANE_STAT_SEEN (laneIx b l) = false) ∧
    (∃ (s : State) (dt : Nat) (b : Fin 33) (arrival : Vector Nat 8) (last : Nat), s.runs ∧ s.link b = 4 ∧ (s.bndOf b).deskewed
      = false ∧ (s.bndOf b).posAt + 2 * markerPeriod ≤ s.up + dt ∧ (∀ l : Fin 8, s.laneOk b l = true) ∧ (∀ l : Fin 8,
      arrival.toList.getD l 0 ≤ last ∧ last ≤ arrival.toList.getD l 0 + 15) ∧ (∃ l : Fin 8, arrival.toList.getD l 0 = last)) ∧
    (∃ (s : State) (dt : Nat) (b : Fin 33), s.runs ∧ s.link b = 4 ∧ (s.bndOf b).deskewed = true ∧ (s.bndOf b).posAt + 4 *
      markerPeriod ≤ s.up + dt ∧ (∀ l : Fin 8, s.laneOk b l = true ∧ 4 ≤ ((s.bndOf b).rxLane l).hits)) ∧
    (∃ (s : State) (dt : Nat) (b : Fin 33), s.runs ∧ s.link b = 7 ∧ s.on Fld.IZL_LINK_CTL_AUTO_RETRAIN b = true ∧ s.on
      Fld.IZL_LINK_CTL_ENABLE b = true ∧ (s.bndOf b).clkOk = true ∧ (s.bndOf b).retryAt ≤ s.up + dt) :=
  ⟨⟨st [(Fld.IZL_LINK_STAT_STATE, 3, 1)], 0, 3, rfl, by decide +kernel⟩,
   ⟨st [(Fld.IZL_LINK_STAT_STATE, 32, 2), (Fld.IZL_LANE_STAT_SEEN, 257, 1)], 0, 32, rfl, by decide +kernel⟩,
   ⟨stUp (us 11) ((Fld.IZL_LINK_STAT_STATE, 0, 3) :: (List.range 8).map fun l => (Fld.IZL_LANE_STAT_SEEN, l, 1)), 0, 0, rfl,
    by decide +kernel, by decide +kernel, by decide +kernel, by decide +kernel⟩,
   ⟨stUp (us 11) [(Fld.IZL_LINK_STAT_STATE, 0, 3), (Fld.IZL_LANE_STAT_SLIP, 2, 63)], 0, 0, 2, rfl, by decide +kernel⟩,
   ⟨stUp (us 20) [(Fld.IZL_LINK_STAT_STATE, 5, 4), (Fld.IZL_LINK_STAT_LANES_OK, 5, 255)], 0, 5, Vector.replicate 8 15, 15, rfl,
    by decide +kernel⟩,
   ⟨(stUp (us 40) [(Fld.IZL_LINK_STAT_STATE, 5, 4), (Fld.IZL_LINK_STAT_LANES_OK, 5, 255)]).putBnd 5
    { deskewed := true, rx := (List.range 8).map fun l => (l, { hits := 4 }) }, 0, 5, rfl, by decide +kernel, by decide +kernel, by decide +kernel, by decide +kernel⟩,
   ⟨(st [(Fld.IZL_LINK_STAT_STATE, 5, 7), (Fld.IZL_LINK_CTL_AUTO_RETRAIN, 5, 1), (Fld.IZL_LINK_CTL_ENABLE, 5, 1)]).putBnd 5
    { clkOk := true }, 0, 5, rfl, by decide +kernel⟩⟩

theorem witness_LaneMarkers :
    (∃ (s : State) (dt : Nat) (b : Fin 33), s.runs ∧ s.txRuns b = true ∧ s.on Fld.IZL_LINK_STAT_TX_7LANE b = false ∧ (s.txOf
      b).seven = none) ∧
    (∃ (s : State) (dt : Nat) (b : Fin 33) (l : Fin 8), s.runs ∧ s.txRuns b = true ∧ s.on Fld.IZL_LINK_STAT_TX_7LANE b = false
      ∧ (s.txOf b).seven = some l.val) ∧
    (∃ (s : State) (dt : Nat) (b : Fin 33) (l : Fin 8) (skipped : Nat) (rx : RxWord) (w : List Byte), s.runs ∧ (s.wordIn b l 0
      rx).1 = some w ∧ beAt w 4 1 = b.val ∧ beAt w 5 1 % 16 = l.val ∧ s.link b = 3 ∧ (((s.wordIn b l 0 rx).2.bndOf b).rxLane
      l).viol < 64) ∧
    (∃ (s : State) (dt : Nat) (b : Fin 33) (l : Fin 8) (skipped : Nat) (rx : RxWord) (w : List Byte) (x : LaneRx), s.runs ∧
      (s.wordIn b l 0 rx).1 = some w ∧ beAt w 4 1 = b.val ∧ beAt w 5 1 % 16 = l.val ∧ ((s.wordIn b l 0 rx).2.bndOf b).rxLane l
      = x ∧ x.viol < 64 ∧ s.linkUp b = true ∧ s.laneOk b l = true ∧ beAt w 7 1 < 128 ∧ x.got + 8 * skipped = periodBytes ∧
      x.next.all (fun n => n == beAt w 7 1 % 16) = true) ∧
    (∃ (s : State) (dt : Nat) (b : Fin 33) (l : Fin 8) (x : LaneRx), s.runs ∧ (s.bndOf b).rxLane l = x ∧ x.discard = false ∧
      x.awake = false ∧ x.viol < 64 ∧ x.miss < 2 ∧ s.linkUp b = true ∧ s.laneOk b l = true ∧ (s.bndOf b).glitch = none) ∧
    (∃ (s : State) (dt : Nat) (b : Fin 33) (l : Fin 8) (late : Bool), s.runs ∧ s.link b ≠ 0 ∧ s.on Fld.IZL_LANE_STAT_FAILED
      (laneIx b l) = false ∧ (s.bndOf b).clkFaultAt = none) ∧
    (∃ (s : State) (dt : Nat) (b : Fin 33) (l : Fin 8) (rx : RxWord) (w : List Byte), s.runs ∧ (s.wordIn b l 3 rx).1 = some w
      ∧ beAt w 4 1 = b.val ∧ beAt w 5 1 % 16 = l.val) ∧
    (∃ (s : State) (dt : Nat) (b : Fin 33) (l : Fin 8) (rx : RxWord) (w : List Byte), s.runs ∧ (s.wordIn b l 3 rx).1 = some w
      ∧ (beAt w 4 1 ≠ b.val ∨ beAt w 5 1 % 16 ≠ l.val)) :=
  ⟨⟨(st [(Fld.IZL_LINK_CTL_ENABLE, 0, 1)]).putTxb 0 { cells := 2048 }, 0, 0, rfl, by decide +kernel⟩,
   ⟨(st [(Fld.IZL_LINK_CTL_ENABLE, 0, 1)]).putTxb 0 { cells := 2048, seven := some 3 }, 0, 0, 3, rfl, by decide +kernel⟩,
   ⟨st [(Fld.IZL_LINK_STAT_STATE, 0, 3)], 0, 0, 7, 0, .bytes (controlWord 0 0 7 255 0), controlWord 0 0 7 255 0, rfl, by decide +kernel⟩,
   ⟨(st [(Fld.IZL_LINK_STAT_STATE, 0, 5), (Fld.IZL_LINK_STAT_LANES_OK, 0, 255)]).putBnd 0
    { rx := [(7, { next := some 3, hits := 1, miss := 2 })] }, 0, 0, 7, 8704, .bytes (controlWord 0 0 7 255 3), controlWord 0
    0 7 255 3, (((st [(Fld.IZL_LINK_STAT_STATE, 0, 5)]).putBnd 0
    { rx := [(7, { next := some 3, hits := 1, miss := 2 })] }).wordIn 0 7 0 (.bytes (controlWord 0 0 7 255 3))).2.bndOf 0
    |>.rxLane 7, rfl, by decide +kernel⟩,
   ⟨st [(Fld.IZL_LINK_STAT_STATE, 0, 5), (Fld.IZL_LINK_STAT_LANES_OK, 0, 255)], 0, 0, 7, {}, rfl, by decide +kernel⟩,
   ⟨st [(Fld.IZL_LINK_STAT_STATE, 0, 5), (Fld.IZL_LINK_STAT_LANES_OK, 0, 255)], 0, 0, 7, true, rfl, by decide +kernel⟩,
   ⟨st [(Fld.IZL_LINK_STAT_STATE, 0, 5)], 0, 0, 7, .bytes (controlWord 0 3 7 0 0), controlWord 0 3 7 0 0, rfl, by decide +kernel⟩,
   ⟨st [(Fld.IZL_LINK_STAT_STATE, 0, 5)], 0, 0, 7, .bytes (controlWord 1 3 7 0 0), controlWord 1 3 7 0 0, rfl, by decide +kernel⟩⟩

theorem witness_LaneIdle :
    (∃ (s : State) (dt : Nat) (b : Fin 33) (l : Fin 8) (rx : RxWord) (w : List Byte), s.runs ∧ (s.wordIn b l 1 rx).1 = some w
      ∧ beAt w 4 1 = b.val ∧ beAt w 5 1 % 16 = l.val) ∧
    (∃ (s : State) (dt : Nat) (b : Fin 33) (l : Fin 8) (rx : RxWord) (w : List Byte), s.runs ∧ (s.wordIn b l 2 rx).1 = some w
      ∧ beAt w 4 1 = b.val ∧ beAt w 5 1 % 16 = l.val) ∧
    (∃ (s : State) (dt : Nat) (b : Fin 33), s.runs ∧ s.txRuns b = true ∧ (s.txOf b).lastTx.all (fun t => decide (t + us 1 ≤
      s.up + dt)) = true ∧ s.on Fld.IZL_LINK_CTL_IDLE_AUTO b = true ∧ s.rd Fld.IZL_LINK_CTL_IDLE_REQ b = 0) ∧
    (∃ (s : State) (dt : Nat) (b : Fin 33), s.runs ∧ s.rd Fld.IZL_LINK_STAT_TX_IDLE b ≠ 0 ∧ s.on Fld.IZL_LINK_CTL_ENABLE b =
      true) ∧
    (∃ (s : State) (dt : Nat) (b : Fin 33) (l : Fin 8), s.runs ∧ ((s.bndOf b).rxLane l).discard = true) ∧
    (∃ (s : State) (dt : Nat) (b : Fin 33), s.runs ∧ ((s.bndOf b).rx.any fun p => p.2.discard) = true ∧ s.link b ≠ 7 ∧ s.link
      b ≠ 0) :=
  ⟨⟨st [(Fld.IZL_LINK_STAT_STATE, 0, 5)], 0, 0, 7, .bytes (controlWord 0 1 7 0 0), controlWord 0 1 7 0 0, rfl, by decide +kernel⟩,
   ⟨st [(Fld.IZL_LINK_STAT_STATE, 32, 6)], 0, 32, 0, .bytes (controlWord 32 2 0 0 0), controlWord 32 2 0 0 0, rfl, by decide +kernel⟩,
   ⟨st [(Fld.IZL_LINK_CTL_ENABLE, 0, 1), (Fld.IZL_LINK_CTL_IDLE_AUTO, 0, 1)], 0, 0, rfl, by decide +kernel⟩,
   ⟨st [(Fld.IZL_LINK_CTL_ENABLE, 0, 1), (Fld.IZL_LINK_STAT_TX_IDLE, 0, 2)], 0, 0, rfl, by decide +kernel⟩,
   ⟨(st [(Fld.IZL_LINK_STAT_RX_IDLE, 4, 1)]).putBnd 4 { rx := [(2, { discard := true })] }, 0, 4, 2, rfl, by decide +kernel⟩,
   ⟨(st [(Fld.IZL_LINK_STAT_STATE, 4, 5)]).putBnd 4 { rx := [(2, { discard := true })] }, 0, 4, rfl, by decide +kernel⟩⟩

theorem witness_LaneClocks :
    (∃ (s : State) (dt : Nat) (b : Fin 33), s.runs ∧ s.link b ≠ 0 ∧ s.link b ≠ 7 ∧ s.rd Fld.IZL_LINK_STAT_RX_IDLE b ≠ 2 ∧
      s.looped b = false) ∧
    (∃ (s : State) (dt : Nat) (b : Fin 33), s.runs ∧ (s.rd Fld.IZL_LINK_STAT_RX_IDLE b = 2 ∨ s.looped b = true)) ∧
    (∃ (s : State) (dt : Nat) (b : Fin 33), s.runs ∧ s.link b ≠ 0 ∧ s.looped b = false) ∧
    (∃ (s : State) (dt : Nat) (b : Fin 33), s.runs ∧ s.link b ≠ 0 ∧ s.link b ≠ 7 ∧ s.looped b = false) ∧
    (∃ (s : State) (dt : Nat) (b : Fin 33), s.runs) ∧
    (∃ (s : State) (dt : Nat) (b : Fin 33) (l : Fin 8) (rx : List Bool) (p : Bool × Nat × PrbsS), s.runs ∧ s.rd
      Fld.IZL_LINK_CTL_MODE b = 4 ∧ s.on Fld.IZL_LINK_CTL_ENABLE b = true ∧ ((s.bndOf b).rxLane l).prbs.bits (s.rd
      Fld.IZL_PRBS_CTL_POLY b) (bitOf (s.rd Fld.IZL_PRBS_CTL_CHK_LOCK b) l) (rx.map fun y => y ^^ s.on Fld.IZL_PRBS_CTL_INVERT
      b) = p) ∧
    (∃ (s : State) (dt : Nat) (b : Fin 33) (l : Fin 8) (rx : List Bool) (p : Bool × Nat × PrbsS), s.runs ∧ s.rd
      Fld.IZL_LINK_CTL_MODE b = 4 ∧ s.on Fld.IZL_LINK_CTL_ENABLE b = true ∧ ((s.bndOf b).rxLane l).prbs.bits (s.rd
      Fld.IZL_PRBS_CTL_POLY b) (bitOf (s.rd Fld.IZL_PRBS_CTL_CHK_LOCK b) l) (rx.map fun y => y ^^ s.on Fld.IZL_PRBS_CTL_INVERT
      b) = p) :=
  ⟨⟨st [(Fld.IZL_LINK_STAT_STATE, 4, 5)], 0, 4, rfl, by decide +kernel⟩,
   ⟨st [(Fld.IZL_LINK_STAT_STATE, 4, 5), (Fld.IZL_LINK_STAT_RX_IDLE, 4, 2)], 0, 4, rfl, by decide +kernel⟩,
   ⟨st [(Fld.IZL_LINK_STAT_STATE, 4, 5)], 0, 4, rfl, by decide +kernel⟩,
   ⟨st [(Fld.IZL_LINK_STAT_STATE, 4, 5)], 0, 4, rfl, by decide +kernel⟩,
   ⟨{}, 0, 4, rfl⟩,
   ⟨st [(Fld.IZL_LINK_CTL_MODE, 4, 4), (Fld.IZL_LINK_CTL_ENABLE, 4, 1)], 0, 4, 7, (prbsBits 0 1 71).1, ({} : PrbsS).bits 0 false
    (prbsBits 0 1 71).1, rfl, by decide +kernel⟩,
   ⟨st [(Fld.IZL_LINK_CTL_MODE, 4, 4), (Fld.IZL_LINK_CTL_ENABLE, 4, 1), (Fld.IZL_PRBS_CTL_CHK_LOCK, 4, 128)], 0, 4, 7,
    List.replicate 80 true, ({} : PrbsS).bits 0 true (List.replicate 80 true), rfl, by decide +kernel⟩⟩

theorem witness_CellReception :
    (∃ (s : State) (dt : Nat) (b : Fin 33) (rx : RxCell) (cell : List Byte) (h : Hdr), s.runs ∧ s.arrives b rx cell h ∧
      cellCrc h.slot 0 (cell.take 268) = beAt cell 268 4 ∧ h.type = 0) ∧
    (∃ (s : State) (dt : Nat) (b : Fin 33) (rx : RxCell) (cell : List Byte) (h : Hdr), s.runs ∧ s.arrives b rx cell h ∧
      cellCrc h.slot (s.expects b h) (cell.take 268) ≠ beAt cell 268 4 ∧ cellCrc h.slot h.seq (cell.take 268) ≠ beAt cell 268
      4 ∧ h.type ≠ 0) ∧
    (∃ (s : State) (dt : Nat) (b : Fin 33) (rx : RxCell) (cell : List Byte) (h : Hdr), s.runs ∧ s.arrives b rx cell h ∧
      cellCrc h.slot (s.expects b h) (cell.take 268) ≠ beAt cell 268 4 ∧ cellCrc h.slot h.seq (cell.take 268) = beAt cell 268
      4 ∧ h.type ≠ 0) ∧
    (∃ (s : State) (dt : Nat) (b : Fin 33) (rx : RxCell) (cell : List Byte) (h : Hdr), s.runs ∧ s.takes b rx cell h ∧ h.type =
      1 ∧ ((s.srcLane h.slot).any fun p => s.carries b p.2) = true) ∧
    (∃ (s : State) (dt : Nat) (b : Fin 33) (rx : RxCell) (cell : List Byte) (h : Hdr), s.runs ∧ s.takes b rx cell h ∧ h.type =
      1 ∧ ((s.srcLane h.slot).any fun p => s.carries b p.2) = true) ∧
    (∃ (s : State) (dt : Nat) (b : Fin 33) (rx : RxCell) (cell : List Byte) (h : Hdr) (v : Frame), s.runs ∧ s.takes b rx cell
      h ∧ h.type = 1 ∧ h.nosig = false ∧ h.sof = false ∧ h.eof = false ∧ ((s.srcLane h.slot).any fun p => s.carries b p.2) =
      true ∧ s.on Fld.CELL_SRC_STAT_LOST h.slot = false ∧ (s.srcOf h.slot).vat = [v] ∧ v.fmt = h.fmt ∧ v.done = false ∧
      (cell.drop 12).take h.valid ≠ []) ∧
    (∃ (s : State) (dt : Nat) (b : Fin 33) (rx : RxCell) (cell p : List Byte) (h : Hdr), s.runs ∧ s.takes b rx cell h ∧ h.type
      = 3 ∧ h.slot = linkSlot ∧ payloadOf cell = p ∧ beAt p 0 1 = 3) ∧
    (∃ (s : State) (dt : Nat) (b : Fin 33) (rx : RxCell) (cell p : List Byte) (h : Hdr), s.runs ∧ s.takes b rx cell h ∧ h.type
      = 3 ∧ h.slot ≠ linkSlot ∧ payloadOf cell = p ∧ beAt p 0 1 = 4 ∧ ((s.srcLane h.slot).any fun p => s.carries b p.2) = true
      ∧ s.on Fld.KILN_STAT_TIME_VALID 0 = true) ∧
    (∃ (s : State) (dt : Nat) (b : Fin 33) (rx : RxCell) (cell d : List Byte) (h : Hdr), s.runs ∧ s.takes b rx cell h ∧
      wholeSide cell h 0 d) :=
  ⟨⟨st [(Fld.IZL_LINK_STAT_STATE, 1, 5)], 0, 1, .bytes (wcell (whdr 0 2047 0) []), wcell (whdr 0 2047 0) [], whdr 0 2047 0, rfl,
    State.arrives_bytes _ _ _ _ (by decide +kernel), cellOf_crc _ _ _ _ rfl rfl, by decide +kernel⟩,
   ⟨(st [(Fld.IZL_LINK_STAT_STATE, 1, 5)]).onCell fun z => { z with rx := [((2048 + 2047) * 16 + 4, 1)] }, 0, 1, .bytes (wbad
    (whdr 4 2047 0) []), wbad (whdr 4 2047 0) [], whdr 4 2047 0, rfl, State.arrives_bytes _ _ _ _ (by decide +kernel), badCell_crc _ _ _
    _ rfl (by decide +kernel), badCell_crc _ _ _ _ rfl (by decide +kernel), by decide +kernel⟩,
   ⟨(st [(Fld.IZL_LINK_STAT_STATE, 1, 5)]).onCell fun z => { z with rx := [((2048 + 2047) * 16 + 4, 1)] }, 0, 1, .bytes (wcell
    (whdr 4 2047 7) []), wcell (whdr 4 2047 7) [], whdr 4 2047 7, rfl, State.arrives_bytes _ _ _ _ (by decide +kernel), cellOf_crc_ne _ _
    _ _ (by decide +kernel), cellOf_crc _ _ _ _ rfl rfl, by decide +kernel⟩,
   ⟨st [(Fld.IZL_LINK_STAT_STATE, 1, 5), (Fld.IZL_LINK_CTL_STUFF_N, 1, 40), (Fld.CELL_SRC_BIND_EN, 9, 1), (Fld.CELL_SRC_BIND_RAW,
    9, 258)], 0, 1, .bytes (wcell { whdr 1 9 0 with fmt := 12 } [1, 2]), wcell { whdr 1 9 0 with fmt := 12 } [1, 2],
    { whdr 1 9 0 with fmt := 12 }, rfl, State.takes_cellOf _ _ _ _ (by decide +kernel), by decide +kernel⟩,
   ⟨st [(Fld.IZL_LINK_STAT_STATE, 1, 5), (Fld.IZL_LINK_CTL_STUFF_N, 1, 40), (Fld.CELL_SRC_BIND_EN, 9, 1), (Fld.CELL_SRC_BIND_RAW,
    9, 258)], 0, 1, .bytes (wcell { whdr 1 9 0 with fmt := 12 } [1, 2]), wcell { whdr 1 9 0 with fmt := 12 } [1, 2],
    { whdr 1 9 0 with fmt := 12 }, rfl, State.takes_cellOf _ _ _ _ (by decide +kernel), by decide +kernel⟩,
   ⟨(st [(Fld.IZL_LINK_STAT_STATE, 1, 5), (Fld.IZL_LINK_CTL_STUFF_N, 1, 40), (Fld.CELL_SRC_STAT_LOST, 9, 0),
    (Fld.CELL_SRC_BIND_EN, 9, 1), (Fld.CELL_SRC_BIND_RAW, 9, 258)]).putSrc 9 { vat := [{ fmt := 12 }] }, 0, 1, .bytes (wcell
    { whdr 1 9 0 with fmt := 12, valid := 2 } [1, 2]), wcell { whdr 1 9 0 with fmt := 12, valid := 2 } [1, 2],
    { whdr 1 9 0 with fmt := 12, valid := 2 }, { fmt := 12 }, rfl, State.takes_cellOf _ _ _ _ (by decide +kernel), by decide +kernel⟩,
   ⟨{ st [(Fld.IZL_LINK_STAT_STATE, 1, 5)] with now := 77 }, 0, 1, .bytes (wcell { whdr 3 2047 0 with valid := 1 } [3]), wcell
    { whdr 3 2047 0 with valid := 1 } [3], payloadOf (wcell { whdr 3 2047 0 with valid := 1 } [3]),
    { whdr 3 2047 0 with valid := 1 }, rfl, State.takes_cellOf _ _ _ _ (by decide +kernel), by decide +kernel⟩,
   ⟨st [(Fld.IZL_LINK_STAT_STATE, 1, 5), (Fld.KILN_STAT_TIME_VALID, 0, 1), (Fld.CELL_SRC_BIND_EN, 9, 1), (Fld.CELL_SRC_BIND_RAW,
    9, 258)], 0, 1, .bytes (wcell { whdr 3 9 0 with valid := 10 } [4, 0, 0, 1, 0, 0, 0, 0, 0, 5]), wcell
    { whdr 3 9 0 with valid := 10 } [4, 0, 0, 1, 0, 0, 0, 0, 0, 5], payloadOf (wcell { whdr 3 9 0 with valid := 10 } [4, 0, 0,
    1, 0, 0, 0, 0, 0, 5]), { whdr 3 9 0 with valid := 10 }, rfl, State.takes_cellOf _ _ _ _ (by decide +kernel), by decide +kernel⟩,
   ⟨st [(Fld.IZL_LINK_STAT_STATE, 1, 5)], 0, 1, .bytes (wcell { whdr 4 2047 0 with valid := 9 } [0, 3, 0, 0, 0, 0, 0, 1, 42]),
    wcell { whdr 4 2047 0 with valid := 9 } [0, 3, 0, 0, 0, 0, 0, 1, 42], [42], { whdr 4 2047 0 with valid := 9 }, rfl,
    State.takes_cellOf _ _ _ _ (by decide +kernel), by decide +kernel⟩⟩

theorem witness_CellLayer :
    (∃ (s : State) (dt : Nat) (k : Fin 1152), s.runs ∧ (s.srcLane k).isSome = true ∧ s.on Fld.CELL_SRC_STAT_LOST k = false ∧
      fmtOf (s.rd Fld.CELL_SRC_STAT_FMT k) = none ∧ (s.srcOf k).lastEss = none ∧ ms 50 ≤ s.up + dt) ∧
    (∃ (s : State) (dt : Nat) (k : Fin 1152) (f : Fmt) (last : Nat), s.runs ∧ (s.srcLane k).isSome = true ∧ s.on
      Fld.CELL_SRC_STAT_LOST k = false ∧ fmtOf (s.rd Fld.CELL_SRC_STAT_FMT k) = some f ∧ (s.srcOf k).lastEss = some last ∧
      f.period * 5 / 4 ≤ fine (s.up + dt - last)) ∧
    (∃ (s : State) (dt : Nat) (d : Fin 1152) (field : Bool) (line offset : BitVec 12), s.runs) ∧
    (∃ (s : State) (dt : Nat) (low : Bool), s.runs) ∧
    (∃ (s : State) (dt : Nat), s.runs) ∧
    (∃ (s : State) (dt : Nat) (b : Fin 33) (fam : Fin 5) (n : Nat), s.runs ∧ fine (s.start dt).now / famPeriod fam + 1 = n ∧
      s.linkUp b = true ∧ s.sendsCell b ∧ fine ((s.start dt).now + ms 1) ≤ n * famPeriod fam ∧ tget 0 s.cell.famSent (b * 8 +
      fam) ≠ n) ∧
    (∃ (s : State) (dt : Nat) (d : Fin 1152) (b p : Nat) (f : Fmt) (l : Nat), s.runs ∧ s.dstLane d = some (b, p) ∧ fmtOf (s.rd
      Fld.WARP_DST_CFG_FMT d) = some f ∧ launchAfter f (s.rd Fld.WARP_DST_TIMING_OFFSET d) (fine ((s.start dt).now + ms 1)) =
      l ∧ s.linkUp b = true ∧ s.txCarries b p = true ∧ s.on Fld.WARP_DST_CFG_EN d = true ∧ (s.dstOf d).lcell ≠ some l ∧
      s.sendsCell b) :=
  ⟨⟨stUp (ms 50) [(Fld.CELL_SRC_STAT_LOST, 9, 0), (Fld.CELL_SRC_BIND_EN, 9, 1), (Fld.CELL_SRC_BIND_RAW, 9, 258)], 0, 9, rfl,
    by decide +kernel⟩,
   ⟨(stUp (ms 50) [(Fld.CELL_SRC_STAT_LOST, 9, 0), (Fld.CELL_SRC_BIND_EN, 9, 1), (Fld.CELL_SRC_BIND_RAW, 9, 258),
    (Fld.CELL_SRC_STAT_FMT, 9, 11)]).putSrc 9 { lastEss := some (ms 25) }, 0, 9, fmt1080 0 1, ms 25, rfl, by decide +kernel⟩,
   ⟨{}, 0, 7, false, 5, 102, rfl⟩,
   ⟨{}, 0, true, rfl⟩,
   ⟨{}, 0, rfl⟩,
   ⟨st [(Fld.IZL_LINK_STAT_STATE, 1, 5), (Fld.IZL_LINK_CTL_ENABLE, 1, 1)], 0, 1, 2, 1, rfl, by decide +kernel⟩,
   ⟨st [(Fld.IZL_LINK_STAT_STATE, 1, 5), (Fld.IZL_LINK_CTL_ENABLE, 1, 1), (Fld.CELL_DST_BIND_EN, 9, 1), (Fld.CELL_DST_BIND_RAW,
    9, 258), (Fld.WARP_DST_CFG_EN, 9, 1), (Fld.WARP_DST_CFG_FMT, 9, 11)], 0, 9, 1, 2, fmt1080 0 1, 2 * (fmt1080 0 1).period -
    (fmt1080 0 1).period, rfl, by decide +kernel⟩⟩

theorem witness_SeamFrames :
    (∃ (s : State) (dt : Nat) (d : Fin 1152) (f : Fmt) (c : Change) (b : Nat), s.runs ∧ fmtOf (s.rd Fld.WARP_DST_CFG_FMT d) =
      some f ∧ s.unitStopped .dst d = false ∧ s.dst22 d = false ∧ (s.start dt).nextBound d f (fine (s.start dt).now) = b ∧ b ≤
      fine (s.start dt).now + 2 * f.line ∧ s.waiting .dst d = [c] ∧ c.src = none ∧ c.allOrNone = false ∧ s.due (b - 2 *
      f.line) b c = true ∧ s.changeDue d c = 2) ∧
    (∃ (s : State) (dt : Nat) (d : Fin 1152) (f : Fmt) (c : Change) (b : Nat), s.runs ∧ fmtOf (s.rd Fld.WARP_DST_CFG_FMT d) =
      some f ∧ s.unitStopped .dst d = false ∧ s.dst22 d = false ∧ (s.start dt).nextBound d f (fine (s.start dt).now) = b ∧ b ≤
      fine (s.start dt).now + 2 * f.line ∧ s.waiting .dst d = [c] ∧ c.src = none ∧ c.allOrNone = false ∧ s.due (b - 2 *
      f.line) b c = true ∧ s.changeDue d c = 0) ∧
    (∃ (s : State) (dt : Nat) (d : Fin 1152) (f : Fmt) (c : Change) (second : Bool) (b o r : Nat), s.runs ∧ fmtOf (s.rd
      Fld.WARP_DST_CFG_FMT d) = some f ∧ s.unitStopped .dst d = false ∧ s.dst22 d = false ∧ (s.boundOffsets d f)[b2n second]?
      = some o ∧ instantBefore f.period (fine (ns (s.rd Fld.WARP_DST_TIMING_OFFSET d)) + o) (fine (s.start dt).now) = some b ∧
      s.waiting .dst d = [c] ∧ c.src = none ∧ c.allOrNone = false ∧ s.due (b - 2 * f.line) b c = true ∧ c.verdict.getD
      (s.changeDue d c) = 0 ∧ c.items = [⟨.WARP_DST_ROUTE, d, r, 2047⟩] ∧ r < 2048) ∧
    (∃ (s : State) (dt : Nat) (buf : Fin 4) (d : Fin 1152) (b : SnapBuf), s.runs ∧ s.hcp.snaps = [(buf.val, b)] ∧ b.target = 0
      ∧ b.seam = true ∧ b.complete = false ∧ b.first ≤ d.val ∧ d.val < b.first + b.count ∧ reached (s.start dt).count b.ts =
      true ∧ (b.recs.any fun p => p.1 == d.val) = false ∧ s.on Fld.CELL_DST_BIND_EN d = false) ∧
    (∃ (s : State) (dt : Nat) (d : Fin 1152) (f : Fmt) (l : Nat), s.runs ∧ fmtOf (s.rd Fld.WARP_DST_CFG_FMT d) = some f ∧
      (s.start dt).launchNow d f = some l ∧ s.unitStopped .dst d = false ∧ s.dst22 d = false ∧ (s.dstOf d).launch ≠ some l ∧
      s.fenced .dst d = false ∧ s.rd Fld.WARP_DST_ROUTE_SRC d < 1168 ∧ s.rd Fld.WARP_DST_CFG_MODE d = 0) ∧
    (∃ (s : State) (dt : Nat) (d : Fin 1152) (f : Fmt) (l : Nat), s.runs ∧ fmtOf (s.rd Fld.WARP_DST_CFG_FMT d) = some f ∧
      (s.start dt).launchNow d f = some l ∧ s.unitStopped .dst d = false ∧ s.dst22 d = false ∧ (s.dstOf d).launch ≠ some l ∧
      s.fenced .dst d = false ∧ s.rd Fld.WARP_DST_ROUTE_SRC d < 1168 ∧ s.rd Fld.WARP_DST_CFG_MODE d = 1 ∧ s.lostCause d (s.rd
      Fld.WARP_DST_ROUTE_SRC d) ≠ 0 ∧ s.rd Fld.CASK_FS_CTL_FREEZE_MS d = 0) ∧
    (∃ (s : State) (dt : Nat) (d : Fin 1152) (f : Fmt) (l : Nat) (u : FrameRef), s.runs ∧ fmtOf (s.rd Fld.WARP_DST_CFG_FMT d)
      = some f ∧ (s.start dt).launchNow d f = some l ∧ s.unitStopped .dst d = false ∧ s.dst22 d = false ∧ (s.dstOf d).launch ≠
      some l ∧ s.fenced .dst d = false ∧ s.rd Fld.WARP_DST_ROUTE_SRC d < 1168 ∧ s.rd Fld.WARP_DST_CFG_MODE d = 1 ∧ s.lostCause
      d (s.rd Fld.WARP_DST_ROUTE_SRC d) = 0 ∧ (s.dstOf d).lost = false ∧ (s.dstOf d).used = some u ∧ (ringFrames (s.rd
      Fld.WARP_DST_ROUTE_SRC d) (s.rd Fld.WARP_DST_CFG_FMT d) (s.srcOf (s.rd Fld.WARP_DST_ROUTE_SRC d))).find? (fun x =>
      x.count == (u.count + 1) % 2 ^ 32) = none) ∧
    (∃ (s : State) (dt : Nat) (d : Fin 1152) (f : Fmt) (l t0 : Nat), s.runs ∧ fmtOf (s.rd Fld.WARP_DST_CFG_FMT d) = some f ∧
      (s.start dt).launchNow d f = some l ∧ (s.dstOf d).frozenAt = some t0 ∧ s.mode ≠ .hem ∧ s.on Fld.CASK_FS_STAT_FROZEN d =
      true ∧ t0 + fine (ms (s.rd Fld.CASK_FS_CTL_FREEZE_MS d)) ≤ l) ∧
    (∃ (s : State) (dt : Nat) (d : Fin 1152) (f : Fmt) (field : Bool) (line b p l : Nat) (c : LineOut), s.runs ∧ s.dstLane d =
      some (b, p) ∧ fmtOf (s.rd Fld.WARP_DST_CFG_FMT d) = some f ∧ (s.dstOf d).launch = some l ∧ s.unitStopped .dst d = false
      ∧ line < f.active ∧ (field = true → f.inter = true) ∧ s.mode ≠ .cellar ∧ s.linkUp b = true ∧ s.txCarries b p = true ∧
      s.fenced .bundle b = false ∧ (s.start dt).lineDue d l f field line = true ∧ s.sendsCell b ∧ (s.txOf b).cells + f.cells ≤
      periodCells (s.txLanes b).length ∧ (s.start dt).lineContent d f field line = c ∧ (s.start dt).lineAnc d f field line =
      [] ∧ (s.start dt).lastAnc d f field line = [] ∧ s.rd Fld.MASH_DST_AUDIO_COUNT d = 0) :=
  ⟨⟨{ st [(Fld.WARP_DST_CFG_FMT, 9, 11), (Fld.WARP_DST_CFG_EN, 9, 1), (Fld.CELL_SRC_STAT_FMT, 5, 12)] with now := 5 * (fmt1080 0 1).line / 189, staged := [⟨.WARP_DST_ROUTE, 9, 5, 2047, 3, 0, none⟩] },
    0, 9, fmt1080 0 1,
    { ord := 3, items := [⟨.WARP_DST_ROUTE, 9, 5, 2047⟩], src := none, at_ := 0, ta := none, allOrNone := false, late := false, verdict := none },
    6 * (fmt1080 0 1).line, rfl, by decide +kernel⟩,
   ⟨{ st [(Fld.WARP_DST_CFG_FMT, 9, 11), (Fld.WARP_DST_CFG_EN, 9, 1)] with now := 5 * (fmt1080 0 1).line / 189, staged := [⟨.WARP_DST_ROUTE, 9, 5, 2047, 3, 0, none⟩] },
    0, 9, fmt1080 0 1,
    { ord := 3, items := [⟨.WARP_DST_ROUTE, 9, 5, 2047⟩], src := none, at_ := 0, ta := none, allOrNone := false, late := false, verdict := none },
    6 * (fmt1080 0 1).line, rfl, by decide +kernel⟩,
   ⟨{ st [(Fld.WARP_DST_CFG_FMT, 9, 11), (Fld.WARP_DST_CFG_EN, 9, 1)] with now := us 190, staged := [⟨.WARP_DST_ROUTE, 9, 5, 2047, 3, 0, none⟩] },
    0, 9, fmt1080 0 1,
    { ord := 3, items := [⟨.WARP_DST_ROUTE, 9, 5, 2047⟩], src := none, at_ := 0, ta := none, allOrNone := false, late := false, verdict := none },
    false, 6 * (fmt1080 0 1).line, 6 * (fmt1080 0 1).line, 5, rfl, by decide +kernel⟩,
   ⟨({} : State).onHcp fun z =>
    { z with snaps := [(2, { owner := 0, target := 0, seam := true, inst := 0, first := 8, count := 2, ts := 0, late := false, complete := false, recs := [] })] },
    0, 2, 9,
    { owner := 0, target := 0, seam := true, inst := 0, first := 8, count := 2, ts := 0, late := false, complete := false, recs := [] },
    rfl, by decide +kernel⟩,
   ⟨{ st [(Fld.WARP_DST_CFG_FMT, 9, 11), (Fld.WARP_DST_CFG_EN, 9, 1), (Fld.WARP_DST_ROUTE_SRC, 9, 7)] with now := us 190 }, 0, 9,
    fmt1080 0 1, 0, rfl, by decide +kernel⟩,
   ⟨{ st [(Fld.WARP_DST_CFG_FMT, 9, 11), (Fld.WARP_DST_CFG_EN, 9, 1), (Fld.WARP_DST_CFG_MODE, 9, 1), (Fld.WARP_DST_ROUTE_SRC, 9, 7), (Fld.CASK_FS_CTL_FREEZE_MS, 9, 0)] with now := us 190 },
    0, 9, fmt1080 0 1, 0, rfl, by decide +kernel⟩,
   ⟨(({ st [(Fld.WARP_DST_CFG_FMT, 9, 11), (Fld.CELL_SRC_STAT_FMT, 7, 11), (Fld.CELL_SRC_STAT_LOST, 7, 0), (Fld.CASK_RING_EFF_DEPTH, 7, 3), (Fld.WARP_DST_CFG_LATENCY, 9, 2), (Fld.WARP_DST_CFG_EN, 9, 1), (Fld.WARP_DST_CFG_MODE, 9, 1), (Fld.WARP_DST_ROUTE_SRC, 9, 7)] with now := us 190 }
    : State).putDst 9 { used := some ⟨7, 1, 4, 0⟩ }), 0, 9, fmt1080 0 1, 0, ⟨7, 1, 4, 0⟩, rfl, by decide +kernel⟩,
   ⟨(({ st [(Fld.WARP_DST_CFG_FMT, 9, 11), (Fld.CASK_FS_STAT_FROZEN, 9, 1), (Fld.CASK_FS_CTL_FREEZE_MS, 9, 10)] with now := ms 200 }
    : State).putDst 9 { frozenAt := some 0 }), 0, 9, fmt1080 0 1, instantBefore (fmt1080 0 1).period 0 (fine (ms 200)) |>.getD
    0, 0, rfl, by decide +kernel⟩,
   ⟨({ st [(Fld.WARP_DST_CFG_FMT, 9, 11), (Fld.WARP_DST_CFG_EN, 9, 1), (Fld.CELL_DST_BIND_EN, 9, 1), (Fld.CELL_DST_BIND_RAW, 9, 258), (Fld.IZL_LINK_STAT_STATE, 1, 5), (Fld.IZL_LINK_CTL_ENABLE, 1, 1), (Fld.IZL_LINK_CTL_STUFF_N, 1, 40), (Fld.MASH_DST_AUDIO_COUNT, 9, 0)] with now := us 19 }
    : State).putDst 9 { launch := some 0 }, 0, 9, fmt1080 0 1, false, 1079, 1, 2, 0, .black, rfl, by decide +kernel⟩⟩

theorem witness_HeadFrames :
    (∃ (s : State) (dt : Nat) (h : Fin 16) (f : Fmt) (F : Nat), s.runs ∧ s.headFmt h = some f ∧ (s.start dt).headStartNow h f
      = some F ∧ s.unitStopped .head h = false ∧ s.fenced .head h = false ∧ s.on Fld.STCH_HEAD_STAT_TRANSITION h = false ∧
      (s.headOf h).frameAt ≠ some F ∧ (s.headOf h).startFrom = none ∧ (s.headOf h).stopping = false ∧ s.waiting .head h = []) ∧
    (∃ (s : State) (dt : Nat) (h : Fin 16) (f : Fmt) (F : Nat), s.runs ∧ s.headFmt h = some f ∧ (s.start dt).headStartNow h f
      = some F ∧ s.unitStopped .head h = false ∧ s.on Fld.STCH_HEAD_STAT_TRANSITION h = false ∧ (s.headOf h).frameAt ≠ some F
      ∧ (s.headOf h).startFrom = none ∧ (s.headOf h).stopping = true ∧ s.waiting .head h = []) ∧
    (∃ (s : State) (dt : Nat) (h : Fin 16) (f : Fmt) (F v mask ord at_ : Nat) (c : Change), s.runs ∧ s.headFmt h = some f ∧
      (s.start dt).headStartNow h f = some F ∧ s.unitStopped .head h = false ∧ s.fenced .head h = false ∧ s.on
      Fld.STCH_HEAD_STAT_TRANSITION h = false ∧ (s.headOf h).frameAt ≠ some F ∧ (s.headOf h).startFrom = none ∧ (s.headOf
      h).stopping = false ∧ s.staged = [⟨.STCH_HEAD_BG, h, v, mask, ord, at_, none⟩] ∧ s.waiting .head h = [c] ∧ fine at_ ≤ F
      - 16 * f.line) ∧
    (∃ (s : State) (dt : Nat) (h : Fin 16) (f : Fmt) (b : Nat) (n e : Nat) (c : Change), s.runs ∧ s.headFmt h = some f ∧
      s.unitStopped .head h = false ∧ s.fenced .head h = true ∧ (s.start dt).headStartAfter h f (fine (s.start dt).now) = b ∧
      b ≤ fine (s.start dt).now + 16 * f.line ∧ s.waiting .head h = [c] ∧ c.src = some (n, e) ∧ c.allOrNone = false ∧ s.due (b
      - 16 * f.line) b c = true) ∧
    (∃ (s : State) (dt : Nat) (h : Fin 16) (f : Fmt) (F v mask ord at_ : Nat), s.runs ∧ s.headFmt h = some f ∧ (s.headOf
      h).frameAt = some F ∧ s.on Fld.STCH_HEAD_STAT_TRANSITION h = true ∧ (s.headOf h).waiting = false ∧ F + f.period ≤ fine
      (s.start dt).now ∧ s.staged = [⟨.STCH_HEAD_TIMING, h, v, mask, ord, at_, none⟩]) ∧
    (∃ (s : State) (dt : Nat) (h : Fin 16) (f : Fmt) (v : Frame) (rest : List Frame), s.runs ∧ s.headFmt h = some f ∧ (s.srcOf
      (1152 + h)).vat = v :: rest ∧ s.emitting h = true ∧ v.done = false ∧ s.rd Fld.STCH_HEAD_CFG_SAFETY h < 2) ∧
    (∃ (s : State) (dt : Nat) (h i : Fin 16) (f : Fmt) (v : Frame) (rest : List Frame), s.runs ∧ s.headFmt h = some f ∧
      (s.srcOf (1152 + h)).vat = v :: rest ∧ s.emitting h = true ∧ v.done = false ∧ 2 ≤ s.rd Fld.STCH_HEAD_CFG_SAFETY h ∧ s.on
      Fld.STCH_SIG_CTL_LEARN h = true ∧ (∀ j : Fin 16, bitOf (s.rd Fld.STCH_SIG_CTL_EN h) j = (j == i))) ∧
    (∃ (s : State) (dt : Nat) (h i : Fin 16) (f : Fmt) (v : Frame) (rest : List Frame), s.runs ∧ s.headFmt h = some f ∧
      (s.srcOf (1152 + h)).vat = v :: rest ∧ s.emitting h = true ∧ v.done = false ∧ 2 ≤ s.rd Fld.STCH_HEAD_CFG_SAFETY h ∧ s.on
      Fld.STCH_SIG_CTL_LEARN h = false ∧ (∀ j : Fin 16, bitOf (s.rd Fld.STCH_SIG_CTL_EN h) j = (j == i)) ∧ tget 0 (s.headOf
      h).bad i + 1 = s.rd Fld.STCH_SIG_CTL_MISMATCH_N h) :=
  ⟨⟨{ st [(Fld.STCH_HEAD_CFG_FMT, 3, 11), (Fld.STCH_HEAD_CFG_EN, 3, 1)] with now := us 190 }, 0, 3, fmt1080 0 1, 0, rfl, by decide +kernel⟩,
   ⟨({ st [(Fld.STCH_HEAD_CFG_FMT, 3, 11), (Fld.STCH_HEAD_STAT_RUNNING, 3, 1)] with now := us 190 } : State).putHead 3
    { stopping := true }, 0, 3, fmt1080 0 1, 0, rfl, by decide +kernel⟩,
   ⟨{ st [(Fld.STCH_HEAD_CFG_FMT, 3, 11), (Fld.STCH_HEAD_CFG_EN, 3, 1)] with now := ms 21, staged := [⟨.STCH_HEAD_BG, 3, 2 ^ 30 - 1, 2 ^ 30 - 1, 4, us 5, none⟩] },
    0, 3, fmt1080 0 1, (fmt1080 0 1).period, 2 ^ 30 - 1, 2 ^ 30 - 1, 4, us 5,
    { ord := 4, items := [⟨.STCH_HEAD_BG, 3, 2 ^ 30 - 1, 2 ^ 30 - 1⟩], src := none, at_ := us 5, ta := none, allOrNone := false, late := false, verdict := none },
    rfl, by decide +kernel⟩,
   ⟨(({ st [(Fld.STCH_HEAD_CFG_FMT, 3, 11), (Fld.STCH_HEAD_CFG_EN, 3, 1)] with now := ms 20 - us 30 } : State).putFence .head 3
    1).putCs 2
    { state := 2, ta := some 0, ord := 4, entries := [{ kind := .head, inst := 3, items := [⟨.STCH_HEAD_BG, 3, 1, 1⟩], shadow := some 0 }] },
    0, 3, fmt1080 0 1, (fmt1080 0 1).period, 2, 0,
    { ord := 4, items := [⟨.STCH_HEAD_BG, 3, 1, 1⟩], src := some (2, 0), at_ := 0, ta := some 0, allOrNone := false, late := false, verdict := none },
    rfl, by decide +kernel⟩,
   ⟨({ st [(Fld.STCH_HEAD_CFG_FMT, 3, 11), (Fld.STCH_HEAD_STAT_TRANSITION, 3, 1)] with now := ms 21, staged := [⟨.STCH_HEAD_TIMING, 3, 77, 2 ^ 26 - 1, 4, us 5, none⟩] }
    : State).putHead 3 { frameAt := some 0 }, 0, 3, fmt1080 0 1, 0, 77, 2 ^ 26 - 1, 4, us 5, rfl, by decide +kernel⟩,
   ⟨(st [(Fld.STCH_HEAD_CFG_FMT, 3, 1), (Fld.STCH_HEAD_STAT_RUNNING, 3, 1)]).putSrc 1155 { vat := [{}] }, 0, 3, fmt720 0, {}, [],
    rfl, by decide +kernel⟩,
   ⟨(st [(Fld.STCH_HEAD_CFG_FMT, 3, 1), (Fld.STCH_HEAD_STAT_RUNNING, 3, 1), (Fld.STCH_HEAD_CFG_SAFETY, 3, 2),
    (Fld.STCH_SIG_CTL_LEARN, 3, 1), (Fld.STCH_SIG_CTL_EN, 3, 32)]).putSrc 1155 { vat := [{}] }, 0, 3, 5, fmt720 0, {}, [],
    rfl, by decide +kernel⟩,
   ⟨(st [(Fld.STCH_HEAD_CFG_FMT, 3, 1), (Fld.STCH_HEAD_STAT_RUNNING, 3, 1), (Fld.STCH_HEAD_CFG_SAFETY, 3, 2),
    (Fld.STCH_SIG_CTL_MISMATCH_N, 3, 1), (Fld.STCH_SIG_CTL_EN, 3, 32), (Fld.STCH_SIG_EXP_EXP, 53, 9)]).putSrc 1155
    { vat := [{}] }, 0, 3, 5, fmt720 0, {}, [], rfl, by decide +kernel⟩⟩

theorem witness_HeadAprons :
    (∃ (s : State) (dt : Nat) (h : Fin 16) (f : Fmt) (e x : Nat), s.runs ∧ s.headFmt h = some f ∧ s.emitting h = true ∧
      (s.headOf h).abort = none ∧ (s.headOf h).apronAbort = none ∧ overShare f (s.fetchLoad h f).1 = true) ∧
    (∃ (s : State) (dt : Nat) (h : Fin 16) (f : Fmt) (e x : Nat), s.runs ∧ s.headFmt h = some f ∧ s.emitting h = true ∧
      s.apronHead h = true ∧ (s.headOf h).abort = none ∧ (s.headOf h).apronAbort = none ∧ overShare f (s.fetchLoad h f).1 =
      true) ∧
    (∃ (s : State) (dt : Nat) (h : Fin 16) (t0 : Nat) (v : List Nat) (rest : List (Nat × List Nat)), s.runs ∧ (s.headOf
      h).apronDue = (t0, v) :: rest ∧ t0 ≤ fine (s.start dt).now) ∧
    (∃ (s : State) (dt : Nat) (g : Fin 4) (h : Fin 16) (f : Fmt), s.runs ∧ h.val / 4 = g.val ∧ s.headFmt h = some f) ∧
    (∃ (s : State) (dt : Nat) (g : Fin 4) (h : Fin 16) (t0 : Nat), s.runs ∧ h.val / 4 = g.val ∧ bitOf (s.rd
      Fld.STCH_APRON_STAT_ASSERTED 0) g = true ∧ s.apronHead h = true ∧ s.emitting h = true ∧ (s.headOf h).forceDue = some t0
      ∧ (s.headOf h).force = none ∧ t0 ≤ fine (s.start dt).now) ∧
    (∃ (s : State) (dt : Nat) (g : Fin 4) (h : Fin 16), s.runs ∧ h.val / 4 = g.val) ∧
    (∃ (s : State) (dt : Nat) (h : Fin 16) (due : Nat), s.runs ∧ s.mode = .hem ∧ (s.start dt).hemDue h = some due ∧ (s.headOf
      h).dropFrom = none ∧ s.emitting h = true ∧ due ≤ fine (s.start dt).now) ∧
    (∃ (s : State) (dt : Nat) (k : Fin 1168) (fr : Frame) (x : Nat), s.runs ∧ (s.srcOf k).vat.find? (fun f => f.done) = some
      fr ∧ s.ringEn k = true ∧ ((s.srcOf k).proxies.any fun p => p.2.count == fr.count && p.2.firstAt == fr.firstAt) = false ∧
      ([0, 1, 2].map fun i => ((s.srcOf k).proxyNext + i) % 3).find? (fun x => !(s.proxyHeld k).contains x) = some x) ∧
    (∃ (s : State) (dt : Nat) (k : Fin 1168) (fr : Frame), s.runs ∧ (s.srcOf k).vat.find? (fun f => f.done) = some fr ∧
      s.ringEn k = true ∧ ((s.srcOf k).proxies.any fun p => p.2.count == fr.count && p.2.firstAt == fr.firstAt) = false ∧ (∀ x
      : Fin 3, (s.proxyHeld k).contains x.val = true)) :=
  ⟨⟨{ st [(Fld.STCH_HEAD_CFG_FMT, 3, 11), (Fld.STCH_HEAD_STAT_RUNNING, 3, 1), (Fld.STCH_LAYER_CTL_VISIBLE, 24, 1), (Fld.STCH_LAYER_CTL_FORMAT, 24, 2), (Fld.STCH_LAYER_CTL_ROTATE, 24, 1), (Fld.STCH_LAYER_SIZE_W, 24, 512), (Fld.STCH_LAYER_SIZE_H, 24, 512), (Fld.STCH_LAYER_CROP_SIZE_CW, 24, 8192), (Fld.STCH_LAYER_CROP_SIZE_CH, 24, 8192)] with bound := [24] },
    0, 3, fmt1080 0 1, 5, 6, rfl, by decide +kernel⟩,
   ⟨{ st [(Fld.STCH_HEAD_CFG_FMT, 3, 11), (Fld.STCH_HEAD_CFG_SAFETY, 3, 1), (Fld.STCH_HEAD_STAT_RUNNING, 3, 1), (Fld.STCH_LAYER_CTL_VISIBLE, 24, 1), (Fld.STCH_LAYER_CTL_FORMAT, 24, 2), (Fld.STCH_LAYER_CTL_ROTATE, 24, 1), (Fld.STCH_LAYER_SIZE_W, 24, 512), (Fld.STCH_LAYER_SIZE_H, 24, 512), (Fld.STCH_LAYER_CROP_SIZE_CW, 24, 8192), (Fld.STCH_LAYER_CROP_SIZE_CH, 24, 8192)] with bound := [24] },
    0, 3, fmt1080 0 1, 5, 6, rfl, by decide +kernel⟩,
   ⟨({} : State).putHead 3 { apronDue := [(0, [1])] }, 0, 3, 0, [1], [], rfl, by decide +kernel⟩,
   ⟨st [(Fld.STCH_HEAD_CFG_FMT, 6, 11)], 0, 1, 6, fmt1080 0 1, rfl, by decide +kernel⟩,
   ⟨(st [(Fld.STCH_HEAD_CFG_SAFETY, 6, 1), (Fld.STCH_HEAD_STAT_RUNNING, 6, 1), (Fld.STCH_APRON_STAT_ASSERTED, 0, 2)]).putHead 6
    { forceDue := some 0 }, 0, 1, 6, 0, rfl, by decide +kernel⟩,
   ⟨(st [(Fld.STCH_APRON_STAT_ASSERTED, 0, 2)]).putHead 6 { forceDue := some 0 }, 0, 1, 6, rfl, by decide +kernel⟩,
   ⟨({ (st [(Fld.CTRL_DEV_STATE_MODE, 0, 3), (Fld.STCH_HEAD_CFG_FMT, 6, 11), (Fld.STCH_HEAD_CFG_SAFETY, 6, 1), (Fld.STCH_HEAD_STAT_RUNNING, 6, 1)]).putHead 6 { frameAt := some 0 } with now := ms 3, up := ms 3 }
    : State).onFlt fun z => { z with hemAt := some (ms 1) }, 0, 6, fine (ms 1) + 2 * (fmt1080 0 1).line, rfl, by decide +kernel⟩,
   ⟨(st [(Fld.CASK_RING_EN, 7, 1)]).putSrc 7 { vat := [{}, { done := true, count := 5 }], proxyNext := 2 }, 0, 7,
    { done := true, count := 5 }, 2, rfl, by decide +kernel⟩,
   ⟨((st [(Fld.CASK_RING_EN, 7, 1), (Fld.STCH_LAYER_CTL_SRC_KIND, 24, 1), (Fld.STCH_LAYER_CTL_SRC_KIND, 25, 1),
    (Fld.STCH_LAYER_CTL_SRC_KIND, 26, 1)]).putSrc 7 { vat := [{ done := true, count := 5 }] }).putHead 3
    { reads := [(0, ⟨7, 0, 1, 0⟩), (1, ⟨7, 1, 2, 0⟩), (2, ⟨7, 2, 3, 0⟩)] }, 0, 7, { done := true, count := 5 }, rfl, by decide +kernel⟩⟩

theorem witness_KilnReferences :
    (∃ (s : State) (dt : Nat) (k : Fin 44) (t0 best : Nat), s.por = false ∧ (s.refOf k).since = some t0 ∧ (s.refOf k).qual =
      false ∧ s.refAvail k = true ∧ t0 + sec (s.rd Fld.KILN_REF_CFG_QUAL_S k) ≤ s.up + dt ∧ s.on Fld.KILN_SEL_CTL_REVERT 0 =
      true ∧ (s.putRef k { s.refOf k with qual := true }).refBest = best) ∧
    (∃ (s : State) (dt : Nat) (n : Fin 4) (falling : Bool), s.por = false ∧ falling = s.on Fld.KILN_PPS_CFG_EDGE n ∧ s.on
      Fld.KILN_REF_CFG_EN (1 + n) = true ∧ s.mode ≠ .cellar ∧ (s.refOf (1 + n)).pulse = none ∧ s.on Fld.KILN_STAT_TIME_VALID 0
      = true) ∧
    (∃ (s : State) (dt : Nat) (n : Fin 4) (falling : Bool) (q : Nat), s.por = false ∧ falling = s.on Fld.KILN_PPS_CFG_EDGE n ∧
      s.on Fld.KILN_REF_CFG_EN (1 + n) = true ∧ s.mode ≠ .cellar ∧ (s.refOf (1 + n)).pulse = some q ∧ (s.refOf (1 + n)).bad <
      2 ∧ fine (ns (s.rd Fld.KILN_PPS_CFG_WIN n)) < (nearest (fine (s.start dt).now) (fine q) (fine (sec 1))).natAbs) ∧
    (∃ (s : State) (dt : Nat) (n : Fin 4) (falling : Bool) (q : Nat), s.por = false ∧ falling = s.on Fld.KILN_PPS_CFG_EDGE n ∧
      s.on Fld.KILN_REF_CFG_EN (1 + n) = true ∧ s.mode ≠ .cellar ∧ (s.refOf (1 + n)).pulse = some q ∧ 2 ≤ (s.refOf (1 +
      n)).bad ∧ fine (ns (s.rd Fld.KILN_PPS_CFG_WIN n)) < (nearest (fine (s.start dt).now) (fine q) (fine (sec 1))).natAbs) ∧
    (∃ (s : State) (dt : Nat) (n : Fin 2) (falling : Bool), s.por = false ∧ falling = s.on Fld.KILN_VREF_CFG_EDGE n ∧ s.on
      Fld.KILN_REF_CFG_EN (41 + n) = true ∧ s.mode ≠ .cellar ∧ (s.refOf (41 + n)).pulse = none) ∧
    (∃ (s : State) (dt : Nat) (n : Fin 4) (falling short : Bool), s.por = false ∧ (short = true ∨ falling ≠ s.on
      Fld.KILN_PPS_CFG_EDGE n)) ∧
    (∃ (s : State) (dt : Nat) (n : Fin 2) (falling short : Bool), s.por = false ∧ (short = true ∨ falling ≠ s.on
      Fld.KILN_VREF_CFG_EDGE n)) ∧
    (∃ (s : State) (dt : Nat) (k : Fin 44) (q : Nat), s.por = false ∧ refKind k = 1 ∧ (s.refOf k).pulse = some q ∧ 3 *
      s.pulsePeriod k ≤ 2 * fine ((s.start dt).now - q)) ∧
    (∃ (s : State) (dt : Nat) (n : Fin 4), s.por = false ∧ s.freqWatched n = true) ∧
    (∃ (s : State) (dt : Nat) (n : Fin 4), s.por = false ∧ s.freqWatched n = true) ∧
    (∃ (s : State) (dt : Nat) (n : Fin 4), s.por = false ∧ s.freqWatched n = true) ∧
    (∃ (s : State) (dt : Nat) (n : Fin 4), s.por = false ∧ s.freqWatched n = true) :=
  ⟨⟨(stUp (sec 10) [(Fld.KILN_REF_CFG_EN, 0, 1), (Fld.KILN_REF_CFG_QUAL_S, 0, 4), (Fld.KILN_SEL_CTL_REVERT, 0, 1),
    (Fld.KILN_REF_ORDER_0_ENTRY_1, 0, 63)]).putRef 0 { there := true, since := some (sec 6) }, 0, 0, sec 6, 0, rfl, by decide +kernel⟩,
   ⟨st [(Fld.KILN_STAT_STATE, 0, 4), (Fld.KILN_STAT_TIME_VALID, 0, 1), (Fld.KILN_REF_CFG_EN, 3, 1), (Fld.KILN_PPS_CFG_EDGE, 2,
    1)], sec 3 + us 7, 2, true, rfl, by decide +kernel⟩,
   ⟨(st [(Fld.KILN_STAT_STATE, 0, 2), (Fld.KILN_REF_CFG_EN, 3, 1), (Fld.KILN_PPS_CFG_WIN, 2, 10)]).putRef 3
    { pulse := some 0, bad := 1 }, sec 3 + us 7, 2, false, 0, rfl, by decide +kernel⟩,
   ⟨(st [(Fld.KILN_STAT_STATE, 0, 2), (Fld.KILN_REF_CFG_EN, 3, 1), (Fld.KILN_PPS_CFG_WIN, 2, 10)]).putRef 3
    { pulse := some 0, bad := 2, there := true }, sec 3 + us 7, 2, false, 0, rfl, by decide +kernel⟩,
   ⟨st [(Fld.KILN_STAT_STATE, 0, 2), (Fld.KILN_REF_CFG_EN, 42, 1)], sec 3 + us 7, 1, false, rfl, by decide +kernel⟩,
   ⟨{}, 0, 2, true, false, rfl, by decide +kernel⟩,
   ⟨{}, 0, 1, true, false, rfl, by decide +kernel⟩,
   ⟨(st [(Fld.KILN_STAT_STATE, 0, 2)]).putRef 3 { pulse := some 0, there := true }, sec 3 / 2, 3, 0, rfl, by decide +kernel⟩,
   ⟨st [(Fld.KILN_PPS_CFG_FREQ, 2, 1), (Fld.KILN_REF_CFG_EN, 3, 1)], 0, 2, rfl, by decide +kernel⟩,
   ⟨st [(Fld.KILN_PPS_CFG_FREQ, 2, 1), (Fld.KILN_REF_CFG_EN, 3, 1)], 0, 2, rfl, by decide +kernel⟩,
   ⟨st [(Fld.KILN_PPS_CFG_FREQ, 3, 1), (Fld.KILN_REF_CFG_EN, 4, 1)], 0, 3, rfl, by decide +kernel⟩,
   ⟨(st [(Fld.KILN_PPS_CFG_FREQ, 0, 1), (Fld.KILN_REF_CFG_EN, 1, 1)]).putRef 1 { freqBad := true }, 0, 0, rfl, by decide +kernel⟩⟩

theorem witness_KilnTimeSets :
    (∃ (s : State) (dt : Nat) (t0 u : Nat), s.por = false ∧ s.kiln.setRef = some (t0, u) ∧ s.on Fld.KILN_STAT_TIME_VALID 0 =
      false ∧ (t0 / sec 1 + 1) * sec 1 ≤ t0 + (s.up + dt - u)) ∧
    (∃ (s : State) (dt : Nat) (t0 : Nat), s.por = false ∧ s.kiln.waitFrom = some t0 ∧ s.kilnState = 0 ∧ (s.rd
      Fld.KILN_STAT_SELECTED 0 = 63 ∨ refKind (s.rd Fld.KILN_STAT_SELECTED 0) ≠ 0) ∧ t0 + sec (s.rd Fld.KILN_CFG_START_WAIT 0)
      ≤ s.up + dt) ∧
    (∃ (s : State) (dt : Nat) (b : Nat), s.por = false ∧ s.kiln.stepAt = some b ∧ b ≤ (s.start dt).now) ∧
    (∃ (s : State) (dt : Nat), s.por = false ∧ (s.start dt).absorbed = 0) ∧
    (∃ (s : State) (dt : Nat), s.por = false ∧ s.kiln.second < (s.start dt).now / sec 1 ∧ s.kilnState = 2 ∧ s.on
      Fld.KILN_STAT_OSC_XO 0 = false ∧ s.kiln.bare = false) ∧
    (∃ (s : State) (dt : Nat), s.por = false ∧ s.kiln.second < (s.start dt).now / sec 1 ∧ s.kilnState = 4) ∧
    (∃ (s : State) (dt : Nat) (fam : Fin 5), s.por = false) ∧
    (∃ (s : State) (dt : Nat), s.por = false ∧ s.on Fld.KILN_STAT_TIME_VALID 0 = true ∧ s.on Fld.KILN_UTC_LEAP61 0 = true ∧
      ((s.start dt).second + 86400 - s.rd Fld.KILN_UTC_UTC_OFFSET 0) % 86400 = 0 ∧ s.on Fld.GNSS_STAT_TRUSTED 0 = false ∧
      s.kiln.utcPtp = none ∧ s.rd Fld.KILN_UTC_SRC 0 = 1) :=
  ⟨⟨({ st [] with up := ms 900 } : State).onKiln fun k => { k with setRef := some (sec 5 + ms 500, ms 300) }, 0, sec 5 + ms 500,
    ms 300, rfl, by decide +kernel⟩,
   ⟨(stUp (sec 9) [(Fld.KILN_CFG_START_WAIT, 0, 3)]).onKiln fun k => { k with waitFrom := some (sec 5), ledgerTime := sec 77 },
    0, sec 5, rfl, by decide +kernel⟩,
   ⟨({ st [(Fld.KILN_STAT_STEP_PENDING, 0, 1), (Fld.KILN_STAT_STATE, 0, 2)] with now := sec 4 } : State).onKiln fun k =>
    { k with stepAt := some (sec 4), stepBy := -70000 }, 0, sec 4, rfl, by decide +kernel⟩,
   ⟨(st [(Fld.KILN_STAT_STATE, 0, 2), (Fld.KILN_SLEW_RATE, 0, 100), (Fld.KILN_STAT_SLEWING, 0, 1)]).onKiln fun k =>
    { k with a0 := -5 }, sec 1, rfl, by decide +kernel⟩,
   ⟨st [(Fld.KILN_STAT_STATE, 0, 2)], sec 1, rfl, by decide +kernel⟩,
   ⟨st [(Fld.KILN_STAT_STATE, 0, 4)], sec 2, rfl, by decide +kernel⟩,
   ⟨st [(Fld.KILN_STAT_STATE, 0, 2)], sec 2, 4, rfl⟩,
   ⟨{ st [(Fld.KILN_STAT_STATE, 0, 2), (Fld.KILN_STAT_TIME_VALID, 0, 1), (Fld.KILN_UTC_LEAP61, 0, 1), (Fld.KILN_UTC_UTC_OFFSET, 0, 37), (Fld.KILN_UTC_SRC, 0, 1)] with now := sec 86437 },
    0, rfl, by decide +kernel⟩⟩

theorem witness_KilnOscillator :
    (∃ (s : State) (dt : Nat), s.por = false ∧ 2 ≤ s.kilnState ∧ s.on Fld.KILN_STAT_OSC_XO 0 = false ∧ s.kiln.bare = false ∧
      s.kiln.dacAt = none ∧ s.rd Fld.KILN_OSC_CFG_DAC_BITS 0 ≤ 24) ∧
    (∃ (s : State) (dt : Nat) (temp : BitVec 16), s.por = false) ∧
    (∃ (s : State) (dt : Nat), s.por = false ∧ s.kiln.tempAt + sec 10 ≤ s.up + dt) ∧
    (∃ (s : State) (dt : Nat), s.por = false) ∧
    (∃ (s : State) (dt : Nat), s.por = false ∧ sec 86400 ≤ s.kiln.locked) ∧
    (∃ (s : State) (dt : Nat) (g : List Nat), s.por = false ∧ s.kiln.glitches.filter (fun t => decide (s.up + dt < t + ms 1))
      = g ∧ g.length < 8) ∧
    (∃ (s : State) (dt : Nat) (g : List Nat), s.por = false ∧ s.kiln.glitches.filter (fun t => decide (s.up + dt < t + ms 1))
      = g ∧ 8 ≤ g.length ∧ s.on Fld.KILN_STAT_OSC_XO 0 = false) ∧
    (∃ (s : State) (dt : Nat), s.por = false ∧ s.on Fld.KILN_STAT_OSC_XO 0 = false) ∧
    (∃ (s : State) (dt : Nat), s.por = false ∧ s.on Fld.KILN_STAT_OSC_XO 0 = false) ∧
    (∃ (s : State) (dt : Nat), s.por = false ∧ s.kilnState = 2 ∧ s.on Fld.KILN_STAT_OSC_XO 0 = false) ∧
    (∃ (s : State) (dt : Nat), s.por = false ∧ s.on Fld.KILN_STAT_OSC_XO 0 = true) ∧
    (∃ (s : State) (dt : Nat), s.por = false) ∧
    (∃ (s : State) (dt : Nat), s.por = false) :=
  ⟨⟨st [(Fld.KILN_STAT_STATE, 0, 2), (Fld.KILN_OSC_CFG_DAC_BITS, 0, 20)], ms 100, rfl, by decide +kernel⟩,
   ⟨{}, 0, 2500, rfl⟩,
   ⟨{}, sec 10, rfl, by decide +kernel⟩,
   ⟨st [(Fld.KILN_STAT_TIME_VALID, 0, 1), (Fld.KILN_STAT_STATE, 0, 2)], ms 5, rfl⟩,
   ⟨({} : State).onKiln fun k => { k with locked := sec 86400 }, 0, rfl, by decide +kernel⟩,
   ⟨{}, 0, [], rfl, by decide +kernel⟩,
   ⟨({} : State).onKiln fun k => { k with glitches := List.replicate 8 0 }, 0, List.replicate 8 0, rfl, by decide +kernel⟩,
   ⟨{}, 0, rfl, by decide +kernel⟩,
   ⟨{}, 0, rfl, by decide +kernel⟩,
   ⟨st [(Fld.KILN_STAT_STATE, 0, 2)], 0, rfl, by decide +kernel⟩,
   ⟨st [(Fld.KILN_STAT_OSC_XO, 0, 1)], 0, rfl, by decide +kernel⟩,
   ⟨{}, 0, rfl⟩,
   ⟨({} : State).onFlt fun z => { z with stand := [(standKey 260 0, 1)] }, 0, rfl⟩⟩

theorem witness_KilnPins :
    (∃ (s : State) (dt : Nat) (n : Fin 8) (falling : Bool), s.por = false ∧ (s.rd Fld.KILN_EVT_CFG_EDGE n = 3 ∨ s.rd
      Fld.KILN_EVT_CFG_EDGE n = 1 + b2n falling) ∧ (tget [] s.kiln.evq n).length < 16) ∧
    (∃ (s : State) (dt : Nat) (n : Fin 8) (falling : Bool), s.por = false ∧ (s.rd Fld.KILN_EVT_CFG_EDGE n = 3 ∨ s.rd
      Fld.KILN_EVT_CFG_EDGE n = 1 + b2n falling) ∧ 16 ≤ (tget [] s.kiln.evq n).length) ∧
    (∃ (s : State) (dt : Nat) (n : Fin 8) (falling : Bool), s.por = false) ∧
    (∃ (s : State) (dt : Nat) (n : Fin 16) (e : Nat), s.por = false ∧ (s.start dt).toutEdge n = some e ∧ s.waiting .tout n =
      [] ∧ s.rd Fld.KILN_TOUT_CTL_MODE n ≠ 0) ∧
    (∃ (s : State) (dt : Nat) (n : Fin 16) (e v mask ord at_ : Nat) (c : Change), s.por = false ∧ (s.start dt).toutEdge n =
      some e ∧ s.rd Fld.KILN_TOUT_CTL_MODE n = 4 ∧ s.staged = [⟨.KILN_TOUT_WIDTH, n, v, mask, ord, at_, none⟩] ∧ s.waiting
      .tout n = [c] ∧ fine at_ ≤ e - fine (us 2)) ∧
    (∃ (s : State) (dt : Nat) (n : Fin 16) (e : Nat), s.por = false ∧ (s.toutOf n).high = some e ∧ e ≤ fine (s.start dt).now) ∧
    (∃ (s : State) (dt : Nat) (n : Fin 4) (b : Nat), s.por = false ∧ instantBefore (alignPeriod (s.rd Fld.KILN_CLK_CTL_ALIGN
      n)) 0 (fine (s.start dt).now) = some b ∧ s.waiting .clk n = [] ∧ s.on Fld.KILN_CLK_CTL_EN n = true ∧ s.mode ≠ .cellar ∧
      fine (tget 0 s.kiln.clkFrom n) ≤ b ∧ tget false s.kiln.clkRun n = false) :=
  ⟨⟨st [(Fld.KILN_EVT_CFG_EDGE, 7, 2), (Fld.KILN_STAT_STATE, 0, 2)], us 3, 7, true, rfl, by decide +kernel⟩,
   ⟨(st [(Fld.KILN_EVT_CFG_EDGE, 7, 3)]).onKiln fun k => { k with evq := [(7, List.replicate 16 (true, 5))] }, 0, 7, false, rfl,
    by decide +kernel⟩,
   ⟨{}, 0, 7, true, rfl⟩,
   ⟨st [(Fld.KILN_TOUT_CTL_MODE, 5, 1), (Fld.KILN_STAT_STATE, 0, 2), (Fld.KILN_TOUT_START_START, 5, 1000),
    (Fld.KILN_TOUT_WIDTH_WIDTH, 5, 50)], us 3, 5, fine (us 1), rfl, by decide +kernel⟩,
   ⟨{ st [(Fld.KILN_TOUT_CTL_MODE, 5, 4), (Fld.KILN_STAT_STATE, 0, 2), (Fld.KILN_TOUT_START_START, 5, 1000), (Fld.KILN_TOUT_WIDTH_WIDTH, 5, 50)] with staged := [⟨.KILN_TOUT_WIDTH, 5, 99, 2 ^ 32 - 1, 4, us 5, none⟩] },
    sec 1 + us 1, 5, fine (sec 1 + us 1), 99, 2 ^ 32 - 1, 4, us 5,
    { ord := 4, items := [⟨.KILN_TOUT_WIDTH, 5, 99, 2 ^ 32 - 1⟩], src := none, at_ := us 5, ta := none, allOrNone := false, late := false, verdict := none },
    rfl, by decide +kernel⟩,
   ⟨({} : State).putTout 5 { high := some 0 }, 0, 5, 0, rfl, by decide +kernel⟩,
   ⟨st [(Fld.KILN_CLK_CTL_EN, 3, 1), (Fld.KILN_STAT_STATE, 0, 2)], sec 1 + us 1, 3, fine (sec 1), rfl, by decide +kernel⟩⟩

theorem witness_MashInstant :
    (∃ (s : State) (dt : Nat), s.runs ∧ s.configured = true ∧ s.mash.n ≠ some (s.start dt).sampleNow) ∧
    (∃ (s : State) (dt : Nat) (pos : Nat), s.runs ∧ s.configured = true ∧ s.mash.n ≠ some (s.start dt).sampleNow ∧ s.on
      Fld.MASH_ROUTE_EN pos = false ∧ s.routeRec pos = {} ∧ s.followAt pos = none ∧ s.staged = [] ∧ s.cs = []) ∧
    (∃ (s : State) (dt : Nat) (pos v mask ord at_ : Nat), s.runs ∧ s.configured = true ∧ s.mash.n ≠ some (s.start
      dt).sampleNow ∧ s.staged = [⟨.MASH_ROUTE, pos, v, mask, ord, at_, none⟩] ∧ s.cs = [] ∧ s.mash.swapAt = [] ∧ s.on
      Fld.MASH_ENG_CTL_HOLD 256 = false ∧ fine at_ ≤ (s.start dt).sampleNow * s.samplePeriod - 2 * s.samplePeriod) :=
  ⟨⟨{ st [(Fld.CTRL_DEV_STATE_MODE, 0, 1)] with now := ms 5 }, 0, rfl, by decide +kernel⟩,
   ⟨{ st [(Fld.CTRL_DEV_STATE_MODE, 0, 1)] with now := ms 5, mash := { out := [(5, 7)] } }, 0, 5, rfl, by decide +kernel⟩,
   ⟨{ st [(Fld.CTRL_DEV_STATE_MODE, 0, 1)] with now := ms 5, staged := [⟨.MASH_ROUTE, 9, 2 ^ 31 + 55, 2047, 3, ms 4, none⟩] }, 0,
    9, 2 ^ 31 + 55, 2047, 3, ms 4, rfl, by decide +kernel⟩⟩

theorem witness_MashEvents :
    (∃ (s : State) (dt : Nat) (i : Fin 32768) (g n : Nat), s.runs ∧ (s.routeRec i).wait = some (g, n) ∧ n ≤ (s.start
      dt).sampleNow) ∧
    (∃ (s : State) (dt : Nat) (i : Fin 32768) (g n : Nat), s.runs ∧ (s.entryRec i).wait = some (g, n) ∧ n ≤ (s.start
      dt).sampleNow) ∧
    (∃ (s : State) (dt : Nat) (b : Fin 256), s.runs ∧ (s.busRec b).len ≠ 0 ∧ (s.busRec b).start + (s.busRec b).len ≤ (s.start
      dt).sampleNow + 1) ∧
    (∃ (s : State) (dt : Nat) (k : Fin 1152), s.runs ∧ s.audioLanes.contains k.val = true ∧ s.lockable k = true ∧ s.on
      Fld.MASH_SRC_AUDIO_UNLOCKED k = true ∧ (s.laneOf k).hold.all (fun e => e ≤ s.up + dt) = true) ∧
    (∃ (s : State) (dt : Nat) (b : Fin 256), s.runs) ∧
    (∃ (s : State) (dt : Nat), s.runs ∧ (s.start dt).silence = 0) ∧
    (∃ (s : State) (dt : Nat) (b : Fin 33) (rx : RxCell) (cell : List Byte) (h : Hdr) (p : List Byte) (v : Frame) (rest : List
      Frame), s.runs ∧ s.takes b rx cell h ∧ h.type = 2 ∧ ((s.srcLane h.slot).any fun p => s.carries b p.2) = true ∧ ancTake
      (tget [] s.cell.anc (streamKey b h.slot 2)) ((payloadOf cell).take h.valid) h.cont = ([p], []) ∧ ancKind p = .other ∧
      (s.srcOf h.slot).vat = v :: rest ∧ v.anc = [] ∧ (s.srcOf h.slot).ancPlace (fmtOf (s.srcFmt h.slot)) (ancLine p) = 1) ∧
    (∃ (s : State) (dt : Nat) (b : Fin 33) (rx : RxCell) (cell : List Byte) (h : Hdr) (p : List Byte) (g : Nat), s.runs ∧
      s.takes b rx cell h ∧ h.type = 2 ∧ ((s.srcLane h.slot).any fun p => s.carries b p.2) = true ∧ ancTake (tget []
      s.cell.anc (streamKey b h.slot 2)) ((payloadOf cell).take h.valid) h.cont = ([p], []) ∧ ancKind p = .audio g ∧ 5 ≤ g ∧
      s.srcFmt h.slot < 22) ∧
    (∃ (s : State) (dt : Nat) (b : Fin 33) (rx : RxCell) (cell : List Byte) (h : Hdr), s.runs ∧ s.takes b rx cell h ∧ h.type =
      2 ∧ ((s.srcLane h.slot).any fun p => s.carries b p.2) = true) :=
  ⟨⟨({ st [] with now := ms 5 } : State).putRoute 9 { code := some 4, wait := some (55, 240) }, 0, 9, 55, 240, rfl, by decide +kernel⟩,
   ⟨({ st [] with now := ms 5 } : State).putEntry 9 { code := some 4, wait := some (55, 240) }, 0, 9, 55, 240, rfl, by decide +kernel⟩,
   ⟨({ st [(Fld.MASH_BUS_FADER_TARGET, 9, 99)] with now := ms 5 } : State).putBus 9 { len := 40, start := 3 }, 0, 9, rfl, by decide +kernel⟩,
   ⟨(stUp (sec 2) [(Fld.MASH_SRC_AUDIO_COUNT, 9, 2), (Fld.CELL_SRC_BIND_EN, 9, 1), (Fld.CELL_SRC_STAT_LOST, 9, 0),
    (Fld.WARP_SRC_TIME_VALID, 9, 1), (Fld.WARP_SRC_TIME_STABLE, 9, 1), (Fld.MASH_SRC_AUDIO_UNLOCKED, 9, 1)]).putLane 9
    { hold := some (sec 2) }, 0, 9, rfl, by decide +kernel⟩,
   ⟨{}, 0, 9, rfl⟩,
   ⟨{ st [(Fld.CTRL_DEV_STATE_MODE, 0, 3)] with up := ms 5, flt := { hemAt := some (ms 4) }, mash := { out := [(5, 7)] } }, 0,
    rfl, by decide +kernel⟩,
   ⟨(st [(Fld.IZL_LINK_STAT_STATE, 1, 5), (Fld.IZL_LINK_CTL_STUFF_N, 1, 40), (Fld.CELL_SRC_BIND_EN, 9, 1),
    (Fld.CELL_SRC_BIND_RAW, 9, 258), (Fld.CELL_SRC_STAT_FMT, 9, 12)]).putSrc 9 { vat := [{ fmt := 12 }] }, 0, 1, .bytes (wanc
    0x60), wanc 0x60, { whdr 2 9 0 with valid := 16 }, wpkt 0x60, { fmt := 12 }, [], rfl, State.takes_cellOf _ _ _ _ (by decide +kernel),
    by decide +kernel⟩,
   ⟨st [(Fld.IZL_LINK_STAT_STATE, 1, 5), (Fld.IZL_LINK_CTL_STUFF_N, 1, 40), (Fld.CELL_SRC_BIND_EN, 9, 1), (Fld.CELL_SRC_BIND_RAW,
    9, 258)], 0, 1, .bytes (wanc 0xA7), wanc 0xA7, { whdr 2 9 0 with valid := 16 }, wpkt 0xA7, 5, rfl, State.takes_cellOf _ _
    _ _ (by decide +kernel), by decide +kernel⟩,
   ⟨st [(Fld.IZL_LINK_STAT_STATE, 1, 5), (Fld.IZL_LINK_CTL_STUFF_N, 1, 40), (Fld.CELL_SRC_BIND_EN, 9, 1), (Fld.CELL_SRC_BIND_RAW,
    9, 258)], 0, 1, .bytes (wanc 0xA7), wanc 0xA7, { whdr 2 9 0 with valid := 16 }, rfl, State.takes_cellOf _ _ _ _ (by decide +kernel),
    by decide +kernel⟩⟩

theorem witness_EthFrames :
    (∃ (s : State) (dt : Nat) (p : Fin 18), s.runs ∧ s.portUp p = true) ∧
    (∃ (s : State) (dt : Nat) (p : Fin 18) (c u : Nat), s.runs ∧ s.portUp p = true) ∧
    (∃ (s : State) (dt : Nat) (p : Fin 18) (media : Bool) (m n o : Nat), s.runs ∧ bufferFull media m n o = true ∧ s.portUp p =
      true) ∧
    (∃ (s : State) (dt : Nat) (p : Fin 18) (len : Nat), s.runs ∧ s.portUp p = true ∧ 64 ≤ len ∧ len ≤ s.rd
      Fld.ETH_PORT_CTL_MAX_FRAME p) ∧
    (∃ (s : State) (dt : Nat) (p : Fin 18) (len : Nat) (query : Option (BitVec 32)), s.runs ∧ s.portUp p = true ∧ s.rd
      Fld.ETH_PORT_CTL_MAX_FRAME p < len ∧ 64 ≤ len) ∧
    (∃ (s : State) (dt : Nat) (p : Fin 18) (f : Fin 4096) (len : Nat) (g : BitVec 32), s.runs ∧ s.portUp p = true ∧ 64 ≤ len ∧
      len ≤ s.rd Fld.ETH_PORT_CTL_MAX_FRAME p ∧ s.sends p 3 ∧ s.on Fld.ETH_FLOW_CTL_EN f = true ∧ s.rd Fld.ETH_FLOW_CTL_PORT f
      = p ∧ s.rd Fld.ETH_FLOW_CTL_DIR f = 0 ∧ s.rd Fld.ETH_FLOW_DIP_DIP f = g.toNat ∧ g.toNat / 2 ^ 28 = 14) ∧
    (∃ (s : State) (dt : Nat) (p : Fin 18) (target : BitVec 32) (len : Nat), s.runs ∧ s.portUp p = true ∧ 64 ≤ len ∧ len ≤
      s.rd Fld.ETH_PORT_CTL_MAX_FRAME p ∧ tget 0 s.eth.ip p.val = target.toNat ∧ target ≠ 0 ∧ s.sends p 3) ∧
    (∃ (s : State) (dt : Nat) (p : Fin 18) (target : BitVec 32) (len : Nat), s.runs ∧ s.portUp p = true ∧ 64 ≤ len ∧ len ≤
      s.rd Fld.ETH_PORT_CTL_MAX_FRAME p ∧ tget 0 s.eth.ip p.val ≠ target.toNat) ∧
    (∃ (s : State) (dt : Nat) (p : Fin 18) (data : List Byte) (len : Nat), s.runs ∧ s.portUp p = true ∧ 64 ≤ len ∧ len ≤ s.rd
      Fld.ETH_PORT_CTL_MAX_FRAME p ∧ 16 ≤ p.val ∧ s.sends p 3) ∧
    (∃ (s : State) (dt : Nat) (p : Fin 18), s.runs ∧ s.on Fld.ETH_PORT_CTL_EN p = true ∧ s.on Fld.ETH_PORT_STAT_LINK_UP p =
      true) ∧
    (∃ (s : State) (dt : Nat) (p : Fin 18) (frames : Nat), s.runs ∧ s.portUp p = true) ∧
    (∃ (s : State) (dt : Nat) (p : Fin 18), s.runs ∧ s.portUp p = true) ∧
    (∃ (s : State) (dt : Nat) (p : Fin 18), s.runs ∧ s.on Fld.ETH_PORT_CTL_EN p = true) ∧
    (∃ (s : State) (dt : Nat) (p : Fin 18), s.runs ∧ s.on Fld.ETH_PORT_CTL_EN p = true ∧ s.egress p = []) ∧
    (∃ (s : State) (dt : Nat) (p : Fin 18), s.runs) :=
  ⟨⟨st [(Fld.ETH_PORT_CTL_EN, 1, 1), (Fld.ETH_PORT_STAT_LINK_UP, 1, 1), (Fld.ETH_PORT_CTL_MAX_FRAME, 1, 1518)], 0, 1, rfl,
    by decide +kernel⟩,
   ⟨st [(Fld.ETH_PORT_CTL_EN, 1, 1), (Fld.ETH_PORT_STAT_LINK_UP, 1, 1), (Fld.ETH_PORT_CTL_MAX_FRAME, 1, 1518)], 0, 1, 3, 1, rfl,
    by decide +kernel⟩,
   ⟨st [(Fld.ETH_PORT_CTL_EN, 1, 1), (Fld.ETH_PORT_STAT_LINK_UP, 1, 1), (Fld.ETH_PORT_CTL_MAX_FRAME, 1, 1518)], 0, 1, true, 100,
    Config.ingressBytes, 0, rfl, by simp only [bufferFull, if_true]; exact decide_eq_true (by omega), by decide +kernel⟩,
   ⟨st [(Fld.ETH_PORT_CTL_EN, 1, 1), (Fld.ETH_PORT_STAT_LINK_UP, 1, 1), (Fld.ETH_PORT_CTL_MAX_FRAME, 1, 1518)], 0, 1, 64, rfl,
    by decide +kernel⟩,
   ⟨st [(Fld.ETH_PORT_CTL_EN, 1, 1), (Fld.ETH_PORT_STAT_LINK_UP, 1, 1), (Fld.ETH_PORT_CTL_MAX_FRAME, 1, 1518)], 0, 1, 1519, some
    0, rfl, by decide +kernel⟩,
   ⟨st [(Fld.ETH_PORT_CTL_EN, 1, 1), (Fld.ETH_PORT_STAT_LINK_UP, 1, 1), (Fld.ETH_PORT_CTL_MAX_FRAME, 1, 1518),
    (Fld.ETH_FLOW_CTL_EN, 5, 1), (Fld.ETH_FLOW_CTL_PORT, 5, 1), (Fld.ETH_FLOW_DIP_DIP, 5, 0xE0000107), (Fld.ETH_FLOW_SIP_SIP,
    5, 9)], 0, 1, 5, 64, 0xE0000107, rfl, by decide +kernel⟩,
   ⟨(st [(Fld.ETH_PORT_CTL_EN, 1, 1), (Fld.ETH_PORT_STAT_LINK_UP, 1, 1), (Fld.ETH_PORT_CTL_MAX_FRAME, 1, 1518)]).onEth fun z =>
    { z with ip := [(1, 7)] }, 0, 1, 7, 64, rfl, by decide +kernel⟩,
   ⟨(st [(Fld.ETH_PORT_CTL_EN, 1, 1), (Fld.ETH_PORT_STAT_LINK_UP, 1, 1), (Fld.ETH_PORT_CTL_MAX_FRAME, 1, 1518)]).onEth fun z =>
    { z with ip := [(1, 7)] }, 0, 1, 8, 64, rfl, by decide +kernel⟩,
   ⟨st [(Fld.ETH_PORT_CTL_EN, 17, 1), (Fld.ETH_PORT_STAT_LINK_UP, 17, 1), (Fld.ETH_PORT_CTL_MAX_FRAME, 17, 1518)], 0, 17, [1],
    64, rfl, by decide +kernel⟩,
   ⟨st [(Fld.ETH_PORT_CTL_EN, 1, 1), (Fld.ETH_PORT_STAT_LINK_UP, 1, 1), (Fld.ETH_PORT_CTL_MAX_FRAME, 1, 1518)], 0, 1, rfl,
    by decide +kernel⟩,
   ⟨st [(Fld.ETH_PORT_CTL_EN, 1, 1), (Fld.ETH_PORT_STAT_LINK_UP, 1, 1), (Fld.ETH_PORT_CTL_MAX_FRAME, 1, 1518)], 0, 1, 4, rfl,
    by decide +kernel⟩,
   ⟨st [(Fld.ETH_PORT_CTL_EN, 1, 1), (Fld.ETH_PORT_STAT_LINK_UP, 1, 1), (Fld.ETH_PORT_CTL_MAX_FRAME, 1, 1518)], 0, 1, rfl,
    by decide +kernel⟩,
   ⟨st [(Fld.ETH_PORT_CTL_EN, 1, 1), (Fld.ETH_PORT_STAT_LOCAL_FAULT, 1, 1)], 0, 1, rfl, by decide +kernel⟩,
   ⟨st [(Fld.ETH_PORT_CTL_EN, 1, 1), (Fld.ETH_PORT_STAT_LINK_UP, 1, 1), (Fld.ETH_PORT_CTL_MAX_FRAME, 1, 1518)], 0, 1, rfl,
    by decide +kernel⟩,
   ⟨st [(Fld.ETH_PORT_STAT_REMOTE_FAULT, 1, 1)], 0, 1, rfl⟩⟩

theorem witness_EthPause :
    (∃ (s : State) (dt : Nat) (p : Fin 18) (q : Fin 4) (classes : BitVec 8) (quanta : Vector (BitVec 16) 8), s.runs ∧ s.portUp
      p = true ∧ s.on Fld.ETH_PORT_CTL_PAUSE_EN p = true ∧ s.queueIgnores p q = false ∧ quanta.toList.getD 0 0 ≠ 0 ∧ s.egress
      p = []) ∧
    (∃ (s : State) (dt : Nat) (p : Fin 18) (q : Fin 4) (c : Nat) (classes : BitVec 8) (quanta : Vector (BitVec 16) 8), s.runs
      ∧ s.portUp p = true ∧ s.on Fld.ETH_PORT_CTL_PFC_EN p = true ∧ s.queueIgnores p q = false ∧ c < 8 ∧ classes.getLsbD c =
      true ∧ s.queuePcp p q c = true ∧ quanta.toList.getD c 0 ≠ 0 ∧ s.egress p = []) ∧
    (∃ (s : State) (dt : Nat) (p : Fin 18) (q : Fin 4), s.runs ∧ s.queueHeld p q = true ∧ (s.pauseOf p q).end_ ≤ s.up + dt ∧
      s.egress p = []) ∧
    (∃ (s : State) (dt : Nat) (p : Fin 18) (q : Fin 4) (x : TxItem), s.runs ∧ s.queueHeld p q = true ∧ (s.pauseOf p q).end_ ≤
      s.up + dt ∧ s.portSends p = true ∧ s.egress p = [x] ∧ x.queue = q ∧ x.flow = none) ∧
    (∃ (s : State) (dt : Nat) (p : Fin 18) (q : Fin 4), s.runs ∧ s.queueHeld p q = true ∧ (s.pauseOf p q).since + ms (s.rd
      Fld.ETH_PORT_CTL_PAUSE_WD p) ≤ s.up + dt) ∧
    (∃ (s : State) (dt : Nat) (p : Fin 18) (q : Fin 4), s.runs ∧ s.queueIgnores p q = true ∧ (s.pauseOf p q).ignore ≤ s.up +
      dt) :=
  ⟨⟨st [(Fld.ETH_PORT_CTL_EN, 1, 1), (Fld.ETH_PORT_STAT_LINK_UP, 1, 1), (Fld.ETH_PORT_CTL_MAX_FRAME, 1, 1518),
    (Fld.ETH_PORT_CTL_PAUSE_EN, 1, 1)], 0, 1, 3, 0, Vector.replicate 8 5, rfl, by decide +kernel⟩,
   ⟨st [(Fld.ETH_PORT_CTL_EN, 1, 1), (Fld.ETH_PORT_STAT_LINK_UP, 1, 1), (Fld.ETH_PORT_CTL_MAX_FRAME, 1, 1518),
    (Fld.ETH_PORT_CTL_PFC_EN, 1, 1), (Fld.ETH_QUEUE_PCP_Q3, 1, 6)], 0, 1, 3, 6, 255, Vector.replicate 8 5, rfl, by decide +kernel⟩,
   ⟨st [(Fld.ETH_PORT_STAT_HELD, 1, 15)], 0, 1, 3, rfl, by decide +kernel⟩,
   ⟨{ st [(Fld.ETH_PORT_STAT_HELD, 1, 15), (Fld.ETH_PORT_CTL_EN, 1, 1), (Fld.ETH_PORT_STAT_LINK_UP, 1, 1)] with egr := [(1, [⟨3, 64, none, .none, 0, .arpReply 1⟩])] },
    0, 1, 3, ⟨3, 64, none, .none, 0, .arpReply 1⟩, rfl, by decide +kernel⟩,
   ⟨stUp (ms 60) [(Fld.ETH_PORT_STAT_HELD, 1, 15), (Fld.ETH_PORT_CTL_PAUSE_WD, 1, 50)], 0, 1, 3, rfl, by decide +kernel⟩,
   ⟨st [(Fld.ETH_PORT_STAT_IGNORE, 1, 15)], 0, 1, 3, rfl, by decide +kernel⟩⟩

theorem witness_EthMedia :
    (∃ (s : State) (dt : Nat) (p : Fin 18) (h : FrameHdr) (f : Fin 4096) (fm : Fmt) (seq ts : BitVec 32) (narrow : Bool) (rows
      : List RtpRow) (k : Nat) (v : Frame), s.runs ∧ s.portUp p = true ∧ s.matchFlow p h = some f.val ∧ 64 ≤ h.len ∧ h.len ≤
      s.rd Fld.ETH_PORT_CTL_MAX_FRAME p ∧ h.dport.toNat ∉ [123, 319, 320] ∧ s.rd Fld.ETH_FLOW_CTL_TYPE f = 0 ∧ s.pairOf f =
      none ∧ (s.flowRx f).alive = true ∧ s.fenced .flow f = false ∧ s.fenced .port (s.rd Fld.ETH_FLOW_CTL_PORT f) = false ∧
      fmtOf (s.flowFmt f) = some fm ∧ s.flowSlots f = [k] ∧ (s.srcOf k).vat = [v] ∧ v.done = false ∧ v.epoch = some ((s.start
      dt).rtpNamed ts.toNat fm.period)) ∧
    (∃ (s : State) (dt : Nat) (p : Fin 18) (h : FrameHdr) (f : Fin 4096) (seq ts : BitVec 32) (marker field narrow room :
      Bool) (rows : List RtpRow), s.runs ∧ s.portUp p = true ∧ s.matchFlow p h = some f.val ∧ 64 ≤ h.len ∧ h.len ≤ s.rd
      Fld.ETH_PORT_CTL_MAX_FRAME p ∧ h.dport.toNat ∉ [123, 319, 320]) ∧
    (∃ (s : State) (dt : Nat) (p : Fin 18) (h : FrameHdr) (f : Fin 4096) (seq : BitVec 16) (ts : BitVec 32) (payload : List
      Byte) (k d fl : Nat), s.runs ∧ s.portUp p = true ∧ s.matchFlow p h = some f.val ∧ 64 ≤ h.len ∧ h.len ≤ s.rd
      Fld.ETH_PORT_CTL_MAX_FRAME p ∧ h.dport.toNat ∉ [123, 319, 320] ∧ s.rd Fld.ETH_FLOW_CTL_TYPE f = 1 ∧ s.pairOf f = none ∧
      (s.flowRx f).alive = true ∧ s.fenced .flow f = false ∧ s.fenced .port (s.rd Fld.ETH_FLOW_CTL_PORT f) = false ∧
      s.flowSlots f = [k] ∧ (s.listed Fld.CELL_DST_BIND_EN).filter (fun d => s.dst22 d && s.on Fld.WARP_DST_CFG_EN d) = [d] ∧
      s.waiting .dst d = [] ∧ s.rd Fld.WARP_DST_ROUTE_SRC d = k ∧ (s.dstOf d).skip22 = false ∧ s.fenced .dst d = false ∧
      s.dstFlow d = some fl ∧ s.on Fld.ETH_FLOW_CTL_PAIR_EN fl = false ∧ s.on Fld.ETH_FLOW_CTL_EN fl = true ∧ s.fenced .flow
      fl = false ∧ s.mode = .service ∧ (s.start dt).mediaAt (fine (s.start dt).now) = true ∧ s.fenced .port (s.rd
      Fld.ETH_FLOW_CTL_PORT fl) = false ∧ s.sends (s.rd Fld.ETH_FLOW_CTL_PORT fl) 1) ∧
    (∃ (s : State) (dt : Nat) (p : Fin 18) (h : FrameHdr) (f : Fin 4096) (seq : BitVec 16) (ts : BitVec 32) (l16 : Bool)
      (samples : List (List (BitVec 24))) (c : Nat), s.runs ∧ s.portUp p = true ∧ s.matchFlow p h = some f.val ∧ 64 ≤ h.len ∧
      h.len ≤ s.rd Fld.ETH_PORT_CTL_MAX_FRAME p ∧ h.dport.toNat ∉ [123, 319, 320] ∧ s.rd Fld.ETH_FLOW_CTL_TYPE f = 2 ∧
      s.pairOf f = none ∧ (s.flowRx f).alive = true ∧ s.fenced .flow f = false ∧ s.fenced .port (s.rd Fld.ETH_FLOW_CTL_PORT f)
      = false ∧ samples.length = s.flowSamples f ∧ ((samples.any fun l => l.length != s.flowChans f) = false) ∧ s.mash.rateBad
      = [] ∧ c < s.flowChans f) ∧
    (∃ (s : State) (dt : Nat) (p : Fin 18) (h : FrameHdr) (f : Fin 4096) (seq : BitVec 16) (ts : BitVec 32) (subframes : List
      (List Aes3)) (c : Nat), s.runs ∧ s.portUp p = true ∧ s.matchFlow p h = some f.val ∧ 64 ≤ h.len ∧ h.len ≤ s.rd
      Fld.ETH_PORT_CTL_MAX_FRAME p ∧ h.dport.toNat ∉ [123, 319, 320] ∧ s.rd Fld.ETH_FLOW_CTL_TYPE f = 3 ∧ s.pairOf f = none ∧
      (s.flowRx f).alive = true ∧ s.fenced .flow f = false ∧ s.fenced .port (s.rd Fld.ETH_FLOW_CTL_PORT f) = false ∧
      subframes.length = s.flowSamples f ∧ ((subframes.any fun l => l.length != s.flowChans f) = false) ∧ s.mash.rateBad = []
      ∧ c < s.flowChans f) ∧
    (∃ (s : State) (dt : Nat) (p : Fin 18) (h : FrameHdr) (f : Fin 4096) (seq : BitVec 16) (newFrame : Bool) (payload p' :
      List Byte) (g k : Nat) (v : Frame) (rest : List Frame), s.runs ∧ s.portUp p = true ∧ s.matchFlow p h = some f.val ∧ 64 ≤
      h.len ∧ h.len ≤ s.rd Fld.ETH_PORT_CTL_MAX_FRAME p ∧ h.dport.toNat ∉ [123, 319, 320] ∧ s.rd Fld.ETH_FLOW_CTL_TYPE f = 4 ∧
      s.pairOf f = none ∧ (s.flowRx f).alive = true ∧ s.fenced .flow f = false ∧ s.fenced .port (s.rd Fld.ETH_FLOW_CTL_PORT f)
      = false ∧ s.assocOf f = some g ∧ s.flowSlots (s.pathA g) = [k] ∧ (ancTake [] (payload.drop 4) false).1 = [p'] ∧ ancKind
      p' = .other ∧ (s.srcOf k).vat = v :: rest ∧ v.anc = [] ∧ (s.srcOf k).ancPlace (fmtOf (s.srcFmt k)) (ancLine p') = 1) ∧
    (∃ (s : State) (dt : Nat) (f : Fin 4096) (m : Fmt), s.runs ∧ fmtOf (s.lossFmt f) = some m ∧ (s.flowRx f).alive = true ∧
      s.pairOf f = none ∧ (s.rd Fld.ETH_FLOW_CTL_TYPE f = 0 ∨ s.rd Fld.ETH_FLOW_CTL_TYPE f = 4) ∧ m.period * 5 / 4 ≤ fine
      (s.up + dt - (s.flowRx f).last)) ∧
    (∃ (s : State) (dt : Nat) (f : Fin 4096), s.runs ∧ (s.flowRx f).alive = true ∧ s.pairOf f = none ∧ (s.rd
      Fld.ETH_FLOW_CTL_TYPE f = 2 ∨ s.rd Fld.ETH_FLOW_CTL_TYPE f = 3) ∧ (s.flowRx f).last + ms 10 ≤ s.up + dt) :=
  ⟨⟨((st [(Fld.CTRL_DEV_STATE_MODE, 0, 1), (Fld.MNTL_STAT_ROLE, 0, 4), (Fld.ETH_PORT_CTL_EN, 1, 1), (Fld.ETH_PORT_STAT_LINK_UP,
    1, 1), (Fld.ETH_PORT_CTL_MAX_FRAME, 1, 1518), (Fld.ETH_FLOW_CTL_EN, 5, 1), (Fld.ETH_FLOW_CTL_PORT, 5, 1),
    (Fld.ETH_FLOW_CTL_TYPE, 5, 0), (Fld.ETH_FLOW_MEDIA_RAW, 5, 11), (Fld.CELL_SRC_BIND_EN, 7, 1), (Fld.CELL_SRC_BIND_KIND, 7,
    1), (Fld.CELL_SRC_BIND_RAW, 7, 5)]).putSrc 7 { vat := [{ fmt := 11, epoch := some 0 }] }).putFlowRx 5 { alive := true },
    0, 1, { dip := 0, dport := 0, sip := 0, sport := 0, vid := none, ssrc := 0, len := 100 }, 5, fmt1080 0 1, 3, 0, true,
    [{ field := true, line := 3, offset := 0, data := [1, 2] }], 7, { fmt := 11, epoch := some 0 }, rfl, by decide +kernel⟩,
   ⟨st [(Fld.CTRL_DEV_STATE_MODE, 0, 1), (Fld.MNTL_STAT_ROLE, 0, 4), (Fld.ETH_PORT_CTL_EN, 1, 1), (Fld.ETH_PORT_STAT_LINK_UP, 1,
    1), (Fld.ETH_PORT_CTL_MAX_FRAME, 1, 1518), (Fld.ETH_FLOW_CTL_EN, 5, 1), (Fld.ETH_FLOW_CTL_PORT, 5, 1),
    (Fld.ETH_FLOW_CTL_TYPE, 5, 0), (Fld.ETH_FLOW_MEDIA_RAW, 5, 11), (Fld.CELL_SRC_BIND_EN, 7, 1), (Fld.CELL_SRC_BIND_KIND, 7,
    1), (Fld.CELL_SRC_BIND_RAW, 7, 5)], 0, 1,
    { dip := 0, dport := 0, sip := 0, sport := 0, vid := none, ssrc := 0, len := 100 }, 5, 3, 4, true, true, true, true, [],
    rfl, by decide +kernel⟩,
   ⟨(st [(Fld.CTRL_DEV_STATE_MODE, 0, 1), (Fld.MNTL_STAT_ROLE, 0, 4), (Fld.ETH_PORT_CTL_EN, 1, 1), (Fld.ETH_PORT_STAT_LINK_UP, 1,
    1), (Fld.ETH_PORT_CTL_MAX_FRAME, 1, 1518), (Fld.ETH_FLOW_CTL_EN, 5, 1), (Fld.ETH_FLOW_CTL_PORT, 5, 1),
    (Fld.ETH_FLOW_CTL_TYPE, 5, 1), (Fld.CELL_SRC_BIND_EN, 7, 1), (Fld.CELL_SRC_BIND_KIND, 7, 1), (Fld.CELL_SRC_BIND_RAW, 7,
    5), (Fld.CELL_DST_BIND_EN, 9, 1), (Fld.CELL_DST_BIND_KIND, 9, 1), (Fld.CELL_DST_BIND_RAW, 9, 6), (Fld.WARP_DST_CFG_EN, 9,
    1), (Fld.WARP_DST_ROUTE_SRC, 9, 7), (Fld.ETH_FLOW_CTL_EN, 6, 1), (Fld.ETH_FLOW_CTL_DIR, 6, 1), (Fld.ETH_FLOW_CTL_TYPE, 6,
    1), (Fld.ETH_FLOW_CTL_PORT, 6, 1)]).putFlowRx 5 { alive := true }, 0, 1,
    { dip := 0, dport := 0, sip := 0, sport := 0, vid := none, ssrc := 0, len := 100 }, 5, 3, 4, [7], 7, 9, 6, rfl, by decide +kernel⟩,
   ⟨(st [(Fld.CTRL_DEV_STATE_MODE, 0, 1), (Fld.MNTL_STAT_ROLE, 0, 4), (Fld.ETH_PORT_CTL_EN, 1, 1), (Fld.ETH_PORT_STAT_LINK_UP, 1,
    1), (Fld.ETH_PORT_CTL_MAX_FRAME, 1, 1518), (Fld.ETH_FLOW_CTL_EN, 5, 1), (Fld.ETH_FLOW_CTL_PORT, 5, 1),
    (Fld.ETH_FLOW_CTL_TYPE, 5, 2), (Fld.ETH_FLOW_MEDIA_RAW, 5, 2 + 256 * 40)]).putFlowRx 5 { alive := true }, 0, 1,
    { dip := 0, dport := 0, sip := 0, sport := 0, vid := none, ssrc := 0, len := 100 }, 5, 3, 4, true, List.replicate 48 [5,
    6], 1, rfl, by decide +kernel⟩,
   ⟨(st [(Fld.CTRL_DEV_STATE_MODE, 0, 1), (Fld.MNTL_STAT_ROLE, 0, 4), (Fld.ETH_PORT_CTL_EN, 1, 1), (Fld.ETH_PORT_STAT_LINK_UP, 1,
    1), (Fld.ETH_PORT_CTL_MAX_FRAME, 1, 1518), (Fld.ETH_FLOW_CTL_EN, 5, 1), (Fld.ETH_FLOW_CTL_PORT, 5, 1),
    (Fld.ETH_FLOW_CTL_TYPE, 5, 3), (Fld.ETH_FLOW_MEDIA_RAW, 5, 2 + 256 * 40)]).putFlowRx 5 { alive := true }, 0, 1,
    { dip := 0, dport := 0, sip := 0, sport := 0, vid := none, ssrc := 0, len := 100 }, 5, 3, 4, List.replicate 48 [⟨5, true,
    true, true⟩, ⟨6, false, true, true⟩], 1, rfl, by decide +kernel⟩,
   ⟨((st [(Fld.CTRL_DEV_STATE_MODE, 0, 1), (Fld.MNTL_STAT_ROLE, 0, 4), (Fld.ETH_PORT_CTL_EN, 1, 1), (Fld.ETH_PORT_STAT_LINK_UP,
    1, 1), (Fld.ETH_PORT_CTL_MAX_FRAME, 1, 1518), (Fld.ETH_FLOW_CTL_EN, 5, 1), (Fld.ETH_FLOW_CTL_PORT, 5, 1),
    (Fld.ETH_FLOW_CTL_TYPE, 5, 4), (Fld.ETH_FLOW_MEDIA_RAW, 5, 6), (Fld.CELL_SRC_BIND_EN, 7, 1), (Fld.CELL_SRC_BIND_KIND, 7,
    1), (Fld.ETH_FLOW_MEDIA_RAW, 6, 11), (Fld.CELL_SRC_BIND_RAW, 7, 6)]).putSrc 7 { vat := [{ fmt := 11 }] }).putFlowRx 5
    { alive := true }, 0, 1, { dip := 0, dport := 0, sip := 0, sport := 0, vid := none, ssrc := 0, len := 100 }, 5, 3, true,
    beBytes 4 12 ++ ancHead false false 1 ++ wpkt 0x60, wpkt 0x60, 6, 7, { fmt := 11 }, [], rfl, by decide +kernel⟩,
   ⟨({ st [(Fld.ETH_FLOW_MEDIA_RAW, 5, 11)] with up := ms 50 } : State).putFlowRx 5 { alive := true, last := ms 25 }, 0, 5,
    fmt1080 0 1, rfl, by decide +kernel⟩,
   ⟨({ st [(Fld.ETH_FLOW_CTL_TYPE, 5, 3)] with up := ms 50 } : State).putFlowRx 5 { alive := true, last := ms 40 }, 0, 5, rfl,
    by decide +kernel⟩⟩

theorem witness_TimeMaster :
    (∃ (s : State) (dt : Nat) (p : Fin 18), s.runs ∧ s.multicasts p = true ∧ s.on Fld.TSVC_PORT_CFG_AUTH p = false ∧
      (s.tportOf p).syncAt.all (fun b => b + ns 125000000 ≤ s.up + dt) = true ∧ s.tsvc.sent = [] ∧ s.sends p 0) ∧
    (∃ (s : State) (dt : Nat) (p : Fin 18) (seq b teb : Nat), s.runs ∧ s.tsvc.sent.find? (fun q => q.1 == p.val) = some
      (p.val, seq, b, teb) ∧ s.tsRun = true ∧ s.ptpRole p = 1 ∧ s.on Fld.TSVC_PORT_CFG_AUTH p = false ∧ s.sends p 2) ∧
    (∃ (s : State) (dt : Nat) (p : Fin 18) (i : Fin 1048576) (seq b teb : Nat), s.runs ∧ s.tsvc.sent.find? (fun q => q.1 == 32
      + i.val) = some (32 + i.val, seq, b, teb) ∧ s.tsRun = true ∧ s.ptpRole p = 1 ∧ (s.tentOf i).auth = false ∧ (s.tentOf
      i).port = p.val ∧ s.sends p 2) ∧
    (∃ (s : State) (dt : Nat) (p : Fin 18), s.runs ∧ s.multicasts p = true ∧ s.on Fld.TSVC_PORT_CFG_AUTH p = false ∧
      (s.tportOf p).annAt = none ∧ s.sends p 2) ∧
    (∃ (s : State) (dt : Nat) (p : Fin 18), s.runs ∧ s.multicasts p = true ∧ s.on Fld.TSVC_PORT_CFG_AUTH p = false ∧
      (s.tportOf p).metaAt = none ∧ s.sends p 2) ∧
    (∃ (s : State) (dt : Nat) (p : Fin 18) (len : Nat), s.runs ∧ s.portUp p = true ∧ 64 ≤ len ∧ len ≤ s.rd
      Fld.ETH_PORT_CTL_MAX_FRAME p ∧ s.ptpRole p ≠ 0) ∧
    (∃ (s : State) (dt : Nat) (p : Fin 18) (len : Nat), s.runs ∧ s.portUp p = true ∧ 64 ≤ len ∧ len ≤ s.rd
      Fld.ETH_PORT_CTL_MAX_FRAME p ∧ s.ptpRole p ≠ 0) ∧
    (∃ (s : State) (dt : Nat) (p : Fin 18) (h : PtpHdr), s.runs ∧ s.sends p 2 ∧ 64 ≤ h.len ∧ h.len ≤ s.rd
      Fld.ETH_PORT_CTL_MAX_FRAME p ∧ h.version = 2 ∧ h.sdo = 0 ∧ h.domain.toNat = s.rd Fld.TSVC_PORT_CFG_DOMAIN p ∧ h.auth =
      none ∧ s.ptpRole p = 1 ∧ s.tsRun = true ∧ s.on Fld.TSVC_PORT_CFG_AUTH p = false ∧ h.multicast = true ∧ (s.tsvc.load + 2)
      * 128 + s.ptpResvAll ≤ 20000000 * 128) :=
  ⟨⟨st [(Fld.CTRL_DEV_STATE_MODE, 0, 1), (Fld.KILN_STAT_TIME_VALID, 0, 1), (Fld.KILN_STAT_STATE, 0, 2), (Fld.ETH_PORT_CTL_EN, 1,
    1), (Fld.ETH_PORT_STAT_LINK_UP, 1, 1), (Fld.ETH_PORT_CTL_MAX_FRAME, 1, 1518), (Fld.TSVC_PORT_CFG_ROLE, 1, 1),
    (Fld.TSVC_PORT_CFG_MCAST, 1, 1)], 0, 1, rfl, by decide +kernel⟩,
   ⟨(st [(Fld.CTRL_DEV_STATE_MODE, 0, 1), (Fld.KILN_STAT_TIME_VALID, 0, 1), (Fld.KILN_STAT_STATE, 0, 2), (Fld.ETH_PORT_CTL_EN, 1,
    1), (Fld.ETH_PORT_STAT_LINK_UP, 1, 1), (Fld.ETH_PORT_CTL_MAX_FRAME, 1, 1518), (Fld.TSVC_PORT_CFG_ROLE, 1, 1),
    (Fld.TSVC_PORT_CFG_MCAST, 1, 1)]).onTsvc fun z => { z with sent := [(1, 4, 131073, 9)] }, 0, 1, 4, 131073, 9, rfl, by decide +kernel⟩,
   ⟨((st [(Fld.CTRL_DEV_STATE_MODE, 0, 1), (Fld.KILN_STAT_TIME_VALID, 0, 1), (Fld.KILN_STAT_STATE, 0, 2), (Fld.ETH_PORT_CTL_EN,
    1, 1), (Fld.ETH_PORT_STAT_LINK_UP, 1, 1), (Fld.ETH_PORT_CTL_MAX_FRAME, 1, 1518), (Fld.TSVC_PORT_CFG_ROLE, 1, 1),
    (Fld.TSVC_PORT_CFG_MCAST, 1, 1)]).onTsvc fun z => { z with sent := [(39, 4, 131073, 9)] }).putTent 7
    { port := 1, mac := 5, ip := 6 }, 0, 1, 7, 4, 131073, 9, rfl, by decide +kernel⟩,
   ⟨st [(Fld.CTRL_DEV_STATE_MODE, 0, 1), (Fld.KILN_STAT_TIME_VALID, 0, 1), (Fld.KILN_STAT_STATE, 0, 2), (Fld.ETH_PORT_CTL_EN, 1,
    1), (Fld.ETH_PORT_STAT_LINK_UP, 1, 1), (Fld.ETH_PORT_CTL_MAX_FRAME, 1, 1518), (Fld.TSVC_PORT_CFG_ROLE, 1, 1),
    (Fld.TSVC_PORT_CFG_MCAST, 1, 1)], 0, 1, rfl, by decide +kernel⟩,
   ⟨st [(Fld.CTRL_DEV_STATE_MODE, 0, 1), (Fld.KILN_STAT_TIME_VALID, 0, 1), (Fld.KILN_STAT_STATE, 0, 2), (Fld.ETH_PORT_CTL_EN, 1,
    1), (Fld.ETH_PORT_STAT_LINK_UP, 1, 1), (Fld.ETH_PORT_CTL_MAX_FRAME, 1, 1518), (Fld.TSVC_PORT_CFG_ROLE, 1, 1),
    (Fld.TSVC_PORT_CFG_MCAST, 1, 1)], 0, 1, rfl, by decide +kernel⟩,
   ⟨st [(Fld.CTRL_DEV_STATE_MODE, 0, 1), (Fld.KILN_STAT_TIME_VALID, 0, 1), (Fld.KILN_STAT_STATE, 0, 2), (Fld.ETH_PORT_CTL_EN, 1,
    1), (Fld.ETH_PORT_STAT_LINK_UP, 1, 1), (Fld.ETH_PORT_CTL_MAX_FRAME, 1, 1518), (Fld.TSVC_PORT_CFG_ROLE, 1, 1),
    (Fld.TSVC_PORT_CFG_MCAST, 1, 1)], 0, 1, 100, rfl, by decide +kernel⟩,
   ⟨st [(Fld.CTRL_DEV_STATE_MODE, 0, 1), (Fld.KILN_STAT_TIME_VALID, 0, 1), (Fld.KILN_STAT_STATE, 0, 2), (Fld.ETH_PORT_CTL_EN, 1,
    1), (Fld.ETH_PORT_STAT_LINK_UP, 1, 1), (Fld.ETH_PORT_CTL_MAX_FRAME, 1, 1518), (Fld.TSVC_PORT_CFG_ROLE, 1, 1),
    (Fld.TSVC_PORT_CFG_MCAST, 1, 1)], 0, 1, 100, rfl, by decide +kernel⟩,
   ⟨st [(Fld.CTRL_DEV_STATE_MODE, 0, 1), (Fld.KILN_STAT_TIME_VALID, 0, 1), (Fld.KILN_STAT_STATE, 0, 2), (Fld.ETH_PORT_CTL_EN, 1,
    1), (Fld.ETH_PORT_STAT_LINK_UP, 1, 1), (Fld.ETH_PORT_CTL_MAX_FRAME, 1, 1518), (Fld.TSVC_PORT_CFG_ROLE, 1, 1),
    (Fld.TSVC_PORT_CFG_MCAST, 1, 1)], 0, 1,
    { version := 2, sdo := 0, domain := 0, multicast := true, srcId := 77, seqId := 5, corr := 6, sip := 8, sport := 9, smac := 10, auth := none, len := 100 },
    rfl, by decide +kernel⟩⟩

theorem witness_TimeGrants :
    (∃ (s : State) (dt : Nat) (p : Fin 18) (h : PtpHdr) (i : Nat) (q : UniReq), s.runs ∧ s.sends p 2 ∧ 64 ≤ h.len ∧ h.len ≤
      s.rd Fld.ETH_PORT_CTL_MAX_FRAME p ∧ h.version = 2 ∧ h.sdo = 0 ∧ h.domain.toNat = s.rd Fld.TSVC_PORT_CFG_DOMAIN p ∧
      h.auth = none ∧ s.ptpRole p = 1 ∧ s.tsRun = true ∧ s.on Fld.TSVC_PORT_CFG_AUTH p = false ∧ s.on
      Fld.TSVC_PORT_CFG_UNICAST p = true ∧ s.sessionOf p h = some i ∧ (q.kind = 11 ∨ q.kind = 0 ∨ q.kind = 9) ∧ (s.grantRange
      p q.kind.toNat).1 ≤ q.logInterval.toInt ∧ q.logInterval.toInt ≤ (s.grantRange p q.kind.toNat).2 ∧ 10 ≤ q.duration.toNat
      ∧ s.ptpResv p + rateCost q.logInterval.toInt (q.kind != 11) ≤ s.rd Fld.TSVC_NEG_LIM_PPS_LIM p * 1000 * 128 ∧
      s.ptpResvAll + rateCost q.logInterval.toInt (q.kind != 11) ≤ 16000000 * 128) ∧
    (∃ (s : State) (dt : Nat) (p : Fin 18) (h : PtpHdr) (i : Nat) (k : BitVec 4), s.runs ∧ s.sends p 2 ∧ 64 ≤ h.len ∧ h.len ≤
      s.rd Fld.ETH_PORT_CTL_MAX_FRAME p ∧ h.version = 2 ∧ h.sdo = 0 ∧ h.domain.toNat = s.rd Fld.TSVC_PORT_CFG_DOMAIN p ∧
      h.auth = none ∧ s.ptpRole p = 1 ∧ s.tsRun = true ∧ s.on Fld.TSVC_PORT_CFG_AUTH p = false ∧ s.on
      Fld.TSVC_PORT_CFG_UNICAST p = true ∧ s.sessionOf p h = some i ∧ (k = 11 ∨ k = 0 ∨ k = 9)) ∧
    (∃ (s : State) (dt : Nat) (i : Fin 1048576) (kind : BitVec 4), s.runs ∧ ((s.tentOf i).grant kind.toNat).on = true ∧
      reached (s.start dt).count ((s.tentOf i).grant kind.toNat).expiry = true) ∧
    (∃ (s : State) (dt : Nat) (i : Fin 1048576) (p : Fin 18), s.runs ∧ (s.tentOf i).ann.on = true ∧ reached (s.start dt).count
      (s.tentOf i).ann.due = true ∧ s.tsRun = true ∧ s.ptpRole p = 1 ∧ (s.tentOf i).port = p.val ∧ (s.tentOf i).auth = false ∧
      s.sends p 2) ∧
    (∃ (s : State) (dt : Nat) (i : Fin 1048576) (p : Fin 18), s.runs ∧ (s.tentOf i).syn.on = true ∧ reached (s.start dt).count
      (s.tentOf i).syn.due = true ∧ s.tsRun = true ∧ s.ptpRole p = 1 ∧ (s.tentOf i).port = p.val ∧ (s.tentOf i).auth = false ∧
      s.tsvc.sent = [] ∧ s.sends p 0) :=
  ⟨⟨(st [(Fld.CTRL_DEV_STATE_MODE, 0, 1), (Fld.KILN_STAT_TIME_VALID, 0, 1), (Fld.KILN_STAT_STATE, 0, 2), (Fld.ETH_PORT_CTL_EN, 1,
    1), (Fld.ETH_PORT_STAT_LINK_UP, 1, 1), (Fld.ETH_PORT_CTL_MAX_FRAME, 1, 1518), (Fld.TSVC_PORT_CFG_ROLE, 1, 1),
    (Fld.TSVC_PORT_CFG_MCAST, 1, 1), (Fld.TSVC_PORT_CFG_UNICAST, 1, 1), (Fld.TSVC_NEG_CFG_ANN_MIN, 1, 13),
    (Fld.TSVC_NEG_CFG_ANN_MAX, 1, 4), (Fld.TSVC_NEG_LIM_PPS_LIM, 1, 9), (Fld.TSVC_NEG_LIM_MAX_DUR, 1, 300)]).putTent 7
    { valid := true, bind := true, port := 1, portId := 77 }, 0, 1,
    { version := 2, sdo := 0, domain := 0, multicast := false, srcId := 77, seqId := 5, corr := 6, sip := 8, sport := 9, smac := 10, auth := none, len := 100 },
    7, { kind := 11, logInterval := 0, duration := 500 }, rfl, by decide +kernel⟩,
   ⟨(st [(Fld.CTRL_DEV_STATE_MODE, 0, 1), (Fld.KILN_STAT_TIME_VALID, 0, 1), (Fld.KILN_STAT_STATE, 0, 2), (Fld.ETH_PORT_CTL_EN, 1,
    1), (Fld.ETH_PORT_STAT_LINK_UP, 1, 1), (Fld.ETH_PORT_CTL_MAX_FRAME, 1, 1518), (Fld.TSVC_PORT_CFG_ROLE, 1, 1),
    (Fld.TSVC_PORT_CFG_MCAST, 1, 1), (Fld.TSVC_PORT_CFG_UNICAST, 1, 1)]).putTent 7
    { valid := true, bind := true, port := 1, portId := 77, ann := { on := true } }, 0, 1,
    { version := 2, sdo := 0, domain := 0, multicast := false, srcId := 77, seqId := 5, corr := 6, sip := 8, sport := 9, smac := 10, auth := none, len := 100 },
    7, 11, rfl, by decide +kernel⟩,
   ⟨({} : State).putTent 7 { syn := { on := true } }, 0, 7, 0, rfl, by decide +kernel⟩,
   ⟨(st [(Fld.CTRL_DEV_STATE_MODE, 0, 1), (Fld.KILN_STAT_TIME_VALID, 0, 1), (Fld.KILN_STAT_STATE, 0, 2), (Fld.ETH_PORT_CTL_EN, 1,
    1), (Fld.ETH_PORT_STAT_LINK_UP, 1, 1), (Fld.ETH_PORT_CTL_MAX_FRAME, 1, 1518), (Fld.TSVC_PORT_CFG_ROLE, 1, 1),
    (Fld.TSVC_PORT_CFG_MCAST, 1, 1)]).putTent 7 { port := 1, ann := { on := true, log := 1 } }, 0, 7, 1, rfl, by decide +kernel⟩,
   ⟨(st [(Fld.CTRL_DEV_STATE_MODE, 0, 1), (Fld.KILN_STAT_TIME_VALID, 0, 1), (Fld.KILN_STAT_STATE, 0, 2), (Fld.ETH_PORT_CTL_EN, 1,
    1), (Fld.ETH_PORT_STAT_LINK_UP, 1, 1), (Fld.ETH_PORT_CTL_MAX_FRAME, 1, 1518), (Fld.TSVC_PORT_CFG_ROLE, 1, 1),
    (Fld.TSVC_PORT_CFG_MCAST, 1, 1)]).putTent 7 { port := 1, syn := { on := true, log := -4 } }, 0, 7, 1, rfl, by decide +kernel⟩⟩

theorem witness_TimeClient :
    (∃ (s : State) (dt : Nat) (p : Fin 18) (h : PtpHdr) (log : BitVec 8) (data : AnnData), s.runs ∧ 64 ≤ h.len ∧ h.len ≤ s.rd
      Fld.ETH_PORT_CTL_MAX_FRAME p ∧ h.version = 2 ∧ h.sdo = 0 ∧ h.domain.toNat = s.rd Fld.TSVC_PORT_CFG_DOMAIN p ∧ h.auth =
      none ∧ h.multicast = true ∧ s.ptpRole p = 2 ∧ s.on Fld.TSVC_PORT_CFG_AUTH p = false ∧ s.portUp p = true ∧ (s.clientOf
      p).foreign = [] ∧ (s.clientOf p).best = none ∧ data.clockClass.toNat ≤ s.rd Fld.TSVC_PORT_CFG_ACC_CLASS p ∧
      data.steps.toNat < 255 ∧ data.gmId.toNat ≠ s.rd Fld.TSVC_CLOCK_ID_ID 0) ∧
    (∃ (s : State) (dt : Nat) (p : Fin 18) (h : PtpHdr) (seconds : BitVec 48) (nanos : BitVec 32), s.runs ∧ 64 ≤ h.len ∧ h.len
      ≤ s.rd Fld.ETH_PORT_CTL_MAX_FRAME p ∧ h.version = 2 ∧ h.sdo = 0 ∧ h.domain.toNat = s.rd Fld.TSVC_PORT_CFG_DOMAIN p ∧
      h.auth = none ∧ h.multicast = true ∧ s.ptpRole p = 2 ∧ s.on Fld.TSVC_PORT_CFG_AUTH p = false ∧ s.portUp p = true ∧
      (s.clientOf p).best = some h.srcId.toNat) ∧
    (∃ (s : State) (dt : Nat) (p : Fin 18) (h : PtpHdr) (seconds : BitVec 48) (nanos : BitVec 32), s.runs ∧ 64 ≤ h.len ∧ h.len
      ≤ s.rd Fld.ETH_PORT_CTL_MAX_FRAME p ∧ h.version = 2 ∧ h.sdo = 0 ∧ h.domain.toNat = s.rd Fld.TSVC_PORT_CFG_DOMAIN p ∧
      h.auth = none ∧ h.multicast = true ∧ s.ptpRole p = 2 ∧ s.on Fld.TSVC_PORT_CFG_AUTH p = false ∧ s.portUp p = true ∧
      (s.clientOf p).best = some h.srcId.toNat) ∧
    (∃ (s : State) (dt : Nat) (p : Fin 18) (h : PtpHdr) (seconds : BitVec 48) (nanos : BitVec 32) (tebs : List TebTlv) (t2
      corr : Int), s.runs ∧ 64 ≤ h.len ∧ h.len ≤ s.rd Fld.ETH_PORT_CTL_MAX_FRAME p ∧ h.version = 2 ∧ h.sdo = 0 ∧
      h.domain.toNat = s.rd Fld.TSVC_PORT_CFG_DOMAIN p ∧ h.auth = none ∧ h.multicast = true ∧ s.ptpRole p = 2 ∧ s.on
      Fld.TSVC_PORT_CFG_AUTH p = false ∧ s.portUp p = true ∧ (s.clientOf p).best = some h.srcId.toNat ∧ (s.clientOf p).sync =
      some (h.seqId.toNat, t2, corr)) ∧
    (∃ (s : State) (dt : Nat) (p : Fin 18), s.runs ∧ s.ptpRole p = 2 ∧ 3 ≤ s.rd Fld.TSVC_PORT_STAT_STATE p ∧ (s.clientOf
      p).reqAt = none ∧ s.on Fld.TSVC_PORT_CFG_AUTH p = false ∧ s.sends p 0) ∧
    (∃ (s : State) (dt : Nat) (p : Fin 18) (h : PtpHdr) (log : BitVec 8) (seconds : BitVec 48) (nanos : BitVec 32) (t1 t2 t3 :
      Int) (teb : Option Nat), s.runs ∧ 64 ≤ h.len ∧ h.len ≤ s.rd Fld.ETH_PORT_CTL_MAX_FRAME p ∧ h.version = 2 ∧ h.sdo = 0 ∧
      h.domain.toNat = s.rd Fld.TSVC_PORT_CFG_DOMAIN p ∧ h.auth = none ∧ h.multicast = true ∧ s.ptpRole p = 2 ∧ s.on
      Fld.TSVC_PORT_CFG_AUTH p = false ∧ s.portUp p = true ∧ (s.clientOf p).best = some h.srcId.toNat ∧ (s.clientOf p).req =
      some (h.seqId.toNat, t3) ∧ (s.clientOf p).cur = some (t1, t2, teb) ∧ s.portIdentity p < 2 ^ 80 ∧ s.rd
      Fld.TSVC_PORT_STAT_STATE p = 3 ∧ (s.clientOf p).good = 7) ∧
    (∃ (s : State) (dt : Nat) (p : Fin 18) (f : Foreign), s.runs ∧ (s.clientOf p).master = some f ∧ f.at_ + 3 * ns (logNs
      f.log) ≤ s.up + dt) ∧
    (∃ (s : State) (dt : Nat) (p : Fin 18), s.runs ∧ 3 ≤ s.rd Fld.TSVC_PORT_STAT_STATE p ∧ (s.clientOf p).doneAt + sec 1 ≤
      s.up + dt) :=
  ⟨⟨st [(Fld.CTRL_DEV_STATE_MODE, 0, 1), (Fld.KILN_STAT_TIME_VALID, 0, 1), (Fld.KILN_STAT_STATE, 0, 2), (Fld.ETH_PORT_CTL_EN, 1,
    1), (Fld.ETH_PORT_STAT_LINK_UP, 1, 1), (Fld.ETH_PORT_CTL_MAX_FRAME, 1, 1518), (Fld.TSVC_PORT_CFG_ROLE, 1, 2),
    (Fld.TSVC_PORT_CFG_ACC_CLASS, 1, 200)], 0, 1,
    { version := 2, sdo := 0, domain := 0, multicast := true, srcId := 77, seqId := 5, corr := 6, sip := 8, sport := 9, smac := 10, auth := none, len := 100 },
    1,
    { gmId := 5, priority1 := 0, clockClass := 6, accuracy := 0, variance := 0, priority2 := 0, steps := 0, timeSource := 0, utcOffset := 37, leap61 := false, leap59 := false, utcValid := true, timeTraceable := true, freqTraceable := true },
    rfl, by decide +kernel⟩,
   ⟨(st [(Fld.CTRL_DEV_STATE_MODE, 0, 1), (Fld.KILN_STAT_TIME_VALID, 0, 1), (Fld.KILN_STAT_STATE, 0, 2), (Fld.ETH_PORT_CTL_EN, 1,
    1), (Fld.ETH_PORT_STAT_LINK_UP, 1, 1), (Fld.ETH_PORT_CTL_MAX_FRAME, 1, 1518), (Fld.TSVC_PORT_CFG_ROLE, 1, 2)]).putClient 1
    { best := some 77 }, 0, 1,
    { version := 2, sdo := 0, domain := 0, multicast := true, srcId := 77, seqId := 5, corr := 6, sip := 8, sport := 9, smac := 10, auth := none, len := 100 },
    0, 0, rfl, by decide +kernel⟩,
   ⟨(st [(Fld.CTRL_DEV_STATE_MODE, 0, 1), (Fld.KILN_STAT_TIME_VALID, 0, 1), (Fld.KILN_STAT_STATE, 0, 2), (Fld.ETH_PORT_CTL_EN, 1,
    1), (Fld.ETH_PORT_STAT_LINK_UP, 1, 1), (Fld.ETH_PORT_CTL_MAX_FRAME, 1, 1518), (Fld.TSVC_PORT_CFG_ROLE, 1, 2)]).putClient 1
    { best := some 77 }, 0, 1,
    { version := 2, sdo := 0, domain := 0, multicast := true, srcId := 77, seqId := 5, corr := 6, sip := 8, sport := 9, smac := 10, auth := none, len := 100 },
    9, 8, rfl, by decide +kernel⟩,
   ⟨(st [(Fld.CTRL_DEV_STATE_MODE, 0, 1), (Fld.KILN_STAT_TIME_VALID, 0, 1), (Fld.KILN_STAT_STATE, 0, 2), (Fld.ETH_PORT_CTL_EN, 1,
    1), (Fld.ETH_PORT_STAT_LINK_UP, 1, 1), (Fld.ETH_PORT_CTL_MAX_FRAME, 1, 1518), (Fld.TSVC_PORT_CFG_ROLE, 1, 2)]).putClient 1
    { best := some 77, sync := some (5, 100, 2) }, 0, 1,
    { version := 2, sdo := 0, domain := 0, multicast := true, srcId := 77, seqId := 5, corr := 6, sip := 8, sport := 9, smac := 10, auth := none, len := 100 },
    9, 8, [⟨0, 44⟩], 100, 2, rfl, by decide +kernel⟩,
   ⟨st [(Fld.CTRL_DEV_STATE_MODE, 0, 1), (Fld.KILN_STAT_TIME_VALID, 0, 1), (Fld.KILN_STAT_STATE, 0, 2), (Fld.ETH_PORT_CTL_EN, 1,
    1), (Fld.ETH_PORT_STAT_LINK_UP, 1, 1), (Fld.ETH_PORT_CTL_MAX_FRAME, 1, 1518), (Fld.TSVC_PORT_CFG_ROLE, 1, 2),
    (Fld.TSVC_PORT_STAT_STATE, 1, 3)], 0, 1, rfl, by decide +kernel⟩,
   ⟨(st [(Fld.CTRL_DEV_STATE_MODE, 0, 1), (Fld.KILN_STAT_TIME_VALID, 0, 1), (Fld.KILN_STAT_STATE, 0, 2), (Fld.ETH_PORT_CTL_EN, 1,
    1), (Fld.ETH_PORT_STAT_LINK_UP, 1, 1), (Fld.ETH_PORT_CTL_MAX_FRAME, 1, 1518), (Fld.TSVC_PORT_CFG_ROLE, 1, 2),
    (Fld.TSVC_PORT_STAT_STATE, 1, 3)]).putClient 1
    { best := some 77, req := some (5, 40), cur := some (10, 20, none), good := 7 }, 0, 1,
    { version := 2, sdo := 0, domain := 0, multicast := true, srcId := 77, seqId := 5, corr := 6, sip := 8, sport := 9, smac := 10, auth := none, len := 100 },
    1, 0, 9, 10, 20, 40, none, rfl, by decide +kernel⟩,
   ⟨(stUp (sec 10) [(Fld.CTRL_DEV_STATE_MODE, 0, 1), (Fld.KILN_STAT_TIME_VALID, 0, 1), (Fld.KILN_STAT_STATE, 0, 2),
    (Fld.ETH_PORT_CTL_EN, 1, 1), (Fld.ETH_PORT_STAT_LINK_UP, 1, 1), (Fld.ETH_PORT_CTL_MAX_FRAME, 1, 1518),
    (Fld.TSVC_PORT_CFG_ROLE, 1, 2), (Fld.TSVC_PORT_STAT_STATE, 1, 4)]).putClient 1
    { best := some 77, foreign := [⟨77, { gmId := 5, priority1 := 0, clockClass := 6, accuracy := 0, variance := 0, priority2 := 0, steps := 0, timeSource := 0, utcOffset := 37, leap61 := false, leap59 := false, utcValid := true, timeTraceable := true, freqTraceable := true }, 0, sec 1, 0⟩] },
    0, 1, ⟨77,
    { gmId := 5, priority1 := 0, clockClass := 6, accuracy := 0, variance := 0, priority2 := 0, steps := 0, timeSource := 0, utcOffset := 37, leap61 := false, leap59 := false, utcValid := true, timeTraceable := true, freqTraceable := true },
    0, sec 1, 0⟩, rfl, by decide +kernel⟩,
   ⟨stUp (sec 10) [(Fld.CTRL_DEV_STATE_MODE, 0, 1), (Fld.KILN_STAT_TIME_VALID, 0, 1), (Fld.KILN_STAT_STATE, 0, 2),
    (Fld.ETH_PORT_CTL_EN, 1, 1), (Fld.ETH_PORT_STAT_LINK_UP, 1, 1), (Fld.ETH_PORT_CTL_MAX_FRAME, 1, 1518),
    (Fld.TSVC_PORT_CFG_ROLE, 1, 2), (Fld.TSVC_PORT_STAT_STATE, 1, 4)], 0, 1, rfl, by decide +kernel⟩⟩

theorem witness_TimeNtp :
    (∃ (s : State) (dt : Nat) (p : Fin 18) (r : NtpReq) (turn : Nat), s.runs ∧ s.sends p 2 ∧ 64 ≤ r.len ∧ r.len ≤ s.rd
      Fld.ETH_PORT_CTL_MAX_FRAME p ∧ s.tsRun = true ∧ s.on Fld.TSVC_PORT_CFG_NTP_EN p = true ∧ r.mode = 3 ∧ r.dip.toNat = tget
      0 s.eth.ip p.val ∧ s.on Fld.TSVC_NTP_CFG_PLAIN_EN 0 = true ∧ r.version = 4 ∧ (s.tsvc.load + 2) * 128 + s.ptpResvAll ≤
      20000000 * 128) ∧
    (∃ (s : State) (dt : Nat) (p : Fin 18) (r : NtpReq) (turn : Nat), s.runs ∧ s.portUp p = true ∧ 64 ≤ r.len ∧ r.len ≤ s.rd
      Fld.ETH_PORT_CTL_MAX_FRAME p ∧ s.tsRun = true ∧ s.on Fld.TSVC_PORT_CFG_NTP_EN p = false) ∧
    (∃ (s : State) (dt : Nat) (p : Fin 18) (r : NtpReq) (uid : List Byte) (c : NtsCookie) (turn n : Nat), s.runs ∧ s.sends p 2
      ∧ 64 ≤ r.len ∧ r.len ≤ s.rd Fld.ETH_PORT_CTL_MAX_FRAME p ∧ s.tsRun = true ∧ s.on Fld.TSVC_PORT_CFG_NTP_EN p = true ∧
      r.mode = 3 ∧ r.dip.toNat = tget 0 s.eth.ip p.val ∧ s.on Fld.TSVC_NTP_CFG_NTS_EN 0 = true ∧ r.version = 4 ∧ (s.tsvc.load
      + 2) * 128 + s.ptpResvAll ≤ 20000000 * 128 ∧ 32 ≤ uid.length ∧ n ≤ 7 ∧ s.ntsOk ⟨[uid], [c], n, true, some c.c2s⟩ c =
      false) ∧
    (∃ (s : State) (dt : Nat) (p : Fin 18) (r : NtpReq) (uid : List Byte) (c : NtsCookie) (turn m : Nat), s.runs ∧ s.sends p 2
      ∧ 64 ≤ r.len ∧ r.len ≤ s.rd Fld.ETH_PORT_CTL_MAX_FRAME p ∧ s.tsRun = true ∧ s.on Fld.TSVC_PORT_CFG_NTP_EN p = true ∧
      r.mode = 3 ∧ r.dip.toNat = tget 0 s.eth.ip p.val ∧ s.on Fld.TSVC_NTP_CFG_NTS_EN 0 = true ∧ r.version = 4 ∧ (s.tsvc.load
      + 2) * 128 + s.ptpResvAll ≤ 20000000 * 128 ∧ 32 ≤ uid.length ∧ s.ntsIssue = some m ∧ ntsLen uid.length 1 + udpFrame ≤
      r.len ∧ s.ntsOk ⟨[uid], [c], 0, true, some c.c2s⟩ c = true) ∧
    (∃ (s : State) (dt : Nat) (p : Fin 18) (j : InjectS), s.runs ∧ s.tsvc.inj = some j ∧ j.port = p.val ∧ j.ts = true ∧
      (s.tportOf p).txts.length < 64 ∧ s.sends p j.queue) ∧
    (∃ (s : State) (dt : Nat) (p : Fin 18) (j : InjectS), s.runs ∧ s.tsvc.inj = some j ∧ j.port = p.val ∧ j.ts = true ∧ 64 ≤
      (s.tportOf p).txts.length) :=
  ⟨⟨st [(Fld.CTRL_DEV_STATE_MODE, 0, 1), (Fld.KILN_STAT_TIME_VALID, 0, 1), (Fld.KILN_STAT_STATE, 0, 2), (Fld.ETH_PORT_CTL_EN, 1,
    1), (Fld.ETH_PORT_STAT_LINK_UP, 1, 1), (Fld.ETH_PORT_CTL_MAX_FRAME, 1, 1518), (Fld.TSVC_PORT_CFG_NTP_EN, 1, 1),
    (Fld.TSVC_NTP_CFG_PLAIN_EN, 0, 1)], 0, 1,
    { dip := 0, sip := 7, sport := 8, version := 4, mode := 3, poll := 6, xmt := 12345, len := 94 }, 5, rfl, by decide +kernel⟩,
   ⟨st [(Fld.CTRL_DEV_STATE_MODE, 0, 1), (Fld.KILN_STAT_TIME_VALID, 0, 1), (Fld.KILN_STAT_STATE, 0, 2), (Fld.ETH_PORT_CTL_EN, 1,
    1), (Fld.ETH_PORT_STAT_LINK_UP, 1, 1), (Fld.ETH_PORT_CTL_MAX_FRAME, 1, 1518), (Fld.TSVC_NTP_CFG_PLAIN_EN, 0, 1)], 0, 1,
    { dip := 0, sip := 7, sport := 8, version := 4, mode := 3, poll := 6, xmt := 12345, len := 94 }, 5, rfl, by decide +kernel⟩,
   ⟨st [(Fld.CTRL_DEV_STATE_MODE, 0, 1), (Fld.KILN_STAT_TIME_VALID, 0, 1), (Fld.KILN_STAT_STATE, 0, 2), (Fld.ETH_PORT_CTL_EN, 1,
    1), (Fld.ETH_PORT_STAT_LINK_UP, 1, 1), (Fld.ETH_PORT_CTL_MAX_FRAME, 1, 1518), (Fld.TSVC_PORT_CFG_NTP_EN, 1, 1),
    (Fld.TSVC_NTP_CFG_NTS_EN, 0, 1)], 0, 1,
    { dip := 0, sip := 7, sport := 8, version := 4, mode := 3, poll := 6, xmt := 12345, len := 94 }, List.replicate 32 1,
    { keyId := 3, key := none, aead := 15, c2s := 4, s2c := 5 }, 5, 2, rfl, by decide +kernel⟩,
   ⟨(st [(Fld.CTRL_DEV_STATE_MODE, 0, 1), (Fld.KILN_STAT_TIME_VALID, 0, 1), (Fld.KILN_STAT_STATE, 0, 2), (Fld.ETH_PORT_CTL_EN, 1,
    1), (Fld.ETH_PORT_STAT_LINK_UP, 1, 1), (Fld.ETH_PORT_CTL_MAX_FRAME, 1, 1518), (Fld.TSVC_PORT_CFG_NTP_EN, 1, 1),
    (Fld.TSVC_NTP_CFG_NTS_EN, 0, 1), (Fld.TSVC_NTS_MKEY_STAT_EN, 2, 1), (Fld.TSVC_NTS_MKEY_STAT_ISSUE, 2, 1),
    (Fld.TSVC_NTS_MKEY_ID_ID, 2, 3)]).onTsvc fun z => { z with nts := [(2, 99)] }, 0, 1,
    { dip := 0, sip := 7, sport := 8, version := 4, mode := 3, poll := 6, xmt := 12345, len := 400 }, List.replicate 32 1,
    { keyId := 3, key := some 99, aead := 15, c2s := 4, s2c := 5 }, 5, 2, rfl, by decide +kernel⟩,
   ⟨(st [(Fld.CTRL_DEV_STATE_MODE, 0, 1), (Fld.KILN_STAT_TIME_VALID, 0, 1), (Fld.KILN_STAT_STATE, 0, 2), (Fld.ETH_PORT_CTL_EN, 1,
    1), (Fld.ETH_PORT_STAT_LINK_UP, 1, 1), (Fld.ETH_PORT_CTL_MAX_FRAME, 1, 1518)]).onTsvc fun z =>
    { z with inj := some { port := 1, queue := 2, len := 3, ts := true, id := 8, addr := 16 } }, 0, 1,
    { port := 1, queue := 2, len := 3, ts := true, id := 8, addr := 16 }, rfl, by decide +kernel⟩,
   ⟨((st [(Fld.CTRL_DEV_STATE_MODE, 0, 1), (Fld.KILN_STAT_TIME_VALID, 0, 1), (Fld.KILN_STAT_STATE, 0, 2), (Fld.ETH_PORT_CTL_EN,
    1, 1), (Fld.ETH_PORT_STAT_LINK_UP, 1, 1), (Fld.ETH_PORT_CTL_MAX_FRAME, 1, 1518)]).onTsvc fun z =>
    { z with inj := some { port := 1, queue := 2, len := 3, ts := true, id := 8, addr := 16 } }).putTport 1
    { txts := List.replicate 64 (1, true, 0) }, 0, 1, { port := 1, queue := 2, len := 3, ts := true, id := 8, addr := 16 },
    rfl, by decide +kernel⟩⟩

theorem witness_AudioPorts :
    (∃ (s : State) (dt : Nat) (p : Fin 24), s.runs ∧ s.portState p = 1 ∧ s.rd Fld.APRT_PORT_CTL_PREROLL_N p ≤ (s.portOf
      p).frames) ∧
    (∃ (s : State) (dt : Nat) (p : Fin 24), s.runs ∧ s.portState p = 3 ∧ s.rd Fld.APRT_PORT_CTL_PREROLL_N p ≤ (s.portOf
      p).frames) ∧
    (∃ (s : State) (dt : Nat) (p : Fin 24) (rx : List (BitVec 32)) (ppm : BitVec 20), s.runs ∧ p.val < 16 ∧ s.portState p = 1
      ∧ s.portMaster p = true ∧ s.waiting .aport p = []) ∧
    (∃ (s : State) (dt : Nat) (p : Fin 24) (rx : List (BitVec 32)) (ppm : BitVec 20) (i j : Nat), s.runs ∧ p.val < 16 ∧
      s.portState p = 2 ∧ s.rd Fld.APRT_PORT_CTL_CLK_MODE p = 1 ∧ (s.portOf p).glitch = false ∧ s.waiting .aport p = [] ∧
      s.fenced .aport p = false ∧ ((List.range (s.portSlots p)).filter fun x => bitOf (s.portMask p) x)[i]? = some j) ∧
    (∃ (s : State) (dt : Nat) (p : Fin 24) (rx : List (BitVec 32)) (ppm : BitVec 20), s.runs ∧ 16 ≤ p.val ∧ s.portState p = 2
      ∧ (s.portOf p).glitch = false ∧ s.waiting .aport p = [] ∧ s.fenced .aport p = false ∧ ((rx.take (s.portSlots p)).filter
      fun w => !madiOk w) ≠ []) ∧
    (∃ (s : State) (dt : Nat) (p : Fin 24) (rx : List (BitVec 32)) (ppm : BitVec 20) (v mask ord at_ : Nat) (c : Change),
      s.runs ∧ s.portState p = 1 ∧ s.portMaster p = true ∧ s.staged = [⟨.APRT_MASK_LO, p, v, mask, ord, at_, none⟩] ∧
      s.waiting .aport p = [c] ∧ fine at_ ≤ fine ((s.start dt).now - s.portGuard p)) ∧
    (∃ (s : State) (dt : Nat) (p : Fin 24), s.runs ∧ s.portExt p = true ∧ (s.portState p = 1 ∨ s.portState p = 2 ∨ s.portState
      p = 5)) ∧
    (∃ (s : State) (dt : Nat) (p : Fin 24), s.runs ∧ s.portExt p = true ∧ s.portState p ≠ 0 ∧ s.portState p ≠ 4) ∧
    (∃ (s : State) (dt : Nat) (p : Fin 24), s.runs ∧ s.portExt p = true ∧ (s.portState p = 1 ∨ s.portState p = 2)) ∧
    (∃ (s : State) (dt : Nat) (p : Fin 24), s.runs ∧ s.portExt p = true ∧ (s.portState p = 4 ∨ s.portState p = 5)) :=
  ⟨⟨(st [(Fld.APRT_PORT_STAT_STATE, 4, 1), (Fld.APRT_PORT_CTL_PREROLL_N, 4, 8)]).putPort 4 { frames := 8 }, 0, 4, rfl, by decide +kernel⟩,
   ⟨(st [(Fld.APRT_PORT_STAT_STATE, 4, 3), (Fld.APRT_PORT_CTL_PREROLL_N, 4, 8)]).putPort 4 { frames := 8 }, 0, 4, rfl, by decide +kernel⟩,
   ⟨st [(Fld.APRT_PORT_STAT_STATE, 4, 1), (Fld.APRT_PORT_CTL_CLK_MODE, 4, 1)], 0, 4, [], 0, rfl, by decide +kernel⟩,
   ⟨st [(Fld.APRT_PORT_STAT_STATE, 4, 2), (Fld.APRT_PORT_CTL_CLK_MODE, 4, 1), (Fld.APRT_MASK_LO_MASK, 4, 2),
    (Fld.CTRL_DEV_STATE_MODE, 0, 1)], 0, 4, [5, 6], 0, 0, 1, rfl, by decide +kernel⟩,
   ⟨st [(Fld.APRT_PORT_STAT_STATE, 20, 2), (Fld.APRT_MASK_LO_MASK, 20, 2)], 0, 20, [5, 16], 9, rfl, by decide +kernel⟩,
   ⟨{ st [(Fld.APRT_PORT_STAT_STATE, 4, 1), (Fld.APRT_PORT_CTL_CLK_MODE, 4, 1)] with now := ms 2, staged := [⟨.APRT_MASK_LO, 4, 3, 2 ^ 32 - 1, 5, ms 1, none⟩] },
    0, 4, [], 0, 3, 2 ^ 32 - 1, 5, ms 1,
    { ord := 5, items := [⟨.APRT_MASK_LO, 4, 3, 2 ^ 32 - 1⟩], src := none, at_ := ms 1, ta := none, allOrNone := false, late := false, verdict := none },
    rfl, by decide +kernel⟩,
   ⟨st [(Fld.APRT_PORT_STAT_STATE, 20, 2), (Fld.APRT_PORT_STAT_CLK_PRESENT, 20, 1)], 0, 20, rfl, by decide +kernel⟩,
   ⟨st [(Fld.APRT_PORT_STAT_STATE, 20, 2)], 0, 20, rfl, by decide +kernel⟩,
   ⟨st [(Fld.APRT_PORT_STAT_STATE, 20, 2)], 0, 20, rfl, by decide +kernel⟩,
   ⟨st [(Fld.APRT_PORT_STAT_STATE, 20, 4)], 0, 20, rfl, by decide +kernel⟩⟩

theorem witness_CaskErrors :
    (∃ (s : State) (dt : Nat) (page : Fin 1572864), s.runs) ∧
    (∃ (s : State) (dt : Nat) (page : Fin 1572864), s.runs ∧ s.rd Fld.CASK_ECC_CTL_CE_LIMIT 0 = 1 ∧ s.pageGone page = false ∧
      s.cask.copying.length < s.rd Fld.CASK_SPARE_STAT_SPARES_LEFT 0) ∧
    (∃ (s : State) (dt : Nat) (page : Fin 1572864) (h : Fin 4096) (off : BitVec 32), s.runs) ∧
    (∃ (s : State) (dt : Nat) (page : Fin 1572864) (k : Fin 1168) (slot line : Nat) (field : Bool) (fr : Frame), s.runs ∧
      (s.srcOf k).slots = [(slot, fr)]) ∧
    (∃ (s : State) (dt : Nat) (page : Fin 1572864) (i : Fin 1048576), s.runs) ∧
    (∃ (s : State) (dt : Nat) (page : Fin 1572864) (at_ : UeAt), s.runs ∧ s.pageGone page = false ∧ s.rd
      Fld.CASK_SPARE_STAT_SPARES_LEFT 0 ≤ s.cask.copying.length) ∧
    (∃ (s : State) (dt : Nat) (page : Fin 1572864), s.runs ∧ s.cask.copying.find? (fun q => q.1 == page.val) = some (page.val,
      0)) :=
  ⟨⟨{}, 0, 5, rfl⟩,
   ⟨st [(Fld.CASK_ECC_CTL_CE_LIMIT, 0, 1), (Fld.CASK_SPARE_STAT_SPARES_LEFT, 0, 100)], 0, 5, rfl, by decide +kernel⟩,
   ⟨({} : State).putBytes (surfAddr 7 128) [1, 2, 3], 0, 5, 7, 130, rfl⟩,
   ⟨({} : State).putSrc 7 { slots := [(2, { complete := true })] }, 0, 5, 7, 2, 3, true, { complete := true }, rfl, by decide +kernel⟩,
   ⟨({} : State).putTent 7 { valid := true, ann := { on := true } }, 0, 5, 7, rfl⟩,
   ⟨st [(Fld.CASK_SPARE_STAT_SPARES_LEFT, 0, 0)], 0, 5, .unused, rfl, by decide +kernel⟩,
   ⟨(st [(Fld.CASK_SPARE_STAT_SPARES_LEFT, 0, 820)]).onCask fun z => { z with copying := [(5, 0)] }, 0, 5, rfl, by decide +kernel⟩⟩

theorem witness_MantleLease :
    (∃ (s : State) (dt : Nat), s.runs ∧ s.role = .holder ∧ s.mantleLink = true ∧ s.mntl.renewAt + s.leaseL / 4 ≤ s.up + dt) ∧
    (∃ (s : State) (dt : Nat) (rx : RxCell) (cell d : List Byte) (h : Hdr), s.runs ∧ s.hears rx cell h d 1 ∧ s.role = .standby
      ∧ s.mntl.half = none) ∧
    (∃ (s : State) (dt : Nat) (rx : RxCell) (cell d : List Byte) (h : Hdr), s.runs ∧ s.hears rx cell h d 1 ∧ s.role = .holder
      ∧ newerEpoch (beAt d 1 1) s.epoch = true) ∧
    (∃ (s : State) (dt : Nat) (rx : RxCell) (cell d : List Byte) (h : Hdr), s.runs ∧ s.hears rx cell h d 2 ∧ s.role = .holder
      ∧ beAt d 2 4 + 1 = s.mntl.renewN) ∧
    (∃ (s : State) (dt : Nat), s.runs ∧ s.role = .holder ∧ 0 < s.mntl.renewN) ∧
    (∃ (s : State) (dt : Nat), s.runs ∧ s.role = .standby ∧ s.mntl.half = none ∧ s.mantleLink = true) ∧
    (∃ (s : State) (dt : Nat), s.runs ∧ s.role = .holder ∧ s.mntl.tc + s.leaseL - ms 1 ≤ s.up + dt ∧ s.mild) ∧
    (∃ (s : State) (dt : Nat), s.runs ∧ s.role = .standby ∧ s.mntl.ts + s.leaseL + ms 1 ≤ s.up + dt ∧ s.mayClaim = true ∧
      s.mild) ∧
    (∃ (s : State) (dt : Nat) (pref : Bool), s.runs ∧ s.role = .none ∧ s.mntl.tn + (if (s.setPref pref).shortWait then
      s.leaseL else 2 * s.leaseL) + ms 1 ≤ s.up + dt ∧ 8 ≤ s.rd Fld.BOOT_STAT_STAGE 0 ∧ s.mayClaim = true ∧ s.mild) ∧
    (∃ (s : State) (dt : Nat) (rx : RxCell) (cell d : List Byte) (h : Hdr), s.runs ∧ s.hears rx cell h d 3 ∧ s.role = .standby
      ∧ s.mayClaim = true ∧ s.mild) :=
  ⟨⟨stUp (ms 9) [(Fld.MNTL_STAT_ROLE, 0, 2), (Fld.IZL_LINK_STAT_STATE, 32, 5), (Fld.MNTL_LEASE_L_MS, 0, 8)], 0, rfl, by decide +kernel⟩,
   ⟨stUp (ms 9) [(Fld.MNTL_STAT_ROLE, 0, 1), (Fld.IZL_LINK_STAT_STATE, 32, 5)], 0, .bytes (wside (wdat 1 7 42 [])), wside (wdat 1
    7 42 []), wdat 1 7 42 [], wsideH (wdat 1 7 42 []), rfl, ⟨State.takes_cellOf _ _ _ _ (by decide +kernel), by decide +kernel⟩, by decide +kernel⟩,
   ⟨stUp (ms 9) [(Fld.MNTL_STAT_ROLE, 0, 2), (Fld.IZL_LINK_STAT_STATE, 32, 5)], 0, .bytes (wside (wdat 1 7 42 [])), wside (wdat 1
    7 42 []), wdat 1 7 42 [], wsideH (wdat 1 7 42 []), rfl, ⟨State.takes_cellOf _ _ _ _ (by decide +kernel), by decide +kernel⟩, by decide +kernel⟩,
   ⟨{ stUp (ms 9) [(Fld.MNTL_STAT_ROLE, 0, 2), (Fld.IZL_LINK_STAT_STATE, 32, 5)] with mntl := { renewN := 43, renewAt := ms 8 } },
    0, .bytes (wside (wdat 2 7 42 [])), wside (wdat 2 7 42 []), wdat 2 7 42 [], wsideH (wdat 2 7 42 []), rfl,
    ⟨State.takes_cellOf _ _ _ _ (by decide +kernel), by decide +kernel⟩, by decide +kernel⟩,
   ⟨{ stUp (ms 9) [(Fld.MNTL_STAT_ROLE, 0, 2)] with mntl := { renewN := 43, renewAt := ms 8 } }, 0, rfl, by decide +kernel⟩,
   ⟨stUp (ms 9) [(Fld.MNTL_STAT_ROLE, 0, 1), (Fld.IZL_LINK_STAT_STATE, 32, 5)], 0, rfl, by decide +kernel⟩,
   ⟨{ stUp (ms 9) [(Fld.MNTL_STAT_ROLE, 0, 2)] with mntl := { flag := true } }, 0, rfl, by decide +kernel⟩,
   ⟨stUp (ms 19) [(Fld.MNTL_STAT_ROLE, 0, 1), (Fld.MNTL_CTL_CLAIM_EN, 0, 1), (Fld.CTRL_DEV_STATE_MODE, 0, 1)], 0, rfl, by decide +kernel⟩,
   ⟨stUp (ms 19) [(Fld.MNTL_STAT_ROLE, 0, 0), (Fld.MNTL_CTL_CLAIM_EN, 0, 1), (Fld.CTRL_DEV_STATE_MODE, 0, 1),
    (Fld.BOOT_STAT_STAGE, 0, 8)], 0, true, rfl, by decide +kernel⟩,
   ⟨stUp (ms 19) [(Fld.MNTL_STAT_ROLE, 0, 1), (Fld.MNTL_CTL_CLAIM_EN, 0, 1), (Fld.CTRL_DEV_STATE_MODE, 0, 1),
    (Fld.IZL_LINK_STAT_STATE, 32, 5)], 0, .bytes (wside (wdat 3 7 42 [])), wside (wdat 3 7 42 []), wdat 3 7 42 [], wsideH
    (wdat 3 7 42 []), rfl, ⟨State.takes_cellOf _ _ _ _ (by decide +kernel), by decide +kernel⟩, by decide +kernel⟩⟩

theorem witness_MantleHandover :
    (∃ (s : State) (dt : Nat) (rx : RxCell) (cell d : List Byte) (h : Hdr) (th : Nat), s.runs ∧ s.hears rx cell h d 7 ∧ s.role
      = .holder ∧ s.mntl.proposed = none ∧ th = ((s.start dt).now + ms 21 - 1) / ms 1 * ms 1) ∧
    (∃ (s : State) (dt : Nat) (rx : RxCell) (cell d : List Byte) (h : Hdr) (th : Nat), s.runs ∧ s.hears rx cell h d 4 ∧ s.role
      = .standby ∧ kilnOf (d.drop 18) 0 = th ∧ (s.start dt).handoverCause = 0) ∧
    (∃ (s : State) (dt : Nat) (rx : RxCell) (cell d : List Byte) (h : Hdr) (th c : Nat), s.runs ∧ s.hears rx cell h d 4 ∧
      s.role = .standby ∧ kilnOf (d.drop 18) 0 = th ∧ (s.start dt).handoverCause = c ∧ c ≠ 0 ∧ (s.start dt).now ≤ th - ms 1) ∧
    (∃ (s : State) (dt : Nat) (rx : RxCell) (cell d : List Byte) (h : Hdr) (th : Nat), s.runs ∧ s.hears rx cell h d 5 ∧ s.role
      = .holder ∧ s.mntl.proposed = some th ∧ kilnOf (d.drop 18) 0 = th ∧ (s.start dt).now ≤ th - ms 10) ∧
    (∃ (s : State) (dt : Nat) (rx : RxCell) (cell d : List Byte) (h : Hdr) (th : Nat), s.runs ∧ s.hears rx cell h d 6 ∧ s.role
      = .holder ∧ s.mntl.proposed = some th ∧ (s.start dt).now < th - ms 1) ∧
    (∃ (s : State) (dt : Nat) (th : Nat), s.runs ∧ s.role = .holder ∧ s.mntl.proposed = some th ∧ s.mntl.accepted = false ∧ th
      - ms 10 ≤ (s.start dt).now) ∧
    (∃ (s : State) (dt : Nat) (th : Nat), s.runs ∧ s.role = .holder ∧ s.mntl.proposed = some th ∧ s.mntl.accepted = true ∧ th
      ≤ (s.start dt).now) ∧
    (∃ (s : State) (dt : Nat) (th : Nat), s.runs ∧ s.role = .standby ∧ s.mntl.proposed = none ∧ s.mntl.agreed = some th ∧ th ≤
      (s.start dt).now ∧ s.mode = .service ∧ s.mild) ∧
    (∃ (s : State) (dt : Nat) (pref : Bool), s.runs ∧ ((s.start dt).setPref pref).reverts = true ∧ ((s.start dt).setPref
      pref).holdoffLeft = 0 ∧ s.mntl.agreed = none ∧ s.mantleLink = true) :=
  ⟨⟨{ stUp (ms 9) [(Fld.MNTL_STAT_ROLE, 0, 2), (Fld.IZL_LINK_STAT_STATE, 32, 5)] with now := ms 5 + 3 }, 0, .bytes (wside (wdat 7
    7 0 [])), wside (wdat 7 7 0 []), wdat 7 7 0 [], wsideH (wdat 7 7 0 []), ms 26, rfl, ⟨State.takes_cellOf _ _ _ _ (by decide +kernel),
    by decide +kernel⟩, by decide +kernel⟩,
   ⟨{ stUp (ms 9) [(Fld.MNTL_STAT_ROLE, 0, 1), (Fld.IZL_LINK_STAT_STATE, 32, 5), (Fld.MNTL_STAT_COMPAT, 0, 1), (Fld.CTRL_DEV_STATE_MODE, 0, 1), (Fld.KILN_STAT_SELECTED, 0, 43)] with now := ms 5 + 3 },
    0, .bytes (wside (wdat 4 7 0 (kilnBytes (ms 30)))), wside (wdat 4 7 0 (kilnBytes (ms 30))), wdat 4 7 0 (kilnBytes (ms
    30)), wsideH (wdat 4 7 0 (kilnBytes (ms 30))), ms 30, rfl, ⟨State.takes_cellOf _ _ _ _ (by decide +kernel), by decide +kernel⟩, by decide +kernel⟩,
   ⟨{ stUp (ms 9) [(Fld.MNTL_STAT_ROLE, 0, 1), (Fld.IZL_LINK_STAT_STATE, 32, 5), (Fld.CTRL_DEV_STATE_MODE, 0, 1), (Fld.KILN_STAT_SELECTED, 0, 43)] with now := ms 5 + 3 },
    0, .bytes (wside (wdat 4 7 0 (kilnBytes (ms 30)))), wside (wdat 4 7 0 (kilnBytes (ms 30))), wdat 4 7 0 (kilnBytes (ms
    30)), wsideH (wdat 4 7 0 (kilnBytes (ms 30))), ms 30, 2, rfl, ⟨State.takes_cellOf _ _ _ _ (by decide +kernel), by decide +kernel⟩, by decide +kernel⟩,
   ⟨{ stUp (ms 9) [(Fld.MNTL_STAT_ROLE, 0, 2), (Fld.IZL_LINK_STAT_STATE, 32, 5)] with now := ms 5 + 3, mntl := { proposed := some (ms 30) } },
    0, .bytes (wside (wdat 5 7 0 (kilnBytes (ms 30)))), wside (wdat 5 7 0 (kilnBytes (ms 30))), wdat 5 7 0 (kilnBytes (ms
    30)), wsideH (wdat 5 7 0 (kilnBytes (ms 30))), ms 30, rfl, ⟨State.takes_cellOf _ _ _ _ (by decide +kernel), by decide +kernel⟩, by decide +kernel⟩,
   ⟨{ stUp (ms 9) [(Fld.MNTL_STAT_ROLE, 0, 2), (Fld.IZL_LINK_STAT_STATE, 32, 5)] with now := ms 5 + 3, mntl := { proposed := some (ms 30) } },
    0, .bytes (wside (wdat 6 7 3 [])), wside (wdat 6 7 3 []), wdat 6 7 3 [], wsideH (wdat 6 7 3 []), ms 30, rfl,
    ⟨State.takes_cellOf _ _ _ _ (by decide +kernel), by decide +kernel⟩, by decide +kernel⟩,
   ⟨{ stUp (ms 9) [(Fld.MNTL_STAT_ROLE, 0, 2)] with now := ms 20, mntl := { proposed := some (ms 30) } }, 0, ms 30, rfl, by decide +kernel⟩,
   ⟨{ stUp (ms 9) [(Fld.MNTL_STAT_ROLE, 0, 2)] with now := ms 30, mntl := { proposed := some (ms 30), accepted := true, flag := true } },
    0, ms 30, rfl, by decide +kernel⟩,
   ⟨{ stUp (ms 9) [(Fld.MNTL_STAT_ROLE, 0, 1), (Fld.CTRL_DEV_STATE_MODE, 0, 1)] with now := ms 30, mntl := { agreed := some (ms 30), seenEpoch := some 6 } },
    0, ms 30, rfl, by decide +kernel⟩,
   ⟨stUp (sec 99) [(Fld.MNTL_STAT_ROLE, 0, 1), (Fld.IZL_LINK_STAT_STATE, 32, 5), (Fld.MNTL_STAT_COMPAT, 0, 1),
    (Fld.CTRL_DEV_STATE_MODE, 0, 1), (Fld.KILN_STAT_SELECTED, 0, 43), (Fld.MNTL_CTL_REVERT_EN, 0, 1)], 0, true, rfl, by decide +kernel⟩⟩

theorem witness_MantleTwin :
    (∃ (s : State) (dt : Nat) (rx : RxCell) (cell : List Byte) (h : Hdr), s.runs ∧ s.takes 32 rx cell h ∧ h.type = 3 ∧ h.slot
      = linkSlot ∧ beAt (payloadOf cell) 0 1 = 1) ∧
    (∃ (s : State) (dt : Nat) (t1 a : Nat), s.runs ∧ s.mntl.fam = some (t1, a) ∧ s.mntl.echoed = false ∧ s.mantleLink = true ∧
      s.sendsCell 32) ∧
    (∃ (s : State) (dt : Nat) (pref : Bool) (w : Fin 16) (r : List Byte), s.runs ∧ s.role ≠ .single ∧ s.mntl.healthSec ≠ some
      (s.start dt).second ∧ s.mantleLink = true ∧ ((s.start dt).setPref pref).healthRecord = r) ∧
    (∃ (s : State) (dt : Nat) (rx : RxCell) (cell d : List Byte) (h : Hdr) (w : Fin 16) (r : List Byte), s.runs ∧ s.hears rx
      cell h d 8 ∧ (d.drop 18).take 64 = r ∧ r.length = 64 ∧ crc32 (r.take 60) = beAt r 60 4) ∧
    (∃ (s : State) (dt : Nat) (a : Nat), s.runs ∧ s.mntl.twinAt = some a ∧ a + sec 3 ≤ s.up + dt) ∧
    (∃ (s : State) (dt : Nat) (rx : RxCell) (cell d : List Byte) (h : Hdr) (l : Nat), s.runs ∧ s.takes 32 rx cell h ∧ (sideOf
      h (payloadOf cell) 3).map (fun q => q.2.2.2.2) = some d ∧ s.mntl.lfsr = some l) ∧
    (∃ (s : State) (dt : Nat) (rx : RxCell) (cell : List Byte) (h : Hdr) (d : Nat) (e : SigEntry), s.runs ∧ s.takes 32 rx cell
      h ∧ h.type = 5 ∧ beAt (payloadOf cell) 1 1 = 1 ∧ beAt (payloadOf cell) 4 2 = d ∧ d < 1152 ∧ e =
      { dst := d, skip := false, route := bitsOf (beAt (payloadOf cell) 6 2) 0 11, epoch := beAt (payloadOf cell) 8 4, sig := beAt (payloadOf cell) 12 4 }) ∧
    (∃ (s : State) (dt : Nat) (rx : RxCell) (cell : List Byte) (h : Hdr) (d : Nat) (x : SigEntry), s.runs ∧ s.takes 32 rx cell
      h ∧ h.type = 5 ∧ beAt (payloadOf cell) 1 1 = 1 ∧ beAt (payloadOf cell) 4 2 = d ∧ d < 1152 ∧ tget [] s.mntl.own d = [x] ∧
      x.dst = d ∧ x.skip = false ∧ x.route = bitsOf (beAt (payloadOf cell) 6 2) 0 11 ∧ x.epoch = beAt (payloadOf cell) 8 4 ∧
      x.sig ≠ beAt (payloadOf cell) 12 4 ∧ s.rd Fld.MNTL_CTL_SIG_N 0 ≤ tget 0 s.mntl.run d + 1 ∧ s.mntl.reported.contains d =
      false) ∧
    (∃ (s : State) (dt : Nat) (d : Fin 1152) (f : Fmt) (l : Nat), s.runs ∧ fmtOf (s.rd Fld.WARP_DST_CFG_FMT d) = some f ∧
      (s.dstOf d).launch = some l ∧ s.on Fld.WARP_DST_CFG_EN d = true ∧ s.dst22 d = false ∧ (s.dstOf d).sigAt ≠ some l ∧ fine
      (s.start dt).now ≤ l + f.period ∧ s.role ≠ .single) ∧
    (∃ (s : State) (dt : Nat), s.runs ∧ s.role = .holder ∧ s.mantleLink = true) :=
  ⟨⟨st [(Fld.IZL_LINK_STAT_STATE, 32, 5)], 0, .bytes (wcell { whdr 3 2047 0 with valid := 10 } [1, 0, 0, 0, 0, 0, 0, 0, 0, 5]),
    wcell { whdr 3 2047 0 with valid := 10 } [1, 0, 0, 0, 0, 0, 0, 0, 0, 5], { whdr 3 2047 0 with valid := 10 }, rfl,
    State.takes_cellOf _ _ _ _ (by decide +kernel), by decide +kernel⟩,
   ⟨{ st [(Fld.IZL_LINK_STAT_STATE, 32, 5), (Fld.IZL_LINK_CTL_ENABLE, 32, 1)] with now := 99, mntl := { fam := some (5, 66) } },
    0, 5, 66, rfl, by decide +kernel⟩,
   ⟨st [(Fld.IZL_LINK_STAT_STATE, 32, 5)], 0, true, 3, ((st [(Fld.IZL_LINK_STAT_STATE, 32, 5)]).setPref true).healthRecord, rfl,
    by decide +kernel⟩,
   ⟨st [(Fld.IZL_LINK_STAT_STATE, 32, 5)], 0, .bytes (wside (wdat 8 1 0 ((({} : State).setPref true).healthRecord))), wside (wdat
    8 1 0 ((({} : State).setPref true).healthRecord)), wdat 8 1 0 ((({} : State).setPref true).healthRecord), wsideH (wdat 8 1
    0 ((({} : State).setPref true).healthRecord)), 3, (({} : State).setPref true).healthRecord, rfl, ⟨State.takes_cellOf _ _ _
    _ (by decide +kernel), by decide +kernel⟩, by decide +kernel⟩,
   ⟨{ stUp (sec 9) [(Fld.MNTL_STAT_TWIN_HEALTHY, 0, 1)] with mntl := { twinAt := some (sec 6) } }, 0, sec 6, rfl, by decide +kernel⟩,
   ⟨{ st [(Fld.IZL_LINK_STAT_STATE, 32, 5)] with mntl := { lfsr := some 77 } }, 0, .bytes (wcell
    { whdr 4 2047 0 with valid := 10 } [3, 3, 0, 0, 0, 0, 0, 2, 55, 66]), wcell { whdr 4 2047 0 with valid := 10 } [3, 3, 0,
    0, 0, 0, 0, 2, 55, 66], [55, 66], { whdr 4 2047 0 with valid := 10 }, 77, rfl, State.takes_cellOf _ _ _ _ (by decide +kernel),
    by decide +kernel⟩,
   ⟨st [(Fld.IZL_LINK_STAT_STATE, 32, 5)], 0, .bytes (wcell { whdr 5 2047 0 with valid := 16 } [0, 1, 0, 0, 0, 9, 0, 3, 0, 0, 0,
    4, 0, 0, 0, 5]), wcell { whdr 5 2047 0 with valid := 16 } [0, 1, 0, 0, 0, 9, 0, 3, 0, 0, 0, 4, 0, 0, 0, 5],
    { whdr 5 2047 0 with valid := 16 }, 9, { dst := 9, skip := false, route := 3, epoch := 4, sig := 5 }, rfl,
    State.takes_cellOf _ _ _ _ (by decide +kernel), by decide +kernel⟩,
   ⟨{ st [(Fld.IZL_LINK_STAT_STATE, 32, 5), (Fld.MNTL_CTL_SIG_N, 0, 2)] with mntl := { own := [(9, [{ dst := 9, skip := false, route := 3, epoch := 4, sig := 6 }])], run := [(9, 1)] } },
    0, .bytes (wcell { whdr 5 2047 0 with valid := 16 } [0, 1, 0, 0, 0, 9, 0, 3, 0, 0, 0, 4, 0, 0, 0, 5]), wcell
    { whdr 5 2047 0 with valid := 16 } [0, 1, 0, 0, 0, 9, 0, 3, 0, 0, 0, 4, 0, 0, 0, 5], { whdr 5 2047 0 with valid := 16 },
    9, { dst := 9, skip := false, route := 3, epoch := 4, sig := 6 }, rfl, State.takes_cellOf _ _ _ _ (by decide +kernel), by decide +kernel⟩,
   ⟨({ st [(Fld.WARP_DST_CFG_EN, 9, 1), (Fld.WARP_DST_CFG_FMT, 9, 11), (Fld.IZL_LINK_STAT_STATE, 32, 5)] with now := ms 41 } :
    State).putDst 9 { launch := some (fine (ms 40)) }, 0, 9, fmt1080 0 1, fine (ms 40), rfl, by decide +kernel⟩,
   ⟨st [(Fld.MNTL_STAT_ROLE, 0, 2), (Fld.MNTL_STAT_COMPAT, 0, 1), (Fld.MNTL_CTL_MIRROR, 0, 1), (Fld.MNTL_CTL_EN, 0, 1),
    (Fld.IZL_LINK_STAT_STATE, 32, 5), (Fld.ETH_FLOW_CTL_EN, 9, 1), (Fld.ETH_FLOW_CTL_DIR, 9, 1)], 0, rfl, by decide +kernel⟩⟩

theorem witness_HopperBeats :
    (∃ (s : State) (dt : Nat) (c : Fin 16) (d : List Byte) (r : HopCh), s.runs ∧ (s.hopOf c).phase = .fetch ∧ (s.hopOf c).stop
      = none ∧ s.hopDescOk (s.rd Fld.HOP_CH_DESC_ADDR c) = true ∧ s.bytesAt (s.rd Fld.HOP_CH_DESC_ADDR c) 32 = d ∧ bitOf (beAt
      d 0 4) 31 = true ∧ bitOf (beAt d 0 4) 23 = false ∧ r =
      { s.hopOf c with ctl := beAt d 0 4, count := beAt d 4 4, src := beAt d 8 8, dst := beAt d 16 8, next := beAt d 24 8 } ∧
      s.hopCheck c r = 0) ∧
    (∃ (s : State) (dt : Nat) (c : Fin 16), s.runs ∧ (s.hopOf c).phase = .fetch) ∧
    (∃ (s : State) (dt : Nat) (c : Fin 16) (k a e i : Nat) (r : HopCh), s.runs ∧ s.hopOf c = r ∧ r.phase = .run ∧ k < beats
      r.src r.count ∧ r.got.contains k = false ∧ tget 0 r.tries k ≠ 100 ∧ beatStart r.src r.count k = a ∧ beatEnd r.src
      r.count k = e ∧ i < e - a ∧ r.crcEn = false) ∧
    (∃ (s : State) (dt : Nat) (c : Fin 16) (k n : Nat) (r : HopCh), s.runs ∧ s.hopOf c = r ∧ r.phase = .run ∧ k < beats r.src
      r.count ∧ r.got.contains k = false ∧ tget 0 r.tries k = n ∧ n ≠ 100 ∧ n < s.rd Fld.HOP_CH_CFG_RETRY_LIMIT c) ∧
    (∃ (s : State) (dt : Nat) (c : Fin 16) (k a e i : Nat) (r : HopCh), s.runs ∧ s.hopOf c = r ∧ r.phase = .run ∧ k < r.issued
      ∧ r.ok.contains k = false ∧ tget 0 r.tries (2 ^ 32 + k) ≠ 100 ∧ beatStart r.dst r.count k = a ∧ beatEnd r.dst r.count k
      = e ∧ i < e - a) ∧
    (∃ (s : State) (dt : Nat) (c : Fin 16) (k a e x : Nat) (r : HopCh), s.runs ∧ s.hopOf c = r ∧ r.phase = .run ∧ k < r.issued
      ∧ r.ok.contains k = false ∧ tget 0 r.tries (2 ^ 32 + k) ≠ 100 ∧ beatStart r.dst r.count k = a ∧ beatEnd r.dst r.count k
      = e ∧ (x < r.dst + a ∨ r.dst + e ≤ x)) ∧
    (∃ (s : State) (dt : Nat) (c : Fin 16) (k n : Nat) (r : HopCh), s.runs ∧ s.hopOf c = r ∧ r.phase = .run ∧ k < r.issued ∧
      r.ok.contains k = false ∧ tget 0 r.tries (2 ^ 32 + k) = n ∧ n ≠ 100 ∧ n < s.rd Fld.HOP_CH_CFG_RETRY_LIMIT c) :=
  ⟨⟨((st [(Fld.HOP_CH_DESC_ADDR, 3, 0x300040)]).putBytes 0x300040 (beBytes 4 (2 ^ 31) ++ beBytes 4 10 ++ beBytes 8 0x300101 ++
    beBytes 8 0x300220 ++ beBytes 8 0)).putHop 3 { phase := .fetch }, 0, 3, beBytes 4 (2 ^ 31) ++ beBytes 4 10 ++ beBytes 8
    0x300101 ++ beBytes 8 0x300220 ++ beBytes 8 0,
    { phase := .fetch, ctl := 2 ^ 31, count := 10, src := 0x300101, dst := 0x300220 }, rfl, by decide +kernel⟩,
   ⟨(st [(Fld.HOP_CH_CTL_GO, 3, 1)]).putHop 3 { phase := .fetch }, 0, 3, rfl, by decide +kernel⟩,
   ⟨(({} : State).putBytes 0x300100 [1, 2, 3, 4, 5, 6, 7, 8]).putHop 3
    { phase := .run, count := 5, src := 0x300101, dst := 0x300220 }, 0, 3, 0, 0, 5, 2,
    { phase := .run, count := 5, src := 0x300101, dst := 0x300220 }, rfl, by decide +kernel⟩,
   ⟨(st [(Fld.HOP_CH_CFG_RETRY_LIMIT, 3, 2)]).putHop 3 { phase := .run, count := 5, src := 0x300101, dst := 0x300220 }, 0, 3, 0,
    0, { phase := .run, count := 5, src := 0x300101, dst := 0x300220 }, rfl, by decide +kernel⟩,
   ⟨({} : State).putHop 3 { phase := .run, count := 5, src := 0x300101, dst := 0x300220, issued := 1, data := [(2, 77)] }, 0, 3,
    0, 0, 5, 2, { phase := .run, count := 5, src := 0x300101, dst := 0x300220, issued := 1, data := [(2, 77)] }, rfl, by decide +kernel⟩,
   ⟨(({} : State).putBytes 0x300225 [9]).putHop 3
    { phase := .run, count := 5, src := 0x300101, dst := 0x300220, issued := 1, data := [(2, 77)] }, 0, 3, 0, 0, 5, 0x300225,
    { phase := .run, count := 5, src := 0x300101, dst := 0x300220, issued := 1, data := [(2, 77)] }, rfl, by decide +kernel⟩,
   ⟨(st [(Fld.HOP_CH_CFG_RETRY_LIMIT, 3, 2)]).putHop 3
    { phase := .run, count := 5, src := 0x300101, dst := 0x300220, issued := 1 }, 0, 3, 0, 0,
    { phase := .run, count := 5, src := 0x300101, dst := 0x300220, issued := 1 }, rfl, by decide +kernel⟩⟩

theorem witness_HopperEnds :
    (∃ (s : State) (dt : Nat) (c : Fin 16) (r : HopCh) (a : Nat), s.runs ∧ s.hopOf c = r ∧ r.phase = .back ∧ s.rd
      Fld.HOP_CH_DESC_ADDR c = a) ∧
    (∃ (s : State) (dt : Nat) (c : Fin 16) (r : HopCh) (a x : Nat), s.runs ∧ s.hopOf c = r ∧ r.phase = .back ∧ s.rd
      Fld.HOP_CH_DESC_ADDR c = a ∧ (x < a ∨ a + 4 ≤ x)) ∧
    (∃ (s : State) (dt : Nat) (c : Fin 16) (r : HopCh) (a x : Nat), s.runs ∧ s.hopOf c = r ∧ r.phase = .run ∧ s.rd
      Fld.HOP_CH_DESC_ADDR c = a ∧ r.moved = r.count ∧ r.checkOnly = false ∧ bitOf r.ctl 30 = false ∧ r.stop = none ∧ (x < a ∨
      a + 8 ≤ x)) ∧
    (∃ (s : State) (dt : Nat) (c : Fin 16) (r : HopCh) (a : Nat), s.runs ∧ s.hopOf c = r ∧ r.phase = .run ∧ s.rd
      Fld.HOP_CH_DESC_ADDR c = a ∧ r.moved = r.count ∧ r.checkOnly = true ∧ bitOf r.ctl 30 = true) ∧
    (∃ (s : State) (dt : Nat) (c : Fin 16) (r : HopCh) (a f k n x : Nat), s.runs ∧ s.hopOf c = r ∧ r.phase = .run ∧ s.rd
      Fld.HOP_CH_DESC_ADDR c = a ∧ r.fail = some (f, k) ∧ r.moved = n ∧ n ≠ r.count ∧ r.pendingWrites = false ∧ r.checkOnly =
      false ∧ (x < a ∨ a + 24 ≤ x)) ∧
    (∃ (s : State) (dt : Nat) (m : Fin 8) (w : Bool) (a : BitVec 64), s.runs) :=
  ⟨⟨(st [(Fld.HOP_CH_DESC_ADDR, 3, 0x300040)]).putHop 3 { phase := .back, cause := 3 }, 0, 3, { phase := .back, cause := 3 },
    0x300040, rfl, by decide +kernel⟩,
   ⟨(st [(Fld.HOP_CH_DESC_ADDR, 3, 0x300040)]).putHop 3 { phase := .back, cause := 3 }, 0, 3, { phase := .back, cause := 3 },
    0x300040, 5, rfl, by decide +kernel⟩,
   ⟨(st [(Fld.HOP_CH_DESC_ADDR, 3, 0x300040)]).putHop 3
    { phase := .run, count := 5, dst := 64, issued := 1, ok := [0], next := 0x300080 }, 0, 3,
    { phase := .run, count := 5, dst := 64, issued := 1, ok := [0], next := 0x300080 }, 0x300040, 0x300048, rfl, by decide +kernel⟩,
   ⟨(st [(Fld.HOP_CH_DESC_ADDR, 3, 0x300040)]).putHop 3
    { phase := .run, ctl := 2 ^ 30, count := 5, dst := 3 * 2 ^ 62, got := [0] }, 0, 3,
    { phase := .run, ctl := 2 ^ 30, count := 5, dst := 3 * 2 ^ 62, got := [0] }, 0x300040, rfl, by decide +kernel⟩,
   ⟨(st [(Fld.HOP_CH_DESC_ADDR, 3, 0x300040)]).putHop 3
    { phase := .run, count := 70, dst := 64, issued := 1, ok := [0], fail := some (64, 2) }, 0, 3,
    { phase := .run, count := 70, dst := 64, issued := 1, ok := [0], fail := some (64, 2) }, 0x300040, 64, 2, 64, 7, rfl,
    by decide +kernel⟩,
   ⟨{}, 0, 6, true, 77, rfl⟩⟩

theorem witness_GnssChannels :
    (∃ (s : State) (dt : Nat) (i : Fin 2), s.por = false ∧ s.on Fld.GNSS_CTL_EN 0 = true) ∧
    (∃ (s : State) (dt : Nat) (i : Fin 2) (c : Fin 96), s.por = false ∧ s.on Fld.GNSS_CTL_EN 0 = true ∧ 2 ≤ s.chState c ∧
      sigInput (s.rd Fld.GNSS_CH_STAT_SIG c) = i) ∧
    (∃ (s : State) (dt : Nat) (i : Fin 2), s.por = false ∧ s.on Fld.GNSS_CTL_EN 0 = true ∧ s.ifOk i = true) ∧
    (∃ (s : State) (dt : Nat) (i : Fin 2), s.por = false) ∧
    (∃ (s : State) (dt : Nat) (c : Fin 96) (prn : Fin 64) (sig : Fin 3) (sweep : Bool), s.por = false ∧ s.on Fld.GNSS_CTL_EN 0
      = true ∧ s.ifOk 0 = true ∧ s.on Fld.KILN_STAT_TIME_VALID 0 = true ∧ s.chOk c = true ∧ s.chState c = 0 ∧ s.svOk sig prn =
      true) ∧
    (∃ (s : State) (dt : Nat) (c : Fin 96) (k : Nat), s.por = false ∧ s.chState c = 1 ∧ tget 0 s.gnss.since c.val + sec 2 ≤
      s.up + dt ∧ sigKey (s.rd Fld.GNSS_CH_STAT_SIG c) (s.rd Fld.GNSS_CH_STAT_PRN c) = k) ∧
    (∃ (s : State) (dt : Nat) (c : Fin 96) (code : Bool), s.por = false ∧ s.chState c = 3) ∧
    (∃ (s : State) (dt : Nat) (c : Fin 96) (sig : Fin 6) (prn : Fin 64) (cn0 : BitVec 16) (sync : Bool), s.por = false ∧ s.on
      Fld.GNSS_CTL_EN 0 = true ∧ s.chOk c = true ∧ s.chState c = 0 ∧ s.svOk sig prn = true ∧ s.ifOk (sigInput sig) = true ∧
      sig.val < 3) ∧
    (∃ (s : State) (dt : Nat) (c : Fin 96) (utc week : Option (BitVec 10)) (alm : Bool) (sig prn : Nat), s.por = false ∧ 2 ≤
      s.chState c ∧ s.mode ≠ .cellar ∧ s.rd Fld.GNSS_CH_STAT_SIG c = sig ∧ sig < 3 ∧ s.rd Fld.GNSS_CH_STAT_PRN c = prn) ∧
    (∃ (s : State) (dt : Nat) (u : Fin 112) (last : Bool), s.por = false ∧ s.gnss.testing = true ∧ (96 ≤ u.val ∨ s.chState u =
      0)) ∧
    (∃ (s : State) (dt : Nat) (u : Fin 112) (last : Bool), s.por = false ∧ s.gnss.testing = true ∧ s.chState u = 0 ∧ u.val <
      96) :=
  ⟨⟨st [(Fld.GNSS_CTL_EN, 0, 1), (Fld.GNSS_IF_CFG_B_CLK_OK, 0, 1), (Fld.GNSS_CH_STAT_STATE, 5, 3), (Fld.GNSS_CH_STAT_SIG, 5, 4)],
    0, 1, rfl, by decide +kernel⟩,
   ⟨st [(Fld.GNSS_CTL_EN, 0, 1), (Fld.GNSS_IF_CFG_B_CLK_OK, 0, 1), (Fld.GNSS_CH_STAT_STATE, 5, 3), (Fld.GNSS_CH_STAT_SIG, 5, 4)],
    0, 1, 5, rfl, by decide +kernel⟩,
   ⟨st [(Fld.GNSS_CTL_EN, 0, 1), (Fld.GNSS_IF_CFG_B_CLK_OK, 0, 1)], 0, 1, rfl, by decide +kernel⟩,
   ⟨{}, 0, 1, rfl⟩,
   ⟨st [(Fld.GNSS_CTL_EN, 0, 1), (Fld.GNSS_IF_CFG_A_CLK_OK, 0, 1), (Fld.KILN_STAT_TIME_VALID, 0, 1), (Fld.GNSS_CTL_SIG_EN, 0,
    63)], 0, 5, 7, 1, true, rfl, by decide +kernel⟩,
   ⟨stUp (sec 3) [(Fld.GNSS_CH_STAT_STATE, 5, 1), (Fld.GNSS_CH_STAT_PRN, 5, 9)], 0, 5, 9, rfl, by decide +kernel⟩,
   ⟨st [(Fld.GNSS_CH_STAT_STATE, 5, 3)], 0, 5, true, rfl, by decide +kernel⟩,
   ⟨st [(Fld.GNSS_CTL_EN, 0, 1), (Fld.GNSS_IF_CFG_A_CLK_OK, 0, 1), (Fld.GNSS_CTL_SIG_EN, 0, 63)], 0, 5, 1, 7, 4000, true, rfl,
    by decide +kernel⟩,
   ⟨{ st [(Fld.GNSS_CH_STAT_STATE, 5, 3), (Fld.GNSS_CH_STAT_PRN, 5, 9)] with now := 77 }, 0, 5, some 37, none, true, 0, 9, rfl,
    by decide +kernel⟩,
   ⟨{ st [] with gnss := { testing := true } }, 0, 5, true, rfl, by decide +kernel⟩,
   ⟨{ st [] with gnss := { testing := true } }, 0, 5, true, rfl, by decide +kernel⟩⟩

theorem witness_GnssSolutions :
    (∃ (s : State) (dt : Nat) (gs : List GMeas) (k slot e : Nat), s.por = false ∧ s.on Fld.GNSS_CTL_EN 0 = true ∧
      s.gnss.testing = false ∧ s.mode ≠ .cellar ∧ (s.start dt).now / ms s.measMs * ms s.measMs = e ∧ s.gnss.epoch ≠ some e ∧
      (s.rd Fld.GNSS_MEAS_PTR_NEWEST 0 + 1) % 16 = slot) ∧
    (∃ (s : State) (dt : Nat) (m : GSol), s.por = false ∧ s.on Fld.GNSS_CTL_EN 0 = true ∧ s.gnss.testing = false ∧ s.mode ≠
      .cellar ∧ s.gnss.second ≠ some (s.start dt).second ∧ s.ifOk 0 = false) ∧
    (∃ (s : State) (dt : Nat) (m : GSol) (p : GPass) (w : GSat), s.por = false ∧ s.on Fld.GNSS_CTL_EN 0 = true ∧
      s.gnss.testing = false ∧ s.mode ≠ .cellar ∧ s.gnss.second ≠ some (s.start dt).second ∧ s.ifOk 0 = true ∧ m =
      { passes := [p], cn0 := [], cn0Max := 0, noise := [], doppler := [], isb := [], predicted := 0, freq := 0, mean := .replicate 3 0, meanSd := 0 }
      ∧ p.sats = List.replicate 8 w ∧ w.residual ≤ s.rd Fld.GNSS_INTEG_CFG_0_RES_LIM 0 ∧ s.rd Fld.GNSS_INTEG_CFG_0_MIN_SV 0 ≤
      8) ∧
    (∃ (s : State) (dt : Nat) (i : Fin 2) (p a : Int), s.por = false ∧ s.mode ≠ .cellar ∧ 3600 ≤ s.gnss.svc) ∧
    (∃ (s : State) (dt : Nat) (c : Fin 3) (v : Int), s.por = false ∧ s.mode ≠ .cellar ∧ 86400 ≤ s.gnss.isbN) ∧
    (∃ (s : State) (dt : Nat) (m : GSol) (gs : List GMeas) (slot k : Nat), s.por = false ∧ s.on Fld.GNSS_CTL_EN 0 = true ∧
      s.mode = .cellar ∧ s.kiln.bare = false ∧ s.gnss.noSol < 60 ∧ s.gnss.second ≠ some (s.start dt).second ∧ (s.rd
      Fld.GNSS_MEAS_PTR_NEWEST 0 + 1) % 16 = slot) ∧
    (∃ (s : State) (dt : Nat), s.por = false ∧ s.on Fld.GNSS_CTL_EN 0 = true ∧ s.mode = .cellar ∧ s.gnss.refreshAt + sec (3600
      * s.rd Fld.GNSS_CFG_CELLAR_NAV_H 0) ≤ s.up + dt) :=
  ⟨⟨{ st [(Fld.GNSS_CTL_EN, 0, 1), (Fld.GNSS_CH_STAT_STATE, 5, 3)] with now := sec 2 + 99 }, 0, [⟨5, false, 1, 2, 3, 4⟩], 7, 1,
    sec 2, rfl, by decide +kernel⟩,
   ⟨{ st [(Fld.GNSS_CTL_EN, 0, 1)] with now := sec 2 + 99 }, 0,
    { passes := [], cn0 := [], cn0Max := 0, noise := [], doppler := [], isb := [], predicted := 0, freq := 0, mean := .replicate 3 0, meanSd := 0 },
    rfl, by decide +kernel⟩,
   ⟨{ st [(Fld.GNSS_CTL_EN, 0, 1), (Fld.GNSS_IF_CFG_A_CLK_OK, 0, 1), (Fld.GNSS_INTEG_CFG_0_MIN_SV, 0, 4)] with now := sec 2 + 99 },
    0,
    { passes := [⟨List.replicate 8 ⟨5, 0⟩, 3, 1, true, 1⟩], cn0 := [], cn0Max := 0, noise := [], doppler := [], isb := [], predicted := 0, freq := 0, mean := .replicate 3 0, meanSd := 0 },
    ⟨List.replicate 8 ⟨5, 0⟩, 3, 1, true, 1⟩, ⟨5, 0⟩, rfl, by decide +kernel⟩,
   ⟨{ st [] with gnss := { svc := 3600 } }, 0, 1, 3, 4, rfl, by decide +kernel⟩,
   ⟨{ st [] with gnss := { isbN := 86400 } }, 0, 1, 4, rfl, by decide +kernel⟩,
   ⟨{ st [(Fld.GNSS_CTL_EN, 0, 1), (Fld.CTRL_DEV_STATE_MODE, 0, 4)] with now := sec 2 + 99 }, 0,
    { passes := [], cn0 := [], cn0Max := 0, noise := [], doppler := [], isb := [], predicted := 0, freq := 0, mean := .replicate 3 0, meanSd := 0 },
    [⟨5, false, 1, 2, 3, 4⟩], 1, 7, rfl, by decide +kernel⟩,
   ⟨stUp (sec 90000) [(Fld.GNSS_CTL_EN, 0, 1), (Fld.CTRL_DEV_STATE_MODE, 0, 4)], 0, rfl, by decide +kernel⟩⟩

theorem witness_LifeResets :
    (∃ (s : State) (dt : Nat), s.por = false ∧ s.boot.resetPin = false ∧ s.mode ≠ .cellar) ∧
    (∃ (s : State) (dt : Nat), s.por = false ∧ s.boot.resetPin = false ∧ s.mode = .cellar) ∧
    (∃ (s : State) (dt : Nat) (factory pref : Bool), s.por = false ∧ s.boot.resetPin = true ∧ s.mode ≠ .cellar) ∧
    (∃ (s : State) (dt : Nat) (factory pref : Bool) (f : Field) (i : Nat), s.por = false ∧ s.boot.resetPin = true ∧ s.mode ≠
      .cellar ∧ survives (f.at i) = false ∧ (∀ g ∈ faultFields ++ [Fld.BOOT_STAT_STAGE, Fld.BOOT_STAT_FACTORY_PIN,
      Fld.BOOT_START_COUNT_COUNT, Fld.CTRL_DEV_STATE_PREV_MODE, Fld.MNTL_STAT_PREF], g.key % 1024 ≠ f.key % 1024)) ∧
    (∃ (s : State) (dt : Nat), s.por = true) ∧
    (True) ∧
    (∃ (s : State) (dt : Nat) (r : Fin 10) (held : Bool), s.por = false) ∧
    (∃ (s : State) (dt : Nat) (r : Fin 10), s.por = false ∧ s.mode ≠ .cellar ∧ s.iso = false) ∧
    (∃ (s : State) (dt : Nat), s.por = false) ∧
    (∃ (s : State) (dt : Nat) (sram : Bool), s.por = false ∧ s.mode ≠ .cellar) :=
  ⟨⟨{}, 0, rfl, by decide +kernel⟩,
   ⟨st [(Fld.CTRL_DEV_STATE_MODE, 0, 4)], 0, rfl, by decide +kernel⟩,
   ⟨{ st [(Fld.CTRL_DEV_STATE_MODE, 0, 1)] with boot := { resetPin := true } }, 0, true, true, rfl, by decide +kernel⟩,
   ⟨{ st [(Fld.CTRL_DEV_STATE_MODE, 0, 1), (Fld.MASH_ROUTE_GAIN, 9, 55)] with boot := { resetPin := true } }, 0, true, true,
    Fld.MASH_ROUTE_GAIN, 9, rfl, by decide +kernel⟩,
   ⟨{ st [(Fld.CTRL_DEV_STATE_MODE, 0, 1)] with por := true, now := 66 }, 0, by decide +kernel⟩,
   trivial,
   ⟨{}, 0, 3, false, rfl⟩,
   ⟨{}, 0, 3, rfl, by decide +kernel⟩,
   ⟨{}, 0, rfl⟩,
   ⟨{}, 0, true, rfl, by decide +kernel⟩⟩

theorem witness_LifeCellar :
    (∃ (s : State) (dt : Nat), s.por = false ∧ s.mode ≠ .cellar) ∧
    (∃ (s : State) (dt : Nat), s.por = false ∧ s.mode ≠ .cellar ∧ s.iso = false ∧ s.role = .holder ∧ s.mantleLink = true) ∧
    (∃ (s : State) (dt : Nat), s.por = false ∧ s.mode = .cellar) ∧
    (∃ (s : State) (dt : Nat) (pref : Bool), s.por = false ∧ s.mode = .cellar ∧ s.boot.cellarByPin = true ∧ s.boot.resetPin =
      false) ∧
    (∃ (s : State) (dt : Nat) (pref : Bool), s.por = false ∧ s.mode ≠ .cellar) :=
  ⟨⟨{}, 0, rfl, by decide +kernel⟩,
   ⟨({ st [(Fld.MNTL_STAT_ROLE, 0, 2), (Fld.IZL_LINK_STAT_STATE, 32, 5)] with mntl := { flag := true } } : State).putTxb 32
    { cells := 2048 }, 0, rfl, by decide +kernel⟩,
   ⟨st [(Fld.CTRL_DEV_STATE_MODE, 0, 4)], 0, rfl, by decide +kernel⟩,
   ⟨{ st [(Fld.CTRL_DEV_STATE_MODE, 0, 4)] with boot := { cellarByPin := true }, iso := true }, 0, true, rfl, by decide +kernel⟩,
   ⟨{}, 0, true, rfl, by decide +kernel⟩⟩

theorem witness_BoardInputs :
    (∃ (s : State) (dt : Nat) (v : Vector (BitVec 16) 8) (k : Fin 8), s.runs ∧ (∀ j : Fin 8, v[j].toInt ≤ v[k].toInt ∧ (j < k
      → v[j].toInt < v[k].toInt))) ∧
    (∃ (s : State) (dt : Nat) (v : Vector (BitVec 16) 8) (k : Fin 8), s.runs ∧ 840 < v[k].toInt) ∧
    (∃ (s : State) (dt : Nat) (b : Byte), s.runs ∧ s.on Fld.PWR_UART_CTL_EN 0 = true ∧ s.pwr.rx.length < 256) ∧
    (∃ (s : State) (dt : Nat) (b : Byte), s.runs ∧ s.on Fld.PWR_UART_CTL_EN 0 = true ∧ 256 ≤ s.pwr.rx.length) ∧
    (∃ (s : State) (dt : Nat) (n : Fin 105), s.runs) ∧
    (∃ (s : State) (dt : Nat) (n : Fin 105), s.runs ∧ s.parked = []) ∧
    (∃ (s : State) (dt : Nat) (k : Fin 4) (d : BitVec 384), s.runs ∧ (s.fuse k).1 = none) ∧
    (∃ (s : State) (dt : Nat) (k : Fin 4) (d : BitVec 384) (e : Nat), s.runs ∧ (s.fuse k).1 = some e) ∧
    (∃ (s : State) (dt : Nat) (k : Fin 4), s.runs) ∧
    (∃ (s : State) (dt : Nat), s.runs ∧ s.flt.pulseEnd ≤ s.up + dt) ∧
    (∃ (s : State) (dt : Nat) (i : Nat) (e : LogEntry), s.runs ∧ s.flt.retry = [(i, e)]) ∧
    (∃ (s : State) (dt : Nat), s.runs) ∧
    (∃ (s : State) (dt : Nat), s.runs) ∧
    (∃ (s : State) (dt : Nat), s.runs) :=
  ⟨⟨{}, 0, #v[1, 2, 3, 9, 0xFFF0, 9, 8, 0], 3, rfl, by decide +kernel⟩,
   ⟨{}, 0, #v[1, 2, 3, 900, 0xFFF0, 9, 8, 0], 3, rfl, by decide +kernel⟩,
   ⟨{ st [(Fld.PWR_UART_CTL_EN, 0, 1)] with pwr := { rx := [3] } }, 0, 7, rfl, by decide +kernel⟩,
   ⟨{ st [(Fld.PWR_UART_CTL_EN, 0, 1)] with pwr := { rx := List.replicate 256 3 } }, 0, 7, rfl, by decide +kernel⟩,
   ⟨{}, 0, 40, rfl⟩,
   ⟨{}, 0, 40, rfl, by decide +kernel⟩,
   ⟨{}, 0, 2, 77, rfl, by decide +kernel⟩,
   ⟨{ st [] with boot := { fuses := [(2, (some 5, false))] } }, 0, 2, 77, 5, rfl, by decide +kernel⟩,
   ⟨{}, 0, 2, rfl⟩,
   ⟨stUp 9 [(Fld.FLT_STAT_PULSE, 0, 1)], 0, rfl, by decide +kernel⟩,
   ⟨(({} : State).onFlt fun z =>
    { z with ledgerOk := false, retry := [(7, ⟨0, 0, false, false, false, false, 0, 1, .none, 0, 0, 0, 0⟩)] }), 0, 7, ⟨0, 0,
    false, false, false, false, 0, 1, .none, 0, 0, 0, 0⟩, rfl, by decide +kernel⟩,
   ⟨{}, 0, rfl⟩,
   ⟨{}, 0, rfl⟩,
   ⟨{}, 0, rfl⟩⟩

theorem witness_RegsLinks :
    (∃ (s : State) (dt : Nat) (m : Master), s.runs ∧ (s.start dt).writes m .PWR_CELLAR_CTL 0 false 1 1 ∧ s.mode ≠ .startUp ∧
      s.mode ≠ .cellar) ∧
    (∃ (s : State) (dt : Nat) (m : Master) (b : Fin 33), s.runs ∧ (s.start dt).writes m .IZL_LINK_CTL b false 0x100 0x100 ∧
      s.clockThere b = true ∧ s.on Fld.IZL_LINK_CTL_ENABLE b = true ∧ s.link b ≠ 0) ∧
    (∃ (s : State) (dt : Nat) (m : Master) (b : Fin 33), s.runs ∧ (s.start dt).writes m .IZL_LINK_CTL b false 1 1 ∧
      s.clockThere b = true ∧ s.on Fld.IZL_LINK_CTL_ENABLE b = false ∧ s.mode ≠ .startUp) ∧
    (∃ (s : State) (dt : Nat) (m : Master) (b : Fin 33), s.runs ∧ (s.start dt).writes m .IZL_LINK_CTL b false 0 1 ∧
      s.clockThere b = true ∧ s.on Fld.IZL_LINK_CTL_ENABLE b = true) ∧
    (∃ (s : State) (dt : Nat) (m : Master) (b : Fin 33) (v : BitVec 2), s.runs ∧ (s.start dt).writes m .IZL_LINK_CTL b false
      (v.toNat * 16) 0x30 ∧ s.clockThere b = true) ∧
    (∃ (s : State) (dt : Nat) (m : Master) (f : Fin 4096), s.runs ∧ (s.start dt).writes m .ETH_FLOW_CTL f false (2 ^ 31) (2 ^
      31) ∧ (s.rd Fld.ETH_FLOW_CTL_DIR f = 1 → s.portResv (s.rd Fld.ETH_FLOW_CTL_PORT f) + s.flowResv f ≤ 95000)) ∧
    (∃ (s : State) (dt : Nat) (m : Master) (f : Fin 4096), s.runs ∧ (s.start dt).writes m .ETH_FLOW_CTL f false (2 ^ 31) (2 ^
      31) ∧ s.on Fld.ETH_FLOW_CTL_EN f = false ∧ s.rd Fld.ETH_FLOW_CTL_DIR f = 1 ∧ 95000 < s.portResv (s.rd
      Fld.ETH_FLOW_CTL_PORT f) + s.flowResv f) ∧
    (∃ (s : State) (dt : Nat) (m : Master) (f : Fin 4096), s.runs ∧ (s.start dt).writes m .ETH_FLOW_CTL f false 0 (2 ^ 31)) ∧
    (∃ (s : State) (dt : Nat) (m : Master) (d : Fin 1152) (v : BitVec 11), s.runs ∧ (s.start dt).writes m .WARP_DST_ROUTE d
      false v.toNat 0x7FF ∧ s.on Fld.WARP_DST_CFG_EN d = true) ∧
    (∃ (s : State) (dt : Nat) (m : Master) (d : Fin 1152) (v : BitVec 11), s.runs ∧ (s.start dt).writes m .WARP_DST_ROUTE d
      false v.toNat 0x7FF ∧ s.on Fld.WARP_DST_CFG_EN d = false ∧ s.staged = [] ∧ s.cs = []) ∧
    (∃ (s : State) (dt : Nat) (m : Master) (p : Fin 24), s.runs ∧ (s.start dt).writes m .APRT_PORT_CTL p false (2 ^ 31) (2 ^
      31) ∧ s.clockThere (80 + p) = true ∧ s.portState p = 0) ∧
    (∃ (s : State) (dt : Nat) (m : Master) (p : Fin 24), s.runs ∧ (s.start dt).writes m .APRT_PORT_CTL p false 0 (2 ^ 31) ∧
      s.clockThere (80 + p) = true ∧ s.portState p = 2) ∧
    (∃ (s : State) (dt : Nat) (m : Master) (p : Fin 24) (v : BitVec 32), s.runs ∧ (s.start dt).writes m .APRT_MASK_LO p false
      v.toNat (2 ^ 32 - 1) ∧ s.clockThere (80 + p) = true ∧ p.val < 16 ∧ s.portState p ≠ 0) ∧
    (∃ (s : State) (dt : Nat) (m : Master) (p : Fin 24) (v : BitVec 32), s.runs ∧ (s.start dt).writes m .APRT_MASK_LO p false
      v.toNat (2 ^ 32 - 1) ∧ s.clockThere (80 + p) = true ∧ 16 ≤ p.val) ∧
    (∃ (s : State) (dt : Nat) (m : Master) (p : Fin 24) (v : BitVec 32) (lo : Nat), s.runs ∧ (s.start dt).writes m
      .APRT_MASK_HI p false v.toNat (2 ^ 32 - 1) ∧ s.clockThere (80 + p) = true ∧ s.portState p ≠ 0 ∧ (s.portOf p).lo = some
      lo ∧ lo < 2 ^ 32 ∧ s.staged = []) :=
  ⟨⟨st [(Fld.CTRL_DEV_STATE_MODE, 0, 1)], 0, .core 0, rfl, by decide +kernel⟩,
   ⟨st [(Fld.CTRL_DEV_STATE_MODE, 0, 1), (Fld.IZL_LINK_CTL_ENABLE, 3, 1), (Fld.IZL_LINK_STAT_STATE, 3, 5),
    (Fld.CTRL_ISLAND_CLK_PRESENT, 0, 255)], 0, .core 0, 3, rfl, by decide +kernel⟩,
   ⟨st [(Fld.CTRL_DEV_STATE_MODE, 0, 1), (Fld.CTRL_ISLAND_CLK_PRESENT, 0, 255)], 0, .core 0, 3, rfl, by decide +kernel⟩,
   ⟨(st [(Fld.CTRL_DEV_STATE_MODE, 0, 1), (Fld.IZL_LINK_CTL_ENABLE, 3, 1), (Fld.IZL_LINK_STAT_STATE, 3, 5),
    (Fld.CTRL_ISLAND_CLK_PRESENT, 0, 255)]).putTxb 3 { cells := 2048 }, 0, .core 0, 3, rfl, by decide +kernel⟩,
   ⟨st [(Fld.CTRL_DEV_STATE_MODE, 0, 1), (Fld.CTRL_ISLAND_CLK_PRESENT, 0, 255)], 0, .core 0, 3, 2, rfl, by decide +kernel⟩,
   ⟨st [(Fld.CTRL_DEV_STATE_MODE, 0, 1)], 0, .core 0, 9, rfl, by decide +kernel⟩,
   ⟨st [(Fld.CTRL_DEV_STATE_MODE, 0, 1), (Fld.ETH_FLOW_CTL_DIR, 9, 1), (Fld.ETH_FLOW_CTL_EN, 9, 0), (Fld.ETH_FLOW_MEDIA_RAW, 9,
    21), (Fld.ETH_FLOW_CTL_DIR, 10, 1), (Fld.ETH_FLOW_CTL_EN, 10, 1), (Fld.ETH_FLOW_MEDIA_RAW, 10, 21), (Fld.ETH_FLOW_CTL_DIR,
    11, 1), (Fld.ETH_FLOW_CTL_EN, 11, 1), (Fld.ETH_FLOW_MEDIA_RAW, 11, 21), (Fld.ETH_FLOW_CTL_DIR, 12, 1),
    (Fld.ETH_FLOW_CTL_EN, 12, 1), (Fld.ETH_FLOW_MEDIA_RAW, 12, 21), (Fld.ETH_FLOW_CTL_DIR, 13, 1), (Fld.ETH_FLOW_CTL_EN, 13,
    1), (Fld.ETH_FLOW_MEDIA_RAW, 13, 21), (Fld.ETH_FLOW_CTL_DIR, 14, 1), (Fld.ETH_FLOW_CTL_EN, 14, 1),
    (Fld.ETH_FLOW_MEDIA_RAW, 14, 21), (Fld.ETH_FLOW_CTL_DIR, 15, 1), (Fld.ETH_FLOW_CTL_EN, 15, 1), (Fld.ETH_FLOW_MEDIA_RAW,
    15, 21), (Fld.ETH_FLOW_CTL_DIR, 16, 1), (Fld.ETH_FLOW_CTL_EN, 16, 1), (Fld.ETH_FLOW_MEDIA_RAW, 16, 21),
    (Fld.ETH_FLOW_CTL_DIR, 17, 1), (Fld.ETH_FLOW_CTL_EN, 17, 1), (Fld.ETH_FLOW_MEDIA_RAW, 17, 21), (Fld.ETH_FLOW_CTL_DIR, 18,
    1), (Fld.ETH_FLOW_CTL_EN, 18, 1), (Fld.ETH_FLOW_MEDIA_RAW, 18, 21)], 0, .core 0, 9, rfl, by decide +kernel⟩,
   ⟨st [(Fld.CTRL_DEV_STATE_MODE, 0, 1), (Fld.ETH_FLOW_CTL_EN, 9, 1)], 0, .core 0, 9, rfl, by decide +kernel⟩,
   ⟨st [(Fld.CTRL_DEV_STATE_MODE, 0, 1), (Fld.WARP_DST_CFG_EN, 9, 1)], 0, .core 0, 9, 2047, rfl, by decide +kernel⟩,
   ⟨st [(Fld.CTRL_DEV_STATE_MODE, 0, 1)], 0, .core 0, 9, 2047, rfl, by decide +kernel⟩,
   ⟨st [(Fld.CTRL_DEV_STATE_MODE, 0, 1), (Fld.CTRL_ISLAND_CLK_PRESENT, 2, 2 ^ 32 - 1)], 0, .core 0, 2, rfl, by decide +kernel⟩,
   ⟨st [(Fld.CTRL_DEV_STATE_MODE, 0, 1), (Fld.CTRL_ISLAND_CLK_PRESENT, 2, 2 ^ 32 - 1), (Fld.APRT_PORT_STAT_STATE, 2, 2),
    (Fld.APRT_PORT_CTL_EN, 2, 1)], 0, .core 0, 2, rfl, by decide +kernel⟩,
   ⟨st [(Fld.CTRL_DEV_STATE_MODE, 0, 1), (Fld.CTRL_ISLAND_CLK_PRESENT, 2, 2 ^ 32 - 1), (Fld.APRT_PORT_STAT_STATE, 2, 2),
    (Fld.APRT_TDM_FMT_SLOTS, 2, 3)], 0, .core 0, 2, 3, rfl, by decide +kernel⟩,
   ⟨st [(Fld.CTRL_DEV_STATE_MODE, 0, 1), (Fld.CTRL_ISLAND_CLK_PRESENT, 3, 2 ^ 32 - 1)], 0, .core 0, 16, 3, rfl, by decide +kernel⟩,
   ⟨(st [(Fld.CTRL_DEV_STATE_MODE, 0, 1), (Fld.CTRL_ISLAND_CLK_PRESENT, 3, 2 ^ 32 - 1), (Fld.APRT_PORT_STAT_STATE, 17,
    2)]).putPort 17 { lo := some 9 }, 0, .core 0, 17, 3, 9, rfl, by decide +kernel⟩⟩

theorem witness_RegsHeads :
    (∃ (s : State) (dt : Nat) (m : Master) (h : Fin 16) (f : Fmt), s.runs ∧ (s.start dt).writes m .STCH_HEAD_CFG h false (2 ^
      31) (2 ^ 31) ∧ s.on Fld.STCH_HEAD_CFG_EN h = false ∧ s.on Fld.STCH_HEAD_STAT_RUNNING h = false ∧ s.headFmt h = some f ∧
      (s.headOf h).waiting = false) ∧
    (∃ (s : State) (dt : Nat) (m : Master) (h : Fin 16), s.runs ∧ (s.start dt).writes m .STCH_HEAD_CFG h false 0 (2 ^ 31) ∧
      s.on Fld.STCH_HEAD_CFG_EN h = true ∧ s.on Fld.STCH_HEAD_STAT_RUNNING h = true) ∧
    (∃ (s : State) (dt : Nat) (m : Master) (h : Fin 16), s.runs ∧ (s.start dt).writes m .STCH_SIG_CTL h false (2 ^ 20) (2 ^
      20)) ∧
    (∃ (s : State) (dt : Nat) (m : Master) (h : Fin 16) (v mask : BitVec 32), s.runs ∧ (s.start dt).writes m .STCH_LAYER_POS
      (h * 8 + 7) false v.toNat mask.toNat ∧ s.apronHead h = true ∧ s.isSafety m = true ∧ mask ≠ 0) ∧
    (∃ (s : State) (dt : Nat) (m : Master) (h : Fin 16) (k : Fin 7) (v mask : BitVec 32), s.runs ∧ s.boot.due = false ∧
      s.apronHead h = true ∧ s.isSafety m = false ∧ mask = 2 ^ 32 - 1 ∧ (s.start dt).mayWrite m (WItem.mk (layerRegs.getD k
      .STCH_LAYER_CTL) (h.val * 8 + 7) false v.toNat mask.toNat).wide = true) ∧
    (∃ (s : State) (dt : Nat) (m : Master) (e : Fin 257), s.runs ∧ (s.start dt).writes m .MASH_ENG_CTL e false 2 2) ∧
    (∃ (s : State) (dt : Nat) (m : Master) (e : Fin 257) (hold : Bool), s.runs ∧ (s.start dt).writes m .MASH_ENG_CTL e false
      (b2n hold) 1) :=
  ⟨⟨st [(Fld.CTRL_DEV_STATE_MODE, 0, 1), (Fld.STCH_HEAD_CFG_FMT, 2, 11)], 0, .core 0, 2, fmt1080 0 1, rfl, by decide +kernel⟩,
   ⟨st [(Fld.CTRL_DEV_STATE_MODE, 0, 1), (Fld.STCH_HEAD_CFG_FMT, 2, 11), (Fld.STCH_HEAD_CFG_EN, 2, 1),
    (Fld.STCH_HEAD_STAT_RUNNING, 2, 1)], 0, .core 0, 2, rfl, by decide +kernel⟩,
   ⟨st [(Fld.CTRL_DEV_STATE_MODE, 0, 1)], 0, .core 0, 2, rfl, by decide +kernel⟩,
   ⟨((st [(Fld.CTRL_DEV_STATE_MODE, 0, 1), (Fld.STCH_HEAD_CFG_SAFETY, 2, 1), (Fld.STCH_HEAD_CFG_FMT, 2, 11),
    (Fld.HCP_SLOT_STAT_RIGHTS, 15, 31), (Fld.STCH_LAYER_SIZE_W, 23, 64), (Fld.STCH_LAYER_SIZE_H, 23, 64),
    (Fld.STCH_LAYER_CROP_SIZE_CW, 23, 64), (Fld.STCH_LAYER_CROP_SIZE_CH, 23, 64), (Fld.STCH_LAYER_STRIDE_STRIDE, 23,
    3)]).putSess 4 { active := true, slot := 15 }).putSurf 0 { state := 1, apron := true, blocks := 1 }, 0, .sess 4, 2,
    0x000A0004, 2 ^ 32 - 1, rfl, by decide +kernel⟩,
   ⟨st [(Fld.CTRL_DEV_STATE_MODE, 0, 1), (Fld.STCH_HEAD_CFG_SAFETY, 2, 3), (Fld.STCH_HEAD_CFG_FMT, 2, 11)], 0, .core 1, 2, 3,
    0x000A0004, 2 ^ 32 - 1, rfl, by decide +kernel⟩,
   ⟨{ st [(Fld.CTRL_DEV_STATE_MODE, 0, 1)] with now := 77 }, 0, .core 0, 9, rfl, by decide +kernel⟩,
   ⟨st [(Fld.CTRL_DEV_STATE_MODE, 0, 1)], 0, .core 0, 9, true, rfl, by decide +kernel⟩⟩

theorem witness_RegsTime :
    (∃ (s : State) (dt : Nat) (m : Master) (v mask : BitVec 32) (f : Field), s.runs ∧ (s.start dt).writes m .KILN_SEL_CTL 0
      false v.toNat mask.toNat ∧ f ∈ Reg.KILN_SEL_CTL.fields ∧ f.acc = .l) ∧
    (∃ (s : State) (dt : Nat) (m : Master) (second : Bool) (v mask : BitVec 32) (f : Field) (r : Reg), s.runs ∧ r = (if second
      then .KILN_REF_ORDER_1 else .KILN_REF_ORDER_0) ∧ f ∈ r.fields ∧ f.acc = .l ∧ (s.start dt).writes m r 0 false v.toNat
      mask.toNat) ∧
    (∃ (s : State) (dt : Nat) (m : Master) (n : Nat), s.runs ∧ (s.start dt).writes m .KILN_SET_CTL 0 false 1 1 ∧ s.on
      Fld.KILN_STAT_TIME_VALID 0 = false ∧ s.rd Fld.KILN_SET_NS_NS 0 = n ∧ n ≤ 999999999 ∧ 44 ≤ s.rd Fld.KILN_STAT_SELECTED 0
      ∧ s.kiln.refs = []) ∧
    (∃ (s : State) (dt : Nat) (m : Master), s.runs ∧ (s.start dt).writes m .KILN_SET_CTL 0 false 1 1 ∧ s.on
      Fld.KILN_STAT_TIME_VALID 0 = true) ∧
    (∃ (s : State) (dt : Nat) (m : Master) (v : BitVec 32), s.runs ∧ (s.start dt).writes m .GNSS_POS_UNC 0 false v.toNat (2 ^
      32 - 1)) ∧
    (∃ (s : State) (dt : Nat) (m : Master) (v : BitVec 32), s.runs ∧ (s.start dt).writes m .GNSS_POS_X 0 false v.toNat (2 ^ 32
      - 1) ∧ s.held = []) ∧
    (∃ (s : State) (dt : Nat) (m : Master) (v : BitVec 32) (k : Fin 3) (r : Reg) (f : Field) (lo : Nat), s.runs ∧ r =
      [.GNSS_POS_X, .GNSS_POS_Y, .GNSS_POS_Z].getD k .GNSS_POS_X ∧ f = [Fld.GNSS_POS_X_POS, Fld.GNSS_POS_Y_POS,
      Fld.GNSS_POS_Z_POS].getD k Fld.GNSS_POS_X_POS ∧ (s.start dt).writes m r 0 true v.toNat (2 ^ 32 - 1) ∧ s.held = [⟨m, r,
      0, lo, 2 ^ 32 - 1⟩] ∧ lo < 2 ^ 32) ∧
    (∃ (s : State) (dt : Nat) (m : Master) (v : BitVec 2), s.runs ∧ (s.start dt).writes m .GNSS_CTL 0 false (v.toNat * 2 ^ 28)
      (3 * 2 ^ 28)) ∧
    (∃ (s : State) (dt : Nat) (m : Master), s.runs ∧ (s.start dt).writes m .GNSS_CTL 0 false 0 (3 * 2 ^ 28)) ∧
    (∃ (s : State) (dt : Nat) (m : Master), s.runs ∧ (s.start dt).writes m .GNSS_CTL 0 false (2 ^ 30) (2 ^ 30)) ∧
    (∃ (s : State) (dt : Nat) (m : Master) (w : Fin 64), s.runs ∧ (s.start dt).writes m .TSVC_SESS_CMD 0 false 1 1) ∧
    (∃ (s : State) (dt : Nat) (m : Master) (keyA keyB : Bool) (e : TEntry) (i : Nat), s.runs ∧ (s.start dt).writes m
      .TSVC_SESS_CMD 0 false (2 + b2n keyA * 8 + b2n keyB * 16) 0x1A ∧ s.rd Fld.TSVC_SESS_SEL_INDEX 0 = i ∧ s.tentOf i = e ∧
      e.anyGrant = false) ∧
    (∃ (s : State) (dt : Nat) (m : Master), s.runs ∧ (s.start dt).writes m .TSVC_SESS_CMD 0 false 4 4) ∧
    (∃ (s : State) (dt : Nat) (m : Master) (slot : BitVec 3) (w : Fin 8), s.runs ∧ (s.start dt).writes m .TSVC_KEY_LOAD 0
      false (2 ^ 31 + slot.toNat) (2 ^ 31 + 0x107) ∧ (∀ p : Fin 18, s.ptpRole p = 0 ∨ s.rd Fld.TSVC_PORT_CFG_GKEY p ≠
      slot.toNat)) ∧
    (∃ (s : State) (dt : Nat) (m : Master) (slot : BitVec 3) (w : Fin 8), s.runs ∧ (s.start dt).writes m .TSVC_KEY_LOAD 0
      false (2 ^ 31 + 256 + slot.toNat) (2 ^ 31 + 0x107) ∧ slot.toNat < 4 ∧ s.on Fld.TSVC_NTS_MKEY_STAT_ISSUE slot.toNat =
      false) ∧
    (∃ (s : State) (dt : Nat) (m : Master) (k j : Fin 4), s.runs ∧ (s.start dt).writes m .TSVC_NTS_MKEY_STAT k false (2 ^ 31 +
      2 ^ 30) (3 * 2 ^ 30) ∧ j ≠ k) ∧
    (∃ (s : State) (dt : Nat) (m : Master) (p : Fin 18) (role : BitVec 2), s.runs ∧ (s.start dt).writes m .TSVC_PORT_CFG p
      false (role.toNat * 2 ^ 30) (3 * 2 ^ 30)) ∧
    (∃ (s : State) (dt : Nat) (m : Master) (v : BitVec 31), s.runs ∧ (s.start dt).writes m .TSVC_INJECT_CTL 0 false (2 ^ 31 +
      v.toNat) (2 ^ 32 - 1) ∧ s.tsvc.inj = none) ∧
    (∃ (s : State) (dt : Nat) (m : Master) (v : BitVec 31), s.runs ∧ (s.start dt).writes m .TSVC_INJECT_CTL 0 false (2 ^ 31 +
      v.toNat) (2 ^ 32 - 1) ∧ s.tsvc.inj.isSome = true) :=
  ⟨⟨st [(Fld.CTRL_DEV_STATE_MODE, 0, 1)], 0, .core 0, 0x40000000, 0x40000000, Fld.KILN_SEL_CTL_MANUAL_EN, rfl, by decide +kernel⟩,
   ⟨st [(Fld.CTRL_DEV_STATE_MODE, 0, 1)], 0, .core 0, true, 0x00050000, 0x003F0000, Fld.KILN_REF_ORDER_1_ENTRY_2,
    .KILN_REF_ORDER_1, rfl, by decide +kernel⟩,
   ⟨st [(Fld.CTRL_DEV_STATE_MODE, 0, 1), (Fld.KILN_SET_SEC_LO_SEC, 0, 77)], 0, .core 0, 0, rfl, by decide +kernel⟩,
   ⟨st [(Fld.CTRL_DEV_STATE_MODE, 0, 1), (Fld.KILN_STAT_TIME_VALID, 0, 1)], 0, .core 0, rfl, by decide +kernel⟩,
   ⟨st [(Fld.CTRL_DEV_STATE_MODE, 0, 1)], 0, .core 0, 99, rfl, by decide +kernel⟩,
   ⟨st [(Fld.CTRL_DEV_STATE_MODE, 0, 1)], 0, .core 0, 99, rfl, by decide +kernel⟩,
   ⟨{ st [(Fld.CTRL_DEV_STATE_MODE, 0, 1)] with held := [⟨.core 0, .GNSS_POS_Y, 0, 5, 2 ^ 32 - 1⟩] }, 0, .core 0, 99, 1,
    .GNSS_POS_Y, Fld.GNSS_POS_Y_POS, 5, rfl, by decide +kernel⟩,
   ⟨st [(Fld.CTRL_DEV_STATE_MODE, 0, 1)], 0, .core 0, 1, rfl, by decide +kernel⟩,
   ⟨st [(Fld.CTRL_DEV_STATE_MODE, 0, 1)], 0, .core 0, rfl, by decide +kernel⟩,
   ⟨st [(Fld.CTRL_DEV_STATE_MODE, 0, 1), (Fld.GNSS_CTL_EN, 0, 1)], 0, .core 0, rfl, by decide +kernel⟩,
   ⟨(st [(Fld.CTRL_DEV_STATE_MODE, 0, 1), (Fld.TSVC_SESS_SEL_INDEX, 0, 5)]).putTent 5 { valid := true, domain := 7 }, 0, .core 0,
    0, rfl, by decide +kernel⟩,
   ⟨(st [(Fld.CTRL_DEV_STATE_MODE, 0, 1), (Fld.TSVC_SESS_SEL_INDEX, 0, 5), (Fld.TSVC_SESS_DATA_DATA, 0, 2 ^ 31 + 77)]).putTent 5
    { domain := 7 }, 0, .core 0, true, false, { domain := 7 }, 5, rfl, by decide +kernel⟩,
   ⟨(st [(Fld.CTRL_DEV_STATE_MODE, 0, 1), (Fld.TSVC_SESS_SEL_INDEX, 0, 5)]).putTent 5 { valid := true, domain := 7 }, 0, .core 0,
    rfl, by decide +kernel⟩,
   ⟨st [(Fld.CTRL_DEV_STATE_MODE, 0, 1), (Fld.TSVC_KEY_ID_ID, 0, 5), (Fld.TSVC_KEY_STAGE_DATA, 3, 9)], 0, .core 0, 3, 3, rfl,
    by decide +kernel⟩,
   ⟨st [(Fld.CTRL_DEV_STATE_MODE, 0, 1), (Fld.TSVC_KEY_ID_ID, 0, 5), (Fld.TSVC_KEY_STAGE_DATA, 3, 9)], 0, .core 0, 3, 3, rfl,
    by decide +kernel⟩,
   ⟨st [(Fld.CTRL_DEV_STATE_MODE, 0, 1), (Fld.TSVC_NTS_MKEY_STAT_ISSUE, 1, 1)], 0, .core 0, 2, 1, rfl, by decide +kernel⟩,
   ⟨st [(Fld.CTRL_DEV_STATE_MODE, 0, 1)], 0, .core 0, 5, 2, rfl, by decide +kernel⟩,
   ⟨st [(Fld.CTRL_DEV_STATE_MODE, 0, 1), (Fld.ETH_PORT_CTL_MAX_FRAME, 3, 1518)], 0, .core 0, 3 * 2 ^ 23 + 100, rfl, by decide +kernel⟩,
   ⟨{ st [(Fld.CTRL_DEV_STATE_MODE, 0, 1), (Fld.ETH_PORT_CTL_MAX_FRAME, 3, 1518)] with tsvc := { inj := some ⟨1, 0, 64, false, 0, 0⟩ } },
    0, .core 0, 3 * 2 ^ 23 + 100, rfl, by decide +kernel⟩⟩

theorem witness_RegsSystem :
    (∃ (s : State) (dt : Nat) (m : Master) (th : Nat), s.runs ∧ (s.start dt).writes m .MNTL_CTL 0 false (2 ^ 26) (2 ^ 26) ∧
      s.role = .holder ∧ s.mntl.proposed = none ∧ th = ((s.start dt).now + ms 21 - 1) / ms 1 * ms 1) ∧
    (∃ (s : State) (dt : Nat) (m : Master), s.runs ∧ (s.start dt).writes m .MNTL_CTL 0 false (2 ^ 26) (2 ^ 26) ∧ s.role ≠
      .holder) ∧
    (∃ (s : State) (dt : Nat) (m : Master), s.runs ∧ (s.start dt).writes m .MNTL_CTL 0 false (2 ^ 31) (2 ^ 31) ∧ s.on
      Fld.MNTL_CTL_EN 0 = false ∧ s.mild) ∧
    (∃ (s : State) (dt : Nat) (m : Master), s.runs ∧ (s.start dt).writes m .MNTL_CTL 0 false 0 (2 ^ 31) ∧ s.on Fld.MNTL_CTL_EN
      0 = true ∧ s.mantleLink = true) ∧
    (∃ (s : State) (dt : Nat) (m : Master) (fs : Fin 512) (k : UKind), s.runs ∧ (s.start dt).writes m .FLT_SRC_STAT fs false
      (2 ^ 31) (2 ^ 31) ∧ faultInfo fs = some (false, k)) ∧
    (∃ (s : State) (dt : Nat) (m : Master) (fs : Fin 512) (k : UKind), s.runs ∧ (s.start dt).writes m .FLT_SRC_STAT fs false
      (2 ^ 31) (2 ^ 31) ∧ faultInfo fs = some (true, k)) ∧
    (∃ (s : State) (dt : Nat) (m : Master) (kind : BitVec 4) (idx : BitVec 12) (k : UKind), s.runs ∧ (s.start dt).writes m
      .FLT_FENCE_CMD 0 false (2 ^ 31 + kind.toNat * 65536 + idx.toNat) (3 * 2 ^ 30 + 0xF0FFF) ∧ UKind.ofCode kind.toNat = k ∧
      idx.toNat < k.count) ∧
    (∃ (s : State) (dt : Nat) (m : Master) (kind : BitVec 4) (idx : BitVec 12) (k : UKind), s.runs ∧ (s.start dt).writes m
      .FLT_FENCE_CMD 0 false (3 * 2 ^ 30 + kind.toNat * 65536 + idx.toNat) (3 * 2 ^ 30 + 0xF0FFF) ∧ UKind.ofCode kind.toNat =
      k ∧ idx.toNat < k.count ∧ k ≠ .dst) ∧
    (∃ (s : State) (dt : Nat) (m : Master) (v : Bool), s.runs ∧ (s.start dt).writes m .FLT_PIN_CTL 0 false (b2n v) 1) ∧
    (∃ (s : State) (dt : Nat) (m : Master) (n : BitVec 9), s.runs ∧ (s.start dt).writes m .FLT_LOG_ACK 0 false n.toNat 0x1FF) ∧
    (∃ (s : State) (dt : Nat) (m : Master) (k : Fin 16) (j : Fin 32), s.runs ∧ (s.start dt).writes m .HCP_SLOT_STAT k false 0
      (2 ^ 30) ∧ (s.sessOf j).active = true ∧ (s.sessOf j).slot = k.val) ∧
    (∃ (s : State) (dt : Nat) (m : Master), s.runs ∧ (s.start dt).writes m .BOOT_TRIAL 0 false (2 ^ 31) (2 ^ 31)) ∧
    (∃ (s : State) (dt : Nat) (m : Master), s.runs ∧ (s.start dt).writes m .BOOT_TRIAL 0 false (2 ^ 30) (2 ^ 30)) ∧
    (∃ (s : State) (dt : Nat) (m : Master) (c : Fin 16), s.runs ∧ (s.start dt).writes m .HOP_CH_CTL c false (2 ^ 30) (2 ^ 30)
      ∧ s.on Fld.HOP_CH_CTL_EN c = true ∧ (s.hopOf c).phase = .rest ∧ s.fenced .hopCh c = false) ∧
    (∃ (s : State) (dt : Nat) (m : Master) (c : Fin 16), s.runs ∧ (s.start dt).writes m .HOP_CH_CTL c false 0 (2 ^ 31) ∧
      (s.hopOf c).phase = .run ∧ (s.hopOf c).stop = none) ∧
    (∃ (s : State) (dt : Nat) (m : Master) (u : Fin 8), s.runs ∧ (s.start dt).writes m .CRC_CTL u false (2 ^ 30) (2 ^ 30) ∧
      s.on Fld.CRC_CTL_EN u = true) ∧
    (∃ (s : State) (dt : Nat) (m : Master) (u : Fin 8) (v : BitVec 32), s.runs ∧ (s.start dt).writes m .CRC_FEED u false
      v.toNat (2 ^ 32 - 1) ∧ s.on Fld.CRC_CTL_EN u = true) ∧
    (∃ (s : State) (dt : Nat) (m : Master) (u : Fin 8) (v : BitVec 32) (lo : Nat), s.runs ∧ (s.start dt).writes m .CRC_VALUE u
      true v.toNat (2 ^ 32 - 1) ∧ s.held = [⟨m, .CRC_VALUE, u, lo, 2 ^ 32 - 1⟩] ∧ lo < 2 ^ 32) ∧
    (∃ (s : State) (dt : Nat) (m : Master) (b : Byte), s.runs ∧ (s.start dt).writes m .PWR_UART_TX 0 false b.toNat 0xFF ∧ s.on
      Fld.PWR_UART_CTL_EN 0 = true ∧ ((s.start dt).uartDrain).pwr.tx.length < 256) ∧
    (∃ (s : State) (dt : Nat) (m : Master) (b : Byte), s.runs ∧ (s.start dt).writes m .PWR_UART_TX 0 false b.toNat 0xFF ∧ s.on
      Fld.PWR_UART_CTL_EN 0 = true ∧ 256 ≤ ((s.start dt).uartDrain).pwr.tx.length) :=
  ⟨⟨{ st [(Fld.CTRL_DEV_STATE_MODE, 0, 1), (Fld.MNTL_STAT_ROLE, 0, 2)] with now := ms 5 + 3 }, 0, .core 0, ms 26, rfl, by decide +kernel⟩,
   ⟨st [(Fld.CTRL_DEV_STATE_MODE, 0, 1), (Fld.MNTL_STAT_ROLE, 0, 1)], 0, .core 0, rfl, by decide +kernel⟩,
   ⟨st [(Fld.CTRL_DEV_STATE_MODE, 0, 1), (Fld.MNTL_STAT_ROLE, 0, 4), (Fld.MNTL_CTL_EN, 0, 0)], 0, .core 0, rfl, by decide +kernel⟩,
   ⟨st [(Fld.CTRL_DEV_STATE_MODE, 0, 1), (Fld.MNTL_CTL_EN, 0, 1), (Fld.IZL_LINK_STAT_STATE, 32, 5)], 0, .core 0, rfl, by decide +kernel⟩,
   ⟨{ st [(Fld.CTRL_DEV_STATE_MODE, 0, 1)] with flt := { stand := [(32 * 8192 + 5, 1)] } }, 0, .core 0, 32, .bundle, rfl, by decide +kernel⟩,
   ⟨{ st [(Fld.CTRL_DEV_STATE_MODE, 0, 1)] with flt := { stand := [(1 * 8192 + 5, 1)] } }, 0, .core 0, 1, .bundle, rfl, by decide +kernel⟩,
   ⟨st [(Fld.CTRL_DEV_STATE_MODE, 0, 1)], 0, .core 0, 6, 9, .bus, rfl, by decide +kernel⟩,
   ⟨{ st [(Fld.CTRL_DEV_STATE_MODE, 0, 1)] with flt := { fenced := [(fenceKey .bus 9, 1)] } }, 0, .core 0, 6, 9, .bus, rfl,
    by decide +kernel⟩,
   ⟨st [(Fld.CTRL_DEV_STATE_MODE, 0, 1), (Fld.FLT_PIN_CTL_FAULT_HOLD, 0, 1)], 0, .core 0, false, rfl, by decide +kernel⟩,
   ⟨st [(Fld.CTRL_DEV_STATE_MODE, 0, 1), (Fld.FLT_LOG_PTR_COUNT, 0, 4), (Fld.FLT_LOG_PTR_TAIL, 0, 254)], 0, .core 0, 5, rfl,
    by decide +kernel⟩,
   ⟨(st [(Fld.CTRL_DEV_STATE_MODE, 0, 1), (Fld.HCP_SLOT_STAT_EN, 3, 1)]).putSess 7 { active := true, slot := 3 }, 0, .core 0, 3,
    7, rfl, by decide +kernel⟩,
   ⟨st [(Fld.CTRL_DEV_STATE_MODE, 0, 1), (Fld.CTRL_DEV_STATE_TRIAL, 0, 1)], 0, .core 0, rfl, by decide +kernel⟩,
   ⟨st [(Fld.CTRL_DEV_STATE_MODE, 0, 1), (Fld.CTRL_DEV_STATE_TRIAL, 0, 1)], 0, .core 0, rfl, by decide +kernel⟩,
   ⟨st [(Fld.CTRL_DEV_STATE_MODE, 0, 1), (Fld.HOP_CH_CTL_EN, 3, 1)], 0, .core 0, 3, rfl, by decide +kernel⟩,
   ⟨(st [(Fld.CTRL_DEV_STATE_MODE, 0, 1), (Fld.HOP_CH_CTL_EN, 3, 1)]).putHop 3 { phase := .run }, 0, .core 0, 3, rfl, by decide +kernel⟩,
   ⟨st [(Fld.CTRL_DEV_STATE_MODE, 0, 1), (Fld.CRC_CTL_EN, 3, 1), (Fld.CRC_POLY_V, 3, 0x04C11DB7), (Fld.CRC_CTL_PREFIX_LEN, 3, 2),
    (Fld.CRC_PREFIX_V, 3, 77)], 0, .core 0, 3, rfl, by decide +kernel⟩,
   ⟨st [(Fld.CTRL_DEV_STATE_MODE, 0, 1), (Fld.CRC_CTL_EN, 3, 1), (Fld.CRC_POLY_V, 3, 0x04C11DB7)], 0, .core 0, 3, 0x31323334,
    rfl, by decide +kernel⟩,
   ⟨{ st [(Fld.CTRL_DEV_STATE_MODE, 0, 1)] with held := [⟨.core 0, .CRC_VALUE, 3, 5, 2 ^ 32 - 1⟩] }, 0, .core 0, 3, 7, 5, rfl,
    by decide +kernel⟩,
   ⟨{ st [(Fld.CTRL_DEV_STATE_MODE, 0, 1), (Fld.PWR_UART_CTL_EN, 0, 1)] with pwr := { tx := [1, 2] } }, 0, .core 0, 7, rfl,
    by decide +kernel⟩,
   ⟨{ st [(Fld.CTRL_DEV_STATE_MODE, 0, 1), (Fld.PWR_UART_CTL_EN, 0, 1)] with pwr := { tx := List.replicate 256 5 } }, 0, .core 0,
    7, rfl, by decide +kernel⟩⟩

theorem witness_RegsWords :
    (∃ (s : State) (dt : Nat) (m : Master) (p : Fin 18) (v mask : BitVec 32) (f : Field), s.runs ∧ (s.start dt).writes m
      .TSVC_NEG_CFG p false v.toNat mask.toNat ∧ f ∈ Reg.TSVC_NEG_CFG.fields ∧ f.acc = .l) ∧
    (∃ (s : State) (dt : Nat) (m : Master) (a : RegAddr) (r : Reg) (i : Nat) (hi : Bool) (v mask : BitVec 32) (e : Status),
      s.runs ∧ s.boot.due = false ∧ e ≠ .ok ∧ e ≠ .errAddr ∧ a.loc = some (.reg r i hi) ∧ (s.start dt).checkItem m (s.isSafety
      m) ((s.start dt).wholes m s.held [⟨a, v, mask⟩]) a.loc ⟨a, v, mask⟩ ((s.start dt).whole m s.held ⟨r, i, hi, v.toNat,
      mask.toNat⟩).1 = e) ∧
    (∃ (s : State) (dt : Nat) (m : Fin 4) (a : RegAddr) (v mask : BitVec 32), s.runs ∧ s.boot.due = false ∧ a.loc = none) ∧
    (∃ (s : State) (dt : Nat) (m : Master) (b : Fin 33) (v mask : BitVec 32), s.runs ∧ (s.start dt).writes m .IZL_PRBS_CTL b
      false v.toNat mask.toNat ∧ s.clockThere b = false) ∧
    (∃ (s : State) (dt : Nat) (m : Master) (b : Fin 33) (n : Nat), s.runs ∧ s.mayRead m ∧ s.rd Fld.CELL_CNT_CRC_ERR_CNT b = n
      ∧ n < 2 ^ 32) ∧
    (∃ (s : State) (dt : Nat) (m : Fin 4) (p : Fin 18) (n : Nat), s.runs ∧ s.rd Fld.ETH_CNT_RX_OCTETS_CNT p = n ∧ n < 2 ^ 64 ∧
      s.latch = []) ∧
    (∃ (s : State) (dt : Nat) (m : Fin 4) (p : Fin 18) (n : Nat), s.runs ∧ s.latch = [⟨.core m, .ETH_CNT_RX_OCTETS, p, n⟩]) ∧
    (∃ (s : State) (dt : Nat) (k : Fin 32) (a : RegAddr), s.runs ∧ s.rd Fld.HCP_SLOT_STAT_RIGHTS (s.sessOf k).slot % 2 = 0 ∧
      (s.range a 1).isSome = true) ∧
    (∃ (s : State) (dt : Nat) (m : Master) (x : Nat), s.runs ∧ s.mayRead m ∧ (s.start dt).now = x ∧ x < sec (2 ^ 48)) ∧
    (∃ (s : State) (dt : Nat) (m : Master) (n : Fin 8) (falling : Bool) (x : Nat) (rest : List (Bool × Nat)), s.runs ∧
      s.mayRead m ∧ tget [] s.kiln.evq n = (falling, x) :: rest ∧ x < sec (2 ^ 32)) ∧
    (∃ (s : State) (dt : Nat) (m : Master) (n : Fin 8), s.runs ∧ s.mayRead m ∧ tget [] s.kiln.evq n = []) ∧
    (∃ (s : State) (dt : Nat) (m : Master) (p : Fin 18) (k x : Nat) (d : Bool) (rest : List (Nat × Bool × Nat)), s.runs ∧
      s.mayRead m ∧ (s.tportOf p).txts = (k, d, x) :: rest ∧ k < 65536 ∧ x < sec (2 ^ 48)) ∧
    (∃ (s : State) (dt : Nat) (m : Master) (b : Byte) (rest : List Byte), s.runs ∧ s.mayRead m ∧ s.pwr.rx = b :: rest) ∧
    (∃ (s : State) (dt : Nat) (m : Master), s.runs ∧ s.mayRead m ∧ s.pwr.rx = []) :=
  ⟨⟨st [(Fld.CTRL_DEV_STATE_MODE, 0, 1)], 0, .core 0, 5, 0xFF000000, 0x0F000000, Fld.TSVC_NEG_CFG_SYNC_MAX, rfl, by decide +kernel⟩,
   ⟨st [(Fld.CTRL_DEV_STATE_MODE, 0, 1)], 0, .core 0, .named .CTRL_DEV_ID 0 false, .CTRL_DEV_ID, 0, false, 5, 5, .errAccess, rfl,
    by decide +kernel⟩,
   ⟨{}, 0, 0, .named .CTRL_DEV_ID 9 false, 5, 5, rfl, by decide +kernel⟩,
   ⟨st [(Fld.CTRL_DEV_STATE_MODE, 0, 1), (Fld.IZL_LINK_CTL_ENABLE, 3, 0)], 0, .core 0, 3, 1, 3, rfl, by decide +kernel⟩,
   ⟨st [(Fld.CELL_CNT_CRC_ERR_CNT, 3, 9)], 0, .core 0, 3, 9, rfl, by decide +kernel⟩,
   ⟨st [(Fld.ETH_CNT_RX_OCTETS_CNT, 3, 2 ^ 40 + 9)], 0, 0, 3, 2 ^ 40 + 9, rfl, by decide +kernel⟩,
   ⟨{ st [] with latch := [⟨.core 0, .ETH_CNT_RX_OCTETS, 3, 7⟩] }, 0, 0, 3, 7, rfl, by decide +kernel⟩,
   ⟨{}, 0, 3, .named .CELL_CNT_CRC_ERR 2 false, rfl, by decide +kernel⟩,
   ⟨{ st [] with now := sec (2 ^ 33) + ns 7 + 5 }, 0, .core 0, sec (2 ^ 33) + ns 7 + 5, rfl, by decide +kernel⟩,
   ⟨{ st [] with kiln := { evq := [(3, [(true, sec 5 + 9)])] } }, 0, .core 0, 3, true, sec 5 + 9, [], rfl, by decide +kernel⟩,
   ⟨{}, 0, .core 0, 3, rfl, by decide +kernel⟩,
   ⟨({} : State).putTport 3 { txts := [(7, true, sec 5 + 9)] }, 0, .core 0, 3, 7, sec 5 + 9, true, [], rfl, by decide +kernel⟩,
   ⟨{ st [] with pwr := { rx := [7, 8], lost := true } }, 0, .core 0, 7, [8], rfl, by decide +kernel⟩,
   ⟨{}, 0, .core 0, rfl, by decide +kernel⟩⟩

theorem witness_HcpSessions :
    (∃ (s : State) (dt : Nat) (h : HcpReq), s.runs ∧ h.session = 0 ∧ (s.start dt).gets h ∧ s.slotOn h.slot = true ∧ h.tagOk =
      true ∧ h.seq.toNat ∈ tget [] s.hcp.opens h.slot.val) ∧
    (∃ (s : State) (dt : Nat) (h : HcpReq), s.runs ∧ h.session = 0 ∧ (s.start dt).gets h ∧ s.slotOn h.slot = true ∧ h.tagOk =
      true ∧ 0 < h.seq.toNat ∧ h.seq.toNat < 2 ^ 63 ∧ h.seq.toNat ∉ tget [] s.hcp.opens h.slot.val ∧ h.badOp = false ∧ h.short
      = false ∧ h.resp = false ∧ s.freeSess h.slot = none) ∧
    (∃ (s : State) (dt : Nat) (h : HcpReq) (k : Nat), s.runs ∧ (s.start dt).asks h none true k) ∧
    (∃ (s : State) (dt : Nat) (h : HcpReq) (k : Nat), s.runs ∧ (s.start dt).asks h none true k) ∧
    (∃ (s : State) (dt : Nat) (h : HcpReq), s.runs ∧ (s.start dt).gets h ∧ (s.slotOn h.slot = false ∨ s.findSess h.slot
      h.session.toNat = none ∨ h.tagOk = false) ∧ s.mild ∧ (s.hcp.plainSec = (s.up + dt) / sec 1 → s.hcp.plainN < 100)) ∧
    (∃ (s : State) (dt : Nat) (h : HcpReq) (k : Nat) (a : Reply), s.runs ∧ (s.start dt).gets h ∧ s.slotOn h.slot = true ∧
      s.findSess h.slot h.session.toNat = some k ∧ h.tagOk = true ∧ (s.sessOf k).seqCheck h.seq.toNat = .again a ∧ a.reqId < 2
      ^ 32) ∧
    (∃ (s : State) (dt : Nat) (h : HcpReq) (k : Nat), s.runs ∧ (s.start dt).gets h ∧ s.slotOn h.slot = true ∧ s.findSess
      h.slot h.session.toNat = some k ∧ h.tagOk = true ∧ (s.sessOf k).seqCheck h.seq.toNat = .bad) ∧
    (∃ (s : State) (dt : Nat) (h : HcpReq) (k : Nat) (addr : RegAddr) (count : BitVec 16) (b : Bool), s.runs ∧ (s.start
      dt).knows h k ∧ (h.badOp = true ∨ h.short = true ∨ h.resp = true ∨ bitOf (s.rd Fld.HCP_SLOT_STAT_RIGHTS (s.sessOf
      k).slot) 0 = false)) ∧
    (∃ (s : State) (dt : Nat) (h : HcpReq) (k : Nat) (kind : BitVec 8), s.runs ∧ (s.start dt).knows h k ∧ bitOf (s.rd
      Fld.HCP_SLOT_STAT_RIGHTS (s.sessOf k).slot) 4 = false) ∧
    (∃ (s : State) (dt : Nat) (k : Fin 32), s.runs ∧ (s.sessOf k).active = true ∧ (s.sessOf k).pending = true ∧ (s.sessOf
      k).openedAt + sec 10 ≤ s.up + dt) ∧
    (∃ (s : State) (dt : Nat) (k : Fin 32), s.runs ∧ (s.sessOf k).active = true ∧ (s.sessOf k).lastAt + sec (s.rd
      Fld.HCP_CFG_IDLE_S 0) ≤ s.up + dt) :=
  ⟨⟨(whcp []).onHcp fun z => { z with opens := [(3, [5])] }, 0, { wreq with session := 0 }, rfl, by decide +kernel⟩,
   ⟨(whcp []).onHcp fun z =>
    { z with sess := (List.range 30).map fun k => (k, ({ active := true, slot := 4, id := k } : Session)) }, 0,
    { wreq with session := 0 }, rfl, by decide +kernel, by decide +kernel, by decide +kernel, by decide +kernel, by decide +kernel, by decide +kernel, by decide +kernel, by decide +kernel, by decide +kernel, by decide +kernel, by decide +kernel⟩,
   ⟨whcp [], 0, wreq, 2, rfl, by decide +kernel⟩,
   ⟨whcp [], 0, wreq, 2, rfl, by decide +kernel⟩,
   ⟨whcp [], 0, { wreq with tagOk := false }, rfl, by decide +kernel⟩,
   ⟨(whcp []).onHcp fun z =>
    { z with sess := [(2, { active := true, slot := 3, id := 7, high := 9, kept := [(5, ⟨2 ^ 63 + 4, 70, 3, .ok, [1]⟩)] })] },
    0, wreq, 2, ⟨2 ^ 63 + 4, 70, 3, .ok, [1]⟩, rfl, by decide +kernel⟩,
   ⟨(whcp []).onHcp fun z => { z with sess := [(2, { active := true, slot := 3, id := 7, high := 69 })] }, 0, wreq, 2, rfl,
    by decide +kernel⟩,
   ⟨whcp [(Fld.HCP_SLOT_STAT_RIGHTS, 3, 30)], 0, wreq, 2, .raw 0, 1, false, rfl, by decide +kernel⟩,
   ⟨whcp [(Fld.HCP_SLOT_STAT_RIGHTS, 3, 15)], 0, wreq, 2, 0, rfl, by decide +kernel⟩,
   ⟨{ whcp [] with up := sec 11, hcp := { sess := [(2, { active := true, pending := true })], snaps := [(1, { owner := 2, target := 0, seam := false, inst := 0, first := 0, count := 1, ts := 0, late := false, complete := true, recs := [] })] } },
    0, 2, rfl, by decide +kernel⟩,
   ⟨{ whcp [(Fld.HCP_CFG_IDLE_S, 0, 60)] with up := sec 60 }, 0, 2, rfl, by decide +kernel⟩⟩

theorem witness_HcpRequests :
    (∃ (s : State) (dt : Nat) (h : HcpReq) (k : Nat) (addr : RegAddr) (count : BitVec 16) (b : Bool) (ls : List Loc), s.runs ∧
      (s.start dt).asks h (some 0) true k ∧ 1 ≤ count.toNat ∧ count.toNat ≤ 2048 ∧ 4 * count.toNat ≤ s.bodyMax h.ctl1 ∧
      s.range addr count.toNat = some [.reg .WARP_DST_ROUTE 5 false] ∧ ls = [.reg .WARP_DST_ROUTE 5 false]) ∧
    (∃ (s : State) (dt : Nat) (h : HcpReq) (k : Nat) (addr : RegAddr) (count : BitVec 16) (b : Bool), s.runs ∧ (s.start
      dt).asks h (some 0) true k ∧ 1 ≤ count.toNat ∧ count.toNat ≤ 2048 ∧ 4 * count.toNat ≤ s.bodyMax h.ctl1 ∧ s.range addr
      count.toNat = none) ∧
    (∃ (s : State) (dt : Nat) (h : HcpReq) (k : Nat) (addr : RegAddr) (count : BitVec 16) (b : Bool), s.runs ∧ (s.start
      dt).asks h (some 0) true k ∧ (count.toNat = 0 ∨ 2048 < count.toNat ∨ s.bodyMax h.ctl1 < 4 * count.toNat)) ∧
    (∃ (s : State) (dt : Nat) (h : HcpReq) (k : Fin 32) (v mask : Nat), s.runs ∧ (s.start dt).asks h none true k ∧ s.mode ≠
      .hem ∧ (s.start dt).writes (.sess k) .HCP_CFG 0 false v mask) ∧
    (∃ (s : State) (dt : Nat) (h : HcpReq) (k : Nat) (items : List Item), s.runs ∧ (s.start dt).asks h none true k ∧ (items =
      [] ∨ 256 < items.length)) ∧
    (∃ (s : State) (dt : Nat) (h : HcpReq) (k : Nat) (classes : BitVec 16), s.runs ∧ (s.start dt).asks h (some 0) true k) ∧
    (∃ (s : State) (dt : Nat) (h : HcpReq) (k : Nat) (n : BitVec 32), s.runs ∧ (s.start dt).asks h (some 0) true k ∧ (s.sessOf
      k).queue = []) ∧
    (∃ (s : State) (dt : Nat) (h : HcpReq) (k : Nat) (n : BitVec 32) (q : QEv), s.runs ∧ n.toNat = (Config.firstEvent + q.seq)
      % 2 ^ 32 ∧ (s.start dt).asks h (some 0) true k ∧ s.quiet ∧ (s.sessOf k).queue = [q] ∧ q.sentAt ≠ none) ∧
    (∃ (s : State) (dt : Nat) (k : Fin 32) (q : QEv) (at_ : Nat), s.runs ∧ s.quiet ∧ (s.sessOf k).active = true ∧ (s.sessOf
      k).queue = [q] ∧ q.sentAt = some at_ ∧ at_ + ms 200 ≤ s.up + dt ∧ s.sends (ctlPort (s.sessOf k).ctl1) 3) ∧
    (∃ (s : State) (dt : Nat) (k : Fin 32) (q : QEv) (at_ : Nat), s.runs ∧ s.quiet ∧ (s.sessOf k).queue = [q] ∧ q.sentAt =
      some at_ ∧ s.up + dt < at_ + ms 200) ∧
    (∃ (s : State) (dt : Nat) (h : HcpReq) (k : Nat), s.runs ∧ (s.start dt).asks h (some 4) true k) ∧
    (∃ (s : State) (dt : Nat) (h : HcpReq) (k : Nat) (kind : BitVec 8), s.runs ∧ (s.start dt).asks h (some 4) true k ∧ kind ≠
      0) :=
  ⟨⟨whcp [(Fld.WARP_DST_ROUTE_SRC, 5, 17)], 0, wreq, 2, .named .WARP_DST_ROUTE 5 false, 1, false, [.reg .WARP_DST_ROUTE 5 false],
    rfl, by decide +kernel⟩,
   ⟨whcp [], 0, wreq, 2, .raw 2, 2, false, rfl, by decide +kernel⟩,
   ⟨whcp [], 0, wreq, 2, .named .WARP_DST_ROUTE 0 false, 2048, false, rfl, by decide +kernel⟩,
   ⟨whcp [(Fld.HCP_CFG_IDLE_S, 0, 60)], 0, wreq, 2, 90, 1023, rfl, by decide +kernel⟩,
   ⟨whcp [], 0, wreq, 2, [], rfl, by decide +kernel⟩,
   ⟨whcp [], 0, wreq, 2, 0xFF, rfl, by decide +kernel⟩,
   ⟨whcp [], 0, wreq, 2, 9, rfl, by decide +kernel⟩,
   ⟨(whcp []).onHcp fun z =>
    { z with sess := [(2, { active := true, slot := 3, id := 7, high := 4, queue := [⟨6, ⟨0x0701, 0, 0, []⟩, some 0⟩] })] },
    0, wreq, 2, BitVec.ofNat 32 (Config.firstEvent + 6), ⟨6, ⟨0x0701, 0, 0, []⟩, some 0⟩, rfl, by simp [BitVec.toNat_ofNat],
    by decide +kernel⟩,
   ⟨{ (whcp []).onHcp fun z => { z with sess := [(2, { active := true, slot := 3, id := 7, queue := [⟨6, ⟨0x0701, 0, 0, []⟩, some 0⟩] })] } with up := ms 200 },
    0, 2, ⟨6, ⟨0x0701, 0, 0, []⟩, some 0⟩, 0, rfl, by decide +kernel⟩,
   ⟨{ (whcp []).onHcp fun z => { z with sess := [(2, { active := true, slot := 3, id := 7, queue := [⟨6, ⟨0x0701, 0, 0, []⟩, some 0⟩] })] } with up := ms 199 },
    0, 2, ⟨6, ⟨0x0701, 0, 0, []⟩, some 0⟩, 0, rfl, by decide +kernel⟩,
   ⟨whcp [], 0, wreq, 2, rfl, by decide +kernel⟩,
   ⟨whcp [], 0, wreq, 2, 1, rfl, by decide +kernel⟩⟩

theorem witness_HcpSurfaces :
    (∃ (s : State) (dt : Nat) (h : HcpReq) (k : Nat) (size : BitVec 32) (apron : Bool) (g : Nat), s.runs ∧ (s.start dt).asks h
      (some 2) false k ∧ s.mirrorBars = false ∧ s.mirrors = false ∧ size.toNat ≠ 0 ∧ (apron = true → (s.sessOf k).slot = 15) ∧
      s.freeHandle = some g ∧ (size.toNat + 2097151) / 2097152 ≤ s.freeBlocks) ∧
    (∃ (s : State) (dt : Nat) (h : HcpReq) (k : Nat) (size : BitVec 32), s.runs ∧ (s.start dt).asks h (some 2) false k ∧
      s.mirrorBars = false ∧ size.toNat ≠ 0 ∧ (s.sessOf k).slot ≠ 15) ∧
    (∃ (s : State) (dt : Nat) (h : HcpReq) (k : Nat) (g : BitVec 16), s.runs ∧ (s.start dt).asks h (some 2) false k ∧
      s.mirrorBars = false ∧ s.mirrors = false ∧ g.toNat < 4096 ∧ (s.surfOf g.toNat).state ≠ 0 ∧ (s.surfOf g.toNat).state ≠ 3
      ∧ ((s.surfOf g.toNat).apron = true → (s.sessOf k).slot = 15) ∧ s.otherRefs g.toNat = 0 ∧ s.forceRefs g.toNat = 0) ∧
    (∃ (s : State) (dt : Nat) (h : HcpReq) (k : Nat) (g : BitVec 16), s.runs ∧ (s.start dt).asks h (some 2) false k ∧
      s.mirrorBars = false ∧ s.mirrors = false ∧ g.toNat < 4096 ∧ (s.surfOf g.toNat).state ≠ 0 ∧ (s.surfOf g.toNat).state ≠ 3
      ∧ ((s.surfOf g.toNat).apron = true → (s.sessOf k).slot = 15) ∧ s.otherRefs g.toNat ≠ 0) ∧
    (∃ (s : State) (dt : Nat) (h : HcpReq) (k : Nat) (g : BitVec 16), s.runs ∧ (s.start dt).asks h (some 2) false k ∧
      s.mirrorBars = false ∧ g.toNat < 4096 ∧ (s.surfOf g.toNat).state = 0) ∧
    (∃ (s : State) (dt : Nat) (h : HcpReq) (k : Nat) (addr : BitVec 64) (off : BitVec 32) (data : List Byte), s.runs ∧
      (s.start dt).asks h (some 2) false k ∧ s.mirrorBars = false ∧ s.mirrors = false ∧ addr.toNat < 4096 ∧ s.surfWritable
      ((s.sessOf k).slot == 15) addr.toNat off.toNat data.length = .ok) ∧
    (∃ (s : State) (dt : Nat) (h : HcpReq) (k : Nat) (addr : BitVec 64) (off : BitVec 32) (data : List Byte) (e : Status),
      s.runs ∧ (s.start dt).asks h (some 2) false k ∧ s.mirrorBars = false ∧ addr.toNat < 4096 ∧ s.surfWritable ((s.sessOf
      k).slot == 15) addr.toNat off.toNat data.length = e ∧ e ≠ .ok) ∧
    (∃ (s : State) (dt : Nat) (h : HcpReq) (k : Nat) (addr : BitVec 64) (off : BitVec 32) (data : List Byte), s.runs ∧
      (s.start dt).asks h (some 2) false k ∧ s.mirrorBars = false ∧ s.mirrors = false ∧ s.inRegion4 (addr.toNat + off.toNat)
      data.length = true) ∧
    (∃ (s : State) (dt : Nat) (h : HcpReq) (k : Nat) (addr : BitVec 64) (off : BitVec 32) (data : List Byte), s.runs ∧
      (s.start dt).asks h (some 2) false k ∧ s.mirrorBars = false ∧ s.inRegion4 (addr.toNat + off.toNat) data.length = false) ∧
    (∃ (s : State) (dt : Nat) (h : HcpReq) (k : Nat) (addr : BitVec 64) (off : BitVec 32) (n : BitVec 16), s.runs ∧ (s.start
      dt).asks h (some 0) true k ∧ addr.toNat < 4096 ∧ n.toNat ≤ s.bodyMax h.ctl1 ∧ (s.surfOf addr.toNat).state ≠ 0 ∧
      off.toNat + n.toNat ≤ (s.surfOf addr.toNat).blocks * 2097152) ∧
    (∃ (s : State) (dt : Nat) (h : HcpReq) (k : Nat) (addr : BitVec 64) (off : BitVec 32) (n : BitVec 16), s.runs ∧ (s.start
      dt).asks h (some 0) true k ∧ n.toNat ≤ s.bodyMax h.ctl1 ∧ s.inRegion4 (addr.toNat + off.toNat) n.toNat = true) :=
  ⟨⟨{ whcp [(Fld.CASK_POOL_STAT_TOTAL_BLOCKS, 0, 3)] with mem := [⟨surfAddr 0 5, 9⟩] }, 0, wreq, 2, 5000000, false, 0, rfl,
    by decide +kernel⟩,
   ⟨whcp [], 0, wreq, 2, 5, rfl, by decide +kernel⟩,
   ⟨(whcp []).putSurf 9 { state := 1, apron := false, blocks := 1, writes := 0 }, 0, wreq, 2, 9, rfl, by decide +kernel⟩,
   ⟨{ (whcp [(Fld.STCH_LAYER_CTL_VISIBLE, 3, 1), (Fld.STCH_LAYER_SRC_INDEX, 3, 9), (Fld.STCH_HEAD_CFG_EN, 0, 1)]).putSurf 9 { state := 1, apron := false, blocks := 1, writes := 0 } with bound := [3], staged := [⟨.STCH_LAYER_CTL, 3, 0, 0, 5, 1, none⟩] },
    0, wreq, 2, 9, rfl, by decide +kernel⟩,
   ⟨whcp [], 0, wreq, 2, 9, rfl, by decide +kernel⟩,
   ⟨(whcp []).putSurf 9 { state := 1, apron := false, blocks := 1, writes := 0 }, 0, wreq, 2, 9, 2097150, [1, 2], rfl, by decide +kernel⟩,
   ⟨(whcp []).putSurf 9 { state := 1, apron := false, blocks := 1, writes := 0 }, 0, wreq, 2, 9, 2097151, [1, 2], .errAccess,
    rfl, by decide +kernel⟩,
   ⟨whcp [(Fld.CASK_REGION_BASE, 4, 10), (Fld.CASK_REGION_SIZE, 4, 2)], 0, wreq, 2, 20971520, 4194302, [1, 2], rfl, by decide +kernel⟩,
   ⟨whcp [(Fld.CASK_REGION_BASE, 4, 10), (Fld.CASK_REGION_SIZE, 4, 2)], 0, wreq, 2, 20971520, 4194303, [1, 2], rfl, by decide +kernel⟩,
   ⟨{ (whcp []).putSurf 9 { state := 1, apron := false, blocks := 1, writes := 0 } with mem := [⟨surfAddr 9 5, 7⟩] }, 0, wreq, 2,
    9, 4, 3, rfl, by decide +kernel⟩,
   ⟨{ whcp [(Fld.CASK_REGION_BASE, 4, 10), (Fld.CASK_REGION_SIZE, 4, 2)] with mem := [⟨caskAddr 20971521, 7⟩] }, 0, wreq, 2,
    20971520, 0, 4, rfl, by decide +kernel⟩⟩

theorem witness_ChangeSetOps :
    (∃ (s : State) (dt : Nat) (h : HcpReq) (k : Nat) (n : BitVec 8), s.runs ∧ (s.start dt).asks h (some 1) false k ∧ s.opens ∧
      n.toNat < 32 ∧ (s.csOf n.toNat).state = 0) ∧
    (∃ (s : State) (dt : Nat) (h : HcpReq) (k n : Nat), s.runs ∧ (s.start dt).asks h (some 1) false k ∧ s.opens ∧ (List.range
      32).find? (fun n => (s.csOf n).state == 0) = some n) ∧
    (∃ (s : State) (dt : Nat) (h : HcpReq) (k : Nat) (n : BitVec 8), s.runs ∧ (s.start dt).asks h (some 1) false k ∧ s.mode =
      .startUp) ∧
    (∃ (s : State) (dt : Nat) (h : HcpReq) (k : Nat) (n : BitVec 8), s.runs ∧ (s.start dt).asks h (some 1) false k ∧ s.mode ≠
      .startUp ∧ s.mirrorBars = true) ∧
    (∃ (s : State) (dt : Nat) (h : HcpReq) (k : Nat) (n : BitVec 8) (es : List StageEntry) (m : Nat) (out : List CsEntry),
      s.runs ∧ (s.start dt).asks h (some 1) false k ∧ s.opens ∧ s.mirrors = false ∧ n.toNat < 32 ∧ (s.csOf n.toNat).state = 1
      ∧ (s.start dt).stageEntries ((s.sessOf k).slot == 15) 0 es (s.csOf n.toNat).entries = (.ok, m, out) ∧ out.length ≤ 2048
      ∧ (((s.putCs n.toNat { s.csOf n.toNat with entries := out }).cs.map fun p => p.2.items).sum) ≤ 65536) ∧
    (∃ (s : State) (dt : Nat) (h : HcpReq) (k : Nat) (n : BitVec 8) (es : List StageEntry) (m : Nat) (out : List CsEntry) (e :
      Status), s.runs ∧ (s.start dt).asks h (some 1) false k ∧ s.opens ∧ n.toNat < 32 ∧ (s.csOf n.toNat).state = 1 ∧ (s.start
      dt).stageEntries ((s.sessOf k).slot == 15) 0 es (s.csOf n.toNat).entries = (e, m, out) ∧ e ≠ .ok) ∧
    (∃ (s : State) (dt : Nat) (h : HcpReq) (k : Nat) (n : BitVec 8) (es : List StageEntry), s.runs ∧ (s.start dt).asks h (some
      1) false k ∧ s.opens ∧ n.toNat < 32 ∧ (s.csOf n.toNat).state ≠ 1) ∧
    (∃ (s : State) (dt : Nat) (h : HcpReq) (k : Nat) (n : BitVec 8) (a : Bool) (ta tp : BitVec 64), s.runs ∧ (s.start dt).asks
      h (some 1) false k ∧ s.opens ∧ s.mirrors = false ∧ n.toNat < 32 ∧ (s.csOf n.toNat).state = 1 ∧ earlier ta.toNat (s.start
      dt).now (us 200) = false) ∧
    (∃ (s : State) (dt : Nat) (h : HcpReq) (k : Nat) (n : BitVec 8) (a : Bool) (ta tp : BitVec 64), s.runs ∧ (s.start dt).asks
      h (some 1) false k ∧ s.opens ∧ s.mirrors = false ∧ n.toNat < 32 ∧ (s.csOf n.toNat).state = 1 ∧ earlier ta.toNat (s.start
      dt).now (us 200) = true) ∧
    (∃ (s : State) (dt : Nat) (h : HcpReq) (k : Nat) (n : BitVec 8) (a : Bool) (ta tp : BitVec 64), s.runs ∧ (s.start dt).asks
      h (some 1) false k ∧ s.opens ∧ s.mirrors = false ∧ n.toNat < 32 ∧ (s.csOf n.toNat).state = 1) ∧
    (∃ (s : State) (dt : Nat) (h : HcpReq) (k : Nat) (n : BitVec 8) (a : Bool) (ta tp : BitVec 64), s.runs ∧ (s.start dt).asks
      h (some 1) false k ∧ s.opens ∧ s.mirrors = false ∧ n.toNat < 32 ∧ (s.csOf n.toNat).state = 1 ∧ earlier ta.toNat (s.start
      dt).now (us 200) = false ∧ earlier tp.toNat (s.start dt).now (us 200) = false ∧ 1000000 ≤ sval 64 (ta.toNat + (2 ^ 64 -
      tp.toNat))) ∧
    (∃ (s : State) (dt : Nat) (h : HcpReq) (k : Nat) (n : BitVec 8) (a : Bool) (ta tp : BitVec 64), s.runs ∧ (s.start dt).asks
      h (some 1) false k ∧ s.opens ∧ s.mirrors = false ∧ n.toNat < 32 ∧ (s.csOf n.toNat).state = 1 ∧ earlier ta.toNat (s.start
      dt).now (us 200) = false ∧ earlier tp.toNat (s.start dt).now (us 200) = false ∧ sval 64 (ta.toNat + (2 ^ 64 - tp.toNat))
      < 1000000) ∧
    (∃ (s : State) (dt : Nat) (h : HcpReq) (k : Nat) (n : BitVec 8), s.runs ∧ (s.start dt).asks h (some 1) false k ∧ s.opens ∧
      s.mirrors = false ∧ n.toNat < 32 ∧ (s.csOf n.toNat).state = 2 ∧ (s.csOf n.toNat).allOrNone = true ∧ (s.csOf
      n.toNat).auto = false ∧ (s.start dt).beforeTp (s.csOf n.toNat) = true) ∧
    (∃ (s : State) (dt : Nat) (h : HcpReq) (k : Nat) (n : BitVec 8), s.runs ∧ (s.start dt).asks h (some 1) false k ∧ s.opens ∧
      s.mirrors = false ∧ n.toNat < 32 ∧ (s.csOf n.toNat).now = false ∧ (s.csOf n.toNat).state = 2 ∧ (s.csOf
      n.toNat).allOrNone = true ∧ (s.csOf n.toNat).auto = true ∧ (s.start dt).beforeTp (s.csOf n.toNat) = true ∧ (s.csOf
      n.toNat).entries = []) ∧
    (∃ (s : State) (dt : Nat) (h : HcpReq) (k : Nat) (n : BitVec 8), s.runs ∧ (s.start dt).asks h (some 1) false k ∧ s.opens ∧
      n.toNat < 32 ∧ (s.csOf n.toNat).state = 2 ∧ ((s.csOf n.toNat).allOrNone = false ∨ (s.start dt).beforeTp (s.csOf n.toNat)
      = false)) ∧
    (∃ (s : State) (dt : Nat) (h : HcpReq) (k : Nat) (n : BitVec 8), s.runs ∧ (s.start dt).asks h (some 1) false k ∧ s.opens ∧
      n.toNat < 32 ∧ (s.csOf n.toNat).now = false ∧ (s.csOf n.toNat).state = 3 ∧ (s.start dt).beforeTp (s.csOf n.toNat) = true
      ∧ (s.start dt).csReady (s.csOf n.toNat) = true) ∧
    (∃ (s : State) (dt : Nat) (h : HcpReq) (k : Nat) (n : BitVec 8), s.runs ∧ (s.start dt).asks h (some 1) false k ∧ s.opens ∧
      n.toNat < 32 ∧ (s.csOf n.toNat).now = true ∧ (s.csOf n.toNat).state = 3 ∧ (s.start dt).beforeTp (s.csOf n.toNat) = true
      ∧ (s.start dt).csReady (s.csOf n.toNat) = true) ∧
    (∃ (s : State) (dt : Nat) (h : HcpReq) (k : Nat) (n : BitVec 8), s.runs ∧ (s.start dt).asks h (some 1) false k ∧ s.opens ∧
      n.toNat < 32 ∧ s.role ≠ .standby ∧ (s.csOf n.toNat).state = 3 ∧ (s.start dt).csReady (s.csOf n.toNat) = false) ∧
    (∃ (s : State) (dt : Nat) (h : HcpReq) (k : Nat) (n : BitVec 8), s.runs ∧ (s.start dt).asks h (some 1) false k ∧ s.opens ∧
      s.mirrors = false ∧ n.toNat < 32 ∧ 2 ≤ (s.csOf n.toNat).state ∧ (s.csOf n.toNat).state ≤ 5) ∧
    (∃ (s : State) (dt : Nat) (h : HcpReq) (k : Nat) (n : BitVec 8), s.runs ∧ (s.start dt).asks h (some 1) false k ∧ s.opens ∧
      n.toNat < 32 ∧ ((s.csOf n.toNat).state < 2 ∨ 5 < (s.csOf n.toNat).state)) ∧
    (∃ (s : State) (dt : Nat) (h : HcpReq) (k : Nat) (n : BitVec 8), s.runs ∧ (s.start dt).asks h (some 1) false k ∧ s.opens ∧
      n.toNat < 32 ∧ ((s.csOf n.toNat).state = 1 ∨ 6 ≤ (s.csOf n.toNat).state)) ∧
    (∃ (s : State) (dt : Nat) (h : HcpReq) (k : Nat) (n : BitVec 8), s.runs ∧ (s.start dt).asks h (some 1) false k ∧ s.opens ∧
      n.toNat < 32 ∧ 2 ≤ (s.csOf n.toNat).state ∧ (s.csOf n.toNat).state ≤ 5) ∧
    (∃ (s : State) (dt : Nat) (h : HcpReq) (k : Nat) (n : BitVec 8) (i m : BitVec 16), s.runs ∧ (s.start dt).asks h (some 0)
      true k ∧ n.toNat < 32 ∧ ((((s.csOf n.toNat).entries.drop i.toNat).take m.toNat).flatMap CsEntry.record).length <
      s.bodyMax h.ctl1) :=
  ⟨⟨whcp [], 0, wreq, 2, 31, rfl, by decide +kernel⟩,
   ⟨(whcp []).putCs 0 { state := 1 }, 0, wreq, 2, 1, rfl, by decide +kernel⟩,
   ⟨((whcp []).wr Fld.CTRL_DEV_STATE_MODE 0 0).wr Fld.BOOT_STAT_STAGE 0 6, 0, wreq, 2, 31, rfl, by decide +kernel⟩,
   ⟨whcp [(Fld.MNTL_STAT_ROLE, 0, 1), (Fld.MNTL_CTL_MIRROR, 0, 1), (Fld.MNTL_STAT_COMPAT, 0, 1), (Fld.MNTL_CTL_EN, 0, 1)], 0,
    wreq, 2, 31, rfl, by decide +kernel⟩,
   ⟨(whcp []).putCs 4 { state := 1 }, 0, wreq, 2, 4, [⟨.dst, 5, [wordOf .WARP_DST_ROUTE 5 false 17 0x7FF]⟩], 1,
    [{ kind := .dst, inst := 5, items := [⟨.WARP_DST_ROUTE, 5, 17, 0x7FF⟩] }], rfl, by decide +kernel⟩,
   ⟨(whcp []).putCs 4 { state := 1 }, 0, wreq, 2, 4, [⟨.dst, 5, [wordOf .WARP_DST_ROUTE 5 false 17 0x7FF, wordOf .WARP_DST_CFG 5
    false (2 ^ 31) (2 ^ 31)]⟩], 1, [], .errAccess, rfl, by decide +kernel⟩,
   ⟨(whcp []).putCs 4 { state := 2 }, 0, wreq, 2, 4, [], rfl, by decide +kernel⟩,
   ⟨(whcp []).putCs 4 { state := 1 }, 0, wreq, 2, 4, true, 200000, 0, rfl, by decide +kernel⟩,
   ⟨(whcp []).putCs 4 { state := 1 }, 0, wreq, 2, 4, true, 199999, 0, rfl, by decide +kernel⟩,
   ⟨(whcp []).putCs 4 { state := 1 }, 0, wreq, 2, 4, true, 0, 0, rfl, by decide +kernel⟩,
   ⟨(whcp []).putCs 4 { state := 1 }, 0, wreq, 2, 4, true, 1200000, 200000, rfl, by decide +kernel⟩,
   ⟨(whcp []).putCs 4 { state := 1 }, 0, wreq, 2, 4, true, 1199999, 200000, rfl, by decide +kernel⟩,
   ⟨(whcp []).putCs 4 { state := 2, allOrNone := true, tp := 5 }, 0, wreq, 2, 4, rfl, by decide +kernel⟩,
   ⟨(whcp []).putCs 4 { state := 2, allOrNone := true, auto := true, tp := 5 }, 0, wreq, 2, 4, rfl, by decide +kernel⟩,
   ⟨(whcp []).putCs 4 { state := 2 }, 0, wreq, 2, 4, rfl, by decide +kernel⟩,
   ⟨(whcp []).putCs 4 { state := 3, allOrNone := true, tp := 5 }, 0, wreq, 2, 4, rfl, by decide +kernel⟩,
   ⟨(whcp []).putCs 4 { state := 3, allOrNone := true, now := true, tp := 5 }, 0, wreq, 2, 4, rfl, by decide +kernel⟩,
   ⟨(whcp []).putCs 4 { state := 3, allOrNone := true, tp := 5, entries := [{ kind := .dst, inst := 5, items := [] }] }, 0, wreq,
    2, 4, rfl, by decide +kernel⟩,
   ⟨(whcp []).putCs 4 { state := 2, entries := [{ kind := .dst, inst := 5, items := [] }] }, 0, wreq, 2, 4, rfl, by decide +kernel⟩,
   ⟨(whcp []).putCs 4 { state := 6 }, 0, wreq, 2, 4, rfl, by decide +kernel⟩,
   ⟨(whcp []).putCs 4 { state := 6, entries := [{ kind := .dst, inst := 5, items := [] }] }, 0, wreq, 2, 4, rfl, by decide +kernel⟩,
   ⟨(whcp []).putCs 4 { state := 5 }, 0, wreq, 2, 4, rfl, by decide +kernel⟩,
   ⟨(whcp []).putCs 4
    { state := 5, entries := [{ kind := .dst, inst := 5, items := [] }, { kind := .head, inst := 3, items := [], status := 1 }] },
    0, wreq, 2, 4, 1, 9, rfl, by decide +kernel⟩⟩

theorem witness_ChangeSetTimes :
    (∃ (s : State) (dt : Nat) (n : Fin 32) (e : BitVec 12) (x : CsEntry), s.runs ∧ (s.csOf n).entries[e.toNat]? = some x ∧
      x.status = 0 ∧ x.shadow = none ∧ (s.csOf n).state = 2 ∧ s.unitStopped x.kind x.inst = false ∧ x.kind ≠ .tout) ∧
    (∃ (s : State) (dt : Nat) (n : Fin 32) (e : BitVec 12) (x : CsEntry), s.runs ∧ (s.csOf n).entries[e.toNat]? = some x ∧
      x.shadow ≠ none ∧ (s.csOf n).state ≠ 3) ∧
    (∃ (s : State) (dt : Nat) (n : Fin 32) (x : CsEntry), s.runs ∧ (s.csOf n).entries = [x] ∧ x.status = 0 ∧ (s.csOf n).state
      = 2 ∧ (s.csOf n).allOrNone = false ∧ s.unitStopped x.kind x.inst = false ∧ x.kind ≠ .tout) ∧
    (∃ (s : State) (dt : Nat) (n : Fin 32) (x : CsEntry), s.runs ∧ (s.csOf n).entries = [x] ∧ x.status = 0 ∧ (s.csOf n).state
      = 2 ∧ (s.csOf n).allOrNone = true ∧ s.unitStopped x.kind x.inst = false ∧ x.kind ≠ .tout) ∧
    (∃ (s : State) (dt : Nat) (n : Fin 32) (v : Nat) (x : CsEntry), s.runs ∧ (s.csOf n).state = 4 ∧ (s.csOf n).ta = some v ∧
      reached (s.start dt).count v = true ∧ (s.csOf n).entries = [x] ∧ x.status = 0 ∧ s.unitStopped x.kind x.inst = false) ∧
    (∃ (s : State) (dt : Nat) (n : Fin 32) (v : Nat), s.runs ∧ (s.csOf n).state = 4 ∧ (s.csOf n).ta = some v ∧ reached
      (s.start dt).count v = false) ∧
    (∃ (s : State) (dt : Nat) (n : Fin 32), s.runs ∧ (s.csOf n).allOrNone = true ∧ (s.csOf n).state = 2 ∧ (s.csOf n).prepared
      = false ∧ (s.start dt).beforeTp (s.csOf n) = false) ∧
    (∃ (s : State) (dt : Nat) (n : Fin 32), s.runs ∧ (s.csOf n).allOrNone = true ∧ (s.csOf n).state = 3 ∧ (s.start
      dt).beforeTp (s.csOf n) = false ∧ (s.csOf n).prepared = true ∧ (s.start dt).csReady (s.csOf n) = false ∧ s.mirrors =
      false) ∧
    (∃ (s : State) (dt : Nat) (set : Fin 32) (at_ : Nat), s.runs ∧ s.role = .standby ∧ s.mirrors = true ∧ 2 ≤ (s.csOf
      set).state ∧ (s.csOf set).state ≤ 5) ∧
    (∃ (s : State) (dt : Nat) (size : Nat) (apron safety : Bool) (at_ : Nat), s.runs ∧ s.freeHandle = none ∧ s.role = .standby
      ∧ s.mirrors = true ∧ size ≠ 0 ∧ (apron = false ∨ safety = true) ∧ s.mild) ∧
    (∃ (s : State) (dt : Nat) (at_ : Nat) (r : Status) (op : MirOp), s.runs ∧ (s.role ≠ .standby ∨ (s.mirrors = false ∧
      op.isSeq = false))) ∧
    (∃ (s : State) (dt : Nat) (at_ f n : Nat), s.runs ∧ s.role = .standby ∧ 2 ≤ s.rd Fld.ETH_FLOW_CTL_TYPE f) ∧
    (∃ (s : State) (dt : Nat) (n : Fin 32) (r : Bool) (l : List (TKind × BitVec 16 × BitVec 7)), s.runs ∧ s.role = .holder ∧
      s.mirrors = true ∧ (s.csOf n).state ≠ 3) :=
  ⟨⟨(st [(Fld.WARP_DST_CFG_EN, 5, 1)]).putCs 4
    { state := 2, entries := [{ kind := .dst, inst := 5, items := [⟨.WARP_DST_ROUTE, 5, 17, 0x7FF⟩] }] }, 0, 4, 0,
    { kind := .dst, inst := 5, items := [⟨.WARP_DST_ROUTE, 5, 17, 0x7FF⟩] }, rfl, by decide +kernel⟩,
   ⟨(st [(Fld.WARP_DST_CFG_EN, 5, 1)]).putCs 4
    { state := 2, entries := [{ kind := .dst, inst := 5, items := [], shadow := some 3 }] }, 0, 4, 0,
    { kind := .dst, inst := 5, items := [], shadow := some 3 }, rfl, by decide +kernel⟩,
   ⟨(st [(Fld.WARP_DST_CFG_EN, 5, 1)]).putCs 4
    { state := 2, entries := [{ kind := .dst, inst := 5, items := [⟨.WARP_DST_ROUTE, 5, 17, 0x7FF⟩] }] }, 0, 4,
    { kind := .dst, inst := 5, items := [⟨.WARP_DST_ROUTE, 5, 17, 0x7FF⟩] }, rfl, by decide +kernel⟩,
   ⟨(st [(Fld.WARP_DST_CFG_EN, 5, 1)]).putCs 4
    { state := 2, allOrNone := true, entries := [{ kind := .dst, inst := 5, items := [⟨.WARP_DST_ROUTE, 5, 17, 0x7FF⟩] }] },
    0, 4, { kind := .dst, inst := 5, items := [⟨.WARP_DST_ROUTE, 5, 17, 0x7FF⟩] }, rfl, by decide +kernel⟩,
   ⟨{ (st [(Fld.WARP_DST_CFG_EN, 5, 1)]).putCs 4 { state := 4, allOrNone := true, ta := some 7, entries := [{ kind := .dst, inst := 5, items := [] }] } with now := 7 * 65536 },
    0, 4, 7, { kind := .dst, inst := 5, items := [] }, rfl, by decide +kernel⟩,
   ⟨{ st [] with now := 6 * 65536, cs := [(4, { state := 4, ta := some 7 })] }, 0, 4, 7, rfl, by decide +kernel⟩,
   ⟨{ st [] with now := 6 * 65536, cs := [(4, { state := 2, allOrNone := true, tp := 6, entries := [{ kind := .dst, inst := 5, items := [] }] })] },
    0, 4, rfl, by decide +kernel⟩,
   ⟨{ st [] with now := 6 * 65536, cs := [(4, { state := 3, allOrNone := true, prepared := true, tp := 6, entries := [{ kind := .dst, inst := 5, items := [] }] })] },
    0, 4, rfl, by decide +kernel⟩,
   ⟨{ st [(Fld.MNTL_STAT_ROLE, 0, 1), (Fld.MNTL_CTL_MIRROR, 0, 1), (Fld.MNTL_STAT_COMPAT, 0, 1), (Fld.MNTL_CTL_EN, 0, 1)] with cs := [(4, { state := 2, entries := [{ kind := .dst, inst := 5, items := [] }] })] },
    0, 4, 0, rfl, by decide +kernel⟩,
   ⟨{ st [(Fld.MNTL_STAT_ROLE, 0, 1), (Fld.MNTL_CTL_MIRROR, 0, 1), (Fld.MNTL_STAT_COMPAT, 0, 1), (Fld.MNTL_CTL_EN, 0, 1)] with cask := { surf := (List.range 4096).map fun g => (g, { state := 1 }) } },
    0, 5, false, false, 0, rfl, noHandle _ (by with_reducible rfl), by decide +kernel, by decide +kernel, by decide +kernel, by decide +kernel, by decide +kernel⟩,
   ⟨st [(Fld.MNTL_STAT_ROLE, 0, 2)], 0, 0, .ok, .cancel 3, rfl, by decide +kernel⟩,
   ⟨st [(Fld.MNTL_STAT_ROLE, 0, 1), (Fld.ETH_FLOW_CTL_TYPE, 9, 2)], 0, 0, 9, 77, rfl, by decide +kernel⟩,
   ⟨{ st [(Fld.MNTL_STAT_ROLE, 0, 2), (Fld.MNTL_CTL_MIRROR, 0, 1), (Fld.MNTL_STAT_COMPAT, 0, 1), (Fld.MNTL_CTL_EN, 0, 1)] with cs := [(4, { state := 2 })] },
    0, 4, true, [(.dst, 5, 3)], rfl, by decide +kernel⟩⟩

theorem witness_Snapshots :
    (∃ (s : State) (dt : Nat) (h : HcpReq) (k n : Nat) (target : BitVec 8) (i first count : BitVec 16) (ts : BitVec 64),
      s.runs ∧ (s.start dt).asks h (some 0) true k ∧ snapOk target.toNat i.toNat first.toNat count.toNat false = true ∧
      target.toNat ≠ 0 ∧ (List.range 4).find? (fun n => (s.snapBuf n).isNone) = some n) ∧
    (∃ (s : State) (dt : Nat) (h : HcpReq) (k n : Nat) (i first count : BitVec 16) (ts : BitVec 64), s.runs ∧ (s.start
      dt).asks h (some 0) true k ∧ snapOk 0 i.toNat first.toNat count.toNat false = true ∧ reached (s.start dt).count ts.toNat
      = false ∧ (List.range 4).find? (fun n => (s.snapBuf n).isNone) = some n) ∧
    (∃ (s : State) (dt : Nat) (h : HcpReq) (k n : Nat) (first count : BitVec 16) (ts : BitVec 64), s.runs ∧ (s.start dt).asks
      h (some 0) true k ∧ snapOk 0 0 first.toNat count.toNat false = true ∧ reached (s.start dt).count ts.toNat = true ∧
      (List.range 4).find? (fun n => (s.snapBuf n).isNone) = some n) ∧
    (∃ (s : State) (dt : Nat) (h : HcpReq) (k : Nat) (target : BitVec 8) (now seam : Bool) (i first count : BitVec 16) (ts :
      BitVec 64), s.runs ∧ (s.start dt).asks h (some 0) true k ∧ snapOk target.toNat i.toNat first.toNat count.toNat seam =
      false) ∧
    (∃ (s : State) (dt : Nat) (h : HcpReq) (k : Nat) (target : BitVec 8) (now seam : Bool) (i first count : BitVec 16) (ts :
      BitVec 64), s.runs ∧ (s.start dt).asks h (some 0) true k ∧ snapOk target.toNat i.toNat first.toNat count.toNat seam =
      true ∧ (List.range 4).find? (fun n => (s.snapBuf n).isNone) = none) ∧
    (∃ (s : State) (dt : Nat) (k : Fin 4) (b : SnapBuf), s.runs ∧ s.snapBuf k = some b ∧ b.complete = false ∧ b.seam = false ∧
      b.target = 0 ∧ reached (s.start dt).count b.ts = true) ∧
    (∃ (s : State) (dt : Nat) (k : Fin 4) (b : SnapBuf), s.runs ∧ s.snapBuf k = some b ∧ reached (s.start dt).count b.ts =
      false) ∧
    (∃ (s : State) (dt : Nat) (h : HcpReq) (k : Nat) (n : BitVec 8) (off : BitVec 32) (len : BitVec 16) (b : SnapBuf), s.runs
      ∧ (s.start dt).asks h (some 0) true k ∧ s.ownSnap k n.toNat = some b ∧ b.complete = true ∧ off.toNat + len.toNat ≤
      (b.recs.flatMap fun p => p.2).length ∧ len.toNat < s.bodyMax h.ctl1) ∧
    (∃ (s : State) (dt : Nat) (h : HcpReq) (k : Nat) (n : BitVec 8) (off : BitVec 32) (len : BitVec 16) (b : SnapBuf), s.runs
      ∧ (s.start dt).asks h (some 0) true k ∧ s.ownSnap k n.toNat = some b ∧ b.complete = false) ∧
    (∃ (s : State) (dt : Nat) (h : HcpReq) (k : Nat) (n : BitVec 8) (off : BitVec 32) (len : BitVec 16), s.runs ∧ (s.start
      dt).asks h (some 0) true k ∧ s.ownSnap k n.toNat = none) ∧
    (∃ (s : State) (dt : Nat) (h : HcpReq) (k : Nat) (n : BitVec 8), s.runs ∧ (s.start dt).asks h (some 0) true k ∧ s.ownSnap
      k n.toNat ≠ none) ∧
    (∃ (s : State) (dt : Nat) (h : HcpReq) (k : Nat) (n : BitVec 8), s.runs ∧ (s.start dt).asks h (some 0) true k ∧ s.ownSnap
      k n.toNat = none) :=
  ⟨⟨whcp [], 0, wreq, 2, 0, 2, 3, 0, 0, 0, rfl, by decide +kernel⟩,
   ⟨whcp [], 0, wreq, 2, 0, 0, 5, 2, 70, rfl, by decide +kernel⟩,
   ⟨{ whcp [] with now := 71 * 65536 }, 0, wreq, 2, 0, 5, 2, 70, rfl, by decide +kernel⟩,
   ⟨whcp [], 0, wreq, 2, 1, true, true, 0, 0, 0, 0, rfl, by decide +kernel⟩,
   ⟨(whcp []).onHcp fun z =>
    { z with snaps := (List.range 4).map fun k => (k, { owner := 2, target := 0, seam := false, inst := 0, first := 0, count := 1, ts := 0, late := false, complete := true, recs := [] }) },
    0, wreq, 2, 3, true, false, 0, 0, 0, 0, rfl, by decide +kernel, by decide +kernel, by decide +kernel⟩,
   ⟨{ whcp [] with now := 71 * 65536, hcp := { snaps := [(1, { owner := 2, target := 0, seam := false, inst := 0, first := 3, count := 2, ts := 70, late := false, complete := false, recs := [] })] } },
    0, 1,
    { owner := 2, target := 0, seam := false, inst := 0, first := 3, count := 2, ts := 70, late := false, complete := false, recs := [] },
    rfl, by decide +kernel⟩,
   ⟨{ whcp [] with now := 69 * 65536, hcp := { snaps := [(1, { owner := 2, target := 0, seam := false, inst := 0, first := 3, count := 2, ts := 70, late := false, complete := false, recs := [] })] } },
    0, 1,
    { owner := 2, target := 0, seam := false, inst := 0, first := 3, count := 2, ts := 70, late := false, complete := false, recs := [] },
    rfl, by decide +kernel⟩,
   ⟨(whcp []).onHcp fun z =>
    { z with snaps := [(1, { owner := 2, target := 0, seam := false, inst := 0, first := 0, count := 1, ts := 0, late := true, complete := true, recs := [(0, [5, 6, 7])] })] },
    0, wreq, 2, 1, 1, 2,
    { owner := 2, target := 0, seam := false, inst := 0, first := 0, count := 1, ts := 0, late := true, complete := true, recs := [(0, [5, 6, 7])] },
    rfl, by decide +kernel⟩,
   ⟨(whcp []).onHcp fun z =>
    { z with snaps := [(1, { owner := 2, target := 0, seam := false, inst := 0, first := 0, count := 1, ts := 9, late := true, complete := false, recs := [] })] },
    0, wreq, 2, 1, 0, 2,
    { owner := 2, target := 0, seam := false, inst := 0, first := 0, count := 1, ts := 9, late := true, complete := false, recs := [] },
    rfl, by decide +kernel⟩,
   ⟨(whcp []).onHcp fun z =>
    { z with snaps := [(1, { owner := 3, target := 0, seam := false, inst := 0, first := 0, count := 1, ts := 9, late := true, complete := false, recs := [] })] },
    0, wreq, 2, 1, 0, 2, rfl, by decide +kernel⟩,
   ⟨(whcp []).onHcp fun z =>
    { z with snaps := [(1, { owner := 2, target := 0, seam := false, inst := 0, first := 0, count := 1, ts := 9, late := true, complete := false, recs := [] })] },
    0, wreq, 2, 1, rfl, by decide +kernel⟩,
   ⟨whcp [], 0, wreq, 2, 1, rfl, by decide +kernel⟩⟩

theorem witness_StartUpStages :
    (∃ (s : State) (dt : Nat), s.runs ∧ s.atStage 1 = true) ∧
    (∃ (s : State) (dt : Nat), s.runs ∧ s.atStage 1 = true ∧ s.on Fld.BOOT_STAT_FACTORY_PIN 0 = true) ∧
    (∃ (s : State) (dt : Nat), s.runs ∧ s.atStage 1 = true ∧ s.on Fld.BOOT_STAT_FACTORY_PIN 0 = false ∧ s.boot.rec_.swapping =
      false ∧ s.boot.rec_.trial = false ∧ s.boot.rec_.fallback = false ∧ (s.stg = 0 ∨ s.stg = 3 ∨ s.stg = 4 ∨ s.stg = 6)) ∧
    (∃ (s : State) (dt : Nat), s.runs ∧ s.atStage 1 = true ∧ s.on Fld.BOOT_STAT_FACTORY_PIN 0 = false ∧ s.boot.rec_.swapping =
      false ∧ s.boot.rec_.trial = false ∧ s.stg = 5 ∧ 0 < s.swapLen) ∧
    (∃ (s : State) (dt : Nat), s.runs ∧ s.atStage 1 = true ∧ s.on Fld.BOOT_STAT_FACTORY_PIN 0 = false ∧ s.boot.rec_.swapping =
      false ∧ s.boot.rec_.trial = true ∧ s.boot.rec_.fallback = false ∧ s.rd Fld.BOOT_TRIAL_STARTS 0 = 1 ∧ s.stg = 6) ∧
    (∃ (s : State) (dt : Nat), s.runs ∧ s.atStage 1 = true ∧ s.on Fld.BOOT_STAT_FACTORY_PIN 0 = false ∧ (s.stg = 1 ∨ s.stg = 2
      ∨ s.stg = 7)) ∧
    (∃ (s : State) (dt : Nat), s.runs ∧ Memory.wf s.mem = true ∧ s.atStage 2 = true ∧ s.boot.rec_.swapping = true ∧
      s.boot.rec_.step % 3 = 0 ∧ s.boot.rec_.step + 1 < 3 * s.boot.rec_.len) ∧
    (∃ (s : State) (dt : Nat), s.runs ∧ Memory.wf s.mem = true ∧ s.atStage 2 = true ∧ s.boot.rec_.swapping = true ∧
      s.boot.rec_.step % 3 = 1 ∧ s.boot.rec_.step + 1 < 3 * s.boot.rec_.len ∧ s.boot.rec_.step / 3 < 2048) ∧
    (∃ (s : State) (dt : Nat), s.runs ∧ Memory.wf s.mem = true ∧ s.atStage 2 = true ∧ s.boot.rec_.swapping = true ∧
      s.boot.rec_.step % 3 = 2 ∧ s.boot.rec_.step + 1 < 3 * s.boot.rec_.len ∧ s.boot.rec_.step / 3 < 2048) ∧
    (∃ (s : State) (dt : Nat), s.runs ∧ s.atStage 2 = true ∧ s.boot.rec_.swapping = true ∧ s.boot.rec_.fallback = false ∧ 3 *
      s.boot.rec_.len ≤ s.boot.rec_.step + 1) ∧
    (∃ (s : State) (dt : Nat), s.runs ∧ s.atStage 2 = true ∧ s.boot.rec_.swapping = true) ∧
    (∃ (s : State) (dt : Nat) (img : ImgIn) (fac : Bool), s.runs ∧ s.atStage 3 = true ∧ s.boot.useFactory = fac ∧ s.on
      Fld.BOOT_STAT_FACTORY_PIN 0 = false ∧ s.imageCause img = 0) ∧
    (∃ (s : State) (dt : Nat) (img : ImgIn), s.runs ∧ s.atStage 3 = true ∧ s.imageCause img ≠ 0 ∧ s.boot.useFactory = false ∧
      s.on Fld.BOOT_STAT_FACTORY_PIN 0 = false) ∧
    (∃ (s : State) (dt : Nat) (img : ImgIn), s.runs ∧ s.atStage 3 = true ∧ s.imageCause img ≠ 0 ∧ s.boot.useFactory = true) ∧
    (∃ (s : State) (dt : Nat) (r : KeyRec) (k : Fin 16), s.runs ∧ s.atStage 4 = true ∧ s.boot.conds = [] ∧ s.boot.img.key =
      some r) ∧
    (∃ (s : State) (dt : Nat) (v : BitVec 32), s.runs ∧ s.atStage 4 = true ∧ s.boot.conds = [] ∧ s.boot.img.recs = [⟨.named
      .HCP_CFG 0 false, [v]⟩]) ∧
    (∃ (s : State) (dt : Nat) (b : Fin 33), s.runs ∧ s.atStage 5 = true ∧ s.on Fld.IZL_LINK_CTL_ENABLE b = true) ∧
    (∃ (s : State) (dt : Nat), s.runs ∧ s.atStage 6 = true ∧ s.boot.stageAt + ms 200 ≤ s.up + dt ∧ s.on
      Fld.KILN_STAT_TIME_VALID 0 = false) ∧
    (∃ (s : State) (dt : Nat), s.runs ∧ s.atStage 6 = true ∧ s.boot.stageAt + ms 200 ≤ s.up + dt ∧ s.on
      Fld.KILN_STAT_TIME_VALID 0 = true ∧ s.on Fld.MNTL_CTL_EN 0 = false) ∧
    (∃ (s : State) (dt : Nat) (b : Fin 33), s.runs ∧ s.atStage 6 = true ∧ s.up + dt < s.boot.stageAt + ms 200 ∧ s.on
      Fld.IZL_LINK_CTL_ENABLE b = true ∧ s.linkUp b = false) ∧
    (∃ (s : State) (dt : Nat), s.runs ∧ s.atStage 8 = true ∧ s.role ≠ .none) ∧
    (∃ (s : State) (dt : Nat), s.runs ∧ s.atStage 8 = true ∧ s.role = .none) :=
  ⟨⟨State.reset, 0, rfl, by decide +kernel⟩,
   ⟨State.reset.wr Fld.BOOT_STAT_FACTORY_PIN 0 1, 0, rfl, by decide +kernel⟩,
   ⟨State.reset, 0, rfl, by decide +kernel⟩,
   ⟨{ State.reset.wr Fld.BOOT_STG_STAT_STATE 0 5 with boot := { staging := { len := 70000 } } }, 0, rfl, by decide +kernel⟩,
   ⟨{ (State.reset.wr Fld.BOOT_STG_STAT_STATE 0 6).wr Fld.BOOT_TRIAL_STARTS 0 1 with boot := { rec_ := { trial := true } } }, 0,
    rfl, by decide +kernel⟩,
   ⟨State.reset.wr Fld.BOOT_STG_STAT_STATE 0 1, 0, rfl, by decide +kernel⟩,
   ⟨{ State.reset.wr Fld.BOOT_STAT_STAGE 0 2 with boot := { rec_ := { swapping := true, step := 3, len := 2 } } }, 0, rfl,
    by decide +kernel⟩,
   ⟨{ State.reset.wr Fld.BOOT_STAT_STAGE 0 2 with boot := { rec_ := { swapping := true, step := 4, len := 2 } } }, 0, rfl,
    by decide +kernel⟩,
   ⟨{ State.reset.wr Fld.BOOT_STAT_STAGE 0 2 with boot := { rec_ := { swapping := true, step := 2, len := 2 } } }, 0, rfl,
    by decide +kernel⟩,
   ⟨{ State.reset.wr Fld.BOOT_STAT_STAGE 0 2 with boot := { rec_ := { swapping := true, step := 5, len := 2 }, staging := { len := 9 } } },
    0, rfl, by decide +kernel⟩,
   ⟨{ State.reset.wr Fld.BOOT_STAT_STAGE 0 2 with boot := { rec_ := { swapping := true, step := 5, len := 2 } } }, 0, rfl,
    by decide +kernel⟩,
   ⟨{ State.reset.wr Fld.BOOT_STAT_STAGE 0 3 with boot := { fuses := [(2, (some 77, false))] } }, 0, wimg, false, rfl, by decide +kernel⟩,
   ⟨State.reset.wr Fld.BOOT_STAT_STAGE 0 3, 0, { wimg with readable := false }, rfl, by decide +kernel⟩,
   ⟨{ State.reset.wr Fld.BOOT_STAT_STAGE 0 3 with boot := { useFactory := true } }, 0, { wimg with magic := 0 }, rfl, by decide +kernel⟩,
   ⟨{ State.reset.wr Fld.BOOT_STAT_STAGE 0 4 with boot := { img := { recs := [⟨.named .HCP_CFG 0 false, [60]⟩], key := some wkey, ip := List.replicate 18 5 } } },
    0, wkey, 15, rfl, by decide +kernel⟩,
   ⟨{ State.reset.wr Fld.BOOT_STAT_STAGE 0 4 with boot := { img := { recs := [⟨.named .HCP_CFG 0 false, [0x01234567]⟩] } } }, 0,
    0x01234567, rfl, by decide +kernel⟩,
   ⟨(State.reset.wr Fld.BOOT_STAT_STAGE 0 5).wr Fld.IZL_LINK_CTL_ENABLE 3 1, 0, 3, rfl, by decide +kernel⟩,
   ⟨(State.reset.wr Fld.BOOT_STAT_STAGE 0 6), ms 200, rfl, by decide +kernel⟩,
   ⟨(State.reset.wr Fld.BOOT_STAT_STAGE 0 6).wr Fld.KILN_STAT_TIME_VALID 0 1, ms 200, rfl, by decide +kernel⟩,
   ⟨(State.reset.wr Fld.BOOT_STAT_STAGE 0 6).wr Fld.IZL_LINK_CTL_ENABLE 3 1, ms 199, 3, rfl, by decide +kernel⟩,
   ⟨(State.reset.wr Fld.BOOT_STAT_STAGE 0 8).wr Fld.MNTL_STAT_ROLE 0 4, 0, rfl, by decide +kernel⟩,
   ⟨(State.reset.wr Fld.BOOT_STAT_STAGE 0 8).wr Fld.MNTL_STAT_ROLE 0 0, 0, rfl, by decide +kernel⟩⟩

theorem witness_TrialState :
    (∃ (s : State) (dt : Nat), s.runs ∧ (s.start dt).confirmsNow = true) ∧
    (∃ (s : State) (dt : Nat), s.runs ∧ (s.start dt).confirmsNow = false) ∧
    (∃ (s : State) (dt : Nat), s.runs ∧ s.trial = true ∧ s.boot.startAt + sec s.boot.run.confirmS ≤ s.up + dt ∧ (s.start
      dt).confirmsNow = false ∧ s.mild) ∧
    (∃ (s : State) (dt : Nat), s.runs ∧ s.trial = true ∧ s.boot.startAt + sec s.boot.run.confirmS ≤ s.up + dt ∧ (s.start
      dt).confirmsNow = true) ∧
    (∃ (s : State) (dt : Nat), s.runs ∧ s.trial = true ∧ s.up + dt < s.boot.startAt + sec s.boot.run.confirmS) :=
  ⟨⟨{ st [(Fld.CTRL_DEV_STATE_MODE, 0, 1), (Fld.CTRL_DEV_STATE_TRIAL, 0, 1), (Fld.KILN_STAT_TIME_VALID, 0, 1)] with boot := { run := { svn := 9, raiseSvn := true }, rec_ := { trial := true } } },
    sec 60, rfl, by decide +kernel⟩,
   ⟨st [(Fld.CTRL_DEV_STATE_MODE, 0, 1), (Fld.CTRL_DEV_STATE_TRIAL, 0, 1), (Fld.KILN_STAT_TIME_VALID, 0, 1)], sec 59, rfl,
    by decide +kernel⟩,
   ⟨st [(Fld.CTRL_DEV_STATE_MODE, 0, 1), (Fld.CTRL_DEV_STATE_TRIAL, 0, 1)], sec 600, rfl, by decide +kernel⟩,
   ⟨{ st [(Fld.CTRL_DEV_STATE_MODE, 0, 1), (Fld.CTRL_DEV_STATE_TRIAL, 0, 1), (Fld.KILN_STAT_TIME_VALID, 0, 1)] with boot := { rec_ := { trial := true } } },
    sec 600, rfl, by decide +kernel⟩,
   ⟨{ st [(Fld.CTRL_DEV_STATE_MODE, 0, 1), (Fld.CTRL_DEV_STATE_TRIAL, 0, 1)] with boot := { rec_ := { trial := true } } }, sec
    599, rfl, by decide +kernel⟩⟩

theorem witness_ImageOps :
    (∃ (s : State) (dt : Nat) (h : HcpReq) (k : Nat) (data : List Byte), s.runs ∧ (s.start dt).asks h (some 3) false k ∧
      (s.stg = 0 ∨ s.stg = 3 ∨ s.stg = 4 ∨ s.stg = 6) ∧ s.trial = false ∧ data.length ≤ 8192) ∧
    (∃ (s : State) (dt : Nat) (h : HcpReq) (k : Nat) (off : BitVec 32) (data : List Byte), s.runs ∧ (s.start dt).asks h (some
      3) false k ∧ s.stg = 1 ∧ s.trial = false ∧ s.boot.writer = some (s.sessOf k).writerId ∧ s.boot.written = off.toNat ∧ off
      ≠ 0 ∧ off.toNat + data.length ≤ 0x8000000) ∧
    (∃ (s : State) (dt : Nat) (h : HcpReq) (k : Nat) (off : BitVec 32) (data : List Byte), s.runs ∧ (s.start dt).asks h (some
      3) false k ∧ s.stg = 1 ∧ s.trial = false ∧ s.boot.writer = some (s.sessOf k).writerId ∧ s.boot.written ≠ off.toNat ∧ off
      ≠ 0) ∧
    (∃ (s : State) (dt : Nat) (h : HcpReq) (k : Nat) (off : BitVec 32) (data : List Byte) (full : Bool), s.runs ∧ (s.start
      dt).asks h (some 3) false k ∧ (s.stg = 5 ∨ s.stg = 7 ∨ s.stg = 2 ∨ s.trial = true ∨ (full = true ∧ off = 0 ∧ data.length
      ≤ 8192))) ∧
    (∃ (s : State) (dt : Nat) (h : HcpReq) (k : Nat) (len : BitVec 32) (act : Bool), s.runs ∧ (s.start dt).asks h (some 3)
      false k ∧ s.stg = 1 ∧ s.boot.writer = some (s.sessOf k).writerId ∧ s.boot.written = len.toNat) ∧
    (∃ (s : State) (dt : Nat) (h : HcpReq) (k : Nat), s.runs ∧ (s.start dt).asks h (some 3) false k ∧ (s.stg = 3 ∨ s.stg = 6)) ∧
    (∃ (s : State) (dt : Nat) (h : HcpReq) (k : Nat) (len : BitVec 32) (act : Bool), s.runs ∧ (s.start dt).asks h (some 3)
      false k ∧ s.stg = 1 ∧ (s.boot.writer ≠ some (s.sessOf k).writerId ∨ s.boot.written ≠ len.toNat)) ∧
    (∃ (s : State) (dt : Nat) (h : HcpReq) (k : Nat), s.runs ∧ (s.start dt).asks h (some 3) false k ∧ (s.stg = 1 ∨ s.stg = 2 ∨
      s.stg = 7)) ∧
    (∃ (s : State) (dt : Nat) (h : HcpReq) (k : Nat), s.runs ∧ (s.start dt).asks h (some 3) false k ∧ s.stg = 5) ∧
    (∃ (s : State) (dt : Nat) (h : HcpReq) (k : Nat), s.runs ∧ (s.start dt).asks h (some 3) true k ∧ 40 ≤ s.bodyMax h.ctl1) ∧
    (∃ (s : State) (dt : Nat) (h : HcpReq) (k : Nat) (hops : BitVec 8) (b : Fin 32), s.runs ∧ (s.start dt).asks h (some 3)
      false k ∧ 1 ≤ hops.toNat ∧ hops.toNat ≤ 64 ∧ (s.stg = 3 ∨ s.stg = 5) ∧ s.linkUp b = true ∧ s.sendsSide b) ∧
    (∃ (s : State) (dt : Nat) (h : HcpReq) (k : Nat) (hops : BitVec 8) (mask : BitVec 32) (m : Bool), s.runs ∧ (s.start
      dt).asks h (some 3) false k ∧ (hops.toNat = 0 ∨ 64 < hops.toNat ∨ (s.stg ≠ 3 ∧ s.stg ≠ 5))) ∧
    (∃ (s : State) (dt : Nat) (img : ImgIn), s.runs ∧ s.stg = 2 ∧ s.boot.rx = none ∧ s.imageCause img ≠ 0) ∧
    (∃ (s : State) (dt : Nat) (img : ImgIn) (c : Nat), s.runs ∧ s.stg = 2 ∧ s.boot.rx = none ∧ s.imageCause img = 0 ∧ (if
      s.boot.activate then s.activateCause img.hdr else 0) = c) ∧
    (∃ (s : State) (dt : Nat) (img : ImgIn) (r : RelayRx), s.runs ∧ s.stg = 2 ∧ s.boot.rx = some r ∧ s.on
      Fld.BOOT_RELAY_CTL_FORWARD 0 = false ∧ s.sendsSide r.link) :=
  ⟨⟨whcp [(Fld.BOOT_STG_STAT_STATE, 0, 3)], 0, wreq, 2, [7, 8], rfl, by decide +kernel⟩,
   ⟨{ whcp [(Fld.BOOT_STG_STAT_STATE, 0, 1)] with boot := { writer := some (3 * 2 ^ 32 + 7), written := 5 } }, 0, wreq, 2, 5, [7,
    8], rfl, by decide +kernel⟩,
   ⟨{ whcp [(Fld.BOOT_STG_STAT_STATE, 0, 1)] with boot := { writer := some (3 * 2 ^ 32 + 7), written := 5 } }, 0, wreq, 2, 6, [7,
    8], rfl, by decide +kernel⟩,
   ⟨whcp [(Fld.BOOT_STG_STAT_STATE, 0, 5)], 0, wreq, 2, 0, [7, 8], false, rfl, by decide +kernel⟩,
   ⟨{ whcp [(Fld.BOOT_STG_STAT_STATE, 0, 1)] with boot := { writer := some (3 * 2 ^ 32 + 7), written := 5 } }, 0, wreq, 2, 5,
    true, rfl, by decide +kernel⟩,
   ⟨whcp [(Fld.BOOT_STG_STAT_STATE, 0, 6)], 0, wreq, 2, rfl, by decide +kernel⟩,
   ⟨{ whcp [(Fld.BOOT_STG_STAT_STATE, 0, 1)] with boot := { writer := some (3 * 2 ^ 32 + 7), written := 5 } }, 0, wreq, 2, 4,
    true, rfl, by decide +kernel⟩,
   ⟨whcp [(Fld.BOOT_STG_STAT_STATE, 0, 1)], 0, wreq, 2, rfl, by decide +kernel⟩,
   ⟨whcp [(Fld.BOOT_STG_STAT_STATE, 0, 5)], 0, wreq, 2, rfl, by decide +kernel⟩,
   ⟨whcp [(Fld.BOOT_STG_STAT_STATE, 0, 5)], 0, wreq, 2, rfl, by decide +kernel⟩,
   ⟨whcp [(Fld.BOOT_STG_STAT_STATE, 0, 5), (Fld.IZL_LINK_STAT_STATE, 3, 5), (Fld.IZL_LINK_CTL_ENABLE, 3, 1)], 0, wreq, 2, 64, 3,
    rfl, by decide +kernel⟩,
   ⟨whcp [(Fld.BOOT_STG_STAT_STATE, 0, 5)], 0, wreq, 2, 65, 1, true, rfl, by decide +kernel⟩,
   ⟨st [(Fld.BOOT_STG_STAT_STATE, 0, 2)], 0, { wimg with format := 2 }, rfl, by decide +kernel⟩,
   ⟨{ st [(Fld.BOOT_STG_STAT_STATE, 0, 2), (Fld.MNTL_STAT_ROLE, 0, 2), (Fld.MNTL_STAT_TWIN_HEALTHY, 0, 1)] with boot := { activate := true, fuses := [(2, (some 77, false))] } },
    0, wimg, 12, rfl, by decide +kernel⟩,
   ⟨{ st [(Fld.BOOT_STG_STAT_STATE, 0, 2), (Fld.IZL_LINK_STAT_STATE, 3, 5), (Fld.IZL_LINK_CTL_ENABLE, 3, 1)] with boot := { rx := some { link := 3, hops := 2, id := 77, len := 500, stored := 500, at_ := 0 } } },
    0, { wimg with readable := false }, { link := 3, hops := 2, id := 77, len := 500, stored := 500, at_ := 0 }, rfl, by decide +kernel⟩⟩

theorem witness_RelayCells :
    (∃ (s : State) (dt : Nat) (b : Fin 33) (rx : RxCell) (cell d : List Byte) (h : Hdr), s.runs ∧ s.relayed b rx cell h d 1 ∧
      s.declines (beAt d 2 16) = 0 ∧ s.sendsSide b) ∧
    (∃ (s : State) (dt : Nat) (b : Fin 33) (rx : RxCell) (cell d : List Byte) (h : Hdr) (c : Nat), s.runs ∧ s.relayed b rx
      cell h d 1 ∧ s.declines (beAt d 2 16) = c ∧ c ≠ 0 ∧ s.sendsSide b) ∧
    (∃ (s : State) (dt : Nat) (b : Fin 33) (rx : RxCell) (cell d : List Byte) (h : Hdr), s.runs ∧ s.relayed b rx cell h d 2 ∧
      (s.stg = 3 ∨ s.stg = 5) ∧ beAt d 2 16 = s.boot.staging.id ∧ s.sendsSide b ∧ s.boot.staging.len = beAt d 18 4 + 2) ∧
    (∃ (s : State) (dt : Nat) (b : Fin 33) (rx : RxCell) (cell d : List Byte) (h : Hdr) (r : RelayRx) (e : List Byte), s.runs
      ∧ s.relayed b rx cell h d 3 ∧ s.rxOn b (beAt d 2 16) = some r ∧ beAt d 18 4 = r.stored ∧ e = d.drop 22 ∧ r.stored +
      e.length < r.len ∧ r.len ≤ 0x8000000 ∧ (r.stored + e.length) / 65536 = r.acked / 65536) ∧
    (∃ (s : State) (dt : Nat) (b : Fin 33) (rx : RxCell) (cell d : List Byte) (h : Hdr) (r : RelayRx) (e : List Byte), s.runs
      ∧ s.relayed b rx cell h d 3 ∧ s.rxOn b (beAt d 2 16) = some r ∧ beAt d 18 4 = r.stored ∧ e = d.drop 22 ∧ r.stored +
      e.length = r.len ∧ r.len ≤ 0x8000000 ∧ s.sendsSide b) ∧
    (∃ (s : State) (dt : Nat) (b : Fin 33) (rx : RxCell) (cell d : List Byte) (h : Hdr) (r : RelayRx), s.runs ∧ s.relayed b rx
      cell h d 3 ∧ s.rxOn b (beAt d 2 16) = some r ∧ r.stored < beAt d 18 4 ∧ s.sendsSide b) ∧
    (∃ (s : State) (dt : Nat) (b : Fin 33) (rx : RxCell) (cell d : List Byte) (h : Hdr) (r : RelayTx), s.runs ∧ s.relayed b rx
      cell h d 4 ∧ (s.stg = 3 ∨ s.stg = 5) ∧ beAt d 2 16 = s.boot.staging.id ∧ (s.boot.tx.find? fun p => p.1 == b.val) = some
      (b.val, r) ∧ r.sent = s.boot.staging.len) ∧
    (∃ (s : State) (dt : Nat) (b : Fin 33) (rx : RxCell) (cell d : List Byte) (h : Hdr), s.runs ∧ s.relayed b rx cell h d 5) ∧
    (∃ (s : State) (dt : Nat) (b : Fin 33) (rx : RxCell) (cell d : List Byte) (h : Hdr), s.runs ∧ s.relayed b rx cell h d 6) ∧
    (∃ (s : State) (dt : Nat) (b : Fin 33) (r : RelayRx), s.runs ∧ s.stg = 7 ∧ s.boot.rx = some r ∧ r.link = b.val ∧ r.at_ +
      sec 2 ≤ s.up + dt) ∧
    (∃ (s : State) (dt : Nat) (b : Fin 33) (r : RelayTx), s.runs ∧ (s.boot.tx.find? fun p => p.1 == b.val) = some (b.val, r) ∧
      r.at_ + sec 2 ≤ s.up + dt) :=
  ⟨⟨st [(Fld.IZL_LINK_STAT_STATE, 3, 5), (Fld.IZL_LINK_CTL_ENABLE, 3, 1), (Fld.BOOT_RELAY_CTL_ACCEPT, 0, 1)], 0, 3, .bytes (wrel
    (wrdat 1 5 77 0 [0, 0, 2, 0])), wrel (wrdat 1 5 77 0 [0, 0, 2, 0]), wrdat 1 5 77 0 [0, 0, 2, 0], wsideH (wrdat 1 5 77 0
    [0, 0, 2, 0]), rfl, ⟨State.takes_cellOf _ _ _ _ (by decide +kernel), by decide +kernel⟩, by decide +kernel⟩,
   ⟨st [(Fld.IZL_LINK_STAT_STATE, 3, 5), (Fld.IZL_LINK_CTL_ENABLE, 3, 1), (Fld.BOOT_STG_STAT_STATE, 0, 5)], 0, 3, .bytes (wrel
    (wrdat 1 5 77 0 [0, 0, 2, 0])), wrel (wrdat 1 5 77 0 [0, 0, 2, 0]), wrdat 1 5 77 0 [0, 0, 2, 0], wsideH (wrdat 1 5 77 0
    [0, 0, 2, 0]), 2, rfl, ⟨State.takes_cellOf _ _ _ _ (by decide +kernel), by decide +kernel⟩, by decide +kernel⟩,
   ⟨{ st [(Fld.IZL_LINK_STAT_STATE, 3, 5), (Fld.IZL_LINK_CTL_ENABLE, 3, 1), (Fld.BOOT_STG_STAT_STATE, 0, 5)] with boot := { staging := { id := 77, len := 502 } }, mem := [⟨stagingAt 501, 9⟩] },
    0, 3, .bytes (wrel (wrdat 2 5 77 500 [])), wrel (wrdat 2 5 77 500 []), wrdat 2 5 77 500 [], wsideH (wrdat 2 5 77 500 []),
    rfl, ⟨State.takes_cellOf _ _ _ _ (by decide +kernel), by decide +kernel⟩, by decide +kernel⟩,
   ⟨{ st [(Fld.IZL_LINK_STAT_STATE, 3, 5), (Fld.BOOT_STG_STAT_STATE, 0, 7)] with boot := { rx := some { link := 3, hops := 2, id := 77, len := 500, stored := 226, at_ := 0 } } },
    0, 3, .bytes (wrel (wrdat 3 2 77 226 [4, 5, 6])), wrel (wrdat 3 2 77 226 [4, 5, 6]), wrdat 3 2 77 226 [4, 5, 6], wsideH
    (wrdat 3 2 77 226 [4, 5, 6]), { link := 3, hops := 2, id := 77, len := 500, stored := 226, at_ := 0 }, [4, 5, 6], rfl,
    ⟨State.takes_cellOf _ _ _ _ (by decide +kernel), by decide +kernel⟩, by decide +kernel⟩,
   ⟨{ st [(Fld.IZL_LINK_STAT_STATE, 3, 5), (Fld.IZL_LINK_CTL_ENABLE, 3, 1), (Fld.BOOT_STG_STAT_STATE, 0, 7)] with boot := { rx := some { link := 3, hops := 2, id := 77, len := 229, stored := 226, at_ := 0 } } },
    0, 3, .bytes (wrel (wrdat 3 2 77 226 [4, 5, 6])), wrel (wrdat 3 2 77 226 [4, 5, 6]), wrdat 3 2 77 226 [4, 5, 6], wsideH
    (wrdat 3 2 77 226 [4, 5, 6]), { link := 3, hops := 2, id := 77, len := 229, stored := 226, at_ := 0 }, [4, 5, 6], rfl,
    ⟨State.takes_cellOf _ _ _ _ (by decide +kernel), by decide +kernel⟩, by decide +kernel⟩,
   ⟨{ st [(Fld.IZL_LINK_STAT_STATE, 3, 5), (Fld.IZL_LINK_CTL_ENABLE, 3, 1), (Fld.BOOT_STG_STAT_STATE, 0, 7)] with boot := { rx := some { link := 3, hops := 2, id := 77, len := 500, stored := 226, at_ := 0 } } },
    0, 3, .bytes (wrel (wrdat 3 2 77 227 [4, 5, 6])), wrel (wrdat 3 2 77 227 [4, 5, 6]), wrdat 3 2 77 227 [4, 5, 6], wsideH
    (wrdat 3 2 77 227 [4, 5, 6]), { link := 3, hops := 2, id := 77, len := 500, stored := 226, at_ := 0 }, rfl,
    ⟨State.takes_cellOf _ _ _ _ (by decide +kernel), by decide +kernel⟩, by decide +kernel⟩,
   ⟨{ st [(Fld.IZL_LINK_STAT_STATE, 3, 5), (Fld.BOOT_STG_STAT_STATE, 0, 5)] with boot := { staging := { id := 77, len := 502 }, tx := [(3, { sent := 502 })] } },
    0, 3, .bytes (wrel (wrdat 4 5 77 502 [])), wrel (wrdat 4 5 77 502 []), wrdat 4 5 77 502 [], wsideH (wrdat 4 5 77 502 []),
    { sent := 502 }, rfl, ⟨State.takes_cellOf _ _ _ _ (by decide +kernel), by decide +kernel⟩, by decide +kernel⟩,
   ⟨{ st [(Fld.IZL_LINK_STAT_STATE, 3, 5), (Fld.BOOT_STG_STAT_STATE, 0, 5)] with boot := { staging := { id := 77, len := 502 }, tx := [(3, { sent := 502 })] } },
    0, 3, .bytes (wrel (wrdat 5 5 77 502 [0])), wrel (wrdat 5 5 77 502 [0]), wrdat 5 5 77 502 [0], wsideH (wrdat 5 5 77 502
    [0]), rfl, ⟨State.takes_cellOf _ _ _ _ (by decide +kernel), by decide +kernel⟩⟩,
   ⟨{ st [(Fld.IZL_LINK_STAT_STATE, 3, 5), (Fld.BOOT_STG_STAT_STATE, 0, 5)] with boot := { staging := { id := 77, len := 502 }, tx := [(3, { sent := 502 })] } },
    0, 3, .bytes (wrel (wrdat 6 5 77 0 [1])), wrel (wrdat 6 5 77 0 [1]), wrdat 6 5 77 0 [1], wsideH (wrdat 6 5 77 0 [1]), rfl,
    ⟨State.takes_cellOf _ _ _ _ (by decide +kernel), by decide +kernel⟩⟩,
   ⟨{ stUp (sec 2) [(Fld.BOOT_STG_STAT_STATE, 0, 7)] with boot := { rx := some { link := 3, hops := 2, id := 77, len := 500, stored := 226, at_ := 0 } } },
    0, 3, { link := 3, hops := 2, id := 77, len := 500, stored := 226, at_ := 0 }, rfl, by decide +kernel⟩,
   ⟨{ stUp (sec 2) [(Fld.BOOT_STG_STAT_STATE, 0, 5)] with boot := { tx := [(3, { sent := 5 })] } }, 0, 3, { sent := 5 }, rfl,
    by decide +kernel⟩⟩

/-! Witnesses of the statements that are not made of clauses. -/

theorem witness_StepKeepsMemoryForm :
    ∃ s t : State, Memory.wf s.mem = true ∧ step s = .next t := ⟨{}, {}, rfl, rfl⟩

theorem witness_RegisterFrames :
    ∃ (c : Instr) (s t : State) (l : List Field) (f : Field), exec c s = .next t ∧ c.fields = some l ∧ f.off (l ++ settleFields) :=
  ⟨.clockLaneQualified 5 1, {}, _, [Fld.IZL_LINK_STAT_STATE], Fld.HCP_CFG_IDLE_S, rfl, rfl, by unfold Field.off; decide⟩

theorem witness_IslandsHeld :
    (∃ (c : Instr) (s : State), s.iso = true ∧ c.inKeep = false) ∧
    (∃ (c : Instr) (s : State), s.por = true ∧ c.inKeep = true ∧ c ≠ .keepAlivePorRelease c.dt ∧ c ≠ .keepRailCollapse c.dt) :=
  ⟨⟨.enterService 3, { iso := true }, rfl, rfl⟩, ⟨.oscGlitch 5, { por := true }, rfl, rfl, by decide, by decide⟩⟩

theorem witness_OwnerFuses :
    (∃ (c : Instr) (s t : State), exec c s = .next t ∧ (∀ dt k d, c ≠ .ownerSlotProgram dt k d) ∧
      (∀ dt k, c ≠ .ownerSlotRevoke dt k)) ∧
    (∃ (c : Instr) (s t : State) (k : Nat), exec c s = .next t ∧ (s.fuse k).2 = true) ∧
    (∃ (s : State) (k : Fin 4), s.runs ∧ (s.fuse k).1 = none) :=
  ⟨⟨.oscGlitch 5, {}, _, rfl, by simp, by simp⟩,
   ⟨.oscGlitch 5, { boot := { fuses := [(1, (none, true))] } }, _, 1, rfl, by decide⟩, ⟨{}, 3, rfl, by decide⟩⟩

end Sys2Proof.Machine
end

section
/-! The register frame of every command (O6): the fields that a command may write are those of its list (Safety.lean,
`Instr.fields`) and the counters of `settleFields`. The laws of Laws/Fields.lean say which fields each operation of the
model may change; here is one lemma for each command with a list, and they are put together at the end. -/

set_option autoImplicit false

namespace Sys2Proof.Machine

@[simp] theorem Field.off_settleFields (f : Field) : f.off settleFields ↔
    Fld.ETH_CNT_TX_DISC_CNT.key % 1024 ≠ f.key % 1024 ∧ Fld.ETH_CNT_TX_FRAMES_CNT.key % 1024 ≠ f.key % 1024 ∧
    Fld.ETH_CNT_TX_OCTETS_CNT.key % 1024 ≠ f.key % 1024 ∧ Fld.ETH_FLOW_CNT_PKT.key % 1024 ≠ f.key % 1024 ∧
    Fld.HCP_CNT_EVT_LOST_CNT.key % 1024 ≠ f.key % 1024 ∧ Fld.IZL_LINK_STAT_TX_IDLE.key % 1024 ≠ f.key % 1024 ∧
    Fld.MASH_CNT_XFADE_SHORT_CNT.key % 1024 ≠ f.key % 1024 := by
  simp only [settleFields, Field.off_cons, Field.off_nil, and_true]

end Sys2Proof.Machine

namespace Sys2Proof

open Sys2Proof.Machine

/-- A command with a list of fields leaves every field off that list, and off `settleFields`, as it was. -/
def Instr.KeepsOff (c : Instr) : Prop :=
  ∀ (s t : State) (l : List Field) (f : Field) (i : Nat),
    exec c s = .next t → c.fields = some l → f.off (l ++ settleFields) → t.rd f i = s.rd f i

/-- A command of the main islands keeps the fields that its own effect keeps and that are off `settleFields`. For most
commands the laws of the operations that the effect is made of give the last hypothesis. -/
theorem Instr.KeepsOff.main {c : Instr} {dt : Nat} {l : List Field} {g : State → State}
    (he : ∀ s, exec c s = onMain dt s g) (hl : c.fields = some l)
    (h : ∀ f i x, f.off (l ++ settleFields) → (g x).rd f i = x.rd f i) :
    c.KeepsOff := by
  intro s t l' f i e hl' hf
  obtain rfl : l = l' := Option.some.inj (hl.symm.trans hl')
  have hs : f.off settleFields := ((Field.off_append f l settleFields).mp hf).2
  exact onMain_rd ((he s).symm.trans e) hs fun x => h f i x hf

/-- A command of the keep-alive island keeps the fields that its own effect keeps. -/
theorem Instr.KeepsOff.keep {c : Instr} {dt : Nat} {l : List Field} {g : State → State}
    (he : ∀ s, exec c s = onKeep dt s g) (hl : c.fields = some l)
    (h : ∀ f i x, f.off (l ++ settleFields) → (g x).rd f i = x.rd f i) :
    c.KeepsOff := by
  intro s t l' f i e hl' hf
  obtain rfl : l = l' := Option.some.inj (hl.symm.trans hl')
  exact onKeep_rd ((he s).symm.trans e) fun x => h f i x hf

end Sys2Proof

namespace Sys2Proof.Machine

/-! Izsar lanes (02_izsar_lanes). -/

theorem clockLaneQualified_keepsOff {dt : Nat} {b : Fin 33} : (Instr.clockLaneQualified dt b).KeepsOff :=
  .main (fun _ => execClockLaneQualified.eq_def ..) rfl (by simp +contextual)

theorem adaptDone_keepsOff {dt : Nat} {b : Fin 33} : (Instr.adaptDone dt b).KeepsOff :=
  .main (fun _ => execAdaptDone.eq_def ..) rfl (by simp +contextual)

theorem bitSlipPosition_keepsOff {dt : Nat} {b : Fin 33} : (Instr.bitSlipPosition dt b).KeepsOff :=
  .main (fun _ => execBitSlipPosition.eq_def ..) rfl (by simp +contextual)

theorem deskewDone_keepsOff {dt : Nat} {b : Fin 33} {arrival : Vector Nat 8} :
    (Instr.deskewDone dt b arrival).KeepsOff :=
  .main (fun _ => execDeskewDone.eq_def ..) rfl (by simp +contextual)

theorem verifyDone_keepsOff {dt : Nat} {b : Fin 33} : (Instr.verifyDone dt b).KeepsOff :=
  .main (fun _ => execVerifyDone.eq_def ..) rfl (by simp +contextual)

theorem autoRetrainRetry_keepsOff {dt : Nat} {b : Fin 33} : (Instr.autoRetrainRetry dt b).KeepsOff :=
  .main (fun _ => execAutoRetrainRetry.eq_def ..) rfl (by simp +contextual)

theorem txAlignmentMarker_keepsOff {dt : Nat} {b : Fin 33} : (Instr.txAlignmentMarker dt b).KeepsOff :=
  .main (fun _ => execTxAlignmentMarker.eq_def ..) rfl (by simp +contextual)

theorem alignmentMarker_keepsOff {dt : Nat} {b : Fin 33} {l : Fin 8} {skipped : Nat} {rx : RxWord} :
    (Instr.alignmentMarker dt b l skipped rx).KeepsOff := by
  refine .main (fun _ => execAlignmentMarker.eq_def ..) rfl fun f i x h => ?_
  simp at h
  dsimp only
  split <;> simp [h]

theorem markerMissing_keepsOff {dt : Nat} {b : Fin 33} {l : Fin 8} : (Instr.markerMissing dt b l).KeepsOff :=
  .main (fun _ => execMarkerMissing.eq_def ..) rfl (by simp +contextual)

theorem interpolatorLimit_keepsOff {dt : Nat} {b : Fin 33} {l : Fin 8} {late : Bool} :
    (Instr.interpolatorLimit dt b l late).KeepsOff :=
  .main (fun _ => execInterpolatorLimit.eq_def ..) rfl (by simp +contextual)

theorem fill_keepsOff {dt : Nat} {b : Fin 33} {l : Fin 8} {rx : RxWord} : (Instr.fill dt b l rx).KeepsOff := by
  refine .main (fun _ => execFill.eq_def ..) rfl fun f i x h => ?_
  simp at h
  dsimp only
  split <;> simp [h]

theorem lightIdleEntry_keepsOff {dt : Nat} {b : Fin 33} {l : Fin 8} {rx : RxWord} :
    (Instr.lightIdleEntry dt b l rx).KeepsOff :=
  .main (fun _ => execLightIdleEntry.eq_def ..) rfl (by simp +contextual)

theorem deepIdleEntry_keepsOff {dt : Nat} {b : Fin 33} {l : Fin 8} {rx : RxWord} :
    (Instr.deepIdleEntry dt b l rx).KeepsOff :=
  .main (fun _ => execDeepIdleEntry.eq_def ..) rfl (by simp +contextual)

theorem idleAutoTimeout_keepsOff {dt : Nat} {b : Fin 33} : (Instr.idleAutoTimeout dt b).KeepsOff :=
  .main (fun _ => execIdleAutoTimeout.eq_def ..) rfl (by simp +contextual)

theorem txIdleExit_keepsOff {dt : Nat} {b : Fin 33} : (Instr.txIdleExit dt b).KeepsOff :=
  .main (fun _ => execTxIdleExit.eq_def ..) rfl (by simp +contextual)

theorem exitBurstDelimiter_keepsOff {dt : Nat} {b : Fin 33} {l : Fin 8} : (Instr.exitBurstDelimiter dt b l).KeepsOff :=
  .main (fun _ => execExitBurstDelimiter.eq_def ..) rfl (by simp +contextual)

theorem wakeFailure_keepsOff {dt : Nat} {b : Fin 33} : (Instr.wakeFailure dt b).KeepsOff :=
  .main (fun _ => execWakeFailure.eq_def ..) rfl (by simp +contextual)

theorem fwdClockStop_keepsOff {dt : Nat} {b : Fin 33} : (Instr.fwdClockStop dt b).KeepsOff :=
  .main (fun _ => execFwdClockStop.eq_def ..) rfl (by simp +contextual)

theorem fwdClockGlitch_keepsOff {dt : Nat} {b : Fin 33} : (Instr.fwdClockGlitch dt b).KeepsOff :=
  .main (fun _ => execFwdClockGlitch.eq_def ..) rfl (by simp +contextual)

theorem fwdClockRateChange_keepsOff {dt : Nat} {b : Fin 33} : (Instr.fwdClockRateChange dt b).KeepsOff :=
  .main (fun _ => execFwdClockRateChange.eq_def ..) rfl (by simp +contextual)

theorem fwdClockRequalified_keepsOff {dt : Nat} {b : Fin 33} : (Instr.fwdClockRequalified dt b).KeepsOff :=
  .main (fun _ => execFwdClockRequalified.eq_def ..) rfl (by simp +contextual)

theorem prbsCheckerLock_keepsOff {dt : Nat} {b : Fin 33} {l : Fin 8} {rx : List Bool} :
    (Instr.prbsCheckerLock dt b l rx).KeepsOff :=
  .main (fun _ => execPrbsCheckerLock.eq_def ..) rfl (by simp +contextual)

theorem prbsCheckerReseed_keepsOff {dt : Nat} {b : Fin 33} {l : Fin 8} {rx : List Bool} :
    (Instr.prbsCheckerReseed dt b l rx).KeepsOff :=
  .main (fun _ => execPrbsCheckerReseed.eq_def ..) rfl (by simp +contextual)

/-! Cells (03_cells_slots). -/

theorem essenceCell_keepsOff {dt : Nat} {b : Fin 33} {rx : RxCell} {overrun : Bool} :
    (Instr.essenceCell dt b rx overrun).KeepsOff := by
  refine .main (fun _ => execEssenceCell.eq_def ..) rfl fun f i x h => ?_
  simp at h
  dsimp only
  split <;> simp [h]

theorem idleCell_keepsOff {dt : Nat} {b : Fin 33} {rx : RxCell} : (Instr.idleCell dt b rx).KeepsOff :=
  .main (fun _ => execIdleCell.eq_def ..) rfl (by simp +contextual)

theorem echoCell_keepsOff {dt : Nat} {b : Fin 33} {rx : RxCell} : (Instr.echoCell dt b rx).KeepsOff :=
  .main (fun _ => execEchoCell.eq_def ..) rfl (by simp +contextual)

theorem stampCell_keepsOff {dt : Nat} {b : Fin 33} {rx : RxCell} : (Instr.stampCell dt b rx).KeepsOff :=
  .main (fun _ => execStampCell.eq_def ..) rfl (by simp +contextual)

theorem managementSideCell_keepsOff {dt : Nat} {b : Fin 33} {rx : RxCell} :
    (Instr.managementSideCell dt b rx).KeepsOff :=
  .main (fun _ => execManagementSideCell.eq_def ..) rfl (by simp +contextual)

theorem sourceLostTimeout_keepsOff {dt : Nat} {k : Fin 1152} : (Instr.sourceLostTimeout dt k).KeepsOff :=
  .main (fun _ => execSourceLostTimeout.eq_def ..) rfl (by simp +contextual)

theorem warpCellCheckFail_keepsOff {dt : Nat} {d : Fin 1152} {field : Bool} {line offset : BitVec 12} :
    (Instr.warpCellCheckFail dt d field line offset).KeepsOff :=
  .main (fun _ => execWarpCellCheckFail.eq_def ..) rfl (by simp +contextual)

theorem vatCorrectedError_keepsOff {dt : Nat} {sparesLow : Bool} : (Instr.vatCorrectedError dt sparesLow).KeepsOff :=
  .main (fun _ => execVatCorrectedError.eq_def ..) rfl (by simp +contextual)

theorem vatUncorrectableError_keepsOff {dt : Nat} : (Instr.vatUncorrectableError dt).KeepsOff :=
  .main (fun _ => execVatUncorrectableError.eq_def ..) rfl (by simp +contextual)

theorem familyCellTx_keepsOff {dt : Nat} {b : Fin 33} {fam : Fin 5} : (Instr.familyCellTx dt b fam).KeepsOff :=
  .main (fun _ => execFamilyCellTx.eq_def ..) rfl (by simp +contextual)

theorem launchCellTx_keepsOff {dt : Nat} {d : Fin 1152} : (Instr.launchCellTx dt d).KeepsOff := by
  refine .main (fun _ => execLaunchCellTx.eq_def ..) rfl fun f i x h => ?_
  simp at h
  split <;> simp [h]

/-! The Seam and the destinations (05_warp_seam). -/

theorem seamGuardOpen_keepsOff {dt : Nat} {d : Fin 1152} : (Instr.seamGuardOpen dt d).KeepsOff := by
  refine .main (fun _ => execSeamGuardOpen.eq_def ..) rfl fun f i x h => ?_
  simp at h
  split <;> simp [h]

theorem seamSnapshotTimeout_keepsOff {dt : Nat} {buf : Fin 4} {d : Fin 1152} :
    (Instr.seamSnapshotTimeout dt buf d).KeepsOff := by
  refine .main (fun _ => execSeamSnapshotTimeout.eq_def ..) rfl fun f i x _ => ?_
  split <;> simp

theorem dstFrameLaunch_keepsOff {dt : Nat} {d : Fin 1152} : (Instr.dstFrameLaunch dt d).KeepsOff := by
  refine .main (fun _ => execDstFrameLaunch.eq_def ..) rfl fun f i x h => ?_
  simp at h
  split
  · simp
  · split <;> simp [h]

theorem freezeExpire_keepsOff {dt : Nat} {d : Fin 1152} : (Instr.freezeExpire dt d).KeepsOff := by
  refine .main (fun _ => execFreezeExpire.eq_def ..) rfl fun f i x h => ?_
  simp at h
  dsimp only
  split
  · split <;> simp [h]
  · simp

theorem dstLineBoundary_keepsOff {dt : Nat} {d : Fin 1152} {field : Bool} {line : Nat} :
    (Instr.dstLineBoundary dt d field line).KeepsOff := by
  refine .main (fun _ => execDstLineBoundary.eq_def ..) rfl fun f i x h => ?_
  simp at h
  split
  · split
    · rfl
    · dsimp only
      split
      · split <;> simp [h]
      · split <;> simp [h]
      · rfl
  · rfl

/-! Stitch heads (07_stitch_heads). -/

theorem headGuardOpen_keepsOff {dt : Nat} {h : Fin 16} : (Instr.headGuardOpen dt h).KeepsOff := by
  refine .main (fun _ => execHeadGuardOpen.eq_def ..) rfl fun f i x h => ?_
  simp at h
  split <;> simp [h]

theorem headUnderrun_keepsOff {dt : Nat} {h : Fin 16} {e x : Nat} : (Instr.headUnderrun dt h e x).KeepsOff := by
  refine .main (fun _ => execHeadUnderrun.eq_def ..) rfl fun f i x h => ?_
  simp at h
  split <;> simp [h]

theorem apronUnderrun_keepsOff {dt : Nat} {h : Fin 16} {e x : Nat} : (Instr.apronUnderrun dt h e x).KeepsOff := by
  refine .main (fun _ => execApronUnderrun.eq_def ..) rfl fun f i x h => ?_
  simp at h
  split <;> simp [h]

theorem headFrameEnd_keepsOff {dt : Nat} {h : Fin 16} : (Instr.headFrameEnd dt h).KeepsOff := by
  refine .main (fun _ => execHeadFrameEnd.eq_def ..) rfl fun f i x h => ?_
  simp at h
  split <;> simp [h]

theorem apronFieldApply_keepsOff {dt : Nat} {h : Fin 16} : (Instr.apronFieldApply dt h).KeepsOff := by
  refine .main (fun _ => execApronFieldApply.eq_def ..) rfl fun f i x h => ?_
  simp at h
  dsimp only
  split <;> simp [h]

theorem apronNAsserted_keepsOff {dt : Nat} {g : Fin 4} : (Instr.apronNAsserted dt g).KeepsOff := by
  refine .main (fun _ => execApronNAsserted.eq_def ..) rfl fun f i x h => ?_
  simp at h
  refine (each_rd _ _ _ f i fun s n => ?_).trans (by simp [h])
  split <;> simp

theorem apronForceBegin_keepsOff {dt : Nat} {g : Fin 4} : (Instr.apronForceBegin dt g).KeepsOff := by
  refine .main (fun _ => execApronForceBegin.eq_def ..) rfl fun f i x h => ?_
  simp at h
  split
  · refine each_rd _ _ _ f i fun s n => ?_
    dsimp only
    split
    · split <;> simp [h]
    · rfl
  · rfl

theorem apronNDeasserted_keepsOff {dt : Nat} {g : Fin 4} : (Instr.apronNDeasserted dt g).KeepsOff :=
  .main (fun _ => execApronNDeasserted.eq_def ..) rfl (by simp +contextual)

theorem hemLayerDrop_keepsOff {dt : Nat} : (Instr.hemLayerDrop dt).KeepsOff := by
  refine .main (fun _ => execHemLayerDrop.eq_def ..) rfl fun f i x _ => ?_
  split
  · refine each_rd _ _ _ f i fun s n => ?_
    split
    · dsimp only
      split <;> simp
    · rfl
  · rfl

theorem plyProxyComplete_keepsOff {dt : Nat} {k : Fin 1168} : (Instr.plyProxyComplete dt k).KeepsOff := by
  refine .main (fun _ => execPlyProxyComplete.eq_def ..) rfl fun f i x h => ?_
  simp at h
  dsimp only
  split
  · simp
  · split
    · simp
    · split <;> simp [h]

/-! Kiln (10_kiln_timebase). -/

theorem refQualified_keepsOff {dt : Nat} {k : Fin 44} : (Instr.refQualified dt k).KeepsOff := by
  refine .keep (fun _ => execRefQualified.eq_def ..) rfl fun f i x h => ?_
  simp at h
  dsimp only
  split <;> simp [h]

theorem kilnTimeSet_keepsOff {dt : Nat} : (Instr.kilnTimeSet dt).KeepsOff := by
  refine .keep (fun _ => execKilnTimeSet.eq_def ..) rfl fun f i x h => ?_
  simp at h
  split <;> simp [h]

theorem slewDone_keepsOff {dt : Nat} : (Instr.slewDone dt).KeepsOff :=
  .keep (fun _ => execSlewDone.eq_def ..) rfl (by simp +contextual)

theorem startWaitExpire_keepsOff {dt : Nat} : (Instr.startWaitExpire dt).KeepsOff := by
  refine .keep (fun _ => execStartWaitExpire.eq_def ..) rfl fun f i x h => ?_
  simp at h
  split <;> simp [h]

theorem ppsInPulse_keepsOff {dt : Nat} {n : Fin 4} {falling short : Bool} :
    (Instr.ppsInPulse dt n falling short).KeepsOff :=
  .keep (fun _ => execPpsInPulse.eq_def ..) rfl (by simp +contextual)

theorem vrefInPulse_keepsOff {dt : Nat} {n : Fin 2} {falling short : Bool} :
    (Instr.vrefInPulse dt n falling short).KeepsOff :=
  .keep (fun _ => execVrefInPulse.eq_def ..) rfl (by simp +contextual)

theorem pulseTimeout_keepsOff {dt : Nat} {k : Fin 44} : (Instr.pulseTimeout dt k).KeepsOff := by
  refine .keep (fun _ => execPulseTimeout.eq_def ..) rfl fun f i x h => ?_
  simp at h
  dsimp only
  split <;> simp [h]

theorem freqInGlitch_keepsOff {dt : Nat} {n : Fin 4} : (Instr.freqInGlitch dt n).KeepsOff :=
  .keep (fun _ => execFreqInGlitch.eq_def ..) rfl (by simp +contextual)

theorem freqInStop_keepsOff {dt : Nat} {n : Fin 4} : (Instr.freqInStop dt n).KeepsOff :=
  .keep (fun _ => execFreqInStop.eq_def ..) rfl (by simp +contextual)

theorem freqInRateChange_keepsOff {dt : Nat} {n : Fin 4} : (Instr.freqInRateChange dt n).KeepsOff :=
  .keep (fun _ => execFreqInRateChange.eq_def ..) rfl (by simp +contextual)

theorem freqInReturn_keepsOff {dt : Nat} {n : Fin 4} : (Instr.freqInReturn dt n).KeepsOff :=
  .keep (fun _ => execFreqInReturn.eq_def ..) rfl (by simp +contextual)

theorem dacUpdate_keepsOff {dt : Nat} : (Instr.dacUpdate dt).KeepsOff :=
  .keep (fun _ => execDacUpdate.eq_def ..) rfl (by simp +contextual)

theorem tempRead_keepsOff {dt : Nat} {temp : BitVec 16} : (Instr.tempRead dt temp).KeepsOff :=
  .keep (fun _ => execTempRead.eq_def ..) rfl (by simp +contextual)

theorem tempSensorTimeout_keepsOff {dt : Nat} : (Instr.tempSensorTimeout dt).KeepsOff :=
  .keep (fun _ => execTempSensorTimeout.eq_def ..) rfl (by simp +contextual)

theorem modelSave_keepsOff {dt : Nat} : (Instr.modelSave dt).KeepsOff :=
  .keep (fun _ => execModelSave.eq_def ..) rfl (by simp +contextual)

theorem modelValid_keepsOff {dt : Nat} : (Instr.modelValid dt).KeepsOff :=
  .keep (fun _ => execModelValid.eq_def ..) rfl (by simp +contextual)

theorem oscGlitch_keepsOff {dt : Nat} : (Instr.oscGlitch dt).KeepsOff :=
  .keep (fun _ => execOscGlitch.eq_def ..) rfl (by simp +contextual)

theorem oscStop_keepsOff {dt : Nat} : (Instr.oscStop dt).KeepsOff :=
  .keep (fun _ => execOscStop.eq_def ..) rfl (by simp +contextual)

theorem oscRateChange_keepsOff {dt : Nat} : (Instr.oscRateChange dt).KeepsOff :=
  .keep (fun _ => execOscRateChange.eq_def ..) rfl (by simp +contextual)

theorem oscDrift_keepsOff {dt : Nat} : (Instr.oscDrift dt).KeepsOff :=
  .keep (fun _ => execOscDrift.eq_def ..) rfl (by simp +contextual)

theorem oscRestore_keepsOff {dt : Nat} : (Instr.oscRestore dt).KeepsOff :=
  .keep (fun _ => execOscRestore.eq_def ..) rfl (by simp +contextual)

theorem xoInStop_keepsOff {dt : Nat} : (Instr.xoInStop dt).KeepsOff :=
  .keep (fun _ => execXoInStop.eq_def ..) rfl (by simp +contextual)

theorem xoInReturn_keepsOff {dt : Nat} : (Instr.xoInReturn dt).KeepsOff :=
  .keep (fun _ => execXoInReturn.eq_def ..) rfl (by simp +contextual)

theorem frameEpoch_keepsOff {dt : Nat} {fam : Fin 5} : (Instr.frameEpoch dt fam).KeepsOff :=
  .keep (fun _ => execFrameEpoch.eq_def dt fam _) rfl (by simp +contextual)

theorem evtInEdge_keepsOff {dt : Nat} {n : Fin 8} {falling short : Bool} :
    (Instr.evtInEdge dt n falling short).KeepsOff :=
  .keep (fun _ => execEvtInEdge.eq_def ..) rfl (by simp +contextual)

theorem timeOutPulseEnd_keepsOff {dt : Nat} {n : Fin 16} : (Instr.timeOutPulseEnd dt n).KeepsOff := by
  refine .keep (fun _ => execTimeOutPulseEnd.eq_def ..) rfl fun f i x _ => ?_
  dsimp only
  split <;> simp

theorem kilnStep_keepsOff {dt : Nat} : (Instr.kilnStep dt).KeepsOff := by
  refine .keep (fun _ => execKilnStep.eq_def ..) rfl fun f i x h => ?_
  simp at h
  split
  · dsimp only
    split
    · rfl
    · split <;> simp [h]
  · rfl

/-! The GNSS baseband (11_gnss_baseband). -/

theorem gnssClockStop_keepsOff {dt : Nat} {i : Fin 2} : (Instr.gnssClockStop dt i).KeepsOff :=
  .keep (fun _ => execGnssClockStop.eq_def ..) rfl (by simp +contextual)

theorem gnssClockRateChange_keepsOff {dt : Nat} {i : Fin 2} : (Instr.gnssClockRateChange dt i).KeepsOff :=
  .keep (fun _ => execGnssClockRateChange.eq_def ..) rfl (by simp +contextual)

theorem gnssClockGlitch_keepsOff {dt : Nat} {i : Fin 2} : (Instr.gnssClockGlitch dt i).KeepsOff :=
  .keep (fun _ => execGnssClockGlitch.eq_def ..) rfl (by simp +contextual)

theorem gnssClockRequalified_keepsOff {dt : Nat} {i : Fin 2} : (Instr.gnssClockRequalified dt i).KeepsOff :=
  .keep (fun _ => execGnssClockRequalified.eq_def ..) rfl (by simp +contextual)

theorem gnssSearchPass_keepsOff {dt : Nat} {sig : Fin 3} {sweep : Bool} {found : List (Fin 96 × Fin 64)} :
    (Instr.gnssSearchPass dt sig sweep found).KeepsOff :=
  .keep (fun _ => execGnssSearchPass.eq_def ..) rfl (by simp +contextual)

theorem hotSearchTimeout_keepsOff {dt : Nat} {c : Fin 96} : (Instr.hotSearchTimeout dt c).KeepsOff :=
  .keep (fun _ => execHotSearchTimeout.eq_def ..) rfl (by simp +contextual)

theorem channelLockLoss_keepsOff {dt : Nat} {c : Fin 96} {code : Bool} : (Instr.channelLockLoss dt c code).KeepsOff :=
  .keep (fun _ => execChannelLockLoss.eq_def ..) rfl (by simp +contextual)

theorem channelLockAcquired_keepsOff {dt : Nat} {c : Fin 96} {sig : Fin 6} {prn : Fin 64} {cn0 : BitVec 16} {sync :
    Bool} :
    (Instr.channelLockAcquired dt c sig prn cn0 sync).KeepsOff :=
  .keep (fun _ => execChannelLockAcquired.eq_def ..) rfl (by simp +contextual)

theorem navDataDecoded_keepsOff {dt : Nat} {c : Fin 96} {almanac : Bool} {utc week : Option (BitVec 10)} :
    (Instr.navDataDecoded dt c almanac utc week).KeepsOff := by
  refine .keep (fun _ => execNavDataDecoded.eq_def ..) rfl fun f i x h => ?_
  simp at h
  dsimp only
  split
  · split <;> simp [h]
  · simp

theorem measurementEpoch_keepsOff {dt : Nat} {channels : List GMeas} : (Instr.measurementEpoch dt channels).KeepsOff :=
  .keep (fun _ => execMeasurementEpoch.eq_def ..) rfl (by simp +contextual)

theorem gnssSolution_keepsOff {dt : Nat} {m : GSol} : (Instr.gnssSolution dt m).KeepsOff :=
  .keep (fun _ => execGnssSolution.eq_def ..) rfl (by simp +contextual)

theorem baselineLearnt_keepsOff {dt : Nat} {b : Baseline} : (Instr.baselineLearnt dt b).KeepsOff := by
  refine .keep (fun _ => execBaselineLearnt.eq_def ..) rfl fun f i x _ => ?_
  split
  · simp
  · split <;> simp

theorem gnssBurst_keepsOff {dt : Nat} {channels : List GMeas} {m : GSol} : (Instr.gnssBurst dt channels m).KeepsOff :=
  .keep (fun _ => execGnssBurst.eq_def ..) rfl (by simp +contextual)

theorem gnssNavRefresh_keepsOff {dt : Nat} : (Instr.gnssNavRefresh dt).KeepsOff :=
  .keep (fun _ => execGnssNavRefresh.eq_def ..) rfl (by simp +contextual)

theorem selftestDone_keepsOff {dt : Nat} {u : Fin 112} {ok last : Bool} :
    (Instr.selftestDone dt u ok last).KeepsOff := by
  refine .keep (fun _ => execSelftestDone.eq_def ..) rfl fun f i x h => ?_
  simp at h
  dsimp only
  split
  · rfl
  · refine (State.gnssSettle_rd _ f i (by simp [h])).trans ?_
    repeat' split
    all_goals simp [h]

/-! Mash inputs (08_mash_audio). -/

theorem unlockHoldExpire_keepsOff {dt : Nat} {k : Fin 1152} : (Instr.unlockHoldExpire dt k).KeepsOff :=
  .main (fun _ => execUnlockHoldExpire.eq_def ..) rfl (by simp +contextual)

theorem ancillaryCell_keepsOff {dt : Nat} {b : Fin 33} {rx : RxCell} {overrun : Bool} :
    (Instr.ancillaryCell dt b rx overrun).KeepsOff := by
  refine .main (fun _ => execAncillaryCell.eq_def ..) rfl fun f i x h => ?_
  simp at h
  dsimp only
  split <;> simp [h]

/-! Mash (08_mash_audio). -/

theorem zcTimeout_keepsOff {dt : Nat} {bus : Bool} {i : Fin 32768} : (Instr.zcTimeout dt bus i).KeepsOff := by
  refine .main (fun _ => execZcTimeout.eq_def ..) rfl fun f i x h => ?_
  simp at h
  dsimp only
  split <;> simp [h]

theorem faderRampEnd_keepsOff {dt : Nat} {b : Fin 256} : (Instr.faderRampEnd dt b).KeepsOff :=
  .main (fun _ => execFaderRampEnd.eq_def ..) rfl (by simp +contextual)

theorem mashParityFault_keepsOff {dt : Nat} {b : Fin 256} : (Instr.mashParityFault dt b).KeepsOff :=
  .main (fun _ => execMashParityFault.eq_def ..) rfl (by simp +contextual)

theorem hemMashSilent_keepsOff {dt : Nat} : (Instr.hemMashSilent dt).KeepsOff :=
  .main (fun _ => execHemMashSilent.eq_def ..) rfl (by simp +contextual)

/-! Ethernet ports (04_ethernet_ports). -/

theorem ethFrameBad_keepsOff {dt : Nat} {p : Fin 18} {cause : DropCause} : (Instr.ethFrameBad dt p cause).KeepsOff := by
  refine .main (fun _ => execEthFrameBad.eq_def ..) rfl fun f i x h => ?_
  simp at h
  split
  · simp
  · split <;> simp [h]

theorem unmatchedFrame_keepsOff {dt : Nat} {p : Fin 18} {len : Nat} {query : Option (BitVec 32)} :
    (Instr.unmatchedFrame dt p len query).KeepsOff := by
  refine .main (fun _ => execUnmatchedFrame.eq_def ..) rfl fun f i x h => ?_
  simp at h
  split <;> simp [h]

theorem pauseFrame_keepsOff {dt : Nat} {p : Fin 18} {pfc : Bool} {classes : BitVec 8} {quanta : Vector (BitVec 16) 8}
    :
    (Instr.pauseFrame dt p pfc classes quanta).KeepsOff :=
  .main (fun _ => execPauseFrame.eq_def ..) rfl (by simp +contextual)

theorem pauseExpire_keepsOff {dt : Nat} {p : Fin 18} {q : Fin 4} : (Instr.pauseExpire dt p q).KeepsOff :=
  .main (fun _ => execPauseExpire.eq_def ..) rfl (by simp +contextual)

theorem pauseWatchdog_keepsOff {dt : Nat} {p : Fin 18} {q : Fin 4} : (Instr.pauseWatchdog dt p q).KeepsOff :=
  .main (fun _ => execPauseWatchdog.eq_def ..) rfl (by simp +contextual)

theorem pauseIgnoreEnd_keepsOff {dt : Nat} {p : Fin 18} {q : Fin 4} : (Instr.pauseIgnoreEnd dt p q).KeepsOff :=
  .main (fun _ => execPauseIgnoreEnd.eq_def ..) rfl (by simp +contextual)

theorem arpRequest_keepsOff {dt : Nat} {p : Fin 18} {target : BitVec 32} {len : Nat} :
    (Instr.arpRequest dt p target len).KeepsOff :=
  .main (fun _ => execArpRequest.eq_def ..) rfl (by simp +contextual)

theorem icmpEchoRequest_keepsOff {dt : Nat} {p : Fin 18} {data : List Byte} {len : Nat} :
    (Instr.icmpEchoRequest dt p data len).KeepsOff :=
  .main (fun _ => execIcmpEchoRequest.eq_def ..) rfl (by simp +contextual)

theorem st211020Packet_keepsOff {dt : Nat} {p : Fin 18} {h : FrameHdr} {seq ts : BitVec 32} {marker field narrow ok
    room : Bool} {rows : List RtpRow} :
    (Instr.st211020Packet dt p h seq ts marker field narrow ok room rows).KeepsOff := by
  refine .main (fun _ => execSt211020Packet.eq_def ..) rfl fun f i x h => ?_
  simp at h
  refine State.media_rd _ _ _ _ _ _ _ f i (by simp [h]) fun s n => ?_
  split
  · simp [h]
  · dsimp only
    split
    · simp [h]
    · split
      · split <;> (split <;> simp [h])
      · split <;> simp [h]

theorem st211030Packet_keepsOff {dt : Nat} {p : Fin 18} {h : FrameHdr} {seq : BitVec 16} {ts : BitVec 32} {ok l16 :
    Bool} {samples : List (List (BitVec 24))} :
    (Instr.st211030Packet dt p h seq ts ok l16 samples).KeepsOff := by
  refine .main (fun _ => execSt211030Packet.eq_def ..) rfl fun f i x h => ?_
  simp at h
  split <;> simp [h]

theorem st211031Packet_keepsOff {dt : Nat} {p : Fin 18} {h : FrameHdr} {seq : BitVec 16} {ts : BitVec 32} {ok : Bool}
    {subframes : List (List Aes3)} :
    (Instr.st211031Packet dt p h seq ts ok subframes).KeepsOff :=
  .main (fun _ => execSt211031Packet.eq_def ..) rfl (by simp +contextual)

theorem st211040Packet_keepsOff {dt : Nat} {p : Fin 18} {h : FrameHdr} {seq : BitVec 16} {newFrame ok : Bool} {payload
    : List Byte} :
    (Instr.st211040Packet dt p h seq newFrame ok payload).KeepsOff := by
  refine .main (fun _ => execSt211040Packet.eq_def ..) rfl fun f i x h => ?_
  simp at h
  refine State.media_rd _ _ _ _ _ _ _ f i (by simp [h]) fun s n => ?_
  dsimp only
  split
  · simp [h]
  · split
    · simp [h]
    · split
      · refine (each_rd _ _ _ f i fun s k => ?_).trans (by simp [h])
        exact foldl_rd _ f i (fun s x => by simp [h]) _ _
      · simp [h]

theorem flowLostTimeout_keepsOff {dt : Nat} {f : Fin 4096} : (Instr.flowLostTimeout dt f).KeepsOff := by
  refine .main (fun _ => execFlowLostTimeout.eq_def ..) rfl fun f i x h => ?_
  simp at h
  split <;> simp [h]

theorem audioFlowLostTimeout_keepsOff {dt : Nat} {f : Fin 4096} : (Instr.audioFlowLostTimeout dt f).KeepsOff :=
  .main (fun _ => execAudioFlowLostTimeout.eq_def ..) rfl (by simp +contextual)

theorem ethLossOfSignal_keepsOff {dt : Nat} {p : Fin 18} : (Instr.ethLossOfSignal dt p).KeepsOff :=
  .main (fun _ => execEthLossOfSignal.eq_def ..) rfl (by simp +contextual)

theorem ethLinkGlitch_keepsOff {dt : Nat} {p : Fin 18} {frames : Nat} : (Instr.ethLinkGlitch dt p frames).KeepsOff :=
  .main (fun _ => execEthLinkGlitch.eq_def ..) rfl (by simp +contextual)

theorem ethRateChange_keepsOff {dt : Nat} {p : Fin 18} : (Instr.ethRateChange dt p).KeepsOff :=
  .main (fun _ => execEthRateChange.eq_def ..) rfl (by simp +contextual)

theorem ethLinkUp_keepsOff {dt : Nat} {p : Fin 18} : (Instr.ethLinkUp dt p).KeepsOff :=
  .main (fun _ => execEthLinkUp.eq_def ..) rfl (by simp +contextual)

theorem remoteFaultReceived_keepsOff {dt : Nat} {p : Fin 18} : (Instr.remoteFaultReceived dt p).KeepsOff :=
  .main (fun _ => execRemoteFaultReceived.eq_def ..) rfl (by simp +contextual)

theorem remoteFaultEnded_keepsOff {dt : Nat} {p : Fin 18} : (Instr.remoteFaultEnded dt p).KeepsOff :=
  .main (fun _ => execRemoteFaultEnded.eq_def ..) rfl (by simp +contextual)

/-! The time service (12_time_service). -/

theorem syncTx_keepsOff {dt : Nat} {p : Fin 18} : (Instr.syncTx dt p).KeepsOff :=
  .main (fun _ => execSyncTx.eq_def ..) rfl (by simp +contextual)

theorem followUpTx_keepsOff {dt : Nat} {p : Fin 18} {sess : Option (Fin 1048576)} :
    (Instr.followUpTx dt p sess).KeepsOff := by
  refine .main (fun _ => execFollowUpTx.eq_def ..) rfl fun f i x h => ?_
  simp at h
  dsimp only
  split
  · split <;> simp [h]
  · simp

theorem announceTx_keepsOff {dt : Nat} {p : Fin 18} : (Instr.announceTx dt p).KeepsOff :=
  .main (fun _ => execAnnounceTx.eq_def ..) rfl (by simp +contextual)

theorem syncMetadataTx_keepsOff {dt : Nat} {p : Fin 18} : (Instr.syncMetadataTx dt p).KeepsOff :=
  .main (fun _ => execSyncMetadataTx.eq_def ..) rfl (by simp +contextual)

theorem managementMessage_keepsOff {dt : Nat} {p : Fin 18} {len : Nat} : (Instr.managementMessage dt p len).KeepsOff :=
  .main (fun _ => execManagementMessage.eq_def ..) rfl (by simp +contextual)

theorem pdelayMessage_keepsOff {dt : Nat} {p : Fin 18} {len : Nat} : (Instr.pdelayMessage dt p len).KeepsOff :=
  .main (fun _ => execPdelayMessage.eq_def ..) rfl (by simp +contextual)

theorem delayReq_keepsOff {dt : Nat} {p : Fin 18} {h : PtpHdr} : (Instr.delayReq dt p h).KeepsOff := by
  refine .main (fun _ => execDelayReq.eq_def ..) rfl fun f i x h => ?_
  simp at h
  refine State.ptpRequest_rd _ _ _ _ f i (by simp [h]) fun s => ?_
  split
  · refine State.groupMsg_rd _ _ _ _ _ f i (by simp [h]) fun s => ?_
    exact State.withinRate_rd _ _ _ f i (by simp [h]) fun s => by simp [h]
  · refine State.sessionMsg_rd _ _ _ _ f i (by simp [h]) fun s n => ?_
    dsimp only
    split <;> simp [h]

theorem requestUnicastTransmission_keepsOff {dt : Nat} {p : Fin 18} {h : PtpHdr} {reqs : List UniReq} :
    (Instr.requestUnicastTransmission dt p h reqs).KeepsOff := by
  refine .main (fun _ => execRequestUnicastTransmission.eq_def ..) rfl fun f i x h => ?_
  simp at h
  refine State.ptpRequest_rd _ _ _ _ f i (by simp [h]) fun s => ?_
  split
  · rfl
  · refine (State.sessionMsg_rd _ _ _ _ f i (by simp [h]) fun s n => ?_).trans (by simp)
    simp [h]

theorem cancelUnicastTransmission_keepsOff {dt : Nat} {p : Fin 18} {h : PtpHdr} {kinds : List (BitVec 4)} :
    (Instr.cancelUnicastTransmission dt p h kinds).KeepsOff := by
  refine .main (fun _ => execCancelUnicastTransmission.eq_def ..) rfl fun f i x h => ?_
  simp at h
  refine State.ptpRequest_rd _ _ _ _ f i (by simp [h]) fun s => ?_
  split
  · rfl
  · refine (State.sessionMsg_rd _ _ _ _ f i (by simp [h]) fun s n => ?_).trans (by simp)
    simp [h]

theorem grantExpire_keepsOff {dt : Nat} {i : Fin 1048576} {kind : BitVec 4} : (Instr.grantExpire dt i kind).KeepsOff :=
  .main (fun _ => execGrantExpire.eq_def ..) rfl (by simp +contextual)

theorem grantDue_keepsOff {dt : Nat} {i : Fin 1048576} {sync : Bool} : (Instr.grantDue dt i sync).KeepsOff :=
  .main (fun _ => execGrantDue.eq_def ..) rfl (by simp +contextual)

theorem announce_keepsOff {dt : Nat} {p : Fin 18} {h : PtpHdr} {log : BitVec 8} {data : AnnData} :
    (Instr.announce dt p h log data).KeepsOff :=
  .main (fun _ => execAnnounce.eq_def ..) rfl (by simp +contextual)

theorem sync_keepsOff {dt : Nat} {p : Fin 18} {h : PtpHdr} {two : Bool} {seconds : BitVec 48} {nanos : BitVec 32} :
    (Instr.sync dt p h two seconds nanos).KeepsOff :=
  .main (fun _ => execSync.eq_def ..) rfl (by simp +contextual)

theorem followUp_keepsOff {dt : Nat} {p : Fin 18} {h : PtpHdr} {seconds : BitVec 48} {nanos : BitVec 32} {tebs : List
    TebTlv} :
    (Instr.followUp dt p h seconds nanos tebs).KeepsOff := by
  refine .main (fun _ => execFollowUp.eq_def ..) rfl fun f i x h => ?_
  simp at h
  split
  · exact State.ptpClient_rd _ _ _ _ f i (by simp [h]) fun s => by simp [h]
  · refine State.clientMsg_rd _ _ _ _ f i (by simp [h]) fun s => ?_
    dsimp only
    split
    · split <;> simp
    · rfl

theorem clientDelayReqTx_keepsOff {dt : Nat} {p : Fin 18} : (Instr.clientDelayReqTx dt p).KeepsOff :=
  .main (fun _ => execClientDelayReqTx.eq_def ..) rfl (by simp +contextual)

theorem delayResp_keepsOff {dt : Nat} {p : Fin 18} {h : PtpHdr} {log : BitVec 8} {requester : BitVec 80} {seconds :
    BitVec 48} {nanos : BitVec 32} :
    (Instr.delayResp dt p h log requester seconds nanos).KeepsOff := by
  refine .main (fun _ => execDelayResp.eq_def ..) rfl fun f i x h => ?_
  simp at h
  refine State.clientMsg_rd _ _ _ _ f i (by simp [h]) fun s => ?_
  dsimp only
  split
  · split
    · split <;> split <;> simp [h]
    · simp
  · simp

theorem announceReceiptTimeout_keepsOff {dt : Nat} {p : Fin 18} : (Instr.announceReceiptTimeout dt p).KeepsOff := by
  refine .main (fun _ => execAnnounceReceiptTimeout.eq_def ..) rfl fun f i x h => ?_
  simp at h
  dsimp only
  split <;> simp [h]

theorem exchangeTimeout_keepsOff {dt : Nat} {p : Fin 18} : (Instr.exchangeTimeout dt p).KeepsOff :=
  .main (fun _ => execExchangeTimeout.eq_def ..) rfl (by simp +contextual)

theorem ntpRequest_keepsOff {dt : Nat} {p : Fin 18} {r : NtpReq} {turn : Nat} :
    (Instr.ntpRequest dt p r turn).KeepsOff :=
  .main (fun _ => execNtpRequest.eq_def ..) rfl (by simp +contextual)

theorem ntsRequest_keepsOff {dt : Nat} {p : Fin 18} {r : NtpReq} {x : NtsFields} {turn : Nat} :
    (Instr.ntsRequest dt p r x turn).KeepsOff := by
  refine .main (fun _ => execNtsRequest.eq_def ..) rfl fun f i x h => ?_
  simp at h
  split <;> simp [h]

theorem leapSecond_keepsOff {dt : Nat} : (Instr.leapSecond dt).KeepsOff :=
  .keep (fun _ => execLeapSecond.eq_def ..) rfl (by simp +contextual)

theorem injectedFrameSent_keepsOff {dt : Nat} : (Instr.injectedFrameSent dt).KeepsOff := by
  refine .main (fun _ => execInjectedFrameSent.eq_def ..) rfl fun f i x h => ?_
  simp at h
  split <;> simp [h]

/-! The frame store (06_cask_frame_store). -/

theorem caskCorrectedError_keepsOff {dt : Nat} {page : Fin 1572864} : (Instr.caskCorrectedError dt page).KeepsOff := by
  refine .main (fun _ => execCaskCorrectedError.eq_def ..) rfl fun f i x h => ?_
  simp at h
  dsimp only
  split <;> simp [h]

theorem caskUncorrectableError_keepsOff {dt : Nat} {page : Fin 1572864} {at_ : UeAt} :
    (Instr.caskUncorrectableError dt page at_).KeepsOff :=
  .main (fun _ => execCaskUncorrectableError.eq_def ..) rfl (by simp +contextual)

theorem pageRetireDone_keepsOff {dt : Nat} {page : Fin 1572864} : (Instr.pageRetireDone dt page).KeepsOff := by
  refine .main (fun _ => execPageRetireDone.eq_def ..) rfl fun f i x h => ?_
  simp at h
  split <;> simp [h]

/-! Audio ports (09_audio_ports). -/

theorem prerollDone_keepsOff {dt : Nat} {p : Fin 24} : (Instr.prerollDone dt p).KeepsOff :=
  .main (fun _ => execPrerollDone.eq_def ..) rfl (by simp +contextual)

theorem portClockGlitch_keepsOff {dt : Nat} {p : Fin 24} : (Instr.portClockGlitch dt p).KeepsOff :=
  .main (fun _ => execPortClockGlitch.eq_def ..) rfl (by simp +contextual)

theorem portRateChange_keepsOff {dt : Nat} {p : Fin 24} : (Instr.portRateChange dt p).KeepsOff :=
  .main (fun _ => execPortRateChange.eq_def ..) rfl (by simp +contextual)

theorem portClockQualified_keepsOff {dt : Nat} {p : Fin 24} : (Instr.portClockQualified dt p).KeepsOff :=
  .main (fun _ => execPortClockQualified.eq_def ..) rfl (by simp +contextual)

/-! The mantle (13_mantle_twin). -/

theorem renewTx_keepsOff {dt : Nat} : (Instr.renewTx dt).KeepsOff :=
  .main (fun _ => execRenewTx.eq_def ..) rfl (by simp +contextual)

theorem renew_keepsOff {dt : Nat} {rx : RxCell} : (Instr.renew dt rx).KeepsOff :=
  .main (fun _ => execRenew.eq_def ..) rfl (by simp +contextual)

theorem ack_keepsOff {dt : Nat} {rx : RxCell} : (Instr.ack dt rx).KeepsOff := by
  refine .main (fun _ => execAck.eq_def ..) rfl fun f i x h => ?_
  simp at h
  refine State.mantleIn_rd _ _ _ _ f i (by simp [h]) fun s q => ?_
  dsimp only
  split <;> simp

theorem leaseInEdge_keepsOff {dt : Nat} : (Instr.leaseInEdge dt).KeepsOff := by
  refine .main (fun _ => execLeaseInEdge.eq_def ..) rfl fun f i x h => ?_
  simp at h
  split <;> simp [h]

theorem leaseConfirmTimeout_keepsOff {dt : Nat} : (Instr.leaseConfirmTimeout dt).KeepsOff :=
  .main (fun _ => execLeaseConfirmTimeout.eq_def ..) rfl (by simp +contextual)

theorem claimTimeout_keepsOff {dt : Nat} : (Instr.claimTimeout dt).KeepsOff :=
  .main (fun _ => execClaimTimeout.eq_def ..) rfl (by simp +contextual)

theorem noneWaitTimeout_keepsOff {dt : Nat} {pref : Bool} : (Instr.noneWaitTimeout dt pref).KeepsOff :=
  .main (fun _ => execNoneWaitTimeout.eq_def ..) rfl (by simp +contextual)

theorem release_keepsOff {dt : Nat} {rx : RxCell} : (Instr.release dt rx).KeepsOff :=
  .main (fun _ => execRelease.eq_def ..) rfl (by simp +contextual)

theorem familyCellRx_keepsOff {dt : Nat} {rx : RxCell} : (Instr.familyCellRx dt rx).KeepsOff :=
  .main (fun _ => execFamilyCellRx.eq_def ..) rfl (by simp +contextual)

theorem echoCellTx_keepsOff {dt : Nat} : (Instr.echoCellTx dt).KeepsOff := by
  refine .main (fun _ => execEchoCellTx.eq_def ..) rfl fun f i x h => ?_
  simp at h
  split <;> simp [h]

theorem healthTx_keepsOff {dt : Nat} {pref : Bool} : (Instr.healthTx dt pref).KeepsOff :=
  .main (fun _ => execHealthTx.eq_def ..) rfl (by simp +contextual)

theorem health_keepsOff {dt : Nat} {rx : RxCell} : (Instr.health dt rx).KeepsOff := by
  refine .main (fun _ => execHealth.eq_def ..) rfl fun f i x h => ?_
  simp at h
  refine State.mantleIn_rd _ _ _ _ f i (by simp [h]) fun s q => ?_
  dsimp only
  split
  · split <;> simp [h]
  · rfl

theorem twinHealthTimeout_keepsOff {dt : Nat} : (Instr.twinHealthTimeout dt).KeepsOff := by
  refine .main (fun _ => execTwinHealthTimeout.eq_def ..) rfl fun f i x h => ?_
  simp at h
  split <;> simp [h]

theorem request_keepsOff {dt : Nat} {rx : RxCell} : (Instr.request dt rx).KeepsOff :=
  .main (fun _ => execRequest.eq_def ..) rfl (by simp +contextual)

theorem propose_keepsOff {dt : Nat} {rx : RxCell} : (Instr.propose dt rx).KeepsOff :=
  .main (fun _ => execPropose.eq_def ..) rfl (by simp +contextual)

theorem accept_keepsOff {dt : Nat} {rx : RxCell} : (Instr.accept dt rx).KeepsOff := by
  refine .main (fun _ => execAccept.eq_def ..) rfl fun f i x h => ?_
  simp at h
  refine State.mantleIn_rd _ _ _ _ f i (by simp [h]) fun s q => ?_
  split
  · split <;> simp [h]
  · rfl

theorem refuse_keepsOff {dt : Nat} {rx : RxCell} : (Instr.refuse dt rx).KeepsOff := by
  refine .main (fun _ => execRefuse.eq_def ..) rfl fun f i x h => ?_
  simp at h
  refine State.mantleIn_rd _ _ _ _ f i (by simp [h]) fun s q => ?_
  split
  · split <;> simp [h]
  · rfl

theorem handoverAcceptDeadline_keepsOff {dt : Nat} : (Instr.handoverAcceptDeadline dt).KeepsOff := by
  refine .main (fun _ => execHandoverAcceptDeadline.eq_def ..) rfl fun f i x h => ?_
  simp at h
  split <;> simp [h]

theorem handoverTime_keepsOff {dt : Nat} : (Instr.handoverTime dt).KeepsOff := by
  refine .main (fun _ => execHandoverTime.eq_def ..) rfl fun f i x h => ?_
  simp at h
  split <;> simp [h]

theorem holdoffExpire_keepsOff {dt : Nat} {pref : Bool} : (Instr.holdoffExpire dt pref).KeepsOff :=
  .main (fun _ => execHoldoffExpire.eq_def ..) rfl (by simp +contextual)

theorem signatureCellTx_keepsOff {dt : Nat} {dsts : List (Fin 1152)} : (Instr.signatureCellTx dt dsts).KeepsOff := by
  refine .main (fun _ => execSignatureCellTx.eq_def ..) rfl fun f i x h => ?_
  simp at h
  dsimp only
  split
  · rfl
  · split
    · refine (State.sendCell_rd _ _ _ _ _ _ f i (by simp [h])).trans ?_
      refine (foldl_rd _ f i (fun s q => ?_) _ _).trans (by simp)
      split <;> simp [h]
    · refine (foldl_rd _ f i (fun s q => ?_) _ _).trans (by simp)
      split <;> simp [h]

theorem signatureCell_keepsOff {dt : Nat} {rx : RxCell} : (Instr.signatureCell dt rx).KeepsOff := by
  refine .main (fun _ => execSignatureCell.eq_def ..) rfl fun f i x h => ?_
  simp at h
  dsimp only
  split
  · split
    · refine (foldl_rd _ f i (fun s a => ?_) _ _).trans (by simp [h])
      split <;> simp [h]
    · simp [h]
  · simp [h]

theorem laneTestCell_keepsOff {dt : Nat} {rx : RxCell} : (Instr.laneTestCell dt rx).KeepsOff := by
  refine .main (fun _ => execLaneTestCell.eq_def ..) rfl fun f i x h => ?_
  simp at h
  dsimp only
  split <;> simp [h]

theorem rtpSeqMirrorTx_keepsOff {dt : Nat} : (Instr.rtpSeqMirrorTx dt).KeepsOff :=
  .main (fun _ => execRtpSeqMirrorTx.eq_def ..) rfl (by simp +contextual)

/-! Faults (14_faults_hem). -/

theorem faultPulseEnd_keepsOff {dt : Nat} : (Instr.faultPulseEnd dt).KeepsOff :=
  .main (fun _ => execFaultPulseEnd.eq_def ..) rfl (by simp +contextual)

theorem logRetry_keepsOff {dt : Nat} {ok : Bool} : (Instr.logRetry dt ok).KeepsOff :=
  .main (fun _ => execLogRetry.eq_def ..) rfl (by simp +contextual)

theorem controlCoreWatchdog_keepsOff {dt : Nat} : (Instr.controlCoreWatchdog dt).KeepsOff :=
  .main (fun _ => execControlCoreWatchdog.eq_def ..) rfl (by simp +contextual)

theorem crossingFifoOverflow_keepsOff {dt : Nat} : (Instr.crossingFifoOverflow dt).KeepsOff :=
  .main (fun _ => execCrossingFifoOverflow.eq_def ..) rfl (by simp +contextual)

/-! Hopper and the default target (16_internal_engines). -/

theorem defaultTargetAccess_keepsOff {dt : Nat} {master : Fin 8} {write : Bool} {addr : BitVec 64} :
    (Instr.defaultTargetAccess dt master write addr).KeepsOff :=
  .main (fun _ => execDefaultTargetAccess.eq_def ..) rfl (by simp +contextual)

theorem descriptorFetched_keepsOff {dt : Nat} {c : Fin 16} {ok : Bool} :
    (Instr.descriptorFetched dt c ok).KeepsOff := by
  refine .main (fun _ => execDescriptorFetched.eq_def ..) rfl fun f i x h => ?_
  simp at h
  dsimp only
  split
  · rfl
  · split
    · simp [h]
    · split
      · simp [h]
      · split
        · simp [h]
        · split
          · simp [h]
          · split
            · simp [h]
            · split <;> simp [h]

theorem readBeatReturn_keepsOff {dt : Nat} {c : Fin 16} {beat : Nat} {res : BeatRes} :
    (Instr.readBeatReturn dt c beat res).KeepsOff := by
  refine .main (fun _ => execReadBeatReturn.eq_def ..) rfl fun f i x h => ?_
  simp at h
  split <;> simp [h]

theorem writeBeatResponse_keepsOff {dt : Nat} {c : Fin 16} {beat : Nat} {res : BeatRes} :
    (Instr.writeBeatResponse dt c beat res).KeepsOff := by
  refine .main (fun _ => execWriteBeatResponse.eq_def ..) rfl fun f i x h => ?_
  simp at h
  split <;> simp [h]

theorem descriptorWriteBack_keepsOff {dt : Nat} {c : Fin 16} : (Instr.descriptorWriteBack dt c).KeepsOff := by
  refine .main (fun _ => execDescriptorWriteBack.eq_def ..) rfl fun f i x h => ?_
  simp at h
  dsimp only
  split
  · simp [h]
  · split
    · split
      · split <;> simp [h]
      · split <;> split <;> simp [h]
    · split <;> simp [h]
  · rfl

/-! Resets, rails and fuses (17_startup_update, 19_electrical_package). -/

theorem resetNAsserted_keepsOff {dt : Nat} : (Instr.resetNAsserted dt).KeepsOff :=
  .keep (fun _ => execResetNAsserted.eq_def ..) rfl (by simp +contextual)

theorem cellarEntryIsolated_keepsOff {dt : Nat} : (Instr.cellarEntryIsolated dt).KeepsOff :=
  .keep (fun _ => execCellarEntryIsolated.eq_def ..) rfl (by simp +contextual)

theorem railOutOfTolerance_keepsOff {dt : Nat} {rail : Fin 10} {held : Bool} :
    (Instr.railOutOfTolerance dt rail held).KeepsOff :=
  .keep (fun _ => execRailOutOfTolerance.eq_def ..) rfl (by simp +contextual)

theorem railRestored_keepsOff {dt : Nat} : (Instr.railRestored dt).KeepsOff :=
  .keep (fun _ => execRailRestored.eq_def ..) rfl (by simp +contextual)

theorem mainRailCollapse_keepsOff {dt : Nat} {sram : Bool} : (Instr.mainRailCollapse dt sram).KeepsOff :=
  .keep (fun _ => execMainRailCollapse.eq_def ..) rfl (by simp +contextual)

theorem keepRailCollapse_keepsOff {dt : Nat} : (Instr.keepRailCollapse dt).KeepsOff := by
  intro s t l f i e _ _
  cases e
  rfl

theorem tempSensorsSample_keepsOff {dt : Nat} {t : Vector (BitVec 16) 8} : (Instr.tempSensorsSample dt t).KeepsOff :=
  .main (fun _ => execTempSensorsSample.eq_def ..) rfl fun f i x h => by simp at h; simp [h]

theorem uartByteReceived_keepsOff {dt : Nat} {b : Byte} : (Instr.uartByteReceived dt b).KeepsOff :=
  .main (fun _ => execUartByteReceived.eq_def ..) rfl (by simp +contextual)

theorem ownerSlotProgram_keepsOff {dt : Nat} {k : Fin 4} {digest : BitVec 384} :
    (Instr.ownerSlotProgram dt k digest).KeepsOff := by
  refine .main (fun _ => execOwnerSlotProgram.eq_def ..) rfl fun f i x _ => ?_
  split <;> simp

theorem ownerSlotRevoke_keepsOff {dt : Nat} {k : Fin 4} : (Instr.ownerSlotRevoke dt k).KeepsOff :=
  .main (fun _ => execOwnerSlotRevoke.eq_def ..) rfl (by simp +contextual)

/-! Island clocks (01_architecture). -/

theorem islandClockLost_keepsOff {dt : Nat} {n : Fin 105} : (Instr.islandClockLost dt n).KeepsOff :=
  .main (fun _ => execIslandClockLost.eq_def ..) rfl (by simp +contextual)

/-! Sessions (15_hcp_control). -/

theorem sessionPendingTimeout_keepsOff {dt : Nat} {k : Fin 32} : (Instr.sessionPendingTimeout dt k).KeepsOff :=
  .main (fun _ => execSessionPendingTimeout.eq_def ..) rfl (by simp +contextual)

theorem sessionIdleTimeout_keepsOff {dt : Nat} {k : Fin 32} : (Instr.sessionIdleTimeout dt k).KeepsOff :=
  .main (fun _ => execSessionIdleTimeout.eq_def ..) rfl (by simp +contextual)

theorem eventResend_keepsOff {dt : Nat} {k : Fin 32} : (Instr.eventResend dt k).KeepsOff :=
  .main (fun _ => execEventResend.eq_def ..) rfl (by simp +contextual)

/-! Change sets (05_warp_seam). -/

theorem prepareDeadline_keepsOff {dt : Nat} {n : Fin 32} : (Instr.prepareDeadline dt n).KeepsOff :=
  .main (fun _ => execPrepareDeadline.eq_def ..) rfl (by simp +contextual)

theorem csReady_keepsOff {dt : Nat} {n : Fin 32} {ready : Bool} {notReady : List (TKind × BitVec 16 × BitVec 7)} :
    (Instr.csReady dt n ready notReady).KeepsOff :=
  .main (fun _ => execCsReady.eq_def ..) rfl (by simp +contextual)

/-! Snapshots (15_hcp_control). -/

theorem snapshotCapture_keepsOff {dt : Nat} {k : Fin 4} : (Instr.snapshotCapture dt k).KeepsOff :=
  .main (fun _ => execSnapshotCapture.eq_def ..) rfl (by simp +contextual)

/-! The start-up sequence (17_startup_update). -/

theorem flashInitDone_keepsOff {dt : Nat} {ok : Bool} : (Instr.flashInitDone dt ok).KeepsOff :=
  .main (fun _ => execFlashInitDone.eq_def ..) rfl (by simp +contextual)

theorem swapStepDone_keepsOff {dt : Nat} {ok : Bool} : (Instr.swapStepDone dt ok).KeepsOff := by
  refine .main (fun _ => execSwapStepDone.eq_def ..) rfl fun f i x h => ?_
  simp at h
  dsimp only
  split
  · simp
  · split
    · simp [h]
    · split <;> simp [h]

theorem startVerifyDone_keepsOff {dt : Nat} {img : ImgIn} : (Instr.startVerifyDone dt img).KeepsOff :=
  .main (fun _ => execStartVerifyDone.eq_def ..) rfl (by simp +contextual)

theorem hbmTrained_keepsOff {dt : Nat} : (Instr.hbmTrained dt).KeepsOff :=
  .main (fun _ => execHbmTrained.eq_def ..) rfl (by simp +contextual)

theorem stage6End_keepsOff {dt : Nat} : (Instr.stage6End dt).KeepsOff :=
  .main (fun _ => execStage6End.eq_def ..) rfl (by simp +contextual)

theorem enterService_keepsOff {dt : Nat} : (Instr.enterService dt).KeepsOff :=
  .main (fun _ => execEnterService.eq_def ..) rfl (by simp +contextual)

theorem trialConfirmed_keepsOff {dt : Nat} : (Instr.trialConfirmed dt).KeepsOff :=
  .main (fun _ => execTrialConfirmed.eq_def ..) rfl (by simp +contextual)

/-! Images and relay (17_startup_update). -/

theorem imageVerifyDone_keepsOff {dt : Nat} {img : ImgIn} : (Instr.imageVerifyDone dt img).KeepsOff := by
  refine .main (fun _ => execImageVerifyDone.eq_def ..) rfl fun f i x h => ?_
  simp at h
  dsimp only
  split
  · simp
  · split <;> simp [h]

theorem relayOffer_keepsOff {dt : Nat} {b : Fin 33} {rx : RxCell} : (Instr.relayOffer dt b rx).KeepsOff := by
  refine .main (fun _ => execRelayOffer.eq_def ..) rfl fun f i x h => ?_
  simp at h
  refine State.relayIn_rd _ _ _ _ _ f i (by simp [h]) fun s q => ?_
  split <;> simp [h]

theorem relayWant_keepsOff {dt : Nat} {b : Fin 33} {rx : RxCell} : (Instr.relayWant dt b rx).KeepsOff :=
  .main (fun _ => execRelayWant.eq_def ..) rfl (by simp +contextual)

theorem relayData_keepsOff {dt : Nat} {b : Fin 33} {rx : RxCell} : (Instr.relayData dt b rx).KeepsOff := by
  refine .main (fun _ => execRelayData.eq_def ..) rfl fun f i x h => ?_
  simp at h
  refine State.relayIn_rd _ _ _ _ _ f i (by simp [h]) fun s q => ?_
  split
  · rfl
  · dsimp only
    split
    · simp
    · split
      · simp [h]
      · split <;> split <;> simp [h]

theorem relayAck_keepsOff {dt : Nat} {b : Fin 33} {rx : RxCell} : (Instr.relayAck dt b rx).KeepsOff := by
  refine .main (fun _ => execRelayAck.eq_def ..) rfl fun f i x h => ?_
  simp at h
  refine State.relayIn_rd _ _ _ _ _ f i (by simp [h]) fun s q => ?_
  split
  · split <;> simp [h]
  · rfl

theorem relayDone_keepsOff {dt : Nat} {b : Fin 33} {rx : RxCell} : (Instr.relayDone dt b rx).KeepsOff :=
  .main (fun _ => execRelayDone.eq_def ..) rfl (by simp +contextual)

theorem relayDecline_keepsOff {dt : Nat} {b : Fin 33} {rx : RxCell} : (Instr.relayDecline dt b rx).KeepsOff :=
  .main (fun _ => execRelayDecline.eq_def ..) rfl (by simp +contextual)

theorem relayTimeout_keepsOff {dt : Nat} {b : Fin 33} {rx : Bool} : (Instr.relayTimeout dt b rx).KeepsOff := by
  refine .main (fun _ => execRelayTimeout.eq_def ..) rfl fun f i x h => ?_
  simp at h
  split
  · split
    · split <;> simp [h]
    · rfl
  · split
    · split <;> simp
    · rfl

/-! Every command. -/

/-- A command without a list has nothing to keep. -/
theorem keepsOff_of_fields_none {c : Instr} (h : c.fields = none) : c.KeepsOff := by
  intro s t l f i _ hl
  exact absurd (h.symm.trans hl) (Option.some_ne_none l).symm

/-- Every command keeps the fields off its list: those with a list by their own lemmas above. -/
theorem command_keepsOff (c : Instr) : c.KeepsOff := by
  cases c with
  | clockLaneQualified => exact clockLaneQualified_keepsOff
  | adaptDone => exact adaptDone_keepsOff
  | bitSlipPosition => exact bitSlipPosition_keepsOff
  | deskewDone => exact deskewDone_keepsOff
  | verifyDone => exact verifyDone_keepsOff
  | autoRetrainRetry => exact autoRetrainRetry_keepsOff
  | txAlignmentMarker => exact txAlignmentMarker_keepsOff
  | alignmentMarker => exact alignmentMarker_keepsOff
  | markerMissing => exact markerMissing_keepsOff
  | interpolatorLimit => exact interpolatorLimit_keepsOff
  | fill => exact fill_keepsOff
  | lightIdleEntry => exact lightIdleEntry_keepsOff
  | deepIdleEntry => exact deepIdleEntry_keepsOff
  | idleAutoTimeout => exact idleAutoTimeout_keepsOff
  | txIdleExit => exact txIdleExit_keepsOff
  | exitBurstDelimiter => exact exitBurstDelimiter_keepsOff
  | wakeFailure => exact wakeFailure_keepsOff
  | fwdClockStop => exact fwdClockStop_keepsOff
  | fwdClockGlitch => exact fwdClockGlitch_keepsOff
  | fwdClockRateChange => exact fwdClockRateChange_keepsOff
  | fwdClockRequalified => exact fwdClockRequalified_keepsOff
  | prbsCheckerLock => exact prbsCheckerLock_keepsOff
  | prbsCheckerReseed => exact prbsCheckerReseed_keepsOff
  | essenceCell => exact essenceCell_keepsOff
  | idleCell => exact idleCell_keepsOff
  | echoCell => exact echoCell_keepsOff
  | stampCell => exact stampCell_keepsOff
  | managementSideCell => exact managementSideCell_keepsOff
  | sourceLostTimeout => exact sourceLostTimeout_keepsOff
  | warpCellCheckFail => exact warpCellCheckFail_keepsOff
  | vatCorrectedError => exact vatCorrectedError_keepsOff
  | vatUncorrectableError => exact vatUncorrectableError_keepsOff
  | familyCellTx => exact familyCellTx_keepsOff
  | launchCellTx => exact launchCellTx_keepsOff
  | seamGuardOpen => exact seamGuardOpen_keepsOff
  | seamSnapshotTimeout => exact seamSnapshotTimeout_keepsOff
  | dstFrameLaunch => exact dstFrameLaunch_keepsOff
  | freezeExpire => exact freezeExpire_keepsOff
  | dstLineBoundary => exact dstLineBoundary_keepsOff
  | headGuardOpen => exact headGuardOpen_keepsOff
  | headUnderrun => exact headUnderrun_keepsOff
  | apronUnderrun => exact apronUnderrun_keepsOff
  | headFrameEnd => exact headFrameEnd_keepsOff
  | apronFieldApply => exact apronFieldApply_keepsOff
  | apronNAsserted => exact apronNAsserted_keepsOff
  | apronForceBegin => exact apronForceBegin_keepsOff
  | apronNDeasserted => exact apronNDeasserted_keepsOff
  | hemLayerDrop => exact hemLayerDrop_keepsOff
  | plyProxyComplete => exact plyProxyComplete_keepsOff
  | refQualified => exact refQualified_keepsOff
  | kilnTimeSet => exact kilnTimeSet_keepsOff
  | slewDone => exact slewDone_keepsOff
  | startWaitExpire => exact startWaitExpire_keepsOff
  | ppsInPulse => exact ppsInPulse_keepsOff
  | vrefInPulse => exact vrefInPulse_keepsOff
  | pulseTimeout => exact pulseTimeout_keepsOff
  | freqInGlitch => exact freqInGlitch_keepsOff
  | freqInStop => exact freqInStop_keepsOff
  | freqInRateChange => exact freqInRateChange_keepsOff
  | freqInReturn => exact freqInReturn_keepsOff
  | dacUpdate => exact dacUpdate_keepsOff
  | tempRead => exact tempRead_keepsOff
  | tempSensorTimeout => exact tempSensorTimeout_keepsOff
  | modelSave => exact modelSave_keepsOff
  | modelValid => exact modelValid_keepsOff
  | oscGlitch => exact oscGlitch_keepsOff
  | oscStop => exact oscStop_keepsOff
  | oscRateChange => exact oscRateChange_keepsOff
  | oscDrift => exact oscDrift_keepsOff
  | oscRestore => exact oscRestore_keepsOff
  | xoInStop => exact xoInStop_keepsOff
  | xoInReturn => exact xoInReturn_keepsOff
  | frameEpoch => exact frameEpoch_keepsOff
  | evtInEdge => exact evtInEdge_keepsOff
  | timeOutPulseEnd => exact timeOutPulseEnd_keepsOff
  | kilnStep => exact kilnStep_keepsOff
  | gnssClockStop => exact gnssClockStop_keepsOff
  | gnssClockRateChange => exact gnssClockRateChange_keepsOff
  | gnssClockGlitch => exact gnssClockGlitch_keepsOff
  | gnssClockRequalified => exact gnssClockRequalified_keepsOff
  | gnssSearchPass => exact gnssSearchPass_keepsOff
  | hotSearchTimeout => exact hotSearchTimeout_keepsOff
  | channelLockLoss => exact channelLockLoss_keepsOff
  | channelLockAcquired => exact channelLockAcquired_keepsOff
  | navDataDecoded => exact navDataDecoded_keepsOff
  | measurementEpoch => exact measurementEpoch_keepsOff
  | gnssSolution => exact gnssSolution_keepsOff
  | baselineLearnt => exact baselineLearnt_keepsOff
  | gnssBurst => exact gnssBurst_keepsOff
  | gnssNavRefresh => exact gnssNavRefresh_keepsOff
  | selftestDone => exact selftestDone_keepsOff
  | unlockHoldExpire => exact unlockHoldExpire_keepsOff
  | ancillaryCell => exact ancillaryCell_keepsOff
  | zcTimeout => exact zcTimeout_keepsOff
  | faderRampEnd => exact faderRampEnd_keepsOff
  | mashParityFault => exact mashParityFault_keepsOff
  | hemMashSilent => exact hemMashSilent_keepsOff
  | ethFrameBad => exact ethFrameBad_keepsOff
  | unmatchedFrame => exact unmatchedFrame_keepsOff
  | pauseFrame => exact pauseFrame_keepsOff
  | pauseExpire => exact pauseExpire_keepsOff
  | pauseWatchdog => exact pauseWatchdog_keepsOff
  | pauseIgnoreEnd => exact pauseIgnoreEnd_keepsOff
  | arpRequest => exact arpRequest_keepsOff
  | icmpEchoRequest => exact icmpEchoRequest_keepsOff
  | st211020Packet => exact st211020Packet_keepsOff
  | st211030Packet => exact st211030Packet_keepsOff
  | st211031Packet => exact st211031Packet_keepsOff
  | st211040Packet => exact st211040Packet_keepsOff
  | flowLostTimeout => exact flowLostTimeout_keepsOff
  | audioFlowLostTimeout => exact audioFlowLostTimeout_keepsOff
  | ethLossOfSignal => exact ethLossOfSignal_keepsOff
  | ethLinkGlitch => exact ethLinkGlitch_keepsOff
  | ethRateChange => exact ethRateChange_keepsOff
  | ethLinkUp => exact ethLinkUp_keepsOff
  | remoteFaultReceived => exact remoteFaultReceived_keepsOff
  | remoteFaultEnded => exact remoteFaultEnded_keepsOff
  | syncTx => exact syncTx_keepsOff
  | followUpTx => exact followUpTx_keepsOff
  | announceTx => exact announceTx_keepsOff
  | syncMetadataTx => exact syncMetadataTx_keepsOff
  | managementMessage => exact managementMessage_keepsOff
  | pdelayMessage => exact pdelayMessage_keepsOff
  | delayReq => exact delayReq_keepsOff
  | requestUnicastTransmission => exact requestUnicastTransmission_keepsOff
  | cancelUnicastTransmission => exact cancelUnicastTransmission_keepsOff
  | grantExpire => exact grantExpire_keepsOff
  | grantDue => exact grantDue_keepsOff
  | announce => exact announce_keepsOff
  | sync => exact sync_keepsOff
  | followUp => exact followUp_keepsOff
  | clientDelayReqTx => exact clientDelayReqTx_keepsOff
  | delayResp => exact delayResp_keepsOff
  | announceReceiptTimeout => exact announceReceiptTimeout_keepsOff
  | exchangeTimeout => exact exchangeTimeout_keepsOff
  | ntpRequest => exact ntpRequest_keepsOff
  | ntsRequest => exact ntsRequest_keepsOff
  | leapSecond => exact leapSecond_keepsOff
  | injectedFrameSent => exact injectedFrameSent_keepsOff
  | caskCorrectedError => exact caskCorrectedError_keepsOff
  | caskUncorrectableError => exact caskUncorrectableError_keepsOff
  | pageRetireDone => exact pageRetireDone_keepsOff
  | prerollDone => exact prerollDone_keepsOff
  | portClockGlitch => exact portClockGlitch_keepsOff
  | portRateChange => exact portRateChange_keepsOff
  | portClockQualified => exact portClockQualified_keepsOff
  | renewTx => exact renewTx_keepsOff
  | renew => exact renew_keepsOff
  | ack => exact ack_keepsOff
  | leaseInEdge => exact leaseInEdge_keepsOff
  | leaseConfirmTimeout => exact leaseConfirmTimeout_keepsOff
  | claimTimeout => exact claimTimeout_keepsOff
  | noneWaitTimeout => exact noneWaitTimeout_keepsOff
  | release => exact release_keepsOff
  | familyCellRx => exact familyCellRx_keepsOff
  | echoCellTx => exact echoCellTx_keepsOff
  | healthTx => exact healthTx_keepsOff
  | health => exact health_keepsOff
  | twinHealthTimeout => exact twinHealthTimeout_keepsOff
  | request => exact request_keepsOff
  | propose => exact propose_keepsOff
  | accept => exact accept_keepsOff
  | refuse => exact refuse_keepsOff
  | handoverAcceptDeadline => exact handoverAcceptDeadline_keepsOff
  | handoverTime => exact handoverTime_keepsOff
  | holdoffExpire => exact holdoffExpire_keepsOff
  | signatureCellTx => exact signatureCellTx_keepsOff
  | signatureCell => exact signatureCell_keepsOff
  | laneTestCell => exact laneTestCell_keepsOff
  | rtpSeqMirrorTx => exact rtpSeqMirrorTx_keepsOff
  | faultPulseEnd => exact faultPulseEnd_keepsOff
  | logRetry => exact logRetry_keepsOff
  | controlCoreWatchdog => exact controlCoreWatchdog_keepsOff
  | crossingFifoOverflow => exact crossingFifoOverflow_keepsOff
  | defaultTargetAccess => exact defaultTargetAccess_keepsOff
  | descriptorFetched => exact descriptorFetched_keepsOff
  | readBeatReturn => exact readBeatReturn_keepsOff
  | writeBeatResponse => exact writeBeatResponse_keepsOff
  | descriptorWriteBack => exact descriptorWriteBack_keepsOff
  | resetNAsserted => exact resetNAsserted_keepsOff
  | cellarEntryIsolated => exact cellarEntryIsolated_keepsOff
  | railOutOfTolerance => exact railOutOfTolerance_keepsOff
  | railRestored => exact railRestored_keepsOff
  | mainRailCollapse => exact mainRailCollapse_keepsOff
  | keepRailCollapse => exact keepRailCollapse_keepsOff
  | tempSensorsSample => exact tempSensorsSample_keepsOff
  | uartByteReceived => exact uartByteReceived_keepsOff
  | ownerSlotProgram => exact ownerSlotProgram_keepsOff
  | ownerSlotRevoke => exact ownerSlotRevoke_keepsOff
  | islandClockLost => exact islandClockLost_keepsOff
  | sessionPendingTimeout => exact sessionPendingTimeout_keepsOff
  | sessionIdleTimeout => exact sessionIdleTimeout_keepsOff
  | eventResend => exact eventResend_keepsOff
  | prepareDeadline => exact prepareDeadline_keepsOff
  | csReady => exact csReady_keepsOff
  | snapshotCapture => exact snapshotCapture_keepsOff
  | flashInitDone => exact flashInitDone_keepsOff
  | swapStepDone => exact swapStepDone_keepsOff
  | startVerifyDone => exact startVerifyDone_keepsOff
  | hbmTrained => exact hbmTrained_keepsOff
  | stage6End => exact stage6End_keepsOff
  | enterService => exact enterService_keepsOff
  | trialConfirmed => exact trialConfirmed_keepsOff
  | imageVerifyDone => exact imageVerifyDone_keepsOff
  | relayOffer => exact relayOffer_keepsOff
  | relayWant => exact relayWant_keepsOff
  | relayData => exact relayData_keepsOff
  | relayAck => exact relayAck_keepsOff
  | relayDone => exact relayDone_keepsOff
  | relayDecline => exact relayDecline_keepsOff
  | relayTimeout => exact relayTimeout_keepsOff
  | _ => exact keepsOff_of_fields_none rfl

end Sys2Proof.Machine

open Sys2Proof.Machine

/-- Settles O6: each command's own lemma, and nothing to show for a command without a list. -/
theorem registerFrames : Obligations.RegisterFrames :=
  fun c => command_keepsOff c

end

section
/-! The refusal of a WRITE to a register with no writable field (O9). -/

set_option autoImplicit false

namespace Sys2Proof.Machine

/-- Register fields of a device in SERVICE whose port CTL_0 is up and takes frames of at most 90 bytes, with slot 3
enabled. -/
def narrowPortFields : List (Field × Nat × Nat) :=
  [(Fld.CTRL_DEV_STATE_MODE, 0, 1), (Fld.ETH_PORT_CTL_EN, 16, 1), (Fld.ETH_PORT_STAT_LINK_UP, 16, 1),
    (Fld.ETH_PORT_CTL_MAX_FRAME, 16, 90), (Fld.HCP_SLOT_STAT_LOADED, 3, 1), (Fld.HCP_SLOT_STAT_EN, 3, 1)]

/-- That device with session 2 open on slot 3: BODY_MAX of its port is 0 (R710). -/
def narrowPort : State :=
  { narrowPortFields.foldl (fun (s : State) p => s.wr p.1 p.2.1 p.2.2) ({} : State) with
    hcp := { sess := [(2, { active := true, slot := 3, id := 7, high := 4 })] } }

/-- A request of that session whose LENGTH field is 0. -/
def emptyRequest : HcpReq :=
  { ctl1 := false, src := 9, slot := 3, session := 7, seq := 5, reqId := 77, fmtOk := true, bodyLen := 0, tagOk := true,
    resp := false, badOp := false, short := false }

/-- The request reaches its execution. -/
theorem narrowPort_asks : (narrowPort.start 0).asks emptyRequest none true 2 := by decide +kernel

/-- What the device sends for the request as a WRITE of one word of PORT_STAT, which holds no writable field. -/
theorem narrowPort_write : ∃ t, exec (.hcpWrite 0 emptyRequest [wordOf .ETH_PORT_STAT 5 false 1 1]) narrowPort = .next t ∧
    t.out = [narrowPort.reply emptyRequest 2 0x11 .errAccess []] :=
  ⟨_, rfl, by decide +kernel⟩

end Sys2Proof.Machine

open Sys2Proof Sys2Proof.Machine

/-- Refutes O9: no hypothesis says that the two bytes that name the item fit into BODY_MAX of the port. With MAX_FRAME 90
(below the 1518 that a write may give it, but the statement is about every state) BODY_MAX is 0, an answer with a body is
itself refused (R710), and ERR_ACCESS goes out with an empty body. -/
theorem not_noWritableField : ¬ Obligations.NoWritableField := by
  unfold Obligations.NoWritableField
  intro h
  obtain ⟨t, e, sent, -⟩ := h narrowPort 0 emptyRequest 2 .ETH_PORT_STAT 5 false 1 1 rfl
    ⟨narrowPort_asks, by decide, by decide +kernel⟩ (by decide)
  obtain ⟨t', e', out⟩ := narrowPort_write
  obtain rfl : t' = t := by simpa using e'.symm.trans e
  rw [out, List.mem_singleton] at sent
  exact absurd sent (by decide +kernel)

end

section
/-! A plain register write to a field that stands at more than it holds (O50). -/

set_option autoImplicit false

namespace Sys2Proof.Machine

/-- A register outside every island with an external clock takes a write at once. -/
theorem State.putItem_of_island_none (s : State) (at_ : Option Nat) (it : CsItem) (h : it.reg.island it.inst = none) :
    s.putItem at_ it = s.applyItem at_ it := by
  simp [State.putItem, h]

/-- TSVC_NEG_CFG lies in no island with an external clock. -/
theorem island_tsvcNegCfg (i : Nat) : Reg.island .TSVC_NEG_CFG i = none :=
  ite_self none

/-- A write of TSVC_NEG_CFG takes effect at once, and answers as its fields do. -/
theorem State.putWord_tsvcNegCfg (s : State) (m : Master) (at_ : Option Nat) (i v mask : Nat) :
    s.putWord m at_ ⟨.TSVC_NEG_CFG, i, false, v, mask⟩ = (s.setHeld s.held).applyItem at_ ⟨.TSVC_NEG_CFG, i, v, mask⟩ :=
  State.putItem_of_island_none _ _ _ (island_tsvcNegCfg i)

/-- One register word that passes its check: the request answers what the word's own write answers. -/
theorem State.putItems_word (s : State) (m : Master) (safety : Bool) (at_ : Option Nat) (all : List CsItem) (k : Nat) (w : Item)
    (r : Reg) (i : Nat) (hi : Bool) (u : State) (loc : w.addr.loc = some (.reg r i hi))
    (ok : s.checkItem m safety all w.addr.loc w (s.whole m s.held ⟨r, i, hi, w.val.toNat, w.mask.toNat⟩).1 = .ok)
    (put : s.putWord m at_ ⟨r, i, hi, w.val.toNat, w.mask.toNat⟩ = (.ok, u)) :
    s.putItems m safety at_ all k [w] s = (.ok, 0, u) := by
  rw [loc] at ok
  simp [State.putItems, loc, ok, put]

/-- The next state of a REGISTER_WRITE, from what its write answers. -/
theorem exec_registerWrite_of_regWrite {s u : State} {dt k : Nat} {m : Master} {a : RegAddr} {v mask : BitVec 32} {e : Status}
    (runs : s.iso = false)
    (h : (s.start dt).regWrite m ((s.start dt).isSafety m) none [⟨a, v, mask⟩] = (e, k, u)) :
    exec (.registerWrite dt m a v mask) s = .next (u.emit (.result e [])).restartIfDue.settleSets := by
  change execRegisterWrite dt m a v mask s = _
  simp [execRegisterWrite, onMain, runs, h]

/-- A device in reset values but for the 4-bit field SYNC_MIN of port 0, which stands at 16. -/
def wideSyncMin : State := { rv := [(Fld.TSVC_NEG_CFG_SYNC_MIN.at 0, 16)] }

/-- A write of TSVC_NEG_CFG of port 0 with an empty mask. -/
def emptyWrite : Item := wordOf .TSVC_NEG_CFG 0 false 0 0

/-- The empty write is allowed there. -/
theorem wideSyncMin_writes : (wideSyncMin.start 0).writes (.core 0) .TSVC_NEG_CFG (0 : Fin 18) false 0 0 := by
  decide +kernel

/-- The empty write changes nothing of the state it meets. -/
theorem wideSyncMin_regWrite :
    (wideSyncMin.start 0).regWrite (.core 0) ((wideSyncMin.start 0).isSafety (.core 0)) none [emptyWrite] =
      (.ok, 0, wideSyncMin.start 0) := by
  rw [State.regWrite, State.putItems_word _ _ _ _ _ _ _ .TSVC_NEG_CFG 0 false (wideSyncMin.start 0) rfl wideSyncMin_writes.2
    (by rw [State.putWord_tsvcNegCfg]; rfl)]
  rfl

/-- So the field stands at 16 after it. -/
theorem wideSyncMin_write : ∃ t, exec (.registerWrite 0 (.core 0) (.named .TSVC_NEG_CFG (0 : Fin 18) false) 0 0) wideSyncMin =
    .next t ∧ t.rd Fld.TSVC_NEG_CFG_SYNC_MIN 0 = 16 := by
  refine ⟨_, exec_registerWrite_of_regWrite rfl wideSyncMin_regWrite, ?_⟩
  decide +kernel

end Sys2Proof.Machine

open Sys2Proof Sys2Proof.Machine

/-- Refutes O50, by its first clause: it asks that every plain field of the register reads `merge … % 2 ^ width` afterwards,
but a field the mask does not reach keeps what it stood at, and no hypothesis bounds that by the field's width. -/
theorem not_regsWords : ¬ Obligations.RegsWords := by
  unfold Obligations.RegsWords
  intro h
  obtain ⟨plain, -⟩ := h
  obtain ⟨t, e, merged, -⟩ := plain wideSyncMin 0 (.core 0) 0 0 0 Fld.TSVC_NEG_CFG_SYNC_MIN rfl
    ⟨wideSyncMin_writes, by decide, rfl⟩
  obtain ⟨t', e', kept⟩ := wideSyncMin_write
  obtain rfl : t' = t := by simpa using e'.symm.trans e
  exact absurd (kept.symm.trans merged) (by decide +kernel)

end

section
/-! The frame of every command (O5): the parts of the state that a command may change are those of its list (Safety.lean,
`Instr.parts`). The laws of Laws/Parts.lean say which parts each operation of the model may change; here is one lemma for each
command, and they are put together at the end. -/

set_option autoImplicit false
set_option Elab.async false

namespace Sys2Proof.Machine

/-- A list of parts holds every part of another. -/
def Within (l k : List Part) : Prop := ∀ p ∈ l, p ∈ k

theorem Within.refl (l : List Part) : Within l l := fun _ h => h

theorem within_append_left (l m : List Part) : Within l (l ++ m) := fun _ h => List.mem_append_left m h

@[simp] theorem within_nil (k : List Part) : Within [] k := by simp [Within]

@[simp] theorem within_cons (p : Part) (l k : List Part) : Within (p :: l) k ↔ p ∈ k ∧ Within l k := by simp [Within]

@[simp] theorem within_append (a b k : List Part) : Within (a ++ b) k ↔ Within a k ∧ Within b k :=
  List.forall_mem_append

@[simp] theorem within_timeParts (k : List Part) : Within timeParts k ↔ Part.out ∈ k ∧ Part.now ∈ k ∧ Part.up ∈ k := by
  simp [timeParts]

@[simp] theorem within_mainParts (k : List Part) : Within mainParts k ↔ (Part.out ∈ k ∧ Part.now ∈ k ∧ Part.up ∈ k) ∧
    Part.rv ∈ k ∧ Part.cs ∈ k ∧ Part.txb ∈ k ∧ Part.egr ∈ k ∧ Part.sess ∈ k ∧ Part.follow ∈ k := by
  simp [mainParts]

@[simp] theorem within_faultParts (k : List Part) : Within faultParts k ↔ Part.out ∈ k ∧ Part.freeCtr ∈ k ∧ Part.rv ∈ k ∧
    Part.cs ∈ k ∧ Part.flt ∈ k ∧ Part.txb ∈ k ∧ Part.dst ∈ k ∧ Part.mntl ∈ k ∧ Part.eth ∈ k ∧ Part.kiln ∈ k ∧ Part.gnss ∈ k ∧
    Part.hop ∈ k ∧ Part.boot ∈ k ∧ Part.egr ∈ k ∧ Part.sess ∈ k := by
  simp [faultParts]

@[simp] theorem within_requestParts (k : List Part) : Within requestParts k ↔ Part.out ∈ k ∧ Part.now ∈ k ∧ Part.up ∈ k ∧
    Part.freeCtr ∈ k ∧ Part.iso ∈ k ∧ Part.rv ∈ k ∧ Part.staged ∈ k ∧ Part.held ∈ k ∧ Part.cs ∈ k ∧ Part.mem ∈ k ∧
    Part.flt ∈ k ∧ Part.bnd ∈ k ∧ Part.txb ∈ k ∧ Part.cell ∈ k ∧ Part.src ∈ k ∧ Part.dst ∈ k ∧ Part.cask ∈ k ∧ Part.head ∈ k ∧
    Part.bound ∈ k ∧ Part.mntl ∈ k ∧ Part.mash ∈ k ∧ Part.aprt ∈ k ∧ Part.eth ∈ k ∧ Part.kiln ∈ k ∧ Part.gnss ∈ k ∧
    Part.tsvc ∈ k ∧ Part.hcp ∈ k ∧ Part.hop ∈ k ∧ Part.boot ∈ k ∧ Part.pwr ∈ k ∧ Part.latch ∈ k ∧ Part.parked ∈ k ∧
    Part.mirror ∈ k ∧ Part.egr ∈ k ∧ Part.sess ∈ k ∧ Part.follow ∈ k := by
  simp [requestParts]

/-- An update of the start-up's record that keeps every owner fuse. -/
@[simp] theorem State.onBoot_but_of_fuses (s : State) (g : BootS → BootS) (k : List Part) (h : Part.boot ∈ k)
    (hf : ∀ b, (g b).fuses = b.fuses) : (s.onBoot g).but k = s.but k :=
  State.onBoot_but s g k h (hf s.boot)

end Sys2Proof.Machine

namespace Sys2Proof

open Sys2Proof.Machine

/-- A command answers a next state from every state, in which the parts that are not on its list are as they were. -/
def Instr.Frames (c : Instr) : Prop := ∀ s : State, ∃ t, exec c s = .next t ∧ t.but c.parts = s.but c.parts

/-- Time passes with every command. -/
theorem timeParts_within (c : Instr) : Within timeParts c.parts := by
  cases c <;> (dsimp only [Within, Instr.parts]; decide)

/-- After a command of the main islands the change sets are followed. -/
theorem mainParts_within (c : Instr) : c.inKeep = true ∨ Within mainParts c.parts := by
  cases c <;> (dsimp only [Within, Instr.parts, Instr.inKeep]; decide)

/-- A command of the main islands whose effect leaves the parts off its list. For most commands the laws of the operations that
the effect is made of give the last hypothesis. -/
theorem Instr.Frames.main {c : Instr} {dt : Nat} {g : State → State} (he : ∀ s, exec c s = onMain dt s g)
    (hi : c.inKeep = false) (h : ∀ k x, Within c.parts k → (g x).but k = x.but k) : c.Frames := by
  intro s
  have hm := (mainParts_within c).resolve_left (by simp [hi])
  simp at hm
  exact ⟨_, he s, onMain_but rfl (by simp [hm]) fun x => h _ x (.refl _)⟩

/-- A command of the keep-alive island whose effect leaves the parts off its list. -/
theorem Instr.Frames.keep {c : Instr} {dt : Nat} {g : State → State} (he : ∀ s, exec c s = onKeep dt s g)
    (h : ∀ k x, Within c.parts k → (g x).but k = x.but k) : c.Frames := by
  intro s
  have hm := timeParts_within c
  simp at hm
  exact ⟨_, he s, onKeep_but rfl (by simp [hm]) fun x => h _ x (.refl _)⟩

/-- A request of a session whose own effect leaves the parts off the command's list. -/
theorem Instr.Frames.request {c : Instr} {dt : Nat} {h : HcpReq} {op : Nat} {right : Option Nat} {inHem : Bool}
    {run : State → Nat → Done} (he : ∀ s, exec c s = hcpRequest dt h op right inHem run s)
    (hp : Within requestParts c.parts) (hr : ∀ k x n, Within c.parts k → (run x n).state.but k = x.but k) : c.Frames :=
  fun s => ⟨_, he s, hcpRequest_but rfl hp fun x n => hr _ x n (.refl _)⟩

/-- An operation on a change set by a session. -/
theorem Instr.Frames.csRequest {c : Instr} {dt : Nat} {h : HcpReq} {op set : Nat} {run : State → Done}
    (he : ∀ s, exec c s = Machine.csRequest dt h op set run s)
    (hp : Within requestParts c.parts) (hr : ∀ k x, Within c.parts k → (run x).state.but k = x.but k) : c.Frames :=
  .request he hp fun k x _ hk => by
    split
    · rfl
    · exact hr k x hk

/-- A write of one register word by a master. -/
theorem Instr.Frames.write {c : Instr} {dt : Nat} {m : Master} {r : Reg} {i : Nat} {hi : Bool} {v mask : Nat}
    (he : ∀ s, exec c s = writeCommand dt m r i hi v mask s) (hi : c.inKeep = false)
    (hp : c.parts = requestParts ++ [.ord]) : c.Frames :=
  .main he hi fun k x hk => by
    simp [hp] at hk
    simp [hk]

/-- A read of a register by a master. -/
theorem Instr.Frames.read {c : Instr} {dt : Nat} {m : Master} {a : RegAddr} (he : ∀ s, exec c s = readCommand dt m a s)
    (hi : c.inKeep = false) (hp : c.parts = mainParts ++ faultParts ++ [.tsvc, .pwr, .latch]) : c.Frames :=
  .main he hi fun k x hk => by
    simp [hp] at hk
    simp [hk]

end Sys2Proof

namespace Sys2Proof.Machine

/-! Reset, start-up and cellar mode. -/

/-- A state that keeps the queue and the owner fuses agrees with another off a list that holds every part. -/
theorem State.but_eq_of_allParts {s t : State} {k : List Part} (hk : Within allParts k) (hp : t.pending = s.pending)
    (hf : t.boot.fuses = s.boot.fuses) : t.but k = s.but k := by
  simp [allParts] at hk
  simp [State.but, hk, hp, hf]

theorem cellarNAsserted_frames {dt : Nat} : (Instr.cellarNAsserted dt).Frames :=
  .keep (fun _ => execCellarNAsserted.eq_def ..) (by simp +contextual [Instr.parts])

theorem cellarEntryIsolated_frames {dt : Nat} : (Instr.cellarEntryIsolated dt).Frames :=
  .keep (fun _ => execCellarEntryIsolated.eq_def ..) (by simp +contextual [Instr.parts])

theorem cellarNDeasserted_frames {dt : Nat} {pref : Bool} : (Instr.cellarNDeasserted dt pref).Frames :=
  .keep (fun _ => execCellarNDeasserted.eq_def ..) (by simp +contextual [Instr.parts])

theorem resetNAsserted_frames {dt : Nat} : (Instr.resetNAsserted dt).Frames :=
  .keep (fun _ => execResetNAsserted.eq_def ..) (by simp +contextual [Instr.parts])

theorem resetNDeasserted_frames {dt : Nat} {factory pref : Bool} : (Instr.resetNDeasserted dt factory pref).Frames :=
  .keep (fun _ => execResetNDeasserted.eq_def ..) (by simp +contextual [Instr.parts])

theorem keepAlivePorRelease_frames {dt : Nat} : (Instr.keepAlivePorRelease dt).Frames := by
  refine fun s => ⟨_, rfl, ?_⟩
  have hk : Within allParts (Instr.keepAlivePorRelease dt).parts := .refl _
  generalize (Instr.keepAlivePorRelease dt).parts = k at hk
  have hk' := hk
  simp [allParts] at hk'
  dsimp only
  split
  · simp [hk']
  · rw [but_ite]
    simp only [State.wr_but _ _ _ _ k hk'.1.2.2.2.2.2.1, ite_self]
    rw [State.setMode_but _ _ k (by simp [hk']), foldl_but _ k fun s q => State.wr_but _ _ _ _ k (by simp [hk'])]
    exact State.but_eq_of_allParts hk rfl rfl

theorem flashInitDone_frames {dt : Nat} {ok : Bool} : (Instr.flashInitDone dt ok).Frames :=
  .main (fun _ => execFlashInitDone.eq_def ..) rfl (by simp +contextual [Instr.parts])

theorem swapStepDone_frames {dt : Nat} {ok : Bool} : (Instr.swapStepDone dt ok).Frames := by
  refine .main (fun _ => execSwapStepDone.eq_def ..) rfl fun k x hk => ?_
  simp [Instr.parts] at hk
  dsimp only
  split
  · simp
  · split
    · simp [hk]
    · split <;> simp [hk]

theorem startVerifyDone_frames {dt : Nat} {img : ImgIn} : (Instr.startVerifyDone dt img).Frames := by
  refine .main (fun _ => execStartVerifyDone.eq_def ..) rfl fun k x hk => ?_
  simp [Instr.parts] at hk
  dsimp only
  split
  · simp
  · split
    · split <;> simp [hk]
    · simp [hk]

theorem configApplied_frames {dt : Nat} : (Instr.configApplied dt).Frames := by
  refine .main (fun _ => execConfigApplied.eq_def ..) rfl fun k x hk => ?_
  simp [Instr.parts] at hk
  dsimp only
  split
  · simp
  · split <;> simp [hk]

theorem hbmTrained_frames {dt : Nat} : (Instr.hbmTrained dt).Frames :=
  .main (fun _ => execHbmTrained.eq_def ..) rfl (by simp +contextual [Instr.parts])

theorem stage6End_frames {dt : Nat} : (Instr.stage6End dt).Frames :=
  .main (fun _ => execStage6End.eq_def ..) rfl (by simp +contextual [Instr.parts])

theorem enterService_frames {dt : Nat} : (Instr.enterService dt).Frames :=
  .main (fun _ => execEnterService.eq_def ..) rfl (by simp +contextual [Instr.parts])

theorem hemMashSilent_frames {dt : Nat} : (Instr.hemMashSilent dt).Frames :=
  .main (fun _ => execHemMashSilent.eq_def ..) rfl (by simp +contextual [Instr.parts])

theorem islandClockLost_frames {dt : Nat} {n : Fin 105} : (Instr.islandClockLost dt n).Frames :=
  .main (fun _ => execIslandClockLost.eq_def ..) rfl (by simp +contextual [Instr.parts])

theorem islandClockReturn_frames {dt : Nat} {n : Fin 105} : (Instr.islandClockReturn dt n).Frames :=
  .main (fun _ => execIslandClockReturn.eq_def ..) rfl (by simp +contextual [Instr.parts])

/-! Change sets. -/

theorem csOpen_frames {dt : Nat} {h : HcpReq} {set : BitVec 8} : (Instr.csOpen dt h set).Frames := by
  refine .csRequest (fun _ => execCsOpen.eq_def ..) (.refl _) fun k x hk => ?_
  simp [Instr.parts] at hk
  dsimp only
  split
  · split <;> simp [hk]
  · split <;> simp [hk]

theorem stage_frames {dt : Nat} {h : HcpReq} {set : BitVec 8} {entries : List StageEntry} :
    (Instr.stage dt h set entries).Frames := by
  refine .request (fun _ => execStage.eq_def ..) (.refl _) fun k x n hk => ?_
  simp [Instr.parts] at hk
  split
  · simp
  · split <;> simp [hk]

theorem arm_frames {dt : Nat} {h : HcpReq} {set kind : BitVec 8} {now auto : Bool} {ta tp : BitVec 64} :
    (Instr.arm dt h set kind now auto ta tp).Frames := by
  refine .csRequest (fun _ => execArm.eq_def ..) (within_append_left _ _) fun k x hk => ?_
  simp [Instr.parts] at hk
  split
  · split <;> simp [hk]
  · simp

theorem prepare_frames {dt : Nat} {h : HcpReq} {set : BitVec 8} : (Instr.prepare dt h set).Frames := by
  refine .csRequest (fun _ => execPrepare.eq_def ..) (.refl _) fun k x hk => ?_
  simp [Instr.parts] at hk
  split <;> simp [hk]

theorem commit_frames {dt : Nat} {h : HcpReq} {set : BitVec 8} : (Instr.commit dt h set).Frames := by
  refine .csRequest (fun _ => execCommit.eq_def ..) (.refl _) fun k x hk => ?_
  simp [Instr.parts] at hk
  dsimp only
  split <;> simp [hk]

theorem cancel_frames {dt : Nat} {h : HcpReq} {set : BitVec 8} : (Instr.cancel dt h set).Frames := by
  refine .csRequest (fun _ => execCancel.eq_def ..) (.refl _) fun k x hk => ?_
  simp [Instr.parts] at hk
  split <;> simp [hk]

theorem csRelease_frames {dt : Nat} {h : HcpReq} {set : BitVec 8} : (Instr.csRelease dt h set).Frames := by
  refine .csRequest (fun _ => execCsRelease.eq_def ..) (.refl _) fun k x hk => ?_
  simp [Instr.parts] at hk
  dsimp only
  split <;> simp [hk]

theorem csRead_frames {dt : Nat} {h : HcpReq} {set : BitVec 8} {first count : BitVec 16} :
    (Instr.csRead dt h set first count).Frames := by
  refine .request (fun _ => execCsRead.eq_def ..) (.refl _) fun k x n hk => ?_
  simp [Instr.parts] at hk
  split <;> simp

theorem csDistributionDone_frames {dt : Nat} {n : Fin 32} : (Instr.csDistributionDone dt n).Frames :=
  .main (fun _ => execCsDistributionDone.eq_def ..) rfl (by simp +contextual [Instr.parts])

theorem csEntryInShadow_frames {dt : Nat} {n : Fin 32} {e : BitVec 12} : (Instr.csEntryInShadow dt n e).Frames :=
  .main (fun _ => execCsEntryInShadow.eq_def ..) rfl (by simp +contextual [Instr.parts])

theorem armTimeReached_frames {dt : Nat} {n : Fin 32} : (Instr.armTimeReached dt n).Frames := by
  refine .main (fun _ => execArmTimeReached.eq_def ..) rfl fun k x hk => ?_
  simp [Instr.parts] at hk
  dsimp only
  split <;> simp [hk]

theorem prepareDeadline_frames {dt : Nat} {n : Fin 32} : (Instr.prepareDeadline dt n).Frames :=
  .main (fun _ => execPrepareDeadline.eq_def ..) rfl (by simp +contextual [Instr.parts])

/-! Izsar lanes: training, markers, idle and the forwarded clock. -/

theorem clockLaneQualified_frames {dt : Nat} {b : Fin 33} : (Instr.clockLaneQualified dt b).Frames :=
  .main (fun _ => execClockLaneQualified.eq_def ..) rfl (by simp +contextual [Instr.parts])

theorem adaptDone_frames {dt : Nat} {b : Fin 33} : (Instr.adaptDone dt b).Frames :=
  .main (fun _ => execAdaptDone.eq_def ..) rfl (by simp +contextual [Instr.parts])

theorem bitSlipPosition_frames {dt : Nat} {b : Fin 33} : (Instr.bitSlipPosition dt b).Frames :=
  .main (fun _ => execBitSlipPosition.eq_def ..) rfl (by simp +contextual [Instr.parts])

theorem deskewDone_frames {dt : Nat} {b : Fin 33} {arrival : Vector Nat 8} : (Instr.deskewDone dt b arrival).Frames :=
  .main (fun _ => execDeskewDone.eq_def ..) rfl (by simp +contextual [Instr.parts])

theorem verifyDone_frames {dt : Nat} {b : Fin 33} : (Instr.verifyDone dt b).Frames :=
  .main (fun _ => execVerifyDone.eq_def ..) rfl (by simp +contextual [Instr.parts])

theorem autoRetrainRetry_frames {dt : Nat} {b : Fin 33} : (Instr.autoRetrainRetry dt b).Frames :=
  .main (fun _ => execAutoRetrainRetry.eq_def ..) rfl (by simp +contextual [Instr.parts])

theorem txAlignmentMarker_frames {dt : Nat} {b : Fin 33} : (Instr.txAlignmentMarker dt b).Frames :=
  .main (fun _ => execTxAlignmentMarker.eq_def ..) rfl (by simp +contextual [Instr.parts])

theorem alignmentMarker_frames {dt : Nat} {b : Fin 33} {l : Fin 8} {skipped : Nat} {rx : RxWord} :
    (Instr.alignmentMarker dt b l skipped rx).Frames := by
  refine .main (fun _ => execAlignmentMarker.eq_def ..) rfl fun k x hk => ?_
  simp [Instr.parts] at hk
  dsimp only
  split <;> simp [hk]

theorem markerMissing_frames {dt : Nat} {b : Fin 33} {l : Fin 8} : (Instr.markerMissing dt b l).Frames :=
  .main (fun _ => execMarkerMissing.eq_def ..) rfl (by simp +contextual [Instr.parts])

theorem interpolatorLimit_frames {dt : Nat} {b : Fin 33} {l : Fin 8} {late : Bool} :
    (Instr.interpolatorLimit dt b l late).Frames :=
  .main (fun _ => execInterpolatorLimit.eq_def ..) rfl (by simp +contextual [Instr.parts])

theorem fill_frames {dt : Nat} {b : Fin 33} {l : Fin 8} {rx : RxWord} : (Instr.fill dt b l rx).Frames := by
  refine .main (fun _ => execFill.eq_def ..) rfl fun k x hk => ?_
  simp [Instr.parts] at hk
  dsimp only
  split <;> simp [hk]

theorem lightIdleEntry_frames {dt : Nat} {b : Fin 33} {l : Fin 8} {rx : RxWord} : (Instr.lightIdleEntry dt b l rx).Frames :=
  .main (fun _ => execLightIdleEntry.eq_def ..) rfl (by simp +contextual [Instr.parts])

theorem deepIdleEntry_frames {dt : Nat} {b : Fin 33} {l : Fin 8} {rx : RxWord} : (Instr.deepIdleEntry dt b l rx).Frames :=
  .main (fun _ => execDeepIdleEntry.eq_def ..) rfl (by simp +contextual [Instr.parts])

theorem idleAutoTimeout_frames {dt : Nat} {b : Fin 33} : (Instr.idleAutoTimeout dt b).Frames :=
  .main (fun _ => execIdleAutoTimeout.eq_def ..) rfl (by simp +contextual [Instr.parts])

theorem txIdleExit_frames {dt : Nat} {b : Fin 33} : (Instr.txIdleExit dt b).Frames :=
  .main (fun _ => execTxIdleExit.eq_def ..) rfl (by simp +contextual [Instr.parts])

theorem exitBurstDelimiter_frames {dt : Nat} {b : Fin 33} {l : Fin 8} : (Instr.exitBurstDelimiter dt b l).Frames :=
  .main (fun _ => execExitBurstDelimiter.eq_def ..) rfl (by simp +contextual [Instr.parts])

theorem wakeFailure_frames {dt : Nat} {b : Fin 33} : (Instr.wakeFailure dt b).Frames :=
  .main (fun _ => execWakeFailure.eq_def ..) rfl (by simp +contextual [Instr.parts])

theorem fwdClockStop_frames {dt : Nat} {b : Fin 33} : (Instr.fwdClockStop dt b).Frames :=
  .main (fun _ => execFwdClockStop.eq_def ..) rfl (by simp +contextual [Instr.parts])

theorem fwdClockGlitch_frames {dt : Nat} {b : Fin 33} : (Instr.fwdClockGlitch dt b).Frames :=
  .main (fun _ => execFwdClockGlitch.eq_def ..) rfl (by simp +contextual [Instr.parts])

theorem fwdClockRateChange_frames {dt : Nat} {b : Fin 33} : (Instr.fwdClockRateChange dt b).Frames :=
  .main (fun _ => execFwdClockRateChange.eq_def ..) rfl (by simp +contextual [Instr.parts])

theorem fwdClockRequalified_frames {dt : Nat} {b : Fin 33} : (Instr.fwdClockRequalified dt b).Frames :=
  .main (fun _ => execFwdClockRequalified.eq_def ..) rfl (by simp +contextual [Instr.parts])

/-! Cells received and sent. -/

theorem idleCell_frames {dt : Nat} {b : Fin 33} {rx : RxCell} : (Instr.idleCell dt b rx).Frames :=
  .main (fun _ => execIdleCell.eq_def ..) rfl (by simp +contextual [Instr.parts])

theorem essenceCell_frames {dt : Nat} {b : Fin 33} {rx : RxCell} {overrun : Bool} :
    (Instr.essenceCell dt b rx overrun).Frames := by
  refine .main (fun _ => execEssenceCell.eq_def ..) rfl fun k x hk => ?_
  simp [Instr.parts] at hk
  dsimp only
  split <;> simp [hk]

theorem ancillaryCell_frames {dt : Nat} {b : Fin 33} {rx : RxCell} {overrun : Bool} :
    (Instr.ancillaryCell dt b rx overrun).Frames := by
  refine .main (fun _ => execAncillaryCell.eq_def ..) rfl fun k x hk => ?_
  simp [Instr.parts] at hk
  dsimp only
  split <;> simp [hk]

theorem echoCell_frames {dt : Nat} {b : Fin 33} {rx : RxCell} : (Instr.echoCell dt b rx).Frames :=
  .main (fun _ => execEchoCell.eq_def ..) rfl (by simp +contextual [Instr.parts])

theorem stampCell_frames {dt : Nat} {b : Fin 33} {rx : RxCell} : (Instr.stampCell dt b rx).Frames :=
  .main (fun _ => execStampCell.eq_def ..) rfl (by simp +contextual [Instr.parts])

theorem familyCellRx_frames {dt : Nat} {rx : RxCell} : (Instr.familyCellRx dt rx).Frames :=
  .main (fun _ => execFamilyCellRx.eq_def ..) rfl (by simp +contextual [Instr.parts])

theorem managementSideCell_frames {dt : Nat} {b : Fin 33} {rx : RxCell} : (Instr.managementSideCell dt b rx).Frames :=
  .main (fun _ => execManagementSideCell.eq_def ..) rfl (by simp +contextual [Instr.parts])

theorem laneTestCell_frames {dt : Nat} {rx : RxCell} : (Instr.laneTestCell dt rx).Frames := by
  refine .main (fun _ => execLaneTestCell.eq_def ..) rfl fun k x hk => ?_
  simp [Instr.parts] at hk
  dsimp only
  split <;> simp [hk]

theorem signatureCell_frames {dt : Nat} {rx : RxCell} : (Instr.signatureCell dt rx).Frames := by
  refine .main (fun _ => execSignatureCell.eq_def ..) rfl fun k x hk => ?_
  simp [Instr.parts] at hk
  dsimp only
  split
  · split
    · refine (foldl_but _ k (fun s a => ?_) _ _).trans (by simp [hk])
      split <;> simp [hk]
    · simp [hk]
  · simp [hk]

theorem sourceLostTimeout_frames {dt : Nat} {k : Fin 1152} : (Instr.sourceLostTimeout dt k).Frames :=
  .main (fun _ => execSourceLostTimeout.eq_def ..) rfl (by simp +contextual [Instr.parts])

theorem warpCellCheckFail_frames {dt : Nat} {d : Fin 1152} {field : Bool} {line offset : BitVec 12} :
    (Instr.warpCellCheckFail dt d field line offset).Frames :=
  .main (fun _ => execWarpCellCheckFail.eq_def ..) rfl (by simp +contextual [Instr.parts])

theorem familyCellTx_frames {dt : Nat} {b : Fin 33} {fam : Fin 5} : (Instr.familyCellTx dt b fam).Frames :=
  .main (fun _ => execFamilyCellTx.eq_def ..) rfl (by simp +contextual [Instr.parts])

theorem launchCellTx_frames {dt : Nat} {d : Fin 1152} : (Instr.launchCellTx dt d).Frames := by
  refine .main (fun _ => execLaunchCellTx.eq_def ..) rfl fun k x hk => ?_
  simp [Instr.parts] at hk
  split <;> simp [hk]

theorem echoCellTx_frames {dt : Nat} : (Instr.echoCellTx dt).Frames := by
  refine .main (fun _ => execEchoCellTx.eq_def ..) rfl fun k x hk => ?_
  simp [Instr.parts] at hk
  split <;> simp [hk]

theorem signatureCellTx_frames {dt : Nat} {dsts : List (Fin 1152)} : (Instr.signatureCellTx dt dsts).Frames := by
  refine .main (fun _ => execSignatureCellTx.eq_def ..) rfl fun k x hk => ?_
  simp [Instr.parts] at hk
  dsimp only
  split
  · rfl
  · split
    · refine (State.sendCell_but _ _ _ _ _ _ k (by simp [hk])).trans ?_
      refine (foldl_but _ k (fun s q => ?_) _ _).trans (by simp [hk])
      split <;> simp [hk]
    · refine (foldl_but _ k (fun s q => ?_) _ _).trans (by simp [hk])
      split <;> simp [hk]

/-! Ethernet ports: frames, pause, media packets and flows. -/

theorem ethFrameBad_frames {dt : Nat} {p : Fin 18} {cause : DropCause} : (Instr.ethFrameBad dt p cause).Frames := by
  refine .main (fun _ => execEthFrameBad.eq_def ..) rfl fun k x hk => ?_
  simp [Instr.parts] at hk
  split
  · simp
  · split <;> simp [hk]

theorem unmatchedFrame_frames {dt : Nat} {p : Fin 18} {len : Nat} {query : Option (BitVec 32)} :
    (Instr.unmatchedFrame dt p len query).Frames := by
  refine .main (fun _ => execUnmatchedFrame.eq_def ..) rfl fun k x hk => ?_
  simp [Instr.parts] at hk
  split <;> simp [hk]

theorem pauseFrame_frames {dt : Nat} {p : Fin 18} {pfc : Bool} {classes : BitVec 8} {quanta : Vector (BitVec 16) 8} :
    (Instr.pauseFrame dt p pfc classes quanta).Frames :=
  .main (fun _ => execPauseFrame.eq_def ..) rfl (by simp +contextual [Instr.parts])

theorem pauseExpire_frames {dt : Nat} {p : Fin 18} {q : Fin 4} : (Instr.pauseExpire dt p q).Frames :=
  .main (fun _ => execPauseExpire.eq_def ..) rfl (by simp +contextual [Instr.parts])

theorem pauseWatchdog_frames {dt : Nat} {p : Fin 18} {q : Fin 4} : (Instr.pauseWatchdog dt p q).Frames :=
  .main (fun _ => execPauseWatchdog.eq_def ..) rfl (by simp +contextual [Instr.parts])

theorem pauseIgnoreEnd_frames {dt : Nat} {p : Fin 18} {q : Fin 4} : (Instr.pauseIgnoreEnd dt p q).Frames :=
  .main (fun _ => execPauseIgnoreEnd.eq_def ..) rfl (by simp +contextual [Instr.parts])

theorem arpRequest_frames {dt : Nat} {p : Fin 18} {target : BitVec 32} {len : Nat} :
    (Instr.arpRequest dt p target len).Frames :=
  .main (fun _ => execArpRequest.eq_def ..) rfl (by simp +contextual [Instr.parts])

theorem icmpEchoRequest_frames {dt : Nat} {p : Fin 18} {data : List Byte} {len : Nat} :
    (Instr.icmpEchoRequest dt p data len).Frames :=
  .main (fun _ => execIcmpEchoRequest.eq_def ..) rfl (by simp +contextual [Instr.parts])

theorem st211020Packet_frames {dt : Nat} {p : Fin 18} {h : FrameHdr} {seq ts : BitVec 32}
    {marker field narrow ok room : Bool} {rows : List RtpRow} :
    (Instr.st211020Packet dt p h seq ts marker field narrow ok room rows).Frames := by
  refine .main (fun _ => execSt211020Packet.eq_def ..) rfl fun k x hk => ?_
  simp [Instr.parts] at hk
  refine State.media_but _ _ _ _ _ _ _ k (by simp [hk]) fun s n => ?_
  split
  · simp [hk]
  · dsimp only
    split
    · simp [hk]
    · split
      · split <;> (split <;> simp [hk])
      · split <;> simp [hk]

theorem st211022Packet_frames {dt : Nat} {p : Fin 18} {h : FrameHdr} {seq : BitVec 16} {ts : BitVec 32} {marker ok : Bool}
    {payload : List Byte} : (Instr.st211022Packet dt p h seq ts marker ok payload).Frames := by
  refine .main (fun _ => execSt211022Packet.eq_def ..) rfl fun k x hk => ?_
  simp [Instr.parts] at hk
  refine State.media_but _ _ _ _ _ _ _ k (by simp [hk]) fun s f => ?_
  extract_lets e s1 r1 s2 u slots dsts
  have hu : u.2.but k = s.but k := by simp [u, s2, s1, e, hk]
  split
  · simp [e, hk]
  · split
    · exact hu
    · refine (State.each_but _ _ _ k fun s d => ?_).trans hu
      extract_lets old waits t r t'
      have ht : t.but k = s.but k := by simp [t, hk]
      split
      · have ht' : t'.but k = t.but k := by
          simp only [t']
          split
          · split <;> simp [hk]
          · split
            · rfl
            · split <;> simp [hk]
        split <;> simp [ht', ht, hk]
      · exact ht

theorem st211030Packet_frames {dt : Nat} {p : Fin 18} {h : FrameHdr} {seq : BitVec 16} {ts : BitVec 32} {ok l16 : Bool}
    {samples : List (List (BitVec 24))} : (Instr.st211030Packet dt p h seq ts ok l16 samples).Frames := by
  refine .main (fun _ => execSt211030Packet.eq_def ..) rfl fun k x hk => ?_
  simp [Instr.parts] at hk
  split <;> simp [hk]

theorem st211031Packet_frames {dt : Nat} {p : Fin 18} {h : FrameHdr} {seq : BitVec 16} {ts : BitVec 32} {ok : Bool}
    {subframes : List (List Aes3)} : (Instr.st211031Packet dt p h seq ts ok subframes).Frames :=
  .main (fun _ => execSt211031Packet.eq_def ..) rfl (by simp +contextual [Instr.parts])

theorem st211040Packet_frames {dt : Nat} {p : Fin 18} {h : FrameHdr} {seq : BitVec 16} {newFrame ok : Bool}
    {payload : List Byte} : (Instr.st211040Packet dt p h seq newFrame ok payload).Frames := by
  refine .main (fun _ => execSt211040Packet.eq_def ..) rfl fun k x hk => ?_
  simp [Instr.parts] at hk
  refine State.media_but _ _ _ _ _ _ _ k (by simp [hk]) fun s n => ?_
  dsimp only
  split
  · simp [hk]
  · split
    · simp [hk]
    · split
      · refine (State.each_but _ _ _ k fun s g => ?_).trans (by simp [hk])
        exact foldl_but _ k (fun s x => by simp [hk]) _ _
      · simp [hk]

theorem flowLostTimeout_frames {dt : Nat} {f : Fin 4096} : (Instr.flowLostTimeout dt f).Frames := by
  refine .main (fun _ => execFlowLostTimeout.eq_def ..) rfl fun k x hk => ?_
  simp [Instr.parts] at hk
  split <;> simp [hk]

theorem audioFlowLostTimeout_frames {dt : Nat} {f : Fin 4096} : (Instr.audioFlowLostTimeout dt f).Frames :=
  .main (fun _ => execAudioFlowLostTimeout.eq_def ..) rfl (by simp +contextual [Instr.parts])

theorem ethLossOfSignal_frames {dt : Nat} {p : Fin 18} : (Instr.ethLossOfSignal dt p).Frames :=
  .main (fun _ => execEthLossOfSignal.eq_def ..) rfl (by simp +contextual [Instr.parts])

theorem ethLinkGlitch_frames {dt : Nat} {p : Fin 18} {frames : Nat} : (Instr.ethLinkGlitch dt p frames).Frames :=
  .main (fun _ => execEthLinkGlitch.eq_def ..) rfl (by simp +contextual [Instr.parts])

theorem ethRateChange_frames {dt : Nat} {p : Fin 18} : (Instr.ethRateChange dt p).Frames :=
  .main (fun _ => execEthRateChange.eq_def ..) rfl (by simp +contextual [Instr.parts])

theorem ethLinkUp_frames {dt : Nat} {p : Fin 18} : (Instr.ethLinkUp dt p).Frames :=
  .main (fun _ => execEthLinkUp.eq_def ..) rfl (by simp +contextual [Instr.parts])

/-! Seams and destinations. -/

theorem seamGuardOpen_frames {dt : Nat} {d : Fin 1152} : (Instr.seamGuardOpen dt d).Frames := by
  refine .main (fun _ => execSeamGuardOpen.eq_def ..) rfl fun k x hk => ?_
  simp [Instr.parts] at hk
  split <;> simp [hk]

theorem seamSwitchingInstant_frames {dt : Nat} {d : Fin 1152} {second : Bool} :
    (Instr.seamSwitchingInstant dt d second).Frames := by
  refine .main (fun _ => execSeamSwitchingInstant.eq_def ..) rfl fun k x hk => ?_
  simp [Instr.parts] at hk
  dsimp only
  split
  · simp
  · split <;> simp [hk]

theorem seamSnapshotTimeout_frames {dt : Nat} {buf : Fin 4} {d : Fin 1152} :
    (Instr.seamSnapshotTimeout dt buf d).Frames := by
  refine .main (fun _ => execSeamSnapshotTimeout.eq_def ..) rfl fun k x hk => ?_
  simp [Instr.parts] at hk
  split <;> simp [hk]

theorem dstFrameLaunch_frames {dt : Nat} {d : Fin 1152} : (Instr.dstFrameLaunch dt d).Frames := by
  refine .main (fun _ => execDstFrameLaunch.eq_def ..) rfl fun k x hk => ?_
  simp [Instr.parts] at hk
  split
  · simp
  · split <;> simp [hk]

theorem dstLineBoundary_frames {dt : Nat} {d : Fin 1152} {field : Bool} {line : Nat} :
    (Instr.dstLineBoundary dt d field line).Frames := by
  refine .main (fun _ => execDstLineBoundary.eq_def ..) rfl fun k x hk => ?_
  simp [Instr.parts] at hk
  split
  · split
    · simp
    · split <;> simp [hk]
  · simp

theorem freezeExpire_frames {dt : Nat} {d : Fin 1152} : (Instr.freezeExpire dt d).Frames := by
  refine .main (fun _ => execFreezeExpire.eq_def ..) rfl fun k x hk => ?_
  simp [Instr.parts] at hk
  dsimp only
  split
  · split <;> simp [hk]
  · simp

theorem plyProxyComplete_frames {dt : Nat} {k : Fin 1168} : (Instr.plyProxyComplete dt k).Frames := by
  refine .main (fun _ => execPlyProxyComplete.eq_def ..) rfl fun k x hk => ?_
  simp [Instr.parts] at hk
  dsimp only
  split
  · simp
  · split
    · simp
    · split <;> simp [hk]

/-! Cask: memory errors, surfaces and bulk transfers. -/

theorem caskCorrectedError_frames {dt : Nat} {page : Fin 1572864} : (Instr.caskCorrectedError dt page).Frames := by
  refine .main (fun _ => execCaskCorrectedError.eq_def ..) rfl fun k x hk => ?_
  simp [Instr.parts] at hk
  dsimp only
  split <;> simp [hk]

theorem caskUncorrectableError_frames {dt : Nat} {page : Fin 1572864} {at_ : UeAt} :
    (Instr.caskUncorrectableError dt page at_).Frames :=
  .main (fun _ => execCaskUncorrectableError.eq_def ..) rfl (by simp +contextual [Instr.parts])

theorem pageRetireDone_frames {dt : Nat} {page : Fin 1572864} : (Instr.pageRetireDone dt page).Frames := by
  refine .main (fun _ => execPageRetireDone.eq_def ..) rfl fun k x hk => ?_
  simp [Instr.parts] at hk
  split <;> simp [hk]

theorem surfAlloc_frames {dt : Nat} {h : HcpReq} {size : BitVec 32} {apron : Bool} :
    (Instr.surfAlloc dt h size apron).Frames := by
  refine .request (fun _ => execSurfAlloc.eq_def ..) (.refl _) fun k x n hk => ?_
  simp [Instr.parts] at hk
  split <;> simp [hk]

theorem surfFree_frames {dt : Nat} {h : HcpReq} {surf : BitVec 16} : (Instr.surfFree dt h surf).Frames := by
  refine .request (fun _ => execSurfFree.eq_def ..) (.refl _) fun k x n hk => ?_
  simp [Instr.parts] at hk
  split
  · simp
  · split <;> simp [hk]

theorem bulkWrite_frames {dt : Nat} {h : HcpReq} {kind : BitVec 8} {addr : BitVec 64} {off : BitVec 32} {data : List Byte} :
    (Instr.bulkWrite dt h kind addr off data).Frames := by
  refine .request (fun _ => execBulkWrite.eq_def ..) (.refl _) fun k x n hk => ?_
  simp [Instr.parts] at hk
  split <;> simp [hk]

theorem bulkRead_frames {dt : Nat} {h : HcpReq} {kind : BitVec 8} {addr : BitVec 64} {off : BitVec 32} {len : BitVec 16} :
    (Instr.bulkRead dt h kind addr off len).Frames := by
  refine .request (fun _ => execBulkRead.eq_def ..) (.refl _) fun k x n hk => ?_
  simp [Instr.parts] at hk
  dsimp only
  split
  · simp
  · split
    · split
      · simp
      · split <;> simp
    · split <;> simp

/-! Head frames and aprons. -/

theorem headGuardOpen_frames {dt : Nat} {h : Fin 16} : (Instr.headGuardOpen dt h).Frames := by
  refine .main (fun _ => execHeadGuardOpen.eq_def ..) rfl fun k x hk => ?_
  simp [Instr.parts] at hk
  split <;> simp [hk]

theorem headFrameStart_frames {dt : Nat} {h : Fin 16} : (Instr.headFrameStart dt h).Frames := by
  refine .main (fun _ => execHeadFrameStart.eq_def ..) rfl fun k x hk => ?_
  simp [Instr.parts] at hk
  split
  · simp
  · split <;> simp [hk]

theorem transitionFrameEnd_frames {dt : Nat} {h : Fin 16} : (Instr.transitionFrameEnd dt h).Frames := by
  refine .main (fun _ => execTransitionFrameEnd.eq_def ..) rfl fun k x hk => ?_
  simp [Instr.parts] at hk
  split <;> simp [hk]

theorem headUnderrun_frames {dt : Nat} {h : Fin 16} {e x : Nat} : (Instr.headUnderrun dt h e x).Frames := by
  refine .main (fun _ => execHeadUnderrun.eq_def ..) rfl fun k x hk => ?_
  simp [Instr.parts] at hk
  split <;> simp [hk]

theorem apronUnderrun_frames {dt : Nat} {h : Fin 16} {e x : Nat} : (Instr.apronUnderrun dt h e x).Frames := by
  refine .main (fun _ => execApronUnderrun.eq_def ..) rfl fun k x hk => ?_
  simp [Instr.parts] at hk
  split <;> simp [hk]

theorem headFrameEnd_frames {dt : Nat} {h : Fin 16} : (Instr.headFrameEnd dt h).Frames := by
  refine .main (fun _ => execHeadFrameEnd.eq_def ..) rfl fun k x hk => ?_
  simp [Instr.parts] at hk
  split <;> simp [hk]

theorem apronFieldApply_frames {dt : Nat} {h : Fin 16} : (Instr.apronFieldApply dt h).Frames := by
  refine .main (fun _ => execApronFieldApply.eq_def ..) rfl fun k x hk => ?_
  simp [Instr.parts] at hk
  dsimp only
  split <;> simp [hk]

theorem apronNAsserted_frames {dt : Nat} {g : Fin 4} : (Instr.apronNAsserted dt g).Frames := by
  refine .main (fun _ => execApronNAsserted.eq_def ..) rfl fun k x hk => ?_
  simp [Instr.parts] at hk
  refine (State.each_but _ _ _ k fun s n => ?_).trans (by simp [hk])
  split <;> simp [hk]

theorem apronForceBegin_frames {dt : Nat} {g : Fin 4} : (Instr.apronForceBegin dt g).Frames := by
  refine .main (fun _ => execApronForceBegin.eq_def ..) rfl fun k x hk => ?_
  simp [Instr.parts] at hk
  split
  · refine State.each_but _ _ _ k fun s n => ?_
    dsimp only
    split
    · split <;> simp [hk]
    · rfl
  · rfl

theorem apronNDeasserted_frames {dt : Nat} {g : Fin 4} : (Instr.apronNDeasserted dt g).Frames :=
  .main (fun _ => execApronNDeasserted.eq_def ..) rfl (by simp +contextual [Instr.parts])

/-! Mash and the audio ports. -/

theorem mashSampleInstant_frames {dt : Nat} : (Instr.mashSampleInstant dt).Frames :=
  .main (fun _ => execMashSampleInstant.eq_def ..) rfl (by simp +contextual [Instr.parts])

theorem zcTimeout_frames {dt : Nat} {bus : Bool} {i : Fin 32768} : (Instr.zcTimeout dt bus i).Frames := by
  refine .main (fun _ => execZcTimeout.eq_def ..) rfl fun k x hk => ?_
  simp [Instr.parts] at hk
  dsimp only
  split <;> simp [hk]

theorem faderRampEnd_frames {dt : Nat} {b : Fin 256} : (Instr.faderRampEnd dt b).Frames :=
  .main (fun _ => execFaderRampEnd.eq_def ..) rfl (by simp +contextual [Instr.parts])

theorem unlockHoldExpire_frames {dt : Nat} {k : Fin 1152} : (Instr.unlockHoldExpire dt k).Frames :=
  .main (fun _ => execUnlockHoldExpire.eq_def ..) rfl (by simp +contextual [Instr.parts])

theorem prerollDone_frames {dt : Nat} {p : Fin 24} : (Instr.prerollDone dt p).Frames :=
  .main (fun _ => execPrerollDone.eq_def ..) rfl (by simp +contextual [Instr.parts])

theorem stopDone_frames {dt : Nat} {p : Fin 24} : (Instr.stopDone dt p).Frames :=
  .main (fun _ => execStopDone.eq_def ..) rfl (by simp +contextual [Instr.parts])

theorem frameSync_frames {dt : Nat} {p : Fin 24} {rx : List (BitVec 32)} {ppm : BitVec 20} :
    (Instr.frameSync dt p rx ppm).Frames :=
  .main (fun _ => execFrameSync.eq_def ..) rfl (by simp +contextual [Instr.parts])

theorem portClockStop_frames {dt : Nat} {p : Fin 24} : (Instr.portClockStop dt p).Frames :=
  .main (fun _ => execPortClockStop.eq_def ..) rfl (by simp +contextual [Instr.parts])

theorem portClockGlitch_frames {dt : Nat} {p : Fin 24} : (Instr.portClockGlitch dt p).Frames :=
  .main (fun _ => execPortClockGlitch.eq_def ..) rfl (by simp +contextual [Instr.parts])

theorem portRateChange_frames {dt : Nat} {p : Fin 24} : (Instr.portRateChange dt p).Frames :=
  .main (fun _ => execPortRateChange.eq_def ..) rfl (by simp +contextual [Instr.parts])

theorem portClockQualified_frames {dt : Nat} {p : Fin 24} : (Instr.portClockQualified dt p).Frames :=
  .main (fun _ => execPortClockQualified.eq_def ..) rfl (by simp +contextual [Instr.parts])

/-! The kiln: references, time, pins and the oscillator. -/

theorem frameEpoch_frames {dt : Nat} {fam : Fin 5} : (Instr.frameEpoch dt fam).Frames :=
  .keep (fun _ => execFrameEpoch.eq_def dt fam _) fun _ _ _ => rfl

theorem kilnSecond_frames {dt : Nat} : (Instr.kilnSecond dt).Frames :=
  .keep (fun _ => execKilnSecond.eq_def ..) (by simp +contextual [Instr.parts])

theorem evtInEdge_frames {dt : Nat} {n : Fin 8} {falling short : Bool} : (Instr.evtInEdge dt n falling short).Frames :=
  .keep (fun _ => execEvtInEdge.eq_def ..) (by simp +contextual [Instr.parts])

theorem ppsInPulse_frames {dt : Nat} {n : Fin 4} {falling short : Bool} : (Instr.ppsInPulse dt n falling short).Frames :=
  .keep (fun _ => execPpsInPulse.eq_def ..) (by simp +contextual [Instr.parts])

theorem vrefInPulse_frames {dt : Nat} {n : Fin 2} {falling short : Bool} : (Instr.vrefInPulse dt n falling short).Frames :=
  .keep (fun _ => execVrefInPulse.eq_def ..) (by simp +contextual [Instr.parts])

theorem pulseTimeout_frames {dt : Nat} {k : Fin 44} : (Instr.pulseTimeout dt k).Frames := by
  refine .keep (fun _ => execPulseTimeout.eq_def ..) fun k x hk => ?_
  simp [Instr.parts] at hk
  dsimp only
  split <;> simp [hk]

theorem freqInGlitch_frames {dt : Nat} {n : Fin 4} : (Instr.freqInGlitch dt n).Frames :=
  .keep (fun _ => execFreqInGlitch.eq_def ..) (by simp +contextual [Instr.parts])

theorem freqInStop_frames {dt : Nat} {n : Fin 4} : (Instr.freqInStop dt n).Frames :=
  .keep (fun _ => execFreqInStop.eq_def ..) (by simp +contextual [Instr.parts])

theorem freqInRateChange_frames {dt : Nat} {n : Fin 4} : (Instr.freqInRateChange dt n).Frames :=
  .keep (fun _ => execFreqInRateChange.eq_def ..) (by simp +contextual [Instr.parts])

theorem refQualified_frames {dt : Nat} {k : Fin 44} : (Instr.refQualified dt k).Frames := by
  refine .keep (fun _ => execRefQualified.eq_def ..) fun k x hk => ?_
  simp [Instr.parts] at hk
  dsimp only
  split <;> simp [hk]

theorem kilnStep_frames {dt : Nat} : (Instr.kilnStep dt).Frames := by
  refine .keep (fun _ => execKilnStep.eq_def ..) fun k x hk => ?_
  simp [Instr.parts] at hk
  dsimp only
  split
  · split
    · simp
    · split <;> simp [hk]
  · simp

theorem kilnTimeSet_frames {dt : Nat} : (Instr.kilnTimeSet dt).Frames := by
  refine .keep (fun _ => execKilnTimeSet.eq_def ..) fun k x hk => ?_
  simp [Instr.parts] at hk
  split <;> simp [hk]

theorem slewDone_frames {dt : Nat} : (Instr.slewDone dt).Frames :=
  .keep (fun _ => execSlewDone.eq_def ..) (by simp +contextual [Instr.parts])

theorem dacUpdate_frames {dt : Nat} : (Instr.dacUpdate dt).Frames :=
  .keep (fun _ => execDacUpdate.eq_def ..) (by simp +contextual [Instr.parts])

theorem tempRead_frames {dt : Nat} {temp : BitVec 16} : (Instr.tempRead dt temp).Frames :=
  .keep (fun _ => execTempRead.eq_def ..) (by simp +contextual [Instr.parts])

theorem tempSensorTimeout_frames {dt : Nat} : (Instr.tempSensorTimeout dt).Frames :=
  .keep (fun _ => execTempSensorTimeout.eq_def ..) (by simp +contextual [Instr.parts])

theorem modelSave_frames {dt : Nat} : (Instr.modelSave dt).Frames :=
  .keep (fun _ => execModelSave.eq_def ..) (by simp +contextual [Instr.parts])

theorem modelValid_frames {dt : Nat} : (Instr.modelValid dt).Frames :=
  .keep (fun _ => execModelValid.eq_def ..) (by simp +contextual [Instr.parts])

theorem oscGlitch_frames {dt : Nat} : (Instr.oscGlitch dt).Frames :=
  .keep (fun _ => execOscGlitch.eq_def ..) (by simp +contextual [Instr.parts])

theorem oscStop_frames {dt : Nat} : (Instr.oscStop dt).Frames :=
  .keep (fun _ => execOscStop.eq_def ..) (by simp +contextual [Instr.parts])

theorem oscRateChange_frames {dt : Nat} : (Instr.oscRateChange dt).Frames :=
  .keep (fun _ => execOscRateChange.eq_def ..) (by simp +contextual [Instr.parts])

theorem oscDrift_frames {dt : Nat} : (Instr.oscDrift dt).Frames :=
  .keep (fun _ => execOscDrift.eq_def ..) (by simp +contextual [Instr.parts])

theorem oscRestore_frames {dt : Nat} : (Instr.oscRestore dt).Frames :=
  .keep (fun _ => execOscRestore.eq_def ..) (by simp +contextual [Instr.parts])

theorem xoInStop_frames {dt : Nat} : (Instr.xoInStop dt).Frames :=
  .keep (fun _ => execXoInStop.eq_def ..) (by simp +contextual [Instr.parts])

theorem timeOutPulse_frames {dt : Nat} {n : Fin 16} : (Instr.timeOutPulse dt n).Frames := by
  refine .keep (fun _ => execTimeOutPulse.eq_def ..) fun k x hk => ?_
  simp [Instr.parts] at hk
  split <;> simp [hk]

theorem timeOutPulseEnd_frames {dt : Nat} {n : Fin 16} : (Instr.timeOutPulseEnd dt n).Frames := by
  refine .keep (fun _ => execTimeOutPulseEnd.eq_def ..) fun k x hk => ?_
  simp [Instr.parts] at hk
  dsimp only
  split <;> simp [hk]

theorem clkOutAlign_frames {dt : Nat} {n : Fin 4} : (Instr.clkOutAlign dt n).Frames :=
  .keep (fun _ => execClkOutAlign.eq_def ..) (by simp +contextual [Instr.parts])

theorem startWaitExpire_frames {dt : Nat} : (Instr.startWaitExpire dt).Frames := by
  refine .keep (fun _ => execStartWaitExpire.eq_def ..) fun k x hk => ?_
  simp [Instr.parts] at hk
  split <;> simp [hk]

/-! The GNSS receiver. -/

theorem gnssClockStop_frames {dt : Nat} {i : Fin 2} : (Instr.gnssClockStop dt i).Frames :=
  .keep (fun _ => execGnssClockStop.eq_def ..) (by simp +contextual [Instr.parts])

theorem gnssClockGlitch_frames {dt : Nat} {i : Fin 2} : (Instr.gnssClockGlitch dt i).Frames :=
  .keep (fun _ => execGnssClockGlitch.eq_def ..) (by simp +contextual [Instr.parts])

theorem gnssClockRateChange_frames {dt : Nat} {i : Fin 2} : (Instr.gnssClockRateChange dt i).Frames :=
  .keep (fun _ => execGnssClockRateChange.eq_def ..) (by simp +contextual [Instr.parts])

theorem gnssClockRequalified_frames {dt : Nat} {i : Fin 2} : (Instr.gnssClockRequalified dt i).Frames :=
  .keep (fun _ => execGnssClockRequalified.eq_def ..) (by simp +contextual [Instr.parts])

theorem gnssSearchPass_frames {dt : Nat} {sig : Fin 3} {sweep : Bool} {found : List (Fin 96 × Fin 64)} :
    (Instr.gnssSearchPass dt sig sweep found).Frames :=
  .keep (fun _ => execGnssSearchPass.eq_def ..) (by simp +contextual [Instr.parts])

theorem hotSearchTimeout_frames {dt : Nat} {c : Fin 96} : (Instr.hotSearchTimeout dt c).Frames :=
  .keep (fun _ => execHotSearchTimeout.eq_def ..) (by simp +contextual [Instr.parts])

theorem channelLockLoss_frames {dt : Nat} {c : Fin 96} {code : Bool} : (Instr.channelLockLoss dt c code).Frames :=
  .keep (fun _ => execChannelLockLoss.eq_def ..) (by simp +contextual [Instr.parts])

theorem navDataDecoded_frames {dt : Nat} {c : Fin 96} {almanac : Bool} {utc week : Option (BitVec 10)} :
    (Instr.navDataDecoded dt c almanac utc week).Frames := by
  refine .keep (fun _ => execNavDataDecoded.eq_def ..) fun k x hk => ?_
  simp [Instr.parts] at hk
  split
  · split
    · split
      · split <;> simp [hk]
      · split <;> simp [hk]
    · split
      · split <;> simp [hk]
      · split <;> simp [hk]
  · split
    · split
      · split <;> simp [hk]
      · split <;> simp [hk]
    · split
      · split <;> simp [hk]
      · split <;> simp [hk]

theorem measurementEpoch_frames {dt : Nat} {channels : List GMeas} : (Instr.measurementEpoch dt channels).Frames :=
  .keep (fun _ => execMeasurementEpoch.eq_def ..) (by simp +contextual [Instr.parts])

theorem gnssSolution_frames {dt : Nat} {m : GSol} : (Instr.gnssSolution dt m).Frames :=
  .keep (fun _ => execGnssSolution.eq_def ..) (by simp +contextual [Instr.parts])

theorem posWrite_frames {dt : Nat} {m : Master} {k : Fin 4} {hi : Bool} {v mask : BitVec 32} :
    (Instr.posWrite dt m k hi v mask).Frames :=
  match k with
  | 0 | 1 | 2 | 3 => .write (fun _ => rfl) rfl rfl

theorem baselineLearnt_frames {dt : Nat} {b : Baseline} : (Instr.baselineLearnt dt b).Frames := by
  refine .keep (fun _ => execBaselineLearnt.eq_def ..) fun k x hk => ?_
  simp [Instr.parts] at hk
  split
  · simp
  · split <;> simp [hk]

theorem selftestDone_frames {dt : Nat} {u : Fin 112} {ok last : Bool} : (Instr.selftestDone dt u ok last).Frames := by
  refine .keep (fun _ => execSelftestDone.eq_def ..) fun k x hk => ?_
  simp [Instr.parts] at hk
  split
  · simp
  · split
    · split <;> simp [hk]
    · simp [hk]

theorem gnssBurst_frames {dt : Nat} {channels : List GMeas} {m : GSol} : (Instr.gnssBurst dt channels m).Frames :=
  .keep (fun _ => execGnssBurst.eq_def ..) (by simp +contextual [Instr.parts])

theorem gnssNavRefresh_frames {dt : Nat} : (Instr.gnssNavRefresh dt).Frames :=
  .keep (fun _ => execGnssNavRefresh.eq_def ..) (by simp +contextual [Instr.parts])

/-! Time services. -/

theorem syncTx_frames {dt : Nat} {p : Fin 18} : (Instr.syncTx dt p).Frames :=
  .main (fun _ => execSyncTx.eq_def ..) rfl (by simp +contextual [Instr.parts])

theorem followUpTx_frames {dt : Nat} {p : Fin 18} {sess : Option (Fin 1048576)} : (Instr.followUpTx dt p sess).Frames := by
  refine .main (fun _ => execFollowUpTx.eq_def ..) rfl fun k x hk => ?_
  simp [Instr.parts] at hk
  dsimp only
  split
  · split <;> simp [hk]
  · simp

theorem announceTx_frames {dt : Nat} {p : Fin 18} : (Instr.announceTx dt p).Frames :=
  .main (fun _ => execAnnounceTx.eq_def ..) rfl (by simp +contextual [Instr.parts])

theorem syncMetadataTx_frames {dt : Nat} {p : Fin 18} : (Instr.syncMetadataTx dt p).Frames :=
  .main (fun _ => execSyncMetadataTx.eq_def ..) rfl (by simp +contextual [Instr.parts])

theorem grantDue_frames {dt : Nat} {i : Fin 1048576} {sync : Bool} : (Instr.grantDue dt i sync).Frames :=
  .main (fun _ => execGrantDue.eq_def ..) rfl (by simp +contextual [Instr.parts])

theorem grantExpire_frames {dt : Nat} {i : Fin 1048576} {kind : BitVec 4} : (Instr.grantExpire dt i kind).Frames :=
  .main (fun _ => execGrantExpire.eq_def ..) rfl (by simp +contextual [Instr.parts])

theorem delayReq_frames {dt : Nat} {p : Fin 18} {h : PtpHdr} : (Instr.delayReq dt p h).Frames := by
  refine .main (fun _ => execDelayReq.eq_def ..) rfl fun k x hk => ?_
  simp [Instr.parts] at hk
  refine State.ptpRequest_but _ _ _ _ k (by simp [hk]) fun s => ?_
  split
  · refine State.groupMsg_but _ _ _ _ _ k (by simp [hk]) fun s => ?_
    exact State.withinRate_but _ _ _ k (by simp [hk]) fun s => by simp [hk]
  · refine State.sessionMsg_but _ _ _ _ k (by simp [hk]) fun s n => ?_
    dsimp only
    split <;> simp [hk]

theorem sync_frames {dt : Nat} {p : Fin 18} {h : PtpHdr} {two : Bool} {seconds : BitVec 48} {nanos : BitVec 32} :
    (Instr.sync dt p h two seconds nanos).Frames :=
  .main (fun _ => execSync.eq_def ..) rfl (by simp +contextual [Instr.parts])

theorem followUp_frames {dt : Nat} {p : Fin 18} {h : PtpHdr} {seconds : BitVec 48} {nanos : BitVec 32}
    {tebs : List TebTlv} : (Instr.followUp dt p h seconds nanos tebs).Frames := by
  refine .main (fun _ => execFollowUp.eq_def ..) rfl fun k x hk => ?_
  simp [Instr.parts] at hk
  split
  · exact State.ptpClient_but _ _ _ _ k (by simp [hk]) fun s => by simp [hk]
  · refine State.clientMsg_but _ _ _ _ k (by simp [hk]) fun s => ?_
    dsimp only
    split
    · split <;> simp [hk]
    · rfl

theorem delayResp_frames {dt : Nat} {p : Fin 18} {h : PtpHdr} {log : BitVec 8} {requester : BitVec 80}
    {seconds : BitVec 48} {nanos : BitVec 32} : (Instr.delayResp dt p h log requester seconds nanos).Frames := by
  refine .main (fun _ => execDelayResp.eq_def ..) rfl fun k x hk => ?_
  simp [Instr.parts] at hk
  refine State.clientMsg_but _ _ _ _ k (by simp [hk]) fun s => ?_
  dsimp only
  split
  · split
    · split <;> split <;> simp [hk]
    · simp [hk]
  · simp [hk]

theorem announce_frames {dt : Nat} {p : Fin 18} {h : PtpHdr} {log : BitVec 8} {data : AnnData} :
    (Instr.announce dt p h log data).Frames :=
  .main (fun _ => execAnnounce.eq_def ..) rfl (by simp +contextual [Instr.parts])

theorem clientDelayReqTx_frames {dt : Nat} {p : Fin 18} : (Instr.clientDelayReqTx dt p).Frames :=
  .main (fun _ => execClientDelayReqTx.eq_def ..) rfl (by simp +contextual [Instr.parts])

theorem announceReceiptTimeout_frames {dt : Nat} {p : Fin 18} : (Instr.announceReceiptTimeout dt p).Frames := by
  refine .main (fun _ => execAnnounceReceiptTimeout.eq_def ..) rfl fun k x hk => ?_
  simp [Instr.parts] at hk
  dsimp only
  split <;> simp [hk]

theorem exchangeTimeout_frames {dt : Nat} {p : Fin 18} : (Instr.exchangeTimeout dt p).Frames :=
  .main (fun _ => execExchangeTimeout.eq_def ..) rfl (by simp +contextual [Instr.parts])

theorem requestUnicastTransmission_frames {dt : Nat} {p : Fin 18} {h : PtpHdr} {reqs : List UniReq} :
    (Instr.requestUnicastTransmission dt p h reqs).Frames := by
  refine .main (fun _ => execRequestUnicastTransmission.eq_def ..) rfl fun k x hk => ?_
  simp [Instr.parts] at hk
  refine State.ptpRequest_but _ _ _ _ k (by simp [hk]) fun s => ?_
  split
  · rfl
  · refine (State.sessionMsg_but _ _ _ _ k (by simp [hk]) fun s n => ?_).trans (by simp [hk])
    simp [hk]

theorem cancelUnicastTransmission_frames {dt : Nat} {p : Fin 18} {h : PtpHdr} {kinds : List (BitVec 4)} :
    (Instr.cancelUnicastTransmission dt p h kinds).Frames := by
  refine .main (fun _ => execCancelUnicastTransmission.eq_def ..) rfl fun k x hk => ?_
  simp [Instr.parts] at hk
  refine State.ptpRequest_but _ _ _ _ k (by simp [hk]) fun s => ?_
  split
  · rfl
  · refine (State.sessionMsg_but _ _ _ _ k (by simp [hk]) fun s n => ?_).trans (by simp [hk])
    simp [hk]

theorem managementMessage_frames {dt : Nat} {p : Fin 18} {len : Nat} : (Instr.managementMessage dt p len).Frames :=
  .main (fun _ => execManagementMessage.eq_def ..) rfl (by simp +contextual [Instr.parts])

theorem pdelayMessage_frames {dt : Nat} {p : Fin 18} {len : Nat} : (Instr.pdelayMessage dt p len).Frames :=
  .main (fun _ => execPdelayMessage.eq_def ..) rfl (by simp +contextual [Instr.parts])

theorem ntpRequest_frames {dt : Nat} {p : Fin 18} {r : NtpReq} {turn : Nat} : (Instr.ntpRequest dt p r turn).Frames :=
  .main (fun _ => execNtpRequest.eq_def ..) rfl (by simp +contextual [Instr.parts])

theorem ntsRequest_frames {dt : Nat} {p : Fin 18} {r : NtpReq} {x : NtsFields} {turn : Nat} :
    (Instr.ntsRequest dt p r x turn).Frames := by
  refine .main (fun _ => execNtsRequest.eq_def ..) rfl fun k x hk => ?_
  simp [Instr.parts] at hk
  split <;> simp [hk]

theorem leapSecond_frames {dt : Nat} : (Instr.leapSecond dt).Frames :=
  .keep (fun _ => execLeapSecond.eq_def ..) (by simp +contextual [Instr.parts])

theorem injectedFrameSent_frames {dt : Nat} : (Instr.injectedFrameSent dt).Frames := by
  refine .main (fun _ => execInjectedFrameSent.eq_def ..) rfl fun k x hk => ?_
  simp [Instr.parts] at hk
  split <;> simp [hk]

/-! The lease, the handover and the twin. -/

theorem renewTx_frames {dt : Nat} : (Instr.renewTx dt).Frames :=
  .main (fun _ => execRenewTx.eq_def ..) rfl (by simp +contextual [Instr.parts])

theorem renew_frames {dt : Nat} {rx : RxCell} : (Instr.renew dt rx).Frames :=
  .main (fun _ => execRenew.eq_def ..) rfl (by simp +contextual [Instr.parts])

theorem ack_frames {dt : Nat} {rx : RxCell} : (Instr.ack dt rx).Frames := by
  refine .main (fun _ => execAck.eq_def ..) rfl fun k x hk => ?_
  simp [Instr.parts] at hk
  refine State.mantleIn_but _ _ _ _ k (by simp [hk]) fun s q => ?_
  dsimp only
  split <;> simp [hk]

theorem leaseInEdge_frames {dt : Nat} : (Instr.leaseInEdge dt).Frames := by
  refine .main (fun _ => execLeaseInEdge.eq_def ..) rfl fun k x hk => ?_
  simp [Instr.parts] at hk
  split <;> simp [hk]

theorem leaseConfirmTimeout_frames {dt : Nat} : (Instr.leaseConfirmTimeout dt).Frames :=
  .main (fun _ => execLeaseConfirmTimeout.eq_def ..) rfl (by simp +contextual [Instr.parts])

theorem claimTimeout_frames {dt : Nat} : (Instr.claimTimeout dt).Frames :=
  .main (fun _ => execClaimTimeout.eq_def ..) rfl (by simp +contextual [Instr.parts])

theorem noneWaitTimeout_frames {dt : Nat} {pref : Bool} : (Instr.noneWaitTimeout dt pref).Frames :=
  .main (fun _ => execNoneWaitTimeout.eq_def ..) rfl (by simp +contextual [Instr.parts])

theorem release_frames {dt : Nat} {rx : RxCell} : (Instr.release dt rx).Frames :=
  .main (fun _ => execRelease.eq_def ..) rfl (by simp +contextual [Instr.parts])

theorem request_frames {dt : Nat} {rx : RxCell} : (Instr.request dt rx).Frames :=
  .main (fun _ => execRequest.eq_def ..) rfl (by simp +contextual [Instr.parts])

theorem propose_frames {dt : Nat} {rx : RxCell} : (Instr.propose dt rx).Frames :=
  .main (fun _ => execPropose.eq_def ..) rfl (by simp +contextual [Instr.parts])

theorem accept_frames {dt : Nat} {rx : RxCell} : (Instr.accept dt rx).Frames := by
  refine .main (fun _ => execAccept.eq_def ..) rfl fun k x hk => ?_
  simp [Instr.parts] at hk
  refine State.mantleIn_but _ _ _ _ k (by simp [hk]) fun s q => ?_
  split
  · split <;> simp [hk]
  · rfl

theorem refuse_frames {dt : Nat} {rx : RxCell} : (Instr.refuse dt rx).Frames := by
  refine .main (fun _ => execRefuse.eq_def ..) rfl fun k x hk => ?_
  simp [Instr.parts] at hk
  refine State.mantleIn_but _ _ _ _ k (by simp [hk]) fun s q => ?_
  split
  · split <;> simp [hk]
  · rfl

theorem handoverAcceptDeadline_frames {dt : Nat} : (Instr.handoverAcceptDeadline dt).Frames := by
  refine .main (fun _ => execHandoverAcceptDeadline.eq_def ..) rfl fun k x hk => ?_
  simp [Instr.parts] at hk
  split <;> simp [hk]

theorem handoverTime_frames {dt : Nat} : (Instr.handoverTime dt).Frames := by
  refine .main (fun _ => execHandoverTime.eq_def ..) rfl fun k x hk => ?_
  simp [Instr.parts] at hk
  split <;> simp [hk]

theorem holdoffExpire_frames {dt : Nat} {pref : Bool} : (Instr.holdoffExpire dt pref).Frames :=
  .main (fun _ => execHoldoffExpire.eq_def ..) rfl (by simp +contextual [Instr.parts])

theorem healthTx_frames {dt : Nat} {pref : Bool} : (Instr.healthTx dt pref).Frames :=
  .main (fun _ => execHealthTx.eq_def ..) rfl (by simp +contextual [Instr.parts])

theorem health_frames {dt : Nat} {rx : RxCell} : (Instr.health dt rx).Frames := by
  refine .main (fun _ => execHealth.eq_def ..) rfl fun k x hk => ?_
  simp [Instr.parts] at hk
  refine State.mantleIn_but _ _ _ _ k (by simp [hk]) fun s q => ?_
  dsimp only
  split
  · split <;> simp [hk]
  · rfl

theorem twinHealthTimeout_frames {dt : Nat} : (Instr.twinHealthTimeout dt).Frames := by
  refine .main (fun _ => execTwinHealthTimeout.eq_def ..) rfl fun k x hk => ?_
  simp [Instr.parts] at hk
  split <;> simp [hk]

theorem mirror_frames {dt : Nat} {op : MirOp} {at_ : Nat} {result : Status} : (Instr.mirror dt op at_ result).Frames :=
  .main (fun _ => execMirror.eq_def ..) rfl (by simp +contextual [Instr.parts])

theorem rtpSeqMirrorTx_frames {dt : Nat} : (Instr.rtpSeqMirrorTx dt).Frames :=
  .main (fun _ => execRtpSeqMirrorTx.eq_def ..) rfl (by simp +contextual [Instr.parts])

theorem csReady_frames {dt : Nat} {n : Fin 32} {ready : Bool} {notReady : List (TKind × BitVec 16 × BitVec 7)} :
    (Instr.csReady dt n ready notReady).Frames :=
  .main (fun _ => execCsReady.eq_def ..) rfl (by simp +contextual [Instr.parts])

/-! The fault pulse and the log. -/

theorem faultPulseEnd_frames {dt : Nat} : (Instr.faultPulseEnd dt).Frames :=
  .main (fun _ => execFaultPulseEnd.eq_def ..) rfl (by simp +contextual [Instr.parts])

theorem logRetry_frames {dt : Nat} {ok : Bool} : (Instr.logRetry dt ok).Frames :=
  .main (fun _ => execLogRetry.eq_def ..) rfl (by simp +contextual [Instr.parts])

/-! Sessions, register access, snapshots and events. -/

theorem hcpOpen_frames {dt : Nat} {h : HcpReq} : (Instr.hcpOpen dt h).Frames := by
  by_cases hs : h.session = 0
  · refine .main (fun s => (execHcpOpen.eq_def dt h s).trans (if_neg (not_not_intro hs))) rfl fun k x hk => ?_
    simp [Instr.parts] at hk
    refine State.hcpIn_but _ _ _ k (by simp [hk]) fun s => ?_
    dsimp only
    split <;> simp [hk]
  · exact .request (fun s => (execHcpOpen.eq_def dt h s).trans (if_pos hs)) (.refl _) fun _ _ _ _ => rfl

theorem hcpClose_frames {dt : Nat} {h : HcpReq} : (Instr.hcpClose dt h).Frames :=
  .request (fun _ => execHcpClose.eq_def ..) (.refl _) (by simp +contextual [Instr.parts])

theorem hcpNop_frames {dt : Nat} {h : HcpReq} : (Instr.hcpNop dt h).Frames :=
  .request (fun _ => execHcpNop.eq_def ..) (.refl _) (by simp +contextual [Instr.parts])

theorem hcpRead_frames {dt : Nat} {h : HcpReq} {addr : RegAddr} {count : BitVec 16} {staged : Bool} :
    (Instr.hcpRead dt h addr count staged).Frames := by
  refine .request (fun _ => execHcpRead.eq_def ..) (.refl _) fun k x n hk => ?_
  simp [Instr.parts] at hk
  dsimp only
  split
  · simp
  · split <;> simp [hk]

theorem hcpWrite_frames {dt : Nat} {h : HcpReq} {items : List Item} : (Instr.hcpWrite dt h items).Frames := by
  refine .request (fun _ => execHcpWrite.eq_def ..) (within_append_left _ _) fun k x n hk => ?_
  simp [Instr.parts] at hk
  split
  · split <;> simp [hk]
  · simp

theorem registerWrite_frames {dt : Nat} {m : Master} {a : RegAddr} {val mask : BitVec 32} :
    (Instr.registerWrite dt m a val mask).Frames :=
  .main (fun _ => execRegisterWrite.eq_def ..) rfl (by simp +contextual [Instr.parts])

theorem snapshot_frames {dt : Nat} {h : HcpReq} {target : BitVec 8} {now seam : Bool} {inst first count : BitVec 16}
    {ts : BitVec 64} : (Instr.snapshot dt h target now seam inst first count ts).Frames := by
  refine .request (fun _ => execSnapshot.eq_def ..) (.refl _) fun k x n hk => ?_
  simp [Instr.parts] at hk
  split
  · simp
  · split <;> simp [hk]

theorem snapshotCapture_frames {dt : Nat} {k : Fin 4} : (Instr.snapshotCapture dt k).Frames :=
  .main (fun _ => execSnapshotCapture.eq_def ..) rfl (by simp +contextual [Instr.parts])

theorem snapRead_frames {dt : Nat} {h : HcpReq} {buf : BitVec 8} {off : BitVec 32} {len : BitVec 16} :
    (Instr.snapRead dt h buf off len).Frames := by
  refine .request (fun _ => execSnapRead.eq_def ..) (.refl _) fun k x n hk => ?_
  simp [Instr.parts] at hk
  dsimp only
  split
  · simp
  · split
    · simp
    · split <;> simp

theorem snapFree_frames {dt : Nat} {h : HcpReq} {buf : BitVec 8} : (Instr.snapFree dt h buf).Frames := by
  refine .request (fun _ => execSnapFree.eq_def ..) (.refl _) fun k x n hk => ?_
  simp [Instr.parts] at hk
  split <;> simp [hk]

theorem subscribe_frames {dt : Nat} {h : HcpReq} {classes : BitVec 16} : (Instr.subscribe dt h classes).Frames :=
  .request (fun _ => execSubscribe.eq_def ..) (.refl _) (by simp +contextual [Instr.parts])

theorem eventAck_frames {dt : Nat} {h : HcpReq} {n : BitVec 32} : (Instr.eventAck dt h n).Frames :=
  .request (fun _ => execEventAck.eq_def ..) (.refl _) (by simp +contextual [Instr.parts])

theorem eventResend_frames {dt : Nat} {k : Fin 32} : (Instr.eventResend dt k).Frames :=
  .main (fun _ => execEventResend.eq_def ..) rfl (by simp +contextual [Instr.parts])

theorem restart_frames {dt : Nat} {h : HcpReq} {kind : BitVec 8} : (Instr.restart dt h kind).Frames := by
  refine .request (fun _ => execRestart.eq_def ..) (.refl _) fun k x n hk => ?_
  simp [Instr.parts] at hk
  split <;> simp [hk]

theorem sessionPendingTimeout_frames {dt : Nat} {k : Fin 32} : (Instr.sessionPendingTimeout dt k).Frames :=
  .main (fun _ => execSessionPendingTimeout.eq_def ..) rfl (by simp +contextual [Instr.parts])

theorem sessionIdleTimeout_frames {dt : Nat} {k : Fin 32} : (Instr.sessionIdleTimeout dt k).Frames :=
  .main (fun _ => execSessionIdleTimeout.eq_def ..) rfl (by simp +contextual [Instr.parts])

/-! Images, relays and the trial window. -/

theorem imageWrite_frames {dt : Nat} {h : HcpReq} {off : BitVec 32} {data : List Byte} {full : Bool} :
    (Instr.imageWrite dt h off data full).Frames := by
  refine .request (fun _ => execImageWrite.eq_def ..) (.refl _) fun k x n hk => ?_
  simp [Instr.parts] at hk
  dsimp only
  split
  · simp
  · split
    · simp
    · split
      · simp
      · split
        · simp
        · split <;> simp [hk]

theorem imageEnd_frames {dt : Nat} {h : HcpReq} {len : BitVec 32} {activate : Bool} :
    (Instr.imageEnd dt h len activate).Frames := by
  refine .request (fun _ => execImageEnd.eq_def ..) (.refl _) fun k x n hk => ?_
  simp [Instr.parts] at hk
  dsimp only
  split <;> simp [hk]

theorem imageVerifyDone_frames {dt : Nat} {img : ImgIn} : (Instr.imageVerifyDone dt img).Frames := by
  refine .main (fun _ => execImageVerifyDone.eq_def ..) rfl fun k x hk => ?_
  simp [Instr.parts] at hk
  dsimp only
  split
  · simp
  · split <;> simp [hk]

theorem imageAbort_frames {dt : Nat} {h : HcpReq} : (Instr.imageAbort dt h).Frames := by
  refine .request (fun _ => execImageAbort.eq_def ..) (.refl _) fun k x n hk => ?_
  simp [Instr.parts] at hk
  dsimp only
  split
  · simp [hk]
  · split <;> simp [hk]

theorem imageStatus_frames {dt : Nat} {h : HcpReq} : (Instr.imageStatus dt h).Frames :=
  .request (fun _ => execImageStatus.eq_def ..) (.refl _) (by simp +contextual [Instr.parts])

theorem imageRelay_frames {dt : Nat} {h : HcpReq} {hops : BitVec 8} {mask : BitVec 32} {mantle : Bool} :
    (Instr.imageRelay dt h hops mask mantle).Frames := by
  refine .request (fun _ => execImageRelay.eq_def ..) (.refl _) fun k x n hk => ?_
  simp [Instr.parts] at hk
  dsimp only
  split <;> simp [hk]

theorem relayOffer_frames {dt : Nat} {b : Fin 33} {rx : RxCell} : (Instr.relayOffer dt b rx).Frames := by
  refine .main (fun _ => execRelayOffer.eq_def ..) rfl fun k x hk => ?_
  simp [Instr.parts] at hk
  refine State.relayIn_but _ _ _ _ _ k (by simp [hk]) fun s q => ?_
  split <;> simp [hk]

theorem relayWant_frames {dt : Nat} {b : Fin 33} {rx : RxCell} : (Instr.relayWant dt b rx).Frames :=
  .main (fun _ => execRelayWant.eq_def ..) rfl (by simp +contextual [Instr.parts])

theorem relayData_frames {dt : Nat} {b : Fin 33} {rx : RxCell} : (Instr.relayData dt b rx).Frames := by
  refine .main (fun _ => execRelayData.eq_def ..) rfl fun k x hk => ?_
  simp [Instr.parts] at hk
  refine State.relayIn_but _ _ _ _ _ k (by simp [hk]) fun s q => ?_
  split
  · rfl
  · dsimp only
    split
    · simp [hk]
    · split
      · simp [hk]
      · split <;> split <;> simp [hk]

theorem relayAck_frames {dt : Nat} {b : Fin 33} {rx : RxCell} : (Instr.relayAck dt b rx).Frames := by
  refine .main (fun _ => execRelayAck.eq_def ..) rfl fun k x hk => ?_
  simp [Instr.parts] at hk
  refine State.relayIn_but _ _ _ _ _ k (by simp [hk]) fun s q => ?_
  split
  · split <;> simp [hk]
  · rfl

theorem relayDone_frames {dt : Nat} {b : Fin 33} {rx : RxCell} : (Instr.relayDone dt b rx).Frames :=
  .main (fun _ => execRelayDone.eq_def ..) rfl (by simp +contextual [Instr.parts])

theorem relayDecline_frames {dt : Nat} {b : Fin 33} {rx : RxCell} : (Instr.relayDecline dt b rx).Frames :=
  .main (fun _ => execRelayDecline.eq_def ..) rfl (by simp +contextual [Instr.parts])

theorem relayTimeout_frames {dt : Nat} {b : Fin 33} {rx : Bool} : (Instr.relayTimeout dt b rx).Frames := by
  refine .main (fun _ => execRelayTimeout.eq_def ..) rfl fun k x hk => ?_
  simp [Instr.parts] at hk
  split
  · split <;> simp [hk]
  · split <;> simp [hk]

theorem trialConfirmed_frames {dt : Nat} : (Instr.trialConfirmed dt).Frames :=
  .main (fun _ => execTrialConfirmed.eq_def ..) rfl (by simp +contextual [Instr.parts])

theorem trialWindowExpire_frames {dt : Nat} : (Instr.trialWindowExpire dt).Frames :=
  .main (fun _ => execTrialWindowExpire.eq_def ..) rfl (by simp +contextual [Instr.parts])

/-! Hopper channels. -/

theorem descriptorFetched_frames {dt : Nat} {c : Fin 16} {ok : Bool} : (Instr.descriptorFetched dt c ok).Frames := by
  refine .main (fun _ => execDescriptorFetched.eq_def ..) rfl fun k x hk => ?_
  simp [Instr.parts] at hk
  dsimp only
  split
  · simp
  · split
    · simp [hk]
    · split
      · simp [hk]
      · split
        · simp [hk]
        · split <;> simp [hk]

theorem readBeatReturn_frames {dt : Nat} {c : Fin 16} {beat : Nat} {res : BeatRes} :
    (Instr.readBeatReturn dt c beat res).Frames := by
  refine .main (fun _ => execReadBeatReturn.eq_def ..) rfl fun k x hk => ?_
  simp [Instr.parts] at hk
  split <;> simp [hk]

theorem writeBeatResponse_frames {dt : Nat} {c : Fin 16} {beat : Nat} {res : BeatRes} :
    (Instr.writeBeatResponse dt c beat res).Frames := by
  refine .main (fun _ => execWriteBeatResponse.eq_def ..) rfl fun k x hk => ?_
  simp [Instr.parts] at hk
  split <;> simp [hk]

theorem descriptorWriteBack_frames {dt : Nat} {c : Fin 16} : (Instr.descriptorWriteBack dt c).Frames := by
  refine .main (fun _ => execDescriptorWriteBack.eq_def ..) rfl fun k x hk => ?_
  simp [Instr.parts] at hk
  dsimp only
  split
  · simp [hk]
  · split
    · split
      · simp [hk]
      · split <;> simp [hk]
    · simp [hk]
  · simp

theorem defaultTargetAccess_frames {dt : Nat} {master : Fin 8} {write : Bool} {addr : BitVec 64} :
    (Instr.defaultTargetAccess dt master write addr).Frames :=
  .main (fun _ => execDefaultTargetAccess.eq_def ..) rfl (by simp +contextual [Instr.parts])

/-! Rails, sensors and the UART. -/

theorem railOutOfTolerance_frames {dt : Nat} {rail : Fin 10} {held : Bool} :
    (Instr.railOutOfTolerance dt rail held).Frames :=
  .keep (fun _ => execRailOutOfTolerance.eq_def ..) (by simp +contextual [Instr.parts])

theorem railRestored_frames {dt : Nat} : (Instr.railRestored dt).Frames :=
  .keep (fun _ => execRailRestored.eq_def ..) (by simp +contextual [Instr.parts])

theorem mainRailCollapse_frames {dt : Nat} {sram : Bool} : (Instr.mainRailCollapse dt sram).Frames :=
  .keep (fun _ => execMainRailCollapse.eq_def ..) (by simp +contextual [Instr.parts])

theorem keepRailCollapse_frames {dt : Nat} : (Instr.keepRailCollapse dt).Frames :=
  fun _ => ⟨_, rfl, by simp [Instr.parts, timeParts, State.but, State.start]⟩

theorem tempSensorsSample_frames {dt : Nat} {t : Vector (BitVec 16) 8} : (Instr.tempSensorsSample dt t).Frames := by
  refine .main (fun _ => execTempSensorsSample.eq_def ..) rfl fun k x hk => ?_
  simp [Instr.parts] at hk
  split <;> simp [hk]

theorem uartByteReceived_frames {dt : Nat} {b : Byte} : (Instr.uartByteReceived dt b).Frames :=
  .main (fun _ => execUartByteReceived.eq_def ..) rfl (by simp +contextual [Instr.parts])

/-! Checkers, returns and corrected errors. -/

theorem prbsCheckerLock_frames {dt : Nat} {b : Fin 33} {l : Fin 8} {rx : List Bool} :
    (Instr.prbsCheckerLock dt b l rx).Frames :=
  .main (fun _ => execPrbsCheckerLock.eq_def ..) rfl (by simp +contextual [Instr.parts])

theorem prbsCheckerReseed_frames {dt : Nat} {b : Fin 33} {l : Fin 8} {rx : List Bool} :
    (Instr.prbsCheckerReseed dt b l rx).Frames :=
  .main (fun _ => execPrbsCheckerReseed.eq_def ..) rfl (by simp +contextual [Instr.parts])

theorem remoteFaultReceived_frames {dt : Nat} {p : Fin 18} : (Instr.remoteFaultReceived dt p).Frames :=
  .main (fun _ => execRemoteFaultReceived.eq_def ..) rfl (by simp +contextual [Instr.parts])

theorem remoteFaultEnded_frames {dt : Nat} {p : Fin 18} : (Instr.remoteFaultEnded dt p).Frames :=
  .main (fun _ => execRemoteFaultEnded.eq_def ..) rfl (by simp +contextual [Instr.parts])

theorem hemLayerDrop_frames {dt : Nat} : (Instr.hemLayerDrop dt).Frames := by
  refine .main (fun _ => execHemLayerDrop.eq_def ..) rfl fun k x hk => ?_
  simp [Instr.parts] at hk
  split
  · refine State.each_but _ _ _ k fun s n => ?_
    split
    · dsimp only
      split <;> simp [hk]
    · rfl
  · rfl

theorem xoInReturn_frames {dt : Nat} : (Instr.xoInReturn dt).Frames :=
  .keep (fun _ => execXoInReturn.eq_def ..) (by simp +contextual [Instr.parts])

theorem freqInReturn_frames {dt : Nat} {n : Fin 4} : (Instr.freqInReturn dt n).Frames :=
  .keep (fun _ => execFreqInReturn.eq_def ..) (by simp +contextual [Instr.parts])

theorem channelLockAcquired_frames {dt : Nat} {c : Fin 96} {sig : Fin 6} {prn : Fin 64} {cn0 : BitVec 16} {sync : Bool} :
    (Instr.channelLockAcquired dt c sig prn cn0 sync).Frames :=
  .keep (fun _ => execChannelLockAcquired.eq_def ..) (by simp +contextual [Instr.parts])

theorem vatCorrectedError_frames {dt : Nat} {sparesLow : Bool} : (Instr.vatCorrectedError dt sparesLow).Frames :=
  .main (fun _ => execVatCorrectedError.eq_def ..) rfl (by simp +contextual [Instr.parts])

theorem vatUncorrectableError_frames {dt : Nat} : (Instr.vatUncorrectableError dt).Frames :=
  .main (fun _ => execVatUncorrectableError.eq_def ..) rfl (by simp +contextual [Instr.parts])

theorem mashParityFault_frames {dt : Nat} {b : Fin 256} : (Instr.mashParityFault dt b).Frames :=
  .main (fun _ => execMashParityFault.eq_def ..) rfl (by simp +contextual [Instr.parts])

/-! Control faults and the owner fuses. -/

theorem controlCoreWatchdog_frames {dt : Nat} : (Instr.controlCoreWatchdog dt).Frames :=
  .main (fun _ => execControlCoreWatchdog.eq_def ..) rfl (by simp +contextual [Instr.parts])

theorem crossingFifoOverflow_frames {dt : Nat} : (Instr.crossingFifoOverflow dt).Frames :=
  .main (fun _ => execCrossingFifoOverflow.eq_def ..) rfl (by simp +contextual [Instr.parts])

theorem ownerSlotProgram_frames {dt : Nat} {k : Fin 4} {digest : BitVec 384} :
    (Instr.ownerSlotProgram dt k digest).Frames := by
  refine .main (fun _ => execOwnerSlotProgram.eq_def ..) rfl fun k x hk => ?_
  simp [Instr.parts] at hk
  split
  · simp [State.onBoot, State.but, hk]
  · rfl

theorem ownerSlotRevoke_frames {dt : Nat} {k : Fin 4} : (Instr.ownerSlotRevoke dt k).Frames := by
  refine .main (fun _ => execOwnerSlotRevoke.eq_def ..) rfl fun k x hk => ?_
  simp [Instr.parts] at hk
  simp [State.onBoot, State.but, hk]

/-! All commands. -/

theorem command_frames (c : Instr) : c.Frames := by
  cases c with
  | cellarNAsserted => exact cellarNAsserted_frames
  | cellarEnter => exact .write (fun _ => execCellarEnter.eq_def ..) rfl rfl
  | cellarEntryIsolated => exact cellarEntryIsolated_frames
  | cellarNDeasserted => exact cellarNDeasserted_frames
  | resetNAsserted => exact resetNAsserted_frames
  | resetNDeasserted => exact resetNDeasserted_frames
  | keepAlivePorRelease => exact keepAlivePorRelease_frames
  | flashInitDone => exact flashInitDone_frames
  | swapStepDone => exact swapStepDone_frames
  | startVerifyDone => exact startVerifyDone_frames
  | configApplied => exact configApplied_frames
  | hbmTrained => exact hbmTrained_frames
  | stage6End => exact stage6End_frames
  | enterService => exact enterService_frames
  | hemMashSilent => exact hemMashSilent_frames
  | islandClockLost => exact islandClockLost_frames
  | islandClockReturn => exact islandClockReturn_frames
  | csOpen => exact csOpen_frames
  | stage => exact stage_frames
  | arm => exact arm_frames
  | prepare => exact prepare_frames
  | commit => exact commit_frames
  | cancel => exact cancel_frames
  | csRelease => exact csRelease_frames
  | csRead => exact csRead_frames
  | csDistributionDone => exact csDistributionDone_frames
  | csEntryInShadow => exact csEntryInShadow_frames
  | armTimeReached => exact armTimeReached_frames
  | prepareDeadline => exact prepareDeadline_frames
  | clockLaneQualified => exact clockLaneQualified_frames
  | adaptDone => exact adaptDone_frames
  | bitSlipPosition => exact bitSlipPosition_frames
  | deskewDone => exact deskewDone_frames
  | verifyDone => exact verifyDone_frames
  | retrain => exact .write (fun _ => execRetrain.eq_def ..) rfl rfl
  | autoRetrainRetry => exact autoRetrainRetry_frames
  | bundleEnable => exact .write (fun _ => execBundleEnable.eq_def ..) rfl rfl
  | txAlignmentMarker => exact txAlignmentMarker_frames
  | alignmentMarker => exact alignmentMarker_frames
  | markerMissing => exact markerMissing_frames
  | interpolatorLimit => exact interpolatorLimit_frames
  | fill => exact fill_frames
  | lightIdleEntry => exact lightIdleEntry_frames
  | deepIdleEntry => exact deepIdleEntry_frames
  | idleReq => exact .write (fun _ => execIdleReq.eq_def ..) rfl rfl
  | idleAutoTimeout => exact idleAutoTimeout_frames
  | txIdleExit => exact txIdleExit_frames
  | exitBurstDelimiter => exact exitBurstDelimiter_frames
  | wakeFailure => exact wakeFailure_frames
  | fwdClockStop => exact fwdClockStop_frames
  | fwdClockGlitch => exact fwdClockGlitch_frames
  | fwdClockRateChange => exact fwdClockRateChange_frames
  | fwdClockRequalified => exact fwdClockRequalified_frames
  | idleCell => exact idleCell_frames
  | essenceCell => exact essenceCell_frames
  | ancillaryCell => exact ancillaryCell_frames
  | echoCell => exact echoCell_frames
  | stampCell => exact stampCell_frames
  | familyCellRx => exact familyCellRx_frames
  | managementSideCell => exact managementSideCell_frames
  | laneTestCell => exact laneTestCell_frames
  | signatureCell => exact signatureCell_frames
  | sourceLostTimeout => exact sourceLostTimeout_frames
  | warpCellCheckFail => exact warpCellCheckFail_frames
  | familyCellTx => exact familyCellTx_frames
  | launchCellTx => exact launchCellTx_frames
  | echoCellTx => exact echoCellTx_frames
  | signatureCellTx => exact signatureCellTx_frames
  | ethFrameBad => exact ethFrameBad_frames
  | unmatchedFrame => exact unmatchedFrame_frames
  | pauseFrame => exact pauseFrame_frames
  | pauseExpire => exact pauseExpire_frames
  | pauseWatchdog => exact pauseWatchdog_frames
  | pauseIgnoreEnd => exact pauseIgnoreEnd_frames
  | arpRequest => exact arpRequest_frames
  | icmpEchoRequest => exact icmpEchoRequest_frames
  | st211020Packet => exact st211020Packet_frames
  | st211022Packet => exact st211022Packet_frames
  | st211030Packet => exact st211030Packet_frames
  | st211031Packet => exact st211031Packet_frames
  | st211040Packet => exact st211040Packet_frames
  | flowLostTimeout => exact flowLostTimeout_frames
  | audioFlowLostTimeout => exact audioFlowLostTimeout_frames
  | flowEnable => exact .write (fun _ => execFlowEnable.eq_def ..) rfl rfl
  | ethLossOfSignal => exact ethLossOfSignal_frames
  | ethLinkGlitch => exact ethLinkGlitch_frames
  | ethRateChange => exact ethRateChange_frames
  | ethLinkUp => exact ethLinkUp_frames
  | dstRouteWrite => exact .write (fun _ => execDstRouteWrite.eq_def ..) rfl rfl
  | seamGuardOpen => exact seamGuardOpen_frames
  | seamSwitchingInstant => exact seamSwitchingInstant_frames
  | seamSnapshotTimeout => exact seamSnapshotTimeout_frames
  | dstFrameLaunch => exact dstFrameLaunch_frames
  | dstLineBoundary => exact dstLineBoundary_frames
  | freezeExpire => exact freezeExpire_frames
  | plyProxyComplete => exact plyProxyComplete_frames
  | caskCorrectedError => exact caskCorrectedError_frames
  | caskUncorrectableError => exact caskUncorrectableError_frames
  | pageRetireDone => exact pageRetireDone_frames
  | surfAlloc => exact surfAlloc_frames
  | surfFree => exact surfFree_frames
  | bulkWrite => exact bulkWrite_frames
  | bulkRead => exact bulkRead_frames
  | headEnable => exact .write (fun _ => execHeadEnable.eq_def ..) rfl rfl
  | headDisable => exact .write (fun _ => execHeadDisable.eq_def ..) rfl rfl
  | headGuardOpen => exact headGuardOpen_frames
  | headFrameStart => exact headFrameStart_frames
  | transitionFrameEnd => exact transitionFrameEnd_frames
  | headUnderrun => exact headUnderrun_frames
  | apronUnderrun => exact apronUnderrun_frames
  | headFrameEnd => exact headFrameEnd_frames
  | sigLearn => exact .write (fun _ => execSigLearn.eq_def ..) rfl rfl
  | apronFieldWrite => exact .write (fun _ => execApronFieldWrite.eq_def ..) rfl rfl
  | apronFieldApply => exact apronFieldApply_frames
  | apronNAsserted => exact apronNAsserted_frames
  | apronForceBegin => exact apronForceBegin_frames
  | apronNDeasserted => exact apronNDeasserted_frames
  | mashSampleInstant => exact mashSampleInstant_frames
  | engSwapRequest => exact .write (fun _ => execEngSwapRequest.eq_def ..) rfl rfl
  | engHoldWrite => exact .write (fun _ => execEngHoldWrite.eq_def ..) rfl rfl
  | zcTimeout => exact zcTimeout_frames
  | faderRampEnd => exact faderRampEnd_frames
  | unlockHoldExpire => exact unlockHoldExpire_frames
  | portEnable => exact .write (fun _ => execPortEnable.eq_def ..) rfl rfl
  | portDisable => exact .write (fun _ => execPortDisable.eq_def ..) rfl rfl
  | prerollDone => exact prerollDone_frames
  | stopDone => exact stopDone_frames
  | frameSync => exact frameSync_frames
  | maskLoWrite => exact .write (fun _ => execMaskLoWrite.eq_def ..) rfl rfl
  | maskHiWrite => exact .write (fun _ => execMaskHiWrite.eq_def ..) rfl rfl
  | portClockStop => exact portClockStop_frames
  | portClockGlitch => exact portClockGlitch_frames
  | portRateChange => exact portRateChange_frames
  | portClockQualified => exact portClockQualified_frames
  | frameEpoch => exact frameEpoch_frames
  | kilnSecond => exact kilnSecond_frames
  | evtInEdge => exact evtInEdge_frames
  | evtCapRead => exact .read (fun _ => execEvtCapRead.eq_def ..) rfl rfl
  | nowRead => exact .read (fun _ => execNowRead.eq_def ..) rfl rfl
  | lowerWordRead => exact .read (fun _ => execLowerWordRead.eq_def ..) rfl rfl
  | ppsInPulse => exact ppsInPulse_frames
  | vrefInPulse => exact vrefInPulse_frames
  | pulseTimeout => exact pulseTimeout_frames
  | freqInGlitch => exact freqInGlitch_frames
  | freqInStop => exact freqInStop_frames
  | freqInRateChange => exact freqInRateChange_frames
  | refQualified => exact refQualified_frames
  | selCtlWrite => exact .write (fun _ => execSelCtlWrite.eq_def ..) rfl rfl
  | refOrderWrite => exact .write (fun _ => execRefOrderWrite.eq_def ..) rfl rfl
  | kilnStep => exact kilnStep_frames
  | kilnTimeSet => exact kilnTimeSet_frames
  | slewDone => exact slewDone_frames
  | dacUpdate => exact dacUpdate_frames
  | tempRead => exact tempRead_frames
  | tempSensorTimeout => exact tempSensorTimeout_frames
  | modelSave => exact modelSave_frames
  | modelValid => exact modelValid_frames
  | oscGlitch => exact oscGlitch_frames
  | oscStop => exact oscStop_frames
  | oscRateChange => exact oscRateChange_frames
  | oscDrift => exact oscDrift_frames
  | oscRestore => exact oscRestore_frames
  | xoInStop => exact xoInStop_frames
  | timeOutPulse => exact timeOutPulse_frames
  | timeOutPulseEnd => exact timeOutPulseEnd_frames
  | clkOutAlign => exact clkOutAlign_frames
  | timeSetGo => exact .write (fun _ => execTimeSetGo.eq_def ..) rfl rfl
  | startWaitExpire => exact startWaitExpire_frames
  | gnssClockStop => exact gnssClockStop_frames
  | gnssClockGlitch => exact gnssClockGlitch_frames
  | gnssClockRateChange => exact gnssClockRateChange_frames
  | gnssClockRequalified => exact gnssClockRequalified_frames
  | gnssSearchPass => exact gnssSearchPass_frames
  | hotSearchTimeout => exact hotSearchTimeout_frames
  | channelLockLoss => exact channelLockLoss_frames
  | navDataDecoded => exact navDataDecoded_frames
  | measurementEpoch => exact measurementEpoch_frames
  | gnssSolution => exact gnssSolution_frames
  | posWrite => exact posWrite_frames
  | posModeWrite => exact .write (fun _ => execPosModeWrite.eq_def ..) rfl rfl
  | baselineLearnt => exact baselineLearnt_frames
  | selftest => exact .write (fun _ => execSelftest.eq_def ..) rfl rfl
  | selftestDone => exact selftestDone_frames
  | gnssBurst => exact gnssBurst_frames
  | gnssNavRefresh => exact gnssNavRefresh_frames
  | syncTx => exact syncTx_frames
  | followUpTx => exact followUpTx_frames
  | announceTx => exact announceTx_frames
  | syncMetadataTx => exact syncMetadataTx_frames
  | grantDue => exact grantDue_frames
  | grantExpire => exact grantExpire_frames
  | delayReq => exact delayReq_frames
  | sync => exact sync_frames
  | followUp => exact followUp_frames
  | delayResp => exact delayResp_frames
  | announce => exact announce_frames
  | clientDelayReqTx => exact clientDelayReqTx_frames
  | announceReceiptTimeout => exact announceReceiptTimeout_frames
  | exchangeTimeout => exact exchangeTimeout_frames
  | requestUnicastTransmission => exact requestUnicastTransmission_frames
  | cancelUnicastTransmission => exact cancelUnicastTransmission_frames
  | managementMessage => exact managementMessage_frames
  | pdelayMessage => exact pdelayMessage_frames
  | ntpRequest => exact ntpRequest_frames
  | ntsRequest => exact ntsRequest_frames
  | leapSecond => exact leapSecond_frames
  | sessRead => exact .write (fun _ => execSessRead.eq_def ..) rfl rfl
  | sessWrite => exact .write (fun _ => execSessWrite.eq_def ..) rfl rfl
  | sessInvalidate => exact .write (fun _ => execSessInvalidate.eq_def ..) rfl rfl
  | keyLoad => exact .write (fun _ => execKeyLoad.eq_def ..) rfl rfl
  | ntsMkeyWrite => exact .write (fun _ => execNtsMkeyWrite.eq_def ..) rfl rfl
  | ptpRoleWrite => exact .write (fun _ => execPtpRoleWrite.eq_def ..) rfl rfl
  | inject => exact .write (fun _ => execInject.eq_def ..) rfl rfl
  | injectedFrameSent => exact injectedFrameSent_frames
  | txtsRead => exact .read (fun _ => execTxtsRead.eq_def ..) rfl rfl
  | renewTx => exact renewTx_frames
  | renew => exact renew_frames
  | ack => exact ack_frames
  | leaseInEdge => exact leaseInEdge_frames
  | leaseConfirmTimeout => exact leaseConfirmTimeout_frames
  | claimTimeout => exact claimTimeout_frames
  | noneWaitTimeout => exact noneWaitTimeout_frames
  | release => exact release_frames
  | handover => exact .write (fun _ => execHandover.eq_def ..) rfl rfl
  | request => exact request_frames
  | propose => exact propose_frames
  | accept => exact accept_frames
  | refuse => exact refuse_frames
  | handoverAcceptDeadline => exact handoverAcceptDeadline_frames
  | handoverTime => exact handoverTime_frames
  | holdoffExpire => exact holdoffExpire_frames
  | healthTx => exact healthTx_frames
  | health => exact health_frames
  | twinHealthTimeout => exact twinHealthTimeout_frames
  | mirror => exact mirror_frames
  | rtpSeqMirrorTx => exact rtpSeqMirrorTx_frames
  | csReady => exact csReady_frames
  | mantleEnWrite => exact .write (fun _ => execMantleEnWrite.eq_def ..) rfl rfl
  | standingClear => exact .write (fun _ => execStandingClear.eq_def ..) rfl rfl
  | fenceCmdFence => exact .write (fun _ => execFenceCmdFence.eq_def ..) rfl rfl
  | fenceCmdRelease => exact .write (fun _ => execFenceCmdRelease.eq_def ..) rfl rfl
  | faultPulseEnd => exact faultPulseEnd_frames
  | faultHoldWrite => exact .write (fun _ => execFaultHoldWrite.eq_def ..) rfl rfl
  | logAck => exact .write (fun _ => execLogAck.eq_def ..) rfl rfl
  | logRetry => exact logRetry_frames
  | hcpOpen => exact hcpOpen_frames
  | hcpClose => exact hcpClose_frames
  | hcpNop => exact hcpNop_frames
  | hcpRead => exact hcpRead_frames
  | hcpWrite => exact hcpWrite_frames
  | registerWrite => exact registerWrite_frames
  | rcCounterRead => exact .read (fun _ => execRcCounterRead.eq_def ..) rfl rfl
  | snapshot => exact snapshot_frames
  | snapshotCapture => exact snapshotCapture_frames
  | snapRead => exact snapRead_frames
  | snapFree => exact snapFree_frames
  | subscribe => exact subscribe_frames
  | eventAck => exact eventAck_frames
  | eventResend => exact eventResend_frames
  | restart => exact restart_frames
  | sessionPendingTimeout => exact sessionPendingTimeout_frames
  | sessionIdleTimeout => exact sessionIdleTimeout_frames
  | slotDisable => exact .write (fun _ => execSlotDisable.eq_def ..) rfl rfl
  | imageWrite => exact imageWrite_frames
  | imageEnd => exact imageEnd_frames
  | imageVerifyDone => exact imageVerifyDone_frames
  | imageAbort => exact imageAbort_frames
  | imageStatus => exact imageStatus_frames
  | imageRelay => exact imageRelay_frames
  | relayOffer => exact relayOffer_frames
  | relayWant => exact relayWant_frames
  | relayData => exact relayData_frames
  | relayAck => exact relayAck_frames
  | relayDone => exact relayDone_frames
  | relayDecline => exact relayDecline_frames
  | relayTimeout => exact relayTimeout_frames
  | trialConfirmWrite => exact .write (fun _ => execTrialConfirmWrite.eq_def ..) rfl rfl
  | trialConfirmed => exact trialConfirmed_frames
  | trialReject => exact .write (fun _ => execTrialReject.eq_def ..) rfl rfl
  | trialWindowExpire => exact trialWindowExpire_frames
  | hopperGo => exact .write (fun _ => execHopperGo.eq_def ..) rfl rfl
  | hopperStop => exact .write (fun _ => execHopperStop.eq_def ..) rfl rfl
  | descriptorFetched => exact descriptorFetched_frames
  | readBeatReturn => exact readBeatReturn_frames
  | writeBeatResponse => exact writeBeatResponse_frames
  | descriptorWriteBack => exact descriptorWriteBack_frames
  | defaultTargetAccess => exact defaultTargetAccess_frames
  | crcStart => exact .write (fun _ => execCrcStart.eq_def ..) rfl rfl
  | crcFeed => exact .write (fun _ => execCrcFeed.eq_def ..) rfl rfl
  | crcValueRestore => exact .write (fun _ => execCrcValueRestore.eq_def ..) rfl rfl
  | railOutOfTolerance => exact railOutOfTolerance_frames
  | railRestored => exact railRestored_frames
  | mainRailCollapse => exact mainRailCollapse_frames
  | keepRailCollapse => exact keepRailCollapse_frames
  | tempSensorsSample => exact tempSensorsSample_frames
  | uartTxWrite => exact .write (fun _ => execUartTxWrite.eq_def ..) rfl rfl
  | uartRxRead => exact .read (fun _ => execUartRxRead.eq_def ..) rfl rfl
  | uartByteReceived => exact uartByteReceived_frames
  | prbsCheckerLock => exact prbsCheckerLock_frames
  | prbsCheckerReseed => exact prbsCheckerReseed_frames
  | remoteFaultReceived => exact remoteFaultReceived_frames
  | remoteFaultEnded => exact remoteFaultEnded_frames
  | hemLayerDrop => exact hemLayerDrop_frames
  | xoInReturn => exact xoInReturn_frames
  | freqInReturn => exact freqInReturn_frames
  | channelLockAcquired => exact channelLockAcquired_frames
  | vatCorrectedError => exact vatCorrectedError_frames
  | vatUncorrectableError => exact vatUncorrectableError_frames
  | mashParityFault => exact mashParityFault_frames
  | controlCoreWatchdog => exact controlCoreWatchdog_frames
  | crossingFifoOverflow => exact crossingFifoOverflow_frames
  | ownerSlotProgram => exact ownerSlotProgram_frames
  | ownerSlotRevoke => exact ownerSlotRevoke_frames

end Sys2Proof.Machine

open Sys2Proof.Machine

/-- Settles O5: each command's own lemma; the queue is no part of any list. -/
theorem commandFrames : Obligations.CommandFrames := by
  intro c s
  obtain ⟨t, he, hb⟩ := command_frames c s
  have hp := congrArg State.pending hb
  exact ⟨t, he, hp, hb⟩

end

section
/-! Islands held in reset (O7): what the shared forms of the commands do then, and the commands, each by its form. -/

set_option autoImplicit false
set_option Elab.async false

namespace Sys2Proof.Machine

section
variable {dt : Nat} {s : State}

/-- While the main islands are isolated a command of theirs only lets time pass. -/
theorem onMain_of_iso {f : State → State} (hs : s.iso = true) : onMain dt s f = .next (s.start dt) := by
  simp [onMain, hs]

/-- In power-on reset a command of the keep-alive island only lets time pass. -/
theorem onKeep_of_por {f : State → State} (hs : s.por = true) : onKeep dt s f = .next (s.start dt) := by
  simp [onKeep, hs]

theorem writeCommand_of_iso {m : Master} {r : Reg} {i : Nat} {hi : Bool} {v mask : Nat} (hs : s.iso = true) :
    writeCommand dt m r i hi v mask s = .next (s.start dt) :=
  onMain_of_iso hs

theorem readCommand_of_iso {m : Master} {a : RegAddr} (hs : s.iso = true) : readCommand dt m a s = .next (s.start dt) :=
  onMain_of_iso hs

theorem hcpRequest_of_iso {h : HcpReq} {op : Nat} {right : Option Nat} {inHem : Bool} {run : State → Nat → Done}
    (hs : s.iso = true) : hcpRequest dt h op right inHem run s = .next (s.start dt) :=
  onMain_of_iso hs

theorem csRequest_of_iso {h : HcpReq} {op set : Nat} {run : State → Done} (hs : s.iso = true) :
    csRequest dt h op set run s = .next (s.start dt) :=
  hcpRequest_of_iso hs

theorem imageRequest_of_iso {h : HcpReq} {op : Nat} {inHem : Bool} {run : State → Nat → Done} (hs : s.iso = true) :
    imageRequest dt h op inHem run s = .next (s.start dt) :=
  hcpRequest_of_iso hs

end

/-- A command is one of the keep-alive island, or it only lets time pass while the main islands are isolated. -/
theorem exec_of_iso {s : State} (c : Instr) (hs : s.iso = true) : c.inKeep = true ∨ exec c s = .next (s.start c.dt) := by
  unfold exec
  cases c <;> dsimp only [Instr.inKeep, Instr.dt]
  case hcpOpen =>
    unfold execHcpOpen
    split
    · exact .inr (hcpRequest_of_iso hs)
    · exact .inr (onMain_of_iso hs)
  case posWrite =>
    unfold execPosWrite
    split <;> exact .inr (writeCommand_of_iso hs)
  case baselineLearnt | cellarEntryIsolated | cellarNAsserted | cellarNDeasserted | channelLockAcquired | channelLockLoss |
      clkOutAlign | dacUpdate | evtInEdge | frameEpoch | freqInGlitch | freqInRateChange | freqInReturn | freqInStop | gnssBurst
      | gnssClockGlitch | gnssClockRateChange | gnssClockRequalified | gnssClockStop | gnssNavRefresh | gnssSearchPass |
      gnssSolution | hotSearchTimeout | kilnSecond | kilnStep | kilnTimeSet | leapSecond | mainRailCollapse | measurementEpoch |
      modelSave | modelValid | navDataDecoded | oscDrift | oscGlitch | oscRateChange | oscRestore | oscStop | ppsInPulse |
      pulseTimeout | railOutOfTolerance | railRestored | refQualified | resetNAsserted | resetNDeasserted | selftestDone |
      slewDone | startWaitExpire | tempRead | tempSensorTimeout | timeOutPulse | timeOutPulseEnd | vrefInPulse | xoInReturn |
      xoInStop | keepAlivePorRelease | keepRailCollapse =>
    exact .inl rfl
  case cellarEnter | retrain | bundleEnable | idleReq | flowEnable | dstRouteWrite | headEnable | headDisable | sigLearn |
      apronFieldWrite | engSwapRequest | engHoldWrite | portEnable | portDisable | maskLoWrite | maskHiWrite | selCtlWrite |
      refOrderWrite | timeSetGo | posModeWrite | selftest | sessRead | sessWrite | sessInvalidate | keyLoad | ntsMkeyWrite |
      ptpRoleWrite | inject | handover | mantleEnWrite | standingClear | fenceCmdFence | fenceCmdRelease | faultHoldWrite |
      logAck | slotDisable | trialConfirmWrite | trialReject | hopperGo | hopperStop | crcStart | crcFeed | crcValueRestore |
      uartTxWrite =>
    exact .inr (writeCommand_of_iso hs)
  case evtCapRead | nowRead | lowerWordRead | txtsRead | rcCounterRead | uartRxRead => exact .inr (readCommand_of_iso hs)
  case csOpen | arm | prepare | commit | cancel | csRelease => exact .inr (csRequest_of_iso hs)
  case stage | csRead | surfAlloc | surfFree | bulkWrite | bulkRead | hcpClose | hcpNop | hcpRead | hcpWrite | snapshot |
      snapRead | snapFree | subscribe | eventAck | restart =>
    exact .inr (hcpRequest_of_iso hs)
  case imageWrite | imageEnd | imageAbort | imageStatus | imageRelay => exact .inr (imageRequest_of_iso hs)
  all_goals exact .inr (onMain_of_iso hs)

/-- A command is one of the main islands, one of the two that begin and end the power-on reset, or it only lets time pass
in that reset. -/
theorem exec_of_por {s : State} (c : Instr) (hs : s.por = true) : c.inKeep = false ∨ c = .keepAlivePorRelease c.dt ∨
    c = .keepRailCollapse c.dt ∨ exec c s = .next (s.start c.dt) := by
  unfold exec
  cases c <;> dsimp only [Instr.inKeep, Instr.dt]
  case keepAlivePorRelease => exact .inr (.inl rfl)
  case keepRailCollapse => exact .inr (.inr (.inl rfl))
  case baselineLearnt | cellarEntryIsolated | cellarNAsserted | cellarNDeasserted | channelLockAcquired | channelLockLoss |
      clkOutAlign | dacUpdate | evtInEdge | frameEpoch | freqInGlitch | freqInRateChange | freqInReturn | freqInStop | gnssBurst
      | gnssClockGlitch | gnssClockRateChange | gnssClockRequalified | gnssClockStop | gnssNavRefresh | gnssSearchPass |
      gnssSolution | hotSearchTimeout | kilnSecond | kilnStep | kilnTimeSet | leapSecond | mainRailCollapse | measurementEpoch |
      modelSave | modelValid | navDataDecoded | oscDrift | oscGlitch | oscRateChange | oscRestore | oscStop | ppsInPulse |
      pulseTimeout | railOutOfTolerance | railRestored | refQualified | resetNAsserted | resetNDeasserted | selftestDone |
      slewDone | startWaitExpire | tempRead | tempSensorTimeout | timeOutPulse | timeOutPulseEnd | vrefInPulse | xoInReturn |
      xoInStop =>
    exact .inr (.inr (.inr (onKeep_of_por hs)))
  all_goals exact .inl rfl

end Sys2Proof.Machine

open Sys2Proof Sys2Proof.Machine

/-- Settles O7, by the form of each command: it runs on the main islands or in the keep-alive island. -/
theorem islandsHeld : Obligations.IslandsHeld := by
  intro c s
  refine ⟨fun iso main => ?_, fun por keep release collapse => ?_⟩
  · exact (exec_of_iso c iso).resolve_left (by simp [main])
  · exact (((exec_of_por c por).resolve_left (by simp [keep])).resolve_left release).resolve_left collapse

end

section
/-! Entry into cellar mode while the device is not configured (O44). -/

set_option autoImplicit false

namespace Sys2Proof.Machine

/-- A device in START_UP, whose kept cellar configuration gives CELLAR_PIN the value 0. -/
def pinInCellarCfg : State := { kiln := { cellarCfg := some [(Fld.PWR_CELLAR_CTL_CELLAR_PIN.at 0, 0)] } }

/-- A device that is not configured loads that configuration when CELLAR_N is asserted, after the pin is noted. -/
theorem pinInCellarCfg_entry : ∃ t, exec (.cellarNAsserted 0) pinInCellarCfg = .next t ∧
    t.rd Fld.PWR_CELLAR_CTL_CELLAR_PIN 0 = 0 :=
  ⟨_, rfl, by decide +kernel⟩

end Sys2Proof.Machine

open Sys2Proof Sys2Proof.Machine

/-- Refutes O44, by its first clause: it asks that CELLAR_PIN reads 1 after the entry, but a device that is not configured
loads the cellar configuration of the keep-alive island (R51), and no hypothesis says which fields that list holds. -/
theorem not_lifeCellar : ¬ Obligations.LifeCellar := by
  unfold Obligations.LifeCellar
  intro h
  obtain ⟨entry, -⟩ := h
  obtain ⟨t, e, -, -, pin, -⟩ := entry pinInCellarCfg 0 rfl (by decide +kernel)
  obtain ⟨t', e', cleared⟩ := pinInCellarCfg_entry
  obtain rfl : t' = t := by simpa using e'.symm.trans e
  exact absurd (cleared.symm.trans pin) (by decide)

end

section
/-! A write that clears the enable bit of a flow (O46). -/

set_option autoImplicit false

namespace Sys2Proof.Machine

/-- A device in reset values but for the 1-bit field EN of flow 0, which stands at 2. -/
def wideFlowEn : State := { rv := [(Fld.ETH_FLOW_CTL_EN.at 0, 2)] }

/-- The write that clears EN. -/
def clearFlowEn : Item := wordOf .ETH_FLOW_CTL 0 false 0 (2 ^ 31)

/-- That write is allowed there. -/
theorem wideFlowEn_writes : (wideFlowEn.start 0).writes (.core 0) .ETH_FLOW_CTL (0 : Fin 4096) false 0 (2 ^ 31) := by
  decide +kernel

/-- ETH_FLOW_CTL lies in no island with an external clock. -/
theorem island_ethFlowCtl (i : Nat) : Reg.island .ETH_FLOW_CTL i = none :=
  ite_self none

/-- A write of ETH_FLOW_CTL takes effect at once, and answers as its fields do. -/
theorem State.putWord_ethFlowCtl (s : State) (m : Master) (at_ : Option Nat) (i v mask : Nat) :
    s.putWord m at_ ⟨.ETH_FLOW_CTL, i, false, v, mask⟩ = (s.setHeld s.held).applyItem at_ ⟨.ETH_FLOW_CTL, i, v, mask⟩ :=
  State.putItem_of_island_none _ _ _ (island_ethFlowCtl i)

/-- The flow does not count as enabled, so the write changes nothing of the state it meets. -/
theorem wideFlowEn_regWrite :
    (wideFlowEn.start 0).regWrite (.core 0) ((wideFlowEn.start 0).isSafety (.core 0)) none [clearFlowEn] =
      (.ok, 0, wideFlowEn.start 0) := by
  rw [State.regWrite, State.putItems_word _ _ _ _ _ _ _ .ETH_FLOW_CTL 0 false (wideFlowEn.start 0) rfl wideFlowEn_writes.2
    (by rw [State.putWord_ethFlowCtl]; rfl)]
  rfl

/-- So EN stands at 2 after it. -/
theorem wideFlowEn_write : ∃ t, exec (.flowEnable 0 (.core 0) 0 false) wideFlowEn = .next t ∧
    t.rd Fld.ETH_FLOW_CTL_EN 0 = 2 := by
  refine ⟨_, exec_registerWrite_of_regWrite (a := .named .ETH_FLOW_CTL 0 false) rfl wideFlowEn_regWrite, ?_⟩
  decide +kernel

end Sys2Proof.Machine

open Sys2Proof Sys2Proof.Machine

/-- Refutes O46, by its eighth clause: it asks that EN reads 0 after the write, but the write of a flow that is not enabled
changes nothing, "enabled" is that EN reads 1, and no hypothesis bounds what EN reads by its width of one bit. -/
theorem not_regsLinks : ¬ Obligations.RegsLinks := by
  unfold Obligations.RegsLinks
  intro h
  obtain ⟨-, -, -, -, -, -, -, disable, -⟩ := h
  obtain ⟨t, e, off, -⟩ := disable wideFlowEn 0 (.core 0) 0 rfl wideFlowEn_writes
  obtain ⟨t', e', kept⟩ := wideFlowEn_write
  obtain rfl : t' = t := by simpa using e'.symm.trans e
  exact absurd (kept.symm.trans off) (by decide)

end

section
/-! A change-set request over a port whose BODY_MAX is 0 (O54). -/

set_option autoImplicit false

namespace Sys2Proof.Machine

/-- The device of `narrowPort`, with every right given to slot 3. -/
def narrowRights : State := narrowPort.wr Fld.HCP_SLOT_STAT_RIGHTS 3 31

/-- The request reaches its execution, with the right to stage. -/
theorem narrowRights_asks : (narrowRights.start 0).asks emptyRequest (some 1) false 2 := by decide +kernel

/-- What the device does with the request as a CS_OPEN of set 4: it stays empty. -/
theorem narrowRights_csOpen : ∃ t, exec (.csOpen 0 emptyRequest 4) narrowRights = .next t ∧ t.csOf 4 = {} :=
  ⟨_, rfl, by decide +kernel⟩

end Sys2Proof.Machine

open Sys2Proof Sys2Proof.Machine

/-- Refutes O54, by its first clause: no hypothesis says that the byte that names the set fits into BODY_MAX of the port.
With MAX_FRAME 90 BODY_MAX is 0, so the answer becomes ERR_ACCESS and the request has no effect (R710). -/
theorem not_changeSetOps : ¬ Obligations.ChangeSetOps := by
  unfold Obligations.ChangeSetOps
  intro h
  obtain ⟨opened, -⟩ := h
  obtain ⟨t, e, isOpen, -⟩ := opened narrowRights 0 emptyRequest 2 4 rfl
    ⟨narrowRights_asks, by decide +kernel, by decide, by decide +kernel⟩
  obtain ⟨t', e', empty⟩ := narrowRights_csOpen
  obtain rfl : t' = t := by simpa using e'.symm.trans e
  exact absurd (empty.symm.trans isOpen) (by decide)

end

section
/-! A change set for a TIME_OUT output whose arm time has come (O55). -/

set_option autoImplicit false

namespace Sys2Proof.Machine

/-- A distributed entry for TIME_OUT output 0, without items. -/
def toutEntry : CsEntry := { kind := .tout, inst := 0, items := [], shadow := some 0 }

/-- A device whose change set 0 waits in COMMITTED for the count 0, with that one entry; output 0 is idle. -/
def toutCommitted : State := { cs := [(0, { state := 4, ta := some 0, entries := [toutEntry] })] }

/-- An idle output takes the change at its arm time, and with it the set is DONE. -/
theorem toutCommitted_armTime : ∃ t, exec (.armTimeReached 0 0) toutCommitted = .next t ∧ (t.csOf 0).state = 6 :=
  ⟨_, rfl, by decide +kernel⟩

end Sys2Proof.Machine

open Sys2Proof Sys2Proof.Machine

/-- Refutes O55, by its fifth clause: it asks that a set whose unit runs is APPLYING after its arm time, and `unitStopped` is
false of every TIME_OUT output, but an idle output takes its change at once. The clauses about the distribution leave
TIME_OUT outputs out, this one does not. -/
theorem not_changeSetTimes : ¬ Obligations.ChangeSetTimes := by
  unfold Obligations.ChangeSetTimes
  intro h
  obtain ⟨-, -, -, -, armTime, -⟩ := h
  obtain ⟨t, e, applying⟩ := armTime toutCommitted 0 0 0 toutEntry rfl (by decide +kernel) rfl
  obtain ⟨t', e', done⟩ := toutCommitted_armTime
  obtain rfl : t' = t := by simpa using e'.symm.trans e
  exact absurd ((congrArg ChangeSet.state applying).symm.trans done) (by decide)

end

section
/-! What raising a fault leaves. -/

set_option autoImplicit false

namespace Sys2Proof.Machine

/-- What no reaction to a fault touches: the faults that stand, the cells that each destination has discarded, and the memory
errors of the health record. -/
structure Marks where
  stand : List (Nat × Nat)
  gone : Nat → List Nat
  ce : Nat
  ue : Nat
  ueAt : Option Nat

/-- The marks of a state. -/
def State.marks (s : State) : Marks :=
  ⟨s.flt.stand, fun d => (s.dstOf d).gone, s.mntl.ce, s.mntl.ue, s.mntl.ueAt⟩

theorem State.marks_of_parts {s t : State} (hf : s.flt = t.flt) (hd : s.dst = t.dst) (hm : s.mntl = t.mntl) :
    s.marks = t.marks := by
  simp only [State.marks, State.dstOf, hf, hd, hm]

/-- What leaves the fault collector, the destinations and the mantle leaves the marks. -/
theorem State.marks_of_but {s t : State} {k : List Part} (h : s.but k = t.but k)
    (hk : Part.flt ∉ k ∧ Part.dst ∉ k ∧ Part.mntl ∉ k) : s.marks = t.marks := by
  obtain ⟨hf, hd, hm⟩ := hk
  apply State.marks_of_parts
  · simpa [State.but, hf] using congrArg State.flt h
  · simpa [State.but, hd] using congrArg State.dst h
  · simpa [State.but, hm] using congrArg State.mntl h

@[simp] theorem marks_ite (c : Prop) [Decidable c] (a b : State) :
    (if c then a else b).marks = if c then a.marks else b.marks := apply_ite State.marks c a b

@[simp] theorem State.each_marks (s : State) (l : List Nat) (f : State → Nat → State)
    (h : ∀ s a, (f s a).marks = s.marks) : (s.each l f).marks = s.marks :=
  foldl_keep State.marks f h l s

@[simp] theorem State.wr_marks (s : State) (f : Field) (i v : Nat) : (s.wr f i v).marks = s.marks :=
  State.marks_of_parts rfl rfl rfl

@[simp] theorem State.flag_marks (s : State) (f : Field) (i : Nat) (b : Bool) : (s.flag f i b).marks = s.marks :=
  State.marks_of_parts rfl rfl rfl

@[simp] theorem State.bump_marks (s : State) (f : Field) (i n : Nat) : (s.bump f i n).marks = s.marks :=
  State.marks_of_parts rfl rfl rfl

@[simp] theorem State.onBoot_marks (s : State) (g : BootS → BootS) : (s.onBoot g).marks = s.marks :=
  State.marks_of_parts rfl rfl rfl

@[simp] theorem State.onKiln_marks (s : State) (g : KilnS → KilnS) : (s.onKiln g).marks = s.marks :=
  State.marks_of_parts rfl rfl rfl

@[simp] theorem State.countFree_marks (s : State) : s.countFree.marks = s.marks :=
  State.marks_of_parts rfl rfl rfl

@[simp] theorem State.onFlt_marks (s : State) (g : FltS → FltS) (h : (g s.flt).stand = s.flt.stand) :
    (s.onFlt g).marks = s.marks := by simp [State.marks, State.onFlt, State.dstOf, h]

@[simp] theorem State.onMntl_marks (s : State) (g : MntlS → MntlS)
    (h : (g s.mntl).ce = s.mntl.ce ∧ (g s.mntl).ue = s.mntl.ue ∧ (g s.mntl).ueAt = s.mntl.ueAt) :
    (s.onMntl g).marks = s.marks := by simp [State.marks, State.onMntl, State.dstOf, h]

@[simp] theorem State.putDst_marks (s : State) (d : Nat) (r : DstS) (h : r.gone = (s.dstOf d).gone) :
    (s.putDst d r).marks = s.marks := by
  have gone : (fun x => ((s.putDst d r).dstOf x).gone) = fun x => (s.dstOf x).gone := by
    funext x
    by_cases e : x = d
    · rw [e, State.putDst_dstOf, h]
    · exact congrArg DstS.gone (State.putDst_dstOf_other s d x r e)
  simp only [State.marks, gone]
  rfl

@[simp] theorem State.event_marks (s : State) (cls code inst : Nat) (detail : List Byte) :
    (s.event cls code inst detail).marks = s.marks :=
  State.marks_of_but (State.event_but s _ _ _ _ [.out, .rv, .egr, .sess] (by simp)) (by simp)

@[simp] theorem State.putFlowRx_marks (s : State) (f : Nat) (r : FlowRx) : (s.putFlowRx f r).marks = s.marks :=
  State.marks_of_parts rfl rfl rfl

@[simp] theorem State.setCh_marks (s : State) (c st : Nat) : (s.setCh c st).marks = s.marks :=
  State.marks_of_but (State.setCh_but s _ _ [.rv, .gnss] (by simp)) (by simp)

@[simp] theorem State.gnssSettle_marks (s : State) : s.gnssSettle.marks = s.marks :=
  State.marks_of_but (State.gnssSettle_but s [.rv, .gnss] (by simp)) (by simp)

@[simp] theorem State.hopStop_marks (s : State) (c cause : Nat) : (s.hopStop c cause).marks = s.marks :=
  State.marks_of_but (State.hopStop_but s _ _ [.hop] (by simp)) (by simp)

@[simp] theorem State.saveCellar_marks (s : State) : s.saveCellar.marks = s.marks :=
  State.marks_of_but (State.saveCellar_but s [.kiln] (by simp)) (by simp)

@[simp] theorem State.mantle_marks (s : State) (m : MantleMsg) : (s.mantle m).marks = s.marks :=
  State.marks_of_but (State.mantle_but s _ [.out, .rv, .txb] (by simp)) (by simp)

@[simp] theorem State.setRole_marks (s : State) (r : Role) : (s.setRole r).marks = s.marks :=
  State.marks_of_parts rfl rfl rfl

@[simp] theorem State.trialHem_marks (s : State) : s.trialHem.marks = s.marks :=
  State.marks_of_but (State.trialHem_but s [.boot] (by simp)) (by simp)

@[simp] theorem State.hemCancel_marks (s : State) : s.hemCancel.marks = s.marks :=
  State.marks_of_but (State.hemCancel_but s [.out, .rv, .cs, .egr, .sess] (by simp)) (by simp)

@[simp] theorem State.judge_marks (s : State) (d : Nat) : (s.judge d).marks = s.marks := by
  simp [State.judge]

@[simp] theorem State.judgeAll_marks (s : State) (k : Nat) : (s.judgeAll k).marks = s.marks :=
  State.each_marks _ _ _ State.judge_marks

@[simp] theorem State.loseSlot_marks (s : State) (k : Nat) : (s.loseSlot k).marks = s.marks := by
  simp [State.loseSlot]

@[simp] theorem State.settleFlow_marks (s : State) (f : Nat) : (s.settleFlow f).marks = s.marks := by
  simp only [State.settleFlow]
  split <;> simp

@[simp] theorem State.loseFlow_marks (s : State) (f : Nat) : (s.loseFlow f).marks = s.marks := by
  simp [State.loseFlow]

@[simp] theorem State.putFence_marks (s : State) (k : UKind) (i v : Nat) : (s.putFence k i v).marks = s.marks := by
  simp [State.putFence]

@[simp] theorem State.ownFence_marks (s : State) (k : UKind) (i bit : Nat) : (s.ownFence k i bit).marks = s.marks := by
  simp [State.ownFence]

@[simp] theorem State.sick_marks (s : State) : s.sick.marks = s.marks := by simp [State.sick]

@[simp] theorem State.setMode_marks (s : State) (m : Mode) : (s.setMode m).marks = s.marks := by
  simp [State.setMode]

@[simp] theorem State.settleMode_marks (s : State) : s.settleMode.marks = s.marks := by
  unfold State.settleMode
  split <;> simp

@[simp] theorem State.fence_marks (s : State) (k : UKind) (i : Nat) : (s.fence k i).marks = s.marks := by
  cases k <;> simp [State.fence]

@[simp] theorem State.hemHold_marks (s : State) : s.hemHold.marks = s.marks := by simp [State.hemHold]

@[simp] theorem State.clearHolder_marks (s : State) : s.clearHolder.marks = s.marks := by simp [State.clearHolder]

@[simp] theorem State.giveUp_marks (s : State) : s.giveUp.marks = s.marks := by
  unfold State.giveUp
  split <;> simp

@[simp] theorem State.enterHem_marks (s : State) (fs : Nat) : (s.enterHem fs).marks = s.marks := by
  have fault : ∀ x : State, (x.onFlt fun z => { z with hemAt := some x.up, hemHard := 192 ≤ fs && fs ≤ 223 }).marks =
      x.marks := fun x => State.onFlt_marks x _ rfl
  simp only [State.enterHem, State.hemCancel_marks, State.giveUp_marks, State.trialHem_marks, fault, State.wr_marks,
    State.setMode_marks, State.hemHold_marks]

@[simp] theorem State.pulse_marks (s : State) : s.pulse.marks = s.marks := by simp [State.pulse]

@[simp] theorem State.react_marks (s : State) (fs : Nat) (k : UKind) (i sev : Nat) :
    (s.react fs k i sev).marks = s.marks := by
  simp [State.react]

@[simp] theorem State.handle_marks (s : State) (sev : Nat) : (s.handle sev).marks = s.marks := by
  unfold State.handle
  dsimp only
  split <;> exact State.onFlt_marks s.countFree _ rfl

@[simp] theorem State.logFault_marks (s : State) (e : LogEntry) : (s.logFault e).marks = s.marks := by
  unfold State.logFault
  split
  · simp
  · cases h : s.flt.ledgerOk <;> simp [h]

/-- The faults that stand once a source has been raised for a unit (R674, R676). -/
def State.standWith (s : State) (fs i : Nat) : List (Nat × Nat) :=
  if faultInfo fs = none ∨ s.stands fs i = true then s.flt.stand
  else tput 0 s.flt.stand (standKey fs i) (if s.on Fld.FLT_SRC_CFG_REPLACE fs then 2 else 1)

/-- Raising a source makes it stand, and does nothing else to the marks. -/
theorem State.raiseOne_marks (s : State) (fs i detail : Nat) :
    (s.raiseOne fs i detail).marks = { s.marks with stand := s.standWith fs i } := by
  unfold State.raiseOne
  split
  · next reserved =>
    have stand : s.standWith fs i = s.flt.stand := if_pos (.inl reserved)
    rw [stand]
    rfl
  · next info =>
    by_cases st : s.stands fs i = true
    · have stand : s.standWith fs i = s.flt.stand := if_pos (.inr st)
      rw [if_pos st, marks_ite, State.bump_marks, ite_self, stand]
      rfl
    · have stand : s.standWith fs i = tput 0 s.flt.stand (standKey fs i) _ := if_neg (by simp [info, st])
      rw [if_neg st, stand]
      simp only [State.react_marks, State.handle_marks, State.logFault_marks]
      rfl

theorem State.raiseOne_stand (s : State) (fs i detail : Nat) : (s.raiseOne fs i detail).flt.stand = s.standWith fs i :=
  congrArg Marks.stand (s.raiseOne_marks fs i detail)

@[simp] theorem State.settleSets_stands (s : State) (g j : Nat) : s.settleSets.stands g j = s.stands g j := by
  rw [State.stands, State.stands, State.settleSets_flt]

/-- A source whose number is not reserved stands for a unit once it has been raised for it (R674). -/
theorem State.raiseOne_stands_same (s : State) {fs : Nat} (h : (faultInfo fs).isSome = true) (i detail : Nat) :
    (s.raiseOne fs i detail).stands fs i = true := by
  rw [State.stands, State.raiseOne_stand, State.standWith]
  split
  · next old => exact old.resolve_left (Option.isSome_iff_ne_none.1 h)
  · rw [tget_tput_same]
    split <;> rfl

theorem State.stands_raiseOne_of_stands {s : State} {g j : Nat} (h : s.stands g j = true) (fs i detail : Nat) :
    (s.raiseOne fs i detail).stands g j = true := by
  rw [State.stands, State.raiseOne_stand, State.standWith]
  split
  · exact h
  · next new =>
    have key : standKey g j ≠ standKey fs i := fun e => new (.inr (by rw [State.stands, ← e]; exact h))
    rw [tget_tput_other _ _ _ _ _ key]
    exact h

/-- A fault that stands still stands after the check of the Ledger (R704). -/
theorem State.stands_ledgerCheck {s old : State} {g j : Nat} (h : s.stands g j = true) :
    (s.ledgerCheck old).stands g j = true := by
  unfold State.ledgerCheck
  split
  · exact h
  · exact State.stands_raiseOne_of_stands h _ _ _

/-- A raised source stands, whatever the check of the Ledger raises beside it (R674, R704). -/
theorem State.raise_stands_same (s : State) {fs : Nat} (h : (faultInfo fs).isSome = true) (i detail : Nat) :
    (s.raise fs i detail).stands fs i = true :=
  State.stands_ledgerCheck (s.raiseOne_stands_same h i detail)

/-- A raise ends no fault that stands. -/
theorem State.stands_raise_of_stands {s : State} {g j : Nat} (h : s.stands g j = true) (fs i detail : Nat) :
    (s.raise fs i detail).stands g j = true :=
  State.stands_ledgerCheck (State.stands_raiseOne_of_stands h _ _ _)

/-- A condition source stands for a unit as long as its condition holds (R674). -/
theorem State.cond_stands_same (s : State) {fs : Nat} (h : (faultInfo fs).isSome = true) (i : Nat) (holds : Bool) :
    (s.cond fs i holds).stands fs i = holds := by
  cases holds
  · exact congrArg (· != 0) (tget_terase_same 0 s.flt.stand (standKey fs i))
  · exact s.raise_stands_same h i 0

/-- A condition source that follows its condition ends no other fault that stands. -/
theorem State.stands_cond_of_stands {s : State} {g j fs i : Nat} (h : s.stands g j = true)
    (hk : standKey g j ≠ standKey fs i) (holds : Bool) : (s.cond fs i holds).stands g j = true := by
  cases holds
  · exact (congrArg (· != 0) (tget_terase_other 0 s.flt.stand (standKey fs i) (standKey g j) hk)).trans h
  · exact State.stands_raise_of_stands h _ _ _

/-! What a raise leaves of the destinations and of the health record. -/

/-- Apart from what stands, a raise leaves the marks. -/
theorem State.raise_marks (s : State) (fs i detail : Nat) :
    (s.raise fs i detail).marks = { s.marks with stand := (s.raise fs i detail).flt.stand } := by
  have once : ∀ (x : State) (g j e : Nat),
      (x.raiseOne g j e).marks = { x.marks with stand := (x.raiseOne g j e).flt.stand } := fun x g j e => by
    rw [State.raiseOne_marks, State.raiseOne_stand]
  unfold State.raise State.ledgerCheck
  split
  · exact once s fs i detail
  · rw [once, once s]

theorem State.raise_gone (s : State) (fs i detail d : Nat) : ((s.raise fs i detail).dstOf d).gone = (s.dstOf d).gone :=
  congrArg (fun m => m.gone d) (s.raise_marks fs i detail)

theorem State.raise_ce (s : State) (fs i detail : Nat) : (s.raise fs i detail).mntl.ce = s.mntl.ce :=
  congrArg Marks.ce (s.raise_marks fs i detail)

theorem State.raise_ue (s : State) (fs i detail : Nat) : (s.raise fs i detail).mntl.ue = s.mntl.ue :=
  congrArg Marks.ue (s.raise_marks fs i detail)

theorem State.raise_ueAt (s : State) (fs i detail : Nat) : (s.raise fs i detail).mntl.ueAt = s.mntl.ueAt :=
  congrArg Marks.ueAt (s.raise_marks fs i detail)

theorem State.cond_ce (s : State) (fs i : Nat) (holds : Bool) : (s.cond fs i holds).mntl.ce = s.mntl.ce := by
  cases holds
  · rfl
  · exact s.raise_ce fs i 0

end Sys2Proof.Machine
end

section
/-! A cell that the device sends leaves at once. -/

set_option autoImplicit false

namespace Sys2Proof.Machine

/-- The lanes that a bundle uses follow from two register fields. -/
theorem State.txLanes_of_rd {s t : State} (b : Nat) (h7 : t.rd Fld.IZL_LINK_STAT_TX_7LANE b = s.rd Fld.IZL_LINK_STAT_TX_7LANE b)
    (ho : t.rd Fld.IZL_LINK_STAT_TX_OMIT b = s.rd Fld.IZL_LINK_STAT_TX_OMIT b) : t.txLanes b = s.txLanes b := by
  simp only [State.txLanes, State.on, h7, ho]

/-- The transmitter that leaves idle is out of idle, and its lanes are ready after the lead (R94). -/
theorem State.txWake_of_idle (s : State) (b : Nat) (h : s.rd Fld.IZL_LINK_STAT_TX_IDLE b ≠ 0) :
    (s.txWake b).rd Fld.IZL_LINK_STAT_TX_IDLE b = 0 ∧
      (s.txWake b).txOf b = { s.txOf b with idleFrom := none, readyAt := s.up + s.txLead b } := by
  unfold State.txWake
  rw [if_neg h]
  dsimp only
  generalize hx : State.each _ _ _ = x
  have awake : x.rd Fld.IZL_LINK_STAT_TX_IDLE b = 0 := by
    rw [← hx]
    simp
  have same : x.but [.out, .rv] = s.but [.out, .rv] := by
    rw [← hx]
    simp
  have txb : x.txOf b = s.txOf b := (congrArg (fun y => State.txOf y b) same :)
  exact ⟨awake, by rw [State.putTxb_txOf, txb]⟩

/-- Leaving idle changes nothing of when the next cell leaves. -/
theorem State.txWake_txLead (s : State) (b : Nat) : (s.txWake b).txLead b = s.txLead b := by
  by_cases h : s.rd Fld.IZL_LINK_STAT_TX_IDLE b = 0
  · rw [State.txWake, if_pos h]
  · obtain ⟨awake, tx⟩ := s.txWake_of_idle b h
    have up : (s.txWake b).up = s.up := (congrArg State.up (State.txWake_but s b [.out, .rv, .txb] (by simp)) :)
    rw [State.txLead, awake, tx, up]
    simp

/-- Leaving idle takes no room of the marker period. -/
theorem State.txWake_cells (s : State) (b : Nat) : ((s.txWake b).txOf b).cells = (s.txOf b).cells := by
  by_cases h : s.rd Fld.IZL_LINK_STAT_TX_IDLE b = 0
  · rw [State.txWake, if_pos h]
  · rw [(s.txWake_of_idle b h).2]

/-- A cell that is put on the lanes is among what the device sent. -/
theorem State.mem_rawCell (s : State) (b after : Nat) (cell : List Byte) :
    Output.cell b after cell ∈ (s.rawCell b after cell).out := by
  have sent : Sent (s.emit (.cell b after cell)) (s.rawCell b after cell) := by
    unfold State.rawCell
    refine Sent.each (Sent.ite (((Sent.refl _).putTxb _ _).putTxb _ _) ((Sent.refl _).putTxb _ _)) _ _ fun x k => ?_
    exact ((Sent.refl x).putTx _ _ _).drainLane _ _ _
  exact sent _ (by simp)

/-- A bundle that sends, with room in its marker period, sends bytes at once, or when it has left idle (R72, R94). -/
theorem State.mem_sendBytes {s : State} {b : Nat} (h : s.sendsCell b) (cell : List Byte) :
    Output.cell b (s.txLead b) cell ∈ (s.sendBytes b 0 cell).out := by
  obtain ⟨enabled, mode, room⟩ := h
  unfold State.sendBytes
  rw [if_neg (by simp [enabled]; omega)]
  dsimp only
  generalize hx : State.putTxb (s.txWake b) b _ = x
  have rd : ∀ f i, f.off [Fld.IZL_LINK_STAT_TX_IDLE] → x.rd f i = s.rd f i := fun f i h => by
    rw [← hx, State.putTxb_rd, State.txWake_rd _ _ _ _ h]
  have lanes : x.txLanes b = s.txLanes b :=
    State.txLanes_of_rd b (rd _ _ (by simp only [Field.off_cons, Field.off_nil]; decide))
      (rd _ _ (by simp only [Field.off_cons, Field.off_nil]; decide))
  have tx : x.txOf b = { (s.txWake b).txOf b with lastTx := some (s.txWake b).up, idleFrom := none } := by
    rw [← hx, State.putTxb_txOf]
  have lead : x.txLead b = s.txLead b := by
    rw [← s.txWake_txLead, State.txLead, State.txLead, tx, ← hx]
    simp
  rw [if_neg (by rw [lanes, tx]; simpa [State.txWake_cells] using room), lead, Nat.zero_max]
  exact State.mem_rawCell x b _ cell

/-- A bundle that sends a cell of a stream gives it the stream's next number and the length of its payload (R121, R129). -/
theorem State.mem_sendCell {s : State} {b : Nat} (h : s.sendsCell b) (type slot fmt : Nat) (payload : List Byte) :
    Output.cell b (s.txLead b)
        (cellOf (s.txHdr type slot (tget 0 (s.txOf b).seq (slot * 16 + type)) payload.length fmt) payload) ∈
      (s.sendCell b type slot fmt payload).out := by
  obtain ⟨enabled, mode, room⟩ := h
  unfold State.sendCell State.sendHdr
  dsimp only
  generalize hx : State.putTxb s b _ = x
  have rd : ∀ f i, x.rd f i = s.rd f i := fun f i => by rw [← hx]; simp
  have tx : x.txOf b = { s.txOf b with seq := (x.txOf b).seq } := by rw [← hx, State.putTxb_txOf]
  have up : x.up = s.up := by rw [← hx]; rfl
  have lead : x.txLead b = s.txLead b := by rw [State.txLead, State.txLead, rd, tx, up]
  have sends : x.sendsCell b := by
    refine ⟨by simp [State.on, rd, ← enabled], by rw [rd]; exact mode, ?_⟩
    rw [tx, State.txLanes_of_rd (s := s) b (rd _ _) (rd _ _)]
    exact room
  rw [if_neg (by rw [rd]; omega), ← lead]
  exact State.mem_sendBytes sends _

/-- The frame of a command of the main islands whose effect may also move the counters of `settleFields`. -/
theorem Framed.settle_of_off {dt : Nat} {s x : State} {ps : List (Field × Nat)} {k : List Part} (hu : x.up = s.up + dt)
    (hn : x.now = (s.start dt).now) (hb : x.but (mainParts ++ k) = s.but (mainParts ++ k)) (hr : RegsKept s x ps) :
    Framed dt s x.settleSets ps k := by
  refine ⟨by simp [hu], by simp [hn]; rfl, ?_, fun f i hs hp => ?_⟩
  · rw [State.settleSets_but x _ (by simp [mainParts, timeParts]), hb]
  · rw [State.settleSets_rd x f i hs, hr f i hs hp]

end Sys2Proof.Machine
end

section
/-! The cell layer (O17): lost sources, the check of Warp's queues, Vat's errors, and the time cells that the device sends. -/

set_option autoImplicit false

namespace Sys2Proof.Machine

/-- A command of the main islands completes, in an island that runs, with what holds of its effect. -/
theorem Completes.main {c : Instr} {dt : Nat} {s : State} {f : State → State} {P : State → Prop}
    (e : exec c s = onMain dt s f) (hs : s.runs) (h : P (f (s.start dt)).settleSets) : Completes c s P := by
  rw [Completes, e]
  exact onMain_next hs h

/-- A source becomes lost (R141), whatever the change sets then do. -/
theorem State.loseSlot_settleSets_lost (s : State) (k : Nat) :
    (s.loseSlot k).settleSets.rd Fld.CELL_SRC_STAT_LOST k = 1 := by
  rw [State.settleSets_rd _ _ _ (by simp only [Field.off_cons, Field.off_nil]; decide), State.loseSlot,
    State.judgeAll_rd _ _ _ _ (by simp only [Field.off_cons, Field.off_nil]; decide), State.flag, State.rd_wr_same]
  rfl

/-- A lane source from which no essence has come for as long as R141 says becomes lost. -/
theorem sourceLostTimeout_loses {s : State} {dt : Nat} {k : Fin 1152} (hs : s.runs) (lane : (s.srcLane k).isSome = true)
    (known : s.on Fld.CELL_SRC_STAT_LOST k = false)
    (late : (fmtOf (s.rd Fld.CELL_SRC_STAT_FMT k)).elim (fine (ms 50)) (fun f => f.period * 5 / 4) ≤
      fine (s.up + dt - (s.srcOf k).lastEss.getD 0)) :
    Completes (.sourceLostTimeout dt k) s fun t => t.rd Fld.CELL_SRC_STAT_LOST k = 1 := by
  refine .main (execSourceLostTimeout.eq_def ..) hs ?_
  simp only [State.start_rd]
  cases fmt : fmtOf (s.rd Fld.CELL_SRC_STAT_FMT k) with
  | none =>
    rw [fmt] at late
    rw [if_pos ⟨lane, late, known⟩]
    exact State.loseSlot_settleSets_lost _ _
  | some f =>
    rw [fmt] at late
    rw [if_pos ⟨lane, late, known⟩]
    exact State.loseSlot_settleSets_lost _ _

theorem warpCellCheckFail_discards {s : State} (dt : Nat) (d : Fin 1152) (field : Bool) (line offset : BitVec 12)
    (hs : s.runs) : Completes (.warpCellCheckFail dt d field line offset) s fun t =>
      t.stands 96 d = true ∧ (t.dstOf d).gone = cellKey field line.toNat offset.toNat :: (s.dstOf d).gone := by
  refine .main (execWarpCellCheckFail.eq_def ..) hs ⟨?_, ?_⟩
  · rw [State.settleSets_stands]
    exact State.raise_stands_same _ rfl _ _
  · rw [State.dstOf, State.settleSets_dst]
    rw [← State.dstOf, State.raise_gone, State.putDst_dstOf]
    rfl

theorem vatCorrectedError_counts {s : State} (dt : Nat) (low : Bool) (hs : s.runs) :
    Completes (.vatCorrectedError dt low) s fun t =>
      t.mntl.ce = s.mntl.ce + 1 ∧ t.stands 97 0 = true ∧ t.stands 99 0 = low := by
  refine .main (execVatCorrectedError.eq_def ..) hs ?_
  generalize hx : State.raise _ 97 0 0 = x
  have ce : x.mntl.ce = s.mntl.ce + 1 := by rw [← hx, State.raise_ce]; rfl
  have raised : x.stands 97 0 = true := by rw [← hx]; exact State.raise_stands_same _ rfl _ _
  rw [State.settleSets_mntl, State.settleSets_stands, State.settleSets_stands, State.cond_ce]
  exact ⟨ce, State.stands_cond_of_stands raised (by decide) low, State.cond_stands_same _ rfl _ _⟩

theorem vatUncorrectableError_counts {s : State} (dt : Nat) (hs : s.runs) :
    Completes (.vatUncorrectableError dt) s fun t =>
      t.mntl.ue = s.mntl.ue + 1 ∧ t.mntl.ueAt = some (s.up + dt) ∧ t.stands 98 0 = true := by
  refine .main (execVatUncorrectableError.eq_def ..) hs ?_
  rw [State.settleSets_mntl, State.settleSets_stands, State.raise_ue, State.raise_ueAt]
  exact ⟨rfl, rfl, State.raise_stands_same _ rfl _ _⟩

/-! The time cells that the device sends. -/

/-- A state is another after `dt`, but for what is noted of the cells and of the destinations. -/
def Noted (dt : Nat) (s x : State) : Prop := x.but [.cell, .dst] = (s.start dt).but [.cell, .dst]

theorem Noted.onCell (dt : Nat) (s : State) (g : CellS → CellS) : Noted dt s ((s.start dt).onCell g) :=
  State.onCell_but _ _ _ (by simp)

theorem Noted.putDst (dt : Nat) (s : State) (d : Nat) (r : DstS) : Noted dt s ((s.start dt).putDst d r) :=
  State.putDst_but _ _ _ _ (by simp)

theorem Noted.rv {dt : Nat} {s x : State} (h : Noted dt s x) : x.rv = s.rv := (congrArg State.rv h :)
theorem Noted.now {dt : Nat} {s x : State} (h : Noted dt s x) : x.now = (s.start dt).now := (congrArg State.now h :)
theorem Noted.up {dt : Nat} {s x : State} (h : Noted dt s x) : x.up = s.up + dt := (congrArg State.up h :)
theorem Noted.rd {dt : Nat} {s x : State} (h : Noted dt s x) (f : Field) (i : Nat) : x.rd f i = s.rd f i :=
  State.rd_of_rv h.rv f i

theorem Noted.txOf {dt : Nat} {s x : State} (h : Noted dt s x) (b : Nat) : x.txOf b = s.txOf b :=
  (congrArg (fun y => State.txOf y b) h :)

theorem Noted.txLead {dt : Nat} {s x : State} (h : Noted dt s x) (b : Nat) : x.txLead b = (s.start dt).txLead b :=
  (congrArg (fun y => State.txLead y b) h :)

theorem Noted.teb {dt : Nat} {s x : State} (h : Noted dt s x) : x.teb = (s.start dt).teb := (congrArg State.teb h :)
theorem Noted.txHdr {dt : Nat} {s x : State} (h : Noted dt s x) (type slot seq valid fmt : Nat) :
    x.txHdr type slot seq valid fmt = s.txHdr type slot seq valid fmt :=
  (congrArg (fun y => State.txHdr y type slot seq valid fmt) h :)

theorem Noted.sendsCell {dt : Nat} {s x : State} (h : Noted dt s x) {b : Nat} (sends : s.sendsCell b) : x.sendsCell b := by
  obtain ⟨enabled, mode, room⟩ := sends
  refine ⟨by rw [State.on, h.rd]; exact enabled, by rw [h.rd]; exact mode, ?_⟩
  rw [h.txOf, State.txLanes_of_rd (s := s) b (h.rd _ _) (h.rd _ _)]
  exact room

/-- A bundle that sends has sent a command's cell once the command is over. -/
theorem Noted.mem_sendCell {dt : Nat} {s x : State} (h : Noted dt s x) {b : Nat} (sends : s.sendsCell b)
    (type slot fmt : Nat) {payload : List Byte} {n : Nat} (hn : payload.length = n) :
    Output.cell b ((s.start dt).txLead b)
        (cellOf (s.txHdr type slot (tget 0 (s.txOf b).seq (slot * 16 + type)) n fmt) payload) ∈
      (x.sendCell b type slot fmt payload).settleSets.out := by
  rw [← h.txLead, ← h.txOf, ← h.txHdr, ← hn]
  exact sent_settleSets _ _ (State.mem_sendCell (h.sendsCell sends) type slot fmt payload)

theorem State.sendCell_keep (x : State) (b type slot fmt : Nat) (payload : List Byte) :
    (x.sendCell b type slot fmt payload).but [.out, .rv, .txb] = x.but [.out, .rv, .txb] :=
  State.sendCell_but x _ _ _ _ _ _ (by simp)

@[simp] theorem State.sendCell_now (x : State) (b type slot fmt : Nat) (payload : List Byte) :
    (x.sendCell b type slot fmt payload).now = x.now := (congrArg State.now (x.sendCell_keep b type slot fmt payload) :)

@[simp] theorem State.sendCell_up (x : State) (b type slot fmt : Nat) (payload : List Byte) :
    (x.sendCell b type slot fmt payload).up = x.up := (congrArg State.up (x.sendCell_keep b type slot fmt payload) :)

@[simp] theorem State.sendCell_cell (x : State) (b type slot fmt : Nat) (payload : List Byte) :
    (x.sendCell b type slot fmt payload).cell = x.cell := (congrArg State.cell (x.sendCell_keep b type slot fmt payload) :)

@[simp] theorem State.sendCell_dst (x : State) (b type slot fmt : Nat) (payload : List Byte) :
    (x.sendCell b type slot fmt payload).dst = x.dst := (congrArg State.dst (x.sendCell_keep b type slot fmt payload) :)

/-- The frame of a command that notes something of the cells or the destinations and sends a cell. -/
theorem Noted.framed {dt : Nat} {s x : State} {k : List Part} (h : Noted dt s x)
    (hb : x.but (mainParts ++ k) = (s.start dt).but (mainParts ++ k)) (b type slot fmt : Nat) (payload : List Byte) :
    Framed dt s (x.sendCell b type slot fmt payload).settleSets [] k := by
  refine .settle_of_off (by simp [h.up]) (by simp [h.now]) ?_ fun f i hf _ => ?_
  · rw [State.sendCell_but _ _ _ _ _ _ _ (by simp [mainParts, timeParts]), hb,
      State.start_but _ _ _ (by simp [mainParts, timeParts])]
  · have idle : f.off [Fld.IZL_LINK_STAT_TX_IDLE] := fun g hg => hf g (by simp_all [settleFields])
    rw [State.sendCell_rd _ _ _ _ _ _ _ _ idle, h.rd]

end Sys2Proof.Machine

open Sys2Proof Sys2Proof.Machine

/-- Settles O17, clause by clause: the sources that are lost, the faults of Warp and Vat, and the cells that are sent. -/
theorem cellLayer : Obligations.CellLayer := by
  unfold Obligations.CellLayer
  refine ⟨?_, ?_, fun s dt d field line offset hs => warpCellCheckFail_discards dt d field line offset hs,
    fun s dt low hs => vatCorrectedError_counts dt low hs, fun s dt hs => vatUncorrectableError_counts dt hs, ?_, ?_⟩
  · -- No format has been seen, so 50 ms are the limit (R141).
    intro s dt k hs lane known noFmt noEss late
    refine sourceLostTimeout_loses hs lane known ?_
    rw [noFmt, noEss]
    exact Nat.mul_le_mul_right 189 late
  · -- The limit is 1.25 frame periods of the last format (R141).
    intro s dt k f last hs lane known hasFmt ess late
    refine sourceLostTimeout_loses hs lane known ?_
    rw [hasFmt, ess]
    exact late
  · -- The family cell of the next epoch has its number noted, and leaves (R150 to R152).
    intro s dt b fam n hs hn ⟨up, sends⟩ early fresh lead
    refine .main (execFamilyCellTx.eq_def ..) hs ?_
    dsimp only
    rw [hn, if_pos ⟨up, early, fresh⟩]
    generalize hx : State.onCell (s.start dt) _ = x
    have noted : Noted dt s x := hx ▸ .onCell ..
    refine ⟨?_, ?_, noted.framed (by rw [← hx, State.onCell_but _ _ _ (by simp)]) _ _ _ _ _⟩
    · rw [State.settleSets_cell, State.sendCell_cell, ← hx]
      exact tget_tput_same ..
    · rw [State.settleSets_now, State.sendCell_now, noted.rd, noted.rd, noted.txLead, noted.teb]
      exact noted.mem_sendCell sends 3 linkSlot 0 (by simp [kilnBytes])
  · -- The launch cell has its instant noted and its count taken on, and leaves (R150, R153).
    intro s dt d b p f l hs lane fmt launch ⟨up, carries, en, fresh⟩ sends lead
    refine .main (execLaunchCellTx.eq_def ..) hs ?_
    have lane' : (s.start dt).dstLane d = some (b, p) := lane
    simp only [lane', State.start_rd, fmt, launch]
    have due : ((s.start dt).linkUp b && (s.start dt).txCarries b p && (s.start dt).on Fld.WARP_DST_CFG_EN d &&
        ((s.start dt).dstOf d).lcell != some l) = true := by
      simp only [Bool.and_eq_true, bne_iff_ne]
      exact ⟨⟨⟨up, carries⟩, en⟩, fresh⟩
    rw [if_pos due]
    generalize hx : State.putDst (s.start dt) d _ = x
    have noted : Noted dt s x := hx ▸ .putDst ..
    refine ⟨?_, ?_, ?_, noted.framed (by rw [← hx, State.putDst_but _ _ _ _ (by simp)]) _ _ _ _ _⟩
    · rw [State.dstOf, State.settleSets_dst, State.sendCell_dst, ← hx]
      exact congrArg DstS.lcell (State.putDst_dstOf ..)
    · rw [State.dstOf, State.settleSets_dst, State.sendCell_dst, ← hx]
      exact congrArg DstS.lcount (State.putDst_dstOf ..)
    · rw [State.settleSets_now, State.sendCell_now, noted.rd, noted.rd, noted.rd, noted.txLead]
      exact noted.mem_sendCell sends 3 d _ (by simp [kilnBytes])

end

section
/-! A line of a destination whose essence stream stands at a number of more than 16 bits (O18). -/

set_option autoImplicit false

namespace Sys2Proof.Machine

/-- Whether an output is a cell that begins with the bytes of a header (R121). -/
def Output.headed (h : Hdr) : Output → Bool
  | .cell _ _ bytes => bytes.take 12 == h.bytes
  | _ => false

/-- The format of FMT 22: 8 cells in each active line. -/
def fmt525 : Fmt := ⟨2, 2, true, 720, 243, 525, 10, 273⟩

/-- A device whose destination 0 sends black frames of FMT 22 on bundle 0, which is up. The essence stream of the slot stands at
65536, while a cell's SEQ has 16 bits. -/
def wideSeq : State :=
  (([(Fld.WARP_DST_CFG_FMT, 22), (Fld.WARP_DST_CFG_EN, 1), (Fld.CELL_DST_BIND_EN, 1), (Fld.IZL_LINK_STAT_STATE, 5),
    (Fld.IZL_LINK_CTL_ENABLE, 1)].foldl (fun s p => s.wr p.1 0 p.2) ({} : State)).putDst 0 { launch := some 0 }).putTxb 0
      { seq := [(1, 65536)] }

/-- The header of the first cell of a frame with that number modulo 2^16 (R129). -/
def wrappedHdr : Hdr := { wideSeq.txHdr 1 0 0 255 22 with sof := true }

/-- The device sends the frame's first line without a cell of that header: the first cell's SEQ is 65536, whose bit 16 falls on
HOLDER. The CRCs are put in the form that the kernel evaluates byte by byte. -/
theorem wideSeq_line : ∃ t, exec (.dstLineBoundary 0 0 false 0) wideSeq = .next t ∧
    t.out.any (Output.headed wrappedHdr) = false := by
  refine ⟨_, execDstLineBoundary.eq_def .., ?_⟩
  simp only [State.sendLine, State.sendHdr, cellOf_eq, cellCrc, crc32_eq_go]
  decide +kernel

end Sys2Proof.Machine

open Sys2Proof Sys2Proof.Machine

/-- Refutes O18, by its ninth clause: it asks that cell `i` of a line carries SEQ (q + i) mod 2^16, where `q` is the stream's next
number, but the line's first cell carries `q` itself, and no hypothesis bounds `q` by the 16 bits of SEQ. -/
theorem not_seamFrames : ¬ Obligations.SeamFrames := by
  unfold Obligations.SeamFrames
  intro h
  obtain ⟨-, -, -, -, -, -, -, -, line⟩ := h
  obtain ⟨t, e, sent, -⟩ := line wideSeq 0 0 fmt525 false 0 0 0 0 .black rfl (by decide +kernel) (by decide +kernel)
    (by decide +kernel) (by decide +kernel) (by decide +kernel) (by decide +kernel)
  obtain ⟨t', e', unsent⟩ := wideSeq_line
  obtain rfl : t' = t := by simpa using e'.symm.trans e
  rw [List.any_eq_false] at unsent
  exact unsent _ (sent 0 (by decide)) (by decide +kernel)

end

section
/-! What memory reads once bytes are cleared, what a counter reads once it has counted, and what raising a fault leaves of
memory, the sources, Cask and the time service. -/

set_option autoImplicit false

namespace Sys2Proof.Machine

/-- A read of a store of which only the keys that meet a condition are kept. -/
theorem tget_filter_key {α : Type} (d : α) (t : List (Nat × α)) (p : Nat → Bool) (k : Nat) :
    tget d (t.filter fun q => p q.1) k = if p k then tget d t k else d := by
  induction t with
  | nil => simp
  | cons q t ih =>
    by_cases key : q.1 = k
    · subst key
      cases kept : p q.1 <;> simp [kept, tget, ih]
    · cases kept : p q.1 <;> simp [kept, tget, key, ih]

/-- A byte that is cleared reads 0, and every other byte as before. -/
theorem State.byteAt_clearBytes (s : State) (a n x : Nat) :
    (s.clearBytes a n).byteAt x = if a ≤ x ∧ x < a + n then 0 else s.byteAt x := by
  refine (tget_filter_key 0 s.mem (fun y => y < a || a + n ≤ y) x).trans ?_
  by_cases cleared : a ≤ x ∧ x < a + n
  · rw [if_pos cleared, if_neg (by simp; omega)]
  · rw [if_neg cleared, if_pos (by simp; omega)]
    rfl

theorem satTo_le (m n : Nat) : satTo m n ≤ m := by
  unfold satTo
  split
  · assumption
  · exact Nat.le_refl m

/-- A counter that counts reads what it has counted to. -/
theorem State.rd_bump_same (s : State) (f : Field) (i n : Nat) : (s.bump f i n).rd f i = s.counted f i n := by
  have bound : s.counted f i n < 2 ^ f.width :=
    (Nat.lt_iff_le_pred (Nat.two_pow_pos f.width)).mpr (satTo_le ..)
  exact (State.rd_wr_same ..).trans (Nat.mod_eq_of_lt bound)

/-- That a field is none of a list is computed from the keys. -/
theorem Field.off_of_all {f : Field} {l : List Field} (h : (l.all fun g => g.key % 1024 != f.key % 1024) = true) :
    f.off l := by
  simpa [Field.off] using h

theorem State.raise_keep (s : State) (fs i detail : Nat) : (s.raise fs i detail).but faultParts = s.but faultParts :=
  State.raise_but _ _ _ _ _ (by simp [faultParts])

@[simp] theorem State.raise_mem (s : State) (fs i detail : Nat) : (s.raise fs i detail).mem = s.mem :=
  (congrArg State.mem (s.raise_keep fs i detail) :)

@[simp] theorem State.raise_src (s : State) (fs i detail : Nat) : (s.raise fs i detail).src = s.src :=
  (congrArg State.src (s.raise_keep fs i detail) :)

@[simp] theorem State.raise_cask (s : State) (fs i detail : Nat) : (s.raise fs i detail).cask = s.cask :=
  (congrArg State.cask (s.raise_keep fs i detail) :)

@[simp] theorem State.raise_tsvc (s : State) (fs i detail : Nat) : (s.raise fs i detail).tsvc = s.tsvc :=
  (congrArg State.tsvc (s.raise_keep fs i detail) :)

@[simp] theorem State.cond_mem (s : State) (fs i : Nat) (holds : Bool) : (s.cond fs i holds).mem = s.mem := by
  cases holds
  · rfl
  · exact s.raise_mem fs i 0

@[simp] theorem State.cond_cask (s : State) (fs i : Nat) (holds : Bool) : (s.cond fs i holds).cask = s.cask := by
  cases holds
  · rfl
  · exact s.raise_cask fs i 0

theorem State.mem_of_but {s t : State} {k : List Part} (h : s.but k = t.but k) (hk : Part.mem ∉ k) : s.mem = t.mem := by
  simpa [State.but, hk] using congrArg State.mem h

@[simp] theorem State.event_mem (s : State) (cls code inst : Nat) (detail : List Byte) :
    (s.event cls code inst detail).mem = s.mem :=
  State.mem_of_but (State.event_but s _ _ _ _ [.out, .rv, .egr, .sess] (by simp)) (by simp)

end Sys2Proof.Machine
end

section
/-! Cask's memory errors (O35): what the retirement of a page leaves, corrected errors, what an uncorrectable one hits, and the
pages whose copy is done. -/

set_option autoImplicit false

namespace Sys2Proof.Machine

/-! The retirement of a page touches nothing but the list of pages being copied. -/

@[simp] theorem State.retirePage_mem (s : State) (page word : Nat) : (s.retirePage page word).mem = s.mem :=
  (congrArg State.mem (State.retirePage_but s page word [.cask] (by simp)) :)

@[simp] theorem State.retirePage_src (s : State) (page word : Nat) : (s.retirePage page word).src = s.src :=
  (congrArg State.src (State.retirePage_but s page word [.cask] (by simp)) :)

@[simp] theorem State.retirePage_tsvc (s : State) (page word : Nat) : (s.retirePage page word).tsvc = s.tsvc :=
  (congrArg State.tsvc (State.retirePage_but s page word [.cask] (by simp)) :)

@[simp] theorem State.retirePage_mntl (s : State) (page word : Nat) : (s.retirePage page word).mntl = s.mntl :=
  (congrArg State.mntl (State.retirePage_but s page word [.cask] (by simp)) :)

@[simp] theorem State.retirePage_stands (s : State) (page word g j : Nat) :
    (s.retirePage page word).stands g j = s.stands g j :=
  (congrArg (fun x => State.stands x g j) (State.retirePage_but s page word [.cask] (by simp)) :)

/-- A page that is neither retired nor being copied is copied while a spare remains (R305). -/
theorem State.retirePage_copying {s : State} {page : Nat} (inUse : s.pageGone page = false)
    (spare : s.cask.copying.length < s.rd Fld.CASK_SPARE_STAT_SPARES_LEFT 0) (word : Nat) :
    (s.retirePage page word).cask.copying = s.cask.copying ++ [(page, word)] := by
  rw [State.retirePage, if_neg (by simp [inUse, spare])]
  rfl

/-- Without a spare nothing is retired (R308). -/
theorem State.retirePage_of_no_spare {s : State}
    (empty : s.rd Fld.CASK_SPARE_STAT_SPARES_LEFT 0 ≤ s.cask.copying.length) (page word : Nat) :
    s.retirePage page word = s := by
  rw [State.retirePage, if_pos (by simp [empty])]

/-! Corrected errors. -/

/-- A corrected error enters the health record and the counter (R302, R660). -/
def State.ceSeen (s : State) : State := (s.onMntl fun z => { z with ce := s.mntl.ce + 1 }).bump Fld.CASK_CNT_CE_CNT 0 1

theorem State.ceSeen_rd (s : State) {f : Field} {i : Nat} (h : Fld.CASK_CNT_CE_CNT.at 0 ≠ f.at i) :
    s.ceSeen.rd f i = s.rd f i :=
  (State.rd_wr_place _ _ _ _ _ _ h).trans (State.rd_of_rv rfl f i)

theorem State.ceSeen_count (s : State) : s.ceSeen.rd Fld.CASK_CNT_CE_CNT 0 = s.counted Fld.CASK_CNT_CE_CNT 0 1 :=
  State.rd_bump_same ..

/-- What a corrected error does beside Cask's own records. -/
theorem Framed.corrected {dt : Nat} {s x : State} (h : ∀ k, Part.cask ∈ k → x.but k = (s.start dt).ceSeen.but k) :
    x.settleSets.rd Fld.CASK_CNT_CE_CNT 0 = s.counted Fld.CASK_CNT_CE_CNT 0 1 ∧ x.settleSets.mntl.ce = s.mntl.ce + 1 ∧
      Framed dt s x.settleSets [(Fld.CASK_CNT_CE_CNT, 0)] [.mntl, .cask] := by
  have only : x.but [.cask] = (s.start dt).ceSeen.but [.cask] := h _ (by simp)
  have rd : ∀ f i, x.rd f i = (s.start dt).ceSeen.rd f i := State.rd_of_rv (congrArg State.rv only :)
  refine ⟨?_, ?_, .settle (congrArg State.up only :) (congrArg State.now only :) ?_ fun f i away => ?_⟩
  · rw [State.settleSets_rd _ _ _ (Field.off_of_all rfl), rd, State.ceSeen_count]
    rfl
  · rw [State.settleSets_mntl]
    exact (congrArg (fun y => State.mntl y |>.ce) only :)
  · rw [h _ (by simp)]
    simp [State.ceSeen, mainParts, timeParts]
  · rw [rd, State.ceSeen_rd _ (away (Fld.CASK_CNT_CE_CNT, 0) (by simp)), State.start_rd]

/-- A corrected error is counted; what else it does, noting it with its page and retiring that, stays in Cask's own records
(R302, R303). -/
theorem caskCorrectedError_counts {s : State} (dt : Nat) (page : Fin 1572864) (hs : s.runs) :
    Completes (.caskCorrectedError dt page) s fun t =>
      t.rd Fld.CASK_CNT_CE_CNT 0 = s.counted Fld.CASK_CNT_CE_CNT 0 1 ∧ t.mntl.ce = s.mntl.ce + 1 ∧
      Framed dt s t [(Fld.CASK_CNT_CE_CNT, 0)] [.mntl, .cask] := by
  refine .main (execCaskCorrectedError.eq_def ..) hs (Framed.corrected fun k hk => ?_)
  dsimp only
  split <;> simp [State.ceSeen, hk]

/-- With a limit of 1 the first corrected error of a page retires it (R303). -/
theorem caskCorrectedError_retires {s : State} (dt : Nat) {page : Fin 1572864} (hs : s.runs)
    (limit : s.rd Fld.CASK_ECC_CTL_CE_LIMIT 0 = 1) (inUse : s.pageGone page = false)
    (spare : s.cask.copying.length < s.rd Fld.CASK_SPARE_STAT_SPARES_LEFT 0) :
    Completes (.caskCorrectedError dt page) s fun t => t.cask.copying = s.cask.copying ++ [(page.val, 0)] := by
  refine .main (execCaskCorrectedError.eq_def ..) hs ?_
  dsimp only
  have rd : ∀ f : Field, Fld.CASK_CNT_CE_CNT.at 0 ≠ f.at 0 → (s.start dt).ceSeen.rd f 0 = s.rd f 0 := fun f hf =>
    (s.start dt).ceSeen_rd hf
  have limit' := (rd Fld.CASK_ECC_CTL_CE_LIMIT (by decide)).trans limit
  rw [← State.ceSeen, limit', if_pos (by simp), State.settleSets_cask]
  refine (State.retirePage_copying (by exact inUse) ?_ 0).trans rfl
  rw [State.onCask_rd, rd _ (by decide)]
  exact spare

/-! Uncorrectable errors. -/

/-- An uncorrectable error before anything is raised: it is counted, and does to what it hits what R304 says. -/
def State.ueHit (s : State) (at_ : UeAt) : State := (s.ueSeen.bump Fld.CASK_CNT_UE_CNT 0 1).ueEffect at_

/-- What an uncorrectable error raises: that it happened, and that no spare is left for its page (R304, R308). -/
def State.ueRaise (s : State) (page : Nat) : State :=
  let s := s.raise 128 0 0
  if s.rd Fld.CASK_SPARE_STAT_SPARES_LEFT 0 ≤ s.cask.copying.length && !s.pageGone page then s.raise 131 0 0 else s

/-- The state an uncorrectable error ends in: after the hit, what is raised, and the retirement of its page, which makes a word
zero. -/
def State.ueEnd (s : State) (page : Nat) (at_ : UeAt) (word : Nat) : State :=
  (((s.ueHit at_).ueRaise page).retirePage page word).settleSets

/-- An uncorrectable error completes with what holds of the state it ends in, whatever word becomes zero. -/
theorem Completes.ue {dt : Nat} {page : Fin 1572864} {at_ : UeAt} {s : State} {P : State → Prop} (hs : s.runs)
    (h : ∀ word, P ((s.start dt).ueEnd page at_ word)) : Completes (.caskUncorrectableError dt page at_) s P :=
  .main (execCaskUncorrectableError.eq_def ..) hs (h _)

theorem State.ueRaise_keep (s : State) (page : Nat) : (s.ueRaise page).but faultParts = s.but faultParts := by
  rw [State.ueRaise, but_ite, State.raise_keep, State.raise_keep, ite_self]

@[simp] theorem State.ueRaise_mem (s : State) (page : Nat) : (s.ueRaise page).mem = s.mem :=
  (congrArg State.mem (s.ueRaise_keep page) :)

@[simp] theorem State.ueRaise_src (s : State) (page : Nat) : (s.ueRaise page).src = s.src :=
  (congrArg State.src (s.ueRaise_keep page) :)

@[simp] theorem State.ueRaise_cask (s : State) (page : Nat) : (s.ueRaise page).cask = s.cask :=
  (congrArg State.cask (s.ueRaise_keep page) :)

@[simp] theorem State.ueRaise_tsvc (s : State) (page : Nat) : (s.ueRaise page).tsvc = s.tsvc :=
  (congrArg State.tsvc (s.ueRaise_keep page) :)

theorem State.ueRaise_ue (s : State) (page : Nat) : (s.ueRaise page).mntl.ue = s.mntl.ue := by
  unfold State.ueRaise
  dsimp only
  split
  · rw [State.raise_ue, State.raise_ue]
  · rw [State.raise_ue]

theorem State.ueRaise_rd (s : State) (page : Nat) {f : Field} (h : f.off faultFields) (i : Nat) :
    (s.ueRaise page).rd f i = s.rd f i := by
  rw [State.ueRaise, rd_ite, State.raise_rd _ _ _ _ _ _ h, State.raise_rd _ _ _ _ _ _ h, ite_self]

/-- An uncorrectable error stands (R304). -/
theorem State.ueRaise_stands (s : State) (page : Nat) : (s.ueRaise page).stands 128 0 = true := by
  have raised : (s.raise 128 0 0).stands 128 0 = true := State.raise_stands_same _ rfl _ _
  unfold State.ueRaise
  dsimp only
  split
  · exact State.stands_raise_of_stands raised _ _ _
  · exact raised

/-- Without a spare for the page, that stands as well (R308). -/
theorem State.ueRaise_stands_of_no_spare {s : State} {page : Nat} (inUse : s.pageGone page = false)
    (empty : s.rd Fld.CASK_SPARE_STAT_SPARES_LEFT 0 ≤ s.cask.copying.length) : (s.ueRaise page).stands 131 0 = true := by
  have left : (s.raise 128 0 0).rd Fld.CASK_SPARE_STAT_SPARES_LEFT 0 = s.rd Fld.CASK_SPARE_STAT_SPARES_LEFT 0 :=
    State.raise_rd _ _ _ _ _ _ (Field.off_of_all rfl)
  have inUse' : (s.raise 128 0 0).pageGone page = false := by
    rw [← inUse, State.pageGone, State.pageGone, State.raise_cask]
  rw [State.ueRaise, left, State.raise_cask, inUse', if_pos (by simp [empty])]
  exact State.raise_stands_same _ rfl _ _

/-- The hit leaves the register fields but the counter and what an event may move. -/
theorem State.ueHit_rd (s : State) (at_ : UeAt) {f : Field}
    (h : f.off (Fld.CASK_CNT_UE_CNT :: settleFields)) (i : Nat) : (s.ueHit at_).rd f i = s.rd f i := by
  simp only [settleFields, Field.off_cons] at h
  simp [State.ueHit, h]

/-- The error is counted in the register (R304). -/
theorem State.ueHit_count (s : State) (at_ : UeAt) :
    (s.ueHit at_).rd Fld.CASK_CNT_UE_CNT 0 = s.counted Fld.CASK_CNT_UE_CNT 0 1 := by
  rw [State.ueHit, State.ueEffect_rd _ _ _ _ (Field.off_of_all rfl), State.rd_bump_same]
  rfl

/-- No error's effect touches Cask's records. -/
theorem State.ueHit_cask (s : State) (at_ : UeAt) : (s.ueHit at_).cask = s.cask :=
  (congrArg State.cask (State.ueEffect_but (s.ueSeen.bump Fld.CASK_CNT_UE_CNT 0 1) at_
    [.out, .rv, .mem, .src, .mash, .tsvc, .egr, .sess] (by simp)) :)

/-- The health record holds the error once (R660), whatever it hits. -/
theorem State.ueHit_mntl (s : State) (at_ : UeAt) : (s.ueHit at_).mntl = s.ueSeen.mntl :=
  (congrArg State.mntl (State.ueEffect_but (s.ueSeen.bump Fld.CASK_CNT_UE_CNT 0 1) at_
    [.out, .rv, .mem, .src, .mash, .tsvc, .egr, .sess] (by simp)) :)

@[simp] theorem State.ueEnd_mem (s : State) (page : Nat) (at_ : UeAt) (word : Nat) :
    (s.ueEnd page at_ word).mem = (s.ueHit at_).mem := by
  simp [State.ueEnd]

@[simp] theorem State.ueEnd_src (s : State) (page : Nat) (at_ : UeAt) (word : Nat) :
    (s.ueEnd page at_ word).src = (s.ueHit at_).src := by
  simp [State.ueEnd]

@[simp] theorem State.ueEnd_tsvc (s : State) (page : Nat) (at_ : UeAt) (word : Nat) :
    (s.ueEnd page at_ word).tsvc = (s.ueHit at_).tsvc := by
  simp [State.ueEnd]

theorem State.ueEnd_ue (s : State) (page : Nat) (at_ : UeAt) (word : Nat) :
    (s.ueEnd page at_ word).mntl.ue = s.mntl.ue + 1 := by
  rw [State.ueEnd, State.settleSets_mntl, State.retirePage_mntl, State.ueRaise_ue, State.ueHit_mntl]
  rfl

theorem State.ueEnd_count (s : State) (page : Nat) (at_ : UeAt) (word : Nat) :
    (s.ueEnd page at_ word).rd Fld.CASK_CNT_UE_CNT 0 = s.counted Fld.CASK_CNT_UE_CNT 0 1 := by
  rw [State.ueEnd, State.settleSets_rd _ _ _ (Field.off_of_all rfl), State.retirePage_rd,
    State.ueRaise_rd _ _ (Field.off_of_all rfl), State.ueHit_count]

theorem State.ueEnd_stands (s : State) (page : Nat) (at_ : UeAt) (word : Nat) :
    (s.ueEnd page at_ word).stands 128 0 = true := by
  rw [State.ueEnd, State.settleSets_stands, State.retirePage_stands, State.ueRaise_stands]

/-- Without a spare for its page, the error raises that too, and no copy begins (R308). -/
theorem State.ueEnd_of_no_spare {s : State} {page : Nat} (inUse : s.pageGone page = false)
    (empty : s.rd Fld.CASK_SPARE_STAT_SPARES_LEFT 0 ≤ s.cask.copying.length) (at_ : UeAt) (word : Nat) :
    (s.ueEnd page at_ word).stands 131 0 = true ∧ (s.ueEnd page at_ word).cask.copying = s.cask.copying := by
  have cask : (s.ueHit at_).cask = s.cask := s.ueHit_cask at_
  have inUse' : (s.ueHit at_).pageGone page = false := by
    rw [← inUse, State.pageGone, State.pageGone, cask]
  have empty' : (s.ueHit at_).rd Fld.CASK_SPARE_STAT_SPARES_LEFT 0 ≤ (s.ueHit at_).cask.copying.length := by
    rw [State.ueHit_rd _ _ (Field.off_of_all rfl), cask]
    exact empty
  rw [State.ueEnd, State.settleSets_stands, State.settleSets_cask, State.retirePage_of_no_spare]
  · exact ⟨State.ueRaise_stands_of_no_spare inUse' empty', by rw [State.ueRaise_cask, cask]⟩
  · rw [State.ueRaise_rd _ _ (Field.off_of_all rfl), State.ueRaise_cask]
    exact empty'

/-- A surface's 64-byte beat is cleared (R304). -/
theorem State.ueHit_surface_mem (s : State) (h : Fin 4096) (off : BitVec 32) :
    (s.ueHit (.surface h off)).mem = (s.clearBytes (surfAddr h (off.toNat / 64 * 64)) 64).mem := by
  simp only [State.ueHit, State.ueEffect, State.event_mem, State.clearBytes, State.setMem_mem]
  rfl

theorem State.ueEnd_surface_byteAt (s : State) (page : Nat) (h : Fin 4096) (off : BitVec 32) (word a : Nat) :
    (s.ueEnd page (.surface h off) word).byteAt a =
      if surfAddr h (off.toNat / 64 * 64) ≤ a ∧ a < surfAddr h (off.toNat / 64 * 64) + 64 then 0 else s.byteAt a := by
  rw [State.byteAt, State.ueEnd_mem, State.ueHit_surface_mem]
  exact State.byteAt_clearBytes ..

/-- The line of a ring slot is noted, and the frame in the slot is no longer complete (R304). -/
theorem State.ueHit_ring_slots {s : State} {k : Fin 1168} {slot : Nat} {fr : Frame} (h : (s.srcOf k).slots = [(slot, fr)])
    (field : Bool) (line : Nat) : ((s.ueHit (.ring k slot field line)).srcOf k).slots =
      [(slot, { fr with bad := (b2n field * 4096 + line) :: fr.bad, complete := false })] := by
  have same : (s.ueSeen.bump Fld.CASK_CNT_UE_CNT 0 1).srcOf k = s.srcOf k := rfl
  simp [State.ueHit, State.ueEffect, same, h]

/-- An entry whose three grants have ended has none. -/
theorem State.endGrants_anyGrant (s : State) (i : Nat) : ((s.endGrants i).tentOf i).anyGrant = false := by
  have ended : ∀ (x : State) (kind : Nat), (x.endGrant i kind).tentOf i =
      (x.tentOf i).setGrant kind { (x.tentOf i).grant kind with on := false } := fun x kind => tget_tput_same ..
  simp [State.endGrants, ended, TEntry.setGrant, TEntry.grant, TEntry.anyGrant]

/-- A session entry that is hit is invalid and has no grant (R304). -/
theorem State.ueHit_session_tentOf (s : State) (i : Fin 1048576) :
    ((s.ueHit (.session i)).tentOf i).valid = false ∧ ((s.ueHit (.session i)).tentOf i).anyGrant = false := by
  generalize hx : s.ueSeen.bump Fld.CASK_CNT_UE_CNT 0 1 = x
  have entry : (s.ueHit (.session i)).tentOf i = { (x.endGrants i).tentOf i with valid := false } := by
    rw [← hx]
    exact tget_tput_same ..
  rw [entry]
  exact ⟨rfl, x.endGrants_anyGrant i⟩

/-! Pages retired. -/

/-- A page whose copy is done: it is retired with the spare that took it, which is counted and raised (R305 to R307). -/
theorem pageRetireDone_retires {s : State} (dt : Nat) {page : Fin 1572864} (hs : s.runs)
    (copied : s.cask.copying.find? (fun q => q.1 == page.val) = some (page.val, 0)) :
    Completes (.pageRetireDone dt page) s fun t =>
      (t.cask.copying = s.cask.copying.filter fun x => x.1 != page.val) ∧
      t.cask.retired = tinsert s.cask.retired page.val (16384 - s.rd Fld.CASK_SPARE_STAT_SPARES_LEFT 0) ∧
      t.rd Fld.CASK_CNT_RETIRED_CNT 0 = s.counted Fld.CASK_CNT_RETIRED_CNT 0 1 ∧
      t.stands 129 0 = true ∧ t.stands 130 0 = decide (s.rd Fld.CASK_SPARE_STAT_SPARES_LEFT 0 - 1 < 820) ∧
      (∀ a : Nat, t.byteAt a = s.byteAt a) := by
  refine .main (execPageRetireDone.eq_def ..) hs ?_
  have copied' : (s.start dt).cask.copying.find? (fun q => q.1 == page.val) = some (page.val, 0) := copied
  dsimp only
  rw [copied']
  dsimp only
  rw [if_pos rfl, State.start_rd]
  generalize hx : State.bump _ Fld.CASK_CNT_RETIRED_CNT 0 1 = x
  have cask : x.cask = { s.cask with
      copying := s.cask.copying.filter fun y => y.1 != page.val
      retired := tinsert s.cask.retired page.val (16384 - s.rd Fld.CASK_SPARE_STAT_SPARES_LEFT 0)
      ce := terase s.cask.ce page.val } := by rw [← hx]; rfl
  have mem : x.mem = s.mem := by rw [← hx]; rfl
  have count : x.rd Fld.CASK_CNT_RETIRED_CNT 0 = s.counted Fld.CASK_CNT_RETIRED_CNT 0 1 := by
    rw [← hx, State.rd_bump_same, State.counted, State.wr_rd _ _ _ _ _ _ (by decide), State.onCask_rd, State.start_rd]
    rfl
  refine ⟨?_, ?_, ?_, ?_, ?_, fun a => ?_⟩
  · simp [cask]
  · simp [cask]
  · rw [State.settleSets_rd _ _ _ (Field.off_of_all rfl), State.cond_rd _ _ _ _ _ _ (Field.off_of_all rfl),
      State.raise_rd _ _ _ _ _ _ (Field.off_of_all rfl), State.flag_rd _ _ _ _ _ _ (by decide), count]
  · rw [State.settleSets_stands]
    exact State.stands_cond_of_stands (State.raise_stands_same _ rfl _ _) (by decide) _
  · rw [State.settleSets_stands]
    exact State.cond_stands_same _ rfl _ _
  · simp [State.byteAt, mem]

end Sys2Proof.Machine

open Sys2Proof Sys2Proof.Machine

/-- Settles O35, clause by clause: corrected errors, what an uncorrectable one hits, a page without a spare, and a page
whose copy is done. -/
theorem caskErrors : Obligations.CaskErrors := by
  unfold Obligations.CaskErrors
  refine ⟨fun s dt page hs => caskCorrectedError_counts dt page hs,
    fun s dt page hs ⟨limit, inUse⟩ spare => caskCorrectedError_retires dt hs limit inUse spare, ?_, ?_, ?_, ?_,
    fun s dt page hs copied => pageRetireDone_retires dt hs copied⟩
  · -- The 64 bytes of the surface become 0, and no others (R304).
    intro s dt page h off hs
    refine .ue hs fun word =>
      ⟨State.ueEnd_count .., State.ueEnd_ue .., State.ueEnd_stands .., fun i => ?_, fun a away => ?_⟩
    · rw [State.ueEnd_surface_byteAt, if_pos (by simp only [surfAddr]; omega)]
    · rw [State.ueEnd_surface_byteAt, if_neg (by omega)]
      rfl
  · -- The line of the ring slot is marked bad, and its frame is no longer complete (R304).
    intro s dt page k slot line field fr hs slots
    refine .ue hs fun word => ⟨?_, State.ueEnd_stands ..⟩
    rw [State.srcOf, State.ueEnd_src]
    exact State.ueHit_ring_slots slots field line
  · -- The session entry becomes invalid, and its grants end (R304).
    intro s dt page i hs
    refine .ue hs fun word => ?_
    rw [State.tentOf, State.ueEnd_tsvc]
    obtain ⟨invalid, ended⟩ := State.ueHit_session_tentOf (s.start dt) i
    exact ⟨invalid, ended, State.ueEnd_stands ..⟩
  · -- No spare is left for the page (R308).
    intro s dt page at_ hs ⟨inUse, empty⟩
    refine .ue hs fun word => State.ueEnd_of_no_spare (s := s.start dt) inUse ?_ at_ word
    rw [State.start_rd]
    exact empty

end

section
/-! A signature region that stands in mismatch when its limit is raised (O19). -/

set_option autoImplicit false

namespace Sys2Proof.Machine

/-- A device whose head 0 emits frames of 1280 x 720 and checks signatures. Its region 5 has been reported after one bad frame, and
since then MISMATCH_N has been written with 2. -/
def raisedLimit : State :=
  (([(Fld.STCH_HEAD_CFG_FMT, 1), (Fld.STCH_HEAD_STAT_RUNNING, 1), (Fld.STCH_HEAD_CFG_SAFETY, 2),
    (Fld.STCH_SIG_CTL_MISMATCH_N, 2), (Fld.STCH_SIG_CTL_EN, 32), (Fld.STCH_SIG_STAT_MISMATCH, 32),
    (Fld.STCH_HEAD_CNT_SIG_MISMATCH, 1)].foldl (fun s p => s.wr p.1 0 p.2) ({} : State)).wr Fld.STCH_SIG_EXP_EXP 5 9
      |>.putHead 0 { bad := [(5, 1)] }).putSrc 1152 { vat := [{}] }

/-- The next bad frame is the second in a row, but the region stands reported already and is not counted again (R370). -/
theorem raisedLimit_frameEnd : ∃ t, exec (.headFrameEnd 0 0) raisedLimit = .next t ∧
    t.rd Fld.STCH_SIG_VAL_VAL 5 = 0 ∧ t.rd Fld.STCH_HEAD_CNT_SIG_MISMATCH 0 = 1 :=
  ⟨_, rfl, by decide +kernel⟩

end Sys2Proof.Machine

open Sys2Proof Sys2Proof.Machine

/-- Refutes O19, by its eighth clause: it asks that a region is counted when its bad frames reach MISMATCH_N, but MISMATCH_N may be
raised while the region stands reported, and a region is counted only when its bit in SIG_STAT is set anew (R370). No hypothesis
says that the bit is 0. -/
theorem not_headFrames : ¬ Obligations.HeadFrames := by
  unfold Obligations.HeadFrames
  intro h
  obtain ⟨-, -, -, -, -, -, -, mismatch⟩ := h
  obtain ⟨t, e, counts⟩ := mismatch raisedLimit 0 0 5 (fmt720 0) {} [] rfl (by decide +kernel) (by decide +kernel)
    (by decide +kernel) (by decide +kernel) (by decide +kernel)
  obtain ⟨t', e', val, count⟩ := raisedLimit_frameEnd
  obtain rfl : t' = t := by simpa using e'.symm.trans e
  have differs : t'.rd Fld.STCH_SIG_VAL_VAL 5 ≠ raisedLimit.rd Fld.STCH_SIG_EXP_EXP 5 := by
    rw [val]
    decide +kernel
  obtain ⟨-, -, counted⟩ := counts differs
  exact absurd (count.symm.trans counted) (by decide +kernel)

end

section
/-! Heads that underrun, aprons and their pins, dropped layers and proxies (O20). -/

set_option autoImplicit false

namespace Sys2Proof.Machine

/-! A bit that has been set or cleared. -/

theorem bitOf_eq_testBit (n i : Nat) : bitOf n i = n.testBit i := by
  rw [Nat.testBit_eq_decide_div_mod_eq]
  rfl

theorem bitOf_setBitTo (n i : Nat) (b : Bool) : bitOf (setBitTo n i b) i = b := by
  unfold setBitTo
  split
  · assumption
  · next old =>
    cases b
    · have was : n / 2 ^ i % 2 = 1 := by simpa [bitOf] using old
      have now : (n - 2 ^ i) / 2 ^ i = n / 2 ^ i - 1 := by simpa using Nat.sub_mul_div n (2 ^ i) 1
      simp only [bitOf, Bool.false_eq_true, if_false, now, beq_eq_false_iff_ne]
      omega
    · have was : n / 2 ^ i % 2 ≠ 1 := by simpa [bitOf] using old
      simp only [bitOf, if_true, Nat.add_div_right _ (Nat.two_pow_pos i), beq_iff_eq]
      omega

/-- A field that has had one of its bits given reads that bit. -/
theorem State.bitOf_wr_setBitTo (s : State) (f : Field) (j n : Nat) {i : Nat} (h : i < f.width) (b : Bool) :
    bitOf ((s.wr f j (setBitTo n i b)).rd f j) i = b := by
  rw [State.rd_wr_same, bitOf_eq_testBit, Nat.testBit_mod_two_pow, ← bitOf_eq_testBit, bitOf_setBitTo, decide_eq_true h,
    Bool.true_and]

/-! Loops over heads. -/

/-- A loop in which `h` has one turn: what that turn makes of the state as the others leave it, the others leave. -/
theorem State.each_turn {g : State → Nat → State} {h : Nat} {P Q : State → Prop}
    (before : ∀ x j, j ≠ h → P x → P (g x j)) (turn : ∀ x, P x → Q (g x h)) (after : ∀ x j, j ≠ h → Q x → Q (g x j))
    {l : List Nat} (once : l.Nodup) (mem : h ∈ l) {s : State} (start : P s) : Q (s.each l g) := by
  have rest : ∀ (l : List Nat) (x : State), h ∉ l → Q x → Q (x.each l g) := by
    intro l
    induction l with
    | nil => exact fun x _ hx => hx
    | cons j l ih =>
      intro x out hx
      have other : j ≠ h := fun e => out (e ▸ List.mem_cons_self)
      exact ih _ (List.not_mem_of_not_mem_cons out) (after x j other hx)
  induction l generalizing s with
  | nil => exact absurd mem List.not_mem_nil
  | cons j l ih =>
    obtain ⟨out, once⟩ := List.nodup_cons.1 once
    by_cases own : j = h
    · subst own
      exact rest l _ out (turn s start)
    · exact ih once (List.mem_of_ne_of_mem (Ne.symm own) mem) (before s j own start)

/-- The four heads of a pin (R364). -/
theorem nodup_pinGroup (g : Nat) : ((List.range 4).map fun i => 4 * g + i).Nodup :=
  List.Pairwise.map (fun i => 4 * g + i) (fun a b (differ : a ≠ b) (same : 4 * g + a = 4 * g + b) => differ (by omega))
    List.nodup_range

theorem mem_pinGroup {g h : Nat} (e : h / 4 = g) : h ∈ (List.range 4).map fun i => 4 * g + i :=
  List.mem_map.2 ⟨h % 4, List.mem_range.2 (Nat.mod_lt _ (by decide)), by omega⟩

/-! What a raise and the change sets leave of the heads. -/

@[simp] theorem State.raise_head (s : State) (fs i detail : Nat) : (s.raise fs i detail).head = s.head :=
  (congrArg State.head (s.raise_keep fs i detail) :)

@[simp] theorem State.settleSets_headOf (s : State) (h : Nat) : s.settleSets.headOf h = s.headOf h := by
  rw [State.headOf, State.headOf, State.settleSets_head]

@[simp] theorem State.raise_headOf (s : State) (fs i detail h : Nat) : (s.raise fs i detail).headOf h = s.headOf h := by
  rw [State.headOf, State.headOf, State.raise_head]

/-- A field that neither a fault nor the change sets may move reads after both as before. -/
theorem State.raise_settleSets_rd (s : State) (fs j detail : Nat) {f : Field} (h : f.off faultFields)
    (h' : f.off settleFields) (i : Nat) : (s.raise fs j detail).settleSets.rd f i = s.rd f i :=
  (State.settleSets_rd _ _ _ h').trans (State.raise_rd _ _ _ _ _ _ h)

/-- The frame of a command of the main islands, from the parts that its own effect leaves. -/
theorem Framed.of_but {dt : Nat} {s x : State} {ps : List (Field × Nat)} {l : List Part} (hl : Part.up ∉ l ∧ Part.now ∉ l)
    (keep : ∀ k, Part.rv ∈ k → (∀ p ∈ l, p ∈ k) → x.but k = (s.start dt).but k)
    (rd : ∀ f i, (∀ p ∈ ps, p.1.at p.2 ≠ f.at i) → x.rd f i = s.rd f i) : Framed dt s x.settleSets ps l := by
  have own : x.but (.rv :: l) = (s.start dt).but (.rv :: l) := keep _ (by simp) (by simp +contextual)
  refine .settle ?_ ?_ ?_ rd
  · simpa [State.but, hl] using congrArg State.up own
  · simpa [State.but, hl] using congrArg State.now own
  · rw [keep _ (by simp [mainParts]) (by simp +contextual), State.start_but _ _ _ (by simp [mainParts, timeParts])]

/-! Underruns. -/

/-- How an underrun ends: the head is marked aborted, and the fault stands. -/
def State.endUnderrun (s : State) (h fs : Nat) : State :=
  ((s.flag Fld.STCH_HEAD_STAT_ABORTED h true).raise fs h 0).settleSets

theorem State.endUnderrun_headOf (s : State) (h fs : Nat) : (s.endUnderrun h fs).headOf h = s.headOf h := by
  rw [State.endUnderrun, State.settleSets_headOf, State.raise_headOf]
  rfl

theorem State.endUnderrun_aborted (s : State) (h fs : Nat) : (s.endUnderrun h fs).rd Fld.STCH_HEAD_STAT_ABORTED h = 1 := by
  rw [State.endUnderrun, State.raise_settleSets_rd _ _ _ _ (Field.off_of_all rfl) (Field.off_of_all rfl), State.flag,
    State.rd_wr_same]
  rfl

theorem State.endUnderrun_stands (s : State) (h : Nat) {fs : Nat} (info : (faultInfo fs).isSome = true) :
    (s.endUnderrun h fs).stands fs h = true := by
  rw [State.endUnderrun, State.settleSets_stands]
  exact State.raise_stands_same _ info _ _

/-- The head's counters are left. -/
theorem State.endUnderrun_rd (s : State) (h fs : Nat) {f : Field}
    (away : f.off (Fld.STCH_HEAD_STAT_ABORTED :: (faultFields ++ settleFields))) (i : Nat) :
    (s.endUnderrun h fs).rd f i = s.rd f i := by
  obtain ⟨own, fault, settle⟩ : _ ∧ f.off faultFields ∧ f.off settleFields := by
    rwa [Field.off_cons, Field.off_append] at away
  rw [State.endUnderrun, State.raise_settleSets_rd _ _ _ _ fault settle, State.flag_rd _ _ _ _ _ _ own]

/-- A head whose composite is late is aborted from there on, and the underrun is counted and stands (R356, R358). -/
theorem headUnderrun_aborts {s : State} (dt : Nat) {h : Fin 16} {f : Fmt} (e x : Nat) (hs : s.runs)
    (fmt : s.headFmt h = some f) (emits : s.emitting h = true) (whole : (s.headOf h).abort = none)
    (apron : (s.headOf h).apronAbort = none) (late : overShare f (s.fetchLoad h f).1 = true) :
    Completes (.headUnderrun dt h e x) s fun t =>
      (t.headOf h).abort = some (e, x) ∧
      t.rd Fld.STCH_HEAD_CNT_UNDERRUN h = s.counted Fld.STCH_HEAD_CNT_UNDERRUN h 1 ∧
      t.rd Fld.STCH_HEAD_STAT_ABORTED h = 1 ∧ t.stands 160 h = true := by
  refine .main (execHeadUnderrun.eq_def ..) hs ?_
  have fmt' : (s.start dt).headFmt h = some f := fmt
  have due : ((s.start dt).emitting h && ((s.start dt).headOf h).abort.isNone &&
      overShare f ((s.start dt).fetchLoad h f).1) = true := by
    simp only [Bool.and_eq_true, Option.isNone_iff_eq_none]
    exact ⟨⟨emits, whole⟩, late⟩
  have first : ((s.start dt).headOf h).apronAbort.isNone = true := Option.isNone_iff_eq_none.2 apron
  simp only [fmt']
  rw [if_pos due, if_pos first, ← State.endUnderrun]
  refine ⟨?_, ?_, State.endUnderrun_aborted .., State.endUnderrun_stands _ _ rfl⟩
  · rw [State.endUnderrun_headOf]
    exact congrArg HeadS.abort (State.putHead_headOf ..)
  · rw [State.endUnderrun_rd _ _ _ (Field.off_of_all rfl), State.rd_bump_same]
    rfl

/-- A head whose apron is late is aborted as well, and both underruns are counted (R358). -/
theorem apronUnderrun_aborts {s : State} (dt : Nat) {h : Fin 16} {f : Fmt} (e x : Nat) (hs : s.runs)
    (fmt : s.headFmt h = some f) (emits : s.emitting h = true) (has : s.apronHead h = true)
    (whole : (s.headOf h).abort = none) (apron : (s.headOf h).apronAbort = none)
    (late : overShare f (s.fetchLoad h f).1 = true) :
    Completes (.apronUnderrun dt h e x) s fun t =>
      (t.headOf h).apronAbort = some (e, x) ∧
      t.rd Fld.STCH_HEAD_CNT_UNDERRUN h = s.counted Fld.STCH_HEAD_CNT_UNDERRUN h 1 ∧
      t.rd Fld.STCH_HEAD_CNT_APRON_UNDERRUN h = s.counted Fld.STCH_HEAD_CNT_APRON_UNDERRUN h 1 ∧
      t.rd Fld.STCH_HEAD_STAT_ABORTED h = 1 ∧ t.stands 161 h = true := by
  refine .main (execApronUnderrun.eq_def ..) hs ?_
  have fmt' : (s.start dt).headFmt h = some f := fmt
  have due : ((s.start dt).emitting h && (s.start dt).apronHead h && ((s.start dt).headOf h).apronAbort.isNone &&
      overShare f ((s.start dt).fetchLoad h f).1) = true := by
    simp only [Bool.and_eq_true, Option.isNone_iff_eq_none]
    exact ⟨⟨⟨emits, has⟩, apron⟩, late⟩
  have first : ((s.start dt).headOf h).abort.isNone = true := Option.isNone_iff_eq_none.2 whole
  simp only [fmt']
  rw [if_pos due, if_pos first, ← State.endUnderrun]
  refine ⟨?_, ?_, ?_, State.endUnderrun_aborted .., State.endUnderrun_stands _ _ rfl⟩
  · rw [State.endUnderrun_headOf]
    exact congrArg HeadS.apronAbort (State.putHead_headOf ..)
  · rw [State.endUnderrun_rd _ _ _ (Field.off_of_all rfl), State.bump_rd _ _ _ _ _ _ (by decide), State.rd_bump_same]
    rfl
  · rw [State.endUnderrun_rd _ _ _ (Field.off_of_all rfl), State.rd_bump_same, State.counted,
      State.bump_rd _ _ _ _ _ _ (by decide)]
    rfl

/-! Aprons and their pins. -/

theorem State.noteApron_rd_place (s : State) (h : Nat) {f : Field} {i : Nat}
    (away : Fld.STCH_HEAD_STAT_APRON_SHOWN.at h ≠ f.at i) : (s.noteApron h).rd f i = s.rd f i :=
  State.rd_wr_place _ _ _ _ _ _ away

/-- What an apron field has been written to shows from its line on (R362). -/
theorem apronFieldApply_shows {s : State} (dt : Nat) {h : Fin 16} {t0 : Nat} {v : List Nat} {rest : List (Nat × List Nat)}
    (hs : s.runs) (due : (s.headOf h).apronDue = (t0, v) :: rest) (now : t0 ≤ fine (s.start dt).now) :
    Completes (.apronFieldApply dt h) s fun t =>
      (t.headOf h).apron = ((s.lineFrom h t0).getD 100000, v) :: (s.headOf h).apron ∧ (t.headOf h).apronDue = rest ∧
      Framed dt s t [(Fld.STCH_HEAD_STAT_APRON_SHOWN, h)] [.head] := by
  refine .main (execApronFieldApply.eq_def ..) hs ?_
  have due' : ((s.start dt).headOf h).apronDue = (t0, v) :: rest := due
  simp only [due']
  rw [if_neg (Nat.not_lt.2 now)]
  have head : ∀ x : State, (x.noteApron h).headOf h = x.headOf h := fun x => rfl
  refine ⟨?_, ?_, .of_but (by decide) (fun k rv l => by simp [rv, l]) fun f i away => ?_⟩
  · rw [State.settleSets_headOf, head, State.putHead_headOf]
    rfl
  · rw [State.settleSets_headOf, head, State.putHead_headOf]
  · rw [State.noteApron_rd_place _ _ (away (_, _) List.mem_cons_self), State.putHead_rd, State.start_rd]

/-- A turn of a loop over heads that changes at most the record of the head whose turn it is. -/
def OwnHead (g : State → Nat → State) : Prop := ∀ z j, g z j = z ∨ ∃ r, g z j = z.putHead j r

theorem OwnHead.but {g : State → Nat → State} (own : OwnHead g) (z : State) (j : Nat) {k : List Part} (hk : Part.head ∈ k) :
    (g z j).but k = z.but k := by
  obtain e | ⟨r, e⟩ := own z j <;> simp [e, hk]

theorem OwnHead.headOf_other {g : State → Nat → State} (own : OwnHead g) (z : State) {j h : Nat} (other : j ≠ h) :
    (g z j).headOf h = z.headOf h := by
  obtain e | ⟨r, e⟩ := own z j
  · rw [e]
  · rw [e, State.putHead_headOf_other _ _ _ _ other.symm]

theorem OwnHead.each_but {g : State → Nat → State} (own : OwnHead g) (s : State) (l : List Nat) {k : List Part}
    (hk : Part.head ∈ k) : (s.each l g).but k = s.but k :=
  State.each_but _ _ _ _ fun z j => own.but z j hk

theorem OwnHead.each_rd {g : State → Nat → State} (own : OwnHead g) (s : State) (l : List Nat) (f : Field) (i : Nat) :
    (s.each l g).rd f i = s.rd f i :=
  State.rd_of_rv (congrArg State.rv (own.each_but s l (List.mem_singleton_self _)) :) f i

/-- After such a loop a head's record is what its own turn made of it. -/
theorem OwnHead.each_headOf {g : State → Nat → State} (own : OwnHead g) {s : State} {l : List Nat} {h : Nat} (once : l.Nodup)
    (mem : h ∈ l) {P : HeadS → Prop}
    (turn : ∀ z, z.but [.head] = s.but [.head] → z.headOf h = s.headOf h → P ((g z h).headOf h)) :
    P ((s.each l g).headOf h) := by
  refine State.each_turn (P := fun z => z.but [.head] = s.but [.head] ∧ z.headOf h = s.headOf h)
    (Q := fun z => P (z.headOf h)) (fun z j other ⟨hz, hr⟩ => ⟨?_, ?_⟩) (fun z ⟨hz, hr⟩ => turn z hz hr)
    (fun z j other hz => ?_) once mem ⟨rfl, rfl⟩
  · rw [own.but z j (List.mem_singleton_self _), hz]
  · rw [own.headOf_other z other, hr]
  · rwa [own.headOf_other z other]

/-- A command that goes over the heads: what it makes of a head's record, and its frame. -/
theorem OwnHead.main {g : State → Nat → State} (own : OwnHead g) {dt : Nat} {s : State} {l : List Nat} {h : Nat}
    (once : l.Nodup) (mem : h ∈ l) {P : HeadS → Prop}
    (turn : ∀ z, z.but [.head] = (s.start dt).but [.head] → z.headOf h = s.headOf h → P ((g z h).headOf h)) :
    P (((s.start dt).each l g).settleSets.headOf h) ∧ Framed dt s ((s.start dt).each l g).settleSets [] [.head] := by
  refine ⟨?_, .of_but (by decide) (fun k _ hl => own.each_but _ _ (hl _ List.mem_cons_self)) fun f i _ => own.each_rd ..⟩
  rw [State.settleSets_headOf]
  exact own.each_headOf once mem turn

/-- A pin that changes is noted, and changes the records of its four heads (R364, R366). -/
theorem OwnHead.pinChange {turn : State → Nat → State} (own : OwnHead turn) (dt : Nat) (s : State) {g : Fin 4} {h : Nat}
    (pin : h / 4 = g.val) (b : Bool) {P : HeadS → Prop}
    (effect : ∀ z, z.now = (s.start dt).now → z.headFmt h = s.headFmt h → P ((turn z h).headOf h)) :
    let t := (((s.start dt).wr Fld.STCH_APRON_STAT_ASSERTED 0
      (setBitTo ((s.start dt).rd Fld.STCH_APRON_STAT_ASSERTED 0) g b)).each ((List.range 4).map fun i => 4 * g.val + i)
        turn).settleSets
    bitOf (t.rd Fld.STCH_APRON_STAT_ASSERTED 0) g = b ∧ P (t.headOf h) ∧
      Framed dt s t [(Fld.STCH_APRON_STAT_ASSERTED, 0)] [.head] := by
  generalize hx : State.wr (s.start dt) _ _ _ = x
  have now : x.now = (s.start dt).now := hx ▸ rfl
  have fmt : x.headFmt h = s.headFmt h := by
    rw [State.headFmt, State.headFmt, ← hx, State.wr_rd _ _ _ _ _ _ (by decide), State.start_rd]
  refine ⟨?_, ?_, .of_but (by decide) (fun k rv hl => ?_) fun f i away => ?_⟩
  · rw [State.settleSets_rd _ _ _ (Field.off_of_all rfl), own.each_rd, ← hx]
    exact State.bitOf_wr_setBitTo _ _ _ _ g.isLt b
  · rw [State.settleSets_headOf]
    refine own.each_headOf (nodup_pinGroup g) (mem_pinGroup pin) fun z same _ => effect z ?_ ?_
    · exact (congrArg State.now same :).trans now
    · have rd : ∀ f i, z.rd f i = x.rd f i := State.rd_of_rv (congrArg State.rv same :)
      rw [← fmt, State.headFmt, State.headFmt, rd]
  · rw [own.each_but _ _ (hl _ List.mem_cons_self), ← hx, State.wr_but _ _ _ _ _ rv]
  · rw [own.each_rd, ← hx, State.rd_wr_place _ _ _ _ _ _ (away (_, _) List.mem_cons_self), State.start_rd]

/-- An assertion of a pin is noted, and forces the aprons of its heads 2 lines later (R364, R365). -/
theorem apronNAsserted_forces {s : State} (dt : Nat) {g : Fin 4} {h : Fin 16} {f : Fmt} (hs : s.runs)
    (pin : h.val / 4 = g.val) (fmt : s.headFmt h = some f) :
    Completes (.apronNAsserted dt g) s fun t =>
      bitOf (t.rd Fld.STCH_APRON_STAT_ASSERTED 0) g = true ∧
      (t.headOf h).forceDue = some (fine (s.start dt).now + 2 * f.line) ∧
      Framed dt s t [(Fld.STCH_APRON_STAT_ASSERTED, 0)] [.head] := by
  refine .main (execApronNAsserted.eq_def ..) hs ?_
  dsimp only
  refine OwnHead.pinChange (P := fun r => r.forceDue = some (fine (s.start dt).now + 2 * f.line)) (fun z j => ?_) dt s pin
    true fun z now fmtz => ?_
  · split
    · exact .inr ⟨_, rfl⟩
    · exact .inl rfl
  · rw [fmtz, fmt, ← now]
    exact congrArg HeadS.forceDue (State.putHead_headOf ..)

/-- A pin that is let go forces nothing from the next frame on (R366). -/
theorem apronNDeasserted_ends {s : State} (dt : Nat) {g : Fin 4} {h : Fin 16} (hs : s.runs) (pin : h.val / 4 = g.val) :
    Completes (.apronNDeasserted dt g) s fun t =>
      bitOf (t.rd Fld.STCH_APRON_STAT_ASSERTED 0) g = false ∧ (t.headOf h).forceDue = none ∧
      Framed dt s t [(Fld.STCH_APRON_STAT_ASSERTED, 0)] [.head] :=
  .main (execApronNDeasserted.eq_def ..) hs
    (OwnHead.pinChange (P := fun r => r.forceDue = none) (fun _ _ => .inr ⟨_, rfl⟩) dt s pin false fun _ _ _ =>
      congrArg HeadS.forceDue (State.putHead_headOf ..))

/-- The line that a head is at follows from its format and its record. -/
theorem State.lineFrom_of_head {s z : State} {h : Nat} (fmt : z.headFmt h = s.headFmt h) (head : z.headOf h = s.headOf h)
    (t : Nat) : z.lineFrom h t = s.lineFrom h t := by
  rw [State.lineFrom, State.lineFrom, fmt, head]

/-! Layers dropped in HEM. -/

/-- When layers are dropped follows from the time, the faults and the register fields. -/
theorem State.hemDue_of_parts {s z : State} (rv : z.rv = s.rv) (flt : z.flt = s.flt) (now : z.now = s.now) (up : z.up = s.up)
    (h : Nat) : z.hemDue h = s.hemDue h := by
  have rd := State.rd_of_rv rv
  have fmt : z.headFmt h = s.headFmt h := by rw [State.headFmt, State.headFmt, rd]
  have mode : z.mode = s.mode := by rw [State.mode, State.mode, rd]
  have has : z.apronHead h = s.apronHead h := by rw [State.apronHead, State.apronHead, rd]
  simp only [State.hemDue, fmt, mode, has, flt, now, up]

/-- Whether a head emits follows from the faults and the register fields. -/
theorem State.emitting_of_parts {s z : State} (rv : z.rv = s.rv) (flt : z.flt = s.flt) (h : Nat) :
    z.emitting h = s.emitting h := by
  rw [State.emitting, State.emitting, State.on, State.on, State.rd_of_rv rv, State.fenced, State.fenced, flt]

/-- In HEM the layers of an apron head are dropped from their line on (R688). -/
theorem hemLayerDrop_drops {s : State} (dt : Nat) {h : Fin 16} {due : Nat} (hs : s.runs) (hem : s.mode = .hem)
    (at_ : (s.start dt).hemDue h = some due) (shown : (s.headOf h).dropFrom = none) (emits : s.emitting h = true)
    (now : due ≤ fine (s.start dt).now) :
    Completes (.hemLayerDrop dt) s fun t =>
      (t.headOf h).dropFrom = s.lineFrom h due ∧ Framed dt s t [] [.head] := by
  refine .main (execHemLayerDrop.eq_def ..) hs ?_
  have hem' : (s.start dt).mode = .hem := hem
  rw [if_pos hem']
  refine OwnHead.main (s := s) (h := h) (P := fun r => r.dropFrom = s.lineFrom h due) (fun z j => ?_) List.nodup_range
    (List.mem_range.2 h.isLt) fun z same head => ?_
  · split
    · dsimp only
      split
      · exact .inr ⟨_, rfl⟩
      · exact .inl rfl
    · exact .inl rfl
  · have rv : z.rv = s.rv := (congrArg State.rv same :)
    have flt : z.flt = s.flt := (congrArg State.flt same :)
    have nowz : z.now = (s.start dt).now := (congrArg State.now same :)
    have up : z.up = (s.start dt).up := (congrArg State.up same :)
    have at' : z.hemDue h = some due := (State.hemDue_of_parts (s := s.start dt) rv flt nowz up h).trans at_
    have fmt : z.headFmt h = s.headFmt h := by rw [State.headFmt, State.headFmt, State.rd_of_rv rv]
    have turn : ((z.headOf h).dropFrom.isNone && z.emitting h && decide (due ≤ fine z.now)) = true := by
      simp [head, shown, State.emitting_of_parts rv flt, emits, nowz, now]
    rw [at']
    dsimp only
    rw [if_pos turn, State.putHead_headOf]
    exact State.lineFrom_of_head fmt head due

/-! Aprons that a pin forces. -/

/-- A head whose aprons are forced, with the record it then has (R365). -/
def State.forceApron (s : State) (h : Nat) (r : HeadS) : State :=
  ((s.putHead h r).flag Fld.STCH_HEAD_STAT_APRON_FORCED h true).noteApron h

/-- A head's turn in APRON_FORCE_BEGIN (R365). -/
def State.forceTurn (s : State) (h : Nat) : State :=
  match (s.headOf h).forceDue with
  | some t =>
    if t ≤ fine s.now ∧ (s.headOf h).force.isNone then
      s.forceApron h { s.headOf h with force := some ((s.lineFrom h t).getD 100000) }
    else s
  | none => s

theorem execApronForceBegin_eq (dt : Nat) (g : Fin 4) (s : State) : execApronForceBegin dt g s = onMain dt s fun s =>
    if bitOf (s.rd Fld.STCH_APRON_STAT_ASSERTED 0) g then s.each (s.pinHeads g) State.forceTurn else s := rfl

theorem State.forceApron_headFmt (s : State) (h : Nat) (r : HeadS) (j : Nat) : (s.forceApron h r).headFmt j = s.headFmt j := by
  rw [State.headFmt, State.headFmt, State.forceApron, State.noteApron_rd _ _ _ _ (Field.off_of_all rfl),
    State.flag_rd _ _ _ _ _ _ (by decide), State.putHead_rd]

theorem State.forceApron_headOf (s : State) (h : Nat) (r : HeadS) (j : Nat) :
    (s.forceApron h r).headOf j = (s.putHead h r).headOf j := rfl

theorem State.forceApron_forced (s : State) (h : Nat) (r : HeadS) (j : Nat) :
    (s.forceApron h r).rd Fld.STCH_HEAD_STAT_APRON_FORCED j = if j = h then 1 else s.rd Fld.STCH_HEAD_STAT_APRON_FORCED j := by
  rw [State.forceApron, State.noteApron_rd _ _ _ _ (Field.off_of_all rfl), State.flag, State.rd_wr, State.putHead_rd]
  rfl

/-- What a turn in APRON_FORCE_BEGIN leaves of another head. -/
theorem State.forceTurn_other (s : State) {h j : Nat} (other : j ≠ h) :
    (s.forceTurn j).now = s.now ∧ (s.forceTurn j).headFmt h = s.headFmt h ∧ (s.forceTurn j).headOf h = s.headOf h ∧
      (s.forceTurn j).rd Fld.STCH_HEAD_STAT_APRON_FORCED h = s.rd Fld.STCH_HEAD_STAT_APRON_FORCED h := by
  unfold State.forceTurn
  split
  · split
    · refine ⟨rfl, State.forceApron_headFmt .., ?_, ?_⟩
      · rw [State.forceApron_headOf, State.putHead_headOf_other _ _ _ _ other.symm]
      · rw [State.forceApron_forced, if_neg other.symm]
    · exact ⟨rfl, rfl, rfl, rfl⟩
  · exact ⟨rfl, rfl, rfl, rfl⟩

/-- The turn of a head whose force is due and has not begun. -/
theorem State.forceTurn_of_due {s : State} {h t : Nat} (due : (s.headOf h).forceDue = some t)
    (free : (s.headOf h).force = none) (now : t ≤ fine s.now) :
    ((s.forceTurn h).headOf h).force = some ((s.lineFrom h t).getD 100000) ∧
      (s.forceTurn h).rd Fld.STCH_HEAD_STAT_APRON_FORCED h = 1 := by
  rw [State.forceTurn, due]
  dsimp only
  rw [if_pos ⟨now, Option.isNone_iff_eq_none.2 free⟩, State.forceApron_headOf, State.putHead_headOf, State.forceApron_forced,
    if_pos rfl]
  exact ⟨rfl, rfl⟩

/-- The aprons of the running heads of a pin that holds are forced from their line on (R365). -/
theorem apronForceBegin_forces {s : State} (dt : Nat) {g : Fin 4} {h : Fin 16} {t0 : Nat} (hs : s.runs)
    (pin : h.val / 4 = g.val) (held : bitOf (s.rd Fld.STCH_APRON_STAT_ASSERTED 0) g = true) (has : s.apronHead h = true)
    (emits : s.emitting h = true) (due : (s.headOf h).forceDue = some t0) (free : (s.headOf h).force = none)
    (now : t0 ≤ fine (s.start dt).now) :
    Completes (.apronForceBegin dt g) s fun t =>
      (t.headOf h).force = some ((s.lineFrom h t0).getD 100000) ∧ t.rd Fld.STCH_HEAD_STAT_APRON_FORCED h = 1 := by
  refine .main (execApronForceBegin_eq ..) hs ?_
  have mem : h.val ∈ (s.start dt).pinHeads g :=
    List.mem_filter.2 ⟨mem_pinGroup pin, Bool.and_eq_true_iff.2 ⟨has, emits⟩⟩
  rw [if_pos (by rwa [State.start_rd]), State.settleSets_headOf, State.settleSets_rd _ _ _ (Field.off_of_all rfl)]
  refine State.each_turn (P := fun z => z.now = (s.start dt).now ∧ z.headFmt h = s.headFmt h ∧ z.headOf h = s.headOf h)
    (Q := fun z => (z.headOf h).force = some ((s.lineFrom h t0).getD 100000) ∧ z.rd Fld.STCH_HEAD_STAT_APRON_FORCED h = 1)
    (fun z j other hz => ?_) (fun z ⟨nowz, fmt, head⟩ => ?_) (fun z j other hz => ?_)
    (List.Pairwise.filter _ (nodup_pinGroup g)) mem ⟨rfl, rfl, rfl⟩
  · obtain ⟨nowj, fmtj, headj, -⟩ := z.forceTurn_other other
    rwa [nowj, fmtj, headj]
  · rw [← State.lineFrom_of_head fmt head]
    exact State.forceTurn_of_due (head ▸ due) (head ▸ free) (nowz ▸ now)
  · obtain ⟨-, -, headj, forcedj⟩ := z.forceTurn_other other
    rwa [headj, forcedj]

/-! Proxies. -/

/-- Where PLY_PROXY_COMPLETE writes the proxy of a source (R292, R294). -/
def State.proxySlot (s : State) (k : Nat) : Option Nat :=
  ([0, 1, 2].map fun i => ((s.srcOf k).proxyNext + i) % 3).find? fun x => !(s.proxyHeld k).contains x

/-- The source with a new proxy in a slot (R288). -/
def SrcS.withProxy (r : SrcS) (x : Nat) (fr : Frame) : SrcS :=
  { r with proxies := tput {} r.proxies x fr, proxyNew := some x, proxyNext := (x + 1) % 3 }

/-- The newest ended frame of a source, of which there is no proxy yet, is written to a slot, or counted where there is none. -/
theorem Completes.proxy {s : State} {dt : Nat} {k : Fin 1168} {fr : Frame} {P : State → Prop} (hs : s.runs)
    (ended : (s.srcOf k).vat.find? (fun f => f.done) = some fr) (ring : s.ringEn k = true)
    (fresh : ((s.srcOf k).proxies.any fun p => p.2.count == fr.count && p.2.firstAt == fr.firstAt) = false)
    (h : P ((s.proxySlot k).elim ((s.start dt).bump Fld.CASK_CNT_PLY_SKIP_CNT 0 1)
      fun x => (s.start dt).putSrc k ((s.srcOf k).withProxy x fr)).settleSets) :
    Completes (.plyProxyComplete dt k) s P := by
  refine .main (execPlyProxyComplete.eq_def ..) hs ?_
  have src : (s.start dt).srcOf k = s.srcOf k := rfl
  have slot : (s.start dt).proxySlot k = s.proxySlot k := rfl
  have ring' : (s.start dt).ringEn k = true := ring
  dsimp only
  rw [src, ended]
  dsimp only
  rw [if_neg (by simp [ring', fresh]), ← src, ← State.proxySlot, src, slot]
  cases e : s.proxySlot k <;> rwa [e] at h

/-- The proxy takes the oldest slot that no head reads (R292). -/
theorem plyProxyComplete_writes {s : State} (dt : Nat) {k : Fin 1168} {fr : Frame} {x : Nat} (hs : s.runs)
    (ended : (s.srcOf k).vat.find? (fun f => f.done) = some fr) (ring : s.ringEn k = true)
    (fresh : ((s.srcOf k).proxies.any fun p => p.2.count == fr.count && p.2.firstAt == fr.firstAt) = false)
    (free : s.proxySlot k = some x) :
    Completes (.plyProxyComplete dt k) s fun t =>
      (t.srcOf k).proxyNew = some x ∧ tget {} (t.srcOf k).proxies x = fr ∧ Framed dt s t [] [.src] := by
  refine .proxy hs ended ring fresh ?_
  rw [free, Option.elim_some]
  have src : (((s.start dt).putSrc k ((s.srcOf k).withProxy x fr)).settleSets.srcOf k) = (s.srcOf k).withProxy x fr := by
    rw [State.srcOf, State.settleSets_src]
    exact State.putSrc_srcOf ..
  rw [src]
  exact ⟨rfl, tget_tput_same .., .of_but (by decide) (fun l _ hl => State.putSrc_but _ _ _ l (hl _ List.mem_cons_self))
    fun f i _ => State.putSrc_rd ..⟩

/-- A proxy for which every slot is being read is not written, and counted (R293). -/
theorem plyProxyComplete_skips {s : State} (dt : Nat) {k : Fin 1168} {fr : Frame} (hs : s.runs)
    (ended : (s.srcOf k).vat.find? (fun f => f.done) = some fr) (ring : s.ringEn k = true)
    (fresh : ((s.srcOf k).proxies.any fun p => p.2.count == fr.count && p.2.firstAt == fr.firstAt) = false)
    (held : ∀ x : Fin 3, (s.proxyHeld k).contains x.val = true) :
    Completes (.plyProxyComplete dt k) s fun t =>
      t.rd Fld.CASK_CNT_PLY_SKIP_CNT 0 = s.counted Fld.CASK_CNT_PLY_SKIP_CNT 0 1 ∧
      Framed dt s t [(Fld.CASK_CNT_PLY_SKIP_CNT, 0)] [] := by
  have none_ : s.proxySlot k = none := by
    refine List.find?_eq_none.2 fun x mem => ?_
    obtain ⟨i, -, rfl⟩ := List.mem_map.1 mem
    simpa using held ⟨_, Nat.mod_lt ((s.srcOf k).proxyNext + i) (by decide)⟩
  refine .proxy hs ended ring fresh ?_
  rw [none_, Option.elim_none]
  refine ⟨?_, .of_but (by decide) (fun l rv _ => State.bump_but _ _ _ _ l rv) fun f i away => ?_⟩
  · rw [State.settleSets_rd _ _ _ (Field.off_of_all rfl), State.rd_bump_same]
    rfl
  · exact (State.rd_wr_place _ _ _ _ _ _ (away (_, _) List.mem_cons_self)).trans (State.start_rd ..)

end Sys2Proof.Machine

open Sys2Proof Sys2Proof.Machine

/-- Settles O20, clause by clause: underruns, apron fields, the pins of the aprons, the layers dropped in HEM, and proxies. -/
theorem headAprons : Obligations.HeadAprons := by
  unfold Obligations.HeadAprons
  exact ⟨
    fun s dt h f e x hs ⟨fmt, emits⟩ ⟨whole, apron⟩ late => headUnderrun_aborts dt e x hs fmt emits whole apron late,
    fun s dt h f e x hs ⟨fmt, emits, has⟩ ⟨whole, apron⟩ late =>
      apronUnderrun_aborts dt e x hs fmt emits has whole apron late,
    fun s dt h t0 v rest hs due now => apronFieldApply_shows dt hs due now,
    fun s dt g h f hs pin fmt => apronNAsserted_forces dt hs pin fmt,
    fun s dt g h t0 hs ⟨pin, held⟩ ⟨has, emits⟩ ⟨due, free⟩ now =>
      apronForceBegin_forces dt hs pin held has emits due free now,
    fun s dt g h hs pin => apronNDeasserted_ends dt hs pin,
    fun s dt h due hs ⟨hem, at_⟩ ⟨shown, emits⟩ now => hemLayerDrop_drops dt hs hem at_ shown emits now,
    fun s dt k fr x hs ⟨ended, ring⟩ fresh free => plyProxyComplete_writes dt hs ended ring fresh free,
    fun s dt k fr hs ⟨ended, ring⟩ fresh held => plyProxyComplete_skips dt hs ended ring fresh held⟩

end

section
/-! A write to an apron of which a field stands at more than it holds (O47). -/

set_option autoImplicit false

namespace Sys2Proof.Machine

/-- A device whose head 0 has an apron on surface 0, a picture of 2 x 2 pixels, and whose session 4 is the safety controller's. The
16-bit field X of the apron stands at 65536. -/
def wideApronX : State :=
  let s := (([(Fld.STCH_HEAD_CFG_SAFETY, 0, 1), (Fld.HCP_SLOT_STAT_RIGHTS, 15, 31), (Fld.STCH_LAYER_SIZE_W, 7, 2),
    (Fld.STCH_LAYER_SIZE_H, 7, 2), (Fld.STCH_LAYER_CROP_SIZE_CW, 7, 2), (Fld.STCH_LAYER_CROP_SIZE_CH, 7, 2),
    (Fld.STCH_LAYER_STRIDE_STRIDE, 7, 1)].foldl (fun (s : State) p => s.wr p.1 p.2.1 p.2.2) {}).putSess 4
      { active := true, slot := 15 }).putSurf 0 { state := 1, apron := true, blocks := 1 }
  s.setRv (tput 0 s.rv (Fld.STCH_LAYER_POS_X.at 7) 65536)

/-- The safety controller may write bit 0 of the apron's Y with 1 there. -/
theorem wideApronX_writes : (wideApronX.start 0).writes (.sess 4) .STCH_LAYER_POS 7 false 1 1 := by
  decide +kernel

/-- STCH_LAYER_POS lies in no island with an external clock. -/
theorem island_stchLayerPos (i : Nat) : Reg.island .STCH_LAYER_POS i = none :=
  ite_self none

/-- A write to an apron's position is in force at once (R362). -/
theorem State.putWord_of_apronPos {s : State} {i v mask : Nat} (h : s.apronItem ⟨.STCH_LAYER_POS, i, v, mask⟩ = true)
    (m : Master) (at_ : Option Nat) :
    s.putWord m at_ ⟨.STCH_LAYER_POS, i, false, v, mask⟩ = (.ok, s.apronWrite .STCH_LAYER_POS (i / 8) v mask) := by
  have plain : s.putWord m at_ ⟨.STCH_LAYER_POS, i, false, v, mask⟩ = s.applyItem at_ ⟨.STCH_LAYER_POS, i, v, mask⟩ :=
    State.putItem_of_island_none _ _ _ (island_stchLayerPos i)
  exact plain.trans (congrArg (Prod.mk Status.ok) (if_pos h))

/-- The device once the write is in force. -/
def wideApronXDone : State := (wideApronX.start 0).apronWrite .STCH_LAYER_POS (7 / 8) 1 1

theorem wideApronX_putItems : (wideApronX.start 0).putItems (.sess 4) ((wideApronX.start 0).isSafety (.sess 4)) none
    ((wideApronX.start 0).wholes (.sess 4) (wideApronX.start 0).held [wordOf .STCH_LAYER_POS 7 false 1 1]) 0
    [wordOf .STCH_LAYER_POS 7 false 1 1] (wideApronX.start 0) = (.ok, 0, wideApronXDone) :=
  State.putItems_word _ _ _ _ _ _ _ .STCH_LAYER_POS 7 false _ (by decide) wideApronX_writes.2
    (State.putWord_of_apronPos (by decide +kernel) _ _)

theorem wideApronX_regWrite :
    (wideApronX.start 0).regWrite (.sess 4) ((wideApronX.start 0).isSafety (.sess 4)) none [wordOf .STCH_LAYER_POS 7 false 1 1] =
      (.ok, 0, wideApronXDone.bindItems [⟨.STCH_LAYER_POS, 7, 1, 1⟩]) := by
  rw [State.regWrite, wideApronX_putItems]
  rfl

/-- So X stands at 65536 after it. -/
theorem wideApronX_write : ∃ t, exec (.apronFieldWrite 0 (.sess 4) 0 1 1 1) wideApronX = .next t ∧
    t.rd Fld.STCH_LAYER_POS_X 7 = 65536 := by
  refine ⟨_, exec_registerWrite_of_regWrite (a := .named .STCH_LAYER_POS 7 false) rfl wideApronX_regWrite, ?_⟩
  decide +kernel

end Sys2Proof.Machine

open Sys2Proof Sys2Proof.Machine

/-- Refutes O47, by its fourth clause: it asks that X of the apron reads `merge … % 65536` after a write of its position, but the
write of some bits of Y leaves X as it stood, and no hypothesis bounds that by the width of the field. -/
theorem not_regsHeads : ¬ Obligations.RegsHeads := by
  unfold Obligations.RegsHeads
  intro h
  obtain ⟨-, -, -, apron, -⟩ := h
  obtain ⟨t, e, x, -⟩ := apron wideApronX 0 (.sess 4) 0 1 1 rfl wideApronX_writes (by decide +kernel)
  obtain ⟨t', e', kept⟩ := wideApronX_write
  obtain rfl : t' = t := by simpa using e'.symm.trans e
  exact absurd (kept.symm.trans x) (by decide +kernel)

end

section
/-! A route whose gain stands at more than it holds when a write waits for its engine (O25). -/

set_option autoImplicit false

namespace Sys2Proof.Machine

/-- A write of MASH_ROUTE 0 that reaches no bit of the register. -/
def maskedRouteWrite : Staged := { reg := .MASH_ROUTE, inst := 0, val := 0, mask := 0, ord := 0, at_ := 0 }

/-- A device in SERVICE, 5 ms after its count began, for whose route engine that write waits. The 11-bit field GAIN of route 0
stands at 2048. -/
def wideRouteGain : State :=
  let s := ({} : State).wr Fld.CTRL_DEV_STATE_MODE 0 1
  { s with rv := tput 0 s.rv (Fld.MASH_ROUTE_GAIN.at 0) 2048, now := ms 5, staged := [maskedRouteWrite] }

/-- The engine's swap installs the write at the sample instant, and GAIN stands at 2048 after it. -/
theorem wideRouteGain_sampleInstant : ∃ t, exec (.mashSampleInstant 0) wideRouteGain = .next t ∧
    t.rd Fld.MASH_ROUTE_GAIN 0 = 2048 :=
  ⟨_, rfl, by decide +kernel⟩

end Sys2Proof.Machine

open Sys2Proof Sys2Proof.Machine

/-- Refutes O25, by its third clause: it asks that GAIN of the route reads `merge … % 2048` once the engine has swapped, but a
write that does not reach GAIN leaves it as it stood, and no hypothesis bounds that by the field's width of 11 bits. -/
theorem not_mashInstant : ¬ Obligations.MashInstant := by
  unfold Obligations.MashInstant
  intro h
  obtain ⟨-, -, installs⟩ := h
  obtain ⟨t, e, gain, -⟩ := installs wideRouteGain 0 0 0 0 0 0 rfl (by decide +kernel) (by decide +kernel) (by decide +kernel)
    (by decide +kernel)
  obtain ⟨t', e', kept⟩ := wideRouteGain_sampleInstant
  obtain rfl : t' = t := by simpa using e'.symm.trans e
  exact absurd (kept.symm.trans gain) (by decide +kernel)

end

section
/-! An ancillary cell that is late while a change set waits for its last unit (O26). -/

set_option autoImplicit false

namespace Sys2Proof.Machine

/-- An entry that routes destination 0 to source slot 0 and has reached its Seam. -/
def routeEntry : CsEntry := { kind := .dst, inst := 0, items := [⟨.WARP_DST_ROUTE, 0, 0, 2047⟩], shadow := some 0 }

/-- A device whose bundle 0 is up and carries source slot 0, and whose destination 0 sends FMT 1 with its audio following. Change
set 0, armed with NOW and AUTO_COMMIT, is PREPARING until the count 1 with that one entry. -/
def autoCommit : State :=
  { [(Fld.IZL_LINK_STAT_STATE, 5), (Fld.CELL_SRC_BIND_EN, 1), (Fld.WARP_DST_CFG_FMT, 1), (Fld.WARP_DST_CFG_EN, 1),
      (Fld.MASH_DST_AUDIO_FOLLOW, 1)].foldl (fun s p => s.wr p.1 0 p.2) ({} : State) with
    cs := [(0, { state := 3, auto := true, now := true, tp := 1, entries := [routeEntry] })] }

/-- The header of an empty ancillary cell of slot 0. -/
def emptyAncHdr : Hdr :=
  { type := 2, slot := 0, epoch := 0, holder := false, seq := 0, line := 0, offset := 0, sof := false, eol := false,
    eof := false, field := false, nosig := false, cont := false, res25 := false, valid := 0, fmt := 0, res := 0 }

/-- The bundle takes that cell. -/
theorem autoCommit_takes : autoCommit.takes 0 (.bytes (cellOf emptyAncHdr [])) (cellOf emptyAncHdr []) emptyAncHdr :=
  State.takes_cellOf _ _ _ _ (by decide +kernel)

/-- An ancillary cell that passes its checks: what the command does with it. -/
theorem execAncillaryCell_of_takes {s : State} {dt : Nat} {b : Fin 33} {rx : RxCell} {late : Bool} {cell : List Byte} {h : Hdr}
    (runs : s.iso = false) (takes : (s.start dt).takes b rx cell h) (type : h.type = 2) :
    exec (.ancillaryCell dt b rx late) s =
      .next ((((((s.start dt).cellIn b rx).2.loopBack b cell).putNext (streamKey b h.slot h.type)
        ((s.start dt).expects b h + 1)).wr Fld.CELL_LINK_INFO_FAR_EPOCH b h.epoch).ancCell b h cell late).settleSets := by
  change execAncillaryCell dt b rx late s = _
  simp [execAncillaryCell, onMain, runs, State.takes_takeCell takes, type]

/-- The cell is late. After the command the change set is COMMITTED, for its unit is ready (R256), and Mash has learnt of the new
route (R420). The cell's CRC is put in the form that the kernel evaluates byte by byte. -/
theorem autoCommit_late : ∃ t, exec (.ancillaryCell 0 0 (.bytes (cellOf emptyAncHdr [])) true) autoCommit = .next t ∧
    t.mash.follow ≠ [] := by
  refine ⟨_, execAncillaryCell_of_takes rfl autoCommit_takes rfl, ?_⟩
  simp only [cellOf_eq, cellCrc, crc32_eq_go]
  decide +kernel

end Sys2Proof.Machine

open Sys2Proof Sys2Proof.Machine

/-- Refutes O26, by its ninth clause: it asks that a late ancillary cell leaves all of Mash as it was, but after every command
of the main islands the change sets are followed, which may commit one of them and so start a crossfade of a follow group. No
hypothesis says that no set is PREPARING. -/
theorem not_mashEvents : ¬ Obligations.MashEvents := by
  unfold Obligations.MashEvents
  intro h
  obtain ⟨-, -, -, -, -, -, -, -, late⟩ := h
  obtain ⟨t, e, -, -, same⟩ := late autoCommit 0 0 _ _ _ rfl ⟨autoCommit_takes, rfl⟩ (by decide +kernel)
  obtain ⟨t', e', learnt⟩ := autoCommit_late
  obtain rfl : t' = t := by simpa using e'.symm.trans e
  rw [same] at learnt
  exact learnt rfl

end

section
/-! A port whose mask stands at more than it holds when a staged write of it takes effect at a frame sync (O34). -/

set_option autoImplicit false

namespace Sys2Proof.Machine

/-- A write of the low mask of port 4 that reaches no bit of the register. -/
def maskedMaskWrite : Staged := { reg := .APRT_MASK_LO, inst := 4, val := 0, mask := 0, ord := 0, at_ := 0 }

/-- What waits for port 4 with that write staged. -/
def maskedMaskChange : Change :=
  { ord := 0, items := [⟨.APRT_MASK_LO, 4, 0, 0⟩], src := none, at_ := 0, ta := none, allOrNone := false, late := false,
    verdict := none }

/-- A device 1 ms after its count began, whose port 4 is a master in PREROLL for which that write waits. The 32-bit field MASK of
the port's APRT_MASK_LO stands at 2^32. -/
def widePortMask : State :=
  let s := (({} : State).wr Fld.APRT_PORT_STAT_STATE 4 1).wr Fld.APRT_PORT_CTL_CLK_MODE 4 1
  { s with rv := tput 0 s.rv (Fld.APRT_MASK_LO_MASK.at 4) (2 ^ 32), now := ms 1, staged := [maskedMaskWrite] }

/-- The write takes effect at the frame sync, and MASK stands at 2^32 after it. -/
theorem widePortMask_frameSync : ∃ t, exec (.frameSync 0 4 [] 0) widePortMask = .next t ∧ t.staged = [] ∧
    t.rd Fld.APRT_MASK_LO_MASK 4 = 2 ^ 32 :=
  ⟨_, rfl, by decide +kernel⟩

end Sys2Proof.Machine

open Sys2Proof Sys2Proof.Machine

/-- Refutes O34, by its sixth clause: it asks that MASK of the port reads `merge … % 2 ^ 32` once a staged write of it has taken
effect at a frame sync, but a write that does not reach MASK leaves it as it stood, and no hypothesis bounds that by the field's
width of 32 bits. -/
theorem not_audioPorts : ¬ Obligations.AudioPorts := by
  unfold Obligations.AudioPorts
  intro h
  obtain ⟨-, -, -, -, -, staged, -⟩ := h
  obtain ⟨t, e, merged, -⟩ := staged widePortMask 0 4 [] 0 0 0 0 0 maskedMaskChange rfl (by decide +kernel)
    (by decide +kernel) (by decide +kernel)
  obtain ⟨t', e', -, kept⟩ := widePortMask_frameSync
  obtain rfl : t' = t := by simpa using e'.symm.trans e
  exact absurd (kept.symm.trans merged) (by decide +kernel)

end

section
/-! Commands of the keep-alive island, and what a command that completes leaves in its one next state. -/

set_option autoImplicit false

namespace Sys2Proof.Machine

/-- A command of the keep-alive island completes, out of power-on reset, with what holds of its effect. -/
theorem Completes.keep {c : Instr} {dt : Nat} {s : State} {f : State → State} {P : State → Prop}
    (e : exec c s = onKeep dt s f) (hs : s.por = false) (h : ∀ t, f (s.start dt) = t → P t) :
    Completes c s P := by
  rw [Completes, e]
  exact onKeep_next hs (h _ rfl)

theorem Completes.imp {c : Instr} {s : State} {P Q : State → Prop} (h : Completes c s P) (i : ∀ t, P t → Q t) :
    Completes c s Q := by
  obtain ⟨t, e, p⟩ := h
  exact ⟨t, e, i t p⟩

/-- What a command completes with holds of the next state that it answers. -/
theorem Completes.of_next {c : Instr} {s t : State} {P : State → Prop} (h : Completes c s P) (e : exec c s = .next t) :
    P t := by
  obtain ⟨u, e', p⟩ := h
  obtain rfl : t = u := by simpa using e.symm.trans e'
  exact p

end Sys2Proof.Machine
end

section
/-! A reference order that names a candidate beyond the six bits of its field (O21). -/

set_option autoImplicit false

namespace Sys2Proof.Machine

/-- A device 60 s after power-up, whose reference candidate 0 is enabled and has been available all that time. The 6-bit field
ENTRY_0 of the reference order stands at 64, and a record 64 is qualified. -/
def wideRefOrder : State :=
  let s := (({} : State).wr Fld.KILN_REF_CFG_EN 0 1).wr Fld.KILN_SEL_CTL_REVERT 0 1
  { s with
    rv := tput 0 s.rv (Fld.KILN_REF_ORDER_0_ENTRY_0.at 0) 64
    up := sec 60
    kiln := { refs := [(0, { since := some 0, there := true }), (64, { qual := true })] } }

/-- Candidate 0 qualifies, the selection goes to 64, and SELECTED holds its six low bits. -/
theorem wideRefOrder_refQualified : ∃ t, exec (.refQualified 0 0) wideRefOrder = .next t ∧
    t.rd Fld.KILN_STAT_SELECTED 0 = 0 :=
  ⟨_, rfl, by decide +kernel⟩

end Sys2Proof.Machine

open Sys2Proof Sys2Proof.Machine

/-- Refutes O21, by its first clause: it asks that SELECTED reads the best candidate, but SELECTED has six bits, and no hypothesis
bounds what the reference order reads by the width of its fields. -/
theorem not_kilnReferences : ¬ Obligations.KilnReferences := by
  unfold Obligations.KilnReferences
  intro h
  obtain ⟨qualified, -⟩ := h
  obtain ⟨t, e, low⟩ := wideRefOrder_refQualified
  obtain ⟨-, best⟩ := (qualified wideRefOrder 0 0 0 64 rfl (by decide +kernel) (by decide +kernel) (by decide +kernel)
    (by decide +kernel)).of_next e
  exact absurd (low.symm.trans best) (by decide)

end

section
/-! What Kiln's time rests on (O22), and that no fault, no event and no change of the selection disturbs it. -/

set_option autoImplicit false

namespace Sys2Proof.Machine

/-- Kiln's record goes from `k` to `l` undisturbed: no measurement comes to set the time, the start wait, the second and the time in
LOCKED stay, and with no step waiting and nothing absorbed it stays so. -/
structure KilnS.Steady (k l : KilnS) : Prop where
  setRef : k.setRef = none → l.setRef = none
  waitFrom : l.waitFrom = k.waitFrom
  second : l.second = k.second
  locked : l.locked = k.locked
  still : k.stepAt = none ∧ k.a0 = 0 → l.stepAt = none ∧ l.a0 = 0

theorem KilnS.Steady.refl (k : KilnS) : k.Steady k := ⟨id, rfl, rfl, rfl, id⟩

theorem KilnS.Steady.trans {k l m : KilnS} (h : k.Steady l) (g : l.Steady m) : k.Steady m :=
  ⟨g.setRef ∘ h.setRef, g.waitFrom.trans h.waitFrom, g.second.trans h.second, g.locked.trans h.locked, g.still ∘ h.still⟩

/-- Kiln's time stands in `t` as in `s`, its record is undisturbed, and no step is shown as pending that was not. -/
structure Steady (s t : State) : Prop where
  now : t.now = s.now
  kiln : s.kiln.Steady t.kiln
  pending : s.rd Fld.KILN_STAT_STEP_PENDING 0 = 0 → t.rd Fld.KILN_STAT_STEP_PENDING 0 = 0

theorem Steady.refl (s : State) : Steady s s := ⟨rfl, .refl _, id⟩

theorem Steady.trans {s t u : State} (h : Steady s t) (g : Steady t u) : Steady s u :=
  ⟨g.now.trans h.now, h.kiln.trans g.kiln, g.pending ∘ h.pending⟩

/-- What leaves time, Kiln's record and the pending step leaves Kiln's time steady. -/
theorem Steady.keep {s t u : State} {k : List Part} (h : Steady s t) (e : u.but k = t.but k)
    (hk : Part.now ∉ k ∧ Part.kiln ∉ k)
    (p : u.rd Fld.KILN_STAT_STEP_PENDING 0 = t.rd Fld.KILN_STAT_STEP_PENDING 0) : Steady s u := by
  obtain ⟨hn, hq⟩ := hk
  have now : u.now = t.now := by simpa [State.but, hn] using congrArg State.now e
  have kiln : u.kiln = t.kiln := by simpa [State.but, hq] using congrArg State.kiln e
  exact h.trans ⟨now, kiln ▸ .refl _, fun z => p.trans z⟩

theorem Steady.ite {s a b : State} {c : Prop} [Decidable c] (h : Steady s a) (g : Steady s b) :
    Steady s (if c then a else b) := by
  split
  · exact h
  · exact g

theorem Steady.each {s t : State} (h : Steady s t) (l : List Nat) (f : State → Nat → State)
    (g : ∀ x n, Steady x (f x n)) : Steady s (t.each l f) := by
  induction l generalizing t with
  | nil => exact h
  | cons n l ih => exact ih (h.trans (g t n))

section
variable {s t : State} (h : Steady s t)
include h

/-! Single updates. -/

theorem Steady.wr (f : Field) (i v : Nat) (hf : f.key % 1024 ≠ Fld.KILN_STAT_STEP_PENDING.key % 1024) :
    Steady s (t.wr f i v) :=
  ⟨h.now, h.kiln, fun z => (State.wr_rd _ _ _ _ _ _ hf).trans (h.pending z)⟩

theorem Steady.flag (f : Field) (i : Nat) (b : Bool) (hf : f.key % 1024 ≠ Fld.KILN_STAT_STEP_PENDING.key % 1024) :
    Steady s (t.flag f i b) := h.wr f i _ hf

theorem Steady.bump (f : Field) (i n : Nat) (hf : f.key % 1024 ≠ Fld.KILN_STAT_STEP_PENDING.key % 1024) :
    Steady s (t.bump f i n) := h.wr f i _ hf

theorem Steady.notPending : Steady s (t.flag Fld.KILN_STAT_STEP_PENDING 0 false) :=
  ⟨h.now, h.kiln, fun _ => State.rd_wr_same ..⟩

theorem Steady.onKiln (g : KilnS → KilnS) (hg : t.kiln.Steady (g t.kiln)) : Steady s (t.onKiln g) :=
  ⟨h.now, h.kiln.trans hg, h.pending⟩

theorem Steady.onFlt (g : FltS → FltS) : Steady s (t.onFlt g) := ⟨h.now, h.kiln, h.pending⟩

theorem Steady.onMntl (g : MntlS → MntlS) : Steady s (t.onMntl g) := ⟨h.now, h.kiln, h.pending⟩

theorem Steady.onBoot (g : BootS → BootS) : Steady s (t.onBoot g) := ⟨h.now, h.kiln, h.pending⟩

theorem Steady.setStaged (x : List Staged) : Steady s (t.setStaged x) := ⟨h.now, h.kiln, h.pending⟩

theorem Steady.event (cls code inst : Nat) (detail : List Byte) : Steady s (t.event cls code inst detail) :=
  h.keep (State.event_but _ _ _ _ _ [.out, .rv, .egr, .sess] (by simp)) (by simp)
    (State.event_rd _ _ _ _ _ _ _ (Field.off_of_all rfl))

theorem Steady.kilnEvent (code k : Nat) : Steady s (t.kilnEvent code k) := h.event ..

theorem Steady.sick : Steady s t.sick := (h.onMntl _).onBoot _

theorem Steady.lower (fs i : Nat) : Steady s (t.lower fs i) := (h.onFlt _).onBoot _

/-! Modes. -/

theorem Steady.saveModel : Steady s t.saveModel := by
  have model := h.onKiln (fun k => { k with model := modelFields.map fun f => t.rd f 0 }) ⟨id, rfl, rfl, rfl, id⟩
  exact .ite (model.onKiln _ ⟨id, rfl, rfl, rfl, id⟩) model

theorem Steady.saveCellar : Steady s t.saveCellar := h.saveModel.onKiln _ ⟨id, rfl, rfl, rfl, id⟩

/-- A change of mode may only cancel a step that waits (10_kiln R495). -/
theorem Steady.setMode (m : Mode) : Steady s (t.setMode m) := by
  unfold State.setMode
  extract_lets live s1 s2 s3 k
  have health : Steady s s1 := .ite h (.ite (h.onMntl _) h.sick)
  have saved : Steady s s2 := .ite health.saveCellar health
  have moded : Steady s s3 := saved.wr _ _ _ (by decide)
  exact .ite (moded.onKiln _ ⟨id, rfl, rfl, rfl, fun z => ⟨rfl, z.2⟩⟩).notPending moded

theorem Steady.settleMode : Steady s t.settleMode := by
  unfold State.settleMode
  split
  · exact .ite (h.setMode _) h
  · exact .ite h (h.setMode _)
  · exact h

/-! The reaction to a fault. -/

theorem Steady.ownFence (k : UKind) (i bit : Nat) : Steady s (t.ownFence k i bit) :=
  h.keep (State.ownFence_but _ _ _ _ [.flt] (by simp)) (by simp) (State.ownFence_rd ..)

theorem Steady.loseSlot (k : Nat) : Steady s (t.loseSlot k) :=
  h.keep (State.loseSlot_but _ _ [.rv, .dst] (by simp)) (by simp) (State.loseSlot_rd _ _ _ _ (Field.off_of_all rfl))

theorem Steady.loseFlow (f : Nat) : Steady s (t.loseFlow f) :=
  h.keep (State.loseFlow_but _ _ [.rv, .dst, .eth] (by simp)) (by simp) (State.loseFlow_rd _ _ _ _ (Field.off_of_all rfl))

theorem Steady.judgeAll (k : Nat) : Steady s (t.judgeAll k) :=
  h.keep (State.judgeAll_but _ _ [.rv, .dst] (by simp)) (by simp) (State.judgeAll_rd _ _ _ _ (Field.off_of_all rfl))

theorem Steady.idleChannel (c : Nat) : Steady s (t.setCh c 0).gnssSettle :=
  (h.keep (State.setCh_but _ _ _ [.rv, .gnss] (by simp)) (by simp)
      (State.setCh_rd _ _ _ _ _ (Field.off_of_all rfl))).keep
    (State.gnssSettle_but _ [.rv, .gnss] (by simp)) (by simp) (State.gnssSettle_rd _ _ _ (Field.off_of_all rfl))

theorem Steady.hopStop (c cause : Nat) : Steady s (t.hopStop c cause) :=
  h.keep (State.hopStop_but _ _ _ [.hop] (by simp)) (by simp) (State.hopStop_rd ..)

theorem Steady.fence (k : UKind) (i : Nat) : Steady s (t.fence k i) := by
  have own := h.ownFence k i 1
  refine .settleMode ?_
  cases k with
  | bundle => exact (own.each _ _ fun x n => (Steady.refl x).loseSlot n).each _ _ fun x d => (Steady.refl x).ownFence _ _ _
  | port => exact own.each _ _ fun x f => .ite ((Steady.refl x).loseFlow f) (.refl x)
  | flow => exact .ite (own.loseFlow i) own
  | head => exact (own.flag _ _ _ (by decide)).judgeAll _
  | gnssCh => exact .ite own (own.idleChannel i)
  | hopCh => exact own.hopStop _ _
  | none | dst | bus | aport => exact own

theorem Steady.hemHold : Steady s t.hemHold :=
  h.keep (State.hemHold_but _ [.dst] (by simp)) (by simp) (State.hemHold_rd ..)

theorem Steady.trialHem : Steady s t.trialHem :=
  h.keep (State.trialHem_but _ [.boot] (by simp)) (by simp) (State.trialHem_rd ..)

theorem Steady.giveUp : Steady s t.giveUp :=
  h.keep (State.giveUp_but _ [.out, .rv, .txb, .mntl] (by simp)) (by simp) (State.giveUp_rd _ _ _ (Field.off_of_all rfl))

theorem Steady.hemCancel : Steady s t.hemCancel :=
  h.keep (State.hemCancel_but _ [.out, .rv, .cs, .egr, .sess] (by simp)) (by simp)
    (State.hemCancel_rd _ _ _ (Field.off_of_all rfl))

theorem Steady.enterHem (fs : Nat) : Steady s (t.enterHem fs) :=
  ((((h.hemHold.setMode .hem).wr Fld.FLT_STAT_HEM_SRC 0 fs (by decide)).onFlt _).trialHem.giveUp).hemCancel

theorem Steady.pulse : Steady s t.pulse :=
  h.keep (State.pulse_but _ [.rv, .flt] (by simp)) (by simp) (State.pulse_rd _ _ _ (Field.off_of_all rfl))

theorem Steady.react (fs : Nat) (k : UKind) (i sev : Nat) : Steady s (t.react fs k i sev) := by
  have pulsed : Steady s (if sev = 0 && !t.on Fld.FLT_SRC_CFG_PIN fs then t else t.pulse) := .ite h h.pulse
  exact .ite h (.ite (pulsed.fence k i) (.ite pulsed (.ite (pulsed.enterHem fs)
    (.ite (pulsed.wr _ _ _ (by decide)) pulsed))))

theorem Steady.logFault (e : LogEntry) : Steady s (t.logFault e) :=
  h.keep (State.logFault_but _ _ [.out, .rv, .flt, .egr, .sess] (by simp)) (by simp)
    (State.logFault_rd _ _ _ _ (Field.off_of_all rfl))

theorem Steady.handle (sev : Nat) : Steady s (t.handle sev) :=
  h.keep (State.handle_but _ _ [.freeCtr, .flt] (by simp)) (by simp) (State.handle_rd ..)

theorem Steady.raiseOne (fs i detail : Nat) : Steady s (t.raiseOne fs i detail) := by
  unfold State.raiseOne
  split
  · exact h
  · have counted := h.bump Fld.FLT_SRC_STAT_COUNT fs 1 (by decide)
    exact .ite (.ite h counted) ((((counted.onBoot _).onFlt _).logFault _).handle _ |>.react _ _ _ _)

theorem Steady.raise (fs i detail : Nat) : Steady s (t.raise fs i detail) := by
  have once := h.raiseOne fs i detail
  exact .ite once (once.raiseOne _ _ _)

theorem Steady.hoCheck : Steady s t.hoCheck :=
  .ite (.ite h (((h.flag _ _ _ (by decide)).kilnEvent _ _).raise _ _ _)) ((h.flag _ _ _ (by decide)).lower _ _)

/-! The selection. -/

theorem Steady.holdFrom (b : Option Nat) : Steady s (t.holdFrom b) := h.onKiln _ ⟨id, rfl, rfl, rfl, id⟩

theorem Steady.putRef (k : Nat) (r : RefS) : Steady s (t.putRef k r) := h.onKiln _ ⟨id, rfl, rfl, rfl, id⟩

end

/-- With no step waiting, nothing is left to absorb of nothing (R491). -/
theorem State.absorbed_of_still {s : State} (h : s.kiln.stepAt = none ∧ s.kiln.a0 = 0) : s.absorbed = 0 := by
  obtain ⟨step, a0⟩ := h
  simp only [State.absorbed, step, a0, Option.isSome_none, Bool.false_eq_true, if_false]
  rw [if_pos (Int.le_refl 0)]
  exact Int.max_eq_left (by omega)

theorem Steady.kilnSwitch {s t : State} (h : Steady s t) (new : Nat) : Steady s (t.kilnSwitch new) := by
  unfold State.kilnSwitch
  extract_lets s1 st before measured a s2 s3 s4 nst s5 keep s6 s7 s8 s9 s10 s11
  have h1 : Steady s s1 := .ite h.sick h
  have h2 : Steady s s2 := (h1.wr _ _ _ (by decide)).notPending
  have h3 : Steady s s3 := h2.onKiln _ ⟨fun _ => rfl, rfl, rfl, rfl, fun z => ⟨rfl, State.absorbed_of_still z⟩⟩
  have h4 : Steady s s4 := h3.kilnEvent _ _
  have h5 : Steady s s5 := h4.wr _ _ _ (by decide)
  have h6 : Steady s s6 := .ite (h5.holdFrom _) h5
  have h7 : Steady s s7 := h6.onKiln _ ⟨id, rfl, rfl, rfl, id⟩
  have h8 : Steady s s8 := .ite (h7.onKiln _ ⟨id, rfl, rfl, rfl, fun z => ⟨z.1, rfl⟩⟩) h7
  have h9 : Steady s s9 := .ite (((h8.saveModel.kilnEvent _ _).wr _ _ _ (by decide)).wr _ _ _ (by decide)) h8
  have h10 : Steady s s10 := .ite (h9.kilnEvent _ _) h9
  have h11 : Steady s s11 := .ite (h10.wr _ _ _ (by decide)) h10
  exact .ite h4 h11.hoCheck

theorem Steady.refSelect {s t : State} (h : Steady s t) (write : Bool) : Steady s (t.refSelect write) :=
  .ite (h.kilnSwitch _) h

theorem steady_refFollow (p : Bool × State) (k : Nat) : Steady p.2 (refFollow p k).2 := by
  have h := Steady.refl p.2
  unfold refFollow
  dsimp only
  split
  · exact .ite (h.putRef _ _) h
  · split
    · dsimp only
      exact (((h.putRef _ _).bump _ _ _ (by decide)).kilnEvent _ _).raise _ _ _
    · exact h.putRef _ _

theorem steady_refFollow_foldl (l : List Nat) (p : Bool × State) : Steady p.2 (l.foldl refFollow p).2 := by
  induction l generalizing p with
  | nil => exact .refl _
  | cons k l ih => exact (steady_refFollow p k).trans (ih _)

theorem Steady.refSettle {s t : State} (h : Steady s t) : Steady s t.refSettle := by
  have followed := h.trans (steady_refFollow_foldl (List.range 44) (false, t))
  exact .ite h (.ite (followed.refSelect false) followed)

/-! The role, and the stage of start-up that waits for the time. -/

theorem Steady.enterRole {s t : State} (h : Steady s t) (r : Role) : Steady s (t.enterRole r) :=
  (((h.wr _ _ _ (by decide)).sick.onMntl _).flag _ _ _ (by decide)).refSettle

theorem Steady.negotiate {s t : State} (h : Steady s t) : Steady s t.negotiate :=
  .ite ((h.enterRole _).onMntl _) ((h.enterRole _).onMntl _)

theorem Steady.timeStage {s t : State} (h : Steady s t) : Steady s t.timeStage :=
  .ite ((h.wr _ _ _ (by decide)).onBoot _).negotiate h

end Sys2Proof.Machine
end

section
/-! Kiln's time (O22): set from a reference, started after the wait, stepped, slewed, and followed each second. -/

set_option autoImplicit false

namespace Sys2Proof.Machine

/-! Time begins (R494, R527). -/

/-- Kiln's time is valid from `t` on, and nothing waits to set or to start it. -/
structure State.TimeFrom (x : State) (t : Nat) : Prop where
  now : x.now = t
  valid : x.rd Fld.KILN_STAT_TIME_VALID 0 = 1
  setRef : x.kiln.setRef = none
  waitFrom : x.kiln.waitFrom = none

theorem State.TimeFrom.steady {x y : State} {t : Nat} (h : x.TimeFrom t) (k : Steady x y)
    (v : y.rd Fld.KILN_STAT_TIME_VALID 0 = x.rd Fld.KILN_STAT_TIME_VALID 0) : y.TimeFrom t :=
  ⟨k.now.trans h.now, v.trans h.valid, k.kiln.setRef h.setRef, k.kiln.waitFrom.trans h.waitFrom⟩

theorem State.timeStarts_timeFrom (s : State) (t state : Nat) (traceable : Bool) :
    (s.timeStarts t state traceable).TimeFrom t := by
  refine State.TimeFrom.steady ⟨rfl, ?_, rfl, rfl⟩ (Steady.refl _).timeStage (State.timeStage_rd _ _ _ (Field.off_of_all rfl))
  rw [State.flag_rd _ _ _ _ _ _ (by decide), State.wr_rd _ _ _ _ _ _ (by decide), State.flag, State.rd_wr_same]
  rfl

theorem State.TimeFrom.refSettle {x : State} {t : Nat} (h : x.TimeFrom t) : x.refSettle.TimeFrom t :=
  h.steady (Steady.refl x).refSettle (State.refSettle_rd _ _ _ (Field.off_of_all rfl))

theorem kilnTimeSet_sets {s : State} {dt t0 u : Nat} (hs : s.por = false) (ref : s.kiln.setRef = some (t0, u))
    (invalid : s.on Fld.KILN_STAT_TIME_VALID 0 = false) (boundary : (t0 / sec 1 + 1) * sec 1 ≤ t0 + (s.up + dt - u)) :
    Completes (.kilnTimeSet dt) s (·.TimeFrom (t0 + (s.up + dt - u))) := by
  refine .keep (execKilnTimeSet.eq_def ..) hs fun t ht => ?_
  split at ht
  · next t1 u1 e =>
    obtain ⟨rfl, rfl⟩ : t0 = t1 ∧ u = u1 := by simpa using ref.symm.trans e
    extract_lets r x at ht
    have waits : ¬((s.start dt).on Fld.KILN_STAT_TIME_VALID 0 = true ∨ r < (t0 / sec 1 + 1) * sec 1) := by
      rintro (valid | early)
      · exact absurd (invalid.symm.trans valid) (by decide)
      · exact absurd early (Nat.not_lt.mpr boundary)
    rw [if_neg waits] at ht
    have set : x.TimeFrom r := (State.timeStarts_timeFrom _ r 2 true).steady
      ((Steady.refl _).onKiln _ ⟨id, rfl, rfl, rfl, id⟩) (State.onKiln_rd ..)
    have told := set.steady ((Steady.refl x).kilnEvent 7 (x.rd Fld.KILN_STAT_SELECTED 0))
      (State.kilnEvent_rd _ _ _ _ _ (Field.off_of_all rfl))
    exact ht ▸ told.refSettle.steady (Steady.refl _).hoCheck (State.hoCheck_rd _ _ _ (Field.off_of_all rfl))
  · next e => exact absurd (ref.symm.trans e) (by simp)

theorem startWaitExpire_starts {s : State} {dt t0 : Nat} (hs : s.por = false) (waitFrom : s.kiln.waitFrom = some t0)
    (waiting : s.kilnState = 0)
    (noTime : s.rd Fld.KILN_STAT_SELECTED 0 = 63 ∨ refKind (s.rd Fld.KILN_STAT_SELECTED 0) ≠ 0)
    (late : t0 + sec (s.rd Fld.KILN_CFG_START_WAIT 0) ≤ s.up + dt) :
    Completes (.startWaitExpire dt) s (·.TimeFrom s.kiln.ledgerTime) := by
  refine .keep (execStartWaitExpire.eq_def ..) hs fun t ht => ?_
  split at ht
  · next t1 e =>
    obtain rfl : t0 = t1 := by simpa using waitFrom.symm.trans e
    extract_lets cur selected at ht
    have free : (!selected) = true := by
      rcases noTime with none | other
      · simp [selected, cur, none]
      · simp [selected, cur, other]
    rw [if_pos ⟨waiting, free, late⟩] at ht
    exact ht ▸ (State.timeStarts_timeFrom _ _ 1 false).refSettle
  · next e => exact absurd (waitFrom.symm.trans e) (by simp)

/-! Steps and slewing (R491, R492). -/

theorem Steady.toutStep {s t : State} (h : Steady s t) (old new n : Nat) : Steady s (t.toutStep old new n) :=
  .ite (h.onKiln _ ⟨id, rfl, rfl, rfl, id⟩) (h.onKiln _ ⟨id, rfl, rfl, rfl, id⟩)

theorem kilnStep_steps {s : State} {dt b : Nat} (hs : s.por = false) (step : s.kiln.stepAt = some b)
    (due : b ≤ (s.start dt).now) :
    Completes (.kilnStep dt) s fun t =>
      t.now = (((s.start dt).now : Int) + s.kiln.stepBy).toNat ∧ t.kiln.stepAt = none ∧ t.kiln.a0 = 0 ∧
        t.rd Fld.KILN_STAT_STEP_PENDING 0 = 0 := by
  refine .keep (execKilnStep.eq_def ..) hs fun t ht => ?_
  split at ht
  · next b' e =>
    obtain rfl : b = b' := by simpa using step.symm.trans e
    rw [if_neg (Nat.not_lt.mpr due)] at ht
    extract_lets old d move new s1 s2 s3 s4 s5 s6 at ht
    have moved : Steady s2 s5 :=
      (((Steady.refl s2).setStaged _).each _ _ fun x n => (Steady.refl x).toutStep old new n).notPending
    have traced : Steady s5 s6 := .ite ((Steady.refl s5).flag _ _ _ (by decide)) (.refl s5)
    have told : Steady s5 t := ht ▸ (traced.event _ _ _ _).hoCheck
    obtain ⟨none, zero⟩ := told.kiln.still (moved.kiln.still ⟨rfl, rfl⟩)
    exact ⟨told.now.trans moved.now, none, zero, told.pending (State.rd_wr_same ..)⟩
  · next e => exact absurd (step.symm.trans e) (by simp)

theorem slewDone_ends {s : State} {dt : Nat} (hs : s.por = false) (done : (s.start dt).absorbed = 0) :
    Completes (.slewDone dt) s fun t =>
      t.rd Fld.KILN_STAT_SLEWING 0 = 0 ∧ t.kiln.a0 = 0 ∧ Framed dt s t [(Fld.KILN_STAT_SLEWING, 0)] [.kiln] := by
  refine .keep (execSlewDone.eq_def ..) hs fun t ht => ?_
  rw [if_pos done] at ht
  subst ht
  refine ⟨State.rd_wr_same .., rfl, .keep rfl rfl (by simp [mainParts, timeParts]) fun f i h => ?_⟩
  exact State.rd_wr_place _ _ _ _ _ _ (h (Fld.KILN_STAT_SLEWING, 0) (by simp))

/-! Each second (R504, R514). -/

/-- A write of a register's fields leaves the fields of every other register. -/
theorem State.putFields_rd (s : State) (a : Acc) (r : Reg) (i val mask : Nat) (f : Field) (j : Nat) (h : f.off r.fields) :
    (s.putFields a r i val mask).rd f j = s.rd f j := by
  unfold State.putFields
  refine List.foldlRecOn (motive := fun x : State => x.rd f j = s.rd f j) _ _ rfl fun x kept g mem => ?_
  exact (State.wr_rd _ _ _ _ _ _ (h g (List.mem_filter.1 mem).1)).trans kept

/-- The tracking settings that take effect at a second are those of the two tracking registers (11_gnss R550). -/
theorem State.trackApply_rd (s : State) (f : Field) (i : Nat) (ha : f.off Reg.GNSS_TRACK_CFG_A.fields)
    (hb : f.off Reg.GNSS_TRACK_CFG_B.fields) : s.trackApply.rd f i = s.rd f i := by
  unfold State.trackApply
  extract_lets b due t
  have put : t.rd f i = s.rd f i := by
    refine List.foldlRecOn (motive := fun x : State => x.rd f i = s.rd f i) _ _ rfl fun x kept w mem => ?_
    refine (State.putFields_rd _ _ _ _ _ _ _ _ ?_).trans kept
    have reg : w.reg = .GNSS_TRACK_CFG_A ∨ w.reg = .GNSS_TRACK_CFG_B := by
      have := (List.mem_filter.1 mem).2
      simp only [Bool.and_eq_true, Bool.or_eq_true, beq_iff_eq] at this
      exact this.1
    rcases reg with e | e
    · exact e ▸ ha
    · exact e ▸ hb
  rw [rd_ite, State.cohSettle_rd, State.setStaged_rd, ite_self]
  exact put

theorem Steady.trackApply {s t : State} (h : Steady s t) : Steady s t.trackApply :=
  h.keep (State.trackApply_but _ [.rv, .staged, .gnss] (by simp)) (by simp)
    (State.trackApply_rd _ _ _ (Field.off_of_all rfl) (Field.off_of_all rfl))

theorem Steady.fitModel {s t : State} (h : Steady s t) : Steady s t.fitModel :=
  h.keep (State.fitModel_but _ [.freeCtr, .rv] (by simp)) (by simp) (State.fitModel_rd _ _ _ (Field.off_of_all rfl))

/-- A new second in LOCKED, on the oscillator, lengthens the time in LOCKED (R502). -/
theorem kilnSecond_locked {s : State} {dt : Nat} (hs : s.por = false) (new : s.kiln.second < (s.start dt).now / sec 1)
    (locked : s.kilnState = 2) (osc : s.on Fld.KILN_STAT_OSC_XO 0 = false) (configured : s.kiln.bare = false) :
    Completes (.kilnSecond dt) s fun t =>
      t.kiln.second = (s.start dt).now / sec 1 ∧ t.kiln.locked = s.kiln.locked + sec 1 := by
  refine .keep (execKilnSecond.eq_def ..) hs fun t ht => ?_
  have begins : ¬(s.start dt).now / sec 1 ≤ (s.start dt).kiln.second := Nat.not_le.mpr new
  rw [if_neg begins] at ht
  extract_lets th s1 s2 s3 at ht
  have counts : s1.kilnState = 2 ∧ (!s1.on Fld.KILN_STAT_OSC_XO 0) = true ∧ (!s1.kiln.bare) = true :=
    ⟨locked, congrArg (!·) osc, congrArg (!·) configured⟩
  have fitted : Steady (s1.onKiln fun k => { k with locked := k.locked + sec 1 }) s2 := by
    simp only [s2, if_pos counts]
    exact (Steady.refl _).fitModel
  have shown : Steady (s1.onKiln fun k => { k with locked := k.locked + sec 1 }) s3 :=
    .ite ((fitted.wr _ _ _ (by decide)).wr _ _ _ (by decide)) fitted
  have told := ht ▸ shown.trackApply.hoCheck
  exact ⟨told.kiln.second, told.kiln.locked⟩

/-- A new second in HOLDOVER shows how long HOLDOVER has lasted (R514). -/
theorem kilnSecond_holdover {s : State} {dt : Nat} (hs : s.por = false) (new : s.kiln.second < (s.start dt).now / sec 1)
    (holdover : s.kilnState = 4) :
    Completes (.kilnSecond dt) s fun t =>
      t.kiln.second = (s.start dt).now / sec 1 ∧ t.kiln.locked = s.kiln.locked ∧
        t.rd Fld.KILN_HO_ELAPSED_SECONDS 0 = (((s.start dt).now - s.kiln.enterAt) / sec 1) % 2 ^ 32 := by
  refine .keep (execKilnSecond.eq_def ..) hs fun t ht => ?_
  have begins : ¬(s.start dt).now / sec 1 ≤ (s.start dt).kiln.second := Nat.not_le.mpr new
  rw [if_neg begins] at ht
  extract_lets th s1 s2 s3 at ht
  have state : s1.kilnState = 4 := holdover
  have same : s2 = s1 := if_neg (by simp [state])
  have shown : s3 = (s1.wr Fld.KILN_HO_ELAPSED_SECONDS 0 ((s1.now - s1.kiln.enterAt) / sec 1)).wr
      Fld.KILN_HO_REMAIN_SECONDS 0 s1.hoRemain := by
    simp only [s3, same, if_pos state]
  have told : Steady s1 t := by
    rw [← ht, shown]
    exact (((Steady.refl s1).wr _ _ _ (by decide)).wr _ _ _ (by decide)).trackApply.hoCheck
  refine ⟨told.kiln.second, told.kiln.locked, ?_⟩
  rw [← ht, State.hoCheck_rd _ _ _ (Field.off_of_all rfl),
    State.trackApply_rd _ _ _ (Field.off_of_all rfl) (Field.off_of_all rfl), shown, State.wr_rd _ _ _ _ _ _ (by decide),
    State.rd_wr_same]
  rfl

theorem frameEpoch_keeps {s : State} (dt : Nat) (fam : Fin 5) (hs : s.por = false) :
    Completes (.frameEpoch dt fam) s fun t => Framed dt s t [] [] := by
  refine .keep (execFrameEpoch.eq_def dt fam s) hs fun t ht => ?_
  subst ht
  exact .keep rfl rfl (by simp [mainParts, timeParts]) fun f i _ => State.start_rd ..

/-! Leap seconds (12_time_service R620). -/

/-- Without a trusted GNSS time or a PTP source, a value that the host has written is in force (R525). -/
theorem State.utcSettle_of_host {s : State} {v : Nat} (gnss : s.on Fld.GNSS_STAT_TRUSTED 0 = false)
    (ptp : s.kiln.utcPtp = none) (host : s.kiln.utcHost = some v) :
    s.utcSettle = (((s.wr Fld.KILN_UTC_UTC_OFFSET 0 (v % 256)).wr Fld.KILN_UTC_LEAP59 0 (bitsOf v 8 1)).wr
      Fld.KILN_UTC_LEAP61 0 (bitsOf v 9 1)).wr Fld.KILN_UTC_SRC 0 1 := by
  simp [State.utcSettle, gnss, ptp, host]

/-- A number has no bits beyond its size. -/
theorem bitsOf_of_lt {n lo w : Nat} (h : n < 2 ^ lo) : bitsOf n lo w = 0 := by
  rw [bitsOf, Nat.div_eq_of_lt h, Nat.zero_mod]

theorem leapSecond_inserts {s : State} {dt : Nat} (hs : s.por = false) (valid : s.on Fld.KILN_STAT_TIME_VALID 0 = true)
    (leap : s.on Fld.KILN_UTC_LEAP61 0 = true)
    (midnight : ((s.start dt).second + 86400 - s.rd Fld.KILN_UTC_UTC_OFFSET 0) % 86400 = 0)
    (gnss : s.on Fld.GNSS_STAT_TRUSTED 0 = false) (ptp : s.kiln.utcPtp = none) (host : s.rd Fld.KILN_UTC_SRC 0 = 1) :
    Completes (.leapSecond dt) s fun t =>
      t.rd Fld.KILN_UTC_UTC_OFFSET 0 = (s.rd Fld.KILN_UTC_UTC_OFFSET 0 + 1) % 256 ∧ t.rd Fld.KILN_UTC_LEAP61 0 = 0 ∧
        t.rd Fld.KILN_UTC_LEAP59 0 = 0 ∧ t.rd Fld.KILN_UTC_SRC 0 = 1 := by
  refine .keep (execLeapSecond.eq_def ..) hs fun t ht => ?_
  simp only [State.start_rd, host] at ht
  have due : ((s.start dt).on Fld.KILN_STAT_TIME_VALID 0 && (s.start dt).on Fld.KILN_UTC_LEAP61 0 &&
      ((s.start dt).second + 86400 - s.rd Fld.KILN_UTC_UTC_OFFSET 0) % 86400 == 0) = true := by
    simp only [State.on, State.start_rd] at valid leap ⊢
    simp [valid, leap, midnight]
  rw [if_pos due, State.utcSettle_of_host (v := (s.rd Fld.KILN_UTC_UTC_OFFSET 0 + 1) % 256)] at ht
  rotate_left
  · exact gnss
  · exact ptp
  · rfl
  have small : (s.rd Fld.KILN_UTC_UTC_OFFSET 0 + 1) % 256 < 2 ^ 8 := Nat.mod_lt _ (by decide)
  subst ht
  refine ⟨?_, ?_, ?_, State.rd_wr_same ..⟩
  · rw [State.wr_rd _ _ _ _ _ _ (by decide), State.wr_rd _ _ _ _ _ _ (by decide), State.wr_rd _ _ _ _ _ _ (by decide),
      State.rd_wr_same]
    exact (Nat.mod_eq_of_lt (Nat.mod_lt _ (by decide))).trans (Nat.mod_mod _ _)
  · rw [State.wr_rd _ _ _ _ _ _ (by decide), State.rd_wr_same, bitsOf_of_lt (Nat.lt_trans small (by decide)), Nat.zero_mod]
  · rw [State.wr_rd _ _ _ _ _ _ (by decide), State.wr_rd _ _ _ _ _ _ (by decide), State.rd_wr_same, bitsOf_of_lt small,
      Nat.zero_mod]

end Sys2Proof.Machine

open Sys2Proof Sys2Proof.Machine

/-- Settles O22, clause by clause: time that begins, steps and slewing, what each second counts, and leap seconds. -/
theorem kilnTimeSets : Obligations.KilnTimeSets := by
  unfold Obligations.KilnTimeSets
  exact ⟨fun s dt t0 u hs ⟨ref, invalid⟩ boundary =>
      (kilnTimeSet_sets hs ref invalid boundary).imp fun t h => ⟨h.now, h.valid, h.setRef⟩,
    fun s dt t0 hs ⟨waitFrom, waiting⟩ noTime late =>
      (startWaitExpire_starts hs waitFrom waiting noTime late).imp fun t h => ⟨h.now, h.valid, h.waitFrom⟩,
    fun s dt b hs ⟨step, due⟩ => kilnStep_steps hs step due,
    fun s dt hs done => slewDone_ends hs done,
    fun s dt hs new ⟨locked, osc, configured⟩ => kilnSecond_locked hs new locked osc configured,
    fun s dt hs new holdover => kilnSecond_holdover hs new holdover,
    fun s dt fam hs => frameEpoch_keeps dt fam hs,
    fun s dt hs ⟨valid, leap⟩ midnight ⟨gnss, ptp, host⟩ => leapSecond_inserts hs valid leap midnight gnss ptp host⟩

end

section
/-! The return of XO_IN while FS_260 is kept for the next start-up (O23). -/

set_option autoImplicit false

namespace Sys2Proof.Machine

/-- A device that keeps FS_260 among the conditions to be raised again at start-up (R693). -/
def keptXoFault : State := { boot := { conds := [standKey 260 0] } }

/-- XO_IN returns, and the condition is struck from that list. -/
theorem keptXoFault_xoInReturn : ∃ t, exec (.xoInReturn 0) keptXoFault = .next t ∧ t.boot.conds = [] :=
  ⟨_, rfl, by decide +kernel⟩

end Sys2Proof.Machine

open Sys2Proof Sys2Proof.Machine

/-- Refutes O23, by its last clause: its frame lets only the fault collector and Kiln change, but when a condition ends it is also
struck from the conditions that the start-up record holds (R674, R693). -/
theorem not_kilnOscillator : ¬ Obligations.KilnOscillator := by
  unfold Obligations.KilnOscillator
  intro h
  obtain ⟨-, -, -, -, -, -, -, -, -, -, -, -, returns⟩ := h
  obtain ⟨t, e, struck⟩ := keptXoFault_xoInReturn
  obtain ⟨-, -, -, same, -⟩ := (returns keptXoFault 0 rfl).of_next e
  have kept : t.boot.conds = [standKey 260 0] := (congrArg (fun s => s.boot.conds) same :)
  exact absurd (struck.symm.trans kept) (by decide)

end

section
/-! A TIME_OUT output whose width stands at more than it holds when a staged write of it takes effect at an edge (O24). -/

set_option autoImplicit false

namespace Sys2Proof.Machine

/-- A write of the pulse width of output 0 that reaches no bit of the register. -/
def maskedWidthWrite : Staged := { reg := .KILN_TOUT_WIDTH, inst := 0, val := 0, mask := 0, ord := 0, at_ := 0 }

/-- What waits for output 0 with that write staged. -/
def maskedWidthChange : Change :=
  { ord := 0, items := [⟨.KILN_TOUT_WIDTH, 0, 0, 0⟩], src := none, at_ := 0, ta := none, allOrNone := false, late := false,
    verdict := none }

/-- A device at Kiln second 1, whose output 0 pulses each second and for which that write waits. The 32-bit field WIDTH of the
output stands at 2^32. -/
def wideToutWidth : State :=
  let s := ({} : State).wr Fld.KILN_TOUT_CTL_MODE 0 4
  { s with rv := tput 0 s.rv (Fld.KILN_TOUT_WIDTH_WIDTH.at 0) (2 ^ 32), now := sec 1, staged := [maskedWidthWrite] }

/-- The write takes effect with the leading edge, and WIDTH stands at 2^32 after it. -/
theorem wideToutWidth_timeOutPulse : ∃ t, exec (.timeOutPulse 0 0) wideToutWidth = .next t ∧
    t.rd Fld.KILN_TOUT_WIDTH_WIDTH 0 = 2 ^ 32 :=
  ⟨_, rfl, by decide +kernel⟩

end Sys2Proof.Machine

open Sys2Proof Sys2Proof.Machine

/-- Refutes O24, by its fifth clause: it asks that WIDTH of the output reads `merge … % 2 ^ 32` once a staged write of it has taken
effect with an edge, but a write that does not reach WIDTH leaves it as it stood, and no hypothesis bounds that by the field's
width of 32 bits. -/
theorem not_kilnPins : ¬ Obligations.KilnPins := by
  unfold Obligations.KilnPins
  intro h
  obtain ⟨-, -, -, -, staged, -⟩ := h
  obtain ⟨t, e, kept⟩ := wideToutWidth_timeOutPulse
  obtain ⟨merged, -⟩ := (staged wideToutWidth 0 0 (fine (sec 1)) 0 0 0 0 maskedWidthChange rfl (by decide +kernel)
    (by decide +kernel) (by decide +kernel)).of_next e
  exact absurd (kept.symm.trans merged) (by decide +kernel)

end

section
/-! A write to the selection control of Kiln while one of its fields stands at more than it holds (O48). -/

set_option autoImplicit false

namespace Sys2Proof.Machine

/-- A device in reset values but for the 6-bit field MANUAL of the selection control, which stands at 64. -/
def wideManual : State := { rv := [(Fld.KILN_SEL_CTL_MANUAL.at 0, 64)] }

/-- The write with an empty mask is allowed there. -/
theorem wideManual_writes : (wideManual.start 0).writes (.core 0) .KILN_SEL_CTL 0 false 0 0 := by
  decide +kernel

/-- KILN_SEL_CTL lies in no island with an external clock. -/
theorem island_kilnSelCtl (i : Nat) : Reg.island .KILN_SEL_CTL i = none :=
  ite_self none

/-- A write of KILN_SEL_CTL takes effect at once, and the selection is evaluated (10_kiln R486). -/
theorem State.putWord_kilnSelCtl (s : State) (m : Master) (at_ : Option Nat) (i v mask : Nat) :
    s.putWord m at_ ⟨.KILN_SEL_CTL, i, false, v, mask⟩ =
      (.ok, ((s.setHeld s.held).putPlain at_ ⟨.KILN_SEL_CTL, i, v, mask⟩).refSelect true) :=
  State.putItem_of_island_none _ _ _ (island_kilnSelCtl i)

/-- No candidate is qualified, so the write changes nothing of the state it meets. -/
theorem wideManual_regWrite :
    (wideManual.start 0).regWrite (.core 0) ((wideManual.start 0).isSafety (.core 0)) none [wordOf .KILN_SEL_CTL 0 false 0 0] =
      (.ok, 0, wideManual.start 0) := by
  rw [State.regWrite, State.putItems_word _ _ _ _ _ _ _ .KILN_SEL_CTL 0 false (wideManual.start 0) rfl wideManual_writes.2
    (by rw [State.putWord_kilnSelCtl]; rfl)]
  rfl

/-- So MANUAL stands at 64 after it. -/
theorem wideManual_selCtlWrite : ∃ t, exec (.selCtlWrite 0 (.core 0) 0 0) wideManual = .next t ∧
    t.rd Fld.KILN_SEL_CTL_MANUAL 0 = 64 := by
  refine ⟨_, exec_registerWrite_of_regWrite (a := .named .KILN_SEL_CTL 0 false) rfl wideManual_regWrite, ?_⟩
  decide +kernel

end Sys2Proof.Machine

open Sys2Proof Sys2Proof.Machine

/-- Refutes O48, by its first clause: it asks that every plain field of the selection control reads `merge … % 2 ^ width` after the
write, but a field that the mask does not reach keeps what it stood at, and no hypothesis bounds that by the field's width. -/
theorem not_regsTime : ¬ Obligations.RegsTime := by
  unfold Obligations.RegsTime
  intro h
  obtain ⟨selCtl, -⟩ := h
  obtain ⟨t, e, kept⟩ := wideManual_selCtlWrite
  obtain ⟨merged, -⟩ := (selCtl wideManual 0 (.core 0) 0 0 Fld.KILN_SEL_CTL_MANUAL rfl wideManual_writes (by decide)).of_next e
  exact absurd (kept.symm.trans merged) (by decide +kernel)

end
